-- ==== Sys2Proof/Word.lean ====
section
/-! DEFINITION. The word types of the VXB128 model: register words, message fields and line data. -/

namespace Sys2Proof

/-- A 32-bit register word (R6). -/
abbrev Word := BitVec 32

/-- A byte of the store or of an image. -/
abbrev Byte := BitVec 8

/-- A management-space offset: the space is 256 MiB (R46). -/
abbrev Offset := BitVec 28

/-- The 64 bytes of one line. -/
abbrev LineData := BitVec 512

/-- An agent ID (R24). 0x3FF is the empty marker. -/
abbrev Agent := BitVec 10

/-- A line address, A[45:6] (R100). -/
abbrev LAddr := BitVec 40

/-- A pool address below 64 TiB (R50). -/
abbrev PoolAddr := BitVec 46

/-- The 32-bit handle of a structure transaction (R446). -/
abbrev Handle := BitVec 32

end Sys2Proof
end

