-- ==== Sys2Proof/Syntax.lean ====
section
/-! DEFINITION. The commands of the VXB128: one constructor of `Instr` per row of the spec's table of
operations and events, with the operands that the spec gives that step. Unit numbers are `Fin`, message
fields are bit vectors of the widths of R100, R294, R295 and R466. -/

namespace Sys2Proof

/-- Fabric initiator codes (R322). -/
inductive FabInit where
  | keeper | endpoint | smbus | debug
deriving DecidableEq, Repr

/-- MetaValue of a host's CXL.mem request (R102). -/
inductive MetaVal where
  | S | A | I
deriving DecidableEq, Repr

/-- The 128-bit header of REQ, RSP and SNP messages, field by field (R100). The opcode is the command's
own name. A field that a message does not use is zero. -/
structure Hdr where
  src : Agent := 0x3FF
  tgt : Agent := 0x3FF
  htwin : Bool := false
  hslice : Fin 32 := 0
  htxn : Fin 256 := 0
  rtag : BitVec 10 := 0
  laddr : LAddr := 0
  dest : BitVec 8 := 0
  ddat : Bool := false
  dport : Fin 128 := 0
  bcast : Bool := false
  dirty : Bool := false
  wbPending : Bool := false
  poison : Bool := false
  fwd : Bool := false
  nodata : Bool := false
  status : BitVec 4 := 0
  /-- EPOCH0 of the twin-link slot that a forwarded request came in (R464); none for every other message. -/
  epoch0 : Option Bool := none
deriving DecidableEq, Repr

/-- The control and operand flits of an AtomicFar (R151). -/
structure AtomicOp where
  aop : BitVec 4
  size8 : Bool
  offset : BitVec 6
  opA : BitVec 64
  opB : BitVec 64
deriving DecidableEq, Repr

/-- The result flit of a far atomic (R151). -/
structure AtomicRes where
  old : BitVec 64 := 0
  success : Bool := false
  /-- The answer carries a result flit. -/
  present : Bool := false
deriving DecidableEq, Repr

/-- Binding states (R66). -/
inductive BindState where
  | unbound | offered | bound | releasing
deriving DecidableEq, Repr

/-- A range of pool addresses named by a pool-view mailbox command (R71, R72), in bytes. -/
structure Extent where
  start : Nat
  length : Nat
deriving DecidableEq, Repr

/-- ACT of a journal record (R471). -/
inductive JrnAct where
  | write | remove | reclaim | empty
deriving DecidableEq, Repr

/-- A journal record (R471). `owned` gives STATE for a write record. -/
structure JrnRec where
  act : JrnAct
  owned : Bool := false
  ovf : Bool := false
  ptr0 : Agent := 0x3FF
  ptr1 : Agent := 0x3FF
  ptr2 : Agent := 0x3FF
  tag : BitVec 22 := 0
  set : Fin 8192 := 0
  slice : Fin 32 := 0
  jseq : BitVec 16 := 0
deriving DecidableEq, Repr

/-- How a descriptor read ended (R220). -/
inductive FetchResult where
  | data (desc : BitVec 512)
  | unsupported
  | completerAbort
  | poisoned
deriving DecidableEq, Repr

/-- The SECDED outcome of an error-protected read (R82, R98, R238, R291). -/
inductive Ecc where
  | clean | corrected | uncorrectable
deriving DecidableEq, Repr

/-- Header fields of MigMark, MigUnmark and MigAdvance (R295). -/
structure MigMsg where
  slot : Fin 16
  w : Nat
  segment : BitVec 16
  coach : Agent
  pid : Bool
deriving DecidableEq, Repr

/-- KIND of a MigAck (R295). -/
inductive MigKind where
  | mark | unmark | advance
deriving DecidableEq, Repr

/-- Header fields and payload of the steal messages (R294). -/
structure StealMsg where
  thief : Agent
  owner : Agent := 0
  grant : Bool := false
  index : BitVec 16 := 0
  gen : BitVec 12 := 0
  first : Nat := 0
  count : Nat := 0
  entry : BitVec 12 := 0
  minimum : BitVec 4 := 0
  status : BitVec 8 := 0
  desc : BitVec 512 := 0
  result0 : BitVec 64 := 0
  result1 : BitVec 64 := 0
  errOffset : BitVec 32 := 0
deriving DecidableEq, Repr

/-- Causes of a faulty coach retirement (R202, COACH_FAULT). -/
inductive CoachCause where
  | cacheUncorrectable | pipelineParity | dequeParity | declaredLost
deriving DecidableEq, Repr

/-- Types of a packet (R240). -/
inductive PktType where
  | P | NP | CPL | U
deriving DecidableEq, Repr

/-- A destination of the crossbar: a port by its number or a coach house (R239). -/
inductive Dest where
  | port (p : Fin 128)
  | house (n : Fin 16)
deriving DecidableEq, Repr

/-- A packet received whole from a link (R246), with what its checks compare (R321): `length` is the number of bytes
that a memory request addresses. `hdrCredits` and `dataCredits` are the link credits it used (R253). `ecc` is what
the SECDED of its cells finds in its header when it is read out (R238). -/
structure RxPacket where
  port : Fin 128
  vc : Fin 8
  typ : PktType
  bytes : Nat
  dest : Dest
  memory : Bool := false
  write : Bool := false
  atomic : Bool := false
  addr : BitVec 64 := 0
  length : Nat := 4
  requester : BitVec 16 := 0
  tag : BitVec 14 := 0
  hdrCredits : Nat := 1
  dataCredits : Nat := 0
  poison : Bool := false
  ecc : Ecc := .clean
deriving DecidableEq, Repr

/-- Link credits of a standard link: for headers and for data. -/
structure LinkCredits where
  hdr : Nat
  data : Nat
deriving DecidableEq, Repr

/-- A leak or an inconsistency that a sweep of the free-list auditor finds (R269, R270). -/
inductive AuditFinding where
  | heldLeak (j : Fin 9) (c : Fin 4) (cell : Fin 32768) (shared : Bool)
  | freeLeak (cell : Fin 32768)
  | corrupt
deriving DecidableEq, Repr

/-- The four networks (R276). -/
inductive Net where
  | req | rsp | snp | dat
deriving DecidableEq, Repr

/-- Header fields of KprAcc (R296). -/
structure KprAcc where
  wr : Bool
  init : FabInit
  ktag : BitVec 8
  offset : Offset
  data : Word := 0
deriving DecidableEq, Repr

/-- Header fields of KprRsp (R296). -/
structure KprRsp where
  ktag : BitVec 8
  err : Bool
  data : Word
deriving DecidableEq, Repr

/-- An own-protocol owner of spare lanes: the spare of a port block, or the twin link (R364). -/
inductive SpareOwner where
  | block (b : Fin 32)
  | twin
deriving DecidableEq, Repr

/-- A link: a port by its number, or the twin link. -/
inductive LinkId where
  | port (p : Fin 128)
  | twin
deriving DecidableEq, Repr

/-- Why a lane of an own-protocol link is failing (R366). -/
inductive LaneWhy where
  | lockLost | margin | symbolErrors
deriving DecidableEq, Repr

/-- The fields of an own-protocol flit that its receiver acts on (R378). -/
structure Flit where
  vc : Fin 8 := 0
  sop : Bool := false
  eop : Bool := false
  len : BitVec 8 := 0
  ackSeq : BitVec 12 := 0
  crVc : Fin 8 := 0
  crCount : BitVec 7 := 0
  xseq : BitVec 12 := 0
  seq : BitVec 12 := 0
deriving DecidableEq, Repr

/-- What training of a link reached (PB_LINK_STATUS). -/
structure Trained where
  rate : BitVec 3
  width : BitVec 3
  flit : Bool
  cxlFlit : BitVec 2
  cxlMem : Bool
  bi : Bool
deriving DecidableEq, Repr

/-- A function of a host port by its function number under the port's routing IDs (R399): 0 is the pool
view, 1 the service function, 1 + n virtual function n. -/
abbrev FuncNo := Fin 257

/-- A PCIe access to a BAR: 8 bytes at most, `write` carrying its data. -/
structure BarAccess where
  port : Fin 128
  func : FuncNo
  bar : Fin 6
  off : Nat
  size : Nat
  write : Option (BitVec 64)
deriving DecidableEq, Repr

/-- A memory TLP to BAR 4 of a function (R411, R413). -/
structure PeerTlp where
  port : Fin 128
  func : FuncNo
  off : Nat
  bytes : Nat
  tag : BitVec 14 := 0
deriving DecidableEq, Repr

/-- AtomicOps of the peer window (R413). -/
inductive PeerOp where
  | fetchAdd | swap | cas
deriving DecidableEq, Repr

/-- The two feeds of a slot channel (R498). -/
inductive Feed where
  | A | B
deriving DecidableEq, Repr

/-- How a store program or a self-authored image write ended (R460, R532, R533). -/
inductive StoreEnd where
  | done | supplyLow | storeError
deriving DecidableEq, Repr

/-- The two beacon paths (R465). -/
inductive BeaconPath where
  | link | wire
deriving DecidableEq, Repr

/-- The pair states (R468). -/
inductive PairState where
  | starting | joining | paired | alone | stoodDown | handing
deriving DecidableEq, Repr

/-- A good beacon (R465). -/
structure Beacon where
  pid : Bool
  state : PairState
  bseq : BitVec 8
  regions : BitVec 16
  epoch : BitVec 32
  pairTag : BitVec 32
deriving DecidableEq, Repr

/-- The takeover causes (R480). -/
inductive TakeoverCause where
  | pathsLost | handoverDone | partnerStoodDown
deriving DecidableEq, Repr

/-- The units that a management parent fences (R30). -/
inductive FenceUnit where
  | cell (c : Fin 128)
  | coach (k : Fin 256)
  | slice (s : Fin 32)
  | region (n : Fin 16)
deriving DecidableEq, Repr

/-- The state elements whose parity or double-bit errors are reset sources 11 to 16 (R522). -/
inductive ParitySource where
  | rstc | clkc | fuse | epoch | segmap | route
deriving DecidableEq, Repr

/-- The reset levels (R519). -/
inductive Level where
  | cell | block | region | chip | package
deriving DecidableEq, Repr

/-- The commands of the VXB128, in the order of the spec's table of operations and events. -/
inductive Instr where
  | registerWrite (init : FabInit) (off : Offset) (val : Word)
  | mgmtEndpointAccess (off : Offset) (width : Nat) (write : Option (BitVec 64))
  | wideRegisterLowRead (init : FabInit) (off : Offset)
  | counterClearWrite (init : FabInit) (off : Offset) (val : Word)
  | debugAccess (off : Offset) (write : Option Word)
  | smbusWriteRegister (off : BitVec 32) (val : Word) (pecOk : Bool)
  | smbusLatchOffset (off : BitVec 32) (pecOk : Bool)
  | smbusReadRegister
  | spiReadId
  | spiReadStatus
  | spiWriteEnable
  | spiRead (off : BitVec 32) (len : Nat)
  | spiProgram (off : BitVec 32) (data : List Byte)
  | spiErasePage (off : BitVec 32)
  | spiOperationDone (failed : Bool)
  | mgmtPerst
  | refclkLoss
  | refclkRestored
  | rootPllLockLoss
  | serdesPllLockLoss (ports : List (Fin 128)) (twin : Bool)
  | cellFence (u : FenceUnit)
  | cellUnfence (u : FenceUnit)
  | m2sMemrd (port : Fin 128) (mv : MetaVal) (addr : BitVec 64) (tag : BitVec 16)
  | m2sMemrddata (port : Fin 128) (addr : BitVec 64) (tag : BitVec 16)
  | m2sMeminv (port : Fin 128) (nt : Bool) (mv : MetaVal) (addr : BitVec 64) (tag : BitVec 16)
  | m2sMemspecrd (port : Fin 128) (addr : BitVec 64) (tag : BitVec 16)
  | m2sMemclnevct (port : Fin 128) (addr : BitVec 64) (tag : BitVec 16)
  | m2sMemwr (port : Fin 128) (addr : BitVec 64) (tag : BitVec 16) (data : LineData) (poison : Bool)
  | m2sMemwrptl (port : Fin 128) (addr : BitVec 64) (tag : BitVec 16) (data : LineData) (mask : BitVec 64)
      (poison : Bool)
  | m2sBirsp (port : Fin 128) (toShared : Bool) (tag : BitVec 16)
  | m2sBiconflict (port : Fin 128) (addr : BitVec 64) (tag : BitVec 16)
  | tagLineFill (region : Fin 16) (line : LAddr) (data : LineData) (ecc : Ecc)
  | tagInvalidate (region : Fin 16)
  | tagInvalidateDone (region : Fin 16)
  | getDynamicCapacityConfiguration (port : Fin 128)
  | getDynamicCapacityExtentList (port : Fin 128) (first : Nat) (count : Nat)
  | addDynamicCapacityResponse (port : Fin 128) (extents : List Extent)
  | releaseDynamicCapacity (port : Fin 128) (extents : List Extent)
  | getEventRecords (port : Fin 128)
  | clearEventRecords (port : Fin 128) (handles : Option (List Nat))
  | purgeSweepDone (port : Fin 128)
  | bind (port : Fin 128) (st : BindState) (seg : BitVec 16)
  | bindAck (port : Fin 128) (st : BindState) (seg : BitVec 16)
  | colourInitStart
  | colourInitDone
  | rdshared (slice : Fin 32) (q : Fin 5) (m : Hdr) (ecc : Ecc := .clean)
  | rdown (slice : Fin 32) (q : Fin 5) (m : Hdr) (ecc : Ecc := .clean)
  | upgrade (slice : Fin 32) (q : Fin 5) (m : Hdr) (ecc : Ecc := .clean)
  | rdcur (slice : Fin 32) (q : Fin 5) (m : Hdr) (ecc : Ecc := .clean)
  | wrline (slice : Fin 32) (q : Fin 5) (m : Hdr) (ecc : Ecc := .clean)
  | wrpart (slice : Fin 32) (q : Fin 5) (m : Hdr) (ecc : Ecc := .clean)
  | wbdirty (slice : Fin 32) (q : Fin 5) (m : Hdr) (ecc : Ecc := .clean)
  | evict (slice : Fin 32) (q : Fin 5) (m : Hdr) (ecc : Ecc := .clean)
  | atomicfar (slice : Fin 32) (q : Fin 5) (m : Hdr) (a : AtomicOp) (ecc : Ecc := .clean)
  | memrd (m : Hdr)
  | memrdIssue (port : Fin 128)
  | expanderReadData (port : Fin 128) (tag : BitVec 14) (data : LineData) (poison : Bool) (linkGen : BitVec 8)
  | expanderWriteCompletion (port : Fin 128) (tag : BitVec 14) (linkGen : BitVec 8)
  | cmps (m : Hdr)
  | cmpo (m : Hdr)
  | cmp (m : Hdr) (res : AtomicRes)
  | err (m : Hdr)
  | datago (m : Hdr)
  | wbdata (m : Hdr) (data : LineData) (mask : BitVec 64)
  | fill (m : Hdr) (data : LineData)
  | memcmp (m : Hdr)
  | backinv (m : Hdr)
  | backdown (m : Hdr)
  | backinvBroadcast (region : Fin 16) (m : Hdr)
  | biack (m : Hdr)
  | biackagg (region : Fin 16) (pid : Bool) (m : Hdr)
  | broadcastAggTimeout (region : Fin 16) (m : Hdr)
  | ack (m : Hdr)
  | journalBatchTimeout (slice : Fin 32)
  | jrnbatch (slice : Fin 32) (recs : List JrnRec)
  | jrnack (slice : Fin 32) (ackJseq : BitVec 16)
  | homeTimeout (slice : Fin 32) (txn : Fin 256)
  | journalStall (slice : Fin 32) (txn : Fin 256)
  | requestTimeout (agent : Agent) (rtag : BitVec 10)
  | memrdTimeout (port : Fin 128) (tag : BitVec 14)
  | deviceWriteTimeout (port : Fin 128)
  | lossNotice (slice : Fin 32) (agent : Agent)
  | purgeScanDone (slice : Fin 32)
  | dirPurge (slice : Fin 32) (val : Word)
  | decayWalk (slice : Fin 32)
  | dirAtomCfgWrite (slice : Fin 32) (val : Word)
  | dirDrain (slice : Fin 32) (on : Bool)
  | sliceReset (slice : Fin 32)
  | bankReset (slice : Fin 32) (banks : BitVec 4)
  | sliceResetDone (slice : Fin 32) (pass : Bool)
  | dirPeek (slice : Fin 32) (set : Fin 8192) (way : Fin 16)
  | doorbell (port : Fin 128) (func : FuncNo) (off : Nat) (size : Nat) (val : BitVec 64)
  | descriptorFetchDone (chan : BitVec 16) (gen : BitVec 12) (entry : BitVec 12) (r : FetchResult)
  | dmaReadTimeout (chan : BitVec 16) (gen : BitVec 12) (entry : BitVec 12)
  | coachTakeUnit (coach : Fin 256)
  | stealreq (house : Fin 16) (m : StealMsg)
  | stealrep (m : StealMsg)
  | unitend (m : StealMsg)
  | landingGrant (coach : Fin 256) (pipe : Fin 2)
  | recordWrite (chan : BitVec 16)
  | migmark (region : Fin 16) (m : MigMsg)
  | migadvance (region : Fin 16) (m : MigMsg)
  | migunmark (region : Fin 16) (m : MigMsg)
  | migack (slot : Fin 16) (kind : MigKind) (region : Fin 16) (pid : Bool)
  | migStepTimeout (slot : Fin 16)
  | taginv (region : Fin 16) (house : Fin 16) (pid : Bool) (line : LAddr)
  | tagack (house : Fin 16) (line : LAddr) (region : Fin 16) (pid : Bool)
  | coachFault (coach : Fin 256) (cause : CoachCause)
  | coachRetire (coach : Fin 256)
  | coachRetireDone (coach : Fin 256)
  | coachReset (coach : Fin 256)
  | coachSelfTestDone (coach : Fin 256) (pass : Bool)
  | coachReinstate (coach : Fin 256)
  | chanCreate
  | chanDestroy
  | chanReset
  | chanRehome
  | chCtrlReset (chan : BitVec 16)
  | chCtrlAbort (chan : BitVec 16) (index : BitVec 12)
  | packetReceived (p : RxPacket)
  | holdListRelease (region : Fin 16) (meter : Fin 1024)
  | flowTagRefresh (region : Fin 16) (j : Fin 9) (c : Fin 4)
  | auditSweepStart (region : Fin 16)
  | auditSweepEnd (region : Fin 16) (found : List AuditFinding)
  | routerFlitArrival (router : Fin 18) (net : Net) (init : Fin 98) (dest : Fin 98) (seq : BitVec 8)
      (credited : Bool) (hdrEcc : Ecc) (payload : Ecc)
  | creditret (endpoint : Fin 98) (net : Net) (src : Fin 98) (count : BitVec 3) (latMax : BitVec 16)
      (latSum : BitVec 18)
  | drainmark (endpoint : Fin 98) (net : Net) (init : Fin 98)
  | drainecho (endpoint : Fin 98) (net : Net) (node : Fin 18)
  | reservationExpiry (endpoint : Fin 98) (rtag : BitVec 10)
  | regulatedInjection (init : Fin 98) (net : Net)
  | routerParityError (router : Fin 18)
  | kpracc (m : KprAcc)
  | kprrsp (m : KprRsp)
  | laneFailing (lane : Fin 562) (why : LaneWhy)
  | spareSubst (o : SpareOwner) (lane : BitVec 5)
  | spareRestore (o : SpareOwner) (lane : BitVec 5)
  | spareFailure (o : SpareOwner) (second : Bool)
  | lanePowerForce (lane : Fin 562) (val : Word)
  | loopbackModeWrite (lane : Fin 562) (val : Word)
  | dataFlit (l : LinkId) (f : Flit)
  | flitCrcFail (l : LinkId)
  | ackFlit (l : LinkId) (f : Flit)
  | nak (l : LinkId) (f : Flit)
  | replay (l : LinkId) (f : Flit)
  | compFlit (l : LinkId)
  | ackIdleExpiry (l : LinkId)
  | nakResendTimeout (l : LinkId)
  | replayTimeout (l : LinkId)
  | recoveryTimeout (l : LinkId)
  | linkTrained (l : LinkId) (t : Trained)
  | linkRetrain (l : LinkId)
  | linkDown (port : Fin 128)
  | spareReq (o : SpareOwner) (lane : BitVec 5) (second : Bool)
  | spareAck (o : SpareOwner) (lane : BitVec 5) (second : Bool)
  | spareNak (o : SpareOwner) (lane : BitVec 5) (second : Bool)
  | spareDone (o : SpareOwner) (lane : BitVec 5) (second : Bool)
  | spareReqResend (o : SpareOwner) (second : Bool)
  | spareAligned (o : SpareOwner) (second : Bool)
  | restoreReq (o : SpareOwner) (lane : BitVec 5) (second : Bool)
  | restoreAck (o : SpareOwner) (lane : BitVec 5) (second : Bool)
  | configRequest (port : Fin 128) (func : FuncNo) (off : BitVec 12) (write : Option Word)
  | vfEnableClear (port : Fin 128)
  | busMasterEnableSet (port : Fin 128) (func : FuncNo)
  | powerStateWrite (port : Fin 128) (func : FuncNo) (d3 : Bool)
  | msixUnmask (port : Fin 128) (func : FuncNo) (vector : BitVec 11)
  | flr (port : Fin 128) (func : FuncNo)
  | flrPeerDrained (port : Fin 128) (func : FuncNo)
  | bar0Access (a : BarAccess)
  | peerRead (t : PeerTlp)
  | peerWrite (t : PeerTlp) (data : List Byte)
  | peerAtomic (t : PeerTlp) (op : PeerOp) (opA : BitVec 64) (opB : BitVec 64)
  | slotPowerOn (port : Fin 128)
  | slotPowerOff (port : Fin 128)
  | slotIndicator (port : Fin 128) (pic : BitVec 2) (aic : BitVec 2)
  | slotCommandCompleted (port : Fin 128)
  | boardInserted (chan : Fin 32)
  | presenceLost (chan : Fin 32)
  | fastTrip (chan : Fin 32)
  | circuitBreakerExpiry (chan : Fin 32)
  | rampTimeout (chan : Fin 32)
  | powerGoodAssert (chan : Fin 32)
  | powerGoodLoss (chan : Fin 32) (high : Bool)
  | perstDlyExpiry (chan : Fin 32)
  | feedGood (chan : Fin 32) (f : Feed)
  | feedLost (chan : Fin 32) (f : Feed)
  | reverseCurrent (chan : Fin 32)
  | breakElapsed (chan : Fin 32)
  | feedReturnExpiry (chan : Fin 32)
  | retryElapsed (chan : Fin 32)
  | sidebandScan (buttons : BitVec 32) (check : BitVec 16)
  | txnBegin (init : FabInit)
  | txnJoin (init : FabInit)
  | txnCommit (init : FabInit)
  | txnRollback (init : FabInit)
  | txnPersist (init : FabInit)
  | persistDone (e : StoreEnd)
  | structuralWrite (init : FabInit) (off : Offset) (val : Word)
  | shadowWr (handle : Handle) (off : Offset) (val : Word)
  | shadowAck (handle : Handle) (off : Offset)
  | txnIdleTimeout
  | prepare (handle : Handle) (epoch : BitVec 32)
  | epochDrainDone
  | prepared (handle : Handle)
  | refused (handle : Handle) (off : BitVec 32) (item : BitVec 4) (code : BitVec 8)
  | switch (handle : Handle) (epoch : BitVec 32)
  | switched (handle : Handle)
  | switchedTimeout
  | abort (handle : Handle)
  | imgLoad (slot : Bool) (page : BitVec 10)
  | imgLoadDone (e : StoreEnd)
  | beaconSend
  | beacon (path : BeaconPath) (b : Beacon)
  | beaconWindowMiss (path : BeaconPath)
  | takeover (cause : TakeoverCause)
  | takeoverQuietEnd
  | takeoverComplete
  | recoverySweepDone (seg : BitVec 16)
  | handoverWrite
  | handover
  | handoverDrained
  | handoverDone
  | joinWaitExpiry
  | directorySliceRepair (slice : Fin 32)
  | homing (slice : Fin 32) (handOver : Bool)
  | homingDone (slice : Fin 32) (handOver : Bool)
  | syncDone (slice : Fin 32)
  | setrecall (region : Fin 16) (slice : Fin 32) (set : Fin 8192)
  | evtfwd (event : Fin 512) (pid : Bool)
  | evtPendClear (w : Fin 16) (val : Word)
  | troubleJournalPeriod
  | perfSnapEnable (val : Word)
  | snapshotCapture
  | snapshotRecordDone
  | resetPin (lowNs : Nat) (honour : Bool)
  | twinRstIn (lowNs : Nat) (honour : Bool)
  | rstTwinOrder
  | rstSw (level : BitVec 3) (target : BitVec 7)
  | keeperWatchdogRestart
  | keeperWatchdogReset
  | stateParityError (p : ParitySource)
  | fabricSupplyFault
  | keeperSupplyFault
  | thermal (region : Fin 16) (degrees : BitVec 8)
  | portPerstAssert (port : Fin 128)
  | portPerstDeassert (port : Fin 128)
  | debugReset
  | powerOnRelease (pairIdHigh : Bool) (storeSpiLow : Bool)
  | resetRelease
  | supplyTroubleStart (auxMv : BitVec 16) (pfail : Bool)
  | supplyTroubleEnd (auxMv : BitVec 16)
  | rstOtpProgram (source : BitVec 5) (level : BitVec 3)
  | rstOtpDone (ok : Bool)
  | keeperBoot
  | regionSelfTestDone (failed : BitVec 16) (chipUnitFailed : Bool)
  | structureLoad
  | slotGroupPower (g : Fin 8)
  | fabricReady
  | crossbarCellTime
  | flowControlUpdate (port : Fin 128) (c : Fin 4) (typ : PktType) (credits : LinkCredits)
  | standardLinkRecovery (port : Fin 128) (returned : Bool)
  | checkerLock (lane : Fin 562)
  | presenceDebounced (chan : Fin 32)
  | flrComplete (port : Fin 128) (func : FuncNo)
  | fabricPowerGood
  | devicePortTrainTimeout (port : Fin 128)
  | retryStatusTimeout (port : Fin 128)
  | troubleJournalWriteDone (ok : Bool)
  | perfCounterOverflow (k : Fin 320)
deriving DecidableEq, Repr

end Sys2Proof
end

