-- ==== Sys2Proof/Config.lean ====
section
/-! DEFINITION. What one device fixes for itself, and the values that the spec leaves open. Nothing here has a
body that a proof could use, but for the constants whose rule gives them. -/

namespace Sys2Proof.Config

/-- Steppings of RST_CHIP_ID and the serial number of RST_CHIP_SERIAL, from the fuses. -/
opaque stepMajor : BitVec 4
opaque stepMinor : BitVec 4
opaque serial : BitVec 64

/-- The store's bytes as this device was delivered: the model's store lists only what it has written since.
An erased byte reads 0xFF (assumption 6). -/
def erased : Byte := 0xFF

/-- The root of trust's verdict on an image's key and signature (R438, R442): the SIGNER and KEY_SLOT of its
header, its signature block and the image bytes before it. -/
opaque signatureOk : BitVec 8 → BitVec 8 → List Byte → List Byte → Bool

/-- The root of trust's verdict on a code envelope (R440). -/
opaque envelopeOk : List Byte → Bool

/-- The security version that a code envelope carries (R440). -/
opaque envelopeSvn : List Byte → BitVec 16

/-- The 256-byte signature block that the device key gives an image (R437, R459). -/
opaque deviceSignature : List Byte → List Byte

/-- A value that the spec does not state, fresh at each use: the argument is the State's counter of uses. -/
opaque freeWord : Nat → BitVec 64

/-- Bytes that the spec does not state, fresh at each use: byte `i` of use `n`. -/
opaque freeByte : Nat → Nat → Byte

/-- Configuration words whose value neither the spec's tables nor the model's layout gives: by port, function
and word. -/
opaque cfgWord : Nat → Nat → Nat → Word

end Sys2Proof.Config
end

