-- ==== Sys2Proof/Machine/RegNames.lean ====
section
/-! DEFINITION. Offsets of the registers by name: the first index is the unit number of R22 (a block, slice,
cell, coach or channel index), as the tables of the spec place them (R47, R214).
The words that units write of themselves reduce their index to the size of their array, so that a name is always one of
the array's words. -/

namespace Sys2Proof.Machine

/-- RGN_ARB_WEIGHT (01_architecture.md, after R27). -/
def R.RGN_ARB_WEIGHT (i : Nat) (j : Nat) : Nat := 0x8000100 + i * 0x400000 + j * 0x4
/-- RST_CHIP_ID (01_architecture.md, after R48). -/
def R.RST_CHIP_ID : Nat := 0x0
/-- RST_CHIP_SERIAL (01_architecture.md, after R48). -/
def R.RST_CHIP_SERIAL : Nat := 0x8
/-- RST_CLK_STATUS (01_architecture.md, after R48). -/
def R.RST_CLK_STATUS : Nat := 0x100
/-- RST_CLK_LOSS_CNT (01_architecture.md, after R48). -/
def R.RST_CLK_LOSS_CNT : Nat := 0x104
/-- RST_CNT_CLEAR (01_architecture.md, after R48). -/
def R.RST_CNT_CLEAR : Nat := 0x1FC
/-- RST_TIME (01_architecture.md, after R48). -/
def R.RST_TIME : Nat := 0x200
/-- SEG_ENTRY_W0 (02_memory_pools.md, after R58). -/
def R.SEG_ENTRY_W0 (i : Nat) : Nat := 0xF000000 + i * 0x10
/-- SEG_ENTRY_W1 (02_memory_pools.md, after R58). -/
def R.SEG_ENTRY_W1 (i : Nat) : Nat := 0xF000004 + i * 0x10
/-- SEG_ENTRY_W2 (02_memory_pools.md, after R58). -/
def R.SEG_ENTRY_W2 (i : Nat) : Nat := 0xF000008 + i * 0x10
/-- SEG_SHARE_W (02_memory_pools.md, after R62). -/
def R.SEG_SHARE_W (i : Nat) (j : Nat) : Nat := 0xF100000 + i * 0x80 + j * 0x4
/-- SEG_BIND (02_memory_pools.md, after R66). -/
def R.SEG_BIND (i : Nat) (j : Nat) : Nat := 0xF200000 + i * 0x4000 + j * 0x4
/-- SEG_CARVE_MAP (02_memory_pools.md, after R77). -/
def R.SEG_CARVE_MAP (i : Nat) : Nat := 0xF800000 + i * 0x4
/-- RGN_TAG_CTRL (02_memory_pools.md, after R83). -/
def R.RGN_TAG_CTRL (i : Nat) : Nat := 0x8280000 + i * 0x400000
/-- RGN_TAG_STATUS (02_memory_pools.md, after R83). -/
def R.RGN_TAG_STATUS (i : Nat) : Nat := 0x8280004 + i * 0x400000
/-- RGN_TAG_ECC_CNT (02_memory_pools.md, after R83). -/
def R.RGN_TAG_ECC_CNT (i : Nat) : Nat := 0x8280010 + i % 16 * 0x400000
/-- RGN_TAG_CNT_CLEAR (02_memory_pools.md, after R83). -/
def R.RGN_TAG_CNT_CLEAR (i : Nat) : Nat := 0x82801FC + i * 0x400000
/-- SEG_UNBOUND_CNT (02_memory_pools.md, after R84). -/
def R.SEG_UNBOUND_CNT : Nat := 0xF800100
/-- SEG_TAG_ERR_CNT (02_memory_pools.md, after R84). -/
def R.SEG_TAG_ERR_CNT : Nat := 0xF800104
/-- SEG_DC_REJECT_CNT (02_memory_pools.md, after R84). -/
def R.SEG_DC_REJECT_CNT : Nat := 0xF800108
/-- SEG_CNT_CLEAR (02_memory_pools.md, after R84). -/
def R.SEG_CNT_CLEAR : Nat := 0xF8001FC
/-- DIR_PEEK_DATA (03_coherence_directory.md, after R92). -/
def R.DIR_PEEK_DATA (u : Nat) : Nat := 0x8180018 + u / 2 * 0x400000 + u % 2 * 0x40000
/-- DIR_CTRL (03_coherence_directory.md, after R122). -/
def R.DIR_CTRL (u : Nat) : Nat := 0x8180000 + u / 2 % 16 * 0x400000 + u % 2 * 0x40000
/-- DIR_STATUS (03_coherence_directory.md, after R123). -/
def R.DIR_STATUS (u : Nat) : Nat := 0x8180004 + u / 2 % 16 * 0x400000 + u % 2 * 0x40000
/-- DIR_PEEK_SEL (03_coherence_directory.md, after R123). -/
def R.DIR_PEEK_SEL (u : Nat) : Nat := 0x8180010 + u / 2 * 0x400000 + u % 2 * 0x40000
/-- DIR_ECC_CNT (03_coherence_directory.md, after R123). -/
def R.DIR_ECC_CNT (u : Nat) : Nat := 0x8180100 + u / 2 % 16 * 0x400000 + u % 2 * 0x40000
/-- DIR_UNCORR_CNT (03_coherence_directory.md, after R123). -/
def R.DIR_UNCORR_CNT (u : Nat) : Nat := 0x8180104 + u / 2 % 16 * 0x400000 + u % 2 * 0x40000
/-- DIR_CNT_CLEAR (03_coherence_directory.md, after R123). -/
def R.DIR_CNT_CLEAR (u : Nat) : Nat := 0x81801FC + u / 2 * 0x400000 + u % 2 * 0x40000
/-- DIR_ATOM_CFG (04_coherence_races.md, after R158). -/
def R.DIR_ATOM_CFG (u : Nat) : Nat := 0x8180020 + u / 2 * 0x400000 + u % 2 * 0x40000
/-- DIR_WAIT_STATUS (04_coherence_races.md, after R158). -/
def R.DIR_WAIT_STATUS (u : Nat) : Nat := 0x8180024 + u / 2 * 0x400000 + u % 2 * 0x40000
/-- DIR_LOST_STATUS (04_coherence_races.md, after R158). -/
def R.DIR_LOST_STATUS (u : Nat) : Nat := 0x8180028 + u / 2 % 16 * 0x400000 + u % 2 * 0x40000
/-- DIR_PURGE (04_coherence_races.md, after R158). -/
def R.DIR_PURGE (u : Nat) : Nat := 0x8180030 + u / 2 * 0x400000 + u % 2 * 0x40000
/-- DIR_TMO_LAST (04_coherence_races.md, after R158). -/
def R.DIR_TMO_LAST (u : Nat) : Nat := 0x8180040 + u / 2 % 16 * 0x400000 + u % 2 * 0x40000
/-- DIR_TMO_CNT (04_coherence_races.md, after R158). -/
def R.DIR_TMO_CNT (u : Nat) : Nat := 0x8180200 + u / 2 % 16 * 0x400000 + u % 2 * 0x40000
/-- DIR_LATE_CNT (04_coherence_races.md, after R158). -/
def R.DIR_LATE_CNT (u : Nat) : Nat := 0x8180204 + u / 2 % 16 * 0x400000 + u % 2 * 0x40000
/-- DIR_POISON_CNT (04_coherence_races.md, after R158). -/
def R.DIR_POISON_CNT (u : Nat) : Nat := 0x8180208 + u / 2 % 16 * 0x400000 + u % 2 * 0x40000
/-- DIR_PARK_CNT (04_coherence_races.md, after R158). -/
def R.DIR_PARK_CNT (u : Nat) : Nat := 0x818020C + u / 2 % 16 * 0x400000 + u % 2 * 0x40000
/-- DIR_JSTALL_CNT (04_coherence_races.md, after R158). -/
def R.DIR_JSTALL_CNT (u : Nat) : Nat := 0x8180210 + u / 2 % 16 * 0x400000 + u % 2 * 0x40000
/-- DIR_FAIL_CNT_CLEAR (04_coherence_races.md, after R158). -/
def R.DIR_FAIL_CNT_CLEAR (u : Nat) : Nat := 0x81802FC + u / 2 * 0x400000 + u % 2 * 0x40000
/-- COACH_HOUSE_CTRL (05_coaches.md, after R206). -/
def R.COACH_HOUSE_CTRL (i : Nat) : Nat := 0x8100000 + i * 0x400000
/-- COACH_HOUSE_STATUS (05_coaches.md, after R206). -/
def R.COACH_HOUSE_STATUS (i : Nat) : Nat := 0x8100004 + i * 0x400000
/-- COACH_MIG_SLOT (05_coaches.md, after R206). -/
def R.COACH_MIG_SLOT (i : Nat) (j : Nat) : Nat := 0x8100100 + i * 0x400000 + j * 0x8
/-- COACH_CTRL (05_coaches.md, after R206). -/
def R.COACH_CTRL (u : Nat) : Nat := 0x8101000 + u / 16 * 0x400000 + u % 16 * 0x100
/-- COACH_STATUS (05_coaches.md, after R206). -/
def R.COACH_STATUS (u : Nat) : Nat := 0x8101004 + u / 16 * 0x400000 + u % 16 * 0x100
/-- COACH_FAULT (05_coaches.md, after R206). -/
def R.COACH_FAULT (u : Nat) : Nat := 0x8101008 + u / 16 * 0x400000 + u % 16 * 0x100
/-- COACH_UNIT_ERR_CNT (05_coaches.md, after R206). -/
def R.COACH_UNIT_ERR_CNT (u : Nat) : Nat := 0x8101080 + u / 16 % 16 * 0x400000 + u % 16 * 0x100
/-- COACH_LATE_CNT (05_coaches.md, after R206). -/
def R.COACH_LATE_CNT (u : Nat) : Nat := 0x8101084 + u / 16 % 16 * 0x400000 + u % 16 * 0x100
/-- COACH_CACHE_ECC_CNT (05_coaches.md, after R206). -/
def R.COACH_CACHE_ECC_CNT (u : Nat) : Nat := 0x8101088 + u / 16 % 16 * 0x400000 + u % 16 * 0x100
/-- COACH_CNT_CLEAR (05_coaches.md, after R206). -/
def R.COACH_CNT_CLEAR (u : Nat) : Nat := 0x81010FC + u / 16 * 0x400000 + u % 16 * 0x100
/-- STX_TENANT_W0 (06_channels.md, after R210). -/
def R.STX_TENANT_W0 (i : Nat) : Nat := 0x3100000 + i * 0x10
/-- STX_TENANT_W1 (06_channels.md, after R210). -/
def R.STX_TENANT_W1 (i : Nat) : Nat := 0x3100004 + i * 0x10
/-- STX_TENANT_W2 (06_channels.md, after R210). -/
def R.STX_TENANT_W2 (i : Nat) : Nat := 0x3100008 + i * 0x10
/-- STX_TENANT_STAT (06_channels.md, after R210). -/
def R.STX_TENANT_STAT (i : Nat) : Nat := 0x3200000 + i % 4096 * 0x4
/-- STX_TENANT_CNT_CLEAR (06_channels.md, after R210). -/
def R.STX_TENANT_CNT_CLEAR : Nat := 0x3210000
/-- STX_CHAN_CMD (06_channels.md, after R214). -/
def R.STX_CHAN_CMD : Nat := 0x3000000
/-- STX_CHAN_STATUS (06_channels.md, after R214). -/
def R.STX_CHAN_STATUS : Nat := 0x3000004
/-- STX_CHAN_ARG0 (06_channels.md, after R214). -/
def R.STX_CHAN_ARG0 : Nat := 0x3000008
/-- STX_CHAN_ARG1 (06_channels.md, after R214). -/
def R.STX_CHAN_ARG1 : Nat := 0x300000C
/-- STX_CHAN_SQ_BASE (06_channels.md, after R214). -/
def R.STX_CHAN_SQ_BASE : Nat := 0x3000010
/-- STX_CHAN_CQ_BASE (06_channels.md, after R214). -/
def R.STX_CHAN_CQ_BASE : Nat := 0x3000018
/-- STX_CHAN_ARG2 (06_channels.md, after R214). -/
def R.STX_CHAN_ARG2 : Nat := 0x3000020
/-- STX_CHAN_HANDLE (06_channels.md, after R214). -/
def R.STX_CHAN_HANDLE : Nat := 0x3000024
/-- COACH_CH_HANDLE (06_channels.md, after R224). -/
def R.COACH_CH_HANDLE (u : Nat) : Nat := 0x8140000 + u / 4096 * 0x400000 + u % 4096 * 0x20
/-- COACH_CH_STATE (06_channels.md, after R224). -/
def R.COACH_CH_STATE (u : Nat) : Nat := 0x8140004 + u / 4096 * 0x400000 + u % 4096 * 0x20
/-- COACH_CH_RING (06_channels.md, after R224). -/
def R.COACH_CH_RING (u : Nat) : Nat := 0x8140008 + u / 4096 * 0x400000 + u % 4096 * 0x20
/-- COACH_CH_CTRL (06_channels.md, after R224). -/
def R.COACH_CH_CTRL (u : Nat) : Nat := 0x814000C + u / 4096 * 0x400000 + u % 4096 * 0x20
/-- COACH_CH_ABORT (06_channels.md, after R224). -/
def R.COACH_CH_ABORT (u : Nat) : Nat := 0x8140010 + u / 4096 * 0x400000 + u % 4096 * 0x20
/-- COACH_CH_CNT (06_channels.md, after R224). -/
def R.COACH_CH_CNT (u : Nat) : Nat := 0x8140014 + u / 4096 % 16 * 0x400000 + u % 4096 * 0x20
/-- COACH_CH_CFG (06_channels.md, after R224). -/
def R.COACH_CH_CFG (u : Nat) : Nat := 0x8140018 + u / 4096 * 0x400000 + u % 4096 * 0x20
/-- COACH_CH_CNT_CLEAR (06_channels.md, after R224). -/
def R.COACH_CH_CNT_CLEAR (u : Nat) : Nat := 0x814001C + u / 4096 * 0x400000 + u % 4096 * 0x20
/-- XBAR_CFG (07_switch_core.md, after R270). -/
def R.XBAR_CFG : Nat := 0xC000000
/-- XBAR_CLASS_WEIGHT (07_switch_core.md, after R270). -/
def R.XBAR_CLASS_WEIGHT : Nat := 0xC000004
/-- XBAR_PORT_VCMAP (07_switch_core.md, after R270). -/
def R.XBAR_PORT_VCMAP (i : Nat) : Nat := 0xC001000 + i * 0x4
/-- XBAR_FLUSH_CNT (07_switch_core.md, after R270). -/
def R.XBAR_FLUSH_CNT : Nat := 0xC000200
/-- XBAR_CNT_CLEAR (07_switch_core.md, after R270). -/
def R.XBAR_CNT_CLEAR : Nat := 0xC0002FC
/-- RGN_BUF_MIN (07_switch_core.md, after R270). -/
def R.RGN_BUF_MIN (i : Nat) (j : Nat) : Nat := 0x8200000 + i * 0x400000 + j * 0x4
/-- RGN_BUF_VOQ_MAX (07_switch_core.md, after R270). -/
def R.RGN_BUF_VOQ_MAX (i : Nat) : Nat := 0x8200100 + i * 0x400000
/-- RGN_BUF_STATUS (07_switch_core.md, after R270). -/
def R.RGN_BUF_STATUS (i : Nat) : Nat := 0x8200200 + i % 16 * 0x400000
/-- RGN_BUF_USE (07_switch_core.md, after R270). -/
def R.RGN_BUF_USE (i : Nat) (j : Nat) : Nat := 0x8200400 + i % 16 * 0x400000 + j % 36 * 0x4
/-- RGN_BUF_AUDIT_CTRL (07_switch_core.md, after R270). -/
def R.RGN_BUF_AUDIT_CTRL (i : Nat) : Nat := 0x8200800 + i * 0x400000
/-- RGN_BUF_AUDIT_STATUS (07_switch_core.md, after R270). -/
def R.RGN_BUF_AUDIT_STATUS (i : Nat) : Nat := 0x8200804 + i * 0x400000
/-- RGN_BUF_LEAK_LAST (07_switch_core.md, after R270). -/
def R.RGN_BUF_LEAK_LAST (i : Nat) : Nat := 0x8200808 + i * 0x400000
/-- RGN_BUF_ECC_CNT (07_switch_core.md, after R270). -/
def R.RGN_BUF_ECC_CNT (i : Nat) : Nat := 0x8200900 + i % 16 * 0x400000
/-- RGN_BUF_UNCORR_CNT (07_switch_core.md, after R270). -/
def R.RGN_BUF_UNCORR_CNT (i : Nat) : Nat := 0x8200904 + i % 16 * 0x400000
/-- RGN_BUF_LEAK_CNT (07_switch_core.md, after R270). -/
def R.RGN_BUF_LEAK_CNT (i : Nat) : Nat := 0x8200908 + i * 0x400000
/-- RGN_BUF_CNT_CLEAR (07_switch_core.md, after R270). -/
def R.RGN_BUF_CNT_CLEAR (i : Nat) : Nat := 0x82009FC + i * 0x400000
/-- NOC_ROUTE (08_internal_network.md, after R298). -/
def R.NOC_ROUTE (i : Nat) (j : Nat) : Nat := 0xD000000 + i * 0x100 + j * 0x4
/-- NOC_REG (08_internal_network.md, after R298). -/
def R.NOC_REG (i : Nat) : Nat := 0xD010000 + i * 0x10
/-- NOC_REG_SD (08_internal_network.md, after R298). -/
def R.NOC_REG_SD (i : Nat) (j : Nat) : Nat := 0xD010008 + i * 0x10 + j * 0x4
/-- NOC_STAT (08_internal_network.md, after R298). -/
def R.NOC_STAT (i : Nat) (j : Nat) : Nat := 0xD020000 + i % 98 * 0x40 + j % 4 * 0x10
/-- NOC_ERR_CNT0 (08_internal_network.md, after R298). -/
def R.NOC_ERR_CNT0 (i : Nat) : Nat := 0xD030000 + i % 18 * 0x100
/-- NOC_ERR_CNT1 (08_internal_network.md, after R298). -/
def R.NOC_ERR_CNT1 (i : Nat) : Nat := 0xD030004 + i % 18 * 0x100
/-- NOC_ERR_CNT2 (08_internal_network.md, after R298). -/
def R.NOC_ERR_CNT2 (i : Nat) : Nat := 0xD030008 + i % 18 * 0x100
/-- NOC_ERR_CNT3 (08_internal_network.md, after R298). -/
def R.NOC_ERR_CNT3 (i : Nat) : Nat := 0xD03000C + i % 18 * 0x100
/-- NOC_CNT_CLEAR (08_internal_network.md, after R298). -/
def R.NOC_CNT_CLEAR (i : Nat) : Nat := 0xD0300FC + i * 0x100
/-- XBAR_RATE_CIR (09_traffic_control.md, after R319). -/
def R.XBAR_RATE_CIR (i : Nat) : Nat := 0xC010000 + i * 0x10
/-- XBAR_RATE_PIR (09_traffic_control.md, after R319). -/
def R.XBAR_RATE_PIR (i : Nat) : Nat := 0xC010004 + i * 0x10
/-- XBAR_RATE_BURST (09_traffic_control.md, after R319). -/
def R.XBAR_RATE_BURST (i : Nat) : Nat := 0xC010008 + i * 0x10
/-- XBAR_METER (09_traffic_control.md, after R319). -/
def R.XBAR_METER (i : Nat) (j : Nat) : Nat := 0xC020000 + i * 0x4000 + j * 0x10
/-- XBAR_METER_HELD (09_traffic_control.md, after R319). -/
def R.XBAR_METER_HELD (i : Nat) (j : Nat) : Nat := 0xC020004 + i % 16 * 0x4000 + j % 1024 * 0x10
/-- XBAR_METER_TOKENS (09_traffic_control.md, after R319). -/
def R.XBAR_METER_TOKENS (i : Nat) (j : Nat) : Nat := 0xC020008 + i * 0x4000 + j * 0x10
/-- XBAR_PORT_METER (09_traffic_control.md, after R319). -/
def R.XBAR_PORT_METER (i : Nat) : Nat := 0xC002000 + i * 0x4
/-- RGN_PPU_ENTRY_CTRL (10_protection.md, after R341). -/
def R.RGN_PPU_ENTRY_CTRL (u : Nat) (i : Nat) : Nat := 0x8240000 + u / 8 % 16 * 0x400000 + u % 8 * 0x1000 + i * 0x20
/-- RGN_GUARD_ENTRY_CTRL (10_protection.md, after R341). -/
def R.RGN_GUARD_ENTRY_CTRL (i : Nat) (j : Nat) : Nat := 0x8248000 + i % 16 * 0x400000 + j * 0x20
/-- RST_FG_ENTRY_CTRL (10_protection.md, after R341). -/
def R.RST_FG_ENTRY_CTRL (i : Nat) : Nat := 0x4000 + i * 0x20
/-- TWIN_GUARD_ENTRY_CTRL (10_protection.md, after R341). -/
def R.TWIN_GUARD_ENTRY_CTRL (i : Nat) : Nat := 0xE0F0000 + i * 0x20
/-- RGN_PPU_ENTRY_INIT (10_protection.md, after R341). -/
def R.RGN_PPU_ENTRY_INIT (u : Nat) (i : Nat) : Nat := 0x8240004 + u / 8 % 16 * 0x400000 + u % 8 * 0x1000 + i * 0x20
/-- RGN_GUARD_ENTRY_INIT (10_protection.md, after R341). -/
def R.RGN_GUARD_ENTRY_INIT (i : Nat) (j : Nat) : Nat := 0x8248004 + i * 0x400000 + j * 0x20
/-- RST_FG_ENTRY_INIT (10_protection.md, after R341). -/
def R.RST_FG_ENTRY_INIT (i : Nat) : Nat := 0x4004 + i * 0x20
/-- TWIN_GUARD_ENTRY_INIT (10_protection.md, after R341). -/
def R.TWIN_GUARD_ENTRY_INIT (i : Nat) : Nat := 0xE0F0004 + i * 0x20
/-- RGN_PPU_ENTRY_BASE (10_protection.md, after R341). -/
def R.RGN_PPU_ENTRY_BASE (u : Nat) (i : Nat) : Nat := 0x8240008 + u / 8 % 16 * 0x400000 + u % 8 * 0x1000 + i * 0x20
/-- RGN_GUARD_ENTRY_BASE (10_protection.md, after R341). -/
def R.RGN_GUARD_ENTRY_BASE (i : Nat) (j : Nat) : Nat := 0x8248008 + i * 0x400000 + j * 0x20
/-- RST_FG_ENTRY_BASE (10_protection.md, after R341). -/
def R.RST_FG_ENTRY_BASE (i : Nat) : Nat := 0x4008 + i * 0x20
/-- TWIN_GUARD_ENTRY_BASE (10_protection.md, after R341). -/
def R.TWIN_GUARD_ENTRY_BASE (i : Nat) : Nat := 0xE0F0008 + i * 0x20
/-- RGN_PPU_ENTRY_LIMIT (10_protection.md, after R341). -/
def R.RGN_PPU_ENTRY_LIMIT (u : Nat) (i : Nat) : Nat := 0x8240010 + u / 8 % 16 * 0x400000 + u % 8 * 0x1000 + i * 0x20
/-- RGN_GUARD_ENTRY_LIMIT (10_protection.md, after R341). -/
def R.RGN_GUARD_ENTRY_LIMIT (i : Nat) (j : Nat) : Nat := 0x8248010 + i * 0x400000 + j * 0x20
/-- RST_FG_ENTRY_LIMIT (10_protection.md, after R341). -/
def R.RST_FG_ENTRY_LIMIT (i : Nat) : Nat := 0x4010 + i * 0x20
/-- TWIN_GUARD_ENTRY_LIMIT (10_protection.md, after R341). -/
def R.TWIN_GUARD_ENTRY_LIMIT (i : Nat) : Nat := 0xE0F0010 + i * 0x20
/-- RGN_PPU_UNIT_CTRL (10_protection.md, after R341). -/
def R.RGN_PPU_UNIT_CTRL (u : Nat) : Nat := 0x8240C00 + u / 8 * 0x400000 + u % 8 * 0x1000
/-- RGN_GUARD_UNIT_CTRL (10_protection.md, after R341). -/
def R.RGN_GUARD_UNIT_CTRL (i : Nat) : Nat := 0x8248C00 + i * 0x400000
/-- RST_FG_UNIT_CTRL (10_protection.md, after R341). -/
def R.RST_FG_UNIT_CTRL : Nat := 0x4C00
/-- TWIN_GUARD_UNIT_CTRL (10_protection.md, after R341). -/
def R.TWIN_GUARD_UNIT_CTRL : Nat := 0xE0F0C00
/-- RGN_PPU_VIOL_INFO (10_protection.md, after R341). -/
def R.RGN_PPU_VIOL_INFO (u : Nat) : Nat := 0x8240C10 + u / 8 * 0x400000 + u % 8 * 0x1000
/-- RGN_GUARD_VIOL_INFO (10_protection.md, after R341). -/
def R.RGN_GUARD_VIOL_INFO (i : Nat) : Nat := 0x8248C10 + i * 0x400000
/-- RST_FG_LOG_INFO (10_protection.md, after R341). -/
def R.RST_FG_LOG_INFO (i : Nat) : Nat := 0x4D00 + i * 0x20
/-- TWIN_GUARD_LOG_INFO (10_protection.md, after R341). -/
def R.TWIN_GUARD_LOG_INFO (i : Nat) : Nat := 0xE0F0D00 + i * 0x20
/-- RGN_PPU_VIOL_ENTRY (10_protection.md, after R341). -/
def R.RGN_PPU_VIOL_ENTRY (u : Nat) : Nat := 0x8240C14 + u / 8 * 0x400000 + u % 8 * 0x1000
/-- RGN_GUARD_VIOL_ENTRY (10_protection.md, after R341). -/
def R.RGN_GUARD_VIOL_ENTRY (i : Nat) : Nat := 0x8248C14 + i * 0x400000
/-- RST_FG_LOG_ENTRY (10_protection.md, after R341). -/
def R.RST_FG_LOG_ENTRY (i : Nat) : Nat := 0x4D04 + i * 0x20
/-- TWIN_GUARD_LOG_ENTRY (10_protection.md, after R341). -/
def R.TWIN_GUARD_LOG_ENTRY (i : Nat) : Nat := 0xE0F0D04 + i * 0x20
/-- RGN_PPU_VIOL_ADDR (10_protection.md, after R341). -/
def R.RGN_PPU_VIOL_ADDR (u : Nat) : Nat := 0x8240C18 + u / 8 * 0x400000 + u % 8 * 0x1000
/-- RGN_GUARD_VIOL_ADDR (10_protection.md, after R341). -/
def R.RGN_GUARD_VIOL_ADDR (i : Nat) : Nat := 0x8248C18 + i * 0x400000
/-- RST_FG_LOG_ADDR (10_protection.md, after R341). -/
def R.RST_FG_LOG_ADDR (i : Nat) : Nat := 0x4D08 + i * 0x20
/-- TWIN_GUARD_LOG_ADDR (10_protection.md, after R341). -/
def R.TWIN_GUARD_LOG_ADDR (i : Nat) : Nat := 0xE0F0D08 + i * 0x20
/-- RST_FG_LOG_TIME (10_protection.md, after R341). -/
def R.RST_FG_LOG_TIME (i : Nat) : Nat := 0x4D10 + i * 0x20
/-- TWIN_GUARD_LOG_TIME (10_protection.md, after R341). -/
def R.TWIN_GUARD_LOG_TIME (i : Nat) : Nat := 0xE0F0D10 + i * 0x20
/-- RST_FG_LOG_STATUS (10_protection.md, after R341). -/
def R.RST_FG_LOG_STATUS : Nat := 0x4C20
/-- TWIN_GUARD_LOG_STATUS (10_protection.md, after R341). -/
def R.TWIN_GUARD_LOG_STATUS : Nat := 0xE0F0C20
/-- RGN_PPU_VIOL_CNT (10_protection.md, after R341). -/
def R.RGN_PPU_VIOL_CNT (u : Nat) : Nat := 0x8240C40 + u / 8 * 0x400000 + u % 8 * 0x1000
/-- RGN_GUARD_VIOL_CNT (10_protection.md, after R341). -/
def R.RGN_GUARD_VIOL_CNT (i : Nat) : Nat := 0x8248C40 + i * 0x400000
/-- RST_FG_VIOL_CNT (10_protection.md, after R341). -/
def R.RST_FG_VIOL_CNT : Nat := 0x4C40
/-- TWIN_GUARD_VIOL_CNT (10_protection.md, after R341). -/
def R.TWIN_GUARD_VIOL_CNT : Nat := 0xE0F0C40
/-- RGN_PPU_CNT_CLEAR (10_protection.md, after R341). -/
def R.RGN_PPU_CNT_CLEAR (u : Nat) : Nat := 0x8240CFC + u / 8 * 0x400000 + u % 8 * 0x1000
/-- RGN_GUARD_CNT_CLEAR (10_protection.md, after R341). -/
def R.RGN_GUARD_CNT_CLEAR (i : Nat) : Nat := 0x8248CFC + i * 0x400000
/-- RST_FG_CNT_CLEAR (10_protection.md, after R341). -/
def R.RST_FG_CNT_CLEAR : Nat := 0x4CFC
/-- TWIN_GUARD_CNT_CLEAR (10_protection.md, after R341). -/
def R.TWIN_GUARD_CNT_CLEAR : Nat := 0xE0F0CFC
/-- STX_TENANT_KEY (10_protection.md, after R341). -/
def R.STX_TENANT_KEY (i : Nat) : Nat := 0x3300000 + i * 0x4
/-- PB_PORT_CFG (11_lanes.md, after R369). -/
def R.PB_PORT_CFG (u : Nat) (i : Nat) : Nat := 0x8040000 + u / 2 * 0x400000 + u % 2 * 0x40000 + i * 0x4
/-- PB_CELL_CTRL (11_lanes.md, after R369). -/
def R.PB_CELL_CTRL (u : Nat) (i : Nat) : Nat := 0x8040040 + u / 2 * 0x400000 + u % 2 * 0x40000 + i * 0x4
/-- PB_SPARE_CFG (11_lanes.md, after R369). -/
def R.PB_SPARE_CFG (u : Nat) : Nat := 0x8040080 + u / 2 * 0x400000 + u % 2 * 0x40000
/-- TWIN_SPARE_CFG (11_lanes.md, after R369). -/
def R.TWIN_SPARE_CFG : Nat := 0xE000080
/-- PB_SPARE_STATUS (11_lanes.md, after R369). -/
def R.PB_SPARE_STATUS (u : Nat) : Nat := 0x8040084 + u / 2 * 0x400000 + u % 2 * 0x40000
/-- TWIN_SPARE_STATUS (11_lanes.md, after R369). -/
def R.TWIN_SPARE_STATUS : Nat := 0xE000084
/-- PB_SPARE_CTRL (11_lanes.md, after R369). -/
def R.PB_SPARE_CTRL (u : Nat) : Nat := 0x8040088 + u / 2 * 0x400000 + u % 2 * 0x40000
/-- TWIN_SPARE_CTRL (11_lanes.md, after R369). -/
def R.TWIN_SPARE_CTRL : Nat := 0xE000088
/-- PB_LANE_STATUS (11_lanes.md, after R369). -/
def R.PB_LANE_STATUS (u : Nat) (i : Nat) : Nat := 0x8041000 + u / 2 % 16 * 0x400000 + u % 2 * 0x40000 + i % 17 * 0x100
/-- TWIN_LANE_STATUS (11_lanes.md, after R369). -/
def R.TWIN_LANE_STATUS (i : Nat) : Nat := 0xE001000 + i % 18 * 0x100
/-- PB_LANE_RX_EQ (11_lanes.md, after R369). -/
def R.PB_LANE_RX_EQ (u : Nat) (i : Nat) : Nat := 0x8041004 + u / 2 * 0x400000 + u % 2 * 0x40000 + i * 0x100
/-- TWIN_LANE_RX_EQ (11_lanes.md, after R369). -/
def R.TWIN_LANE_RX_EQ (i : Nat) : Nat := 0xE001004 + i * 0x100
/-- PB_LANE_RX_RESULT (11_lanes.md, after R369). -/
def R.PB_LANE_RX_RESULT (u : Nat) (i : Nat) : Nat := 0x8041008 + u / 2 * 0x400000 + u % 2 * 0x40000 + i * 0x100
/-- TWIN_LANE_RX_RESULT (11_lanes.md, after R369). -/
def R.TWIN_LANE_RX_RESULT (i : Nat) : Nat := 0xE001008 + i * 0x100
/-- PB_LANE_TX_EQ (11_lanes.md, after R369). -/
def R.PB_LANE_TX_EQ (u : Nat) (i : Nat) : Nat := 0x804100C + u / 2 * 0x400000 + u % 2 * 0x40000 + i * 0x100
/-- TWIN_LANE_TX_EQ (11_lanes.md, after R369). -/
def R.TWIN_LANE_TX_EQ (i : Nat) : Nat := 0xE00100C + i * 0x100
/-- PB_LANE_PWR (11_lanes.md, after R369). -/
def R.PB_LANE_PWR (u : Nat) (i : Nat) : Nat := 0x8041010 + u / 2 * 0x400000 + u % 2 * 0x40000 + i * 0x100
/-- TWIN_LANE_PWR (11_lanes.md, after R369). -/
def R.TWIN_LANE_PWR (i : Nat) : Nat := 0xE001010 + i * 0x100
/-- PB_LANE_LOOP (11_lanes.md, after R369). -/
def R.PB_LANE_LOOP (u : Nat) (i : Nat) : Nat := 0x8041014 + u / 2 * 0x400000 + u % 2 * 0x40000 + i * 0x100
/-- TWIN_LANE_LOOP (11_lanes.md, after R369). -/
def R.TWIN_LANE_LOOP (i : Nat) : Nat := 0xE001014 + i * 0x100
/-- PB_LANE_PRBS_ERR (11_lanes.md, after R369). -/
def R.PB_LANE_PRBS_ERR (u : Nat) (i : Nat) : Nat := 0x8041018 + u / 2 * 0x400000 + u % 2 * 0x40000 + i * 0x100
/-- TWIN_LANE_PRBS_ERR (11_lanes.md, after R369). -/
def R.TWIN_LANE_PRBS_ERR (i : Nat) : Nat := 0xE001018 + i * 0x100
/-- PB_LANE_SYM_ERR (11_lanes.md, after R369). -/
def R.PB_LANE_SYM_ERR (u : Nat) (i : Nat) : Nat := 0x8041020 + u / 2 * 0x400000 + u % 2 * 0x40000 + i * 0x100
/-- TWIN_LANE_SYM_ERR (11_lanes.md, after R369). -/
def R.TWIN_LANE_SYM_ERR (i : Nat) : Nat := 0xE001020 + i * 0x100
/-- PB_LANE_CNT_CLEAR (11_lanes.md, after R369). -/
def R.PB_LANE_CNT_CLEAR (u : Nat) (i : Nat) : Nat := 0x80410FC + u / 2 * 0x400000 + u % 2 * 0x40000 + i * 0x100
/-- TWIN_LANE_CNT_CLEAR (11_lanes.md, after R369). -/
def R.TWIN_LANE_CNT_CLEAR (i : Nat) : Nat := 0xE0010FC + i * 0x100
/-- PB_LINK_STATUS (12_link_layer.md, after R397). -/
def R.PB_LINK_STATUS (u : Nat) (i : Nat) : Nat := 0x8040200 + u / 2 * 0x400000 + u % 2 * 0x40000 + i * 0x40
/-- TWIN_LINK_STATUS (12_link_layer.md, after R397). -/
def R.TWIN_LINK_STATUS : Nat := 0xE000200
/-- PB_LINK_CTRL (12_link_layer.md, after R397). -/
def R.PB_LINK_CTRL (u : Nat) (i : Nat) : Nat := 0x8040204 + u / 2 * 0x400000 + u % 2 * 0x40000 + i * 0x40
/-- TWIN_LINK_CTRL (12_link_layer.md, after R397). -/
def R.TWIN_LINK_CTRL : Nat := 0xE000204
/-- PB_LINK_OWN_CFG (12_link_layer.md, after R397). -/
def R.PB_LINK_OWN_CFG (u : Nat) (i : Nat) : Nat := 0x8040208 + u / 2 * 0x400000 + u % 2 * 0x40000 + i * 0x40
/-- TWIN_LINK_OWN_CFG (12_link_layer.md, after R397). -/
def R.TWIN_LINK_OWN_CFG : Nat := 0xE000208
/-- PB_LINK_CNT0 (12_link_layer.md, after R397). -/
def R.PB_LINK_CNT0 (u : Nat) (i : Nat) : Nat := 0x8040210 + u / 2 * 0x400000 + u % 2 * 0x40000 + i * 0x40
/-- TWIN_LINK_CNT0 (12_link_layer.md, after R397). -/
def R.TWIN_LINK_CNT0 : Nat := 0xE000210
/-- PB_LINK_CNT1 (12_link_layer.md, after R397). -/
def R.PB_LINK_CNT1 (u : Nat) (i : Nat) : Nat := 0x8040214 + u / 2 * 0x400000 + u % 2 * 0x40000 + i * 0x40
/-- TWIN_LINK_CNT1 (12_link_layer.md, after R397). -/
def R.TWIN_LINK_CNT1 : Nat := 0xE000214
/-- PB_LINK_CNT2 (12_link_layer.md, after R397). -/
def R.PB_LINK_CNT2 (u : Nat) (i : Nat) : Nat := 0x8040218 + u / 2 * 0x400000 + u % 2 * 0x40000 + i * 0x40
/-- TWIN_LINK_CNT2 (12_link_layer.md, after R397). -/
def R.TWIN_LINK_CNT2 : Nat := 0xE000218
/-- PB_LINK_CNT_CLEAR (12_link_layer.md, after R397). -/
def R.PB_LINK_CNT_CLEAR (u : Nat) (i : Nat) : Nat := 0x804023C + u / 2 * 0x400000 + u % 2 * 0x40000 + i * 0x40
/-- TWIN_LINK_CNT_CLEAR (12_link_layer.md, after R397). -/
def R.TWIN_LINK_CNT_CLEAR : Nat := 0xE00023C
/-- STX_WIN_W0 (13_host_functions.md, after R409). -/
def R.STX_WIN_W0 (i : Nat) (j : Nat) : Nat := 0x3400000 + i * 0x100 + j * 0x10
/-- STX_WIN_W1 (13_host_functions.md, after R409). -/
def R.STX_WIN_W1 (i : Nat) (j : Nat) : Nat := 0x3400004 + i * 0x100 + j * 0x10
/-- STX_WIN_W2 (13_host_functions.md, after R409). -/
def R.STX_WIN_W2 (i : Nat) (j : Nat) : Nat := 0x3400008 + i * 0x100 + j * 0x10
/-- PB_HOST_CNT (13_host_functions.md, after R425). -/
def R.PB_HOST_CNT (u : Nat) (i : Nat) : Nat := 0x8040220 + u / 2 * 0x400000 + u % 2 * 0x40000 + i * 0x40
/-- PB_HOST_LATE (13_host_functions.md, after R425). -/
def R.PB_HOST_LATE (u : Nat) (i : Nat) : Nat := 0x8040224 + u / 2 * 0x400000 + u % 2 * 0x40000 + i * 0x40
/-- PB_HOST_CNT_CLEAR (13_host_functions.md, after R425). -/
def R.PB_HOST_CNT_CLEAR (u : Nat) (i : Nat) : Nat := 0x8040238 + u / 2 * 0x400000 + u % 2 * 0x40000 + i * 0x40
/-- PB_SLOT_CAP (13_host_functions.md, after R429). -/
def R.PB_SLOT_CAP (u : Nat) (i : Nat) : Nat := 0x8040400 + u / 2 * 0x400000 + u % 2 * 0x40000 + i * 0x10
/-- PB_SLOT_CTRL (13_host_functions.md, after R429). -/
def R.PB_SLOT_CTRL (u : Nat) (i : Nat) : Nat := 0x8040404 + u / 2 * 0x400000 + u % 2 * 0x40000 + i * 0x10
/-- STX_EP_ID (13_host_functions.md, after R431). -/
def R.STX_EP_ID : Nat := 0x3501000
/-- STX_EP_ID2 (13_host_functions.md, after R431). -/
def R.STX_EP_ID2 : Nat := 0x3501004
/-- STX_PORT_FN_W0 (13_host_functions.md, after R431). -/
def R.STX_PORT_FN_W0 (i : Nat) : Nat := 0x3500000 + i * 0x10
/-- STX_PORT_FN_W1 (13_host_functions.md, after R431). -/
def R.STX_PORT_FN_W1 (i : Nat) : Nat := 0x3500004 + i * 0x10
/-- STX_TXN_CTRL (14_structure_image.md, after R460). -/
def R.STX_TXN_CTRL : Nat := 0x2000000
/-- STX_TXN_STATUS (14_structure_image.md, after R460). -/
def R.STX_TXN_STATUS : Nat := 0x2000004
/-- STX_TXN_HANDLE (14_structure_image.md, after R460). -/
def R.STX_TXN_HANDLE : Nat := 0x2000008
/-- STX_EPOCH (14_structure_image.md, after R460). -/
def R.STX_EPOCH : Nat := 0x2000010
/-- STX_TXN_FAIL (14_structure_image.md, after R460). -/
def R.STX_TXN_FAIL : Nat := 0x2000014
/-- STX_TXN_FAIL_ADDR (14_structure_image.md, after R460). -/
def R.STX_TXN_FAIL_ADDR : Nat := 0x2000018
/-- STX_TXN_CHANGES (14_structure_image.md, after R460). -/
def R.STX_TXN_CHANGES : Nat := 0x200001C
/-- STX_TXN_CFG (14_structure_image.md, after R460). -/
def R.STX_TXN_CFG : Nat := 0x2000020
/-- STX_IMG_STATUS (14_structure_image.md, after R460). -/
def R.STX_IMG_STATUS : Nat := 0x2000100
/-- STX_IMG_SEQ (14_structure_image.md, after R460). -/
def R.STX_IMG_SEQ : Nat := 0x2000108
/-- STX_TXN_CNT (14_structure_image.md, after R460). -/
def R.STX_TXN_CNT : Nat := 0x2000200
/-- STX_TXN_CNT_CLEAR (14_structure_image.md, after R460). -/
def R.STX_TXN_CNT_CLEAR : Nat := 0x20002FC
/-- DIR_REMAP (15_twin_pairing.md, after R496). -/
def R.DIR_REMAP (u : Nat) (i : Nat) (j : Nat) : Nat := 0x8180300 + u / 2 * 0x400000 + u % 2 * 0x40000 + i * 0x20 + j * 0x4
/-- TWIN_PAIR_CFG (15_twin_pairing.md, after R496). -/
def R.TWIN_PAIR_CFG : Nat := 0xE010000
/-- TWIN_PAIR_TAG (15_twin_pairing.md, after R496). -/
def R.TWIN_PAIR_TAG : Nat := 0xE010004
/-- TWIN_PAIR_STATUS (15_twin_pairing.md, after R496). -/
def R.TWIN_PAIR_STATUS : Nat := 0xE010008
/-- TWIN_PAIR_CTRL (15_twin_pairing.md, after R496). -/
def R.TWIN_PAIR_CTRL : Nat := 0xE01000C
/-- TWIN_HOMING (15_twin_pairing.md, after R496). -/
def R.TWIN_HOMING : Nat := 0xE010010
/-- TWIN_ACTING (15_twin_pairing.md, after R496). -/
def R.TWIN_ACTING : Nat := 0xE010014
/-- TWIN_JRN_STATUS (15_twin_pairing.md, after R496). -/
def R.TWIN_JRN_STATUS : Nat := 0xE010020
/-- TWIN_TAKEOVER_CAUSE (15_twin_pairing.md, after R496). -/
def R.TWIN_TAKEOVER_CAUSE : Nat := 0xE010030
/-- TWIN_TAKEOVER_TIME (15_twin_pairing.md, after R496). -/
def R.TWIN_TAKEOVER_TIME : Nat := 0xE010038
/-- TWIN_SWEEP_STATUS (15_twin_pairing.md, after R496). -/
def R.TWIN_SWEEP_STATUS : Nat := 0xE010040
/-- TWIN_CNT0 (15_twin_pairing.md, after R496). -/
def R.TWIN_CNT0 : Nat := 0xE010100
/-- TWIN_CNT1 (15_twin_pairing.md, after R496). -/
def R.TWIN_CNT1 : Nat := 0xE010104
/-- TWIN_CNT_CLEAR (15_twin_pairing.md, after R496). -/
def R.TWIN_CNT_CLEAR : Nat := 0xE0101FC
/-- SLOT_MAP (16_slot_power.md, after R517). -/
def R.SLOT_MAP (i : Nat) : Nat := 0x1100000 + i * 0x100
/-- SLOT_LIMIT (16_slot_power.md, after R517). -/
def R.SLOT_LIMIT (i : Nat) : Nat := 0x1100004 + i * 0x100
/-- SLOT_FEED (16_slot_power.md, after R517). -/
def R.SLOT_FEED (i : Nat) : Nat := 0x1100008 + i * 0x100
/-- SLOT_RAIL (16_slot_power.md, after R517). -/
def R.SLOT_RAIL (i : Nat) : Nat := 0x110000C + i * 0x100
/-- SLOT_TIMING (16_slot_power.md, after R517). -/
def R.SLOT_TIMING (i : Nat) : Nat := 0x1100010 + i * 0x100
/-- SLOT_STATUS (16_slot_power.md, after R517). -/
def R.SLOT_STATUS (i : Nat) : Nat := 0x1100020 + i * 0x100
/-- SLOT_MEAS (16_slot_power.md, after R517). -/
def R.SLOT_MEAS (i : Nat) : Nat := 0x1100024 + i * 0x100
/-- SLOT_CNT0 (16_slot_power.md, after R517). -/
def R.SLOT_CNT0 (i : Nat) : Nat := 0x1100080 + i * 0x100
/-- SLOT_CNT1 (16_slot_power.md, after R517). -/
def R.SLOT_CNT1 (i : Nat) : Nat := 0x1100084 + i * 0x100
/-- SLOT_CNT_CLEAR (16_slot_power.md, after R517). -/
def R.SLOT_CNT_CLEAR (i : Nat) : Nat := 0x11000FC + i * 0x100
/-- SLOT_SB (16_slot_power.md, after R517). -/
def R.SLOT_SB : Nat := 0x1120000
/-- RST_RESET_CAUSE (17_reset_and_bringup.md, after R529). -/
def R.RST_RESET_CAUSE : Nat := 0x1000
/-- RST_SRC_MAP (17_reset_and_bringup.md, after R529). -/
def R.RST_SRC_MAP (i : Nat) : Nat := 0x1100 + i * 0x4
/-- RST_OTP_CTRL (17_reset_and_bringup.md, after R529). -/
def R.RST_OTP_CTRL : Nat := 0x1180
/-- RST_SW (17_reset_and_bringup.md, after R529). -/
def R.RST_SW : Nat := 0x1200
/-- RST_TWIN_ORDER (17_reset_and_bringup.md, after R529). -/
def R.RST_TWIN_ORDER : Nat := 0x1204
/-- RST_GLITCH_CNT (17_reset_and_bringup.md, after R529). -/
def R.RST_GLITCH_CNT : Nat := 0x1080
/-- RST_RESET_CNT_CLEAR (17_reset_and_bringup.md, after R529). -/
def R.RST_RESET_CNT_CLEAR : Nat := 0x10FC
/-- RST_SUP_STATUS (17_reset_and_bringup.md, after R532). -/
def R.RST_SUP_STATUS : Nat := 0x1001000
/-- RST_SUP_CNT (17_reset_and_bringup.md, after R532). -/
def R.RST_SUP_CNT : Nat := 0x1001080
/-- RST_SUP_CNT_CLEAR (17_reset_and_bringup.md, after R532). -/
def R.RST_SUP_CNT_CLEAR : Nat := 0x10010FC
/-- STX_IMG_LOAD (17_reset_and_bringup.md, after R533). -/
def R.STX_IMG_LOAD : Nat := 0x2000300
/-- RST_BRINGUP (17_reset_and_bringup.md, after R536). -/
def R.RST_BRINGUP : Nat := 0x1010
/-- EVT_ROUTE (18_events_and_counters.md, after R543). -/
def R.EVT_ROUTE (i : Nat) : Nat := 0x4000000 + i * 0x4
/-- EVT_PEND (18_events_and_counters.md, after R543). -/
def R.EVT_PEND (i : Nat) : Nat := 0x4001000 + i % 16 * 0x4
/-- EVT_SUMMARY (18_events_and_counters.md, after R543). -/
def R.EVT_SUMMARY : Nat := 0x4001040
/-- EVT_TWIN_PEND (18_events_and_counters.md, after R543). -/
def R.EVT_TWIN_PEND (i : Nat) : Nat := 0x4001100 + i * 0x4
/-- EVT_PERSIST_SEL (18_events_and_counters.md, after R548). -/
def R.EVT_PERSIST_SEL (i : Nat) : Nat := 0x4002000 + i * 0x4
/-- EVT_PERSIST_CFG (18_events_and_counters.md, after R548). -/
def R.EVT_PERSIST_CFG : Nat := 0x4002400
/-- EVT_PERSIST_STATUS (18_events_and_counters.md, after R548). -/
def R.EVT_PERSIST_STATUS : Nat := 0x4002404
/-- PERF_CHIP_CTR_SEL (18_events_and_counters.md, after R553). -/
def R.PERF_CHIP_CTR_SEL (i : Nat) : Nat := 0x4004000 + i % 64 * 0x20
/-- PERF_RGN_CTR_SEL (18_events_and_counters.md, after R553). -/
def R.PERF_RGN_CTR_SEL (i : Nat) (j : Nat) : Nat := 0x82C0000 + i % 16 * 0x400000 + j % 16 * 0x20
/-- PERF_CHIP_CTR_THRESH (18_events_and_counters.md, after R553). -/
def R.PERF_CHIP_CTR_THRESH (i : Nat) : Nat := 0x4004004 + i * 0x20
/-- PERF_RGN_CTR_THRESH (18_events_and_counters.md, after R553). -/
def R.PERF_RGN_CTR_THRESH (i : Nat) (j : Nat) : Nat := 0x82C0004 + i * 0x400000 + j * 0x20
/-- PERF_CHIP_CTR_VALUE (18_events_and_counters.md, after R553). -/
def R.PERF_CHIP_CTR_VALUE (i : Nat) : Nat := 0x4004008 + i * 0x20
/-- PERF_RGN_CTR_VALUE (18_events_and_counters.md, after R553). -/
def R.PERF_RGN_CTR_VALUE (i : Nat) (j : Nat) : Nat := 0x82C0008 + i * 0x400000 + j * 0x20
/-- PERF_CHIP_CTR_TENANT (18_events_and_counters.md, after R553). -/
def R.PERF_CHIP_CTR_TENANT (i : Nat) : Nat := 0x4004010 + i * 0x20
/-- PERF_RGN_CTR_TENANT (18_events_and_counters.md, after R553). -/
def R.PERF_RGN_CTR_TENANT (i : Nat) (j : Nat) : Nat := 0x82C0010 + i * 0x400000 + j * 0x20
/-- PERF_CHIP_CTR_STATUS (18_events_and_counters.md, after R553). -/
def R.PERF_CHIP_CTR_STATUS (i : Nat) : Nat := 0x4004014 + i * 0x20
/-- PERF_RGN_CTR_STATUS (18_events_and_counters.md, after R553). -/
def R.PERF_RGN_CTR_STATUS (i : Nat) (j : Nat) : Nat := 0x82C0014 + i * 0x400000 + j * 0x20
/-- PERF_SNAP_CTRL (18_events_and_counters.md, after R557). -/
def R.PERF_SNAP_CTRL : Nat := 0x4005000
/-- PERF_SNAP_BASE (18_events_and_counters.md, after R557). -/
def R.PERF_SNAP_BASE : Nat := 0x4005008
/-- PERF_SNAP_SIZE (18_events_and_counters.md, after R557). -/
def R.PERF_SNAP_SIZE : Nat := 0x4005010
/-- PERF_SNAP_WRITE (18_events_and_counters.md, after R557). -/
def R.PERF_SNAP_WRITE : Nat := 0x4005014
/-- PERF_SNAP_READ (18_events_and_counters.md, after R557). -/
def R.PERF_SNAP_READ : Nat := 0x4005018
/-- PERF_SNAP_CNT (18_events_and_counters.md, after R557). -/
def R.PERF_SNAP_CNT : Nat := 0x4005100
/-- PERF_SNAP_CNT_CLEAR (18_events_and_counters.md, after R557). -/
def R.PERF_SNAP_CNT_CLEAR : Nat := 0x40051FC
/-- RST_TEMP (19_package_electrical.md, after R577). -/
def R.RST_TEMP : Nat := 0x300

end Sys2Proof.Machine
end

