-- ==== Sys2Proof/Machine/RegTable.lean ====
section
/-! DEFINITION. The register map of the management space: one row per register table of the spec (R46, R47,
R57 to R63, R214 and every "Registers" section), with the fields, access codes (R13) and reset entries (R14)
as those tables give them. Reserved fields are left out: they read as zero (R9). -/

namespace Sys2Proof.Machine

/-- Access codes (R13). -/
inductive Acc where
  | RW | RO | WO | W1C | W1S | RWL | RWS | TC
deriving DecidableEq, Repr

/-- Reset entries (R14, and "pin" of R462). -/
inductive Rst where
  | val (v : Nat)
  | image
  | fuse
  | pin
deriving DecidableEq, Repr

/-- The level whose reset clears the register (R14, R519, and R538 for the keeper die). -/
inductive RegLevel where
  | cell | block | region | chip | package
deriving DecidableEq, Repr

/-- One field of a register table: bits [hi:lo] of the whole register (R3). -/
structure RegField where
  hi : Nat
  lo : Nat
  acc : Acc
  rst : Rst
deriving DecidableEq, Repr

/-- One register of the map: `dims` gives (count, stride) of each index, widest stride first. -/
structure RegRow where
  name : String
  base : Nat
  dims : List (Nat × Nat)
  words : Nat
  level : RegLevel
  fields : List RegField
deriving DecidableEq, Repr

/-- Registers of chapter 01_architecture.md. -/
def regRows01 : List RegRow := [
  ⟨"RGN_ARB_WEIGHT", 0x8000100, [(16, 0x400000), (8, 0x4)], 1, .region,
    [⟨3, 0, .RW, .image⟩, ⟨7, 4, .RW, .image⟩, ⟨11, 8, .RW, .image⟩, ⟨15, 12, .RW, .image⟩]⟩,
  ⟨"RST_CHIP_ID", 0x0, [], 1, .package,
    [⟨31, 16, .RO, .val 0xb28⟩, ⟨15, 8, .RO, .val 0x2⟩, ⟨7, 4, .RO, .fuse⟩, ⟨3, 0, .RO, .fuse⟩]⟩,
  ⟨"RST_CHIP_SERIAL", 0x8, [], 2, .package,
    [⟨63, 0, .RO, .fuse⟩]⟩,
  ⟨"RST_CLK_STATUS", 0x100, [], 1, .chip,
    [⟨3, 3, .RO, .val 0x0⟩, ⟨2, 2, .RO, .val 0x0⟩, ⟨1, 1, .RO, .val 0x0⟩, ⟨0, 0, .RO, .val 0x0⟩]⟩,
  ⟨"RST_CLK_LOSS_CNT", 0x104, [], 1, .package,
    [⟨15, 0, .TC, .val 0x0⟩]⟩,
  ⟨"RST_CNT_CLEAR", 0x1FC, [], 1, .package,
    [⟨0, 0, .WO, .val 0x0⟩]⟩,
  ⟨"RST_TIME", 0x200, [], 2, .chip,
    [⟨63, 0, .RO, .val 0x0⟩]⟩]

/-- Registers of chapter 02_memory_pools.md. -/
def regRows02 : List RegRow := [
  ⟨"SEG_ENTRY_W0", 0xF000000, [(65536, 0x10)], 1, .chip,
    [⟨31, 31, .RW, .image⟩, ⟨30, 29, .RW, .image⟩, ⟨28, 28, .RW, .image⟩, ⟨27, 27, .RW, .image⟩,
     ⟨26, 23, .RW, .image⟩, ⟨22, 20, .RW, .image⟩, ⟨11, 0, .RW, .image⟩]⟩,
  ⟨"SEG_ENTRY_W1", 0xF000004, [(65536, 0x10)], 1, .chip,
    [⟨30, 24, .RW, .image⟩, ⟨23, 0, .RW, .image⟩]⟩,
  ⟨"SEG_ENTRY_W2", 0xF000008, [(65536, 0x10)], 1, .chip,
    [⟨30, 24, .RW, .image⟩, ⟨23, 0, .RW, .image⟩]⟩,
  ⟨"SEG_SHARE_W", 0xF100000, [(4096, 0x80), (32, 0x4)], 1, .chip,
    [⟨31, 0, .RW, .image⟩]⟩,
  ⟨"SEG_BIND", 0xF200000, [(128, 0x4000), (4096, 0x4)], 1, .chip,
    [⟨1, 0, .RW, .image⟩, ⟨3, 2, .RW, .image⟩, ⟨5, 4, .RW, .image⟩, ⟨7, 6, .RW, .image⟩,
     ⟨9, 8, .RW, .image⟩, ⟨11, 10, .RW, .image⟩, ⟨13, 12, .RW, .image⟩, ⟨15, 14, .RW, .image⟩,
     ⟨17, 16, .RW, .image⟩, ⟨19, 18, .RW, .image⟩, ⟨21, 20, .RW, .image⟩, ⟨23, 22, .RW, .image⟩,
     ⟨25, 24, .RW, .image⟩, ⟨27, 26, .RW, .image⟩, ⟨29, 28, .RW, .image⟩, ⟨31, 30, .RW, .image⟩]⟩,
  ⟨"SEG_CARVE_MAP", 0xF800000, [(8, 0x4)], 1, .chip,
    [⟨31, 31, .RW, .image⟩, ⟨15, 0, .RW, .image⟩]⟩,
  ⟨"RGN_TAG_CTRL", 0x8280000, [(16, 0x400000)], 1, .region,
    [⟨0, 0, .WO, .val 0x0⟩]⟩,
  ⟨"RGN_TAG_STATUS", 0x8280004, [(16, 0x400000)], 1, .region,
    [⟨0, 0, .RO, .val 0x0⟩]⟩,
  ⟨"RGN_TAG_ECC_CNT", 0x8280010, [(16, 0x400000)], 1, .region,
    [⟨15, 0, .TC, .val 0x0⟩]⟩,
  ⟨"RGN_TAG_CNT_CLEAR", 0x82801FC, [(16, 0x400000)], 1, .region,
    [⟨0, 0, .WO, .val 0x0⟩]⟩,
  ⟨"SEG_UNBOUND_CNT", 0xF800100, [], 1, .chip,
    [⟨15, 0, .TC, .val 0x0⟩]⟩,
  ⟨"SEG_TAG_ERR_CNT", 0xF800104, [], 1, .chip,
    [⟨15, 0, .TC, .val 0x0⟩]⟩,
  ⟨"SEG_DC_REJECT_CNT", 0xF800108, [], 1, .chip,
    [⟨15, 0, .TC, .val 0x0⟩]⟩,
  ⟨"SEG_CNT_CLEAR", 0xF8001FC, [], 1, .chip,
    [⟨2, 2, .WO, .val 0x0⟩, ⟨1, 1, .WO, .val 0x0⟩, ⟨0, 0, .WO, .val 0x0⟩]⟩]

/-- Registers of chapter 03_coherence_directory.md. -/
def regRows03 : List RegRow := [
  ⟨"DIR_PEEK_DATA", 0x8180018, [(16, 0x400000), (2, 0x40000)], 2, .block,
    [⟨63, 63, .RO, .val 0x0⟩, ⟨62, 61, .RO, .val 0x0⟩, ⟨60, 60, .RO, .val 0x0⟩, ⟨59, 59, .RO, .val 0x0⟩,
     ⟨55, 46, .RO, .val 0x0⟩, ⟨45, 36, .RO, .val 0x0⟩, ⟨35, 26, .RO, .val 0x0⟩, ⟨21, 0, .RO, .val 0x0⟩]⟩,
  ⟨"DIR_CTRL", 0x8180000, [(16, 0x400000), (2, 0x40000)], 1, .block,
    [⟨8, 8, .WO, .val 0x0⟩, ⟨7, 4, .WO, .val 0x0⟩, ⟨0, 0, .RW, .val 0x0⟩]⟩,
  ⟨"DIR_STATUS", 0x8180004, [(16, 0x400000), (2, 0x40000)], 1, .block,
    [⟨17, 17, .RO, .val 0x0⟩, ⟨16, 16, .RO, .val 0x0⟩, ⟨8, 0, .RO, .val 0x0⟩]⟩,
  ⟨"DIR_PEEK_SEL", 0x8180010, [(16, 0x400000), (2, 0x40000)], 1, .block,
    [⟨31, 31, .WO, .val 0x0⟩, ⟨30, 30, .RO, .val 0x0⟩, ⟨16, 13, .RW, .val 0x0⟩, ⟨12, 0, .RW, .val 0x0⟩]⟩,
  ⟨"DIR_ECC_CNT", 0x8180100, [(16, 0x400000), (2, 0x40000)], 1, .block,
    [⟨15, 0, .TC, .val 0x0⟩]⟩,
  ⟨"DIR_UNCORR_CNT", 0x8180104, [(16, 0x400000), (2, 0x40000)], 1, .block,
    [⟨15, 0, .TC, .val 0x0⟩]⟩,
  ⟨"DIR_CNT_CLEAR", 0x81801FC, [(16, 0x400000), (2, 0x40000)], 1, .block,
    [⟨1, 1, .WO, .val 0x0⟩, ⟨0, 0, .WO, .val 0x0⟩]⟩]

/-- Registers of chapter 04_coherence_races.md. -/
def regRows04 : List RegRow := [
  ⟨"DIR_ATOM_CFG", 0x8180020, [(16, 0x400000), (2, 0x40000)], 1, .block,
    [⟨23, 16, .RW, .val 0xa⟩, ⟨9, 8, .RW, .val 0x0⟩, ⟨7, 4, .RW, .val 0x3⟩, ⟨3, 0, .RW, .val 0x8⟩]⟩,
  ⟨"DIR_WAIT_STATUS", 0x8180024, [(16, 0x400000), (2, 0x40000)], 1, .block,
    [⟨22, 16, .RO, .val 0x0⟩, ⟨9, 0, .RO, .val 0x0⟩]⟩,
  ⟨"DIR_LOST_STATUS", 0x8180028, [(16, 0x400000), (2, 0x40000)], 1, .block,
    [⟨31, 31, .RO, .val 0x0⟩, ⟨30, 30, .RO, .val 0x0⟩, ⟨10, 0, .RO, .val 0x0⟩]⟩,
  ⟨"DIR_PURGE", 0x8180030, [(16, 0x400000), (2, 0x40000)], 1, .block,
    [⟨31, 31, .WO, .val 0x0⟩, ⟨9, 0, .RW, .val 0x3ff⟩]⟩,
  ⟨"DIR_TMO_LAST", 0x8180040, [(16, 0x400000), (2, 0x40000)], 2, .block,
    [⟨63, 54, .RWS, .val 0x3ff⟩, ⟨47, 44, .RWS, .val 0x0⟩, ⟨39, 0, .RWS, .val 0x0⟩]⟩,
  ⟨"DIR_TMO_CNT", 0x8180200, [(16, 0x400000), (2, 0x40000)], 1, .block,
    [⟨15, 0, .TC, .val 0x0⟩]⟩,
  ⟨"DIR_LATE_CNT", 0x8180204, [(16, 0x400000), (2, 0x40000)], 1, .block,
    [⟨15, 0, .TC, .val 0x0⟩]⟩,
  ⟨"DIR_POISON_CNT", 0x8180208, [(16, 0x400000), (2, 0x40000)], 1, .block,
    [⟨15, 0, .TC, .val 0x0⟩]⟩,
  ⟨"DIR_PARK_CNT", 0x818020C, [(16, 0x400000), (2, 0x40000)], 1, .block,
    [⟨15, 0, .TC, .val 0x0⟩]⟩,
  ⟨"DIR_JSTALL_CNT", 0x8180210, [(16, 0x400000), (2, 0x40000)], 1, .block,
    [⟨15, 0, .TC, .val 0x0⟩]⟩,
  ⟨"DIR_FAIL_CNT_CLEAR", 0x81802FC, [(16, 0x400000), (2, 0x40000)], 1, .block,
    [⟨4, 4, .WO, .val 0x0⟩, ⟨3, 3, .WO, .val 0x0⟩, ⟨2, 2, .WO, .val 0x0⟩, ⟨1, 1, .WO, .val 0x0⟩,
     ⟨0, 0, .WO, .val 0x0⟩]⟩]

/-- Registers of chapter 05_coaches.md. -/
def regRows05 : List RegRow := [
  ⟨"COACH_HOUSE_CTRL", 0x8100000, [(16, 0x400000)], 1, .region,
    [⟨11, 8, .RW, .val 0x4⟩, ⟨1, 1, .RW, .val 0x1⟩, ⟨0, 0, .RW, .val 0x1⟩]⟩,
  ⟨"COACH_HOUSE_STATUS", 0x8100004, [(16, 0x400000)], 1, .region,
    [⟨31, 16, .RO, .val 0x0⟩, ⟨15, 0, .RO, .val 0x0⟩]⟩,
  ⟨"COACH_MIG_SLOT", 0x8100100, [(16, 0x400000), (16, 0x8)], 2, .region,
    [⟨50, 50, .RO, .val 0x0⟩, ⟨48, 30, .RO, .val 0x0⟩, ⟨27, 18, .RO, .val 0x3ff⟩, ⟨17, 17, .RO, .val 0x0⟩,
     ⟨16, 16, .RO, .val 0x0⟩, ⟨15, 0, .RO, .val 0x0⟩]⟩,
  ⟨"COACH_CTRL", 0x8101000, [(16, 0x400000), (16, 0x100)], 1, .cell,
    [⟨2, 2, .WO, .val 0x0⟩, ⟨1, 1, .WO, .val 0x0⟩, ⟨0, 0, .WO, .val 0x0⟩]⟩,
  ⟨"COACH_STATUS", 0x8101004, [(16, 0x400000), (16, 0x100)], 1, .cell,
    [⟨25, 16, .RO, .val 0x0⟩, ⟨14, 8, .RO, .val 0x0⟩, ⟨7, 4, .RO, .val 0x0⟩, ⟨3, 3, .RO, .val 0x0⟩,
     ⟨2, 2, .RO, .val 0x0⟩, ⟨1, 0, .RO, .val 0x0⟩]⟩,
  ⟨"COACH_FAULT", 0x8101008, [(16, 0x400000), (16, 0x100)], 1, .cell,
    [⟨3, 0, .RWS, .val 0x0⟩]⟩,
  ⟨"COACH_UNIT_ERR_CNT", 0x8101080, [(16, 0x400000), (16, 0x100)], 1, .cell,
    [⟨15, 0, .TC, .val 0x0⟩]⟩,
  ⟨"COACH_LATE_CNT", 0x8101084, [(16, 0x400000), (16, 0x100)], 1, .cell,
    [⟨15, 0, .TC, .val 0x0⟩]⟩,
  ⟨"COACH_CACHE_ECC_CNT", 0x8101088, [(16, 0x400000), (16, 0x100)], 1, .cell,
    [⟨15, 0, .TC, .val 0x0⟩]⟩,
  ⟨"COACH_CNT_CLEAR", 0x81010FC, [(16, 0x400000), (16, 0x100)], 1, .cell,
    [⟨2, 2, .WO, .val 0x0⟩, ⟨1, 1, .WO, .val 0x0⟩, ⟨0, 0, .WO, .val 0x0⟩]⟩]

/-- Registers of chapter 06_channels.md. -/
def regRows06a : List RegRow := [
  ⟨"STX_TENANT_W0", 0x3100000, [(4096, 0x10)], 1, .chip,
    [⟨31, 31, .RW, .image⟩, ⟨30, 30, .RW, .image⟩, ⟨29, 23, .RW, .image⟩, ⟨22, 15, .RW, .image⟩,
     ⟨8, 0, .RW, .image⟩]⟩,
  ⟨"STX_TENANT_W1", 0x3100004, [(4096, 0x10)], 1, .chip,
    [⟨31, 16, .RW, .image⟩, ⟨15, 12, .RW, .image⟩, ⟨11, 0, .RW, .image⟩]⟩,
  ⟨"STX_TENANT_W2", 0x3100008, [(4096, 0x10)], 1, .chip,
    [⟨31, 24, .RW, .image⟩, ⟨23, 16, .RW, .image⟩, ⟨15, 0, .RW, .image⟩]⟩,
  ⟨"STX_TENANT_STAT", 0x3200000, [(4096, 0x4)], 1, .chip,
    [⟨31, 16, .TC, .val 0x0⟩, ⟨8, 0, .RO, .val 0x0⟩]⟩,
  ⟨"STX_TENANT_CNT_CLEAR", 0x3210000, [], 1, .chip,
    [⟨31, 31, .WO, .val 0x0⟩, ⟨11, 0, .WO, .val 0x0⟩]⟩,
  ⟨"STX_CHAN_CMD", 0x3000000, [], 1, .chip,
    [⟨31, 31, .WO, .val 0x0⟩, ⟨3, 0, .WO, .val 0x0⟩]⟩,
  ⟨"STX_CHAN_STATUS", 0x3000004, [], 1, .chip,
    [⟨31, 31, .RO, .val 0x0⟩, ⟨7, 0, .RO, .val 0x0⟩]⟩,
  ⟨"STX_CHAN_ARG0", 0x3000008, [], 1, .chip,
    [⟨31, 31, .RW, .val 0x0⟩, ⟨27, 16, .RW, .val 0x0⟩, ⟨15, 8, .RW, .val 0x0⟩, ⟨3, 0, .RW, .val 0x0⟩]⟩,
  ⟨"STX_CHAN_ARG1", 0x300000C, [], 1, .chip,
    [⟨31, 16, .RW, .val 0x0⟩, ⟨15, 12, .RW, .val 0x0⟩, ⟨9, 8, .RW, .val 0x0⟩, ⟨7, 0, .RW, .val 0x0⟩]⟩,
  ⟨"STX_CHAN_SQ_BASE", 0x3000010, [], 2, .chip,
    [⟨63, 12, .RW, .val 0x0⟩]⟩,
  ⟨"STX_CHAN_CQ_BASE", 0x3000018, [], 2, .chip,
    [⟨63, 12, .RW, .val 0x0⟩]⟩,
  ⟨"STX_CHAN_ARG2", 0x3000020, [], 1, .chip,
    [⟨31, 24, .RW, .val 0x0⟩, ⟨10, 0, .RW, .val 0x0⟩]⟩,
  ⟨"STX_CHAN_HANDLE", 0x3000024, [], 1, .chip,
    [⟨31, 0, .RW, .val 0x0⟩]⟩,
  ⟨"COACH_CH_HANDLE", 0x8140000, [(16, 0x400000), (4096, 0x20)], 1, .chip,
    [⟨31, 0, .RO, .val 0x0⟩]⟩,
  ⟨"COACH_CH_STATE", 0x8140004, [(16, 0x400000), (4096, 0x20)], 1, .chip,
    [⟨31, 30, .RO, .val 0x0⟩, ⟨29, 29, .RO, .val 0x0⟩, ⟨28, 28, .RO, .val 0x0⟩, ⟨27, 16, .RO, .val 0x0⟩,
     ⟨15, 12, .RO, .val 0x0⟩, ⟨11, 8, .RO, .val 0x0⟩, ⟨7, 0, .RO, .val 0x0⟩]⟩,
  ⟨"COACH_CH_RING", 0x8140008, [(16, 0x400000), (4096, 0x20)], 1, .chip,
    [⟨27, 16, .RO, .val 0x0⟩, ⟨11, 0, .RO, .val 0x0⟩]⟩,
  ⟨"COACH_CH_CTRL", 0x814000C, [(16, 0x400000), (4096, 0x20)], 1, .chip,
    [⟨31, 31, .WO, .val 0x0⟩, ⟨30, 30, .WO, .val 0x0⟩, ⟨11, 0, .WO, .val 0x0⟩]⟩,
  ⟨"COACH_CH_ABORT", 0x8140010, [(16, 0x400000), (4096, 0x20)], 1, .chip,
    [⟨31, 31, .RO, .val 0x0⟩, ⟨29, 28, .RO, .val 0x0⟩, ⟨11, 0, .RO, .val 0x0⟩]⟩,
  ⟨"COACH_CH_CNT", 0x8140014, [(16, 0x400000), (4096, 0x20)], 1, .chip,
    [⟨15, 0, .TC, .val 0x0⟩]⟩,
  ⟨"COACH_CH_CFG", 0x8140018, [(16, 0x400000), (4096, 0x20)], 1, .chip,
    [⟨31, 16, .RO, .val 0x0⟩, ⟨15, 12, .RO, .val 0x0⟩, ⟨9, 8, .RO, .val 0x0⟩, ⟨7, 0, .RO, .val 0x0⟩]⟩]

/-- Registers of chapter 06_channels.md. -/
def regRows06b : List RegRow := [
  ⟨"COACH_CH_CNT_CLEAR", 0x814001C, [(16, 0x400000), (4096, 0x20)], 1, .chip,
    [⟨0, 0, .WO, .val 0x0⟩]⟩]

/-- Registers of chapter 07_switch_core.md. -/
def regRows07 : List RegRow := [
  ⟨"XBAR_CFG", 0xC000000, [], 1, .chip,
    [⟨27, 16, .RW, .image⟩, ⟨1, 0, .RW, .image⟩]⟩,
  ⟨"XBAR_CLASS_WEIGHT", 0xC000004, [], 1, .chip,
    [⟨31, 24, .RW, .image⟩, ⟨23, 16, .RW, .image⟩, ⟨15, 8, .RW, .image⟩, ⟨7, 0, .RW, .image⟩]⟩,
  ⟨"XBAR_PORT_VCMAP", 0xC001000, [(128, 0x4)], 1, .chip,
    [⟨1, 0, .RW, .image⟩, ⟨3, 2, .RW, .image⟩, ⟨5, 4, .RW, .image⟩, ⟨7, 6, .RW, .image⟩,
     ⟨9, 8, .RW, .image⟩, ⟨11, 10, .RW, .image⟩, ⟨13, 12, .RW, .image⟩, ⟨15, 14, .RW, .image⟩]⟩,
  ⟨"XBAR_FLUSH_CNT", 0xC000200, [], 1, .chip,
    [⟨15, 0, .TC, .val 0x0⟩]⟩,
  ⟨"XBAR_CNT_CLEAR", 0xC0002FC, [], 1, .chip,
    [⟨0, 0, .WO, .val 0x0⟩]⟩,
  ⟨"RGN_BUF_MIN", 0x8200000, [(16, 0x400000), (36, 0x4)], 1, .region,
    [⟨30, 24, .RW, .image⟩, ⟨14, 0, .RW, .image⟩]⟩,
  ⟨"RGN_BUF_VOQ_MAX", 0x8200100, [(16, 0x400000)], 1, .region,
    [⟨14, 0, .RW, .image⟩]⟩,
  ⟨"RGN_BUF_STATUS", 0x8200200, [(16, 0x400000)], 1, .region,
    [⟨31, 16, .RO, .val 0x8000⟩, ⟨15, 0, .RO, .val 0x0⟩]⟩,
  ⟨"RGN_BUF_USE", 0x8200400, [(16, 0x400000), (36, 0x4)], 1, .region,
    [⟨31, 16, .RO, .val 0x0⟩, ⟨15, 0, .RO, .val 0x0⟩]⟩,
  ⟨"RGN_BUF_AUDIT_CTRL", 0x8200800, [(16, 0x400000)], 1, .region,
    [⟨31, 16, .RW, .val 0x64⟩, ⟨1, 1, .RW, .val 0x1⟩, ⟨0, 0, .RW, .val 0x1⟩]⟩,
  ⟨"RGN_BUF_AUDIT_STATUS", 0x8200804, [(16, 0x400000)], 1, .region,
    [⟨31, 31, .RO, .val 0x0⟩, ⟨30, 30, .RO, .val 0x0⟩, ⟨15, 0, .RO, .val 0x0⟩]⟩,
  ⟨"RGN_BUF_LEAK_LAST", 0x8200808, [(16, 0x400000)], 1, .region,
    [⟨31, 30, .RWS, .val 0x0⟩, ⟨27, 24, .RWS, .val 0x0⟩, ⟨23, 22, .RWS, .val 0x0⟩, ⟨14, 0, .RWS, .val 0x0⟩]⟩,
  ⟨"RGN_BUF_ECC_CNT", 0x8200900, [(16, 0x400000)], 1, .region,
    [⟨15, 0, .TC, .val 0x0⟩]⟩,
  ⟨"RGN_BUF_UNCORR_CNT", 0x8200904, [(16, 0x400000)], 1, .region,
    [⟨15, 0, .TC, .val 0x0⟩]⟩,
  ⟨"RGN_BUF_LEAK_CNT", 0x8200908, [(16, 0x400000)], 1, .region,
    [⟨15, 0, .TC, .val 0x0⟩]⟩,
  ⟨"RGN_BUF_CNT_CLEAR", 0x82009FC, [(16, 0x400000)], 1, .region,
    [⟨2, 2, .WO, .val 0x0⟩, ⟨1, 1, .WO, .val 0x0⟩, ⟨0, 0, .WO, .val 0x0⟩]⟩]

/-- Registers of chapter 08_internal_network.md. -/
def regRows08 : List RegRow := [
  ⟨"NOC_ROUTE", 0xD000000, [(98, 0x100), (64, 0x4)], 1, .chip,
    [⟨31, 31, .RW, .image⟩, ⟨30, 30, .RW, .image⟩, ⟨20, 0, .RW, .image⟩]⟩,
  ⟨"NOC_REG", 0xD010000, [(98, 0x10)], 1, .chip,
    [⟨24, 16, .RW, .image⟩, ⟨7, 0, .RW, .image⟩]⟩,
  ⟨"NOC_REG_SD", 0xD010008, [(98, 0x10), (2, 0x4)], 1, .chip,
    [⟨24, 16, .RW, .image⟩, ⟨7, 0, .RW, .image⟩]⟩,
  ⟨"NOC_STAT", 0xD020000, [(98, 0x40), (4, 0x10)], 4, .chip,
    [⟨127, 112, .RO, .val 0x0⟩, ⟨111, 80, .RO, .val 0x0⟩, ⟨79, 48, .RO, .val 0x0⟩, ⟨47, 0, .RO, .val 0x0⟩]⟩,
  ⟨"NOC_ERR_CNT0", 0xD030000, [(18, 0x100)], 1, .chip,
    [⟨31, 16, .TC, .val 0x0⟩, ⟨15, 0, .TC, .val 0x0⟩]⟩,
  ⟨"NOC_ERR_CNT1", 0xD030004, [(18, 0x100)], 1, .chip,
    [⟨31, 16, .TC, .val 0x0⟩, ⟨15, 0, .TC, .val 0x0⟩]⟩,
  ⟨"NOC_ERR_CNT2", 0xD030008, [(18, 0x100)], 1, .chip,
    [⟨31, 16, .TC, .val 0x0⟩, ⟨15, 0, .TC, .val 0x0⟩]⟩,
  ⟨"NOC_ERR_CNT3", 0xD03000C, [(18, 0x100)], 1, .chip,
    [⟨15, 0, .TC, .val 0x0⟩]⟩,
  ⟨"NOC_CNT_CLEAR", 0xD0300FC, [(18, 0x100)], 1, .chip,
    [⟨6, 6, .WO, .val 0x0⟩, ⟨5, 5, .WO, .val 0x0⟩, ⟨4, 4, .WO, .val 0x0⟩, ⟨3, 3, .WO, .val 0x0⟩,
     ⟨2, 2, .WO, .val 0x0⟩, ⟨1, 1, .WO, .val 0x0⟩, ⟨0, 0, .WO, .val 0x0⟩]⟩]

/-- Registers of chapter 09_traffic_control.md. -/
def regRows09 : List RegRow := [
  ⟨"XBAR_RATE_CIR", 0xC010000, [(256, 0x10)], 1, .chip,
    [⟨31, 31, .RW, .image⟩, ⟨23, 0, .RW, .image⟩]⟩,
  ⟨"XBAR_RATE_PIR", 0xC010004, [(256, 0x10)], 1, .chip,
    [⟨31, 24, .RW, .image⟩, ⟨23, 0, .RW, .image⟩]⟩,
  ⟨"XBAR_RATE_BURST", 0xC010008, [(256, 0x10)], 2, .chip,
    [⟨51, 32, .RW, .image⟩, ⟨19, 0, .RW, .image⟩]⟩,
  ⟨"XBAR_METER", 0xC020000, [(16, 0x4000), (1024, 0x10)], 1, .chip,
    [⟨31, 31, .RW, .image⟩, ⟨30, 24, .RW, .image⟩, ⟨23, 12, .RW, .image⟩, ⟨7, 0, .RW, .image⟩]⟩,
  ⟨"XBAR_METER_HELD", 0xC020004, [(16, 0x4000), (1024, 0x10)], 1, .chip,
    [⟨15, 0, .RO, .val 0x0⟩]⟩,
  ⟨"XBAR_METER_TOKENS", 0xC020008, [(16, 0x4000), (1024, 0x10)], 2, .chip,
    [⟨58, 32, .RO, .val 0x0⟩, ⟨26, 0, .RO, .val 0x0⟩]⟩,
  ⟨"XBAR_PORT_METER", 0xC002000, [(128, 0x4)], 1, .chip,
    [⟨31, 31, .RW, .image⟩, ⟨11, 0, .RW, .image⟩]⟩]

/-- Registers of chapter 10_protection.md. -/
def regRows10a : List RegRow := [
  ⟨"RGN_PPU_ENTRY_CTRL", 0x8240000, [(16, 0x400000), (8, 0x1000), (16, 0x20)], 1, .block,
    [⟨31, 31, .RWL, .image⟩, ⟨30, 30, .W1S, .image⟩, ⟨29, 29, .RWL, .image⟩, ⟨25, 24, .RWL, .image⟩,
     ⟨23, 20, .RWL, .image⟩, ⟨19, 18, .RWL, .image⟩]⟩,
  ⟨"RGN_GUARD_ENTRY_CTRL", 0x8248000, [(16, 0x400000), (64, 0x20)], 1, .region,
    [⟨31, 31, .RWL, .image⟩, ⟨30, 30, .W1S, .image⟩, ⟨29, 29, .RWL, .image⟩, ⟨25, 24, .RWL, .image⟩,
     ⟨23, 20, .RWL, .image⟩, ⟨19, 18, .RWL, .image⟩]⟩,
  ⟨"RST_FG_ENTRY_CTRL", 0x4000, [(32, 0x20)], 1, .package,
    [⟨31, 31, .RWL, .image⟩, ⟨30, 30, .W1S, .image⟩, ⟨29, 29, .RWL, .image⟩, ⟨25, 24, .RWL, .image⟩,
     ⟨23, 20, .RWL, .image⟩, ⟨19, 18, .RWL, .image⟩]⟩,
  ⟨"TWIN_GUARD_ENTRY_CTRL", 0xE0F0000, [(32, 0x20)], 1, .chip,
    [⟨31, 31, .RWL, .image⟩, ⟨30, 30, .W1S, .image⟩, ⟨29, 29, .RWL, .image⟩, ⟨25, 24, .RWL, .image⟩,
     ⟨23, 20, .RWL, .image⟩, ⟨19, 18, .RWL, .image⟩]⟩,
  ⟨"RGN_PPU_ENTRY_INIT", 0x8240004, [(16, 0x400000), (8, 0x1000), (16, 0x20)], 1, .block,
    [⟨31, 16, .RWL, .image⟩, ⟨15, 0, .RWL, .image⟩]⟩,
  ⟨"RGN_GUARD_ENTRY_INIT", 0x8248004, [(16, 0x400000), (64, 0x20)], 1, .region,
    [⟨31, 16, .RWL, .image⟩, ⟨15, 0, .RWL, .image⟩]⟩,
  ⟨"RST_FG_ENTRY_INIT", 0x4004, [(32, 0x20)], 1, .package,
    [⟨31, 16, .RWL, .image⟩, ⟨15, 0, .RWL, .image⟩]⟩,
  ⟨"TWIN_GUARD_ENTRY_INIT", 0xE0F0004, [(32, 0x20)], 1, .chip,
    [⟨31, 16, .RWL, .image⟩, ⟨15, 0, .RWL, .image⟩]⟩,
  ⟨"RGN_PPU_ENTRY_BASE", 0x8240008, [(16, 0x400000), (8, 0x1000), (16, 0x20)], 2, .block,
    [⟨63, 6, .RWL, .image⟩]⟩,
  ⟨"RGN_GUARD_ENTRY_BASE", 0x8248008, [(16, 0x400000), (64, 0x20)], 2, .region,
    [⟨63, 6, .RWL, .image⟩]⟩,
  ⟨"RST_FG_ENTRY_BASE", 0x4008, [(32, 0x20)], 2, .package,
    [⟨63, 6, .RWL, .image⟩]⟩,
  ⟨"TWIN_GUARD_ENTRY_BASE", 0xE0F0008, [(32, 0x20)], 2, .chip,
    [⟨63, 6, .RWL, .image⟩]⟩,
  ⟨"RGN_PPU_ENTRY_LIMIT", 0x8240010, [(16, 0x400000), (8, 0x1000), (16, 0x20)], 2, .block,
    [⟨63, 6, .RWL, .image⟩]⟩,
  ⟨"RGN_GUARD_ENTRY_LIMIT", 0x8248010, [(16, 0x400000), (64, 0x20)], 2, .region,
    [⟨63, 6, .RWL, .image⟩]⟩,
  ⟨"RST_FG_ENTRY_LIMIT", 0x4010, [(32, 0x20)], 2, .package,
    [⟨63, 6, .RWL, .image⟩]⟩,
  ⟨"TWIN_GUARD_ENTRY_LIMIT", 0xE0F0010, [(32, 0x20)], 2, .chip,
    [⟨63, 6, .RWL, .image⟩]⟩,
  ⟨"RGN_PPU_UNIT_CTRL", 0x8240C00, [(16, 0x400000), (8, 0x1000)], 1, .block,
    [⟨31, 31, .W1S, .image⟩, ⟨30, 30, .RWL, .image⟩, ⟨3, 0, .RWL, .image⟩]⟩,
  ⟨"RGN_GUARD_UNIT_CTRL", 0x8248C00, [(16, 0x400000)], 1, .region,
    [⟨31, 31, .W1S, .image⟩, ⟨30, 30, .RWL, .image⟩]⟩,
  ⟨"RST_FG_UNIT_CTRL", 0x4C00, [], 1, .package,
    [⟨31, 31, .W1S, .image⟩, ⟨30, 30, .RWL, .image⟩]⟩,
  ⟨"TWIN_GUARD_UNIT_CTRL", 0xE0F0C00, [], 1, .chip,
    [⟨31, 31, .W1S, .image⟩, ⟨30, 30, .RWL, .image⟩]⟩]

/-- Registers of chapter 10_protection.md. -/
def regRows10b : List RegRow := [
  ⟨"RGN_PPU_VIOL_INFO", 0x8240C10, [(16, 0x400000), (8, 0x1000)], 1, .block,
    [⟨31, 31, .W1C, .val 0x0⟩, ⟨30, 27, .RO, .val 0x0⟩, ⟨26, 25, .RO, .val 0x0⟩, ⟨24, 21, .RO, .val 0x0⟩,
     ⟨20, 19, .RO, .val 0x0⟩, ⟨15, 0, .RO, .val 0x0⟩]⟩,
  ⟨"RGN_GUARD_VIOL_INFO", 0x8248C10, [(16, 0x400000)], 1, .region,
    [⟨31, 31, .W1C, .val 0x0⟩, ⟨30, 27, .RO, .val 0x0⟩, ⟨26, 25, .RO, .val 0x0⟩, ⟨24, 21, .RO, .val 0x0⟩,
     ⟨20, 19, .RO, .val 0x0⟩, ⟨15, 0, .RO, .val 0x0⟩]⟩,
  ⟨"RST_FG_LOG_INFO", 0x4D00, [(8, 0x20)], 1, .package,
    [⟨31, 31, .RO, .val 0x0⟩, ⟨30, 27, .RO, .val 0x0⟩, ⟨26, 25, .RO, .val 0x0⟩, ⟨24, 21, .RO, .val 0x0⟩,
     ⟨20, 19, .RO, .val 0x0⟩, ⟨15, 0, .RO, .val 0x0⟩]⟩,
  ⟨"TWIN_GUARD_LOG_INFO", 0xE0F0D00, [(8, 0x20)], 1, .chip,
    [⟨31, 31, .RO, .val 0x0⟩, ⟨30, 27, .RO, .val 0x0⟩, ⟨26, 25, .RO, .val 0x0⟩, ⟨24, 21, .RO, .val 0x0⟩,
     ⟨20, 19, .RO, .val 0x0⟩, ⟨15, 0, .RO, .val 0x0⟩]⟩,
  ⟨"RGN_PPU_VIOL_ENTRY", 0x8240C14, [(16, 0x400000), (8, 0x1000)], 1, .block,
    [⟨6, 0, .RO, .val 0x0⟩]⟩,
  ⟨"RGN_GUARD_VIOL_ENTRY", 0x8248C14, [(16, 0x400000)], 1, .region,
    [⟨6, 0, .RO, .val 0x0⟩]⟩,
  ⟨"RST_FG_LOG_ENTRY", 0x4D04, [(8, 0x20)], 1, .package,
    [⟨6, 0, .RO, .val 0x0⟩]⟩,
  ⟨"TWIN_GUARD_LOG_ENTRY", 0xE0F0D04, [(8, 0x20)], 1, .chip,
    [⟨6, 0, .RO, .val 0x0⟩]⟩,
  ⟨"RGN_PPU_VIOL_ADDR", 0x8240C18, [(16, 0x400000), (8, 0x1000)], 2, .block,
    [⟨63, 0, .RO, .val 0x0⟩]⟩,
  ⟨"RGN_GUARD_VIOL_ADDR", 0x8248C18, [(16, 0x400000)], 2, .region,
    [⟨63, 0, .RO, .val 0x0⟩]⟩,
  ⟨"RST_FG_LOG_ADDR", 0x4D08, [(8, 0x20)], 2, .package,
    [⟨63, 0, .RO, .val 0x0⟩]⟩,
  ⟨"TWIN_GUARD_LOG_ADDR", 0xE0F0D08, [(8, 0x20)], 2, .chip,
    [⟨63, 0, .RO, .val 0x0⟩]⟩,
  ⟨"RST_FG_LOG_TIME", 0x4D10, [(8, 0x20)], 2, .package,
    [⟨63, 0, .RO, .val 0x0⟩]⟩,
  ⟨"TWIN_GUARD_LOG_TIME", 0xE0F0D10, [(8, 0x20)], 2, .chip,
    [⟨63, 0, .RO, .val 0x0⟩]⟩,
  ⟨"RST_FG_LOG_STATUS", 0x4C20, [], 1, .package,
    [⟨7, 4, .RO, .val 0x0⟩, ⟨2, 0, .RO, .val 0x0⟩]⟩,
  ⟨"TWIN_GUARD_LOG_STATUS", 0xE0F0C20, [], 1, .chip,
    [⟨7, 4, .RO, .val 0x0⟩, ⟨2, 0, .RO, .val 0x0⟩]⟩,
  ⟨"RGN_PPU_VIOL_CNT", 0x8240C40, [(16, 0x400000), (8, 0x1000)], 1, .block,
    [⟨15, 0, .TC, .val 0x0⟩]⟩,
  ⟨"RGN_GUARD_VIOL_CNT", 0x8248C40, [(16, 0x400000)], 1, .region,
    [⟨15, 0, .TC, .val 0x0⟩]⟩,
  ⟨"RST_FG_VIOL_CNT", 0x4C40, [], 1, .package,
    [⟨31, 16, .TC, .val 0x0⟩, ⟨15, 0, .TC, .val 0x0⟩]⟩,
  ⟨"TWIN_GUARD_VIOL_CNT", 0xE0F0C40, [], 1, .chip,
    [⟨31, 16, .TC, .val 0x0⟩, ⟨15, 0, .TC, .val 0x0⟩]⟩]

/-- Registers of chapter 10_protection.md. -/
def regRows10c : List RegRow := [
  ⟨"RGN_PPU_CNT_CLEAR", 0x8240CFC, [(16, 0x400000), (8, 0x1000)], 1, .block,
    [⟨0, 0, .WO, .val 0x0⟩]⟩,
  ⟨"RGN_GUARD_CNT_CLEAR", 0x8248CFC, [(16, 0x400000)], 1, .region,
    [⟨0, 0, .WO, .val 0x0⟩]⟩,
  ⟨"RST_FG_CNT_CLEAR", 0x4CFC, [], 1, .package,
    [⟨2, 2, .WO, .val 0x0⟩, ⟨1, 1, .WO, .val 0x0⟩, ⟨0, 0, .WO, .val 0x0⟩]⟩,
  ⟨"TWIN_GUARD_CNT_CLEAR", 0xE0F0CFC, [], 1, .chip,
    [⟨2, 2, .WO, .val 0x0⟩, ⟨1, 1, .WO, .val 0x0⟩, ⟨0, 0, .WO, .val 0x0⟩]⟩,
  ⟨"STX_TENANT_KEY", 0x3300000, [(4096, 0x4)], 1, .chip,
    [⟨3, 0, .RW, .image⟩]⟩]

/-- Registers of chapter 11_lanes.md. -/
def regRows11a : List RegRow := [
  ⟨"PB_PORT_CFG", 0x8040000, [(16, 0x400000), (2, 0x40000), (4, 0x4)], 1, .block,
    [⟨31, 31, .RW, .image⟩, ⟨30, 28, .RW, .image⟩, ⟨27, 26, .RW, .image⟩, ⟨25, 23, .RW, .image⟩,
     ⟨22, 22, .RW, .image⟩]⟩,
  ⟨"PB_CELL_CTRL", 0x8040040, [(16, 0x400000), (2, 0x40000), (4, 0x4)], 1, .block,
    [⟨0, 0, .RW, .val 0x0⟩]⟩,
  ⟨"PB_SPARE_CFG", 0x8040080, [(16, 0x400000), (2, 0x40000)], 1, .block,
    [⟨31, 31, .RW, .image⟩, ⟨30, 30, .RW, .image⟩, ⟨27, 26, .RW, .image⟩, ⟨15, 8, .RW, .image⟩,
     ⟨7, 0, .RW, .image⟩]⟩,
  ⟨"TWIN_SPARE_CFG", 0xE000080, [], 1, .chip,
    [⟨31, 31, .RW, .image⟩, ⟨30, 30, .RW, .image⟩, ⟨15, 8, .RW, .image⟩, ⟨7, 0, .RW, .image⟩]⟩,
  ⟨"PB_SPARE_STATUS", 0x8040084, [(16, 0x400000), (2, 0x40000)], 1, .block,
    [⟨31, 30, .RO, .val 0x0⟩, ⟨4, 0, .RO, .val 0x1f⟩]⟩,
  ⟨"TWIN_SPARE_STATUS", 0xE000084, [], 1, .chip,
    [⟨31, 30, .RO, .val 0x0⟩, ⟨20, 16, .RO, .val 0x1f⟩, ⟨15, 14, .RO, .val 0x0⟩, ⟨4, 0, .RO, .val 0x1f⟩]⟩,
  ⟨"PB_SPARE_CTRL", 0x8040088, [(16, 0x400000), (2, 0x40000)], 1, .block,
    [⟨31, 31, .WO, .val 0x0⟩, ⟨30, 30, .WO, .val 0x0⟩, ⟨4, 0, .WO, .val 0x0⟩]⟩,
  ⟨"TWIN_SPARE_CTRL", 0xE000088, [], 1, .chip,
    [⟨31, 31, .WO, .val 0x0⟩, ⟨30, 30, .WO, .val 0x0⟩, ⟨4, 0, .WO, .val 0x0⟩]⟩,
  ⟨"PB_LANE_STATUS", 0x8041000, [(16, 0x400000), (2, 0x40000), (17, 0x100)], 1, .cell,
    [⟨31, 31, .RO, .val 0x0⟩, ⟨30, 30, .RO, .val 0x0⟩, ⟨29, 29, .RO, .val 0x0⟩, ⟨28, 28, .RO, .val 0x0⟩,
     ⟨27, 25, .RO, .val 0x0⟩, ⟨24, 23, .RO, .val 0x0⟩, ⟨22, 21, .RO, .val 0x0⟩, ⟨20, 20, .RO, .val 0x0⟩,
     ⟨7, 0, .RO, .val 0x0⟩]⟩,
  ⟨"TWIN_LANE_STATUS", 0xE001000, [(18, 0x100)], 1, .chip,
    [⟨31, 31, .RO, .val 0x0⟩, ⟨30, 30, .RO, .val 0x0⟩, ⟨29, 29, .RO, .val 0x0⟩, ⟨28, 28, .RO, .val 0x0⟩,
     ⟨27, 25, .RO, .val 0x0⟩, ⟨24, 23, .RO, .val 0x0⟩, ⟨22, 21, .RO, .val 0x0⟩, ⟨20, 20, .RO, .val 0x0⟩,
     ⟨7, 0, .RO, .val 0x0⟩]⟩,
  ⟨"PB_LANE_RX_EQ", 0x8041004, [(16, 0x400000), (2, 0x40000), (17, 0x100)], 1, .cell,
    [⟨31, 30, .RW, .image⟩, ⟨29, 25, .RW, .image⟩, ⟨24, 20, .RW, .image⟩, ⟨19, 15, .RW, .image⟩,
     ⟨14, 14, .RW, .val 0x0⟩, ⟨13, 13, .RW, .val 0x0⟩, ⟨12, 12, .RW, .val 0x0⟩, ⟨11, 11, .RW, .image⟩]⟩,
  ⟨"TWIN_LANE_RX_EQ", 0xE001004, [(18, 0x100)], 1, .chip,
    [⟨31, 30, .RW, .image⟩, ⟨29, 25, .RW, .image⟩, ⟨24, 20, .RW, .image⟩, ⟨19, 15, .RW, .image⟩,
     ⟨14, 14, .RW, .val 0x0⟩, ⟨13, 13, .RW, .val 0x0⟩, ⟨12, 12, .RW, .val 0x0⟩, ⟨11, 11, .RW, .image⟩]⟩,
  ⟨"PB_LANE_RX_RESULT", 0x8041008, [(16, 0x400000), (2, 0x40000), (17, 0x100)], 1, .cell,
    [⟨31, 27, .RO, .val 0x0⟩, ⟨26, 20, .RO, .val 0x0⟩, ⟨19, 12, .RO, .val 0x0⟩]⟩,
  ⟨"TWIN_LANE_RX_RESULT", 0xE001008, [(18, 0x100)], 1, .chip,
    [⟨31, 27, .RO, .val 0x0⟩, ⟨26, 20, .RO, .val 0x0⟩, ⟨19, 12, .RO, .val 0x0⟩]⟩,
  ⟨"PB_LANE_TX_EQ", 0x804100C, [(16, 0x400000), (2, 0x40000), (17, 0x100)], 1, .cell,
    [⟨27, 24, .RW, .image⟩, ⟨23, 20, .RW, .image⟩, ⟨19, 15, .RW, .image⟩, ⟨14, 10, .RW, .image⟩]⟩,
  ⟨"TWIN_LANE_TX_EQ", 0xE00100C, [(18, 0x100)], 1, .chip,
    [⟨27, 24, .RW, .image⟩, ⟨23, 20, .RW, .image⟩, ⟨19, 15, .RW, .image⟩, ⟨14, 10, .RW, .image⟩]⟩,
  ⟨"PB_LANE_PWR", 0x8041010, [(16, 0x400000), (2, 0x40000), (17, 0x100)], 1, .cell,
    [⟨31, 31, .RW, .val 0x0⟩, ⟨3, 2, .RW, .val 0x0⟩, ⟨1, 0, .RW, .val 0x0⟩]⟩,
  ⟨"TWIN_LANE_PWR", 0xE001010, [(18, 0x100)], 1, .chip,
    [⟨31, 31, .RW, .val 0x0⟩, ⟨3, 2, .RW, .val 0x0⟩, ⟨1, 0, .RW, .val 0x0⟩]⟩,
  ⟨"PB_LANE_LOOP", 0x8041014, [(16, 0x400000), (2, 0x40000), (17, 0x100)], 1, .cell,
    [⟨31, 29, .RW, .val 0x0⟩, ⟨28, 26, .RW, .val 0x0⟩, ⟨25, 25, .RW, .val 0x0⟩, ⟨24, 24, .RW, .val 0x0⟩,
     ⟨23, 23, .RO, .val 0x0⟩, ⟨22, 20, .RW, .val 0x0⟩]⟩,
  ⟨"TWIN_LANE_LOOP", 0xE001014, [(18, 0x100)], 1, .chip,
    [⟨31, 29, .RW, .val 0x0⟩, ⟨28, 26, .RW, .val 0x0⟩, ⟨25, 25, .RW, .val 0x0⟩, ⟨24, 24, .RW, .val 0x0⟩,
     ⟨23, 23, .RO, .val 0x0⟩, ⟨22, 20, .RW, .val 0x0⟩]⟩]

/-- Registers of chapter 11_lanes.md. -/
def regRows11b : List RegRow := [
  ⟨"PB_LANE_PRBS_ERR", 0x8041018, [(16, 0x400000), (2, 0x40000), (17, 0x100)], 1, .cell,
    [⟨31, 0, .RO, .val 0x0⟩]⟩,
  ⟨"TWIN_LANE_PRBS_ERR", 0xE001018, [(18, 0x100)], 1, .chip,
    [⟨31, 0, .RO, .val 0x0⟩]⟩,
  ⟨"PB_LANE_SYM_ERR", 0x8041020, [(16, 0x400000), (2, 0x40000), (17, 0x100)], 1, .cell,
    [⟨15, 0, .TC, .val 0x0⟩]⟩,
  ⟨"TWIN_LANE_SYM_ERR", 0xE001020, [(18, 0x100)], 1, .chip,
    [⟨15, 0, .TC, .val 0x0⟩]⟩,
  ⟨"PB_LANE_CNT_CLEAR", 0x80410FC, [(16, 0x400000), (2, 0x40000), (17, 0x100)], 1, .cell,
    [⟨0, 0, .WO, .val 0x0⟩]⟩,
  ⟨"TWIN_LANE_CNT_CLEAR", 0xE0010FC, [(18, 0x100)], 1, .chip,
    [⟨0, 0, .WO, .val 0x0⟩]⟩]

/-- Registers of chapter 12_link_layer.md. -/
def regRows12 : List RegRow := [
  ⟨"PB_LINK_STATUS", 0x8040200, [(16, 0x400000), (2, 0x40000), (4, 0x40)], 1, .cell,
    [⟨31, 29, .RO, .val 0x0⟩, ⟨28, 26, .RO, .val 0x0⟩, ⟨25, 23, .RO, .val 0x0⟩, ⟨22, 22, .RO, .val 0x0⟩,
     ⟨21, 20, .RO, .val 0x0⟩, ⟨19, 19, .RO, .val 0x0⟩, ⟨18, 18, .RO, .val 0x0⟩]⟩,
  ⟨"TWIN_LINK_STATUS", 0xE000200, [], 1, .chip,
    [⟨31, 29, .RO, .val 0x0⟩, ⟨28, 26, .RO, .val 0x0⟩, ⟨25, 23, .RO, .val 0x0⟩, ⟨22, 22, .RO, .val 0x0⟩,
     ⟨21, 20, .RO, .val 0x0⟩, ⟨19, 19, .RO, .val 0x0⟩, ⟨18, 18, .RO, .val 0x0⟩]⟩,
  ⟨"PB_LINK_CTRL", 0x8040204, [(16, 0x400000), (2, 0x40000), (4, 0x40)], 1, .cell,
    [⟨31, 31, .WO, .val 0x0⟩, ⟨30, 28, .RW, .val 0x7⟩]⟩,
  ⟨"TWIN_LINK_CTRL", 0xE000204, [], 1, .chip,
    [⟨31, 31, .WO, .val 0x0⟩, ⟨30, 28, .RW, .val 0x7⟩]⟩,
  ⟨"PB_LINK_OWN_CFG", 0x8040208, [(16, 0x400000), (2, 0x40000), (4, 0x40)], 1, .cell,
    [⟨31, 24, .RW, .image⟩, ⟨23, 12, .RW, .image⟩, ⟨11, 8, .RW, .image⟩]⟩,
  ⟨"TWIN_LINK_OWN_CFG", 0xE000208, [], 1, .chip,
    [⟨31, 24, .RW, .image⟩, ⟨23, 12, .RW, .image⟩, ⟨11, 8, .RW, .image⟩]⟩,
  ⟨"PB_LINK_CNT0", 0x8040210, [(16, 0x400000), (2, 0x40000), (4, 0x40)], 1, .cell,
    [⟨31, 16, .TC, .val 0x0⟩, ⟨15, 0, .TC, .val 0x0⟩]⟩,
  ⟨"TWIN_LINK_CNT0", 0xE000210, [], 1, .chip,
    [⟨31, 16, .TC, .val 0x0⟩, ⟨15, 0, .TC, .val 0x0⟩]⟩,
  ⟨"PB_LINK_CNT1", 0x8040214, [(16, 0x400000), (2, 0x40000), (4, 0x40)], 1, .cell,
    [⟨31, 16, .TC, .val 0x0⟩, ⟨15, 0, .TC, .val 0x0⟩]⟩,
  ⟨"TWIN_LINK_CNT1", 0xE000214, [], 1, .chip,
    [⟨31, 16, .TC, .val 0x0⟩, ⟨15, 0, .TC, .val 0x0⟩]⟩,
  ⟨"PB_LINK_CNT2", 0x8040218, [(16, 0x400000), (2, 0x40000), (4, 0x40)], 1, .cell,
    [⟨31, 16, .TC, .val 0x0⟩, ⟨15, 0, .TC, .val 0x0⟩]⟩,
  ⟨"TWIN_LINK_CNT2", 0xE000218, [], 1, .chip,
    [⟨31, 16, .TC, .val 0x0⟩, ⟨15, 0, .TC, .val 0x0⟩]⟩,
  ⟨"PB_LINK_CNT_CLEAR", 0x804023C, [(16, 0x400000), (2, 0x40000), (4, 0x40)], 1, .cell,
    [⟨5, 5, .WO, .val 0x0⟩, ⟨4, 4, .WO, .val 0x0⟩, ⟨3, 3, .WO, .val 0x0⟩, ⟨2, 2, .WO, .val 0x0⟩,
     ⟨1, 1, .WO, .val 0x0⟩, ⟨0, 0, .WO, .val 0x0⟩]⟩,
  ⟨"TWIN_LINK_CNT_CLEAR", 0xE00023C, [], 1, .chip,
    [⟨5, 5, .WO, .val 0x0⟩, ⟨4, 4, .WO, .val 0x0⟩, ⟨3, 3, .WO, .val 0x0⟩, ⟨2, 2, .WO, .val 0x0⟩,
     ⟨1, 1, .WO, .val 0x0⟩, ⟨0, 0, .WO, .val 0x0⟩]⟩]

/-- Registers of chapter 13_host_functions.md. -/
def regRows13 : List RegRow := [
  ⟨"STX_WIN_W0", 0x3400000, [(4096, 0x100), (16, 0x10)], 1, .chip,
    [⟨31, 31, .RW, .image⟩, ⟨30, 30, .RW, .image⟩, ⟨29, 29, .RW, .image⟩, ⟨28, 28, .RW, .image⟩,
     ⟨27, 24, .RW, .image⟩, ⟨15, 0, .RW, .image⟩]⟩,
  ⟨"STX_WIN_W1", 0x3400004, [(4096, 0x100), (16, 0x10)], 1, .chip,
    [⟨16, 0, .RW, .image⟩]⟩,
  ⟨"STX_WIN_W2", 0x3400008, [(4096, 0x100), (16, 0x10)], 1, .chip,
    [⟨15, 0, .RW, .image⟩]⟩,
  ⟨"PB_HOST_CNT", 0x8040220, [(16, 0x400000), (2, 0x40000), (4, 0x40)], 1, .cell,
    [⟨31, 16, .TC, .val 0x0⟩, ⟨15, 0, .TC, .val 0x0⟩]⟩,
  ⟨"PB_HOST_LATE", 0x8040224, [(16, 0x400000), (2, 0x40000), (4, 0x40)], 1, .cell,
    [⟨15, 0, .TC, .val 0x0⟩]⟩,
  ⟨"PB_HOST_CNT_CLEAR", 0x8040238, [(16, 0x400000), (2, 0x40000), (4, 0x40)], 1, .cell,
    [⟨2, 2, .WO, .val 0x0⟩, ⟨1, 1, .WO, .val 0x0⟩, ⟨0, 0, .WO, .val 0x0⟩]⟩,
  ⟨"PB_SLOT_CAP", 0x8040400, [(16, 0x400000), (2, 0x40000), (4, 0x10)], 1, .cell,
    [⟨31, 19, .RO, .image⟩, ⟨18, 18, .RO, .val 0x0⟩, ⟨17, 17, .RO, .val 0x0⟩, ⟨16, 15, .RO, .image⟩,
     ⟨14, 7, .RO, .image⟩, ⟨6, 6, .RO, .val 0x1⟩, ⟨5, 5, .RO, .val 0x0⟩, ⟨4, 4, .RO, .val 0x1⟩,
     ⟨3, 3, .RO, .val 0x1⟩, ⟨2, 2, .RO, .val 0x0⟩, ⟨1, 1, .RO, .val 0x1⟩, ⟨0, 0, .RO, .val 0x1⟩]⟩,
  ⟨"PB_SLOT_CTRL", 0x8040404, [(16, 0x400000), (2, 0x40000), (4, 0x10)], 1, .cell,
    [⟨24, 24, .W1C, .val 0x0⟩, ⟨23, 23, .RO, .val 0x0⟩, ⟨22, 22, .RO, .val 0x0⟩, ⟨21, 21, .RO, .val 0x0⟩,
     ⟨20, 20, .W1C, .val 0x0⟩, ⟨19, 19, .W1C, .val 0x0⟩, ⟨18, 18, .RO, .val 0x0⟩,
     ⟨17, 17, .W1C, .val 0x0⟩, ⟨16, 16, .W1C, .val 0x0⟩, ⟨12, 12, .RW, .val 0x0⟩, ⟨11, 11, .RO, .val 0x0⟩,
     ⟨10, 10, .RW, .val 0x1⟩, ⟨9, 8, .RW, .val 3⟩, ⟨7, 6, .RW, .val 3⟩, ⟨5, 5, .RW, .val 0x0⟩,
     ⟨4, 4, .RW, .val 0x0⟩, ⟨3, 3, .RW, .val 0x0⟩, ⟨2, 2, .RO, .val 0x0⟩, ⟨1, 1, .RW, .val 0x0⟩,
     ⟨0, 0, .RW, .val 0x0⟩]⟩,
  ⟨"STX_EP_ID", 0x3501000, [], 1, .chip,
    [⟨31, 16, .RW, .image⟩, ⟨15, 0, .RW, .image⟩]⟩,
  ⟨"STX_EP_ID2", 0x3501004, [], 1, .chip,
    [⟨31, 16, .RW, .image⟩, ⟨15, 0, .RW, .image⟩]⟩,
  ⟨"STX_PORT_FN_W0", 0x3500000, [(128, 0x10)], 1, .chip,
    [⟨31, 31, .RW, .image⟩, ⟨27, 22, .RW, .image⟩, ⟨21, 16, .RW, .image⟩, ⟨7, 0, .RW, .image⟩]⟩,
  ⟨"STX_PORT_FN_W1", 0x3500004, [(128, 0x10)], 1, .chip,
    [⟨26, 16, .RW, .image⟩, ⟨10, 0, .RW, .image⟩]⟩]

/-- Registers of chapter 14_structure_image.md. -/
def regRows14 : List RegRow := [
  ⟨"STX_TXN_CTRL", 0x2000000, [], 1, .chip,
    [⟨31, 31, .WO, .val 0x0⟩, ⟨3, 0, .WO, .val 0x0⟩]⟩,
  ⟨"STX_TXN_STATUS", 0x2000004, [], 1, .chip,
    [⟨31, 29, .RO, .val 0x0⟩, ⟨28, 28, .RO, .val 0x0⟩, ⟨27, 27, .RO, .val 0x0⟩, ⟨23, 20, .RO, .val 0x0⟩,
     ⟨7, 0, .RO, .val 0x0⟩]⟩,
  ⟨"STX_TXN_HANDLE", 0x2000008, [], 1, .chip,
    [⟨31, 0, .RW, .val 0x0⟩]⟩,
  ⟨"STX_EPOCH", 0x2000010, [], 1, .chip,
    [⟨31, 0, .RO, .image⟩]⟩,
  ⟨"STX_TXN_FAIL", 0x2000014, [], 1, .chip,
    [⟨31, 31, .RO, .val 0x0⟩, ⟨11, 8, .RO, .val 0x0⟩, ⟨7, 0, .RO, .val 0x0⟩]⟩,
  ⟨"STX_TXN_FAIL_ADDR", 0x2000018, [], 1, .chip,
    [⟨31, 0, .RO, .val 0x0⟩]⟩,
  ⟨"STX_TXN_CHANGES", 0x200001C, [], 1, .chip,
    [⟨16, 0, .RO, .val 0x0⟩]⟩,
  ⟨"STX_TXN_CFG", 0x2000020, [], 1, .chip,
    [⟨15, 0, .RW, .val 0x64⟩]⟩,
  ⟨"STX_IMG_STATUS", 0x2000100, [], 1, .chip,
    [⟨31, 31, .RO, .val 0x0⟩, ⟨30, 30, .RO, .val 0x0⟩, ⟨29, 29, .RO, .val 0x0⟩, ⟨28, 28, .RO, .val 0x0⟩,
     ⟨27, 26, .RO, .val 0x0⟩, ⟨15, 0, .RO, .val 0x0⟩]⟩,
  ⟨"STX_IMG_SEQ", 0x2000108, [], 2, .chip,
    [⟨63, 0, .RO, .val 0x0⟩]⟩,
  ⟨"STX_TXN_CNT", 0x2000200, [], 1, .chip,
    [⟨31, 16, .TC, .val 0x0⟩, ⟨15, 0, .TC, .val 0x0⟩]⟩,
  ⟨"STX_TXN_CNT_CLEAR", 0x20002FC, [], 1, .chip,
    [⟨1, 1, .WO, .val 0x0⟩, ⟨0, 0, .WO, .val 0x0⟩]⟩]

/-- Registers of chapter 15_twin_pairing.md. -/
def regRows15 : List RegRow := [
  ⟨"DIR_REMAP", 0x8180300, [(16, 0x400000), (2, 0x40000), (4, 0x20), (8, 0x4)], 1, .block,
    [⟨31, 31, .RWS, .val 0x0⟩, ⟨10, 0, .RWS, .val 0x0⟩]⟩,
  ⟨"TWIN_PAIR_CFG", 0xE010000, [], 1, .chip,
    [⟨31, 31, .RW, .image⟩, ⟨15, 0, .RW, .image⟩]⟩,
  ⟨"TWIN_PAIR_TAG", 0xE010004, [], 1, .chip,
    [⟨31, 0, .RW, .image⟩]⟩,
  ⟨"TWIN_PAIR_STATUS", 0xE010008, [], 1, .chip,
    [⟨31, 31, .RO, .pin⟩, ⟨30, 28, .RO, .val 0x0⟩, ⟨27, 27, .RO, .val 0x0⟩, ⟨26, 26, .RO, .val 0x0⟩,
     ⟨25, 25, .RO, .val 0x0⟩, ⟨24, 24, .RO, .val 0x0⟩, ⟨15, 0, .RO, .val 0x0⟩]⟩,
  ⟨"TWIN_PAIR_CTRL", 0xE01000C, [], 1, .chip,
    [⟨31, 31, .WO, .val 0x0⟩]⟩,
  ⟨"TWIN_HOMING", 0xE010010, [], 1, .chip,
    [⟨31, 0, .RO, .val 0x0⟩]⟩,
  ⟨"TWIN_ACTING", 0xE010014, [], 1, .chip,
    [⟨31, 0, .RO, .val 0x0⟩]⟩,
  ⟨"TWIN_JRN_STATUS", 0xE010020, [], 1, .chip,
    [⟨31, 0, .RO, .val 0x0⟩]⟩,
  ⟨"TWIN_TAKEOVER_CAUSE", 0xE010030, [], 1, .chip,
    [⟨31, 28, .RWS, .val 0x0⟩]⟩,
  ⟨"TWIN_TAKEOVER_TIME", 0xE010038, [], 2, .chip,
    [⟨63, 0, .RWS, .val 0x0⟩]⟩,
  ⟨"TWIN_SWEEP_STATUS", 0xE010040, [], 1, .chip,
    [⟨31, 31, .RO, .val 0x0⟩, ⟨15, 0, .RO, .val 0x0⟩]⟩,
  ⟨"TWIN_CNT0", 0xE010100, [], 1, .chip,
    [⟨31, 16, .TC, .val 0x0⟩, ⟨15, 0, .TC, .val 0x0⟩]⟩,
  ⟨"TWIN_CNT1", 0xE010104, [], 1, .chip,
    [⟨31, 16, .TC, .val 0x0⟩, ⟨15, 0, .TC, .val 0x0⟩]⟩,
  ⟨"TWIN_CNT_CLEAR", 0xE0101FC, [], 1, .chip,
    [⟨3, 3, .WO, .val 0x0⟩, ⟨2, 2, .WO, .val 0x0⟩, ⟨1, 1, .WO, .val 0x0⟩, ⟨0, 0, .WO, .val 0x0⟩]⟩]

/-- Registers of chapter 16_slot_power.md. -/
def regRows16 : List RegRow := [
  ⟨"SLOT_MAP", 0x1100000, [(32, 0x100)], 1, .package,
    [⟨31, 31, .RW, .image⟩, ⟨8, 8, .RW, .image⟩, ⟨6, 0, .RW, .image⟩]⟩,
  ⟨"SLOT_LIMIT", 0x1100004, [(32, 0x100)], 1, .package,
    [⟨31, 23, .RW, .image⟩, ⟨7, 0, .RW, .image⟩]⟩,
  ⟨"SLOT_FEED", 0x1100008, [(32, 0x100)], 1, .package,
    [⟨31, 31, .RW, .image⟩, ⟨30, 30, .RW, .image⟩, ⟨29, 29, .RW, .image⟩, ⟨28, 23, .RW, .image⟩,
     ⟨22, 16, .RW, .image⟩, ⟨15, 8, .RW, .image⟩]⟩,
  ⟨"SLOT_RAIL", 0x110000C, [(32, 0x100)], 1, .package,
    [⟨31, 24, .RW, .image⟩, ⟨23, 16, .RW, .image⟩, ⟨15, 11, .RW, .image⟩, ⟨7, 0, .RW, .image⟩]⟩,
  ⟨"SLOT_TIMING", 0x1100010, [(32, 0x100)], 1, .package,
    [⟨31, 24, .RW, .image⟩, ⟨23, 16, .RW, .image⟩, ⟨15, 8, .RW, .image⟩]⟩,
  ⟨"SLOT_STATUS", 0x1100020, [(32, 0x100)], 1, .package,
    [⟨31, 29, .RO, .val 0x0⟩, ⟨28, 28, .RO, .val 0x0⟩, ⟨27, 27, .RO, .val 0x0⟩, ⟨26, 26, .RO, .val 0x0⟩,
     ⟨25, 25, .RO, .val 0x0⟩, ⟨24, 24, .RO, .val 0x1⟩, ⟨23, 23, .RO, .val 0x0⟩, ⟨22, 22, .RO, .val 0x0⟩,
     ⟨21, 18, .RO, .val 0x0⟩, ⟨7, 0, .RO, .val 0x0⟩]⟩,
  ⟨"SLOT_MEAS", 0x1100024, [(32, 0x100)], 1, .package,
    [⟨31, 16, .RO, .val 0x0⟩, ⟨15, 0, .RO, .val 0x0⟩]⟩,
  ⟨"SLOT_CNT0", 0x1100080, [(32, 0x100)], 1, .package,
    [⟨31, 16, .TC, .val 0x0⟩, ⟨15, 0, .TC, .val 0x0⟩]⟩,
  ⟨"SLOT_CNT1", 0x1100084, [(32, 0x100)], 1, .package,
    [⟨31, 16, .TC, .val 0x0⟩, ⟨15, 0, .TC, .val 0x0⟩]⟩,
  ⟨"SLOT_CNT_CLEAR", 0x11000FC, [(32, 0x100)], 1, .package,
    [⟨3, 3, .WO, .val 0x0⟩, ⟨2, 2, .WO, .val 0x0⟩, ⟨1, 1, .WO, .val 0x0⟩, ⟨0, 0, .WO, .val 0x0⟩]⟩,
  ⟨"SLOT_SB", 0x1120000, [], 1, .package,
    [⟨31, 31, .RW, .image⟩, ⟨30, 30, .RO, .val 0x0⟩, ⟨5, 0, .RW, .image⟩]⟩]

/-- Registers of chapter 17_reset_and_bringup.md. -/
def regRows17 : List RegRow := [
  ⟨"RST_RESET_CAUSE", 0x1000, [], 1, .package,
    [⟨31, 27, .RWS, .val 0x0⟩, ⟨26, 24, .RWS, .val 0x0⟩, ⟨22, 16, .RWS, .val 0x0⟩,
     ⟨15, 15, .RO, .val 0x0⟩, ⟨14, 10, .RO, .val 0x0⟩, ⟨9, 7, .RO, .val 0x0⟩]⟩,
  ⟨"RST_SRC_MAP", 0x1100, [(24, 0x4)], 1, .package,
    [⟨27, 25, .RO, .fuse⟩, ⟨24, 22, .RW, .image⟩, ⟨21, 19, .RO, .fuse⟩, ⟨18, 16, .RO, .fuse⟩,
     ⟨2, 0, .RO, .fuse⟩]⟩,
  ⟨"RST_OTP_CTRL", 0x1180, [], 1, .package,
    [⟨31, 31, .WO, .val 0x0⟩, ⟨30, 30, .RO, .val 0x0⟩, ⟨23, 16, .RO, .val 0x0⟩, ⟨12, 8, .RW, .val 0x0⟩,
     ⟨2, 0, .RW, .val 0x0⟩]⟩,
  ⟨"RST_SW", 0x1200, [], 1, .package,
    [⟨31, 31, .WO, .val 0x0⟩, ⟨10, 8, .WO, .val 0x0⟩, ⟨6, 0, .WO, .val 0x0⟩]⟩,
  ⟨"RST_TWIN_ORDER", 0x1204, [], 1, .package,
    [⟨31, 31, .WO, .val 0x0⟩]⟩,
  ⟨"RST_GLITCH_CNT", 0x1080, [], 1, .package,
    [⟨31, 16, .TC, .val 0x0⟩, ⟨15, 0, .TC, .val 0x0⟩]⟩,
  ⟨"RST_RESET_CNT_CLEAR", 0x10FC, [], 1, .package,
    [⟨1, 1, .WO, .val 0x0⟩, ⟨0, 0, .WO, .val 0x0⟩]⟩,
  ⟨"RST_SUP_STATUS", 0x1001000, [], 1, .package,
    [⟨31, 31, .RO, .val 0x0⟩, ⟨30, 30, .RO, .val 0x0⟩, ⟨29, 29, .RO, .val 0x0⟩, ⟨28, 28, .RO, .val 0x0⟩,
     ⟨27, 27, .RO, .val 0x0⟩, ⟨15, 0, .RO, .val 0x0⟩]⟩,
  ⟨"RST_SUP_CNT", 0x1001080, [], 1, .package,
    [⟨31, 16, .TC, .val 0x0⟩, ⟨15, 0, .TC, .val 0x0⟩]⟩,
  ⟨"RST_SUP_CNT_CLEAR", 0x10010FC, [], 1, .package,
    [⟨1, 1, .WO, .val 0x0⟩, ⟨0, 0, .WO, .val 0x0⟩]⟩,
  ⟨"STX_IMG_LOAD", 0x2000300, [], 1, .chip,
    [⟨31, 31, .WO, .val 0x0⟩, ⟨30, 30, .RO, .val 0x0⟩, ⟨29, 29, .RW, .val 0x0⟩, ⟨23, 16, .RO, .val 0x0⟩,
     ⟨9, 0, .RW, .val 0x0⟩]⟩,
  ⟨"RST_BRINGUP", 0x1010, [], 1, .package,
    [⟨31, 31, .RO, .val 0x0⟩, ⟨30, 30, .RO, .val 0x0⟩, ⟨25, 24, .RWS, .val 0x0⟩, ⟨3, 0, .RO, .val 0x0⟩]⟩]

/-- Registers of chapter 18_events_and_counters.md. -/
def regRows18a : List RegRow := [
  ⟨"EVT_ROUTE", 0x4000000, [(512, 0x4)], 1, .package,
    [⟨31, 31, .RW, .image⟩, ⟨30, 30, .RW, .image⟩, ⟨29, 29, .RW, .image⟩, ⟨28, 27, .RW, .image⟩,
     ⟨26, 20, .RW, .image⟩, ⟨19, 12, .RW, .image⟩, ⟨10, 0, .RW, .image⟩]⟩,
  ⟨"EVT_PEND", 0x4001000, [(16, 0x4)], 1, .package,
    [⟨31, 0, .W1C, .val 0x0⟩]⟩,
  ⟨"EVT_SUMMARY", 0x4001040, [], 1, .package,
    [⟨16, 16, .RO, .val 0x0⟩, ⟨15, 0, .RO, .val 0x0⟩]⟩,
  ⟨"EVT_TWIN_PEND", 0x4001100, [(16, 0x4)], 1, .package,
    [⟨31, 0, .W1C, .val 0x0⟩]⟩,
  ⟨"EVT_PERSIST_SEL", 0x4002000, [(256, 0x4)], 1, .package,
    [⟨31, 31, .RW, .image⟩, ⟨27, 2, .RW, .image⟩]⟩,
  ⟨"EVT_PERSIST_CFG", 0x4002400, [], 1, .package,
    [⟨31, 31, .RW, .image⟩, ⟨15, 0, .RW, .image⟩]⟩,
  ⟨"EVT_PERSIST_STATUS", 0x4002404, [], 1, .package,
    [⟨31, 31, .RO, .val 0x0⟩, ⟨30, 30, .RO, .val 0x0⟩, ⟨29, 29, .W1C, .val 0x0⟩, ⟨15, 0, .RO, .val 0x0⟩]⟩,
  ⟨"PERF_CHIP_CTR_SEL", 0x4004000, [(64, 0x20)], 1, .chip,
    [⟨31, 31, .RW, .val 0x0⟩, ⟨30, 30, .RW, .val 0x0⟩, ⟨29, 29, .RW, .val 0x0⟩, ⟨28, 28, .RW, .val 0x0⟩,
     ⟨27, 24, .RW, .val 0x0⟩, ⟨23, 16, .RW, .val 0x0⟩, ⟨15, 0, .RW, .val 0x0⟩]⟩,
  ⟨"PERF_RGN_CTR_SEL", 0x82C0000, [(16, 0x400000), (16, 0x20)], 1, .region,
    [⟨31, 31, .RW, .val 0x0⟩, ⟨30, 30, .RW, .val 0x0⟩, ⟨29, 29, .RW, .val 0x0⟩, ⟨28, 28, .RW, .val 0x0⟩,
     ⟨23, 16, .RW, .val 0x0⟩, ⟨15, 0, .RW, .val 0x0⟩]⟩,
  ⟨"PERF_CHIP_CTR_THRESH", 0x4004004, [(64, 0x20)], 1, .chip,
    [⟨15, 0, .RW, .val 0x0⟩]⟩,
  ⟨"PERF_RGN_CTR_THRESH", 0x82C0004, [(16, 0x400000), (16, 0x20)], 1, .region,
    [⟨15, 0, .RW, .val 0x0⟩]⟩,
  ⟨"PERF_CHIP_CTR_VALUE", 0x4004008, [(64, 0x20)], 2, .chip,
    [⟨47, 0, .RW, .val 0x0⟩]⟩,
  ⟨"PERF_RGN_CTR_VALUE", 0x82C0008, [(16, 0x400000), (16, 0x20)], 2, .region,
    [⟨47, 0, .RW, .val 0x0⟩]⟩,
  ⟨"PERF_CHIP_CTR_TENANT", 0x4004010, [(64, 0x20)], 1, .chip,
    [⟨31, 31, .RW, .val 0x0⟩, ⟨23, 16, .RW, .val 0x0⟩, ⟨11, 0, .RW, .val 0x0⟩]⟩,
  ⟨"PERF_RGN_CTR_TENANT", 0x82C0010, [(16, 0x400000), (16, 0x20)], 1, .region,
    [⟨31, 31, .RW, .val 0x0⟩, ⟨23, 16, .RW, .val 0x0⟩, ⟨11, 0, .RW, .val 0x0⟩]⟩,
  ⟨"PERF_CHIP_CTR_STATUS", 0x4004014, [(64, 0x20)], 1, .chip,
    [⟨1, 1, .RO, .val 0x0⟩, ⟨0, 0, .W1C, .val 0x0⟩]⟩,
  ⟨"PERF_RGN_CTR_STATUS", 0x82C0014, [(16, 0x400000), (16, 0x20)], 1, .region,
    [⟨1, 1, .RO, .val 0x0⟩, ⟨0, 0, .W1C, .val 0x0⟩]⟩,
  ⟨"PERF_SNAP_CTRL", 0x4005000, [], 1, .package,
    [⟨31, 31, .RW, .val 0x0⟩, ⟨30, 30, .RW, .val 0x0⟩, ⟨19, 0, .RW, .val 0x0⟩]⟩,
  ⟨"PERF_SNAP_BASE", 0x4005008, [], 2, .package,
    [⟨33, 0, .RW, .val 0x0⟩]⟩,
  ⟨"PERF_SNAP_SIZE", 0x4005010, [], 1, .package,
    [⟨17, 0, .RW, .val 0x0⟩]⟩]

/-- Registers of chapter 18_events_and_counters.md. -/
def regRows18b : List RegRow := [
  ⟨"PERF_SNAP_WRITE", 0x4005014, [], 1, .package,
    [⟨17, 0, .RO, .val 0x0⟩]⟩,
  ⟨"PERF_SNAP_READ", 0x4005018, [], 1, .package,
    [⟨17, 0, .RW, .val 0x0⟩]⟩,
  ⟨"PERF_SNAP_CNT", 0x4005100, [], 1, .package,
    [⟨31, 16, .TC, .val 0x0⟩, ⟨15, 0, .TC, .val 0x0⟩]⟩,
  ⟨"PERF_SNAP_CNT_CLEAR", 0x40051FC, [], 1, .package,
    [⟨1, 1, .WO, .val 0x0⟩, ⟨0, 0, .WO, .val 0x0⟩]⟩]

/-- Registers of chapter 19_package_electrical.md. -/
def regRows19 : List RegRow := [
  ⟨"RST_TEMP", 0x300, [], 1, .chip,
    [⟨23, 16, .RO, .val 0x0⟩, ⟨11, 8, .RO, .val 0x0⟩, ⟨7, 0, .RO, .val 0x0⟩]⟩]

/-- Every register of the management space. -/
def regRows : List RegRow :=
  regRows01 ++
  regRows02 ++
  regRows03 ++
  regRows04 ++
  regRows05 ++
  regRows06a ++
  regRows06b ++
  regRows07 ++
  regRows08 ++
  regRows09 ++
  regRows10a ++
  regRows10b ++
  regRows10c ++
  regRows11a ++
  regRows11b ++
  regRows12 ++
  regRows13 ++
  regRows14 ++
  regRows15 ++
  regRows16 ++
  regRows17 ++
  regRows18a ++
  regRows18b ++
  regRows19

end Sys2Proof.Machine
end

