-- ==== Sys2Proof/Machine/Flags.lean ====
section
/-! DEFINITION. Bit fields of register words (R3), the register map as an address decoder, reset words (R14) and
the writable bits of each access code (R13). -/

namespace Sys2Proof.Machine

/-- Bits [hi:lo] of a word as a number. -/
def fld (w : Word) (hi lo : Nat) : Nat := w.toNat / 2 ^ lo % 2 ^ (hi + 1 - lo)

/-- Bit `i` of a word. -/
def bitAt (w : Word) (i : Nat) : Bool := w.getLsbD i

/-- A word of ones in bits [hi:lo]. -/
def maskBits (hi lo : Nat) : Word := BitVec.ofNat 32 ((2 ^ (hi + 1 - lo) - 1) * 2 ^ lo)

/-- `w` with bits [hi:lo] set to `v`, taken modulo the field's size. -/
def putFld (w : Word) (hi lo v : Nat) : Word :=
  (w &&& ~~~ maskBits hi lo) ||| BitVec.ofNat 32 (v % 2 ^ (hi + 1 - lo) * 2 ^ lo)

/-- The part of field [hi:lo] of a wide register that lies in word `i`, as bits of that word (R7). -/
def partHi (f : RegField) (i : Nat) : Nat := min (f.hi - 32 * i) 31
def partLo (f : RegField) (i : Nat) : Nat := f.lo - 32 * i
/-- Field `f` has bits in word `i` of its register. -/
def RegField.inWord (f : RegField) (i : Nat) : Bool := decide (f.lo < 32 * i + 32) && decide (32 * i ≤ f.hi)
/-- The bits of word `i` that field `f` covers. -/
def RegField.mask (f : RegField) (i : Nat) : Word :=
  if f.inWord i then maskBits (partHi f i) (partLo f i) else 0

/-- What is left of an offset after the indices of a register row, and whether every index is in range. -/
def stripDims (rem : Nat) (dims : List (Nat × Nat)) : Option Nat :=
  match dims with
  | [] => some rem
  | (n, stride) :: t => if rem / stride < n then stripDims (rem % stride) t else none

/-- The word of row `r` that offset `off` names. -/
def RegRow.word (r : RegRow) (off : Nat) : Option Nat :=
  if off < r.base then none
  else
    match stripDims (off - r.base) r.dims with
    | some rem => if rem % 4 = 0 ∧ rem / 4 < r.words then some (rem / 4) else none
    | none => none

/-- The register of the map that holds offset `off`, with the word's place in it (R46, R47). -/
def findIn (rows : List RegRow) (off : Nat) : Option (RegRow × Nat) :=
  match rows with
  | [] => none
  | r :: t =>
    match r.word off with
    | some i => some (r, i)
    | none => findIn t off
def findReg (off : Nat) : Option (RegRow × Nat) := findIn regRows off

/-- The OR of `f` over the fields of word `i`. -/
def orFields (fs : List RegField) (i : Nat) (p : RegField → Bool) : Word :=
  match fs with
  | [] => 0
  | f :: t => (if p f then f.mask i else 0) ||| orFields t i p

/-- STX_EPOCH is no structural field although its entry is "image" (R433). -/
def RegField.structural (off : Nat) (f : RegField) : Bool :=
  decide (f.rst = .image) && decide (off ≠ R.STX_EPOCH)

/-- The structural bits of the word at `off` (R31, R433). -/
def structMask (off : Nat) : Word :=
  match findReg off with
  | some (r, i) => orFields r.fields i (fun f => f.structural off)
  | none => 0

/-- The bits of the word at `off` whose field has access code `a`. -/
def accMask (off : Nat) (a : Acc) : Word :=
  match findReg off with
  | some (r, i) => orFields r.fields i (fun f => decide (f.acc = a))
  | none => 0

/-- The trouble-counter bits of the word at `off` (R544). -/
def counterMask (off : Nat) : Word := accMask off .TC

/-- Reset value of one field's part in word `i`. Image, fuse and pin entries are held elsewhere. -/
def RegField.resetBits (f : RegField) (i : Nat) : Word :=
  match f.rst with
  | .val v => if f.inWord i then BitVec.ofNat 32 (v * 2 ^ f.lo / 2 ^ (32 * i) % 2 ^ 32) else 0
  | _ => 0
def resetOf (fs : List RegField) (i : Nat) : Word :=
  match fs with
  | [] => 0
  | f :: t => f.resetBits i ||| resetOf t i

/-- The value of the word at `off` after a reset of its level, structural bits zero (R14). -/
def resetWord (off : Nat) : Word :=
  match findReg off with
  | some (r, i) => resetOf r.fields i
  | none => 0

/-- The level whose reset clears the word at `off`. -/
def levelOf (off : Nat) : RegLevel :=
  match findReg off with
  | some (r, _) => r.level
  | none => .package

/-- A write's effect on the stored word by the access codes of its fields (R13), structural fields left alone:
RW and RWS fields take the value, W1C bits clear, W1S bits set. -/
def writeBits (off : Nat) (cur val : Word) : Word :=
  let rw := (accMask off .RW ||| accMask off .RWS ||| accMask off .RWL) &&& ~~~ structMask off
  let c := accMask off .W1C
  let st := accMask off .W1S &&& ~~~ structMask off
  ((cur &&& ~~~ rw) ||| (val &&& rw)) &&& ~~~ (val &&& c) ||| (val &&& st)

/-- The half of a counter word after one more occurrence: it stops at 0xFFFF (R544). -/
def satUp (c : Nat) : Nat := if c < 0xFFFF then c + 1 else 0xFFFF

end Sys2Proof.Machine
end

