-- ==== Sys2Proof/Machine/Sparse.lean ====
section
/-! DEFINITION. Sparse arrays as plain data: pairs of an index and an entry, indices strictly rising, and no
entry equal to what an unlisted index reads as. Every large array of the device (registers, directory ways,
cells, the store) is held so. -/

namespace Sys2Proof.Machine

/-- A sparse array of `α`. -/
abbrev SMap (α : Type) := List (Nat × α)

/-- The listed entry at index `k`. -/
def sFind {α : Type} (m : SMap α) (k : Nat) : Option α :=
  match m with
  | [] => none
  | (k', v) :: t => if k' = k then some v else sFind t k

/-- The entry at index `k`, `d` where none is listed. -/
def sGet {α : Type} (m : SMap α) (k : Nat) (d : α) : α := (sFind m k).getD d

/-- List entry `v` at index `k`, in rising order. -/
def sIns {α : Type} (m : SMap α) (k : Nat) (v : α) : SMap α :=
  match m with
  | [] => [(k, v)]
  | (k', v') :: t =>
    if k < k' then (k, v) :: (k', v') :: t
    else if k = k' then (k, v) :: t
    else (k', v') :: sIns t k v

/-- Unlist index `k`. -/
def sDel {α : Type} (m : SMap α) (k : Nat) : SMap α := m.filter (fun p => p.1 != k)

/-- Write `v` at index `k` of an array whose unlisted entries read as `d`. -/
def sPut {α : Type} [DecidableEq α] (m : SMap α) (k : Nat) (d v : α) : SMap α :=
  if v = d then sDel m k else sIns m k v

/-- Unlist every index that `p` holds of. -/
def sDrop {α : Type} (m : SMap α) (p : Nat → Bool) : SMap α := m.filter (fun q => ! p q.1)

/-- The canonical form: indices strictly rising and no entry equal to its default. -/
def sWf {α : Type} [DecidableEq α] (m : SMap α) (d : Nat → α) : Bool :=
  match m with
  | [] => true
  | (k, v) :: t =>
    (match t with
     | [] => true
     | (k', _) :: _ => decide (k < k')) && decide (v ≠ d k) && sWf t d

end Sys2Proof.Machine
end

