-- ==== Sys2Proof/Machine/State.lean ====
section
/-! DEFINITION. The state of the VXB128 as plain data: the registers and structure banks, and behind them what
each unit holds that no register shows; the outcomes of a command; the state at package-level reset. -/

namespace Sys2Proof.Machine

/-- Why a command stops with a fault. -/
inductive Fault where
  /-- Raised by the SPI-mode commands at a store offset of 256 MiB or more: the store has no such byte (R441).
  Safe: the model stops where the spec gives nothing. -/
  | storeOutside
deriving DecidableEq, Repr

/-- Why a command is refused. -/
inductive Refusal where
  /-- The command has no meaning in the model yet. Raised by its arm of `exec`. Safe. -/
  | notModelled (mnemonic : String)
deriving DecidableEq, Repr

/-- A unit that a reset holds (R519). -/
inductive RUnit where
  | cell (c : Fin 128)
  | coach (k : Fin 256)
  | bank (b : Fin 128)
  | portBlock (b : Fin 32)
  | coachGroup (g : Fin 64)
  | slice (s : Fin 32)
  | region (n : Fin 16)
  | chip
  | package
deriving DecidableEq, Repr

/-- A non-volatile page program under way in SPI mode (R571). -/
inductive SpiOp where
  | program (off : BitVec 32) (data : List Byte)
  | erase (off : BitVec 32)
deriving DecidableEq, Repr

/-- An access of a management interface that the keeper performs, in arrival order (R570, R296): the 32-bit accesses that
remain, the first of them under way, the words read so far, and the KTAG of the KprAcc that is out. -/
structure KAcc where
  init : FabInit
  left : List (Offset × Option Word)
  got : List Word
  tag : Option (BitVec 8)
deriving DecidableEq, Repr

/-- What the dies, the keeper, the reset controller and the management interfaces hold (01, 17, 19). -/
structure Dev where
  /-- PAIR_ID as sampled at the release of package-level reset (R462). -/
  pid : Bool
  /-- The fabric die is held in chip-level reset (R21). -/
  fabReset : Bool
  /-- Package-level reset is held (R527). -/
  pkgReset : Bool
  /-- The keeper cores run (R33, R571). -/
  keeperRun : Bool
  /-- The SPI-mode pin set is enabled and the keeper cores are held (R571). -/
  spiMode : Bool
  /-- Units that a management parent has fenced, coaches, slices and regions (R30); cells show FENCE. -/
  fenced : List FenceUnit
  /-- Units that a reset below chip level holds (R519). -/
  held : List RUnit
  /-- A software reset of chip or package level that waits for the handover of R521. -/
  swDeferred : Option (BitVec 3)
  /-- The source of a chip-level fault that waits for the handover of R26. -/
  faultDeferred : Option Nat
  /-- The keeper watchdog has restarted the cores once (R524). -/
  wdRestarted : Bool
  /-- One-time-programmable entries of the reset sources, level by source (R523); unlisted: not programmed. -/
  otp : SMap (BitVec 3)
  /-- The entries that the fuse shadow holds since the last package-level reset (R523). -/
  otpShadow : SMap (BitVec 3)
  /-- IMAGE entries of RST_SRC_MAP in force, by source (R458); unlisted: none. -/
  imgLevel : SMap (BitVec 3)
  /-- Slots A and B have failed structure load since the last package-level reset (R443). -/
  failedA : Bool
  failedB : Bool
  /-- The fabric die is held because no slot can be booted or start-ups failed (R444, R536). -/
  stuck : Bool
  /-- A third start-up in succession has failed: the keeper stops at the release (R536). -/
  stopDue : Bool
  /-- REFCLK is lost or the root PLL has not held lock for 100 µs since (R40, R41). -/
  clkBad : Bool
  /-- Ports whose PORT_PERST_N is asserted (R522). -/
  perst : List (Fin 128)
  /-- Management accesses not yet answered, oldest first, and the next KTAG (R296, R570). -/
  kq : List KAcc
  ktag : BitVec 8
  /-- The event of a recorded cause waits for structure load (event 2 of R538). -/
  causeEvent : Bool
  /-- A reset-cause record waits for the end of supply trouble (R532). -/
  causeDeferred : Bool
  /-- Start-up is the first since a package-level reset (R548). -/
  afterPackage : Bool
  /-- The journal sequence of the last page (R547). -/
  jseq : BitVec 64
  /-- A journal page is being written: its bytes go to the store when it completes (R546). -/
  jpage : Option (List Byte)
  /-- Offset latched by the SMBus/I2C target (R569). -/
  smbOffset : BitVec 32
  /-- SPI mode: write enabled, FAIL, and the program or erase under way (R571). -/
  spiWel : Bool
  spiFail : Bool
  spiOp : Option SpiOp
  /-- MSI-X table words of the management endpoint, by word index; unlisted: reset value (R568). -/
  mgmtMsix : SMap Word
  /-- Units whose fault waits, as raised events, for the management parent to leave reset (R32). -/
  faultsHeld : List FenceUnit
  /-- The image buffer STX_IMG_BUF, by word; unlisted words read zero (R533). -/
  imgBuf : SMap Word
  /-- Routers out of service after a parity error (R293). -/
  routersOut : List Nat
deriving DecidableEq, Repr

/-- What the structure transaction unit holds that no register shows (14). -/
structure Txn where
  /-- The handle of the open transaction on this twin. -/
  handle : Handle
  /-- The pair-wide serial last issued (R446). -/
  serial : BitVec 24
  /-- The owner of the transaction on this twin: none until JOIN on the other twin (R447). -/
  owner : Option FabInit
  /-- The transaction is also open on the other twin (R446). -/
  both : Bool
  /-- Mirrored writes awaiting SHADOW_ACK, as offsets (R453 step 1). -/
  unacked : List Offset
  /-- Commit: PREPARE sent, PREPARED received, own drain done, SWITCH sent (R453). -/
  sentPrepare : Bool
  gotPrepared : Bool
  drained : Bool
  sentSwitch : Bool
  /-- The other twin's side: PREPARE received and valid, PREPARED sent, and the epoch named (R453 step 3). -/
  gotPrepare : Bool
  sentPrepared : Bool
  newEpoch : BitVec 32
  /-- ABORT is owed to the other twin when the link returns (R457). -/
  abortOwed : Option Handle
  /-- COMMIT has been accepted and waits for acknowledgements of mirrored writes (step 1 of R453). -/
  validated : Bool
  /-- A persist under way: the image being written (R459, R460). -/
  image : Option (List Byte)
  /-- An STX_IMG_LOAD under way: the 64 KiB being programmed (R533). -/
  loading : Option (List Byte)
  /-- Live value of each word of the binding table at the transaction's first write to it (R69). -/
  expect : SMap Word
deriving DecidableEq, Repr

/-- The structure banks (R31, R453, R454): structural bits by word offset, unlisted words zero. -/
structure Banks where
  /-- The active bank, of the current epoch. -/
  live : SMap Word
  /-- The inactive bank. -/
  old : SMap Word
  /-- Words that the open transaction has changed, whole (R448, R450). -/
  shadow : SMap Word
deriving DecidableEq, Repr

/-- Kinds of a Dynamic Capacity Event Record (R51, R70, R74). -/
inductive DcKind where
  | addCapacity | releaseCapacity | forcedRelease
deriving DecidableEq, Repr

/-- A Dynamic Capacity Event Record of a pool view, with its event record handle. Lengths in GiB; the extent tag (R51). -/
structure DcEvent where
  handle : Nat
  kind : DcKind
  seg : Nat
  length : Nat
  tag : BitVec 128
deriving DecidableEq, Repr

/-- A mailbox command of a pool view that waits for the other twin's acknowledgements or for a purge sweep (R68,
R76). -/
structure MboxWait where
  port : Fin 128
  release : Bool
  /-- Segments whose BIND_ACK is awaited. -/
  acks : List Nat
  /-- Segments whose purge sweep is awaited. -/
  sweeps : List Nat
  /-- Segments of a release that become UNBOUND when nothing is awaited any more. -/
  segs : List Nat
deriving DecidableEq, Repr

/-- Who waits for a carve-out line: a CXL.mem request of a host, a peer-window TLP by its number, a coach (R81). -/
inductive TagUser where
  | host (c : Instr) (epoch : Bool)
  | peer (id : Nat)
  | coach (k : Nat)
deriving DecidableEq, Repr

/-- A carve-out line that a region is reading (R81): who waits for it, and whether it has been read once more after an
error (R82). -/
structure TagWait where
  region : Fin 16
  line : LAddr
  again : Bool
  /-- The line was dropped while its read was under way: it is read again (R78, R83). -/
  stale : Bool
  held : List TagUser
deriving DecidableEq, Repr

/-- Pool views, tag caches and colour initialisation (02). -/
structure Pool where
  /-- Event records of each pool view, oldest first, and the next handle, by port. -/
  events : SMap (List DcEvent)
  nextHandle : SMap Nat
  /-- Extents of each pool view that are accepted, by port: (first segment, GiB). -/
  extents : SMap (List (Nat × Nat))
  waits : List MboxWait
  /-- Purge sweeps under way: (port, segment); those that the other twin's release has asked for, whose BIND is acknowledged
  when they are done (R68, R75). -/
  sweeps : List (Fin 128 × Nat)
  asked : List (Fin 128 × Nat)
  /-- Tag-cache sets: lines with their data, most recently used first, by region × 512 + set (R80). -/
  tags : SMap (List (LAddr × LineData))
  tagWaits : List TagWait
  /-- Segments that became valid and whose colours are not yet initialised, and whether the fill runs, on this twin or the
  partner that coordinated; this twin coordinated the commit (R78). -/
  colourInit : List Nat
  colourRunning : Bool
  colourMine : Bool
deriving DecidableEq, Repr

/-- An input buffer of a router or spine node that holds a message, and the message's place among the arrivals (R277). -/
structure Place where
  node : Nat
  port : Nat
  num : Nat
deriving DecidableEq, Repr

/-- A message on the internal network: the command by which it arrives, its network and length, and the sideband that its
flits carry (R280): INIT, DEST, CRED, SEQ, STAMP, the hop codes that remain, and the route channel. `place`: the input buffer
in which a reported arrival of its header has put it; none before the first (assumption 130). -/
structure Msg where
  cmd : Instr
  init : Nat
  dest : Nat
  net : Net
  cred : Bool
  flits : Nat := 1
  seq : BitVec 8 := 0
  stamp : BitVec 16 := 0
  route : BitVec 21 := 0
  rvc : Bool := false
  place : Option Place := none
deriving DecidableEq, Repr

/-- A token bucket as what it lacks of its full burst at a time: full is ⟨0, 0⟩ (R297, R301). -/
structure Bucket where
  missing : Nat
  time : Nat
deriving DecidableEq, Repr

/-- The message whose answers a reservation is held for (R287). `copy`: the region that a broadcast's message goes to, 16 for
the one to the twin node. -/
inductive ResvFor where
  | request (agent : Agent) (rtag : BitVec 10)
  | steal (thief : Agent)
  | journal (slice : Nat) (jseq : BitVec 16)
  | keeper (ktag : BitVec 8)
  | tagInv (house : Nat) (line : LAddr) (copy : Nat)
  | migration (slot : Nat) (kind : MigKind) (copy : Nat)
  | dirty (agent : Agent) (txn : Nat)
deriving DecidableEq, Repr

/-- A reservation of an interface: the RSP and DAT flits that the answers may take (R287). -/
structure Resv where
  endpoint : Nat
  what : ResvFor
  rsp : Nat
  dat : Nat
deriving DecidableEq, Repr

/-- An interface that waits for the echoes of its DrainMarks after a route change (R283): the networks whose echo is
awaited. -/
structure Drain where
  init : Nat
  set : Nat
  node : Nat
  nets : List Net
deriving DecidableEq, Repr

/-- The internal network (08). -/
structure Noc where
  /-- The cell-time count; the network's STAMP takes it modulo 65,536 (R280). -/
  cellTime : Nat
  /-- Credits taken and not returned, by (initiator × 98 + destination) × 4 + network (R286). -/
  taken : SMap Nat
  /-- Next SEQ to send and next expected, under the same keys (R289). -/
  txSeq : SMap (BitVec 8)
  rxSeq : SMap (BitVec 8)
  /-- Messages that wait at their interface for a credit, a regulator or a drain, oldest first. -/
  queue : List Msg
  resv : List Resv
  /-- Regulator buckets, in sixteenths of a flit, by initiator × 4 + network (R297). -/
  buckets : SMap Bucket
  drains : List Drain
  /-- Rotating pointer over the input ports, by (node × 8 + hop code) × 4 + network (R278). -/
  hopPtr : SMap Nat
  /-- Arrivals in input buffers so far. -/
  arrivals : Nat
deriving DecidableEq, Repr

/-- What a read of a device port is for: a MemRd, a tag-cache line of a region, an atomic of R60, the read half of a
colour write, of a whole byte or of one granule's nibble (R83). -/
inductive RdFor where
  | msg (m : Hdr)
  | tag (region : Fin 16) (line : LAddr)
  | atom (m : Hdr) (a : AtomicOp)
  | part (m : Hdr) (data : LineData) (mask : BitVec 64)
  | nibble (m : Hdr) (byte : Nat) (high : Bool) (colour : Nat)
deriving DecidableEq, Repr

/-- What a write of a device port is for: a write that MemCmp answers, the write half of an atomic, a line of a
snapshot record (R556), or a carve-out line of a colour initialisation (R78). -/
inductive WrFor where
  | msg (m : Hdr)
  | atom (m : Hdr) (res : AtomicRes)
  | snap
  | colour
deriving DecidableEq, Repr

/-- An access that a device port cell has not issued yet (R196, R197, R250). -/
structure DpOp where
  port : Nat
  line : LAddr
  /-- A read, or a write of data under a mask. -/
  rd : Option RdFor
  wr : Option (WrFor × LineData × BitVec 64 × Bool)
  /-- TGT: the running coach of a migration may pass its busy granule (R196). -/
  who : Agent
  /-- The epoch under which it was resolved (R55). -/
  epoch : Option Bool
  /-- The device port at the new location, to which an advance has redirected it (R196). -/
  moved : Option Nat
deriving DecidableEq, Repr

/-- What a packet of the crossbar carries (R236): a switched packet whole, the line read for a MemRd, or line data sent
to a device port on DataGo or as a direct write, with its byte mask; or what the meter holds of a peer-window TLP, which
does not cross (R304); or an access that an advance redirects (R196). -/
inductive Load where
  | switched (p : RxPacket)
  | read (m : Hdr) (data : LineData)
  | line (m : Hdr) (data : LineData) (mask : BitVec 64)
  | peer (id bytes : Nat)
  | access (o : DpOp)
deriving DecidableEq, Repr

/-- Where a packet stands: in the hold list of a meter instance, in its flow at the admission point, in its virtual
output queue, in transfer, or whole in egress staging (R242, R263, R307, R317). -/
inductive Stage where
  | held (meter : Nat)
  | waiting
  | queued
  | moving
  | staged
deriving DecidableEq, Repr

/-- A packet in a region buffer. -/
structure Pkt where
  id : Nat
  region : Nat
  j : Nat
  cls : Nat
  dest : Dest
  typ : PktType
  cells : Nat
  /-- Level of R257 before aging: 1 green, 0 yellow. -/
  level : Nat
  /-- Its cells are held in the shared pool. -/
  shared : Bool
  stage : Stage
  /-- Cell-time count at admission. -/
  stamp : Nat
  /-- Cells that have crossed, and the matched pair. -/
  sent : Nat
  inAtt : Nat
  outAtt : Nat
  /-- Place among the first cells that have reached egress staging (R262), and the payload's POISON (R238). -/
  ord : Nat
  poison : Bool
  flow : Nat
  tag : Nat
  load : Load
deriving DecidableEq, Repr

/-- A landing reservation that waits in its flow (R251, R317). -/
structure LandReq where
  region : Nat
  cls : Nat
  coach : Fin 256
  pipe : Fin 2
  cells : Nat
  level : Nat
  flow : Nat
  tag : Nat
deriving DecidableEq, Repr

/-- Region buffers, meters and the central scheduler (07, 09). -/
structure Buf where
  /-- Packets in every region, in order of arrival at their queue. -/
  pkts : List Pkt
  lands : List LandReq
  nextId : Nat
  /-- Free minimum cells that back advertised link credits, by port × 4 + class (R253). -/
  backed : SMap Nat
  /-- Virtual time of an admission point, by (region × 9 + j) × 4 + class; finish tags by that × 1025 + flow, the
  default flow being 1024 (R316, R317). -/
  vtime : SMap Nat
  finish : SMap Nat
  /-- Grant and accept pointers of the scheduler, by output × 4 + class and by input (R259). -/
  grantPtr : SMap Nat
  acceptPtr : SMap Nat
  /-- Class pointer of an output, and the cells it has let through since its reload (R258). -/
  classPtr : SMap (Nat × Nat)
  /-- Cells of egress staging in use, by attachment (R261). -/
  staging : SMap Nat
  /-- Header and data credits that a standard link partner has granted, by ((port × 4 + class) × 4 + type) × 2, data
  credits one higher (R255). -/
  egress : SMap Nat
  /-- Buckets Tc and Tp of meter instances, by region × 1024 + instance, and of channel shapers (R301, R312). -/
  meters : SMap (Bucket × Bucket)
  shapers : SMap (Bucket × Bucket)
  /-- Colour of the last audit sweep, by region (R268). -/
  sweepColour : SMap Nat
  /-- Leaks reported and not reclaimed, by region × 32768 + cell (R269). -/
  leaked : List Nat
  /-- Rotating pointers over the types of a queue, by ((region × 9 + j) × 144 + destination) × 4 + class (R25, R243), and the
  first cells that have reached egress staging so far (R262). -/
  agePtr : SMap Nat
  nextOrd : Nat
deriving DecidableEq, Repr

/-- Requests of R101 that a home decides. -/
inductive ReqKind where
  | rdShared | rdOwn | upgrade | rdCur | wrLine | wrPart | wbDirty | evict | atomicFar
deriving DecidableEq, Repr

/-- A request at a home; `a` is zero but for AtomicFar. -/
structure Req where
  kind : ReqKind
  m : Hdr
  a : AtomicOp := ⟨0, false, 0, 0, 0⟩
deriving DecidableEq, Repr

/-- STATE of a directory entry (R93). -/
inductive DirSt where
  | free | shared | owned
deriving DecidableEq, Repr

/-- A directory entry ("Entry format"). -/
structure Entry where
  opn : Bool := false
  st : DirSt := .free
  ovf : Bool := false
  shadow : Bool := false
  p0 : Agent := 0x3FF
  p1 : Agent := 0x3FF
  p2 : Agent := 0x3FF
  tag : BitVec 22 := 0
deriving DecidableEq, Repr

/-- What a transaction ends with (R108, R153), or what else it is: an eviction (R119), the poison write of a purge scan
(R149), the back-invalidation of a purge sweep (R75), the recovery of a line (R484). -/
inductive TrkEnd where
  | cmpS | cmpO | cmpONoData | cmpRead | cmpWrite | cmpEvict | cmpFar | evict | poison | sweep | recover
deriving DecidableEq, Repr

/-- How far a transaction has come: it waits for a way (parked in the overflow queue, wanting to park, waiting for a
tracker for its victim, waiting for the victim's eviction), for snoops, data, a Fill or the journal, for the Ack; or it
has closed and its tracker is about to pass on (R128, R131, R132). -/
inductive Phase where
  | parked | wantPark | needWay | evicting | snoop | data | fill | journal | ack | handoff
deriving DecidableEq, Repr

/-- A MemCmp that a home awaits: whose data was sent, under which tag, and what the data is: dirty data of a snooped
agent, a write taken into the transaction (R107), the transaction's own write, a poison write, the atomic unit's. -/
inductive DataKind where
  | dirty | taken | own | poison | atom
deriving DecidableEq, Repr
structure DataWait where
  agent : Agent
  rtag : BitVec 10
  kind : DataKind
  /-- The request that a taken write answers. -/
  fwd : Bool
deriving DecidableEq, Repr

/-- A transaction tracker (R92). -/
structure Tracker where
  line : LAddr
  req : Option Req
  done : TrkEnd
  phase : Phase
  way : Option Nat
  before : Entry
  next : Entry
  /-- Agents whose BIAck is awaited; BackDown in place of BackInv. -/
  bi : List Agent
  down : Bool
  /-- Regions whose BIAckAgg is awaited, pair identity × 16 + region, and the sharing set of the broadcast. -/
  agg : List Nat
  bcast : Option Nat
  /-- Lowest bit of the epoch in force at the broadcast's issue (R117). -/
  epoch : Bool
  /-- Agents snooped so far, those that an expiry has declared lost (R137), and those whose write has been taken into the
  transaction (R107). -/
  snooped : List Agent
  gone : List Agent
  takenFrom : List Agent
  /-- Agents whose announced write is awaited (R106). -/
  announced : List Agent
  datas : List DataWait
  /-- The atomic unit awaits the line; its result. -/
  res : AtomicRes
  /-- The journal record awaited. -/
  jrn : Option (BitVec 16)
  granted : Bool
  /-- Poison has been written in this transaction: STATUS 0x1. -/
  poison : Bool
  /-- Timer expiries so far (R139). -/
  expiries : Nat
  /-- Dirty data has been written in a recovery (R484). -/
  sawDirty : Bool
  /-- The transaction that waits for this eviction's way; a journal record waits for it (R97); or the eviction under way for
  this one. -/
  forTxn : Option Nat
  forRec : Bool
  victim : Option Nat
deriving DecidableEq, Repr

/-- A request of a wait list: the wait store in arrival order (R127). -/
structure Waiter where
  slice : Nat
  line : LAddr
  req : Req
deriving DecidableEq, Repr

/-- A request at a slice's input stage, with its queue, and its arrival number once it has one (R124). -/
structure InReq where
  slice : Nat
  q : Fin 5
  req : Req
  num : Nat
deriving DecidableEq, Repr

/-- A transaction of the home's own that waits for its line or for a tracker. -/
structure Work where
  slice : Nat
  line : LAddr
  kind : TrkEnd
  /-- Agents that a purge sweep removes. -/
  agents : List Agent
deriving DecidableEq, Repr

/-- One slice's end of its journal (R472 to R475). -/
structure Jrn where
  /-- Next JSEQ, and the first that is not acknowledged. -/
  next : BitVec 16 := 0
  acked : BitVec 16 := 0
  /-- The open batch. -/
  batch : List JrnRec := []
  /-- Records received and not applied, in order; the flag marks the last of a batch. -/
  recv : List (JrnRec × Bool) := []
deriving DecidableEq, Repr

/-- A region's aggregation of a broadcast (R116): the header it came with and the agents that have not answered. -/
structure Agg where
  region : Nat
  m : Hdr
  left : List Agent
deriving DecidableEq, Repr

/-- The directory slices (03, 04). -/
structure Dir where
  /-- Entries, by (slice × 8192 + set) × 16 + way. -/
  ways : SMap Entry
  /-- Pseudo-LRU trees, by slice × 8192 + set (R118). -/
  plru : SMap (BitVec 15)
  /-- Open trackers, by slice × 256 + tracker; unlisted: free. -/
  trk : SMap Tracker
  /-- Requests in the input queues, oldest first; requests with an arrival number that their bank has not started, in that
  order; the next arrival number and the cycles of the input stage since its reset, by slice (R124, R125). -/
  input : List InReq
  arrived : List InReq
  nextNum : SMap Nat
  cycles : SMap Nat
  /-- The wait stores, in arrival order. -/
  waits : List Waiter
  /-- Overflow queues, in order of parking: (slice, tracker); and requests that want to park (R131). -/
  parked : List (Nat × Nat)
  wantPark : List (Nat × Nat)
  work : List Work
  /-- Sets held after an uncorrectable entry, slice × 8192 + set (R99), and sets for which a reclaim has been sent. -/
  badSets : List Nat
  reclaimed : List Nat
  /-- Lost sets by slice; agents whose notice came during the scan (R147, R149). -/
  lost : SMap (List Agent)
  lostLate : SMap (List Agent)
  /-- Predictor entries S + 16 × M, by slice × 4096 + index (R155). -/
  pred : SMap Nat
  /-- KCLK count at which the decay timer was last zero (R157). -/
  decayZero : SMap (BitVec 64)
  jrn : SMap Jrn
  aggs : List Agg
  /-- Slices or banks in reset until the self-test ends (R123), as banks. -/
  testing : List Nat
deriving DecidableEq, Repr

/-- An access outstanding at an expander, by its tag. -/
structure DpOut where
  port : Nat
  tag : BitVec 14
  line : LAddr
  rd : Option RdFor
  wr : Option WrFor
  /-- The reserved cell of a read is shared, and its class (R250). -/
  shared : Bool
  cls : Nat
  epoch : Option Bool
deriving DecidableEq, Repr

/-- A migration slot as a region holds it (R193). -/
structure MigSlot where
  valid : Bool := false
  segment : Nat := 0
  w : Nat := 0
  running : Option Agent := none
  busy : Bool := false
deriving DecidableEq, Repr

/-- Device port cells and the regions' migration slot tables (03, 04, 05). -/
structure DevPorts where
  wait : List DpOp
  outst : List DpOut
  /-- Tags kept reserved after their request has ended, port × 16384 + tag (R397). -/
  reserved : List Nat
  /-- Slot tables, by region × 16 + slot (R193). -/
  slots : SMap MigSlot
deriving DecidableEq, Repr

/-- Completion status of a request that the device answers. -/
inductive CplStatus where
  | success | unsupported | abort | retry
deriving DecidableEq, Repr

/-- A request of a host port cell that has not ended: of its host on CXL.mem, or of a line of a peer-window TLP. -/
structure HostReq where
  port : Nat
  /-- The cell's own tag, and the tag of the host's request or the number of the peer-window TLP. -/
  rtag : BitVec 10
  hostTag : BitVec 16
  job : Option Nat
  kind : ReqKind
  line : LAddr
  /-- The line has no home: the request goes to its device port cell (R580, R413). -/
  direct : Bool
  /-- Data of a write that the cell holds, with its byte mask and POISON, and whether its cell is shared (R252). -/
  data : Option (LineData × BitVec 64 × Bool)
  cell : Option Bool
  /-- HOMED_CLASS of the epoch in which it came: the class of that cell (R55, R252). -/
  cls : Nat
  /-- The write arrived before the host's BIRsp to a snoop, and is kept for DataGo (R104); its checks are done. -/
  captured : Bool
  checked : Bool
  /-- It has been ended towards its client: later answers are late (R141, R425). -/
  ended : Bool
  /-- The grant and its NDR: 0 Cmp, 1 Cmp-S, 2 Cmp-E; and the data (R103, R114). -/
  grant : Option (Hdr × Nat)
  got : Option (LineData × Bool)
deriving DecidableEq, Repr

/-- A snoop given to a host, by the tag of its BISnp; `agg`: it is for the region's broadcast (R102, R116). -/
structure HostSnp where
  port : Nat
  tag : BitVec 16
  m : Hdr
  agg : Bool
  down : Bool
deriving DecidableEq, Repr

/-- A BIConflict that is not answered yet (R103). -/
structure HostConf where
  port : Nat
  tag : BitVec 16
  line : LAddr
deriving DecidableEq, Repr

/-- What a TLP to a service function asks for: a peer-window read, write or AtomicOp, or a BAR 0 or BAR 2 access, held
as its command (R413, R419, R420). -/
inductive PeerWork where
  | read
  | write (data : List Byte)
  | atomic (a : AtomicOp)
  | bar (c : Instr)
deriving DecidableEq, Repr

/-- How far it has come: its colour is being read, it waits for its turn, its lines run, it has ended. -/
inductive PeerStage where
  | colour | turn | run | done
deriving DecidableEq, Repr

/-- A TLP that a function has taken and not yet ended, in arrival order (R415, R418 to R420). -/
structure PeerJob where
  id : Nat
  port : Nat
  func : Nat
  tag : BitVec 14
  work : PeerWork
  /-- Pool address and length after translation. -/
  addr : Nat
  bytes : Nat
  /-- Colour key and tenant of the window. -/
  key : Nat
  tenant : Nat
  stage : PeerStage
  /-- Lines still to start, and lines that run. -/
  todo : List LAddr
  running : List LAddr
  /-- Data that has come back, by line. -/
  got : SMap LineData
  poison : Bool
  /-- Completion status; a posted write is lost where it is not success. -/
  status : CplStatus
  old : BitVec 64
  /-- A function-level reset discards its outcome (R421). -/
  dropped : Bool
  /-- The epoch under which it was resolved (R55). -/
  epoch : Bool
deriving DecidableEq, Repr

/-- A request of a host that waits for a request tag, with the epoch under which it was resolved (R55). -/
structure HostWait where
  cmd : Instr
  epoch : Bool
deriving DecidableEq, Repr

/-- Host port cells (03, 13). -/
structure HostPorts where
  reqs : List HostReq
  snps : List HostSnp
  /-- Snoops whose BISnp waits until an earlier grant of the line has gone to the host, oldest first (R103). -/
  snpWait : List HostSnp
  confs : List HostConf
  /-- Requests of hosts that wait for a request tag, oldest first. -/
  waiting : List HostWait
  jobs : List PeerJob
  nextJob : Nat
deriving DecidableEq, Repr

/-- State of a channel context (COACH_CH_STATE). -/
inductive ChSt where
  | free | active | halted | resetting
deriving DecidableEq, Repr

/-- The context of a channel index (R211 to R215, R223). -/
structure Chan where
  /-- Current generation. -/
  gen : BitVec 12 := 1
  st : ChSt := .free
  priv : Bool := false
  tenant : Nat := 0
  slot : Nat := 0
  depth : Nat := 0
  mask : Nat := 0
  house : Nat := 0
  tc : Nat := 0
  quota : Nat := 0
  sq : BitVec 64 := 0
  cq : BitVec 64 := 0
  rate : Nat := 0
  vector : Nat := 0
  cause : Nat := 0
  head : Nat := 0
  tail : Nat := 0
  /-- Next entry to fetch, and the phase of the pass that HEAD is in. -/
  fetch : Nat := 0
  phase : Bool := true
  /-- Result and entry of the last abort (R227). -/
  abortRes : Nat := 0
  abortIdx : Nat := 0
  /-- A RESETTING wait ends with the index FREE (R212, R217). -/
  toFree : Bool := false
  /-- Entries aborted before their read was issued (R227). -/
  aborts : List Nat := []
  /-- Times that the index has become FREE again: units of a destroyed channel belong to an earlier life (R217). -/
  life : Nat := 0
deriving DecidableEq, Repr

/-- How far a descriptor has come: its read is outstanding, it waits to start, it runs, its record waits (R179, R182,
R220). -/
inductive DescStage where
  | fetch | ready | run | done
deriving DecidableEq, Repr

/-- The four result fields of a completion record: STATUS, RESULT0, RESULT1, ERR_OFFSET (R221). -/
structure Rec where
  status : Nat
  r0 : BitVec 64
  r1 : BitVec 64
  err : Nat
deriving DecidableEq, Repr

/-- A unit's end: unit, status and the offset of its first failing byte (R172, R177). -/
structure UnitErr where
  unit : Nat
  status : Nat
  off : Nat
deriving DecidableEq, Repr

/-- A descriptor from its fetch to the write of its record (R166, R167, R180, R182). -/
structure Desc where
  chan : Nat
  gen : BitVec 12
  entry : Nat
  house : Nat
  stage : DescStage
  bits : BitVec 512
  /-- The coach that holds the retire stage; none: it stays with the house (R206). -/
  owner : Option Nat
  units : Nat
  started : Nat
  ended : Nat
  errs : List UnitErr
  /-- Partial results, by unit (R171). -/
  res : SMap (BitVec 64 × BitVec 64)
  /-- A stopping error or an abort: no further unit starts (R175, R228). -/
  stopped : Bool
  aborted : Bool
  /-- The lowest unit that an abort or an error kept from starting. -/
  firstLeft : Option Nat
  record : Option Rec
  /-- The read was ended without its completion: a late one is logged in AER or not (R424); some value, too, where the read
  failed (R220). -/
  lost : Option Bool := none
deriving DecidableEq, Repr

/-- A range entry: unstarted units of a descriptor, in a coach's deque or with a house (R185, R206). Units that a house
has released carry their level and landing flow (R309, R311). -/
structure UnitRange where
  chan : Nat
  gen : BitVec 12
  entry : Nat
  first : Nat
  count : Nat
  house : Nat
  coach : Option Nat
  bits : BitVec 512
  owner : Agent
  /-- The channel's resources as they were at the fetch. -/
  ch : Chan
  released : Option (Nat × Nat)
  /-- One unit that had started in a coach that failed, to be run again from its first byte (R203). -/
  restart : Bool
deriving DecidableEq, Repr

/-- What a started unit is doing: it waits for its landing cells; its lines move; a colour write, a tag invalidation;
the mark, copy and advance of a migration step, or its unmark (R83, R195, R198, R251). -/
inductive UnitPhase where
  | landing | lines | colour | tagInv | mark | copy | advance | unmark
deriving DecidableEq, Repr

/-- A started unit in a pipeline. -/
structure UnitRun where
  coach : Nat
  pipe : Nat
  chan : Nat
  gen : BitVec 12
  entry : Nat
  unit : Nat
  bits : BitVec 512
  owner : Agent
  ch : Chan
  level : Nat
  flow : Nat
  phase : UnitPhase
  /-- Landing cells held, and whether they are shared. -/
  cells : Nat
  shared : Bool
  /-- Lines whose read, and whose write, has not been issued. -/
  reads : List LAddr
  writes : List LAddr
  /-- Lines read, with their POISON. -/
  got : SMap (LineData × Bool)
  /-- The first stopping error and the first poison, with their offsets. -/
  err : Option (Nat × Nat)
  poison : Option Nat
  res : BitVec 64 × BitVec 64
  /-- Regions whose acknowledgement is awaited, pair identity × 16 + region. -/
  acks : List Nat
  /-- An abort or a reset ends a MIGRATE after its step (R228). -/
  halt : Bool
deriving DecidableEq, Repr

/-- A request of a coach that has not ended. -/
structure CoachReq where
  coach : Nat
  rtag : BitVec 10
  kind : ReqKind
  line : LAddr
  /-- The pipeline; none: a victim of the line cache (R162). -/
  pipe : Option Nat
  direct : Bool
  data : Option (LineData × BitVec 64 × Bool)
  /-- The write's data waits in a landing cell of its house, shared or not; line-cache data does not. -/
  cell : Option Bool
  /-- Class of its bulk data. -/
  cls : Nat
  a : AtomicOp
  ended : Bool
  grant : Option (Hdr × Nat)
  got : Option (LineData × Bool)
deriving DecidableEq, Repr

/-- A line of a coach's line cache (R161). -/
structure CLine where
  line : LAddr
  data : LineData
  /-- Owned and dirty; otherwise a clean shared copy. -/
  dirty : Bool
deriving DecidableEq, Repr

/-- Dirty data that a coach keeps for DataGo after a snoop (R105). -/
structure CHeld where
  coach : Nat
  rtag : BitVec 10
  line : LAddr
  data : LineData
deriving DecidableEq, Repr

/-- Coaches, coach houses and channels (05, 06). -/
structure Coaches where
  /-- Channel contexts, by index; unlisted: free, generation 1. -/
  chans : SMap Chan
  /-- Descriptors in queue order of their channels. -/
  descs : List Desc
  /-- Range entries, oldest first. -/
  ranges : List UnitRange
  /-- Ranges granted to a thief whose reply is on its way (R188). -/
  transit : List UnitRange
  units : List UnitRun
  reqs : List CoachReq
  /-- Line cache sets, most recently used first, by coach × 64 + set (R160). -/
  cache : SMap (List CLine)
  held : List CHeld
  /-- Victims of the line cache that wait for a request tag, oldest first, by coach (R160, R162). -/
  victims : List (Nat × CLine)
  /-- Houses that a coach's remote steal has still to ask, the first being asked, by coach (R187). -/
  stealing : SMap (List Nat)
  /-- The coach that a house chose last, by house (R166). -/
  lastCoach : SMap Nat
deriving DecidableEq, Repr

/-- A packet that waits for an own-protocol link: its virtual channel, the credits it takes, its length in bytes,
and the message it carries, if that is one of the twin link (R383, R384). -/
structure TxPacket where
  vc : Nat
  credits : Nat
  bytes : Nat
  what : Option Instr
deriving DecidableEq, Repr

/-- What an own-protocol link end holds that no register shows (R380, R384 to R388). -/
structure OwnLink where
  /-- Sequence of the next new DATA flit to send. -/
  txSeq : BitVec 12
  /-- DATA flits not yet acknowledged, oldest first, with their sequences. -/
  replayBuf : List Flit
  /-- Next sequence expected from the partner. -/
  rxNext : BitVec 12
  /-- The sequence of the next DATA flit after a REPLAY flit, while a replay is being received. -/
  rxReplay : Option (BitVec 12)
  /-- The receiver discards DATA flits until a REPLAY flit (R387). -/
  replayWait : Bool
  /-- An accepted DATA flit has not been acknowledged by any flit sent (R385). -/
  ackOwed : Bool
  /-- Replays since an acknowledgement last freed a flit (R388). -/
  replays : Nat
  /-- Credits held for each virtual channel towards the partner (R384). -/
  credits : SMap Nat
  /-- The packet being received: the virtual channel and the bytes so far (R381). -/
  rxPacket : Option (Nat × Nat)
  /-- Packets that wait for credits or for room in the replay buffer, oldest first (R384, R386). -/
  txQueue : List TxPacket
  /-- Entry to RECOVERY was a full link reset (R390). -/
  fullReset : Bool
  /-- Back from RECOVERY: no new DATA flit leaves before the replay that the partner's first NAK asks for (R390). -/
  nakFirst : Bool
deriving DecidableEq, Repr

/-- A spare-wheel switchover under way (R392, R394). -/
structure Switchover where
  lane : BitVec 5
  /-- This end sent SPARE_REQ or RESTORE_REQ, so many times. -/
  requests : Nat
  /-- SPARE_ACK has been sent by this end; received by this end. -/
  sentAck : Bool
  gotAck : Bool
  sentDone : Bool
  gotDone : Bool
  restore : Bool
deriving DecidableEq, Repr

/-- What link layers hold that no register shows (12). -/
structure Links where
  /-- Own links: by port number, 128 for the twin link; unlisted: as after reset. -/
  own : SMap OwnLink
  /-- Switchovers under way: by block, 32 and 33 for the twin link's lanes 16 and 17. -/
  sw : SMap Switchover
deriving DecidableEq, Repr

/-- What host functions hold that no management register shows (13). Function key: port × 257 + function. -/
structure Fns where
  /-- STX_PORT_FN_W0, W1, STX_EP_ID and STX_EP_ID2 as each port took them at its last conventional reset
  (R432), by port × 4 + k. -/
  layout : SMap Word
  /-- Writable bits of configuration words, by key × 1024 + word; unlisted: reset value (R401 to R405). -/
  cfg : SMap Word
  /-- MSI-X table words, by (key × 2048 + vector) × 4 + word; unlisted: reset value (R416). -/
  msix : SMap Word
  /-- MSI-X pending bits, by key × 2048 + vector (R417). -/
  pba : List Nat
  /-- Function-level resets: 1 from time 0 to step 3, 2 from step 3 to step 4 (R421), by key. -/
  flr : SMap Nat
  /-- Ports whose retry status the timer of R535 has ended. -/
  retryEnded : List (Fin 128)
deriving DecidableEq, Repr

/-- A request that the twin node has forwarded to the partner's home (R482). -/
structure Fwd where
  slice : Fin 32
  htxn : Fin 256
  src : Agent
  rtag : BitVec 10
  laddr : LAddr
  req : Req
  /-- A grant or a DataGo of the home has reached this twin. -/
  granted : Bool
deriving DecidableEq, Repr

/-- A homing change of one slice under way (R492, R495). -/
structure HomingWork where
  slice : Fin 32
  handOver : Bool
  /-- The step of R492 or R495 in progress. -/
  step : Nat
deriving DecidableEq, Repr

/-- What pairing holds that no register shows (15). -/
structure Pair where
  /-- Successive missed windows on the two paths, up to eight (R467). -/
  missLink : Fin 9
  missWire : Fin 9
  /-- Beacon count of this twin, modulo 256 (R465). -/
  bseq : BitVec 8
  /-- The last good beacon received (R479). -/
  last : Option Beacon
  /-- R463 holds this twin in STARTING. -/
  clash : Bool
  /-- Step 4 of start-up is done: the twin looks for beacons (R489). -/
  looking : Bool
  /-- The takeover step in progress, 0 for none (R481). -/
  takeoverStep : Nat
  /-- The handover step in progress, 0 for none (R486). -/
  handoverStep : Nat
  /-- Forwarded requests outstanding at the partner's homes (R482). -/
  fwd : List Fwd
  /-- Requests marked for re-presentation, oldest first (R482). -/
  represent : List Req
  /-- Forwarded requests held until this twin's own switch, with EPOCH0 (R455). -/
  heldEpoch : List InReq
  /-- Segments in recovery, rising (R484). -/
  recovery : List Nat
  /-- Lines recovered at first request, by slice: keys slice × 2^40 + line (R484). -/
  recovered : List Nat
  /-- Homing changes in progress (R492, R495). -/
  homing : List HomingWork
  /-- Slices for which SYNC_DONE has been sent and received in this rejoin (R491). -/
  syncSent : List (Fin 32)
  syncGot : List (Fin 32)
  /-- A rejoin runs, with this twin as source (R489). -/
  rejoinSource : Bool
  /-- The repair of R495 in progress, by slice, with its step. -/
  repair : SMap Nat
deriving DecidableEq, Repr

/-- What slot power channels and the sideband chain hold that no register shows (16). -/
structure Slots where
  /-- The other feed has been chosen for the end of BREAK (R504), by channel: 0 A, 1 B. -/
  breakTo : SMap Nat
  /-- Commands of a device port that wait for CC, how many, by port (R430). -/
  ccPending : SMap Nat
  /-- Successive scans in which a channel's button read pressed, and released (R514). -/
  pressed : SMap Nat
  released : SMap Nat
  /-- ABPR of the present press has been set (R514). -/
  pressSeen : List Nat
  /-- Successive scans with a wrong check word, and with a good one while FAULT is 1 (R515). -/
  badScans : Nat
  goodScans : Nat
  /-- Channels whose debounced presence waits for INS_DELAY (R510). -/
  debounced : List Nat
  /-- Channels whose board is inserted: PDS of the served port (R510, R511). -/
  inserted : List Nat
  /-- Channels in RETRY whose retry time has elapsed with no feed good (R504). -/
  retryDue : List Nat
deriving DecidableEq, Repr

/-- What the snapshot engine holds that no register shows (R555 to R557). -/
structure Snap where
  /-- SEQ of the next record. -/
  seq : BitVec 64
  /-- The preceding capture was missed or dropped. -/
  lost : Bool
  /-- The record being written. -/
  record : Option (List Byte)
  /-- Performance counters that have wrapped and whose event has not been raised yet (R553). -/
  due : List Nat
deriving DecidableEq, Repr

/-- S2M messages (R102, R103). -/
inductive S2M where
  | cmp | cmpS | cmpE | biConflictAck
  | memData (data : LineData) (poison : Bool)
  | biSnpInv (line : LAddr)
  | biSnpData (line : LAddr)
deriving DecidableEq, Repr

/-- What the device sends or drives outside itself. A message that another device or the partner twin receives
as a command is shown as that command. -/
inductive Out where
  /-- A message to the partner twin over the twin link, or to a unit of the partner. -/
  | twin (c : Instr)
  /-- A beacon on the beacon wire (R465). -/
  | wire (b : Beacon)
  /-- A flit to the partner of an own-protocol link (R379). -/
  | link (c : Instr)
  /-- Completion of a management-endpoint access (R11, R568). -/
  | mgmt (st : CplStatus) (data : BitVec 64)
  /-- MSI-X vector of the management endpoint (R542, R543). -/
  | mgmtMsix (v : Nat) (addr : BitVec 64) (data : Word)
  /-- Interrupt of the keeper cores (R542, R543). -/
  | keeperIrq (event : Nat)
  /-- Answer of the SMBus/I2C target: data, or no acknowledge (R569). -/
  | smb (data : Option Word)
  /-- Data read by the debug master (R322). -/
  | debug (data : Word)
  /-- Data on the SPI-mode pins (R571). -/
  | spi (data : List Byte)
  /-- Link credits of class `c` returned to the partner: of a port, so many cells (R253, R254); of the twin link, as
  port 128, so many slots of virtual channel `c` (R384). -/
  | credit (port : Nat) (c : Nat) (cells : Nat)
  /-- A request that a device port issues to its expander, with its tag, device physical address and the LINK_GEN of
  its slot (R111, R113, R512). -/
  | expRead (port : Nat) (tag : BitVec 14) (dpa : Nat) (gen : Nat)
  | expWrite (port : Nat) (tag : BitVec 14) (dpa : Nat) (gen : Nat) (data : LineData) (mask : BitVec 64) (poison : Bool)
  /-- A memory read of a service function: channel, generation and entry as its tag; and a 32-byte record write (R219 to
  R221). -/
  | dmaRead (port : Nat) (func : Nat) (addr : BitVec 64) (chan : Nat) (gen : BitVec 12) (entry : Nat)
  | dmaWrite (port : Nat) (func : Nat) (addr : BitVec 64) (words : List (BitVec 64))
  /-- An S2M message to the host of a port, with the tag of the request or of the BISnp (R102, R103). -/
  | s2m (port : Nat) (tag : BitVec 16) (msg : S2M)
  /-- A switched packet transmitted on a standard port, with its POISON (R238, R262); one whose transmission a fence has
  ended before its last cell (R267). -/
  | tlp (port : Nat) (p : RxPacket) (poison : Bool)
  | tlpCut (port : Nat) (p : RxPacket)
  /-- A completion by which the ingress port cell ends a switched request (R266, R333). -/
  | cplSwitched (port : Nat) (requester : BitVec 16) (tag : BitVec 14) (st : CplStatus)
  /-- A pulse of TWIN_RST_OUT_N (R525). -/
  | twinRst
  /-- MSI-X message of a host function (R417). -/
  | msix (port : Nat) (func : Nat) (addr : BitVec 64) (data : Word)
  /-- Error message of a host function: 0 correctable, 1 non-fatal, 2 fatal (R428). -/
  | errMsg (port : Nat) (func : Nat) (kind : Nat)
  /-- Completion of a configuration request (R535, R399). -/
  | cfg (port : Nat) (st : CplStatus) (data : Word)
  /-- Completion of a BAR or peer-window request (R407, R413). -/
  | cpl (port : Nat) (func : Nat) (tag : Nat) (st : CplStatus) (poison : Bool) (data : List Byte)
  /-- Indicator outputs of a sideband scan, a byte for each channel (R513). -/
  | sideband (bytes : List (BitVec 8))
  /-- Answers of a pool-view mailbox (R51): configuration as regions of (base, length, block) in GiB, the extent list
  as (first segment, GiB, tag), event records, and the end of a command: success or Invalid Input. -/
  | mboxConfig (port : Nat) (regions : List (Nat × Nat × Nat))
  | mboxExtents (port : Nat) (total : Nat) (extents : List (Nat × Nat × BitVec 128))
  | mboxEvents (port : Nat) (records : List DcEvent)
  | mboxDone (port : Nat) (ok : Bool)
  /-- A mailbox event record is raised on the pool view (R70, R74). -/
  | dcEvent (port : Nat) (record : DcEvent)
  /-- Poison written by a recovery sweep to every line of a segment that was not recovered before (R484). -/
  | poisonFill (seg : Nat)
deriving DecidableEq, Repr

/-- The state of one VXB128 with the queue of commands that wait. -/
structure State where
  /-- Register words but for their structural bits, by offset; unlisted: the reset word (R14). -/
  regs : SMap Word
  /-- Captured higher words of wide registers, by offset; unlisted: zero (R8). -/
  cap : SMap Word
  banks : Banks
  dev : Dev
  txn : Txn
  pair : Pair
  links : Links
  fns : Fns
  slots : Slots
  snap : Snap
  pool : Pool
  /-- The store die: the bytes written since delivery (R441). -/
  store : List Host.Cell
  noc : Noc
  buf : Buf
  dir : Dir
  dp : DevPorts
  hp : HostPorts
  co : Coaches
  /-- Messages on the internal network, oldest first. -/
  flight : List Msg
  /-- What the device has sent or driven, oldest first. -/
  out : List Out
  /-- The model's own counter of uses of `Config.freeWord`. -/
  fresh : Nat
  /-- Commands that wait, first in, first out. -/
  pending : List Instr
deriving DecidableEq, Repr

/-- An own link that has not trained since its reset (R380). -/
def OwnLink.reset : OwnLink :=
  ⟨0, [], 0, none, false, false, 0, [], none, [], false, false⟩

/-- The device while package-level reset is held, before the pins are sampled: every register at its reset word,
nothing loaded from the store, both dies in reset (R14, R519). -/
def State.reset : State where
  regs := []
  cap := []
  banks := ⟨[], [], []⟩
  dev := {
    pid := false, fabReset := true, pkgReset := true, keeperRun := false, spiMode := false
    fenced := [], held := [.package], swDeferred := none, faultDeferred := none, wdRestarted := false
    otp := [], otpShadow := [], imgLevel := [], failedA := false, failedB := false, stuck := false
    stopDue := false, clkBad := false, perst := [], kq := [], ktag := 0
    causeEvent := false, causeDeferred := false, afterPackage := true, jseq := 0, jpage := none
    smbOffset := 0, spiWel := false, spiFail := false, spiOp := none, mgmtMsix := [], faultsHeld := []
    imgBuf := [], routersOut := [] }
  txn := ⟨0, 0, none, false, [], false, false, false, false, false, false, 0, none, false, none, none, []⟩
  pair := {
    missLink := 8, missWire := 8, bseq := 0, last := none, clash := false, looking := false
    takeoverStep := 0, handoverStep := 0, fwd := [], represent := [], heldEpoch := []
    recovery := [], recovered := [], homing := [], syncSent := [], syncGot := [], rejoinSource := false
    repair := [] }
  links := ⟨[], []⟩
  fns := ⟨[], [], [], [], [], []⟩
  slots := ⟨[], [], [], [], [], 0, 0, [], [], []⟩
  snap := ⟨1, false, none, []⟩
  pool := ⟨[], [], [], [], [], [], [], [], [], false, false⟩
  store := []
  noc := ⟨0, [], [], [], [], [], [], [], [], 0⟩
  buf := {
    pkts := [], lands := [], nextId := 0, backed := [], vtime := [], finish := [], grantPtr := [], acceptPtr := []
    classPtr := [], staging := [], egress := [], meters := [], shapers := [], sweepColour := [], leaked := [], agePtr := []
    nextOrd := 0 }
  dir := {
    ways := [], plru := [], trk := [], input := [], arrived := [], nextNum := [], cycles := [], waits := [], parked := []
    wantPark := [], work := [], badSets := [], reclaimed := [], lost := [], lostLate := [], pred := [], decayZero := []
    jrn := [], aggs := [], testing := [] }
  dp := ⟨[], [], [], []⟩
  hp := ⟨[], [], [], [], [], [], 0⟩
  co := {
    chans := [], descs := [], ranges := [], transit := [], units := [], reqs := [], cache := [], held := [], victims := []
    stealing := [], lastCoach := [] }
  flight := []
  out := []
  fresh := 0
  pending := []

end Sys2Proof.Machine
end

