-- ==== Sys2Proof/Machine/Base.lean ====
section
/-! DEFINITION. The named operations over the state that every family of commands uses: register words and fields, what the
device sends, ports and functions, MSI-X and AER, links, and where events are delivered. -/

namespace Sys2Proof.Machine

/-! ### Registers -/

/-- The stored word at `off`, without structural bits. -/
def getReg (s : State) (off : Nat) : Word := sGet s.regs off (resetWord off)

/-- Store a word at `off`. -/
def setReg (s : State) (off : Nat) (w : Word) : State := { s with regs := sPut s.regs off (resetWord off) w }

/-- The structural bits of the word at `off` under the active bank (R31). -/
def liveWord (s : State) (off : Nat) : Word := sGet s.banks.live off 0

/-- The whole word at `off`: structural bits from the active bank, the rest from the register. -/
def rdWord (s : State) (off : Nat) : Word := liveWord s off ||| getReg s off

/-- Field [hi:lo] of the word at `off`. -/
def rd (s : State) (off hi lo : Nat) : Nat := fld (rdWord s off) hi lo

/-- Bit `i` of the word at `off`. -/
def rdBit (s : State) (off i : Nat) : Bool := bitAt (rdWord s off) i

/-- Set field [hi:lo] of the register at `off`, a field that is not structural. -/
def wr (s : State) (off hi lo v : Nat) : State := setReg s off (putFld (getReg s off) hi lo v)

/-- Set bit `i` of the register at `off`. -/
def wrBit (s : State) (off i : Nat) (b : Bool) : State := wr s off i i b.toNat

/-- The 64-bit register at `off` (R7). -/
def rd64 (s : State) (off : Nat) : BitVec 64 := rdWord s (off + 4) ++ rdWord s off

/-- Set the 64-bit register at `off`. -/
def wr64 (s : State) (off : Nat) (v : BitVec 64) : State :=
  setReg (setReg s off (v.extractLsb' 0 32)) (off + 4) (v.extractLsb' 32 32)

/-- The device timestamp (R39). -/
def now (s : State) : BitVec 64 := rd64 s R.RST_TIME

/-- What a word keeps through a reset below package level: all of it at package level, else its RWS fields (R13). -/
def keptWord (p : Nat × Word) : Option (Nat × Word) :=
  if levelOf p.1 = .package then some p
  else
    let m := accMask p.1 .RWS
    let v := (p.2 &&& m) ||| (resetWord p.1 &&& ~~~ m)
    if v = resetWord p.1 then none else some (p.1, v)
/-- A reset below package level of every register word that `p` names: RWS fields stay, the rest takes its reset value,
and the captures hold zero (R8, R13, R14). -/
def clearRegs (s : State) (p : Nat → Bool) : State :=
  { s with regs := s.regs.filterMap (fun q => if p q.1 then keptWord q else some q), cap := sDrop s.cap p }
/-- Reset the words from `lo` on, `n` bytes, whose level `p` holds of. -/
def clearRange (s : State) (lo n : Nat) (p : RegLevel → Bool) : State :=
  clearRegs s (fun o => decide (lo ≤ o) && decide (o < lo + n) && p (levelOf o))
def isCell (l : RegLevel) : Bool := l == .cell
def isBlock (l : RegLevel) : Bool := l == .cell || l == .block
def isRegion (l : RegLevel) : Bool := l == .cell || l == .block || l == .region

/-! ### What leaves the device and what travels inside it -/

/-- Send `o` to the outside. -/
def emit (s : State) (o : Out) : State := { s with out := s.out ++ [o] }

/-- A value that the spec does not state: fresh at each use. -/
def freeVal (s : State) : BitVec 64 := Config.freeWord s.fresh
def usedFree (s : State) : State := { s with fresh := s.fresh + 1 }

/-- Fold `f` over a list of unit numbers. -/
def forAll {α : Type} (l : List α) (s : State) (f : State → α → State) : State := l.foldl f s

/-- An effect on the fabric die: none while the fabric die is held in reset (R21, R526). -/
def onFabric (s : State) (t : State) : State := if s.dev.fabReset then s else t

/-! ### Performance counters (R549 to R553) -/

/-- Base offset of performance counter `k` (R549). -/
def perfBase (k : Nat) : Nat :=
  if k < 64 then R.PERF_CHIP_CTR_SEL k else R.PERF_RGN_CTR_SEL ((k - 64) / 16) ((k - 64) % 16)
/-- Last counter of its bank. -/
def perfLast (k : Nat) : Bool := if k < 64 then k == 63 else (k - 64) % 16 == 15
/-- The counter whose PERF_CTR_SEL is at `off`. -/
def perfOf (off : Nat) : Option Nat :=
  if 0x4004000 ≤ off ∧ off < 0x4004800 ∧ off % 0x20 = 0 then some ((off - 0x4004000) / 0x20)
  else if 0x8000000 ≤ off ∧ off < 0xC000000 ∧ 0x2C0000 ≤ (off - 0x8000000) % 0x400000 ∧
      (off - 0x8000000) % 0x400000 < 0x2C0200 ∧ off % 0x20 = 0 then
    some (64 + 16 * ((off - 0x8000000) / 0x400000) + ((off - 0x8000000) % 0x400000 - 0x2C0000) / 0x20)
  else none
/-- Counters with EN = 1. -/
def perfOn (s : State) : List Nat := s.regs.filterMap (fun p => if bitAt p.2 31 then perfOf p.1 else none)
/-- What a counter counts: the quantity, its instance and region, whether it adds the value, and the threshold N. -/
structure PerfSel where
  code : Nat
  inst : Nat
  region : Nat
  add : Bool
  n : Nat
deriving DecidableEq, Repr
/-- A quantity of which each region has one, so that INST chooses nothing (R550). -/
def perfSingle (code : Nat) : Bool := [0x01, 0x06, 0x07, 0x0D, 0x0E, 0x0F, 0x10, 0x11, 0x40, 0x41, 0x42, 0x43].contains code
/-- The selection of counter `k`, native or by its VXS32 code; none where a lower neighbour's carries are all that it counts, or
the selection counts nothing (R550, R551, R553). -/
def perfSel (s : State) (k : Nat) : Option PerfSel :=
  let w := getReg s (perfBase k)
  let first := k == 0 || (decide (64 ≤ k) && (k - 64) % 16 == 0)
  let inst := fld w 23 16
  let region := if k < 64 then fld w 27 24 else (k - 64) / 16
  let native (code : Nat) (add : Bool) (n : Nat) : Option PerfSel :=
    if 0x40 ≤ code ∧ 64 ≤ k then none else some ⟨code, if perfSingle code then 0 else inst, region, add, n⟩
  if ! first && rdBit s (perfBase (k - 1)) 30 then none
  else if bitAt w 29 then
    match fld w 15 0 with
    | 0x0001 => native 0x01 true 0
    | 0x0010 => native 0x02 true 0
    | 0x0011 => native 0x03 true 0
    | 0x0020 => native 0x06 false 32767
    | 0x0030 => native 0x0C true 0
    | 0x0040 => native 0x0F true 0
    | _ => none
  else native (fld w 7 0) (bitAt w 28) (fld (getReg s (perfBase k + 4)) 15 0)
/-- A wrap of counter `k` (R553): with CHAIN it adds one to the next counter of the bank, which may wrap in its turn; otherwise
OVF is set and the event is due. `fuel` counters remain in the bank. -/
def perfWrap (s : State) (k fuel : Nat) : State :=
  match fuel with
  | 0 => s
  | m + 1 =>
    if rdBit s (perfBase k) 30 && ! perfLast k then
      let v := (rd64 s (perfBase (k + 1) + 8)).toNat % 2 ^ 48 + 1
      if ! rdBit s (perfBase (k + 1)) 31 then s
      else if v < 2 ^ 48 then wr64 s (perfBase (k + 1) + 8) (BitVec.ofNat 64 v)
      else perfWrap (wr64 s (perfBase (k + 1) + 8) 0) (k + 1) m
    else
      let t := wrBit s (perfBase k + 0x14) 0 true
      { t with snap := { t.snap with due := t.snap.due.filter (· != k) ++ [k] } }
/-- Counter `k` counts `v`. -/
def perfAdd (s : State) (k v : Nat) : State :=
  let x := (rd64 s (perfBase k + 8)).toNat % 2 ^ 48 + v
  if v = 0 then s
  else if x < 2 ^ 48 then wr64 s (perfBase k + 8) (BitVec.ofNat 64 x)
  else perfWrap (wr64 s (perfBase k + 8) (BitVec.ofNat 64 (x % 2 ^ 48))) k 64
/-- What a counter with selection `q` gains from the quantity's being `v` in each of `times` cycles (R550). -/
def perfGain (q : PerfSel) (v times : Nat) : Nat := if q.add then v * times else if q.n < v then times else 0
/-- The quantity `code` of region `n`, with instance `inst`, is `v` in each of `times` cycles: the counters that have chosen it
count. Of a chip quantity the region is not asked. -/
def perfHit (s : State) (n code inst v times : Nat) : State :=
  forAll (perfOn s) s (fun t k =>
    match perfSel t k with
    | some q =>
      if q.code = code ∧ q.inst = inst ∧ (q.region = n ∨ 0x40 ≤ code) then perfAdd t k (perfGain q v times) else t
    | none => t)

/-! ### Ports, cells and functions -/

/-- The word of PB_PORT_CFG of cell `c`. -/
def portCfg (s : State) (c : Nat) : Word := liveWord s (R.PB_PORT_CFG (c / 4) (c % 4))
/-- Cell `c` is the lowest cell of a port. -/
def portValid (s : State) (c : Nat) : Bool := bitAt (portCfg s c) 31
/-- ROLE of the port of lowest cell `c`: 1 host, 2 device, 3 switch-through, 4 trunk, 0 where there is none. -/
def portRole (s : State) (c : Nat) : Nat := if portValid s c then fld (portCfg s c) 30 28 else 0
/-- Width in cells: 1, 2 or 4 (R23). -/
def portCells (s : State) (c : Nat) : Nat := 2 ^ fld (portCfg s c) 27 26
/-- The port that owns cell `c`: the nearest lower lowest cell of its block that reaches it (R23). -/
def portOf (s : State) (c : Nat) : Option Nat :=
  ((List.range 4).filterMap (fun k =>
    let p := c / 4 * 4 + k
    if p ≤ c ∧ portValid s p ∧ c < p + portCells s p then some p else none)).head?
/-- STATE of the link of port `p`: 0 down, 1 training, 2 active, 3 recovery. -/
def linkState (s : State) (p : Nat) : Nat := rd s (R.PB_LINK_STATUS (p / 4) (p % 4)) 31 29
/-- The link of port `p` is in its active state (R389). -/
def linkActive (s : State) (p : Nat) : Bool := linkState s p == 2 || linkState s p == 3
/-- STATE of the twin link. -/
def twinState (s : State) : Nat := rd s R.TWIN_LINK_STATUS 31 29
/-- Cell `c` is fenced (R30). -/
def cellFenced (s : State) (c : Nat) : Bool := rdBit s (R.PB_CELL_CTRL (c / 4) (c % 4)) 0
/-- The pair state (R468), as encoded. -/
def pairState (s : State) : Nat := rd s R.TWIN_PAIR_STATUS 30 28
/-- The pair identity of this twin (R462), as a number. -/
def pidNat (s : State) : Nat := s.dev.pid.toNat
/-- Agent ID of local agent `a` < 384 (R24). -/
def agentId (s : State) (a : Nat) : Agent := BitVec.ofNat 10 (a + 512 * pidNat s)
/-- Agent `a` belongs to this twin (R24). -/
def ownAgent (s : State) (a : Agent) : Bool := a.getLsbD 9 == s.dev.pid
/-- Key of function `f` of port `p`. -/
def fnKey (p f : Nat) : Nat := p * 257 + f
/-- Word `k` of the layout that port `p` took at its last conventional reset (R432). -/
def layoutWord (s : State) (p k : Nat) : Word := sGet s.fns.layout (p * 4 + k) 0

/-- Default of configuration word `w` of a function: the writable bits' reset values (R401 to R405). Writable
fields of the standard registers reset as PCIe 6.x gives them (assumption 30). -/
def cfgReset (f w : Nat) : Word :=
  if w = 0x108 / 4 then 0x00400000       -- uncorrectable mask: internal errors masked
  else if w = 0x10C / 4 then 0x00462030  -- uncorrectable severity
  else if w = 0x114 / 4 then 0x00006000  -- correctable mask: advisory and internal errors masked
  else if f = 1 ∧ w = 0x180 / 4 then 1     -- system page size of 4 KiB
  else 0
/-- The writable bits of configuration word `w` of function `f` of port `p`. -/
def cfgGet (s : State) (p f w : Nat) : Word := sGet s.fns.cfg (fnKey p f * 1024 + w) (cfgReset f w)
def cfgPut (s : State) (p f w : Nat) (v : Word) : State :=
  { s with fns := { s.fns with cfg := sPut s.fns.cfg (fnKey p f * 1024 + w) (cfgReset f w) v } }

/-- SVC_EN as the port holds it: function 1 is present (R399). -/
def svcEn (s : State) (p : Nat) : Bool := bitAt (layoutWord s p 0) 31
/-- VF Enable and NumVFs of the SR-IOV capability at 0x160 (R399, R405). -/
def vfEnable (s : State) (p : Nat) : Bool := bitAt (cfgGet s p 1 (0x168 / 4)) 0
def numVfs (s : State) (p : Nat) : Nat := fld (cfgGet s p 1 (0x170 / 4)) 15 0
/-- Function `f` of host port `p` is present: 0 pool view, 1 PF, 1 + n VF n (R399). -/
def fnPresent (s : State) (p f : Nat) : Bool :=
  portRole s p == 1 &&
    (f == 0 || (svcEn s p && (f == 1 || (vfEnable s p && decide (f - 1 ≤ numVfs s p)))))
/-- Memory Space Enable of a function: of the command register for the PF, of the SR-IOV control for a VF. -/
def memEnable (s : State) (p f : Nat) : Bool :=
  if f ≤ 1 then bitAt (cfgGet s p f 1) 1 else bitAt (cfgGet s p 1 (0x168 / 4)) 3
/-- Bus Master Enable. -/
def busMaster (s : State) (p f : Nat) : Bool := bitAt (cfgGet s p f 1) 2
/-- The function is in D3hot: a VF when its PF is (R404). -/
def inD3 (s : State) (p f : Nat) : Bool := if f = 0 then false else fld (cfgGet s p 1 (0x44 / 4)) 1 0 == 3
/-- MSI-X Enable and the function mask, in the capability at 0x50. -/
def msixEnable (s : State) (p f : Nat) : Bool := bitAt (cfgGet s p f (0x50 / 4)) 31
def msixMasked (s : State) (p f : Nat) : Bool := bitAt (cfgGet s p f (0x50 / 4)) 30
/-- Entries of a function's MSI-X table (R416). -/
def msixSize (s : State) (p f : Nat) : Nat :=
  if f = 1 then fld (layoutWord s p 1) 10 0 + 1 else fld (layoutWord s p 1) 26 16 + 1
/-- Word `k` of entry `v`; vector control resets to masked (PCIe 6.x, assumption 30). -/
def msixReset (k : Nat) : Word := if k = 3 then 1 else 0
def msixWord (s : State) (p f v k : Nat) : Word :=
  sGet s.fns.msix ((fnKey p f * 2048 + v) * 4 + k) (msixReset k)
def vectorMasked (s : State) (p f v : Nat) : Bool := bitAt (msixWord s p f v 3) 0
def pbaKey (p f v : Nat) : Nat := fnKey p f * 2048 + v
def vectorPending (s : State) (p f v : Nat) : Bool := s.fns.pba.contains (pbaKey p f v)
def setPending (s : State) (p f v : Nat) (b : Bool) : State :=
  { s with fns := { s.fns with
      pba := if b then (if s.fns.pba.contains (pbaKey p f v) then s.fns.pba else s.fns.pba ++ [pbaKey p f v])
             else s.fns.pba.filter (· != pbaKey p f v) } }
/-- One message with the address and data of the table entry (R417). -/
def sendVector (s : State) (p f v : Nat) : State :=
  emit s (.msix p f (msixWord s p f v 1 ++ msixWord s p f v 0) (msixWord s p f v 2))
/-- The function may send messages: Bus Master Enable and D0 (R417). -/
def maySend (s : State) (p f : Nat) : Bool := busMaster s p f && ! inD3 s p f
/-- A function raises a vector (R417); vectors outside its table are ignored. -/
def raiseVector (s : State) (p f v : Nat) : State :=
  if ! msixEnable s p f || ! decide (v < msixSize s p f) then s
  else if vectorMasked s p f v || msixMasked s p f || ! maySend s p f then setPending s p f v true
  else sendVector s p f v
/-- Send and clear every pending vector of a function that is unmasked, where it may send (R417). -/
def flushVectors (s : State) (p f : Nat) : State :=
  if ! msixEnable s p f || ! maySend s p f || msixMasked s p f then s
  else
    forAll (s.fns.pba.filter (fun k => k / 2048 == fnKey p f && ! vectorMasked s p f (k % 2048))) s
      (fun t k => sendVector (setPending t p f (k % 2048) false) p f (k % 2048))

/-- Log AER error `bit` in a function and send its message where neither mask nor control forbids it (R427, R428). -/
def logUncorrectable (s : State) (p f bit : Nat) : State :=
  let u := cfgPut s p f (0x104 / 4) (cfgGet s p f (0x104 / 4) ||| BitVec.ofNat 32 (2 ^ bit))
  let t := if bitAt (cfgGet s p f (0x104 / 4)) (fld (cfgGet s p f (0x118 / 4)) 4 0) then u
    else cfgPut u p f (0x118 / 4) (BitVec.ofNat 32 bit)
  if bitAt (cfgGet s p f (0x108 / 4)) bit then u
  else
    let fatal := bitAt (cfgGet s p f (0x10C / 4)) bit
    if bitAt (cfgGet s p f (0x68 / 4)) (if fatal then 2 else 1) then emit t (.errMsg p f (if fatal then 2 else 1))
    else t
def logCorrectable (s : State) (p f bit : Nat) : State :=
  let t := cfgPut s p f (0x110 / 4) (cfgGet s p f (0x110 / 4) ||| BitVec.ofNat 32 (2 ^ bit))
  if bitAt (cfgGet s p f (0x114 / 4)) bit || ! bitAt (cfgGet s p f (0x68 / 4)) 0 then t
  else emit t (.errMsg p f 0)

/-- Record the event of an internal error in DVSEC_INT_DETAIL, where its VALID bit is 0 (R429). -/
def internalDetail (s : State) (p f ev : Nat) (unc : Bool) : State :=
  let w := cfgGet s p f (0x1B0 / 4)
  if unc then (if bitAt w 31 then s else cfgPut s p f (0x1B0 / 4) (putFld (putFld w 29 21 ev) 31 31 1))
  else (if bitAt w 30 then s else cfgPut s p f (0x1B0 / 4) (putFld (putFld w 20 12 ev) 30 30 1))

/-! ### Links and their registers -/

/-- Number of a link: the port, or 128 for the twin link. -/
def linkNo (l : LinkId) : Nat :=
  match l with
  | .port p => p
  | .twin => 128
/-- The link register at link offset `k` (12, "Registers"). -/
def linkReg (l : LinkId) (k : Nat) : Nat :=
  match l with
  | .port p => R.PB_LINK_STATUS (p / 4) (p % 4) + k
  | .twin => R.TWIN_LINK_STATUS + k
/-- STATE of the link: 0 DOWN, 1 TRAINING, 2 ACTIVE, 3 RECOVERY. -/
def linkStateOf (s : State) (l : LinkId) : Nat := rd s (linkReg l 0) 31 29
/-- The link speaks the own protocol: the twin link and trunk ports (R346). -/
def ownProtocol (s : State) (l : LinkId) : Bool :=
  match l with
  | .port p => portRole s p == 4
  | .twin => true

/-- What the own link end holds. -/
def ownOf (s : State) (l : LinkId) : OwnLink := sGet s.links.own (linkNo l) OwnLink.reset
def setOwn (s : State) (l : LinkId) (o : OwnLink) : State :=
  { s with links := { s.links with own := sPut s.links.own (linkNo l) OwnLink.reset o } }

/-- Flits that the replay buffer holds: 256 for each cell of a trunk port, 1,024 on the twin link (R386). -/
def replayRoom (s : State) (l : LinkId) : Nat :=
  match l with
  | .port p => 256 * portCells s p
  | .twin => 1024
/-- REPLAY_MAX: 0 acts as 4 (R388). -/
def replayMax (s : State) (l : LinkId) : Nat :=
  let v := rd s (linkReg l 8) 11 8
  if v = 0 then 4 else v

/-- Sequence distance from `b` up to `a`, modulo 4,096. -/
def seqSub (a b : BitVec 12) : Nat := (a - b).toNat

/-! ### Sending -/

/-- The flits of a packet of `n` bytes (R378, R381): 240 bytes each, SOP first and EOP last. -/
def packetFlits (vc n : Nat) : List Flit :=
  let k := (n + 239) / 240
  (List.range k).map (fun i =>
    { vc := Fin.ofNat 8 vc, sop := i == 0, eop := i + 1 == k
      len := BitVec.ofNat 8 (if i + 1 == k then n - 240 * (k - 1) else 240) })

/-- A DATA flit leaves on a link: those of the twin link are a quantity of R550. -/
def noteFlit (s : State) (l : LinkId) : State :=
  match l with
  | .twin => perfHit s 0 0x41 0 1 1
  | .port _ => s
/-- Send new DATA flits: number them, keep them in the replay buffer (R380, R386). Each carries the last
accepted sequence (R385). -/
def sendFlits (s : State) (l : LinkId) (fs : List Flit) : State :=
  match fs with
  | [] => s
  | f :: t =>
    let o := ownOf s l
    let g := { f with seq := o.txSeq, ackSeq := o.rxNext - 1 }
    sendFlits
      (emit (noteFlit (setOwn s l { o with txSeq := o.txSeq + 1, replayBuf := o.replayBuf ++ [g], ackOwed := false }) l)
        (.link (.dataFlit l g))) l t

/-- One packet may leave: it has its credits and its flits have room (R384, R386), and no replay is awaited first (R390). -/
def mayLeave (s : State) (l : LinkId) (q : TxPacket) : Bool :=
  let o := ownOf s l
  ! o.nakFirst && decide (q.credits ≤ sGet o.credits q.vc 0) &&
    decide (o.replayBuf.length + (q.bytes + 239) / 240 ≤ replayRoom s l)

/-- Let one packet leave: take its credits, send its flits, and with them the message it carries. -/
def leave (s : State) (l : LinkId) (q : TxPacket) : State :=
  let o := ownOf s l
  let t := sendFlits
    (setOwn s l { o with credits := sPut o.credits q.vc 0 (sGet o.credits q.vc 0 - q.credits) })
    l (packetFlits q.vc q.bytes)
  match q.what with
  | some c => emit t (.twin c)
  | none => t

/-- Send the waiting packets that may leave, in order; a packet that may not holds back those of its own virtual
channel (R384). -/
def pump (s : State) (l : LinkId) (qs : List TxPacket) (blocked : List Nat) (kept : List TxPacket) : State :=
  match qs with
  | [] => let o := ownOf s l; setOwn s l { o with txQueue := kept }
  | q :: t =>
    if linkStateOf s l == 2 && ! blocked.contains q.vc && mayLeave s l q then pump (leave s l q) l t blocked kept
    else pump s l t (q.vc :: blocked) (kept ++ [q])
def pumpLink (s : State) (l : LinkId) : State := pump s l (ownOf s l).txQueue [] []

/-- Give the link a packet to send; a link that is DOWN takes none. -/
def linkSend (s : State) (l : LinkId) (q : TxPacket) : State :=
  let o := ownOf s l
  if linkStateOf s l = 0 then s else pumpLink (setOwn s l { o with txQueue := o.txQueue ++ [q] }) l

/-- Slots of 16 bytes that a message takes on the twin link: one for its sideband, then one for each 128-bit flit and four for
each 512-bit flit of DAT (VC 3); a pair-control message on VC 4 is one slot alone (R383, R464). -/
def twinSlots (vc flits : Nat) : Nat := if vc = 4 then flits else if vc = 3 then 4 * flits + 1 else flits + 1
/-- Send a message of the internal network, or a pair-control message on VC 4, over the twin link. -/
def twinSend (s : State) (vc flits : Nat) (c : Instr) : State :=
  linkSend s .twin ⟨vc, twinSlots vc flits, 16 * twinSlots vc flits, some c⟩
/-- A pair-control message (R466). -/
def pairSend (s : State) (c : Instr) : State := twinSend s 4 1 c

/-! ### Events (18) -/

/-- EVT_ROUTE of source `e`. -/
def evRoute (s : State) (e : Nat) : Word := liveWord s (R.EVT_ROUTE e)
/-- Delivery to the host function that the route names (R541). -/
def deliverHost (s : State) (e : Nat) : State :=
  let r := evRoute s e
  let p := fld r 26 20
  let f := 1 + fld r 19 12
  if portRole s p == 1 && linkActive s p && fnPresent s p f then
    let t := if bitAt r 29 then raiseVector s p f (fld r 10 0) else s
    if fld r 28 27 == 1 then internalDetail (logCorrectable t p f 14) p f e false
    else if fld r 28 27 == 2 then internalDetail (logUncorrectable t p f 22) p f e true
    else t
  else s
/-- Vector `v` of the management endpoint's table (R542). -/
def mgmtVector (s : State) (v : Nat) : State :=
  emit s (.mgmtMsix v (sGet s.dev.mgmtMsix (v * 4 + 1) 0 ++ sGet s.dev.mgmtMsix (v * 4) 0)
    (sGet s.dev.mgmtMsix (v * 4 + 2) 0))
/-- Delivery to the keeper: interrupt, EVT_SUMMARY bit, vector (R542). -/
def deliverKeeper (s : State) (e : Nat) : State :=
  if bitAt (evRoute s e) 31 then mgmtVector (wrBit (emit s (.keeperIrq e)) R.EVT_SUMMARY (e / 32) true) (e / 32)
  else s
/-- Source `e` is pending. -/
def evPending (s : State) (e : Nat) : Bool := rdBit s (R.EVT_PEND (e / 32)) (e % 32)
/-- Event `k` of region `n` (R538). -/
def regionEv (n k : Nat) : Nat := 128 + 24 * n + k
/-- Link, lane, hot-plug and protection events of port block `b` (R538). -/
def linkEv (b : Nat) : Nat := regionEv (b / 2) (5 + 4 * (b % 2))
def laneEv (b : Nat) : Nat := regionEv (b / 2) (6 + 4 * (b % 2))
def hotPlugEv (b : Nat) : Nat := regionEv (b / 2) (7 + 4 * (b % 2))
def ppuEv (b : Nat) : Nat := regionEv (b / 2) (8 + 4 * (b % 2))
/-- Coach-group event of coach `k`, fault and failure events of slice `x` (R538). -/
def coachEv (k : Nat) : Nat := regionEv (k / 16) (13 + k % 16 / 4)
def sliceFaultEv (x : Nat) : Nat := regionEv (x / 2) (19 + 2 * (x % 2))
def sliceFailEv (x : Nat) : Nat := regionEv (x / 2) (20 + 2 * (x % 2))
def routerEv (r : Nat) : Nat := if r < 16 then regionEv r 4 else if r = 16 then 11 else 12

end Sys2Proof.Machine
end

