-- ==== Sys2Proof/Machine/Net.lean ====
section
/-! DEFINITION. The interfaces of the internal network (08): the mesh, endpoints, routes, what each message is, credits,
reservations, sequence numbers, regulators and injection. -/

namespace Sys2Proof.Machine

/-! ### The mesh (R272 to R275) -/

/-- Mesh position of a region (R272). -/
def meshAt (n : Nat) : Nat × Nat :=
  match n with
  | 0 => (1, 1)
  | 1 => (2, 1)
  | 2 => (2, 2)
  | 3 => (1, 2)
  | 4 => (0, 2)
  | 5 => (0, 1)
  | 6 => (0, 0)
  | 7 => (1, 0)
  | 8 => (2, 0)
  | 9 => (3, 0)
  | 10 => (3, 1)
  | 11 => (3, 2)
  | 12 => (3, 3)
  | 13 => (2, 3)
  | 14 => (1, 3)
  | _ => (0, 3)
/-- Hop count of two regions (R275). -/
def hops (a b : Nat) : Nat :=
  let d (x y : Nat) : Nat := if x ≤ y then y - x else x - y
  d (meshAt a).1 (meshAt b).1 + d (meshAt a).2 (meshAt b).2
/-- Where a route ends. -/
inductive RouteEnd where
  | region (n : Nat)
  | keeper
  | twin
  | tiedOff
  | unfinished
deriving DecidableEq, Repr

/-- Neighbour of a region on a side, by hop code (R272 to R274, R281). -/
def neighbour (n code : Nat) : RouteEnd :=
  let p := meshAt n
  let at' (x y : Nat) : RouteEnd :=
    match (List.range 16).find? (fun m => meshAt m == (x, y)) with
    | some m => .region m
    | none => .unfinished
  match code with
  | 1 => if p.1 = 0 then .tiedOff else at' (p.1 - 1) p.2
  | 2 => if p.1 = 3 then .tiedOff else at' (p.1 + 1) p.2
  | 3 => if p.2 = 0 then (if n = 7 ∨ n = 8 then .keeper else .tiedOff) else at' p.1 (p.2 - 1)
  | 4 => if p.2 = 3 then (if n = 13 ∨ n = 14 then .twin else .tiedOff) else at' p.1 (p.2 + 1)
  | _ => .unfinished

/-- Regions where a spine node attaches (R274). -/
def attachedAt (d : Nat) : List Nat := if d = 16 then [7, 8] else [13, 14]
/-- Regions where a route from or to node `d` starts or leaves the mesh. -/
def nodeRegions (d : Nat) : List Nat := if d < 16 then [d] else attachedAt d

/-! ### Endpoints (R279) -/

/-- Endpoint of a port block, a coach house, a directory slice and the region services. -/
def blockEp (b : Nat) : Nat := 6 * (b / 2) + b % 2
def houseEp (n : Nat) : Nat := 6 * n + 2
def sliceEp (x : Nat) : Nat := 6 * (x / 2) + 3 + x % 2
def servicesEp (n : Nat) : Nat := 6 * n + 5
def keeperEp : Nat := 96
def twinEp : Nat := 97
/-- Agent number within a twin (R24). -/
def localAgent (a : Agent) : Nat := a.toNat % 512
/-- Endpoint of an agent of either twin: that of the twin node for the partner's (R284). -/
def agentEp (s : State) (a : Agent) : Nat :=
  if ! ownAgent s a then twinEp
  else if localAgent a < 128 then blockEp (localAgent a / 4)
  else if localAgent a < 384 then houseEp ((localAgent a - 128) / 16)
  else twinEp
/-- Node of an endpoint (R281), and the router or spine node whose counters are its own (R581). -/
def nodeOf (e : Nat) : Nat := if e < 96 then e / 6 else e - 80
/-- Endpoint of a home slice of twin `tw`. -/
def homeEp (s : State) (tw : Bool) (x : Nat) : Nat := if tw = s.dev.pid then sliceEp x else twinEp

/-- Number of a network in the registers (R286, NOC_STAT). -/
def netNo (n : Net) : Nat :=
  match n with
  | .req => 0
  | .rsp => 1
  | .snp => 2
  | .dat => 3
/-- The route set that serves a network (R281). -/
def netSet (n : Net) : Nat :=
  match n with
  | .req => 0
  | .snp => 0
  | .rsp => 1
  | .dat => 1
/-- Credits of an interface for one destination (R286). -/
def netCredits (n : Net) : Nat :=
  match n with
  | .req => 4
  | .snp => 4
  | .dat => 2
  | .rsp => 0

/-- Route entry of initiator `i` for network `n` to node `d` (R281). -/
def routeWord (s : State) (i : Nat) (n : Net) (d : Nat) : Word := liveWord s (R.NOC_ROUTE i (32 * netSet n + d))
/-- The entry that a message of initiator `i` on network `n` to endpoint `e` takes holds a route (R581). -/
def hasRoute (s : State) (i : Nat) (n : Net) (e : Nat) : Bool := bitAt (routeWord s i n (nodeOf e)) 31
/-- The last hop code before ejection; 0 where the route is the single code 0. -/
def lastHop (w : Word) (k prev : Nat) : Nat :=
  match k with
  | 0 => prev
  | j + 1 =>
    let c := fld w 2 0
    if c = 0 then prev else lastHop (w >>> 3) j c
/-- The router port on which a message arrives: opposite to the last hop (R273); also the slice's input queue. -/
def arrivalPort (s : State) (i : Nat) (n : Net) (e : Nat) : Fin 5 :=
  match lastHop (routeWord s i n (nodeOf e)) 7 0 with
  | 1 => 2
  | 2 => 1
  | 3 => 4
  | 4 => 3
  | _ => 0

/-! ### What each message is on the network (R101, R286, R287, R294, R295) -/

/-- Initiator, destination, network, whether credited, flits, and the RSP and DAT flits reserved for its answers. -/
structure MsgInfo where
  init : Nat
  dest : Nat
  net : Net
  cred : Bool
  flits : Nat
  rsp : Nat := 0
  dat : Nat := 0
deriving DecidableEq, Repr

/-- Who injects a request: its agent, or the twin node for one that the other twin forwarded (R120, R284). -/
def requestEp (s : State) (m : Hdr) : Nat := if m.fwd then twinEp else agentEp s m.src
/-- Who injects a message of the home. -/
def fromHome (s : State) (m : Hdr) : Nat := homeEp s m.htwin m.hslice
/-- A coach of either twin. -/
def isCoach (a : Agent) : Bool := decide (128 ≤ localAgent a) && decide (localAgent a < 384)

/-- The message that arrives by command `c`; none where `c` is not a message of this twin's network. -/
def msgInfo (s : State) (c : Instr) : Option MsgInfo :=
  let req (x : Fin 32) (m : Hdr) (flits rsp dat : Nat) : Option MsgInfo :=
    some ⟨requestEp s m, sliceEp x, .req, true, flits, rsp, dat⟩
  match c with
  | .rdshared x _ m _ => req x m 1 1 0
  | .rdown x _ m _ => req x m 1 1 0
  | .upgrade x _ m _ => req x m 1 1 0
  | .rdcur x _ m _ => req x m 1 1 0
  | .wrline x _ m _ => req x m 1 2 0
  | .wrpart x _ m _ => req x m 1 2 0
  | .wbdirty x _ m _ => req x m 1 2 0
  | .evict x _ m _ => req x m 1 1 0
  | .atomicfar x _ m _ _ => req x m 3 2 (if isCoach m.src then 2 else 0)
  | .memrd m =>
    some ⟨if m.src ≠ 0x3FF then agentEp s m.src else if m.fwd then twinEp else fromHome s m,
      blockEp (m.dport / 4), .req, true, 1, 0, 0⟩
  | .cmps m => some ⟨fromHome s m, agentEp s m.tgt, .rsp, false, 1, 0, 0⟩
  | .cmpo m => some ⟨fromHome s m, agentEp s m.tgt, .rsp, false, 1, 0, 0⟩
  -- DDAT marks the answer of a device port cell to an atomic of R60 (assumption 43)
  | .cmp m r =>
    some ⟨if m.ddat then blockEp (m.dport / 4) else fromHome s m, agentEp s m.tgt, .rsp, false, if r.present then 2 else 1, 0, 0⟩
  | .err m => some ⟨fromHome s m, agentEp s m.tgt, .rsp, false, 1, 0, 0⟩
  | .datago m =>
    some ⟨fromHome s m, if m.tgt = 0x3FF then blockEp (m.dport / 4) else agentEp s m.tgt, .rsp, false, 1, 0, 0⟩
  | .wbdata m _ _ =>
    some ⟨if m.src = 0x3FF then fromHome s m else agentEp s m.src, blockEp (m.dport / 4), .dat, false, 2, 0, 0⟩
  | .fill m _ =>
    some ⟨blockEp (m.dport / 4), if m.tgt = 0x3FF then sliceEp m.hslice else agentEp s m.tgt, .dat, false, 2, 0, 0⟩
  | .memcmp m =>
    some ⟨blockEp (m.dport / 4), if m.tgt ≠ 0x3FF then agentEp s m.tgt else fromHome s m, .rsp, false, 1, 0, 0⟩
  | .backinv m => some ⟨fromHome s m, agentEp s m.tgt, .snp, true, 1, 0, 0⟩
  | .backdown m => some ⟨fromHome s m, agentEp s m.tgt, .snp, true, 1, 0, 0⟩
  | .backinvBroadcast n m => some ⟨fromHome s m, servicesEp n, .snp, true, 1, 0, 0⟩
  | .biack m => some ⟨agentEp s m.src, fromHome s m, .rsp, false, 1, if m.dirty then 1 else 0, 0⟩
  | .biackagg n pid m =>
    some ⟨if pid = s.dev.pid then servicesEp n else twinEp, fromHome s m, .rsp, false, 1, 0, 0⟩
  | .ack m => some ⟨agentEp s m.src, fromHome s m, .rsp, false, 1, 0, 0⟩
  -- each sender of a loss notice names its own interface; one not in flight has come over the twin link
  | .lossNotice x _ => if x.val % 2 = 1 then none else some ⟨twinEp, servicesEp (x / 2), .snp, true, 1, 0, 0⟩
  -- the device port cell that reads the line names its own interface
  | .tagLineFill n _ _ _ => some ⟨servicesEp n, servicesEp n, .dat, false, 2, 0, 0⟩
  | .stealreq h m => some ⟨agentEp s m.thief, houseEp h, .dat, true, 1, 0, 2⟩
  -- the replying house names its own interface
  | .stealrep m =>
    some ⟨agentEp s m.owner, agentEp s m.thief, .dat, false, if m.grant then 2 else 1, 0, 0⟩
  | .unitend m => some ⟨agentEp s m.thief, agentEp s m.owner, .dat, true, 2, 0, 0⟩
  | .migmark n m =>
    some ⟨if m.pid = s.dev.pid then agentEp s m.coach else twinEp, servicesEp n, .snp, true, 1, 1, 0⟩
  | .migadvance n m =>
    some ⟨if m.pid = s.dev.pid then agentEp s m.coach else twinEp, servicesEp n, .snp, true, 1, 1, 0⟩
  | .migunmark n m =>
    some ⟨if m.pid = s.dev.pid then agentEp s m.coach else twinEp, servicesEp n, .snp, true, 1, 1, 0⟩
  | .taginv n h pid _ => some ⟨if pid = s.dev.pid then houseEp h else twinEp, servicesEp n, .snp, true, 1, 1, 0⟩
  | .tagack h _ n pid => some ⟨if pid = s.dev.pid then servicesEp n else twinEp, houseEp h, .rsp, false, 1, 0, 0⟩
  | .migack i _ n pid =>
    some ⟨if pid = s.dev.pid then servicesEp n else twinEp,
      (match (sGet s.dp.slots (n * 16 + i) {}).running with
       | some a => agentEp s a
       | none => twinEp), .rsp, false, 1, 0, 0⟩
  | .setrecall n x _ => some ⟨sliceEp x, servicesEp n, .snp, true, 1, 0, 0⟩
  | .kpracc m =>
    let o := m.offset.toNat
    some ⟨keeperEp, servicesEp (if 0x8000000 ≤ o ∧ o < 0xC000000 then (o - 0x8000000) / 0x400000 else 0), .dat, true,
      if m.wr then 2 else 1, 1, 0⟩
  -- the sending slice and the keeper node name their own interfaces; these are the arrivals from the twin
  | .jrnbatch x l => some ⟨twinEp, sliceEp x, .dat, true, 1 + (l.length + 3) / 4, 1, 0⟩
  | .jrnack x _ => some ⟨twinEp, sliceEp x, .rsp, false, 1, 0, 0⟩
  | .evtfwd _ _ => some ⟨twinEp, keeperEp, .dat, true, 1, 0, 0⟩
  | .creditret e n x _ _ _ => some ⟨x, e, if n = .rsp then .req else .rsp, false, 1, 0, 0⟩
  | .drainmark e n i => some ⟨i, e, n, false, 1, 0, 0⟩
  | .drainecho e _ d => some ⟨if d < 16 then servicesEp d else d + 80, e, .rsp, false, 1, 0, 0⟩
  | _ => none

/-! ### Units behind the interfaces (R290) -/

/-- The unit of an agent. -/
def agentUnit (a : Agent) : Option FenceUnit :=
  if localAgent a < 128 then some (.cell (Fin.ofNat 128 (localAgent a)))
  else if localAgent a < 384 then some (.coach (Fin.ofNat 256 (localAgent a - 128)))
  else none
/-- Unit that must be up for the message to be taken. The keeper access answers for itself (R296), and what an interface sinks
at once needs no unit. -/
def msgUnit (c : Instr) : Option FenceUnit :=
  match c with
  | .rdshared x _ _ _ | .rdown x _ _ _ | .upgrade x _ _ _ | .rdcur x _ _ _ | .wrline x _ _ _ | .wrpart x _ _ _
  | .wbdirty x _ _ _ | .evict x _ _ _ | .atomicfar x _ _ _ _ => some (.slice x)
  | .memrd m => some (.cell m.dport)
  | .cmps m | .cmpo m | .cmp m _ | .err m | .backinv m | .backdown m => agentUnit m.tgt
  | .datago m => if m.tgt = 0x3FF then some (.cell m.dport) else agentUnit m.tgt
  | .wbdata m _ _ => some (.cell m.dport)
  | .fill m _ => if m.tgt = 0x3FF then some (.slice m.hslice) else agentUnit m.tgt
  | .memcmp m => if m.tgt ≠ 0x3FF then agentUnit m.tgt else some (.slice m.hslice)
  | .biack m | .ack m | .biackagg _ _ m => some (.slice m.hslice)
  | .backinvBroadcast n _ | .tagLineFill n _ _ _ | .taginv n _ _ _ | .migmark n _ | .migadvance n _
  | .migunmark n _ | .setrecall n _ _ => some (.region n)
  | .lossNotice x _ => if x.val % 2 = 1 then some (.slice x) else some (.region (Fin.ofNat 16 (x / 2)))
  | .jrnbatch x _ | .jrnack x _ => some (.slice x)
  | .stealreq h _ | .tagack h _ _ _ => some (.region h)
  | .stealrep m => agentUnit m.thief
  | .unitend m => if localAgent m.owner < 384 then some (.region (Fin.ofNat 16 ((localAgent m.owner - 128) / 16))) else none
  | _ => none
/-- The unit of this twin that injects the message; none for what the twin node injects, and for what every interface sinks
and answers at once. -/
def senderUnit (s : State) (c : Instr) : Option FenceUnit :=
  let agent (a : Agent) : Option FenceUnit := if ownAgent s a then agentUnit a else none
  let home (m : Hdr) : Option FenceUnit := if m.htwin = s.dev.pid then some (.slice m.hslice) else none
  match c with
  | .rdshared _ _ m _ | .rdown _ _ m _ | .upgrade _ _ m _ | .rdcur _ _ m _ | .wrline _ _ m _ | .wrpart _ _ m _
  | .wbdirty _ _ m _ | .evict _ _ m _ | .atomicfar _ _ m _ _ | .biack m | .ack m => agent m.src
  | .memrd m => if m.src ≠ 0x3FF then agent m.src else if m.fwd then none else home m
  | .cmps m | .cmpo m | .err m | .backinv m | .backdown m | .backinvBroadcast _ m | .datago m => home m
  | .cmp m _ => if m.ddat then some (.cell m.dport) else home m
  | .wbdata m _ _ => if m.src = 0x3FF then home m else agent m.src
  | .fill m _ | .memcmp m => some (.cell m.dport)
  | .biackagg n pid _ | .migack _ _ n pid | .tagack _ _ n pid => if pid = s.dev.pid then some (.region n) else none
  | .stealreq _ m | .unitend m => agent m.thief
  | .migmark _ m | .migadvance _ m | .migunmark _ m => agent m.coach
  | .taginv _ h pid _ => if pid = s.dev.pid then some (.region h) else none
  | .setrecall _ x _ => some (.slice x)
  | _ => none

/-- A unit is fenced or in reset (R30, R290, R519). -/
def unitDown (s : State) (u : FenceUnit) : Bool :=
  match u with
  | .cell c => cellFenced s c || s.dev.held.contains (.cell c) || s.dev.held.contains (.portBlock (Fin.ofNat 32 (c / 4)))
      || s.dev.held.contains (.region (Fin.ofNat 16 (c / 8)))
  | .coach k => s.dev.fenced.contains (.coach k) || s.dev.held.contains (.coach k)
      || s.dev.held.contains (.coachGroup (Fin.ofNat 64 (k / 4))) || s.dev.held.contains (.region (Fin.ofNat 16 (k / 16)))
  | .slice x => s.dev.fenced.contains (.slice x) || s.dev.held.contains (.slice x)
      || s.dev.held.contains (.region (Fin.ofNat 16 (x / 2)))
  | .region n => s.dev.fenced.contains (.region n) || s.dev.held.contains (.region n)
/-- The management parent of a unit is in reset (R28, R32); the region controllers' parent is the keeper (R33). -/
def parentDown (s : State) (u : FenceUnit) : Bool :=
  match u with
  | .cell c => s.dev.held.contains (.portBlock (Fin.ofNat 32 (c / 4))) || s.dev.held.contains (.region (Fin.ofNat 16 (c / 8)))
  | .coach k => s.dev.held.contains (.coachGroup (Fin.ofNat 64 (k / 4))) || s.dev.held.contains (.region (Fin.ofNat 16 (k / 16)))
  | .slice x => s.dev.held.contains (.region (Fin.ofNat 16 (x / 2)))
  | .region _ => ! s.dev.keeperRun

/-! ### Statistics (R298) -/

/-- NOC_STAT of initiator `i` and network `n` as one number. -/
def statOf (s : State) (i : Nat) (n : Net) : Nat :=
  let o := R.NOC_STAT i (netNo n)
  (getReg s o).toNat + 2 ^ 32 * (getReg s (o + 4)).toNat + 2 ^ 64 * (getReg s (o + 8)).toNat +
    2 ^ 96 * (getReg s (o + 12)).toNat
def putStat (s : State) (i : Nat) (n : Net) (flits msgs sum mx : Nat) : State :=
  let o := R.NOC_STAT i (netNo n)
  let v := flits % 2 ^ 48 + 2 ^ 48 * (msgs % 2 ^ 32) + 2 ^ 80 * (sum % 2 ^ 32) + 2 ^ 112 * mx
  setReg (setReg (setReg (setReg s o (BitVec.ofNat 32 v)) (o + 4) (BitVec.ofNat 32 (v / 2 ^ 32)))
    (o + 8) (BitVec.ofNat 32 (v / 2 ^ 64))) (o + 12) (BitVec.ofNat 32 (v / 2 ^ 96))
def statFlits (v : Nat) : Nat := v % 2 ^ 48
def statMsgs (v : Nat) : Nat := v / 2 ^ 48 % 2 ^ 32
def statSum (v : Nat) : Nat := v / 2 ^ 80 % 2 ^ 32
def statMax (v : Nat) : Nat := v / 2 ^ 112
/-- Count injected flits. -/
def countFlits (s : State) (i : Nat) (n : Net) (f : Nat) : State :=
  let v := statOf s i n
  let t := putStat s i n (statFlits v + f) (statMsgs v) (statSum v) (statMax v)
  if i < 96 then perfHit t (i / 6) 0x12 (4 * (i % 6) + netNo n) 1 f else t
/-- Count returned latencies. -/
def countLatency (s : State) (i : Nat) (n : Net) (k sum mx : Nat) : State :=
  let v := statOf s i n
  putStat s i n (statFlits v) (statMsgs v + k) (statSum v + sum) (max (statMax v) mx)

/-! ### Injection (R281 to R287, R297, R581) -/

def withNoc (s : State) (n : Noc) : State := { s with noc := n }
/-- Key of (initiator, destination, network). -/
def nocKey (i d : Nat) (n : Net) : Nat := (i * 98 + d) * 4 + netNo n

/-- The regulator word of (initiator, network). -/
def regWord (s : State) (i : Nat) (n : Net) : Word := liveWord s (R.NOC_REG i + netNo n * 4)
/-- Regulator of (initiator, network): RATE, and BURST where 0 acts as 5 (R297). -/
def regRate (s : State) (i : Nat) (n : Net) : Nat := fld (regWord s i n) 24 16
def regBurst (s : State) (i : Nat) (n : Net) : Nat :=
  let b := fld (regWord s i n) 7 0
  if b = 0 then 5 else b
/-- What a bucket lacks now, when it gains `rate` in each KCLK cycle. -/
def lacks (s : State) (b : Bucket) (rate : Nat) : Nat := b.missing - rate * ((now s).toNat - b.time)
/-- The regulator's bucket holds `f` flits. -/
def regHolds (s : State) (i : Nat) (n : Net) (f : Nat) : Bool :=
  regRate s i n == 0 || n == .rsp ||
    decide (16 * f + lacks s (sGet s.noc.buckets (i * 4 + netNo n) ⟨0, 0⟩) (regRate s i n) ≤ 16 * regBurst s i n)
/-- Take `f` flits from the regulator's bucket. -/
def regTake (s : State) (i : Nat) (n : Net) (f : Nat) : State :=
  if regRate s i n = 0 ∨ n = .rsp then s
  else
    let b := sGet s.noc.buckets (i * 4 + netNo n) ⟨0, 0⟩
    let v : Bucket := ⟨lacks s b (regRate s i n) + 16 * f, (now s).toNat⟩
    withNoc s { s.noc with buckets := sPut s.noc.buckets (i * 4 + netNo n) ⟨0, 0⟩ v }

/-! ### Reservations (R287, R288) -/

/-- A transaction of a home: its twin, slice and number. -/
def homeTxn (m : Hdr) : Nat := (32 * m.htwin.toNat + m.hslice) * 256 + m.htxn
/-- What the reservation for the answers of a message is held for; none where it needs none, or where another interface than
one of this twin's units sends it. `copy`: 16 for a broadcast's message to the twin node. -/
def resvFor (s : State) (c : Instr) (copy : Option Nat) : Option ResvFor :=
  let request (m : Hdr) : Option ResvFor := if ownAgent s m.src && ! m.fwd then some (.request m.src m.rtag) else none
  match c with
  | .rdshared _ _ m _ | .rdown _ _ m _ | .upgrade _ _ m _ | .rdcur _ _ m _ | .wrline _ _ m _ | .wrpart _ _ m _
  | .wbdirty _ _ m _ | .evict _ _ m _ | .atomicfar _ _ m _ _ => request m
  | .biack m => if m.dirty && ownAgent s m.src then some (.dirty m.src (homeTxn m)) else none
  | .stealreq _ m => some (.steal m.thief)
  | .jrnbatch x l => l.getLast?.map (fun r => .journal x r.jseq)
  | .kpracc m => some (.keeper m.ktag)
  | .taginv n h pid l => if pid = s.dev.pid then some (.tagInv h l (copy.getD n)) else none
  | .migmark n m => if m.pid = s.dev.pid then some (.migration m.slot .mark (copy.getD n)) else none
  | .migunmark n m => if m.pid = s.dev.pid then some (.migration m.slot .unmark (copy.getD n)) else none
  | .migadvance n m => if m.pid = s.dev.pid then some (.migration m.slot .advance (copy.getD n)) else none
  | _ => none
/-- The number under which RESERVATION_EXPIRY names a reservation of an interface (assumption 132). -/
def resvNo (r : ResvFor) : BitVec 10 :=
  match r with
  | .request _ t => t
  | .steal a => a
  | .journal _ q => q.setWidth 10
  | .keeper t => t.setWidth 10
  | .tagInv _ _ n => BitVec.ofNat 10 n
  | .migration i _ n => BitVec.ofNat 10 (32 * i + n)
  | .dirty _ t => BitVec.ofNat 10 t
/-- Unit whose fence or reset releases the reservation (R290). -/
def resvUnit (r : ResvFor) : Option FenceUnit :=
  match r with
  | .request a _ | .steal a | .dirty a _ => agentUnit a
  | .journal x _ => some (.slice (Fin.ofNat 32 x))
  | .tagInv h _ _ => some (.region (Fin.ofNat 16 h))
  | _ => none
def reserve (s : State) (r : Resv) : State := withNoc s { s.noc with resv := s.noc.resv ++ [r] }
/-- Release what is held for `r` when its answers have arrived. -/
def unreserve (s : State) (r : ResvFor) : State :=
  withNoc s { s.noc with resv := s.noc.resv.filter (fun q => q.what != r) }
/-- Space for the answers of a request of an own agent. -/
def unreserveReq (s : State) (a : Agent) (rtag : BitVec 10) : State := unreserve s (.request a rtag)

/-! ### Injection (R280, R281, R283 to R286, R297, R581) -/

/-- An interface awaits echoes before it injects to node `d` on network `n` (R283). -/
def draining (s : State) (i : Nat) (n : Net) (d : Nat) : Bool :=
  s.noc.drains.any (fun x => x.init == i && x.set == netSet n && x.node == d)
/-- A credit is left for (initiator, destination, network). -/
def hasCredit (s : State) (i d : Nat) (n : Net) : Bool :=
  decide (sGet s.noc.taken (nocKey i d n) 0 < netCredits n)
/-- DrainMarks and DrainEchos: control messages that no drain, credit or fence holds (R283). -/
def isDrain (c : Instr) : Bool :=
  match c with
  | .drainmark _ _ _ | .drainecho _ _ _ => true
  | _ => false
/-- The twin node's own messages: credits returned to it, and the marks and echoes of R283. -/
def forTwinNode (c : Instr) : Bool :=
  match c with
  | .creditret _ _ _ _ _ _ => true
  | c => isDrain c
/-- A message of an interface may go now, `ahead` being those queued before it: its unit is in service (R290), no drain, and for a
credited one a credit, the regulator and the interface's order (R283, R286, R297). -/
def mayInject (s : State) (g : Msg) (ahead : List Msg) : Bool :=
  ! (senderUnit s g.cmd).any (unitDown s) && (isDrain g.cmd || ! draining s g.init g.net (nodeOf g.dest)) &&
    (! g.cred ||
      (hasCredit s g.init g.dest g.net && regHolds s g.init g.net g.flits &&
        ! ahead.any (fun x => x.init == g.init && x.net == g.net && x.cred)))

/-- The sideband that message `g` takes at its injection by route entry `w` (R280, R283, R289). -/
def stamped (s : State) (g : Msg) (w : Word) : Msg :=
  { g with
    stamp := BitVec.ofNat 16 s.noc.cellTime, route := w.extractLsb' 0 21, rvc := bitAt w 30
    seq := if g.cred then sGet s.noc.txSeq (nocKey g.init g.dest g.net) 0 else 0 }
/-- Inject a message by route entry `w`: credit, sequence number, regulator, statistics. -/
def putBy (s : State) (g : Msg) (w : Word) : State :=
  let k := nocKey g.init g.dest g.net
  let m := stamped s g w
  let t := countFlits s g.init g.net g.flits
  if g.cred then
    let u := regTake t g.init g.net g.flits
    { u with
      noc := { u.noc with taken := sPut u.noc.taken k 0 (sGet u.noc.taken k 0 + 1), txSeq := sPut u.noc.txSeq k 0 (m.seq + 1) }
      flight := u.flight ++ [m] }
  else { t with flight := t.flight ++ [m] }
/-- Inject a message by the entry in force, whatever its destination. -/
def putPlain (s : State) (g : Msg) : State := putBy s g (routeWord s g.init g.net (nodeOf g.dest))

/-- Count a message that no route can carry, and raise the router's event (R299, R581). The event's own forward waits at the
keeper's interface. -/
def noteNoRoute (s : State) (r : Nat) : State :=
  let bump (t : State) (k : Nat) : State := wr t (R.NOC_ERR_CNT3 k) 15 0 (satUp (rd t (R.NOC_ERR_CNT3 k) 15 0))
  let e := routerEv r
  let t := bump s r
  if evPending t e then t
  else
    let u := deliverHost (deliverKeeper (wrBit t (R.EVT_PEND (e / 32)) (e % 32) true) e) e
    if bitAt (evRoute u e) 30 && twinState u == 2 then
      if hasRoute u keeperEp .dat twinEp then
        withNoc u { u.noc with queue := u.noc.queue ++ [⟨.evtfwd (Fin.ofNat 512 e) u.dev.pid, keeperEp, twinEp, .dat, true, 1, 0, 0, 0, false, none⟩] }
      else bump u 16
    else u

/-- Return `k` credits to the initiator of `g`, with the latency of the message consumed (R286, R294). -/
def returnCredits (s : State) (g : Msg) (k : Nat) (measured : Bool) : State :=
  let lat := if measured then (BitVec.ofNat 16 s.noc.cellTime - g.stamp).toNat else 0
  let m : Msg := ⟨.creditret (Fin.ofNat 98 g.init) g.net (Fin.ofNat 98 g.dest) (BitVec.ofNat 3 k) (BitVec.ofNat 16 lat)
    (BitVec.ofNat 18 lat), g.dest, g.init, if g.net = .rsp then .req else .rsp, false, 1, 0, 0, 0, false, none⟩
  if ! hasRoute s m.init m.net m.dest then noteNoRoute s (nodeOf m.init)
  else if mayInject s m [] then putPlain s m
  else withNoc s { s.noc with queue := s.noc.queue ++ [m] }

/-- The twin node takes a message for the other twin off the network as it is injected, returns its credit and gives it to the
link, in order (R284; assumption 131). -/
def crossTwin (s : State) (g : Msg) : State :=
  let t := putPlain s g
  let u := { t with flight := t.flight.dropLast }
  let k := nocKey g.init g.dest g.net
  let v := if g.cred then
      returnCredits (withNoc u { u.noc with rxSeq := sPut u.noc.rxSeq k 0 (sGet u.noc.txSeq k 0) })
        { g with stamp := BitVec.ofNat 16 s.noc.cellTime } 1 true
    else u
  twinSend v (netNo g.net) g.flits g.cmd
/-- Inject a message by the entry in force. -/
def putMsg (s : State) (g : Msg) : State :=
  if g.dest = twinEp ∧ forTwinNode g.cmd = false then crossTwin s g else putPlain s g

/-- Inject the waiting messages that may go, in order. -/
def drainQueue (s : State) (l kept : List Msg) : State :=
  match l with
  | [] => withNoc s { s.noc with queue := kept ++ s.noc.queue }
  | x :: t => if mayInject s x kept then drainQueue (putMsg s x) t kept else drainQueue s t (kept ++ [x])
def settleNoc (s : State) : State := drainQueue (withNoc s { s.noc with queue := [] }) s.noc.queue []

/-- The interface `i.init` sends the message that arrives by `c`, with `r` reserved for its answers. Without a route it takes
no credit and no reservation, and the message counts as lost (R581). -/
def inject (s : State) (i : MsgInfo) (r : Option ResvFor) (c : Instr) : State :=
  if ! hasRoute s i.init i.net i.dest then noteNoRoute s (nodeOf i.init)
  else
    let g : Msg := ⟨c, i.init, i.dest, i.net, i.cred, i.flits, 0, 0, 0, false, none⟩
    let t := match r with
      | some w => reserve s ⟨i.init, w, i.rsp, i.dat⟩
      | none => s
    if mayInject t g t.noc.queue then putMsg t g
    else withNoc t { t.noc with queue := t.noc.queue ++ [g] }

/-- Send the message `c` from the interface that it names. -/
def send (s : State) (c : Instr) : State :=
  match msgInfo s c with
  | some i => inject s i (resvFor s c none) c
  | none => { s with flight := s.flight ++ [⟨c, twinEp, twinEp, .rsp, false, 0, 0, BitVec.ofNat 16 s.noc.cellTime, 0, false, none⟩] }
/-- Send the message `c` from interface `e`. -/
def sendFrom (s : State) (e : Nat) (c : Instr) : State :=
  match msgInfo s c with
  | some i => inject s { i with init := e } (resvFor s c none) c
  | none => s
/-- Send the message `c` from interface `e` to the twin node. -/
def sendTwin (s : State) (e : Nat) (c : Instr) : State :=
  match msgInfo s c with
  | some i => inject s { i with init := e, dest := twinEp } (resvFor s c (some 16)) c
  | none => s

end Sys2Proof.Machine
end

