-- ==== Sys2Proof/Machine/Ops.lean ====
section
/-! DEFINITION. The named operations that every family of commands uses, continued: raising events, trouble counters and
protection units. -/

namespace Sys2Proof.Machine

/-! ### Raising events (18) -/

/-- Delivery to the twin: an EvtFwd from the keeper node while the twin link is ACTIVE (R543). -/
def deliverTwin (s : State) (e : Nat) : State :=
  if bitAt (evRoute s e) 30 && twinState s == 2 then
    inject s ⟨keeperEp, twinEp, .dat, true, 1, 0, 0⟩ none (.evtfwd (Fin.ofNat 512 e) s.dev.pid)
  else s
/-- Raise source `e`: deliver when its pending bit changes from 0 to 1 (R539). -/
def raiseEv (s : State) (e : Nat) : State :=
  if evPending s e then s
  else deliverTwin (deliverHost (deliverKeeper (wrBit s (R.EVT_PEND (e / 32)) (e % 32) true) e) e) e
/-- Clear a bit of EVT_SUMMARY when no bit of its word is both pending and routed to the keeper (R542). -/
def summaryWord (s : State) (w : Nat) : Bool :=
  (List.range 32).any (fun j => evPending s (32 * w + j) && bitAt (evRoute s (32 * w + j)) 31)
def settleSummary (s : State) (w : Nat) : State :=
  if summaryWord s w then s else wrBit s R.EVT_SUMMARY w false

/-! ### Trouble counters (R544, R545) -/

/-- When a counter raises its event. -/
inductive CntRule where
  | every | once
deriving DecidableEq, Repr

/-- One occurrence of the cause that field [lo+15:lo] at `off` counts, with its raising rule. -/
def count (s : State) (off lo : Nat) (rule : CntRule) (e : Nat) : State :=
  let c := rd s off (lo + 15) lo
  let t := wr s off (lo + 15) lo (satUp c)
  if rule = .every ∨ c = 0xFFFE then raiseEv t e else t

/-- Clear a trouble counter through its clear bit. -/
def clearCnt (s : State) (off lo : Nat) : State := wr s off (lo + 15) lo 0

/-! ### Protection (10) -/

/-- An access that a protection unit checks: the first byte and length in one space, kinds as bits R W A T,
and the initiator (R321, R326). -/
structure Access where
  space : Nat
  kind : Nat
  initKind : Nat
  init : Nat
  first : Nat
  bytes : Nat
deriving DecidableEq, Repr

/-- A refusal as its record names it (R325, R337). -/
structure Denied where
  cause : Nat
  entry : Nat
  addr : Nat
deriving DecidableEq, Repr

/-- 64-bit structural register as a number. -/
def live64 (s : State) (off : Nat) : Nat := (liveWord s off).toNat + (liveWord s (off + 4)).toNat * 2 ^ 32

/-- Entry `e` of the unit whose window is at `w` matches byte `a` of the access (R324). -/
def entryMatches (s : State) (w e : Nat) (x : Access) (a : Nat) : Bool :=
  let c := liveWord s (w + e * 0x20)
  let i := liveWord s (w + e * 0x20 + 4)
  bitAt c 31 && fld c 25 24 == x.space && fld c 19 18 == x.initKind &&
    decide (live64 s (w + e * 0x20 + 8) ≤ a) && decide (a ≤ live64 s (w + e * 0x20 + 16) + 63) &&
    ((Nat.xor x.init (fld i 15 0)) &&& fld i 31 16) == 0 && (x.kind &&& fld c 23 20) == x.kind

/-- The lowest-numbered matching entry below `n`. -/
def decidingEntry (s : State) (w n : Nat) (x : Access) (a : Nat) (locked : Bool) : Option Nat :=
  (List.range n).find? (fun e => entryMatches s w e x a && (! locked || bitAt (liveWord s (w + e * 0x20)) 30))

/-- Byte `a` is allowed, and the entry that decides it, 0x7F for DEFAULT. `locked`: only locked entries count and
everything else is allowed (R336). -/
def byteAllowed (s : State) (w n : Nat) (x : Access) (locked : Bool) (a : Nat) : Bool × Nat :=
  match decidingEntry s w n x a locked with
  | some e => (bitAt (liveWord s (w + e * 0x20)) 29, e)
  | none => (locked || bitAt (liveWord s (w + 0xC00)) 30, 0x7F)

/-- The unit's answer for a whole access: every byte must be allowed (R325). Entries bound whole 64-byte blocks,
so one byte of each block decides for it. -/
def checkUnit (s : State) (w n : Nat) (x : Access) (locked : Bool) : Option Denied :=
  let blocks := (List.range ((x.first + x.bytes + 63) / 64 - x.first / 64)).map
    (fun i => if i = 0 then x.first else (x.first / 64 + i) * 64)
  match blocks.find? (fun a => ! (byteAllowed s w n x locked a).1) with
  | some a =>
    let e := (byteAllowed s w n x locked x.first).2
    let bad := (byteAllowed s w n x locked a).2
    some ⟨if bad = 0x7F then 2 else 1, e, a⟩
  | none => none

/-- VIOL_INFO of a refusal (R337). -/
def violInfo (x : Access) (d : Denied) (space : Nat) : Word :=
  BitVec.ofNat 32 (2 ^ 31 + d.cause * 2 ^ 27 + space * 2 ^ 25 + x.kind * 2 ^ 21 + x.initKind * 2 ^ 19 +
    x.init % 2 ^ 16)

/-- Count a violation in the unit of window `w`: low half COUNT. -/
def countViol (s : State) (w e : Nat) : State := count s (w + 0xC40) 0 .once e

/-- A port protection unit or coach-house guard records its first violation (R337, R340). -/
def recordFirst (s : State) (w : Nat) (x : Access) (d : Denied) (space e : Nat) : State :=
  let t := countViol s w e
  if rdBit t (w + 0xC10) 31 then t
  else
    raiseEv (wr64 (setReg (setReg t (w + 0xC10) (violInfo x d space)) (w + 0xC14) (BitVec.ofNat 32 d.entry))
      (w + 0xC18) (BitVec.ofNat 64 d.addr)) e

/-- A privileged guard logs every violation in its eight slots (R338, R340). -/
def recordLog (s : State) (w : Nat) (x : Access) (d : Denied) (space e : Nat) : State :=
  let t := countViol s w e
  let k := rd t (w + 0xC20) 2 0
  let b := w + 0xD00 + k * 0x20
  let t1 := wr64 (wr64 (setReg (setReg t b (violInfo x d space)) (b + 4) (BitVec.ofNat 32 d.entry))
    (b + 8) (BitVec.ofNat 64 d.addr)) (b + 16) (now s)
  let full := rd t (w + 0xC20) 7 4 == 8
  let t2 := if full then count t1 (w + 0xC40) 16 .once e else t1
  let t3 := wr (wr t2 (w + 0xC20) 2 0 ((k + 1) % 8)) (w + 0xC20) 7 4
    (if full then 8 else rd t (w + 0xC20) 7 4 + 1)
  raiseEv t3 e

/-- Windows of the protection units (10, "Registers"). -/
def ppuWindow (c : Nat) : Nat := R.RGN_PPU_ENTRY_CTRL c 0
def guardWindow (n : Nat) : Nat := R.RGN_GUARD_ENTRY_CTRL n 0
def fgWindow : Nat := R.RST_FG_ENTRY_CTRL 0
def twinGuardWindow : Nat := R.TWIN_GUARD_ENTRY_CTRL 0

/-- Fabric initiator codes (R322). -/
def FabInit.code (i : FabInit) : Nat :=
  match i with
  | .keeper => 0
  | .endpoint => 1
  | .smbus => 2
  | .debug => 3

/-- The fabric guard's answer for an access to the management space (R321, R336). Until the first structure load after a
package-level reset the guard holds no rule, and every access passes (assumption 47). -/
def fabricGuard (s : State) (i : FabInit) (off : Nat) (write : Bool) : Option Denied :=
  if s.dev.afterPackage then none
  else checkUnit s fgWindow 32 ⟨2, if write then 2 else 1, 3, FabInit.code i, off, 4⟩ (decide (i = .debug))

/-- The fabric guard logs a refusal of a management access (R338). -/
def recordFabric (s : State) (i : FabInit) (off : Nat) (write : Bool) (d : Denied) : State :=
  recordLog s fgWindow ⟨2, if write then 2 else 1, 3, FabInit.code i, off, 4⟩ d 2 18

/-- The lock bit that guards the word at `off`, where it lies in a protection unit's entries or unit control:
the offset of the word that holds it (R334). -/
def lockWord (off : Nat) : Option Nat :=
  let inUnit (w n : Nat) : Option Nat :=
    if w ≤ off ∧ off < w + n * 0x20 then some (w + (off - w) / 0x20 * 0x20)
    else if off = w + 0xC00 then some (w + 0xC00) else none
  if off / 0x1000 = 4 then inUnit fgWindow 32
  else if off / 0x1000 = 0xE0F0 then inUnit twinGuardWindow 32
  else if 0x8000000 ≤ off ∧ off < 0xC000000 then
    let w := off / 0x1000 * 0x1000
    let r := w % 0x400000
    if 0x240000 ≤ r ∧ r < 0x248000 then inUnit w 16
    else if r = 0x248000 then inUnit w 64 else none
  else none
/-- The word at `off` belongs to a locked entry or control. -/
def isLocked (s : State) (off : Nat) : Bool :=
  match lockWord off with
  | some l => bitAt (liveWord s l) 30 && l % 0x1000 != 0xC00 || (l % 0x1000 == 0xC00 && bitAt (liveWord s l) 31)
  | none => false

end Sys2Proof.Machine
end

