-- ==== Sys2Proof/Machine/Noc.lean ====
section
/-! DEFINITION. The internal network (08), continued: the order in which messages are ejected, their arrival at the
destination interface, the routers, and the network's commands. -/

namespace Sys2Proof.Machine

/-! ### Arrival (R284, R286, R289, R290) -/

/-- Numbers missing before SEQ at the destination are counted, and their credits returned (R289). -/
def seqGap (s : State) (g : Msg) : State :=
  let k := nocKey g.init g.dest g.net
  let miss := (g.seq - sGet s.noc.rxSeq k 0).toNat
  let t := withNoc s { s.noc with rxSeq := sPut s.noc.rxSeq k 0 (g.seq + 1) }
  forAll (List.range miss) t (fun u _ =>
    returnCredits (count u (R.NOC_ERR_CNT1 (nodeOf g.dest)) 16 .every (routerEv (nodeOf g.dest))) g 1 false)
/-- The destination interface takes message `g` off the network. -/
def takeOff (s : State) (g : Msg) : State :=
  let t := { s with flight := s.flight.erase g }
  if g.cred then returnCredits (seqGap t g) g 1 true else t

/-- Message `x` must be ejected before a later `g`: the same initiator, destination and network (R284). A DrainMark passes no
earlier message to its node on its route channel (R283). -/
def goesFirst (g x : Msg) : Bool :=
  x.init == g.init && x.net == g.net &&
    (x.dest == g.dest ||
      (match g.cmd with
       | .drainmark _ _ _ => nodeOf x.dest == nodeOf g.dest && x.rvc == g.rvc
       | _ => false))
/-- Message `g` of the flight list may be ejected now: no earlier message goes first, and no router on its way is known to hold
it. -/
def mayEject (l : List Msg) (g : Msg) : Bool :=
  ! (l.takeWhile (fun x => x != g)).any (goesFirst g) && g.place.all (fun p => p.node == nodeOf g.dest)
/-- The message `c` comes to its destination interface: the state in which the interface acts, and whether it is there. One that
is not in flight and comes from the other twin is injected by the twin node as initiator 97, and ejected in the same step
where nothing holds it (R284). -/
def eject (s : State) (c : Instr) : State × Bool :=
  match s.flight.find? (fun g => g.cmd == c) with
  | some g => if mayEject s.flight g then (takeOff s g, true) else (s, false)
  | none =>
    match msgInfo s c with
    | some i =>
      if i.init = twinEp then
        let t := inject s i none c
        match t.flight.find? (fun g => g.cmd == c) with
        | some g => if mayEject t.flight g then (takeOff t g, true) else (t, false)
        | none => (t, false)
      else (s, true)
    | none => (s, true)
/-- The message `c` reaches its destination interface, which acts by `k`; a unit that is fenced or in reset takes nothing, and the
discard is counted (R290). -/
def receive (s : State) (c : Instr) (k : State → State) : State :=
  let e := eject s c
  if ! e.2 then e.1
  else if (msgUnit c).any (unitDown e.1) then
    let r := (msgInfo s c).elim 17 (fun i => nodeOf i.dest)
    count e.1 (R.NOC_ERR_CNT2 r) 16 .once (routerEv r)
  else k e.1

/-! ### Fenced interfaces (R290) -/

/-- A fenced unit's reservations are released. -/
def releaseUnit (s : State) (u : FenceUnit) : State :=
  withNoc s { s.noc with resv := s.noc.resv.filter (fun r => resvUnit r.what != some u) }
/-- A unit in reset: its reservations are released and nothing of it waits for injection. -/
def silence (s : State) (u : FenceUnit) : State :=
  let t := releaseUnit s u
  withNoc t { t.noc with queue := t.noc.queue.filter (fun g => senderUnit t g.cmd != some u) }

/-! ### Routers (R273, R277, R278, R280, R291, R292) -/

/-- The side that faces side `c` of a neighbour. -/
def opposite (c : Nat) : Nat := if c = 1 then 2 else if c = 2 then 1 else if c = 3 then 4 else if c = 4 then 3 else 0
/-- The router or spine node that hop code `c` leads to from router `n`, and the input port there; a spine node's two inputs
take different numbers. -/
def hopTo (n c : Nat) : Option (Nat × Nat) :=
  match neighbour n c with
  | .region m => some (m, opposite c)
  | .keeper => some (16, n % 5)
  | .twin => some (17, n % 5)
  | _ => none
/-- The hop code that a message takes next. -/
def nextHop (g : Msg) : Nat := (g.route.extractLsb' 0 3).toNat
/-- Flits that the input buffer of (node, port) holds on one route channel; a message of more than 4 flits fills it (R277). -/
def bufferUsed (s : State) (node port : Nat) (net : Net) (rvc : Bool) : Nat :=
  ((s.flight.filter (fun x => x.net == net && x.rvc == rvc &&
    x.place.any (fun p => p.node == node && p.port == port))).map (fun x => min 4 x.flits)).foldl (· + ·) 0
/-- The next router has buffer credits for the message. -/
def hasRoom (s : State) (node port : Nat) (g : Msg) : Bool :=
  decide (bufferUsed s node port g.net g.rvc + min 4 g.flits ≤ 4)
/-- Number of a message's arrival in the buffer that holds it. -/
def placeNo (g : Msg) : Nat := g.place.elim 0 (fun p => p.num)
/-- Message `g` is the first of its buffer and route channel. -/
def firstInBuffer (s : State) (g : Msg) : Bool :=
  ! s.flight.any (fun x => x.net == g.net && x.rvc == g.rvc && decide (placeNo x < placeNo g) &&
    (match x.place, g.place with
     | some p, some q => p.node == q.node && p.port == q.port
     | _, _ => false))
/-- Age of a header: cell times since its STAMP, saturating at 4,095. -/
def headerAge (s : State) (g : Msg) : Nat := min 4095 (BitVec.ofNat 16 s.noc.cellTime - g.stamp).toNat
def hopKey (node c : Nat) (net : Net) : Nat := (node * 8 + c) * 4 + netNo net
/-- Headers on both route channels that ask for output `c` of `node` and have room behind it. -/
def outCandidates (s : State) (node c : Nat) (net : Net) : List Msg :=
  s.flight.filter (fun x => x.net == net && nextHop x == c && x.place.any (fun p => p.node == node) && firstInBuffer s x &&
    (hopTo node c).any (fun h => hasRoom s h.1 h.2 x))
/-- The header that the output takes: the oldest, and among equal ages the first input port from the rotating pointer on
(R278). -/
def outChoice (s : State) (node c : Nat) (net : Net) : Option Msg :=
  let l := outCandidates s node c net
  let top := (l.map (headerAge s)).foldl max 0
  let old := l.filter (fun x => headerAge s x == top)
  let ptr := sGet s.noc.hopPtr (hopKey node c net) 0
  ((List.range 5).map (fun i => (ptr + i) % 5)).findSome? (fun port => old.find? (fun x => x.place.any (fun p => p.port == port)))
/-- Put the header of `g` in an input buffer; `g'` is the message as it arrives there. -/
def enterBuffer (s : State) (g g' : Msg) (node port : Nat) : State :=
  { s with
    noc := { s.noc with arrivals := s.noc.arrivals + 1 }
    flight := s.flight.map (fun x => if x = g then { g' with place := some ⟨node, port, s.noc.arrivals + 1⟩ } else x) }
/-- Routers at which a message of initiator `i` enters the mesh, with the input port: the local port, or the side where the
spine node attaches. -/
def entryPort (i r : Nat) : Option Nat :=
  if nodeOf i < 16 then (if r = nodeOf i then some 0 else none)
  else if (attachedAt (nodeOf i)).contains r then some (if nodeOf i = 16 then 3 else 4)
  else none
/-- The header of `g` arrives at router `r`: from its interface, or by the hop that the previous router's output gives it, which
shifts ROUTE; none where it cannot. -/
def hopMsg (s : State) (g : Msg) (r : Nat) : Option State :=
  match g.place with
  | none =>
    match entryPort g.init r with
    | some port => if hasRoom s r port g then some (enterBuffer s g g r port) else none
    | none => none
  | some p =>
    match hopTo p.node (nextHop g) with
    | some h =>
      if h.1 = r ∧ outChoice s p.node (nextHop g) g.net = some g then
        let k := hopKey p.node (nextHop g) g.net
        let t := withNoc s { s.noc with hopPtr := sPut s.noc.hopPtr k 0 ((p.port + 1) % 5) }
        some (enterBuffer t g { g with route := g.route >>> 3 } r h.2)
      else none
    | none => none

/-- The poisoned form of a message: its header's POISON set (R292). -/
def poisoned (c : Instr) : Instr :=
  match c with
  | .fill m d => .fill { m with poison := true } d
  | .wbdata m d k => .wbdata { m with poison := true } d k
  | .atomicfar x q m a e => .atomicfar x q { m with poison := true } a e
  | .cmp m r => .cmp { m with poison := true } r
  | .tagLineFill n l d _ => .tagLineFill n l d .uncorrectable
  | c => c

/-- The header check at a router's input (R291), `hit` being the message there. -/
def checkHeader (s : State) (r : Nat) (hit : Option Msg) (net : Net) (dest : Nat) (hdrEcc payload : Ecc) : State :=
  match hdrEcc with
  | .uncorrectable =>
    let t := count s (R.NOC_ERR_CNT0 r) 16 .every (routerEv r)
    match hit with
    | some g => { t with flight := t.flight.erase g }
    | none => t
  | h =>
    let t := if h = .corrected then count s (R.NOC_ERR_CNT0 r) 0 .once (routerEv r) else s
    -- REQ, RSP and SNP messages carry a header flit alone but for the operands and the result of a far atomic
    if payload = .uncorrectable ∧ nodeOf dest = r ∧ (net = .dat ∨ hit.any (fun g => decide (1 < g.flits)) = true) then
      let u := count t (R.NOC_ERR_CNT1 r) 0 .every (routerEv r)
      match hit with
      | some g => { u with flight := u.flight.map (fun x => if x = g then { x with cmd := poisoned x.cmd } else x) }
      | none => u
    else t
/-- The message in flight that a sideband names (R280). -/
def named (net : Net) (init dest : Nat) (seq : BitVec 8) (credited : Bool) (g : Msg) : Bool :=
  g.init == init && g.dest == dest && g.net == net && g.cred == credited && (! credited || g.seq == seq)
/-- ROUTER_FLIT_ARRIVAL: the message named comes to the router's input by its route, and its header is checked and corrected,
or the message is discarded; payload errors count at the destination and poison the message (R278, R291, R292). A header
that the output before the router does not take stays where it is. -/
def execRouterFlitArrival (router : Fin 18) (net : Net) (init dest : Fin 98) (seq : BitVec 8) (credited : Bool)
    (hdrEcc payload : Ecc) (s : State) : Host.Outcome State Fault Refusal :=
  .next (onFabric s
    (let l := s.flight.filter (named net init dest seq credited)
     match l.findSome? (fun g => hopMsg s g router) with
     | some t =>
       checkHeader t router (t.flight.find? (fun g => g.place.isSome && placeNo g == t.noc.arrivals)) net dest hdrEcc payload
     | none => if l.isEmpty then checkHeader s router none net dest hdrEcc payload else s))

/-! ### Commands -/

/-- CREDITRET: the interface takes its credits back and adds the latencies (R286, R298). -/
def execCreditret (endpoint : Fin 98) (net : Net) (src : Fin 98) (cnt : BitVec 3) (latMax : BitVec 16)
    (latSum : BitVec 18) (s : State) : Host.Outcome State Fault Refusal :=
  .next (onFabric s
    (receive s (.creditret endpoint net src cnt latMax latSum) (fun t =>
      let k := nocKey endpoint src net
      settleNoc (countLatency
        (withNoc t { t.noc with taken := sPut t.noc.taken k 0 (sGet t.noc.taken k 0 - cnt.toNat) })
        endpoint net cnt.toNat latSum.toNat latMax.toNat))))

/-- DRAINMARK: sunk at once and answered (R283). -/
def execDrainmark (endpoint : Fin 98) (net : Net) (init : Fin 98) (s : State) : Host.Outcome State Fault Refusal :=
  .next (onFabric s
    (receive s (.drainmark endpoint net init) (fun t =>
      send t (.drainecho init net (Fin.ofNat 18 (nodeOf endpoint))))))

/-- DRAINECHO: once every echo is back, the interface injects by the new route (R283). -/
def execDrainecho (endpoint : Fin 98) (net : Net) (node : Fin 18) (s : State) : Host.Outcome State Fault Refusal :=
  .next (onFabric s
    (receive s (.drainecho endpoint net node) (fun t =>
      let mine (d : Drain) : Bool := d.init == endpoint.val && d.set == netSet net && d.node == node.val
      let l := t.noc.drains.map (fun d => if mine d then { d with nets := d.nets.erase net } else d)
      settleNoc (withNoc t { t.noc with drains := l.filter (fun d => ! d.nets.isEmpty) }))))

/-- REGULATED_INJECTION: a held message whose flits the bucket holds is injected (R297). -/
def execRegulatedInjection (_init : Fin 98) (_net : Net) (s : State) : Host.Outcome State Fault Refusal :=
  .next (onFabric s (settleNoc s))

/-- ROUTER_PARITY_ERROR leaves the router for the chip level in `Resets`; this is the event it raises (R26, R293). -/
def routerParity (s : State) (r : Nat) : State := raiseEv s (routerEv r)

end Sys2Proof.Machine
end

