-- ==== Sys2Proof/Machine/Buf.lean ====
section
/-! DEFINITION. Region buffers and traffic control (07, 09): the accounts of cells, link credits, meters, shapers, fair
admission, and the loss of a destination. -/

namespace Sys2Proof.Machine

def withBuf (s : State) (b : Buf) : State := { s with buf := b }

/-! ### Accounts (R244) -/

/-- Region and ingress index of a port cell. -/
def portRegion (p : Nat) : Nat := p / 8
def portIdx (p : Nat) : Nat := p % 8
/-- MIN[j][c] and ALPHA[j][c] of region `n`. -/
def bufMin (s : State) (n j c : Nat) : Nat := fld (liveWord s (R.RGN_BUF_MIN n (j * 4 + c))) 14 0
def bufAlpha (s : State) (n j c : Nat) : Nat := fld (liveWord s (R.RGN_BUF_MIN n (j * 4 + c))) 30 24
/-- S: the shared pool size. -/
def sharedSize (s : State) (n : Nat) : Nat :=
  32768 - ((List.range 36).map (fun k => fld (liveWord s (R.RGN_BUF_MIN n k)) 14 0)).foldl (· + ·) 0
/-- M[j][c], H[j][c] and SU. -/
def minUsed (s : State) (n j c : Nat) : Nat := rd s (R.RGN_BUF_USE n (j * 4 + c)) 15 0
def sharedUsed (s : State) (n j c : Nat) : Nat := rd s (R.RGN_BUF_USE n (j * 4 + c)) 31 16
def poolUsed (s : State) (n : Nat) : Nat := rd s (R.RGN_BUF_STATUS n) 15 0
def freeCells (s : State) (n : Nat) : Nat := rd s (R.RGN_BUF_STATUS n) 31 16
/-- Take and free `k` cells of (j, c) in the minimum. -/
def takeMin (s : State) (n j c k : Nat) : State :=
  wr (wr s (R.RGN_BUF_USE n (j * 4 + c)) 15 0 (minUsed s n j c + k)) (R.RGN_BUF_STATUS n) 31 16 (freeCells s n - k)
def freeMin (s : State) (n j c k : Nat) : State :=
  let d := min k (minUsed s n j c)
  wr (wr s (R.RGN_BUF_USE n (j * 4 + c)) 15 0 (minUsed s n j c - d)) (R.RGN_BUF_STATUS n) 31 16 (freeCells s n + d)
/-- Take and free `k` cells of (j, c) in the shared pool. -/
def takeShared (s : State) (n j c k : Nat) : State :=
  wr (wr (wr s (R.RGN_BUF_USE n (j * 4 + c)) 31 16 (sharedUsed s n j c + k)) (R.RGN_BUF_STATUS n) 15 0 (poolUsed s n + k))
    (R.RGN_BUF_STATUS n) 31 16 (freeCells s n - k)
def freeShared (s : State) (n j c k : Nat) : State :=
  let d := min k (sharedUsed s n j c)
  wr (wr (wr s (R.RGN_BUF_USE n (j * 4 + c)) 31 16 (sharedUsed s n j c - d)) (R.RGN_BUF_STATUS n) 15 0 (poolUsed s n - d))
    (R.RGN_BUF_STATUS n) 31 16 (freeCells s n + d)

/-! ### Link credits (R253, R254, R375) -/

def homedIn (b : SMap Word) : Nat := fld (sGet b R.XBAR_CFG 0) 1 0
def homedClass (s : State) : Nat := homedIn s.banks.live
/-- CLASS_v of port `p`. -/
def vcClass (s : State) (p v : Nat) : Nat := fld (liveWord s (R.XBAR_PORT_VCMAP p)) (2 * v + 1) (2 * v)
/-- Virtual channels that a role can carry (item 2 of R249). -/
def roleVcs (r : Nat) : Nat := if r = 4 then 8 else if r = 3 then 4 else if r = 0 then 0 else 1
/-- A class of port `p` on which packets arrive from its link. -/
def linkClass (s : State) (p c : Nat) : Bool :=
  (List.range (roleVcs (portRole s p))).any (fun v => vcClass s p v == c) || (portRole s p == 1 && c == homedClass s)
/-- Free minimum cells that may back credits: on a device port, HOMED_CLASS keeps all but 34 for R250. -/
def mayBack (s : State) (p c : Nat) : Nat :=
  let room := bufMin s (portRegion p) (portIdx p) c - minUsed s (portRegion p) (portIdx p) c
  let out := sGet s.buf.backed (p * 4 + c) 0
  if portRole s p = 2 ∧ c = homedClass s then min room (34 - out) else room
/-- Advertise credits that free minimum cells of (p, c) back, in the port's next update. -/
def advertise (s : State) (p c : Nat) : State :=
  let k := mayBack s p c
  if linkActive s p && linkClass s p c && decide (0 < k) then
    let t := takeMin s (portRegion p) (portIdx p) c k
    emit (withBuf t { t.buf with backed := sPut t.buf.backed (p * 4 + c) 0 (sGet t.buf.backed (p * 4 + c) 0 + k) })
      (.credit p c k)
  else s
/-- Return `k` backing cells of (p, c) to the free minimum: used by a packet, or lost with the link. -/
def unback (s : State) (p c k : Nat) : State :=
  let d := min k (sGet s.buf.backed (p * 4 + c) 0)
  freeMin (withBuf s { s.buf with backed := sPut s.buf.backed (p * 4 + c) 0 (sGet s.buf.backed (p * 4 + c) 0 - d) })
    (portRegion p) (portIdx p) c d
/-- Free cells of an ingress index, with the credits they back again; index 8 is the coach house. -/
def freeCellsOf (s : State) (n j c k : Nat) (shared : Bool) : State :=
  if shared then freeShared s n j c k
  else
    let t := freeMin s n j c k
    match (if j < 8 then portOf t (8 * n + j) else none) with
    | some p => advertise t p c
    | none => t

/-! ### Virtual output queues (R239, R242, R246) -/

/-- Two packets share a virtual output queue. -/
def sameVoq (a b : Pkt) : Bool := a.region == b.region && a.j == b.j && a.dest == b.dest && a.cls == b.cls
/-- Shared cells that a virtual output queue holds: those of its packets that have not crossed. -/
def voqShared (s : State) (n j c : Nat) (d : Dest) : Nat :=
  ((s.buf.pkts.filter (fun y => y.region == n && y.j == j && y.cls == c && y.dest == d && y.shared)).map
    (fun y => y.cells - y.sent)).foldl (· + ·) 0
/-- Conditions of R246 for `k` cells of (j, c), the queue already holding `q` shared ones. -/
def sharedFits (s : State) (n j c k q : Nat) : Bool :=
  decide (poolUsed s n + k ≤ sharedSize s n) &&
    decide (8 * sharedUsed s n j c < bufAlpha s n j c * (sharedSize s n - poolUsed s n)) &&
    decide (q + k ≤ fld (liveWord s (R.RGN_BUF_VOQ_MAX n)) 14 0)

/-- Reserve one cell of (j, HOMED_CLASS) for a read whose data will join the queue of destination `d`: from the minimum, or
from the shared pool (R250). Answers whether the cell is shared. -/
def reserveCell (s : State) (p : Nat) (d : Option Dest) : Option (State × Bool) :=
  let n := portRegion p
  let j := portIdx p
  let c := homedClass s
  if minUsed s n j c < bufMin s n j c then some (takeMin s n j c 1, false)
  else if sharedFits s n j c 1 (d.elim 0 (voqShared s n j c)) then some (takeShared s n j c 1, true)
  else none

/-! ### Meters (R300 to R308) -/

/-- Words of profile `r`. -/
def rateCir (b : SMap Word) (r : Nat) : Nat := fld (sGet b (R.XBAR_RATE_CIR r) 0) 23 0
def ratePir (b : SMap Word) (r : Nat) : Nat := fld (sGet b (R.XBAR_RATE_PIR r) 0) 23 0
def rateWeight (b : SMap Word) (r : Nat) : Nat := max 1 (fld (sGet b (R.XBAR_RATE_PIR r) 0) 31 24)
def rateCold (b : SMap Word) (r : Nat) : Bool := bitAt (sGet b (R.XBAR_RATE_CIR r) 0) 31
/-- Bursts in 1/4,096 byte. -/
def rateCbs (b : SMap Word) (r : Nat) : Nat := fld (sGet b (R.XBAR_RATE_BURST r) 0) 19 0 * 64 * 4096
def ratePbs (b : SMap Word) (r : Nat) : Nat := fld (sGet b (R.XBAR_RATE_BURST r + 4) 0) 19 0 * 64 * 4096

/-- Colours (R306). -/
inductive Colour where
  | green | yellow | red
deriving DecidableEq, Repr

/-- Tokens of a bucket pair under profile `r`, in 1/4,096 byte. -/
def tokensC (s : State) (r : Nat) (b : Bucket × Bucket) : Nat := rateCbs s.banks.live r - lacks s b.1 (rateCir s.banks.live r)
def tokensP (s : State) (r : Nat) (b : Bucket × Bucket) : Nat := ratePbs s.banks.live r - lacks s b.2 (ratePir s.banks.live r)
/-- Colour of a charge of `n` bytes (R306). -/
def colourOf (s : State) (r : Nat) (b : Bucket × Bucket) (n : Nat) : Colour :=
  if ratePir s.banks.live r = 0 then .green
  else if tokensP s r b < 4096 * n then .red
  else if tokensC s r b < 4096 * n then .yellow
  else .green
/-- Buckets after `c` and `p` bytes are charged to Tc and Tp. -/
def chargeBoth (s : State) (r : Nat) (b : Bucket × Bucket) (c p : Nat) : Bucket × Bucket :=
  if ratePir s.banks.live r = 0 then b
  else
    (⟨lacks s b.1 (rateCir s.banks.live r) + 4096 * c, (now s).toNat⟩,
      ⟨lacks s b.2 (ratePir s.banks.live r) + 4096 * p, (now s).toNat⟩)
/-- Buckets after a charge of `n` bytes of a colour. -/
def chargeColour (s : State) (r : Nat) (b : Bucket × Bucket) (n : Nat) (k : Colour) : Bucket × Bucket :=
  match k with
  | .green => chargeBoth s r b n n
  | .yellow => chargeBoth s r b 0 n
  | .red => b

def fullPair : Bucket × Bucket := (⟨0, 0⟩, ⟨0, 0⟩)
/-- Meter instance `i` of region `n`. -/
def meterWord (b : SMap Word) (n i : Nat) : Word := sGet b (R.XBAR_METER n i) 0
def meterPair (s : State) (n i : Nat) : Bucket × Bucket := sGet s.buf.meters (n * 1024 + i) fullPair
def setMeter (s : State) (n i : Nat) (b : Bucket × Bucket) : State :=
  withBuf s { s.buf with meters := sPut s.buf.meters (n * 1024 + i) fullPair b }
def meterProfile (s : State) (n i : Nat) : Nat := fld (meterWord s.banks.live n i) 7 0
/-- The valid instance of region `n` for the key (tenant, port) (R303). -/
def meterFor (s : State) (n tenant port : Nat) : Option Nat :=
  (List.range 1024).find? (fun i =>
    let w := meterWord s.banks.live n i
    bitAt w 31 && fld w 30 24 == port && fld w 23 12 == tenant)
/-- Packets of an instance's hold list, in order. -/
def holdList (s : State) (n i : Nat) : List Pkt := s.buf.pkts.filter (fun x => x.region == n && x.stage == .held i)
/-- The HELD count. -/
def settleHeld (s : State) (n i : Nat) : State :=
  wr s (R.XBAR_METER_HELD n i) 15 0 (holdList s n i).length

/-! ### Fair admission (R316, R317) -/

def admKey (n j c : Nat) : Nat := (n * 9 + j) * 4 + c
/-- The default flow. -/
def defaultFlow : Nat := 1024
def flowWeight (s : State) (n f : Nat) : Nat :=
  if f < 1024 then rateWeight s.banks.live (meterProfile s n f) else 16
/-- Tag `x` is later than `y`, modulo 2^48. -/
def tagLater (x y : Nat) : Bool :=
  let d := (x + 2 ^ 48 - y % 2 ^ 48) % 2 ^ 48
  decide (d ≠ 0) && decide (d < 2 ^ 47)
/-- A request of `k` cells joins flow `f`: its tag, and the flow's finish. -/
def joinFlow (s : State) (n j c f k : Nat) : State × Nat :=
  let a := admKey n j c
  let v := sGet s.buf.vtime a 0
  let fin := sGet s.buf.finish (a * 1025 + f) 0
  let start := if tagLater fin v then fin else v
  let tag := (start + k * 65536 / flowWeight s n f) % 2 ^ 48
  (withBuf s { s.buf with finish := sPut s.buf.finish (a * 1025 + f) 0 tag }, tag)

/-- A waiting request of an admission point: its tag, its flow, and the packet's number, or none for a landing
reservation. -/
structure Waiting where
  tag : Nat
  flow : Nat
  pkt : Option Nat
deriving DecidableEq, Repr

def waitingAt (s : State) (n j c : Nat) : List Waiting :=
  (s.buf.pkts.filter (fun x => x.region == n && x.j == j && x.cls == c && x.stage == .waiting)).map
    (fun x => ⟨x.tag, x.flow, some x.id⟩) ++
  (if j = 8 then (s.buf.lands.filter (fun x => x.region == n && x.cls == c)).map (fun x => ⟨x.tag, x.flow, none⟩) else [])
/-- The head of least tag: ties to the lower instance, the default flow last. -/
def leastTag (l : List Waiting) : Option Waiting :=
  l.foldl (fun acc x =>
    match acc with
    | none => some x
    | some y => if tagLater y.tag x.tag || (y.tag == x.tag && decide (x.flow < y.flow)) then some x else some y) none
/-- Admit a waiting packet into its queue. -/
def admitPkt (s : State) (id : Nat) : State :=
  match s.buf.pkts.find? (fun x => x.id == id) with
  | some x =>
    withBuf s { s.buf with
      pkts := s.buf.pkts.erase x ++ [{ x with stage := .queued, stamp := s.noc.cellTime }]
      vtime := sPut s.buf.vtime (admKey x.region x.j x.cls) 0 x.tag }
  | none => s
/-- Admit requests of an admission point by tag until a landing reservation is at the head; that one is granted by
LANDING_GRANT. -/
def admitLoop (k : Nat) (s : State) (n j c : Nat) : State :=
  match k with
  | 0 => s
  | m + 1 =>
    match leastTag (waitingAt s n j c) with
    | some ⟨_, _, some id⟩ => admitLoop m (admitPkt s id) n j c
    | _ => s
def admitHeads (s : State) (n j c : Nat) : State := admitLoop (waitingAt s n j c).length s n j c

/-- A packet joins its flow and is admitted. -/
def joinPkt (s : State) (x : Pkt) : State :=
  let r := joinFlow s x.region x.j x.cls x.flow x.cells
  admitHeads (withBuf r.1 { r.1.buf with pkts := r.1.buf.pkts ++ [{ x with stage := .waiting, tag := r.2 }] }) x.region x.j x.cls

/-- Payload bytes of a load: a packet's bytes, or BYTES of a data cell (R235, R236). -/
def loadLen (l : Load) : Nat :=
  match l with
  | .switched p => p.bytes
  | _ => 80
/-- Payload bytes of cell `i`. -/
def cellLen (l : Load) (i : Nat) : Nat := min 128 (loadLen l - 128 * i)
/-- Cells of a packet are admitted from ingress index `j` (R550). -/
def noteAdmitted (s : State) (n j cells : Nat) (l : Load) : State :=
  forAll (List.range cells) (perfHit s n 0x02 j 1 cells) (fun t i => perfHit t n 0x04 j (cellLen l i) 1)
/-- Number a packet. -/
def newPkt (s : State) (n j c : Nat) (d : Dest) (typ : PktType) (cells level : Nat) (shared : Bool) (flow : Nat)
    (l : Load) : State × Pkt :=
  (noteAdmitted (withBuf s { s.buf with nextId := s.buf.nextId + 1 }) n j cells l,
    ⟨s.buf.nextId, n, j, c, d, typ, cells, level, shared, .waiting, 0, 0, 0, 0, 0, false, flow, 0, l⟩)

/-- Enqueue one data cell whose cell is already held (R236, R250, R252). -/
def enqueueData (s : State) (n j c : Nat) (d : Dest) (shared : Bool) (l : Load) : State :=
  let r := newPkt s n j c d .U 1 1 shared defaultFlow l
  joinPkt r.1 r.2

/-- A green packet moves to the shared pool where R246 lets it; its minimum cells are freed. -/
def placeGreen (s : State) (x : Pkt) : State × Pkt :=
  if sharedFits s x.region x.j x.cls x.cells (voqShared s x.region x.j x.cls x.dest) then
    (takeShared (freeCellsOf s x.region x.j x.cls x.cells false) x.region x.j x.cls x.cells, { x with shared := true })
  else (s, x)

/-- A switched packet received whole (R246): metered, tested for the shared pool, and enqueued or held. -/
def acceptPacket (s : State) (p : RxPacket) : State :=
  let n := portRegion p.port
  let j := portIdx p.port
  let c := vcClass s p.port p.vc
  let cells := (p.bytes + 127) / 128
  let back := p.hdrCredits + (p.dataCredits + 7) / 8
  let s1 := advertise (takeMin (unback s p.port c back) n j c cells) p.port c
  let mw := liveWord s1 (R.XBAR_PORT_METER p.port)
  let meter := if bitAt mw 31 then meterFor s1 n (fld mw 11 0) p.port else none
  match meter with
  | none =>
    let r := newPkt s1 n j c p.dest p.typ cells 1 false defaultFlow (.switched p)
    let g := placeGreen r.1 r.2
    joinPkt g.1 g.2
  | some i =>
    let pr := meterProfile s1 n i
    let k := if holdList s1 n i = [] then colourOf s1 pr (meterPair s1 n i) p.bytes else .red
    let r := newPkt (setMeter s1 n i (chargeColour s1 pr (meterPair s1 n i) p.bytes k)) n j c p.dest p.typ cells
      (if k = .yellow then 0 else 1) false i (.switched p)
    match k with
    | .green => let g := placeGreen r.1 r.2; joinPkt g.1 g.2
    | .yellow => joinPkt r.1 r.2
    | .red => settleHeld (withBuf r.1 { r.1.buf with pkts := r.1.buf.pkts ++ [{ r.2 with stage := .held i }] }) n i

/-- PACKET_RECEIVED: a memory request from a switch-through or trunk port is checked by the port protection unit; a
refused one is discarded, and completed where it is non-posted (R321, R333). -/
def execPacketReceived (p : RxPacket) (s : State) : Host.Outcome State Fault Refusal :=
  .next (onFabric s
    (if ! linkActive s p.port then s
     else
       let x : Access := ⟨1, if p.atomic then 4 else if p.write then 2 else 1, 2, p.requester.toNat, p.addr.toNat, p.length⟩
       let w := ppuWindow p.port
       match (if p.memory && decide (3 ≤ portRole s p.port) then checkUnit s w 16 x false else none) with
       | some d =>
         let t := recordFirst s w x d 1 (ppuEv (p.port / 4))
         let u := advertise (unback t p.port (vcClass t p.port p.vc) (p.hdrCredits + (p.dataCredits + 7) / 8)) p.port
           (vcClass t p.port p.vc)
         if p.typ = .NP then emit u (.cplSwitched p.port p.requester p.tag .abort) else u
       | none => acceptPacket s p))

/-- FLOW_TAG_REFRESH: the finish tag of every empty flow of an admission point that is not later than V becomes V
(R318). -/
def execFlowTagRefresh (region : Fin 16) (j : Fin 9) (c : Fin 4) (s : State) : Host.Outcome State Fault Refusal :=
  .next (onFabric s
    (let a := admKey region j c
     let v := sGet s.buf.vtime a 0
     let w := waitingAt s region j c
     withBuf s { s.buf with
       finish := (List.range 1025).foldl (fun m f =>
         if (w.any (fun x => x.flow == f)) || tagLater (sGet m (a * 1025 + f) 0) v then m
         else sPut m (a * 1025 + f) 0 v) s.buf.finish }))

/-- TYPE of the cell header (R235). -/
def typNo (t : PktType) : Nat :=
  match t with
  | .P => 0
  | .NP => 1
  | .CPL => 2
  | .U => 3
/-- Key of the header credits of a standard port for a class and a type; data credits are one higher (R255). -/
def egressKey (p c : Nat) (t : PktType) : Nat := ((p * 4 + c) * 4 + typNo t) * 2
def addEgress (s : State) (k n : Nat) : State :=
  withBuf s { s.buf with egress := sPut s.buf.egress k 0 (sGet s.buf.egress k 0 + n) }
def takeEgress (s : State) (k n : Nat) : State :=
  withBuf s { s.buf with egress := sPut s.buf.egress k 0 (sGet s.buf.egress k 0 - n) }
/-- FLOW_CONTROL_UPDATE of a standard link partner: header and data credits of one class and type (R255). -/
def execFlowControlUpdate (port : Fin 128) (c : Fin 4) (typ : PktType) (credits : LinkCredits) (s : State) :
    Host.Outcome State Fault Refusal :=
  .next (onFabric s
    (let k := egressKey port c typ
     addEgress (addEgress s k credits.hdr) (k + 1) credits.data))

/-! ### Loss of a destination (R266, R267) -/

/-- Raw rate of a lane in units of 100 MT/s, by the code of RATE (R391). -/
def rateOf (code : Nat) : Nat :=
  match code with
  | 0 => 25
  | 1 => 50
  | 2 => 80
  | 3 => 160
  | 4 => 320
  | 5 => 640
  | _ => 1280
/-- Raw bandwidth of a port each way, in Mbyte/s (R263). -/
def portBandwidth (s : State) (p : Nat) : Nat :=
  let w := rdWord s (linkReg (.port (Fin.ofNat 128 p)) 0)
  2 ^ fld w 25 23 * rateOf (fld w 28 26) * 100 / 8
/-- The port transmits from a packet's first cell on: its bandwidth is at most 102.4 GB/s. -/
def cutThrough (s : State) (p : Nat) : Bool := decide (portBandwidth s p ≤ 102400)

/-- Flush one packet: a non-posted one of a standard port is completed by its ingress cell, every other is counted. A
transmission that has begun is ended (R266, R267). -/
def flushPkt (s : State) (x : Pkt) : State :=
  let t := freeCellsOf (withBuf s { s.buf with pkts := s.buf.pkts.erase x }) x.region x.j x.cls (x.cells - x.sent) x.shared
  let u := match x.stage with
    | .held i => settleHeld t x.region i
    | _ => t
  match x.load with
  | .switched p =>
    let v := match x.dest with
      | .port d => if x.stage = .moving ∧ 0 < x.sent ∧ cutThrough u d = true then emit u (.tlpCut d p) else u
      | .house _ => u
    if x.typ = .NP ∧ portRole v p.port ≠ 4 then emit v (.cplSwitched p.port p.requester p.tag .unsupported)
    else count v R.XBAR_FLUSH_CNT 0 .once 10
  | _ => count u R.XBAR_FLUSH_CNT 0 .once 10
/-- What a meter holds of a peer-window TLP is no packet for the port. -/
def crosses (l : Load) : Bool :=
  match l with
  | .peer _ _ => false
  | _ => true
/-- Flush every packet queued for port `p`, with the staging of its attachments. -/
def flushPort (s : State) (p : Nat) : State :=
  let t := forAll (s.buf.pkts.filter (fun x => x.dest == .port (Fin.ofNat 128 p) && crosses x.load)) s flushPkt
  withBuf t { t.buf with
    staging := sDrop t.buf.staging (fun e => decide (p ≤ e) && decide (e < p + portCells t p))
    egress := sDrop t.buf.egress (fun k => k / 32 == p) }
/-- A lost link takes back the credits its partner holds. -/
def dropCredits (s : State) (p : Nat) : State :=
  forAll (List.range 4) s (fun t c => unback t p c (sGet t.buf.backed (p * 4 + c) 0))

/-! ### The auditor (R268 to R270) -/

/-- AUDIT_SWEEP_START: the opposite colour, RUNNING (R268). -/
def execAuditSweepStart (region : Fin 16) (s : State) : Host.Outcome State Fault Refusal :=
  .next (onFabric s
    (if rdBit s (R.RGN_BUF_AUDIT_CTRL region) 0 then
       withBuf (wrBit s (R.RGN_BUF_AUDIT_STATUS region) 30 true)
         { s.buf with sweepColour := sPut s.buf.sweepColour region 0 (1 - sGet s.buf.sweepColour region 0) }
     else s))

/-- One finding of a sweep (R269, R270): a leak found before and not reclaimed is not reported again, and is reclaimed once
AUTO_RECLAIM is 1. The cell accounts of R244 are the model's free list, so a free cell is linked again by no change of them.
The corruption reaches the keeper (R26) as the region's fault event beside the buffer's (assumption 166). -/
def auditFinding (s : State) (n : Nat) (f : AuditFinding) : State :=
  let auto := rdBit s (R.RGN_BUF_AUDIT_CTRL n) 1
  let key (cell : Nat) : Nat := n * 32768 + cell
  let report (t : State) (kind j c cell : Nat) : State :=
    if t.buf.leaked.contains (key cell) then t
    else
      let u := setReg (count t (R.RGN_BUF_LEAK_CNT n) 0 .every (regionEv n 2)) (R.RGN_BUF_LEAK_LAST n)
        (BitVec.ofNat 32 (kind * 2 ^ 30 + j * 2 ^ 24 + c * 2 ^ 22 + cell))
      withBuf u { u.buf with leaked := u.buf.leaked ++ [key cell] }
  let reclaimed (t : State) (cell : Nat) : State := withBuf t { t.buf with leaked := t.buf.leaked.filter (· != key cell) }
  match f with
  | .heldLeak j c cell shared =>
    let t := report s 1 j c cell
    if auto then reclaimed (freeCellsOf t n j c 1 shared) cell else t
  | .freeLeak cell =>
    let t := report s 2 0 0 cell
    if auto then reclaimed t cell else t
  | .corrupt => raiseEv (raiseEv (wrBit s (R.RGN_BUF_AUDIT_STATUS n) 31 true) (regionEv n 1)) (regionEv n 0)

/-- AUDIT_SWEEP_END: leaks are counted and reclaimed, an inconsistent list sets CORRUPT (R269, R270). -/
def execAuditSweepEnd (region : Fin 16) (found : List AuditFinding) (s : State) : Host.Outcome State Fault Refusal :=
  .next (onFabric s
    (if ! rdBit s (R.RGN_BUF_AUDIT_STATUS region) 30 then s
     else
       let t := wrBit s (R.RGN_BUF_AUDIT_STATUS region) 30 false
       let u := wr t (R.RGN_BUF_AUDIT_STATUS region) 15 0 (rd t (R.RGN_BUF_AUDIT_STATUS region) 15 0 + 1)
       found.foldl (fun v f => auditFinding v region f) u))

end Sys2Proof.Machine
end

