-- ==== Sys2Proof/Machine/Func.lean ====
section
/-! DEFINITION. Configuration space, power state, MSI-X and the tenant of a host function (13). -/

namespace Sys2Proof.Machine

/-! ### Tenants of functions -/

/-- Tenant `t` is enabled and belongs to function `f` of port `p` (R208, R400). -/
def tenantIs (s : State) (t p f : Nat) : Bool :=
  let w := liveWord s (R.STX_TENANT_W0 t)
  bitAt w 31 && fld w 29 23 == p && decide (f = fld w 22 15 + 1)
/-- The enabled tenant of function `f` of port `p` (R400). -/
def tenantOf (s : State) (p f : Nat) : Option Nat := (List.range 4096).find? (fun t => tenantIs s t p f)

/-! ### Configuration words (R401 to R405) -/

/-- BAR 4 size of a function as a power of two, 0 for none. -/
def bar4Log (s : State) (p f : Nat) : Nat :=
  if f = 1 then fld (layoutWord s p 0) 21 16 else fld (layoutWord s p 0) 27 22

/-- Writable bits of the address of a BAR of 2^n bytes: dword 0 or 1 of its pair. -/
def barMask (n k : Nat) : Word :=
  BitVec.ofNat 32 ((2 ^ 64 - 2 ^ n) / 2 ^ (32 * k) % 2 ^ 32)
/-- Mask of BAR dword `i` (0 to 5) for BAR 0 of 64 KiB, BAR 2 of 2 MiB and BAR 4 of 2^n (R405, R406). -/
def barWordMask (i n : Nat) : Word :=
  if i < 2 then barMask 16 i else if i < 4 then barMask 21 (i - 2) else if n = 0 then 0 else barMask n (i - 4)
/-- Type bits of BAR dword `i`: 64-bit; BAR 4 prefetchable. -/
def barType (i n : Nat) : Word := if i = 0 ∨ i = 2 then 4 else if i = 4 ∧ n ≠ 0 then 0xC else 0

/-- The writable bits of configuration byte offset `o` of function `f` (assumption 30). -/
def cfgMask (s : State) (p f o : Nat) : Word :=
  if o = 0x04 then (if f ≤ 1 then 0x0546 else 0x0004)
  else if f = 1 ∧ 0x10 ≤ o ∧ o < 0x28 then barWordMask ((o - 0x10) / 4) (bar4Log s p 1)
  else if f = 1 ∧ o = 0x44 then 3
  else if 1 ≤ f ∧ o = 0x50 then 0xC0000000
  else if o = 0x68 then (if f ≤ 1 then 0x7FFF else 0)
  else if f = 1 ∧ o = 0x88 then 0x100F
  else if o = 0x108 ∨ o = 0x10C then 0x07FFFFF0
  else if o = 0x114 then 0xFFFF
  else if f = 1 ∧ o = 0x168 then 0x19
  else if f = 1 ∧ o = 0x170 then 0xFFFF
  else if f = 1 ∧ o = 0x180 then 0xFFFFFFFF
  else if f = 1 ∧ 0x184 ≤ o ∧ o < 0x19C then barWordMask ((o - 0x184) / 4) (fld (layoutWord s p 0) 27 22)
  else 0

/-- Bits that a write of one clears. -/
def cfgW1c (f o : Nat) : Word :=
  if o = 0x104 then 0x07FFFFF0
  else if o = 0x110 then 0xFFFF
  else if 1 ≤ f ∧ o = 0x1B0 then 0xC0000000
  else 0

/-- DVSEC_TENANT (R429): VALID and the tenant number. -/
def dvsecTenant (s : State) (p f : Nat) : Word :=
  match tenantOf s p f with
  | some t => BitVec.ofNat 32 (2 ^ 31 + t)
  | none => 0

/-- Read-only bits of configuration offset `o` of the service function's PF (`f` = 1) and VFs. -/
def cfgFixed (s : State) (p f o : Nat) : Word :=
  let pf := f == 1
  let id := layoutWord s p 2
  let id2 := layoutWord s p 3
  let step := BitVec.setWidth 32 (Config.stepMajor ++ Config.stepMinor)
  if o = 0x00 then (if pf then id else 0xFFFFFFFF)
  else if o = 0x04 then 0x00100000
  else if o = 0x08 then 0x12000000 ||| step
  else if o = 0x0C then (if pf then 0x00800000 else 0)
  else if 0x10 ≤ o ∧ o < 0x28 then (if pf then barType ((o - 0x10) / 4) (bar4Log s p 1) else 0)
  else if o = 0x2C then BitVec.ofNat 32 (fld id2 15 0 * 2 ^ 16 + fld id 15 0)
  else if o = 0x34 then (if pf then 0x40 else 0x50)
  else if o = 0x3C then 0
  else if o = 0x40 then (if pf then 0x00035001 else 0)
  else if o = 0x44 then (if pf then 0x8 else 0)
  else if o = 0x50 then BitVec.ofNat 32 ((msixSize s p f - 1) * 2 ^ 16 + 0x6011)
  else if o = 0x54 then 0x00100002
  else if o = 0x58 then 0x00108002
  else if o = 0x60 then 0x00020010
  else if o = 0x64 then 0x10008022
  else if o = 0x84 then 0x00030183
  else if o = 0x100 then (if pf then 0x14820001 else 0x15820001)
  else if o = 0x148 then (if pf then 0x15810003 else 0)
  else if o = 0x14C then (if pf then Config.serial.extractLsb' 0 32 else 0)
  else if o = 0x150 then (if pf then Config.serial.extractLsb' 32 32 else 0)
  else if o = 0x158 then (if pf then 0x1601000E else 0x1A01000E)
  else if o = 0x15C then 0
  else if o = 0x160 then (if pf then 0x1A010010 else 0)
  else if o = 0x16C then (if pf then BitVec.ofNat 32 (fld (layoutWord s p 0) 7 0 * 65537) else 0)
  else if o = 0x170 then (if pf then 0x00010000 else 0)
  else if o = 0x174 then (if pf then 0x00010001 else 0)
  else if o = 0x178 then (if pf then id2 &&& 0xFFFF0000 else 0)
  else if o = 0x17C then (if pf then 0x11 else 0)
  else if 0x184 ≤ o ∧ o < 0x19C then (if pf then barType ((o - 0x184) / 4) (fld (layoutWord s p 0) 27 22) else 0)
  else if o = 0x1A0 then 0x00010023
  else if o = 0x1A4 then BitVec.ofNat 32 (0x014 * 2 ^ 20 + fld id 15 0)
  else if o = 0x1A8 then 1
  else if o = 0x1AC then dvsecTenant s p f
  else 0

/-- The link registers of the PCI Express capability, which show what the link of the port can do and has trained to: the
spec gives their values nowhere (assumption 30). Every other word that no rule lists shows its options as absent (R19,
R403). -/
def cfgLink (o : Nat) : Bool := [0x6C, 0x70, 0x8C, 0x90].contains o

/-- The words that log the header of the packet in error: what they hold while an error is recorded is not stated
(assumption 30). -/
def cfgHeaderLog (o : Nat) : Bool := decide (0x11C ≤ o) && decide (o < 0x12C) || decide (0x138 ≤ o) && decide (o < 0x148)
/-- A configuration read: writable and sticky bits, and the fixed bits; a word that no rule gives is a constant of
the device (function 0's header apart from its class code and its ARI link, R399). -/
def cfgRead (s : State) (p f o : Nat) : Word :=
  let rw := cfgGet s p f (o / 4)
  if cfgHeaderLog o then (if cfgGet s p f (0x104 / 4) = 0 then 0 else (freeVal s).setWidth 32)
  else if f = 0 then
    if o = 0x08 then 0x05021000 ||| (Config.cfgWord p 0 2 &&& 0xFF)
    else if o = 0x04 then rw ||| 0x00100000
    else if 0x104 ≤ o ∧ o < 0x11C then rw
    else if o = 0x15C then (if svcEn s p then 0x100 else 0)
    else rw ||| (Config.cfgWord p 0 (o / 4) &&& ~~~ cfgMask s p f o)
  else if cfgLink o then Config.cfgWord p f (o / 4)
  else rw ||| cfgFixed s p f o

/-! ### Effects of configuration writes -/

/-- A function-level reset of the function is between time 0 and step 3 (R421). -/
def inFlr (s : State) (p f : Nat) : Bool := sGet s.fns.flr (fnKey p f) 0 == 1

/-- Bus Master Enable becomes 1: pending vectors are sent (R417). -/
def setBusMaster (s : State) (p f : Nat) : State :=
  flushVectors (cfgPut s p f 1 (cfgGet s p f 1 ||| 4)) p f
/-- The VFs of a port that are present. -/
def presentVfs (s : State) (p : Nat) : List Nat :=
  ((List.range 255).map (· + 2)).filter (fun f => fnPresent s p f)

/-- Set the PF's power state (R404); leaving D3hot sends pending vectors of the PF and of its VFs (R417). -/
def setPower (s : State) (p : Nat) (d3 : Bool) : State :=
  let w := cfgGet s p 1 (0x44 / 4)
  let t := cfgPut s p 1 (0x44 / 4) ((w &&& ~~~ 3) ||| (if d3 then 3 else 0))
  if d3 then t else forAll (1 :: presentVfs t p) t (fun u f => flushVectors u p f)
/-- Unmask a vector: a pending message is sent where the function may send (R417). -/
def unmaskVector (s : State) (p f v : Nat) : State :=
  let key := (fnKey p f * 2048 + v) * 4 + 3
  let t := { s with fns := { s.fns with
    msix := sPut s.fns.msix key (msixReset 3) (msixWord s p f v 3 &&& ~~~ 1) } }
  if vectorPending t p f v && msixEnable t p f && ! msixMasked t p f && maySend t p f then
    sendVector (setPending t p f v false) p f v
  else t
/-- MSIX_UNMASK. -/
def execMsixUnmask (port : Fin 128) (func : FuncNo) (vector : BitVec 11) (s : State) :
    Host.Outcome State Fault Refusal :=
  .next (onFabric s
    (if fnPresent s port func && ! inFlr s port func && decide (1 ≤ func.val) &&
        decide (vector.toNat < msixSize s port func) then
       unmaskVector s port func vector.toNat
     else s))

/-- Write a word of a function's MSI-X table (R407, R409). -/
def msixTableWrite (s : State) (p f i : Nat) (v : Word) : State :=
  let e := i / 4
  if e < msixSize s p f then
    if i % 4 = 3 ∧ vectorMasked s p f e ∧ ! bitAt v 0 then unmaskVector s p f e
    else { s with fns := { s.fns with
      msix := sPut s.fns.msix (fnKey p f * 8192 + i) (msixReset (i % 4)) (if i % 4 = 3 then v &&& 1 else v) } }
  else s

/-- Configuration requests are answered with retry status: until the pair state has left STARTING, unless the
timer of R535 has ended it on a twin that R463 holds (R535). -/
def retryStatus (s : State) (p : Fin 128) : Bool := pairState s == 0 && ! s.fns.retryEnded.contains p

/-- RETRY_STATUS_TIMEOUT (R535). -/
def execRetryStatusTimeout (port : Fin 128) (s : State) : Host.Outcome State Fault Refusal :=
  .next (onFabric s
    (if s.pair.clash && pairState s == 0 && portRole s port == 1 && ! s.fns.retryEnded.contains port then
       { s with fns := { s.fns with retryEnded := s.fns.retryEnded ++ [port] } }
     else s))

end Sys2Proof.Machine
end

