-- ==== Sys2Proof/Machine/Operands.lean ====
section
/-! DEFINITION. Operand forms: the bytes of a line, the operands and results of atomics (R151, R152, R413), byte masks
and the cutting of byte ranges into lines. -/

namespace Sys2Proof.Machine

/-! ### Bytes of a line -/

/-- Byte `i` of a line: bits [8i+7:8i]. -/
def lineByte (d : LineData) (i : Nat) : Byte := d.extractLsb' (8 * i) 8
/-- The line whose byte `i` is `f i`. -/
def mkLine (f : Nat → Byte) : LineData :=
  (List.range 64).foldl (fun (acc : LineData) i => acc ||| ((f i).setWidth 512 <<< (8 * i))) 0
/-- Bytes of `new` where the mask has a one, bytes of `old` elsewhere (WrPart, MemWrPtl). -/
def mergeLine (old new : LineData) (mask : BitVec 64) : LineData :=
  mkLine (fun i => if mask.getLsbD i then lineByte new i else lineByte old i)
/-- The mask of bytes `lo` to `hi - 1` of a line. -/
def byteMask (lo hi : Nat) : BitVec 64 := BitVec.ofNat 64 (2 ^ hi - 2 ^ lo)
/-- All bytes. -/
def fullMask : BitVec 64 := BitVec.allOnes 64

/-- Lines that the bytes [a, a + n) touch, as line numbers. -/
def linesOf (a n : Nat) : List Nat := (List.range ((a + n + 63) / 64 - a / 64)).map (· + a / 64)
/-- First and end byte of [a, a + n) within line number `l`. -/
def lineLo (a l : Nat) : Nat := if l * 64 < a then a - l * 64 else 0
def lineHi (a n l : Nat) : Nat := if a + n < l * 64 + 64 then a + n - l * 64 else 64

/-! ### Atomics (R152) -/

/-- Operand width in bits of SIZE. -/
def atomBits (size8 : Bool) : Nat := if size8 then 64 else 32
/-- Two's complement value of the low `b` bits of `x`. -/
def signedOf (b x : Nat) : Int := if x < 2 ^ (b - 1) then (x : Int) else (x : Int) - (2 : Int) ^ b

/-- New value and SUCCESS of operation `aop` with memory value `m` (R151, R152); an operation outside the table
leaves the value with SUCCESS 0. -/
def atomNew (aop : BitVec 4) (size8 : Bool) (m a b : Nat) : Nat × Bool :=
  let w := 2 ^ atomBits size8
  let a := a % w
  let b := b % w
  match aop.toNat with
  | 0 => ((m + a) % w, true)
  | 1 => (a, true)
  | 2 => if m = a then (b, true) else (m, false)
  | 3 => (min m a, true)
  | 4 => (max m a, true)
  | 5 => (if signedOf (atomBits size8) m ≤ signedOf (atomBits size8) a then m else a, true)
  | 6 => (if signedOf (atomBits size8) m ≤ signedOf (atomBits size8) a then a else m, true)
  | _ => (m, false)

/-- The operand at byte `off` of a line. -/
def operandAt (d : LineData) (off : Nat) (size8 : Bool) : Nat := d.toNat / 2 ^ (8 * off) % 2 ^ atomBits size8
/-- The line with the operand at byte `off` replaced. -/
def putOperand (d : LineData) (off : Nat) (size8 : Bool) (v : Nat) : LineData :=
  mkLine (fun i => if off ≤ i ∧ i < off + atomBits size8 / 8 then BitVec.ofNat 8 (v / 2 ^ (8 * (i - off)) % 256)
    else lineByte d i)

/-- An atomic on a line: the line after it, and its result (R152, R153). -/
def atomLine (d : LineData) (a : AtomicOp) : LineData × AtomicRes :=
  let m := operandAt d a.offset.toNat a.size8
  let r := atomNew a.aop a.size8 m a.opA.toNat a.opB.toNat
  (if r.1 = m then d else putOperand d a.offset.toNat a.size8 r.1, ⟨BitVec.ofNat 64 m, r.2, true⟩)
/-- The mask of an atomic's operand. -/
def atomMask (a : AtomicOp) : BitVec 64 := byteMask a.offset.toNat (a.offset.toNat + atomBits a.size8 / 8)

end Sys2Proof.Machine
end

