-- ==== Sys2Proof/Machine/Pool.lean ====
section
/-! DEFINITION. Pool memory: segments, binding states, colours and tag caches, and the pool-view mailbox (02). -/

namespace Sys2Proof.Machine

/-! ### Segments (R57, R59) -/

/-- SEG_ENTRY words of segment `g` in a bank. -/
def segW0 (b : SMap Word) (g : Nat) : Word := sGet b (R.SEG_ENTRY_W0 g) 0
def segW1 (b : SMap Word) (g : Nat) : Word := sGet b (R.SEG_ENTRY_W1 g) 0
def segW2 (b : SMap Word) (g : Nat) : Word := sGet b (R.SEG_ENTRY_W2 g) 0
def segValid (b : SMap Word) (g : Nat) : Bool := bitAt (segW0 b g) 31
/-- MODE: 0 private, 1 shared-coherent, 2 shared-non-coherent, 3 carve-out. -/
def segMode (b : SMap Word) (g : Nat) : Nat := fld (segW0 b g) 30 29
def segHome (b : SMap Word) (g : Nat) : Bool := bitAt (segW0 b g) 28
def segJournal (b : SMap Word) (g : Nat) : Bool := bitAt (segW0 b g) 27
def segColour (b : SMap Word) (g : Nat) : Nat := fld (segW0 b g) 26 23
def segMig (b : SMap Word) (g : Nat) : Nat := fld (segW0 b g) 22 20
def segShare (b : SMap Word) (g : Nat) : Nat := fld (segW0 b g) 11 0
def segPort (b : SMap Word) (g : Nat) : Nat := fld (segW1 b g) 30 24
def segDpa (b : SMap Word) (g : Nat) : Nat := fld (segW1 b g) 23 0
def migPort (b : SMap Word) (g : Nat) : Nat := fld (segW2 b g) 30 24
def migDpa (b : SMap Word) (g : Nat) : Nat := fld (segW2 b g) 23 0

/-- The bank under which an access that begins now is resolved (R55). -/
def bankNow (s : State) : SMap Word := s.banks.live
/-- Lowest bit of the epoch in force (R455). -/
def epochBit (s : State) : Bool := bitAt (getReg s R.STX_EPOCH) 0
/-- The bank of the epoch that an access names by its lowest bit: the current epoch's, or the one before (R55, R65, R117, R454). -/
def bankFor (s : State) (e : Option Bool) : SMap Word := if e = some (! epochBit s) then s.banks.old else bankNow s
/-- The state in which an access of epoch `e` is resolved, and the state after it with the bank in force back in its place. -/
def atBank (s : State) (e : Option Bool) : State := { s with banks := { s.banks with live := bankFor s e } }
def restoreBank (s t : State) : State := { t with banks := { t.banks with live := s.banks.live } }

/-- Agent `a` is a member of sharing set `k`, with the bits that R63 and R64 fix. -/
def shareMember (b : SMap Word) (k a : Nat) : Bool :=
  if k = 0 then false
  else if 128 ≤ a % 512 ∧ a % 512 < 384 then true
  else if 384 ≤ a % 512 then false
  else bitAt (sGet b (R.SEG_SHARE_W k (a / 32)) 0) (a % 32)


/-! ### Binding states (R66) -/

/-- Offset and bit position of the binding state of (p, g). -/
def bindOff (p g : Nat) : Nat := R.SEG_BIND p (g / 16)
/-- Binding state of (p, g) in a bank: 0 UNBOUND, 1 OFFERED, 2 BOUND, 3 RELEASING. -/
def bindOf (b : SMap Word) (p g : Nat) : Nat := fld (sGet b (bindOff p g) 0) (2 * (g % 16) + 1) (2 * (g % 16))
def putBind (b : SMap Word) (p g st : Nat) : SMap Word :=
  sPut b (bindOff p g) 0 (putFld (sGet b (bindOff p g) 0) (2 * (g % 16) + 1) (2 * (g % 16)) st)
/-- Codes of binding states. -/
def bindCode (st : BindState) : Nat :=
  match st with
  | .unbound => 0
  | .offered => 1
  | .bound => 2
  | .releasing => 3
/-- A host request may use (p, g) (step 2 of R54). -/
def mayUse (b : SMap Word) (p g : Nat) : Bool := decide (2 ≤ bindOf b p g)

/-- A change of a binding state that the device takes: live, and in the inactive bank unless the open transaction
has written the field (R456, R68). -/
def deviceBind (s : State) (p g st : Nat) : State :=
  { s with banks := { s.banks with
      live := putBind s.banks.live p g st
      old := if (sFind s.banks.shadow (bindOff p g)).isSome then s.banks.old else putBind s.banks.old p g st } }

/-! ### Slice hashing (R84) -/

/-- Bits [hi:lo] of a number. -/
def nbits (x hi lo : Nat) : Nat := x / 2 ^ lo % 2 ^ (hi + 1 - lo)
/-- Home slice of the line at pool address `a`. -/
def hashSlice (a : Nat) : Nat :=
  let g := a / 4096
  Nat.xor (nbits g 4 0) (Nat.xor (nbits g 9 5) (Nat.xor (nbits g 14 10) (Nat.xor (nbits g 19 15)
    (Nat.xor (nbits g 24 20) (Nat.xor (nbits g 29 25) (nbits g 33 30))))))
/-- Set of the line within its slice. -/
def hashSet (a : Nat) : Nat := nbits a 11 6 + 64 * Nat.xor (nbits (a / 4096) 11 5) (nbits (a / 4096) 18 12)
/-- Local bank of a set. -/
def setBank (x : Nat) : Nat := x / 2048
/-- Pool address of a line address. -/
def lineAddr (l : LAddr) : Nat := l.toNat * 64
def addrLine (a : Nat) : LAddr := BitVec.ofNat 40 (a / 64)
/-- Segment of a pool address. -/
def segOf (a : Nat) : Nat := a / 2 ^ 30

/-! ### Colours (R77 to R82) -/

/-- The carve map entry for segment `g`: its carve-out segment, where valid (R579). -/
def carveSeg (b : SMap Word) (g : Nat) : Option Nat :=
  let w := sGet b (R.SEG_CARVE_MAP (g / 8192)) 0
  if bitAt w 31 then some (fld w 15 0) else none
/-- Address of the colour byte of the granule at `a` (R77). -/
def colourByte (c a : Nat) : Nat := c * 2 ^ 30 + segOf a % 8192 * 2 ^ 17 + nbits (a % 2 ^ 30) 29 13

/-- Key of the tag-cache set that holds carve-out line `l` in region `n` (R80). -/
def tagKey (n : Nat) (l : LAddr) : Nat := n * 512 + l.toNat % 512
def tagSet (s : State) (n : Nat) (l : LAddr) : List (LAddr × LineData) := sGet s.pool.tags (tagKey n l) []
/-- The cached data of a carve-out line. -/
def tagLook (s : State) (n : Nat) (l : LAddr) : Option LineData :=
  ((tagSet s n l).find? (fun x => x.1 == l)).map (·.2)
def setTagSet (s : State) (n : Nat) (l : LAddr) (v : List (LAddr × LineData)) : State :=
  { s with pool := { s.pool with tags := sPut s.pool.tags (tagKey n l) [] v } }
/-- Make a line the most recently used (R80). -/
def tagTouch (s : State) (n : Nat) (l : LAddr) : State :=
  match (tagSet s n l).find? (fun x => x.1 == l) with
  | some x => setTagSet s n l (x :: (tagSet s n l).filter (fun y => y.1 != l))
  | none => s
/-- Install a line, dropping the least recently used of sixteen (R80). -/
def tagInstall (s : State) (n : Nat) (l : LAddr) (d : LineData) : State :=
  setTagSet s n l (((l, d) :: (tagSet s n l).filter (fun y => y.1 != l)).take 16)
/-- Reads of carve-out lines under way whose data must not be used: they are read again (R78, R83). -/
def tagStale (s : State) (p : TagWait → Bool) : State :=
  { s with pool := { s.pool with tagWaits := s.pool.tagWaits.map (fun w => if p w then { w with stale := true } else w) } }
/-- Drop a line. -/
def tagDropLine (s : State) (n : Nat) (l : LAddr) : State :=
  tagStale (setTagSet s n l ((tagSet s n l).filter (fun y => y.1 != l))) (fun w => w.region.val == n && w.line == l)
/-- Drop every line of a region's tag cache. -/
def tagDropAll (s : State) (n : Nat) : State :=
  tagStale { s with pool := { s.pool with tags := sDrop s.pool.tags (fun k => k / 512 == n) } } (fun w => w.region.val == n)
/-- The colour of the granule at `a` in the line that holds its colour byte (R77). -/
def colourIn (d : LineData) (byteAddr a : Nat) : Nat :=
  nbits d.toNat (byteAddr % 64 * 8 + (if a / 4096 % 2 = 1 then 7 else 3))
    (byteAddr % 64 * 8 + (if a / 4096 % 2 = 1 then 4 else 0))
/-- A granule of colour `g` admits key `k` (R329). -/
def admits (g k : Nat) : Bool := g == 0 || g == k

/-- TAG_INVALIDATE: every line is dropped and BUSY shows until it is done (R83). -/
def execTagInvalidate (region : Fin 16) (s : State) : Host.Outcome State Fault Refusal :=
  .next (onFabric s (wrBit (tagDropAll s region) (R.RGN_TAG_STATUS region) 0 true))
/-- TAG_INVALIDATE_DONE. -/
def execTagInvalidateDone (region : Fin 16) (s : State) : Host.Outcome State Fault Refusal :=
  .next (onFabric s (wrBit s (R.RGN_TAG_STATUS region) 0 false))

/-! ### Pool-view mailbox (R51, R70 to R76) -/

/-- The mailbox answers: the port has the host role and its link is in DL_Active (R70). -/
def onMailbox (s : State) (p : Nat) (t : State) : State :=
  if ! s.dev.fabReset && portRole s p == 1 && linkActive s p then t else s

/-- GET_DYNAMIC_CAPACITY_CONFIGURATION: one region at 0 of 64 TiB with 1 GiB blocks (R51). -/
def execGetDynamicCapacityConfiguration (port : Fin 128) (s : State) : Host.Outcome State Fault Refusal :=
  .next (onMailbox s port (emit s (.mboxConfig port [(0, 65536, 1)])))

/-- The extent list of a pool view. -/
def extentsOf (s : State) (p : Nat) : List (Nat × Nat) := sGet s.pool.extents p []

/-- Tag of an extent: first segment and mode code for a shared mode, else zero (R51). -/
def extentTag (s : State) (g : Nat) : BitVec 128 :=
  let m := segMode (bankNow s) g
  if m = 1 ∨ m = 2 then BitVec.ofNat 128 (g + 65536 * m) else 0
/-- GET_DYNAMIC_CAPACITY_EXTENT_LIST: `count` extents from index `first` (R51). -/
def execGetDynamicCapacityExtentList (port : Fin 128) (first count : Nat) (s : State) :
    Host.Outcome State Fault Refusal :=
  .next (onMailbox s port
    (emit s (.mboxExtents port (extentsOf s port).length ((((extentsOf s port).drop first).take count).map
      (fun e => (e.1, e.2, extentTag s e.1))))))

/-- The event records of a pool view. -/
def dcEvents (s : State) (p : Nat) : List DcEvent := sGet s.pool.events p []

/-- GET_EVENT_RECORDS (R51). -/
def execGetEventRecords (port : Fin 128) (s : State) : Host.Outcome State Fault Refusal :=
  .next (onMailbox s port (emit s (.mboxEvents port (dcEvents s port))))

/-- CLEAR_EVENT_RECORDS: all, or those whose handles are named (R51). -/
def execClearEventRecords (port : Fin 128) (handles : Option (List Nat)) (s : State) :
    Host.Outcome State Fault Refusal :=
  .next (onMailbox s port
    (let left := match handles with
       | none => []
       | some hs => (dcEvents s port).filter (fun e => ! hs.contains e.handle)
     emit { s with pool := { s.pool with events := sPut s.pool.events port [] left } } (.mboxDone port true)))

/-- Raise one event record on the pool view of port `p` (R70, R74). The first handle of a pool view is 1: the spec gives none
(assumption 2). -/
def raiseDc (s : State) (p : Nat) (k : DcKind) (g n : Nat) : State :=
  let h := sGet s.pool.nextHandle p 1
  let e : DcEvent := ⟨h, k, g, n, extentTag s g⟩
  emit { s with pool := { s.pool with
    events := sPut s.pool.events p [] (dcEvents s p ++ [e]), nextHandle := sPut s.pool.nextHandle p 1 (h + 1) } }
    (.dcEvent p e)

/-- Runs of consecutive segments with equal key, as (first, length), each at most 256 long, from a rising list
(R70). -/
def runsOf (key : Nat → Nat) (l : List Nat) : List (Nat × Nat) :=
  (l.foldl (fun acc g =>
    match acc with
    | (a, n) :: t => if a + n = g ∧ n < 256 ∧ key a = key g then (a, n + 1) :: t else (g, 1) :: acc
    | [] => [(g, 1)]) []).reverse

/-- Raise records for a rising list of segments of port `p`, run by run (R70). -/
def raiseRuns (s : State) (p : Nat) (k : DcKind) (l : List Nat) : State :=
  forAll (runsOf (segMode (bankNow s)) l) s (fun t r => raiseDc t p k r.1 r.2)

/-- One accepted segment joins the extent that ends before it, of its MODE and below 256 GiB, or becomes an extent: both
twins take the segments one by one in the same order, so their lists agree (R71, R73). -/
def addExtent (mode : Nat → Nat) (l : List (Nat × Nat)) (g : Nat) : List (Nat × Nat) :=
  let fits (e : Nat × Nat) : Bool := e.1 + e.2 == g && decide (e.2 < 256) && mode e.1 == mode g
  if l.any fits then l.map (fun e => if fits e then (e.1, e.2 + 1) else e) else l ++ [(g, 1)]
def addExtents (s : State) (p : Nat) (l : List Nat) : State :=
  { s with pool := { s.pool with
    extents := sPut s.pool.extents p [] (l.foldl (addExtent (segMode (bankNow s))) (extentsOf s p)) } }
/-- Extents that a pool view holds at most (R51). -/
def maxExtents : Nat := 4096
/-- Take segments out of a port's extent list, splitting extents where needed. -/
def dropExtents (s : State) (p : Nat) (l : List Nat) : State :=
  let keep := (extentsOf s p).flatMap (fun e =>
    runsOf (fun _ => 0) (((List.range e.2).map (· + e.1)).filter (fun g => ! l.contains g)))
  { s with pool := { s.pool with extents := sPut s.pool.extents p [] keep } }

/-- The range is made of whole aligned GiB blocks below 64 TiB (R72). -/
def rangeOk (e : Extent) : Bool :=
  e.start % 2 ^ 30 == 0 && e.length % 2 ^ 30 == 0 && decide (0 < e.length) && decide (e.start + e.length ≤ 2 ^ 46)
/-- Segments that ranges name, in order. -/
def rangeSegs (l : List Extent) : List Nat :=
  l.flatMap (fun e => (List.range (e.length / 2 ^ 30)).map (· + e.start / 2 ^ 30))

/-- A refused mailbox command: Invalid Input, counted unless R73 leaves it uncounted (R72, R85). -/
def mboxRefuse (s : State) (p : Nat) (counted : Bool) : State :=
  emit (if counted then count s R.SEG_DC_REJECT_CNT 0 .every 8 else s) (.mboxDone p false)

/-- The other twin takes part in binding changes: PAIRED or HANDING, or in a rejoin whose structure has been sent (R68,
R491). -/
def bindPartner (s : State) : Bool :=
  (pairState s == 1 || pairState s == 2 || pairState s == 5 || s.pair.rejoinSource) && (twinState s == 2 || twinState s == 3)

/-- ADD_DYNAMIC_CAPACITY_RESPONSE: every block must be OFFERED; the change goes to the other twin, whose
acknowledgement completes the command (R68, R71 to R73). One that would make more than 4,096 extents is refused in the same
way (R51, assumption 145). -/
def execAddDynamicCapacityResponse (port : Fin 128) (extents : List Extent) (s : State) :
    Host.Outcome State Fault Refusal :=
  .next (onMailbox s port
    (let gs := rangeSegs extents
     let okRange := extents.all rangeOk
     if ! okRange || ! gs.all (fun g => bindOf (bankNow s) port g == 1) then
       mboxRefuse s port (! (okRange && gs.all (fun g => decide (2 ≤ bindOf (bankNow s) port g))))
     else
       let t := addExtents (forAll gs s (fun u g => deviceBind u port g 2)) port gs
       if maxExtents < (extentsOf t port).length then mboxRefuse s port true
       else if bindPartner s && decide (gs ≠ []) then
         forAll gs { t with pool := { t.pool with waits := t.pool.waits ++ [⟨port, false, gs, [], []⟩] } }
           (fun u g => pairSend u (.bind port .bound (BitVec.ofNat 16 g)))
       else emit t (.mboxDone port true)))

/-- A mailbox command that waits for nothing more completes; the segments of a release become UNBOUND (R68, R76). -/
def settleMbox (s : State) : State :=
  let ended (w : MboxWait) : Bool := w.acks.isEmpty && w.sweeps.isEmpty
  forAll (s.pool.waits.filter ended) { s with pool := { s.pool with waits := s.pool.waits.filter (fun w => ! ended w) } }
    (fun t w =>
      let u := forAll w.segs t (fun v g => deviceBind v w.port g 0)
      emit (dropExtents u w.port w.segs) (.mboxDone w.port true))

/-- BIND_ACK: the change is acknowledged (R68). -/
def execBindAck (port : Fin 128) (_st : BindState) (seg : BitVec 16) (s : State) : Host.Outcome State Fault Refusal :=
  .next (onFabric s
    (settleMbox { s with pool := { s.pool with
      waits := s.pool.waits.map (fun w => if w.port = port then { w with acks := w.acks.erase seg.toNat } else w) } }))
/-- The other twin is gone: no acknowledgement of it is awaited any more (R68). -/
def dropBindAcks (s : State) : State :=
  settleMbox { s with pool := { s.pool with waits := s.pool.waits.map (fun w => { w with acks := [] }) } }

/-- Offer newly offered segments: Add Capacity records on port `p` where it has the host role (R70). -/
def offerRuns (s : State) (p : Nat) (l : List Nat) : State :=
  if portRole s p == 1 then raiseRuns s p .addCapacity l else s

/-- A write of the colour initialisation has not completed at its expander. -/
def colourWrites (s : State) : Bool :=
  s.dp.wait.any (fun o => o.wr.any (fun w => w.1 == .colour)) || s.dp.outst.any (fun o => o.wr == some .colour)
/-- COLOUR_INIT_DONE: the fill ends, on the twin that runs it once every write has completed; the segments that are OFFERED
get their Add Capacity records (R70, R78). -/
def execColourInitDone (s : State) : Host.Outcome State Fault Refusal :=
  .next (onFabric s
    (if ! s.pool.colourRunning || colourWrites s then s
     else
       forAll (List.range 128) { s with pool := { s.pool with colourInit := [], colourRunning := false } }
         (fun t p => offerRuns t p (s.pool.colourInit.filter (fun g => bindOf (bankNow s) p g == 1)))))

end Sys2Proof.Machine
end

