-- ==== Sys2Proof/Machine/Slot.lean ====
section
/-! DEFINITION. Slot power channels, their hot-plug registers and the sideband chain (16, and R430, R431). -/

namespace Sys2Proof.Machine

/-- STATE codes of SLOT_STATUS (R502). -/
def slotOff : Nat := 0
def slotRamp : Nat := 1
def slotOn : Nat := 2
def slotBreak : Nat := 3
def slotRetry : Nat := 4
def slotLatched : Nat := 5

/-- Fields of SLOT_STATUS. -/
def slotState (s : State) (i : Nat) : Nat := rd s (R.SLOT_STATUS i) 31 29
def slotFeed (s : State) (i : Nat) : Nat := rd s (R.SLOT_STATUS i) 28 28
def slotGood (s : State) (i x : Nat) : Bool := rdBit s (R.SLOT_STATUS i) (27 - x)
def slotPwrgd (s : State) (i : Nat) : Bool := rdBit s (R.SLOT_STATUS i) 25
def slotPresent (s : State) (i : Nat) : Bool := rdBit s (R.SLOT_STATUS i) 22
/-- The slot event of channel `i` (R538). -/
def slotEv (i : Nat) : Nat := 96 + i

/-- The device port that channel `i` serves (R500). -/
def slotPort (s : State) (i : Nat) : Option Nat :=
  let m := liveWord s (R.SLOT_MAP i)
  let p := fld m 6 0
  if bitAt m 31 && portRole s p == 2 &&
      (List.range i).all (fun j =>
        ! (bitAt (liveWord s (R.SLOT_MAP j)) 31 && fld (liveWord s (R.SLOT_MAP j)) 6 0 == p))
  then some p else none

/-- The channel that serves device port `p` (R500). -/
def portSlot (s : State) (p : Nat) : Option Nat := (List.range 32).find? (fun i => slotPort s i == some p)

/-- PB_SLOT_CTRL of port `p`. -/
def slotCtrl (p : Nat) : Nat := R.PB_SLOT_CTRL (p / 4) (p % 4)

/-- Set status bit `b` of PB_SLOT_CTRL; the hot-plug event when it changes from 0 to 1 with HPIE and its enable
set (R431). -/
def setSlotBit (s : State) (p b en : Nat) : State :=
  let t := wrBit s (slotCtrl p) b true
  if rdBit s (slotCtrl p) b then t
  else if rdBit s (slotCtrl p) 5 && rdBit s (slotCtrl p) en then raiseEv t (hotPlugEv (p / 4)) else t

/-- Move channel `i` to state `st`, raising the slot event when STATE changes (R518). -/
def slotTo (s : State) (i st : Nat) : State :=
  let t := wr s (R.SLOT_STATUS i) 31 29 st
  if slotState s i = st then t else raiseEv t (slotEv i)

/-- Deassert SLOT_PWRGD and, in the same cycle, assert SLOT_PERST_N (R507, R509). -/
def slotPgOff (s : State) (i : Nat) : State := wrBit (wrBit s (R.SLOT_STATUS i) 25 false) (R.SLOT_STATUS i) 24 true

/-- PDS of the served port: the board is inserted (R510). -/
def slotInserted (s : State) (i : Nat) : Bool := s.slots.inserted.contains i

/-- Set or clear PDS, and set PDC with its event (R510, R511). -/
def slotPresence (s : State) (i : Nat) (b : Bool) : State :=
  let t := { s with slots := { s.slots with
    inserted := if b then s.slots.inserted.filter (· != i) ++ [i] else s.slots.inserted.filter (· != i) } }
  match slotPort t i with
  | some p => setSlotBit t p 19 3
  | none => t

/-- Note that the retry time of channel `i` has elapsed, or that a new one starts. -/
def setRetryDue (s : State) (i : Nat) (b : Bool) : State :=
  { s with slots := { s.slots with
    retryDue := if b then s.slots.retryDue.filter (· != i) ++ [i] else s.slots.retryDue.filter (· != i) } }
/-- A fault of channel `i` takes it to RETRY, or to LATCHED when RETRY is 0, with its cause; the served port
shows PFD (R504). -/
def slotFault (s : State) (i cause : Nat) : State :=
  let st := if fld (liveWord s (R.SLOT_TIMING i)) 31 24 = 0 then slotLatched else slotRetry
  let t := slotTo (wr (slotPgOff (setRetryDue s i false) i) (R.SLOT_STATUS i) 21 18 cause) i st
  match slotPort s i with
  | some p => setSlotBit t p 17 1
  | none => t

/-- The preferred feed of channel `i`, 0 A or 1 B. -/
def slotPrefer (s : State) (i : Nat) : Nat := fld (liveWord s (R.SLOT_FEED i)) 31 31
/-- Feed `x` is fitted (R503). -/
def slotFitted (s : State) (i x : Nat) : Bool := bitAt (liveWord s (R.SLOT_FEED i)) (30 - x)
/-- Feed `x` is good: a feed that is not fitted never is. -/
def feedOk (s : State) (i x : Nat) : Bool := slotGood s i x && slotFitted s i x
/-- The feed that a ramp takes: the preferred feed when it is good, else the other when it is (R504). -/
def rampFeed (s : State) (i : Nat) : Option Nat :=
  let x := slotPrefer s i
  if feedOk s i x then some x else if feedOk s i (1 - x) then some (1 - x) else none

/-- Enter RAMP on the chosen feed where one is good (R504). -/
def slotStartRamp (s : State) (i : Nat) : State :=
  match rampFeed s i with
  | some x => slotTo (wr s (R.SLOT_STATUS i) 28 28 x) i slotRamp
  | none => s

/-- The row "OFF, power-on command or AUTO_ON, PDS = 1, a feed good" of R504. -/
def slotPowerUp (s : State) (i : Nat) : State :=
  if (slotPort s i).isSome && slotState s i = slotOff && slotInserted s i then slotStartRamp s i else s

/-- Enter BREAK towards feed `y` (R504). -/
def slotStartBreak (s : State) (i y : Nat) : State :=
  slotTo { s with slots := { s.slots with breakTo := sPut s.slots.breakTo i 0 y } } i slotBreak

/-- The feed in use is lost in ON: BREAK to the other feed when it is good (R504). -/
def feedInUseLost (s : State) (i : Nat) : State :=
  if slotState s i = slotOn && feedOk s i (1 - slotFeed s i) then slotStartBreak s i (1 - slotFeed s i) else s
/-- Feed `x` of channel `i` stops being good; the channel breaks when it was the feed in use (R503, R504). -/
def loseFeed (s : State) (i x : Nat) : State :=
  let t := wrBit s (R.SLOT_STATUS i) (27 - x) false
  if slotFeed s i = x then feedInUseLost t i else t
/-- A changed SLOT_MAP, SLOT_FEED or port role: an unassigned channel keeps both gates off (R500), and a feed that is not fitted
is not good (R503). -/
def slotSettle (s : State) : State :=
  forAll (List.range 32) s (fun t i =>
    let u := forAll [0, 1] t (fun v x => if slotGood v i x && ! slotFitted v i x then loseFeed v i x else v)
    if (slotPort u i).isNone && slotState u i != slotOff then slotTo (slotPgOff u i) i slotOff else u)

/-- One more command of port `p` waits for CC (R430). -/
def addCommand (s : State) (p : Nat) : State :=
  { s with slots := { s.slots with ccPending := sPut s.slots.ccPending p 0 (sGet s.slots.ccPending p 0 + 1) } }

/-- SLOT_POWER_ON: PCC written 0 on the device port (R430, R501, R504). -/
def execSlotPowerOn (port : Fin 128) (s : State) : Host.Outcome State Fault Refusal :=
  .next (onFabric s
    (match portSlot s port with
     | some i =>
       if rdBit s (slotCtrl port) 10 then
         slotPowerUp (addCommand (wrBit s (slotCtrl port) 10 false) port) i
       else s
     | none => wrBit s (slotCtrl port) 10 false))

/-- The row "power-off command" of R504: the retry timer stops and the latch clears, CAUSE stays. -/
def slotPowerDown (s : State) (i : Nat) : State :=
  if slotState s i = slotOff then s else slotTo (slotPgOff s i) i slotOff

/-- SLOT_INDICATOR: a write that changes PIC or AIC is a command (R430). -/
def execSlotIndicator (port : Fin 128) (pic aic : BitVec 2) (s : State) : Host.Outcome State Fault Refusal :=
  .next (onFabric s
    (let t := wr (wr s (slotCtrl port) 9 8 pic.toNat) (slotCtrl port) 7 6 aic.toNat
     if (portSlot s port).isSome && (rd s (slotCtrl port) 9 8 != pic.toNat || rd s (slotCtrl port) 7 6 != aic.toNat)
     then addCommand t port else t))

/-- SLOT_COMMAND_COMPLETED: the oldest waiting command of the port completes and sets CC (R430). -/
def execSlotCommandCompleted (port : Fin 128) (s : State) : Host.Outcome State Fault Refusal :=
  .next (onFabric s
    (let n := sGet s.slots.ccPending port 0
     if n = 0 then s
     else setSlotBit { s with slots := { s.slots with ccPending := sPut s.slots.ccPending port 0 (n - 1) } }
       port 20 4))

/-- PRESENCE_DEBOUNCED: PRESENT becomes 1, the slot event is raised and INS_DELAY starts (R510, R518). -/
def execPresenceDebounced (chan : Fin 32) (s : State) : Host.Outcome State Fault Refusal :=
  .next (if slotPresent s chan then s
    else
      let t := wrBit (wrBit s (R.SLOT_STATUS chan) 23 true) (R.SLOT_STATUS chan) 22 true
      raiseEv { t with slots := { t.slots with debounced := t.slots.debounced ++ [chan.val] } } (slotEv chan))

/-- Start-up has reached fabric ready, after which AUTO_ON acts at insertion (R510). -/
def fabricIsReady (s : State) : Bool := rdBit s R.RST_BRINGUP 31

/-- BOARD_INSERTED: INS_DELAY has elapsed; PDS and PDC are set, and AUTO_ON powers the channel on (R510). -/
def execBoardInserted (chan : Fin 32) (s : State) : Host.Outcome State Fault Refusal :=
  .next (if ! s.slots.debounced.contains chan.val then s
    else
      let t := slotPresence { s with slots := { s.slots with
        debounced := s.slots.debounced.filter (· != chan.val) } } chan true
      if bitAt (liveWord t (R.SLOT_MAP chan)) 8 && fabricIsReady t then
        match slotPort t chan with
        | some p => slotPowerUp (wrBit t (slotCtrl p) 10 false) chan
        | none => t
      else t)

/-- RAMP_TIMEOUT: no power-good within RAMP_TMO of entering RAMP (R504). -/
def execRampTimeout (chan : Fin 32) (s : State) : Host.Outcome State Fault Refusal :=
  .next (if slotState s chan = slotRamp then
      count (slotFault s chan 3) (R.SLOT_CNT1 chan) 0 .every (slotEv chan)
    else s)

/-- POWER_GOOD_ASSERT: SLOT_PWRGD asserts and RAMP ends in ON (R502, R507). -/
def execPowerGoodAssert (chan : Fin 32) (s : State) : Host.Outcome State Fault Refusal :=
  .next (if slotState s chan = slotRamp || slotState s chan = slotOn then
      slotTo (wrBit s (R.SLOT_STATUS chan) 25 true) chan slotOn
    else s)

/-- PERST_DLY_EXPIRY: SLOT_PERST_N deasserts while SLOT_PWRGD is asserted (R509). -/
def execPerstDlyExpiry (chan : Fin 32) (s : State) : Host.Outcome State Fault Refusal :=
  .next (if slotPwrgd s chan then wrBit s (R.SLOT_STATUS chan) 24 false else s)

/-- The number of a feed. -/
def feedNo (f : Feed) : Nat :=
  match f with
  | .A => 0
  | .B => 1

/-- The row "RETRY, time has elapsed, PCC = 0, a feed good" of R504. -/
def retryRamp (s : State) (i : Nat) : State :=
  match slotPort s i with
  | some p =>
    if slotState s i = slotRetry && s.slots.retryDue.contains i && ! rdBit s (slotCtrl p) 10 then slotStartRamp s i else s
  | none => s
/-- FEED_GOOD: a fitted feed becomes good (R503); a channel that stayed ON on a lost feed breaks to it, and one whose retry time
has elapsed ramps (R504). -/
def execFeedGood (chan : Fin 32) (f : Feed) (s : State) : Host.Outcome State Fault Refusal :=
  .next (if slotFitted s chan (feedNo f) then
      let t := wrBit s (R.SLOT_STATUS chan) (27 - feedNo f) true
      retryRamp (if feedOk t chan (slotFeed t chan) then t else feedInUseLost t chan) chan
    else s)

/-- FEED_LOST: a feed stops being good; the channel breaks when it was the feed in use (R503, R504). -/
def execFeedLost (chan : Fin 32) (f : Feed) (s : State) : Host.Outcome State Fault Refusal :=
  .next (loseFeed s chan (feedNo f))

/-- REVERSE_CURRENT: the feed in use is lost (R503, R508). -/
def execReverseCurrent (chan : Fin 32) (s : State) : Host.Outcome State Fault Refusal :=
  .next (feedInUseLost s chan)

/-- BREAK_ELAPSED: the new feed is driven and SWITCHES counts (R504). -/
def execBreakElapsed (chan : Fin 32) (s : State) : Host.Outcome State Fault Refusal :=
  .next (if slotState s chan = slotBreak then
      count (slotTo (wr s (R.SLOT_STATUS chan) 28 28 (sGet s.slots.breakTo chan 0)) chan slotOn)
        (R.SLOT_CNT1 chan) 16 .once (slotEv chan)
    else s)

/-- FEED_RETURN_EXPIRY: the preferred feed has been good for RETURN (R504). -/
def execFeedReturnExpiry (chan : Fin 32) (s : State) : Host.Outcome State Fault Refusal :=
  .next (if slotState s chan = slotOn && slotFeed s chan != slotPrefer s chan &&
        feedOk s chan (slotPrefer s chan) && fld (liveWord s (R.SLOT_FEED chan)) 22 16 != 0 then
      slotStartBreak s chan (slotPrefer s chan)
    else s)

/-- RETRY_ELAPSED: a new ramp where PCC is 0 and a feed is good, at once or as soon as one is (R504). -/
def execRetryElapsed (chan : Fin 32) (s : State) : Host.Outcome State Fault Refusal :=
  .next (if slotState s chan = slotRetry then retryRamp (setRetryDue s chan true) chan else s)

/-- SLOT_GROUP_POWER: channels 4g to 4g + 3 with AUTO_ON and presence power on (step 7 of R534). -/
def execSlotGroupPower (g : Fin 8) (s : State) : Host.Outcome State Fault Refusal :=
  .next (onFabric s
    (forAll (List.range 4) s (fun t k =>
      let i := 4 * g.val + k
      match slotPort t i with
      | some p =>
        if bitAt (liveWord t (R.SLOT_MAP i)) 8 && slotInserted t i then
          slotPowerUp (wrBit t (slotCtrl p) 10 false) i
        else t
      | none => t)))

/-! ### Sideband chain -/

/-- Channels on the chain: LENGTH, at most 32 (R513). -/
def chainLength (s : State) : Nat := min (fld (liveWord s R.SLOT_SB) 5 0) 32

/-- The blink phase: lit for 500 ms and dark for 500 ms of the KCLK count (R514). -/
def blinkLit (s : State) : Bool := (now s).toNat / 50000000 % 2 == 0

/-- An indicator is lit: 01 on, 10 blinking (R514). -/
def lit (s : State) (code : Nat) : Bool := code == 1 || (code == 2 && blinkLit s)

/-- The outgoing byte of channel `i`: bit 0 power, bit 1 attention indicator (R513). -/
def chainByte (s : State) (i : Nat) : BitVec 8 :=
  match slotPort s i with
  | some p => BitVec.ofNat 8 ((lit s (rd s (slotCtrl p) 9 8)).toNat + 2 * (lit s (rd s (slotCtrl p) 7 6)).toNat)
  | none => 0

/-- One good read of channel `i`'s button (R514): 20 successive pressed scans set ABPR once, 20 released ones
allow a new press. -/
def buttonRead (s : State) (i : Nat) (pressed : Bool) : State :=
  let q := s.slots
  if pressed then
    let n := sGet q.pressed i 0 + 1
    let t := { s with slots := { q with pressed := sPut q.pressed i 0 (min n 20), released := sDel q.released i } }
    if n ≥ 20 && ! q.pressSeen.contains i then
      let t1 := { t with slots := { t.slots with pressSeen := t.slots.pressSeen ++ [i] } }
      match slotPort s i with
      | some p => setSlotBit t1 p 16 0
      | none => t1
    else t
  else
    let n := sGet q.released i 0 + 1
    { s with slots := { q with
        released := sPut q.released i 0 (min n 20), pressed := sDel q.pressed i
        pressSeen := if n ≥ 20 then q.pressSeen.filter (· != i) else q.pressSeen } }

/-- The check word of the chain (R513). -/
def chainCheck : BitVec 16 := 0xC35A

/-- A change of SLOT_SB.FAULT raises the chain event, 66 (R515, R518). -/
def setChainFault (s : State) (b : Bool) : State :=
  let t := wrBit s R.SLOT_SB 30 b
  if rdBit s R.SLOT_SB 30 = b then t else raiseEv t 66

/-- SIDEBAND_SCAN: outputs while FAULT is 0, the check of the returned word, and the buttons (R513 to R515). -/
def execSidebandScan (buttons : BitVec 32) (check : BitVec 16) (s : State) : Host.Outcome State Fault Refusal :=
  .next (if ! bitAt (liveWord s R.SLOT_SB) 31 then s
    else
      let n := chainLength s
      let fault := rdBit s R.SLOT_SB 30
      let t := if fault then s else emit s (.sideband ((List.range n).map (chainByte s)))
      if check = chainCheck then
        let good := s.slots.goodScans + 1
        let t1 := { t with slots := { t.slots with badScans := 0, goodScans := if fault then min good 16 else 0 } }
        if fault then (if good ≥ 16 then setChainFault t1 false else t1)
        else forAll (List.range n) t1 (fun u i => buttonRead u i (buttons.getLsbD i))
      else
        let bad := s.slots.badScans + 1
        let t1 := { t with slots := { t.slots with badScans := min bad 2, goodScans := 0 } }
        if bad ≥ 2 then setChainFault t1 true else t1)

end Sys2Proof.Machine
end

