-- ==== Sys2Proof/Machine/DevPort.lean ====
section
/-! DEFINITION. Device port cells: where a line lies while its segment migrates (R192), the order and the issue of
accesses to an expander, their completions and their timeouts (R90, R111, R113, R144, R145, R196, R197, R250, R397,
R512). -/

namespace Sys2Proof.Machine

def withDp (s : State) (d : DevPorts) : State := { s with dp := d }

/-! ### Location (R192, R193) -/

/-- Slot `i` of region `n`'s table. -/
def migSlot (s : State) (n i : Nat) : MigSlot := sGet s.dp.slots (n * 16 + i) {}
def setSlot (s : State) (n i : Nat) (v : MigSlot) : State :=
  withDp s { s.dp with slots := sPut s.dp.slots (n * 16 + i) {} v }
/-- The slot of segment `g` in region `n`. -/
def slotFor (s : State) (n g : Nat) : Option Nat :=
  (List.range 16).find? (fun i => (migSlot s n i).valid && (migSlot s n i).segment == g)
/-- Granule of an address within its segment. -/
def granuleOf (a : Nat) : Nat := a % 2 ^ 30 / 4096
/-- The access to address `a` goes to the new location, as region `n` resolves it. -/
def atNew (s : State) (b : SMap Word) (n a : Nat) : Bool :=
  match segMig b (segOf a) with
  | 2 =>
    match slotFor s n (segOf a) with
    | some i => decide (granuleOf a < (migSlot s n i).w)
    | none => false
  | 3 => true
  | _ => false
/-- Device port that region `n` names for address `a` in a bank, and in the one in force. -/
def portIn (s : State) (b : SMap Word) (n a : Nat) : Nat :=
  if atNew s b n a then migPort b (segOf a) else segPort b (segOf a)
def portFor (s : State) (n a : Nat) : Nat := portIn s (bankNow s) n a
/-- Device physical address that belongs with device port `p` for address `a` in a bank. -/
def dpaIn (s : State) (b : SMap Word) (p a : Nat) : Option Nat :=
  let g := segOf a
  let old := segDpa b g * 2 ^ 30 + a % 2 ^ 30
  let new := migDpa b g * 2 ^ 30 + a % 2 ^ 30
  if ! segValid b g then none
  else if segMig b g ≠ 0 ∧ migPort b g = p ∧ (segPort b g ≠ p ∨ atNew s b (portRegion p) a) then some new
  else if segPort b g = p then some old
  else none
/-- The address under the epoch of the access; where that gives the port no place for it, under the other epoch (R55). -/
def dpaOf (s : State) (e : Option Bool) (p a : Nat) : Nat :=
  match dpaIn s (bankFor s e) p a with
  | some d => d
  | none => (dpaIn s s.banks.old p a).getD (a % 2 ^ 30)

/-! ### Ending an access -/

/-- LINK_GEN of a port's slot; 0 for a port without one (R512). -/
def linkGenOf (s : State) (p : Nat) : Nat :=
  match portSlot s p with
  | some i => rd s (R.SLOT_STATUS i) 7 0
  | none => 0
/-- Destination of a crossbar attachment. -/
def attDest (a : BitVec 8) : Dest :=
  if a.toNat < 128 then .port (Fin.ofNat 128 a.toNat) else .house (Fin.ofNat 16 (a.toNat - 128))
/-- Send read data to its destination (R111). The reserved cell carries a data cell; a Fill frees it. -/
def deliverRead (s : State) (p : Nat) (m : Hdr) (d : LineData) (shared : Bool) (cls : Nat) : State :=
  let m := { m with epoch0 := none }
  if m.ddat then freeCellsOf (send s (.fill m d)) (portRegion p) (portIdx p) cls 1 shared
  else enqueueData s (portRegion p) (portIdx p) cls (attDest m.dest) shared (.read m d)
/-- The other twin's homes answer no more: a takeover has begun or is complete (R481). -/
def partnerGone (s : State) : Bool := s.pair.takeoverStep != 0 || pairState s == 3
/-- A forwarded write whose home was lost after its DataGo (R482). -/
def orphan (s : State) (m : Hdr) : Option Fwd :=
  if m.tgt = 0x3FF ∧ m.htwin ≠ s.dev.pid ∧ partnerGone s = true then
    s.pair.fwd.find? (fun f => f.laddr == m.laddr && f.htxn == m.htxn && f.rtag == m.rtag)
  else none
/-- MemCmp (R113); for an orphaned write the twin node completes the request with Cmp (R482). -/
def sendMemCmp (s : State) (m : Hdr) (status : BitVec 4) : State :=
  match orphan s m with
  | some f =>
    let t := { s with pair := { s.pair with fwd := s.pair.fwd.erase f } }
    let h : Hdr := { m with src := 0x3FF, tgt := f.src, fwd := true, status := status }
    if status = 0 then send t (.cmp h {}) else send t (.err h)
  | none =>
    send s (.memcmp { tgt := m.tgt, htwin := m.htwin, hslice := m.hslice, htxn := m.htxn, rtag := m.rtag, laddr := m.laddr
                      dport := m.dport, fwd := m.fwd, status := status })
/-- The answer of an atomic of R60. -/
def sendAtomRes (s : State) (p : Nat) (m : Hdr) (st : BitVec 4) (r : AtomicRes) : State :=
  send s (.cmp { tgt := m.tgt, rtag := m.rtag, laddr := m.laddr, ddat := true, dport := Fin.ofNat 128 p, status := st } r)
/-- A read ends without data of its own: poison, with STATUS `st` (R144, R395). -/
def failRead (s : State) (p : Nat) (r : RdFor) (shared : Bool) (cls : Nat) (st : BitVec 4) : State :=
  match r with
  | .msg m => deliverRead s p { m with poison := true, status := st } 0 shared cls
  | .tag n l => sendFrom s (blockEp (p / 4)) (.tagLineFill n l 0 .uncorrectable)
  | .atom m _ => sendAtomRes s p m st {}
  | .part m _ _ => sendMemCmp s m st
  | .nibble m _ _ _ => sendMemCmp s m st
/-- A write ends with STATUS `st`. -/
def failWrite (s : State) (p : Nat) (w : WrFor) (st : BitVec 4) : State :=
  match w with
  | .msg m => sendMemCmp s m st
  | .atom m _ => sendAtomRes s p m st {}
  | .snap => s
  | .colour => s

/-! ### Issuing (R196, R197, R250) -/

/-- The port's old-location granule of address `a` is busy, and the access is not the running coach's (R196). -/
def busyHeld (s : State) (o : DpOp) : Bool :=
  let a := lineAddr o.line
  let n := portRegion o.port
  match slotFor s n (segOf a) with
  | some i =>
    let v := migSlot s n i
    v.busy && v.w == granuleOf a && segPort (bankNow s) (segOf a) == o.port && v.running != some o.who
  | none => false
/-- The lowest tag of the port that is neither outstanding nor reserved (R397). -/
def freeTag (s : State) (p : Nat) : BitVec 14 :=
  let used := (s.dp.outst.filter (fun x => x.port == p)).map (fun x => x.tag.toNat) ++
    (s.dp.reserved.filter (fun k => k / 16384 == p)).map (· % 16384)
  BitVec.ofNat 14 (((List.range (used.length + 1)).find? (fun t => ! used.contains t)).getD 0)
def addOut (s : State) (o : DpOut) : State := withDp s { s.dp with outst := s.dp.outst ++ [o] }
/-- A write of the running coach to the granule that it copies: it goes to the new location (R195 step 3). -/
def copyWrite (s : State) (p : Nat) (l : LAddr) (w : WrFor) : Bool :=
  let g := segOf (lineAddr l)
  match w, slotFor s (portRegion p) g with
  | .msg m, some i =>
    let v := migSlot s (portRegion p) i
    v.busy && v.w == granuleOf (lineAddr l) && v.running == some m.tgt && migPort (bankNow s) g == p
  | _, _ => false
/-- Issue a write to the expander. -/
def issueWrite (s : State) (p : Nat) (l : LAddr) (e : Option Bool) (w : WrFor) (d : LineData) (k : BitVec 64) (poison : Bool) :
    State :=
  let t := freeTag s p
  let a := lineAddr l
  let dpa := if copyWrite s p l w then migDpa (bankNow s) (segOf a) * 2 ^ 30 + a % 2 ^ 30 else dpaOf s e p a
  emit (addOut s ⟨p, t, l, none, some w, false, 0, e⟩) (.expWrite p t dpa (linkGenOf s p) d k poison)
/-- Issue a read, whose reserved cell is shared or not and of class `cls`. -/
def issueRead (s : State) (p : Nat) (l : LAddr) (e : Option Bool) (r : RdFor) (shared : Bool) (cls : Nat) : State :=
  let t := freeTag s p
  emit (addOut s ⟨p, t, l, some r, none, shared, cls, e⟩) (.expRead p t (dpaOf s e p (lineAddr l)) (linkGenOf s p))
/-- An access may be issued: not held, no earlier write or waiting access to its line (R197). -/
def mayIssue (s : State) (o : DpOp) (ahead : List DpOp) : Bool :=
  ! busyHeld s o && ! s.dp.outst.any (fun x => x.port == o.port && x.line == o.line && (x.wr.isSome ||
      match x.rd with
      | some (.msg _) => false
      | some (.tag _ _) => false
      | _ => true)) &&
    ! ahead.any (fun x => x.port == o.port && x.line == o.line)
/-- Issue one access, or end it at once where the link is not active (R395); none where it waits for a cell. -/
def issueOp (s : State) (o : DpOp) : Option State :=
  let up := linkActive s o.port && ! cellFenced s o.port
  match o.rd with
  | some (.msg m) =>
    (reserveCell s o.port (if m.ddat then none else some (attDest m.dest))).map (fun r =>
      if up then issueRead r.1 o.port o.line o.epoch (.msg m) r.2 (homedClass s)
      else failRead r.1 o.port (.msg m) r.2 (homedClass s) 3)
  | some r => some (if up then issueRead s o.port o.line o.epoch r false 0 else failRead s o.port r false 0 3)
  | none =>
    match o.wr with
    | some (w, d, k, poison) =>
      some (if up then issueWrite s o.port o.line o.epoch w d k poison
        else raiseEv (failWrite s o.port w 3) (linkEv (o.port / 4)))
    | none => some s
/-- A redirected access leaves through the crossbar for the device port at the new location, in a cell of its own (R196). -/
def leaveOp (s : State) (o : DpOp) (q : Nat) : Option State :=
  let d : Dest := .port (Fin.ofNat 128 q)
  (reserveCell s o.port (some d)).map (fun r =>
    enqueueData r.1 (portRegion o.port) (portIdx o.port) (homedClass s) d r.2 (.access { o with port := q, moved := none }))
/-- What a waiting access does next; none where it must wait. -/
def advanceOp (s : State) (o : DpOp) (ahead : List DpOp) : Option State :=
  match o.moved with
  | some q => if ahead.any (fun x => x.port == o.port && x.moved.isSome) then none else leaveOp s o q
  | none => if mayIssue s o ahead then issueOp s o else none
/-- Issue what may be issued on port `p`, in order of arrival. -/
def pumpOps (s : State) (p : Nat) (l kept : List DpOp) : State :=
  match l with
  | [] => withDp s { s.dp with wait := kept }
  | o :: t =>
    match (if o.port = p then advanceOp s o kept else none) with
    | some u => pumpOps u p t kept
    | none => pumpOps s p t (kept ++ [o])
def pumpPort (s : State) (p : Nat) : State := pumpOps s p s.dp.wait []
/-- An access arrives at its device port cell. -/
def dpArrive (s : State) (o : DpOp) : State := pumpPort (withDp s { s.dp with wait := s.dp.wait ++ [o] }) o.port

/-- A read of line `l` at device port `p`. -/
def dpRead (s : State) (p : Nat) (l : LAddr) (who : Agent) (e : Option Bool) (r : RdFor) : State :=
  dpArrive s ⟨p, l, some r, none, who, e, none⟩
/-- A write, answered by MemCmp with header `m`. -/
def dpWrite (s : State) (p : Nat) (l : LAddr) (m : Hdr) (d : LineData) (k : BitVec 64) (poison : Bool) : State :=
  dpArrive s ⟨p, l, none, some (.msg m, d, k, poison), m.tgt, m.epoch0, none⟩

/-! ### Commands -/

/-- A cell holds up to 64 accesses to a busy granule; a further one stays where it is, and keeps its credit (R196). -/
def holdFull (s : State) (o : DpOp) : Bool :=
  busyHeld s o && decide (64 ≤ (s.dp.wait.filter (fun x => x.port == o.port && busyHeld s x)).length)

/-- MEMRD (R111). -/
def execMemrd (m : Hdr) (s : State) : Host.Outcome State Fault Refusal :=
  .next (onFabric s
    (if holdFull s ⟨m.dport, m.laddr, some (.msg m), none, m.tgt, m.epoch0, none⟩ then s
     else receive s (.memrd m) (fun t => dpRead t m.dport m.laddr m.tgt m.epoch0 (.msg m))))

/-- MEMRD_ISSUE: a cell has become free for a waiting MemRd (R250). -/
def execMemrdIssue (port : Fin 128) (s : State) : Host.Outcome State Fault Refusal :=
  .next (onFabric s (pumpPort s port))

/-- WBDATA: line data on the DAT network is written to the expander (R113). -/
def execWbdata (m : Hdr) (data : LineData) (mask : BitVec 64) (s : State) : Host.Outcome State Fault Refusal :=
  .next (onFabric s
    (if holdFull s ⟨m.dport, m.laddr, none, some (.msg m, data, mask, m.poison), m.tgt, m.epoch0, none⟩ then s
     else receive s (.wbdata m data mask) (fun t => dpWrite t m.dport m.laddr m data mask m.poison)))

/-- An unexpected completion is counted (R397, R398). -/
def unexpected (s : State) (p : Nat) : State := count s (linkReg (.port (Fin.ofNat 128 p)) 0x14) 16 .once (linkEv (p / 4))
/-- A response whose tag is reserved or not outstanding is discarded (R397). -/
def discardResponse (s : State) (p : Nat) (tag : BitVec 14) : State :=
  withDp (unexpected s p) { s.dp with reserved := s.dp.reserved.filter (fun k => k != p * 16384 + tag.toNat) }
def outstAt (s : State) (p : Nat) (tag : BitVec 14) : Option DpOut :=
  s.dp.outst.find? (fun x => x.port == p && x.tag == tag)
def dropOut (s : State) (o : DpOut) : State := withDp s { s.dp with outst := s.dp.outst.erase o }

/-- The read half of an atomic or of a partial write has returned: compute, and write what changed (R60, R152). -/
def afterRead (s : State) (o : DpOut) (r : RdFor) (d : LineData) (poison : Bool) : State :=
  let p := o.port
  let l := o.line
  let e := o.epoch
  match r with
  | .msg m => deliverRead s p { m with poison := m.poison || poison } d o.shared o.cls
  | .tag n line => sendFrom s (blockEp (p / 4)) (.tagLineFill n line d (if poison then .uncorrectable else .clean))
  | .atom m a =>
    if poison then sendAtomRes s p m 1 {}
    else
      let x := atomLine d a
      if x.1 = d then sendAtomRes s p m 0 x.2 else issueWrite s p l e (.atom m x.2) x.1 (atomMask a) false
  | .nibble m i high c =>
    let b := lineByte d i
    let nb := if high then (b &&& 0x0F) ||| BitVec.ofNat 8 (c * 16) else (b &&& 0xF0) ||| BitVec.ofNat 8 (c % 16)
    issueWrite s p l e (.msg m) (mkLine (fun j => if j = i then nb else lineByte d j)) (byteMask i (i + 1)) poison
  | .part m nd k => issueWrite s p l e (.msg m) (mergeLine d nd k) fullMask poison

/-- EXPANDER_READ_DATA (R111, R397, R512). -/
def execExpanderReadData (port : Fin 128) (tag : BitVec 14) (data : LineData) (poison : Bool) (linkGen : BitVec 8)
    (s : State) : Host.Outcome State Fault Refusal :=
  .next (onFabric s
    (match outstAt s port tag with
     | some o =>
       match o.rd with
       | some r =>
         if linkGen.toNat ≠ linkGenOf s port then discardResponse s port tag
         else pumpPort (afterRead (dropOut s o) o r data poison) port
       | none => discardResponse s port tag
     | none => discardResponse s port tag))

/-- EXPANDER_WRITE_COMPLETION (R113, R397, R512). -/
def execExpanderWriteCompletion (port : Fin 128) (tag : BitVec 14) (linkGen : BitVec 8) (s : State) :
    Host.Outcome State Fault Refusal :=
  .next (onFabric s
    (match outstAt s port tag with
     | some o =>
       match o.wr with
       | some w =>
         if linkGen.toNat ≠ linkGenOf s port then discardResponse s port tag
         else
           let t := dropOut s o
           pumpPort (match w with
             | .msg m => sendMemCmp t m 0
             | .atom m r => sendAtomRes t port m 0 r
             | .snap => t
             | .colour => t) port
       | none => discardResponse s port tag
     | none => discardResponse s port tag))

/-- MEMRD_TIMEOUT: poison goes to the destination and the tag stays reserved (R144, R397). An atomic is under R145. -/
def execMemrdTimeout (port : Fin 128) (tag : BitVec 14) (s : State) : Host.Outcome State Fault Refusal :=
  .next (onFabric s
    (match outstAt s port tag with
     | some o =>
       let ended (r : RdFor) : State :=
         let t := dropOut s o
         pumpPort (failRead (withDp t { t.dp with reserved := t.dp.reserved ++ [port.val * 16384 + tag.toNat] }) port r
           o.shared o.cls 0) port
       match o.rd with
       | some (.msg m) => ended (.msg m)
       | some (.tag n l) => ended (.tag n l)
       | _ => s
     | none => s))

/-- The link of a device port is lost: every outstanding access and every one that waits ends with STATUS 0x3, and the
tags become free with the link (R145, R395, R397). -/
def devPortLost (s : State) (p : Nat) : State :=
  let mine := s.dp.outst.filter (fun x => x.port == p)
  let t := withDp s { s.dp with outst := s.dp.outst.filter (fun x => x.port != p)
                                reserved := s.dp.reserved.filter (fun k => k / 16384 != p) }
  let u := forAll mine t (fun v o =>
    match o.rd with
    | some r =>
      match r with
      | .msg _ => failRead v p r o.shared o.cls 3
      | .tag _ _ => failRead v p r o.shared o.cls 3
      | _ => raiseEv (failRead v p r o.shared o.cls 3) (linkEv (p / 4))
    | none =>
      match o.wr with
      | some w => raiseEv (failWrite v p w 3) (linkEv (p / 4))
      | none => v)
  pumpPort u p

end Sys2Proof.Machine
end

