-- ==== Sys2Proof/Machine/Home.lean ====
section
/-! DEFINITION. The home of a line (03, 04): directory entries, trackers, wait lists, parking, evictions, the action
for each request in each state, the contention predictor, the journal, timeouts and the loss of an agent. -/

namespace Sys2Proof.Machine

def withDir (s : State) (d : Dir) : State := { s with dir := d }

/-! ### Lines, entries, trackers -/

def lineSlice (l : LAddr) : Nat := hashSlice (lineAddr l)
def lineSet (l : LAddr) : Nat := hashSet (lineAddr l)
/-- TAG: g[33:12]. -/
def lineTag (l : LAddr) : BitVec 22 := BitVec.ofNat 22 (nbits (lineAddr l / 4096) 33 12)
/-- The line that slice, set and TAG name ("Entry format"). -/
def lineAt (x set : Nat) (tag : BitVec 22) : LAddr :=
  let hi := tag.toNat * 4096                         -- g[33:12]
  let mid := Nat.xor (set / 64) (nbits hi 18 12)     -- g[11:5]
  let g1 := hi + mid * 32
  let low := Nat.xor x (Nat.xor (nbits g1 9 5) (Nat.xor (nbits g1 14 10) (Nat.xor (nbits g1 19 15)
    (Nat.xor (nbits g1 24 20) (Nat.xor (nbits g1 29 25) (nbits g1 33 30))))))
  BitVec.ofNat 40 ((g1 + low) * 64 + set % 64)
/-- Segment of a line. -/
def lineSeg (l : LAddr) : Nat := segOf (lineAddr l)

/-- Bit `x` of the homing registers (R469). -/
def slicedAway (s : State) (x : Nat) : Bool := rdBit s R.TWIN_HOMING x
def sliceActing (s : State) (x : Nat) : Bool := rdBit s R.TWIN_ACTING x
/-- The line's effective home is this twin (R469). -/
def homedHere (s : State) (l : LAddr) : Bool :=
  if segHome (bankNow s) (lineSeg l) = s.dev.pid then ! slicedAway s (lineSlice l) else sliceActing s (lineSlice l)
/-- The partner takes part in coherence: PAIRED or HANDING, and no takeover has begun (R468, R481). -/
def partnerServes (s : State) : Bool := (pairState s == 2 || pairState s == 5) && s.pair.takeoverStep == 0

def setKey (x set : Nat) : Nat := x * 8192 + set
def getEnt (s : State) (x set w : Nat) : Entry := sGet s.dir.ways (setKey x set * 16 + w) {}
def setEnt (s : State) (x set w : Nat) (e : Entry) : State :=
  withDir s { s.dir with ways := sPut s.dir.ways (setKey x set * 16 + w) {} e }
/-- The home entry of a line: its way. -/
def findWay (s : State) (x : Nat) (l : LAddr) : Option Nat :=
  (List.range 16).find? (fun w =>
    let e := getEnt s x (lineSet l) w
    e.st != .free && e.tag == lineTag l && ! e.shadow)
/-- A way that holds nothing. -/
def freeWay (s : State) (x set : Nat) : Option Nat :=
  (List.range 16).find? (fun w => let e := getEnt s x set w; e.st == .free && ! e.opn)

/-- Tree nodes of the pseudo-LRU on the path to way `w`, root first: (node, the way lies in its upper half). -/
def plruPath (w : Nat) : List (Nat × Bool) :=
  [(0, decide (8 ≤ w)), (1 + w / 8, decide (4 ≤ w % 8)), (3 + w / 4, decide (2 ≤ w % 4)), (7 + w / 2, decide (w % 2 = 1))]
def plruTree (s : State) (x set : Nat) : BitVec 15 := sGet s.dir.plru (setKey x set) 0
/-- An allocation or a hit points every node of the path away from the way (R118). -/
def plruTouch (s : State) (x set w : Nat) : State :=
  let t := (plruPath w).foldl (fun (b : BitVec 15) n =>
    if n.2 then b &&& ~~~ (1#15 <<< n.1) else b ||| (1#15 <<< n.1)) (plruTree s x set)
  withDir s { s.dir with plru := sPut s.dir.plru (setKey x set) 0 t }
/-- The way that the tree names. -/
def plruVictim (b : BitVec 15) : Nat :=
  let a0 := (b.getLsbD 0).toNat
  let a1 := (b.getLsbD (1 + a0)).toNat
  let a2 := (b.getLsbD (3 + 2 * a0 + a1)).toNat
  let a3 := (b.getLsbD (7 + 4 * a0 + 2 * a1 + a2)).toNat
  8 * a0 + 4 * a1 + 2 * a2 + a3
/-- The first way from the tree's choice upwards, wrapping, that satisfies `p` (R118, R133). -/
def plruFirst (s : State) (x set : Nat) (p : Entry → Bool) : Option Nat :=
  ((List.range 16).map (fun i => (plruVictim (plruTree s x set) + i) % 16)).find? (fun w => p (getEnt s x set w))
/-- A way that an eviction may take (R118). -/
def eligible (e : Entry) : Bool := e.st != .free && ! e.opn && ! e.shadow

def getTrk (s : State) (x t : Nat) : Option Tracker := sFind s.dir.trk (x * 256 + t)
def setTrk (s : State) (x t : Nat) (k : Tracker) : State :=
  withDir s { s.dir with trk := sIns s.dir.trk (x * 256 + t) k }
def delTrk (s : State) (x t : Nat) : State := withDir s { s.dir with trk := sDel s.dir.trk (x * 256 + t) }
/-- Trackers of a slice: (tracker, contents). -/
def trksOf (s : State) (x : Nat) : List (Nat × Tracker) :=
  (s.dir.trk.filter (fun e => e.1 / 256 == x)).map (fun e => (e.1 % 256, e.2))
/-- The tracker that holds a line: the line is Blocked (R92). -/
def blockedBy (s : State) (x : Nat) (l : LAddr) : Option Nat := ((trksOf s x).find? (fun e => e.2.line == l)).map (·.1)
/-- A free tracker of a line's bank (R92). -/
def freeTrk (s : State) (x : Nat) (l : LAddr) : Option Nat :=
  let b := setBank (lineSet l)
  ((List.range 64).map (· + 64 * b)).find? (fun t => (getTrk s x t).isNone)

/-- Agents that an entry names. -/
def ptrs (e : Entry) : List Agent := [e.p0, e.p1, e.p2].filter (· != 0x3FF)
def withPtrs (e : Entry) (l : List Agent) : Entry :=
  { e with p0 := l.getD 0 0x3FF, p1 := l.getD 1 0x3FF, p2 := l.getD 2 0x3FF }
def freed (e : Entry) : Entry := withPtrs { e with st := .free, ovf := false } []
def sharedBy (e : Entry) (l : List Agent) : Entry :=
  if l = [] then freed e else withPtrs { e with st := .shared, ovf := false } l
def ownedBy (e : Entry) (a : Agent) : Entry := withPtrs { e with st := .owned, ovf := false } [a]
def overflown (e : Entry) : Entry := withPtrs { e with st := .shared, ovf := true } []

/-- Agents in a slice's lost set (R147). -/
def lostSet (s : State) (x : Nat) : List Agent := sGet s.dir.lost x []
def isLost (s : State) (x : Nat) (a : Agent) : Bool := (lostSet s x).contains a
/-- A Shared entry without agents of the lost set and without `gone`, which an expiry has declared lost (R137, R148). -/
def leaveOut (s : State) (x : Nat) (gone : List Agent) (e : Entry) : Entry :=
  if e.st = .shared ∧ e.ovf = false then sharedBy e ((ptrs e).filter (fun a => ! isLost s x a && ! gone.contains a)) else e
/-- The entry is Owned by a lost agent: memory must be poisoned before its way is freed (R148, R149). -/
def ownerLost (s : State) (x : Nat) (e : Entry) : Bool := e.st == .owned && isLost s x e.p0

/-! ### Journal (R110, R470 to R475) -/

def getJrn (s : State) (x : Nat) : Jrn := sGet s.dir.jrn x {}
def setJrn (s : State) (x : Nat) (j : Jrn) : State := withDir s { s.dir with jrn := sPut s.dir.jrn x {} j }
/-- The journal of the slice pair runs: paired, both slices in service, not suspended (R470, R476); or a homing return has
resumed it (R492), in a rejoin too. -/
def journaling (s : State) (x : Nat) : Bool :=
  s.pair.homing.any (fun h => h.slice == Fin.ofNat 32 x) || s.pair.syncSent.contains (Fin.ofNat 32 x) ||
  ((pairState s == 2 || pairState s == 5) && ! rdBit s R.TWIN_JRN_STATUS x && ! slicedAway s x && ! sliceActing s x &&
    ! unitDown s (.slice (Fin.ofNat 32 x)) && s.pair.takeoverStep == 0)
/-- Records a JrnAck must cover before more may be sent (R473). -/
def unackedOf (j : Jrn) : Nat := (j.next - j.acked).toNat
/-- Send the open batch (R472). -/
def sendBatch (s : State) (x : Nat) : State :=
  let j := getJrn s x
  if j.batch = [] then s
  else sendTwin (setJrn s x { j with batch := [] }) (sliceEp x) (.jrnbatch (Fin.ofNat 32 x) j.batch)
/-- Put a record into the open batch; a batch of 16 is sent. -/
def journal (s : State) (x : Nat) (r : JrnRec) : State × BitVec 16 :=
  let j := getJrn s x
  let t := setJrn s x { j with next := j.next + 1, batch := j.batch ++ [{ r with jseq := j.next }] }
  (if j.batch.length + 1 = 16 then sendBatch t x else t, j.next)
/-- The record of an entry (R471). -/
def entryRec (x : Nat) (l : LAddr) (e : Entry) : JrnRec :=
  { act := if e.st = .free then .remove else .write
    owned := e.st == .owned, ovf := e.ovf
    ptr0 := if e.st = .free then 0 else e.p0, ptr1 := if e.st = .free then 0 else e.p1
    ptr2 := if e.st = .free then 0 else e.p2
    tag := lineTag l, set := Fin.ofNat 8192 (lineSet l), slice := Fin.ofNat 32 x }
/-- Two entries show the same STATE, OVF and pointers. -/
def sameHolders (a b : Entry) : Bool := a.st == b.st && a.ovf == b.ovf && ptrs a == ptrs b
/-- Journal a change of a protected entry; answers the sequence to await (R110). -/
def journalChange (s : State) (x : Nat) (l : LAddr) (a b : Entry) : State × Option (BitVec 16) :=
  if segJournal (bankNow s) (lineSeg l) && journaling s x && ! sameHolders a b then
    let r := journal s x (entryRec x l b)
    (r.1, some r.2)
  else (s, none)
/-- A record is acknowledged (R473). -/
def jrnAcked (s : State) (x : Nat) (q : BitVec 16) : Bool :=
  let j := getJrn s x
  decide ((j.next - j.acked).toNat < (j.next - q).toNat) || ! journaling s x

/-! ### Messages of the home -/

/-- Header of a home's message about its tracker (R100). -/
def homeHdr (s : State) (x t : Nat) (l : LAddr) : Hdr :=
  { htwin := s.dev.pid, hslice := Fin.ofNat 32 x, htxn := Fin.ofNat 256 t, laddr := l }
/-- The same with the device port of the line under epoch `e`, for MemRd, DataGo and WbData. -/
def memHdr (s : State) (x t : Nat) (l : LAddr) (e : Option Bool) : Hdr :=
  { homeHdr s x t l with dport := Fin.ofNat 128 (portIn s (bankFor s e) (x / 2) (lineAddr l)), epoch0 := e }
/-- Header towards agent `a`, FWD for the other twin's. -/
def toAgent (s : State) (h : Hdr) (a : Agent) : Hdr := { h with tgt := a, fwd := ! ownAgent s a }
/-- Crossbar attachment of an agent (R112). -/
def attachment (a : Agent) : BitVec 8 :=
  BitVec.ofNat 8 (if localAgent a < 128 then localAgent a else 128 + (localAgent a - 128) / 16)
/-- MemRd for a request of an own agent; a near atomic's goes to the line cache (R112). TGT names the agent that receives the
data, which R196 compares. -/
def sendMemRd (s : State) (x t : Nat) (l : LAddr) (r : Req) : State :=
  let near := r.kind == .atomicFar && isCoach r.m.src
  send s (.memrd { memHdr s x t l r.m.epoch0 with
    tgt := r.m.src, rtag := r.m.rtag, dest := if near then 0 else attachment r.m.src, ddat := near })
/-- DataGo to agent `a` (R106, R113). -/
def sendDataGo (s : State) (x t : Nat) (l : LAddr) (a : Agent) (rtag : BitVec 10) (e : Option Bool) : State :=
  send s (.datago { toAgent s (memHdr s x t l e) a with rtag := rtag })
/-- Err (R137, R147). -/
def sendErr (s : State) (x t : Nat) (r : Req) (st : BitVec 4) : State :=
  send s (.err { toAgent s (homeHdr s x t r.m.laddr) r.m.src with rtag := r.m.rtag, status := st })
/-- The epoch under which a transaction's request was resolved (R454, R455). -/
def epochOfTrk (k : Tracker) : Option Bool := k.req.bind (·.m.epoch0)
/-- A poison write (R142). -/
def poisonWrite (s : State) (x t : Nat) (k : Tracker) : State × Tracker :=
  (count (send s (.datago { memHdr s x t k.line (epochOfTrk k) with poison := true })) (R.DIR_POISON_CNT x) 0 .every (sliceFailEv x),
    { k with datas := k.datas ++ [⟨0x3FF, 0, .poison, false⟩], poison := true })

/-- Loss notices for an agent from interface `e`: to the region services of every region, which pass them to their slices,
and to the other twin (R146, R285, R295). -/
def noticeLoss (s : State) (e : Nat) (a : Agent) : State :=
  let t := forAll (List.range 16) s (fun u n => sendFrom u e (.lossNotice (Fin.ofNat 32 (2 * n)) a))
  if partnerServes t then sendTwin t e (.lossNotice 0 a) else t
/-- The orders for an own agent that was declared lost: its cell is fenced, or its coach is retired (R146). -/
def orderOut (s : State) (a : Agent) : State :=
  if ! ownAgent s a then s
  else if localAgent a < 128 then send s (.cellFence (.cell (Fin.ofNat 128 (localAgent a))))
  else if localAgent a < 384 then send s (.coachFault (Fin.ofNat 256 (localAgent a - 128)) .declaredLost)
  else s
/-- A home or a region declares an agent lost from interface `e`: the notices, and the orders (R146). -/
def declareLost (s : State) (e : Nat) (a : Agent) : State := orderOut (noticeLoss s e a) a

/-! ### What a request does (R108, R153, R154) -/

/-- The plan of a request: whom to snoop and how, whether it needs a way, the state at close and the end. -/
structure Plan where
  snoop : List Agent := []
  down : Bool := false
  bcast : Bool := false
  alloc : Bool := false
  next : Entry
  done : TrkEnd
deriving DecidableEq, Repr

def planRdShared (e : Entry) (a : Agent) : Plan :=
  match e.st with
  | .free => { alloc := true, next := sharedBy e [a], done := .cmpS }
  | .shared =>
    if e.ovf then { next := e, done := .cmpS }
    else if (ptrs e).contains a then { next := e, done := .cmpS }
    else if (ptrs e).length < 3 then { next := sharedBy e (ptrs e ++ [a]), done := .cmpS }
    else { next := overflown e, done := .cmpS }
  | .owned =>
    if e.p0 = a then { next := sharedBy e [a], done := .cmpS }
    else { snoop := [e.p0], down := true, next := sharedBy e [e.p0, a], done := .cmpS }
/-- Whom a request that takes the line from every other agent snoops; `self`: the requester too. -/
def planTake (e : Entry) (a : Agent) (self : Bool) (p : Plan) : Plan :=
  match e.st with
  | .free => p
  | .shared => if e.ovf then { p with bcast := true } else { p with snoop := (ptrs e).filter (fun b => self || b != a) }
  | .owned => { p with snoop := [e.p0].filter (fun b => self || b != a) }
def planRdOwn (e : Entry) (a : Agent) : Plan :=
  planTake e a false { alloc := e.st == .free, next := ownedBy e a, done := .cmpO }
def planUpgrade (e : Entry) (a : Agent) : Plan :=
  if e.st = .shared ∧ e.ovf = false ∧ (ptrs e).contains a = true then { planRdOwn e a with done := .cmpONoData }
  else planRdOwn e a
def planRdCur (e : Entry) (a : Agent) : Plan :=
  if e.st = .owned ∧ e.p0 ≠ a then { snoop := [e.p0], down := true, next := sharedBy e [e.p0], done := .cmpRead }
  else { next := e, done := .cmpRead }
def planWrite (e : Entry) (a : Agent) : Plan := planTake e a false { next := freed e, done := .cmpWrite }
def planEvict (e : Entry) (a : Agent) : Plan :=
  match e.st with
  | .shared => if e.ovf then { next := e, done := .cmpEvict }
      else { next := sharedBy e ((ptrs e).filter (· != a)), done := .cmpEvict }
  | .owned => { next := if e.p0 = a then freed e else e, done := .cmpEvict }
  | .free => { next := e, done := .cmpEvict }
def planFar (e : Entry) (a : Agent) : Plan := planTake e a true { next := freed e, done := .cmpFar }
/-- The plan for a request, `far` being the path of an AtomicFar. -/
def planFor (e : Entry) (r : Req) (far : Bool) : Plan :=
  match r.kind with
  | .rdShared => planRdShared e r.m.src
  | .rdOwn => planRdOwn e r.m.src
  | .upgrade => planUpgrade e r.m.src
  | .rdCur => planRdCur e r.m.src
  | .wrLine => planWrite e r.m.src
  | .wrPart => planWrite e r.m.src
  | .wbDirty => planWrite e r.m.src
  | .evict => planEvict e r.m.src
  | .atomicFar => if far then planFar e r.m.src else planUpgrade e r.m.src

/-! ### The contention predictor (R155 to R158) -/

def predIndex (l : LAddr) : Nat :=
  let g := lineAddr l / 4096
  Nat.xor (nbits g 16 5) (nbits g 28 17)
def predOf (s : State) (x : Nat) (l : LAddr) : Nat := sGet s.dir.pred (x * 4096 + predIndex l) 0
def farOn (s : State) (x : Nat) : Nat := rd s (R.DIR_ATOM_CFG x) 3 0
def farOff (s : State) (x : Nat) : Nat :=
  let f := rd s (R.DIR_ATOM_CFG x) 7 4
  if farOn s x ≤ f then farOn s x - 1 else f
/-- Score and mode after an update; `f`: what the lookup finds. -/
inductive Found where
  | joins | snoopsOther | quiet | plain
deriving DecidableEq, Repr
def predNext (s : State) (x v : Nat) (f : Found) : Nat :=
  let sc := v % 16
  let sc := match f with
    | .joins => min 15 (sc + 4)
    | .snoopsOther => min 15 (sc + 2)
    | .quiet => sc - 1
    | .plain => sc
  -- FAR_ON 0 leaves no lower threshold: M is set
  let m := if farOn s x ≤ sc then 1 else if sc ≤ farOff s x then 0 else v / 16
  sc + 16 * m
/-- What a request finds at a line that is not Blocked (R156). -/
def foundAt (e : Entry) (a : Agent) : Found :=
  match e.st with
  | .free => .quiet
  | .shared => if e.ovf || (ptrs e).any (· != a) then .snoopsOther else .plain
  | .owned => if e.p0 = a then .quiet else .snoopsOther
def predicts (r : Req) : Bool := r.kind == .atomicFar || r.kind == .rdOwn || r.kind == .upgrade
/-- Apply the update of an accepted request. -/
def predUpdate (s : State) (x : Nat) (r : Req) (f : Found) : State :=
  if predicts r then
    withDir s { s.dir with
      pred := sPut s.dir.pred (x * 4096 + predIndex r.m.laddr) 0 (predNext s x (predOf s x r.m.laddr) f) }
  else s
/-- The path of an AtomicFar with mode bit `m` (R154, R158). -/
def farPath (s : State) (x : Nat) (r : Req) (v : Nat) : Bool :=
  if ! isCoach r.m.src then true
  else
    match rd s (R.DIR_ATOM_CFG x) 9 8 with
    | 1 => false
    | 2 => true
    | _ => decide (v / 16 = 1)

/-! ### Running a transaction -/

/-- A tracker before its plan runs. -/
def newTrk (l : LAddr) (r : Option Req) (d : TrkEnd) (w : Option Nat) (b n : Entry) : Tracker :=
  { line := l, req := r, done := d, phase := .snoop, way := w, before := b, next := n, bi := [], down := false, agg := []
    bcast := none, epoch := false, snooped := [], gone := [], takenFrom := [], announced := [], datas := [], res := {}
    jrn := none, granted := false, poison := false, expiries := 0, sawDirty := false, forTxn := none, forRec := false
    victim := none }

/-- Close: write the entry without lost agents, and leave the tracker to be passed on (R109, R128, R148). The way that an
eviction frees stays open until what waits for it takes it. An entry left Owned by a lost agent is removed as the purge scan
removes it: poisoned first, under the same tracker. -/
def closeTrk (s : State) (x t : Nat) (k : Tracker) : State :=
  let e := leaveOut s x k.gone k.next
  if k.way.isSome && ownerLost s x e then
    let p := poisonWrite s x t { k with req := none, done := .poison, phase := .data, before := e, next := freed e, datas := []
                                        bi := [], agg := [], announced := [], granted := false }
    setTrk p.1 x t p.2
  else
    let n := { e with opn := (k.forTxn.isSome || k.forRec) && e.st == .free }
    let s1 := match k.way with
      | some w => setEnt s x (lineSet k.line) w n
      | none => s
    let s2 := if k.way.isSome then (journalChange s1 x k.line k.next n).1 else s1
    setTrk s2 x t { k with phase := .handoff, next := n }

/-- STATUS of a grant. -/
def grantStatus (k : Tracker) : BitVec 4 := if k.poison then 1 else 0
/-- The grant, Cmp or end of a transaction whose journal record is acknowledged (R108, R109). -/
def afterJournal (s : State) (x t : Nat) (k : Tracker) : State :=
  match k.req with
  | none => closeTrk s x t k
  | some r =>
    let h := { toAgent s (homeHdr s x t k.line) r.m.src with rtag := r.m.rtag, status := grantStatus k, poison := k.poison }
    let reading (s' : State) : State :=
      if isLost s x r.m.src then closeTrk s x t k else setTrk s' x t { k with phase := .ack, granted := true }
    match k.done with
    | .cmpS => reading (send s (.cmps h))
    | .cmpO => reading (send s (.cmpo h))
    | .cmpONoData => reading (send s (.cmpo { h with nodata := true }))
    | .cmpRead => reading (send s (.cmp h {}))
    | .cmpWrite => closeTrk (send s (.cmp { h with status := 0, poison := false } {})) x t k
    | .cmpEvict => closeTrk (send s (.cmp { h with status := 0, poison := false } {})) x t k
    | .cmpFar => closeTrk (send s (.cmp h k.res)) x t k
    | _ => closeTrk s x t k

/-- Journal the change of the entry, and wait for its acknowledgement (R110). -/
def toJournal (s : State) (x t : Nat) (k : Tracker) : State :=
  let n := { leaveOut s x k.gone k.next with opn := true }
  let s1 := match k.way with
    | some w => setEnt s x (lineSet k.line) w n
    | none => s
  let r := if k.way.isSome then journalChange s1 x k.line k.before n else (s1, none)
  let k1 := { k with next := n, phase := .journal, jrn := r.2 }
  match k1.jrn with
  | some _ => setTrk r.1 x t k1
  | none => afterJournal r.1 x t k1

/-- Every snoop is answered and every MemCmp it required is in: read, ask for the data, or go on (R108, R153). -/
def afterSnoop (s : State) (x t : Nat) (k : Tracker) : State :=
  match k.done, k.req with
  | .cmpWrite, some r =>
    setTrk (sendDataGo s x t k.line r.m.src r.m.rtag r.m.epoch0) x t
      { k with phase := .data, datas := [⟨r.m.src, r.m.rtag, .own, r.m.fwd⟩] }
  | .cmpFar, some r =>
    setTrk (send s (.memrd { memHdr s x t k.line r.m.epoch0 with ddat := true, rtag := r.m.rtag })) x t { k with phase := .fill }
  | .cmpS, some r => toJournal (if ownAgent s r.m.src then sendMemRd s x t k.line r else s) x t k
  | .cmpO, some r => toJournal (if ownAgent s r.m.src then sendMemRd s x t k.line r else s) x t k
  | .cmpRead, some r => toJournal (if ownAgent s r.m.src then sendMemRd s x t k.line r else s) x t k
  | .recover, _ =>
    if k.sawDirty then toJournal s x t k
    else
      let p := poisonWrite s x t k
      setTrk p.1 x t { p.2 with phase := .data }
  | _, _ => toJournal s x t k

/-- Nothing of the snoop phase is awaited. -/
def snoopsDone (k : Tracker) : Bool := k.bi.isEmpty && k.agg.isEmpty && k.announced.isEmpty && k.datas.isEmpty
/-- Move a transaction on as far as what it awaits allows. -/
def advance (s : State) (x t : Nat) : State :=
  match getTrk s x t with
  | none => s
  | some k =>
    match k.phase with
    | .snoop => if snoopsDone k then afterSnoop s x t k else s
    | .data => if snoopsDone k then toJournal s x t k else s
    | .journal =>
      match k.jrn with
      | some q => if jrnAcked s x q then afterJournal s x t k else s
      | none => afterJournal s x t k
    | _ => s

/-- The answer of an agent that is lost: none; the owner's line is poisoned (R137, R148). -/
def lostAnswer (s : State) (x t : Nat) (a : Agent) : State :=
  match getTrk s x t with
  | none => s
  | some k =>
    if k.bi.contains a then
      let k1 := { k with bi := k.bi.erase a }
      if k.before.st = .owned ∧ k.before.p0 = a then
        let p := poisonWrite s x t k1
        setTrk p.1 x t p.2
      else setTrk s x t k1
    else if k.announced.contains a then
      let p := poisonWrite s x t { k with announced := k.announced.erase a }
      setTrk p.1 x t p.2
    else s

/-- Send the snoops of a tracker and go on (R115, R116). -/
def runTrk (s : State) (x t : Nat) (k : Tracker) : State :=
  let h := homeHdr s x t k.line
  let s1 := match k.way with
    | some w => setEnt s x (lineSet k.line) w { k.next with opn := true, tag := lineTag k.line }
    | none => s
  let except := match k.req with
    | some r => if k.done = .cmpFar then 0x3FF else r.m.src
    | none => 0x3FF
  let s2 := forAll k.bi s1 (fun u a =>
    send u (if k.down then .backdown (toAgent u h a) else .backinv (toAgent u h a)))
  let both := partnerServes s2
  let s3 := if k.bcast.isSome then
      let b := { h with bcast := true, tgt := except, epoch0 := some (epochBit s) }
      let u := forAll (List.range 16) s2 (fun u n => send u (.backinvBroadcast (Fin.ofNat 16 n) b))
      if both then sendTwin u (sliceEp x) (.backinvBroadcast 0 { b with fwd := true }) else u
    else s2
  let agg := if k.bcast.isSome then
      (List.range 16).map (· + 16 * pidNat s) ++ (if both then (List.range 16).map (· + 16 * (1 - pidNat s)) else [])
    else []
  let s4 := setTrk s3 x t { k with phase := .snoop, agg := agg, epoch := epochBit s, snooped := k.bi }
  advance (forAll (k.bi.filter (fun a => isLost s x a)) s4 (fun u a => lostAnswer u x t a)) x t

/-- Run a request's plan in tracker `t`, in way `w` where it has one. -/
def runPlan (s : State) (x t : Nat) (r : Req) (p : Plan) (w : Option Nat) (e : Entry) : State :=
  let u := match w with
    | some w => plruTouch s x (lineSet r.m.laddr) w
    | none => s
  runTrk u x t { newTrk r.m.laddr (some r) p.done w e { p.next with tag := lineTag r.m.laddr } with
    bi := p.snoop, down := p.down
    bcast := if p.bcast then some (segShare (bankNow s) (lineSeg r.m.laddr)) else none }

/-- Parked trackers of a set, oldest first: the set is held while there is one (R132). -/
def parkedIn (s : State) (x set : Nat) : List Nat :=
  (s.dir.parked.filter (fun q => q.1 == x &&
    match getTrk s x q.2 with
    | some k => lineSet k.line == set
    | none => false)).map (·.2)
def setHeld (s : State) (x set : Nat) : Bool := ! (parkedIn s x set).isEmpty
/-- Requests in a bank's overflow queue. -/
def parkedCount (s : State) (x bank : Nat) : Nat := (s.dir.parked.filter (fun q => q.1 == x && q.2 / 64 == bank)).length

/-- Put a tracker's request into the overflow queue (R131). -/
def park (s : State) (x t : Nat) (k : Tracker) : State :=
  count (withDir (setTrk s x t { k with phase := .parked }) { (setTrk s x t { k with phase := .parked }).dir with
    parked := s.dir.parked ++ [(x, t)], wantPark := s.dir.wantPark.erase (x, t) })
    (R.DIR_PARK_CNT x) 0 .once (sliceFailEv x)

/-- Begin the eviction of way `w` in tracker `t`, for transaction `f` or for a journal record (R97, R119). -/
def startEvict (s : State) (x t set w : Nat) (f : Option Nat) (forRec : Bool) : State :=
  let e := getEnt s x set w
  let l := lineAt x set e.tag
  runTrk s x t { newTrk l none .evict (some w) e (freed e) with
    bi := if e.ovf then [] else ptrs e
    bcast := if e.ovf then some (segShare (bankNow s) (lineSeg l)) else none
    forTxn := f, forRec := forRec }

/-- A request that needs a way and has tracker `t`: a free way, an eviction, or parking; none where it may not park
and came from an input queue (`strict`). -/
def findRoom (s : State) (x t : Nat) (r : Req) (p : Plan) (e : Entry) (strict : Bool) : Option State :=
  let set := lineSet r.m.laddr
  let k := { newTrk r.m.laddr (some r) p.done none e p.next with phase := .needWay }
  match freeWay s x set with
  | some w => some (runPlan s x t r p (some w) (getEnt s x set w))
  | none =>
    match plruFirst s x set eligible with
    | some w =>
      let l := lineAt x set (getEnt s x set w).tag
      -- this request's own tracker is taken first
      let u := setTrk s x t k
      match freeTrk u x l with
      | some v => some (startEvict (setTrk u x t { k with phase := .evicting, victim := some v }) x v set w (some t) false)
      | none => some u
    | none =>
      if parkedCount s x (setBank set) < 16 then some (park s x t k)
      else if strict then none
      else
        some (withDir (setTrk s x t { k with phase := .wantPark })
          { (setTrk s x t { k with phase := .wantPark }).dir with wantPark := s.dir.wantPark ++ [(x, t)] })

/-- The way and entry that a line's lookup gives. -/
def lookup (s : State) (x : Nat) (l : LAddr) : Option Nat × Entry :=
  match findWay s x l with
  | some w => (some w, getEnt s x (lineSet l) w)
  | none => (none, {})

/-- Decide a request in tracker `t`. `first`: its lookup at the input stage, which updates the predictor. -/
def startReq (s : State) (x t : Nat) (r : Req) (first : Bool) : Option State :=
  let q := lookup s x r.m.laddr
  let f := foundAt q.2 r.m.src
  let v := if first then predNext s x (predOf s x r.m.laddr) f else predOf s x r.m.laddr
  let p := planFor q.2 r (farPath s x r v)
  let u := perfHit (if first then predUpdate s x r f else s) (x / 2) 0x0C (x % 2) 1 1
  if p.alloc then findRoom u x t r p q.2 first
  else some (runPlan u x t r p q.1 q.2)

/-! ### Acceptance at the input stage (R92, R107, R124 to R132, R147) -/

def isWrite (k : ReqKind) : Bool := k == .wrLine || k == .wrPart || k == .wbDirty
/-- Region of an agent, with its pair identity × 16. -/
def agentRegion (a : Agent) : Nat :=
  16 * (a.getLsbD 9).toNat + (if localAgent a < 128 then localAgent a / 8 else (localAgent a - 128) / 16)
/-- The open transaction back-invalidates or downgrades agent `a`: it is named, its write is announced, or it is a member of the
sharing set of the broadcast, but for the requester and lost agents (R107, R117). -/
def snoops (s : State) (x : Nat) (k : Tracker) (a : Agent) : Bool :=
  k.bi.contains a || k.announced.contains a ||
    match k.bcast with
    | some g =>
      shareMember (bankFor s (some k.epoch)) g a.toNat && ! isLost s x a &&
        (match k.req with
         | some r => k.done == .cmpFar || r.m.src != a
         | none => true)
    | none => false
/-- Take an agent's write into the open transaction (R107). -/
def takeWrite (s : State) (x t : Nat) (k : Tracker) (r : Req) : State :=
  setTrk (sendDataGo s x t k.line r.m.src r.m.rtag r.m.epoch0) x t
    { k with
      datas := k.datas ++ [⟨r.m.src, r.m.rtag, .taken, r.m.fwd⟩]
      takenFrom := k.takenFrom ++ [r.m.src], announced := k.announced.erase r.m.src }

/-- Waiting requests of a line, and of a slice's wait store (R127). -/
def waitersOf (s : State) (x : Nat) (l : LAddr) : List Waiter := s.dir.waits.filter (fun w => w.slice == x && w.line == l)
def waitCount (s : State) (x : Nat) : Nat := (s.dir.waits.filter (fun w => w.slice == x)).length
/-- Join a line's wait list; none where it or the store is full (R127). -/
def joinWaits (s : State) (x : Nat) (r : Req) (f : Found) : Option State :=
  if waitCount s x < 512 ∧ (waitersOf s x r.m.laddr).length < 32 then
    let u := predUpdate s x r f
    some (withDir u { u.dir with waits := u.dir.waits ++ [⟨x, r.m.laddr, r⟩] })
  else none

/-- The line's segment is in recovery and the line is not yet recovered (R484). -/
def recKey (x : Nat) (l : LAddr) : Nat := x * 2 ^ 40 + l.toNat
def toRecover (s : State) (x : Nat) (l : LAddr) : Bool :=
  s.pair.recovery.contains (lineSeg l) && ! s.pair.recovered.contains (recKey x l)
/-- Lines recovered at first request, by slice: 1,024 at most. -/
def recCount (s : State) (x : Nat) : Nat := (s.pair.recovered.filter (fun k => k / 2 ^ 40 == x)).length
/-- Start the recovery of a line in a tracker (R484). -/
def startRecover (s : State) (x t : Nat) (l : LAddr) : State :=
  runTrk { s with pair := { s.pair with recovered := s.pair.recovered ++ [recKey x l] } } x t
    { newTrk l none .recover none {} {} with bcast := some (segShare (bankNow s) (lineSeg l)) }

/-- Requests for the line's set wait at the slice input after an entry error or during a self-test (R99, R123). -/
def setWaits (s : State) (x : Nat) (l : LAddr) : Bool :=
  s.dir.badSets.contains (setKey x (lineSet l)) || s.dir.testing.any (fun b => b / 4 == x)
/-- No new transaction of the line is accepted: DRAIN, or a takeover that has moved its home (R123, R481). -/
def lineWaits (s : State) (x : Nat) (l : LAddr) : Bool :=
  rdBit s (R.DIR_CTRL x) 0 || (s.pair.takeoverStep != 0 && segHome (bankNow s) (lineSeg l) != s.dev.pid)
def sliceWaits (s : State) (x : Nat) (l : LAddr) : Bool := setWaits s x l || lineWaits s x l
/-- The open transaction that takes the request as a snooped agent's data (R107). -/
def takenBy (s : State) (x : Nat) (r : Req) : Option (Nat × Tracker) :=
  (trksOf s x).find? (fun e => e.2.line == r.m.laddr && isWrite r.kind && e.2.phase == .snoop && snoops s x e.2 r.m.src)

/-- Take a request from the input stage, or leave it there. -/
def acceptReq (s : State) (x : Nat) (r : Req) : Option State :=
  let l := r.m.laddr
  if isLost s x r.m.src then some (sendErr s x 0 r 3)
  else if setWaits s x l then none
  else
    match takenBy s x r with
    | some e => some (takeWrite s x e.1 e.2 r)
    | none =>
      if lineWaits s x l then none
      else if (blockedBy s x l).isSome then joinWaits s x r .joins
      else if setHeld s x (lineSet l) || (waitersOf s x l) ≠ [] then
        joinWaits s x r (foundAt (lookup s x l).2 r.m.src)
      else
        match freeTrk s x l with
        | none => none
        | some t =>
          if toRecover s x l then
            if recCount s x < 1024 then
              (joinWaits s x r .joins).map (fun u => startRecover u x t l)
            else none
          else startReq s x t r true

/-- A request that cannot be taken stays at the head of its queue, but for one that waits for a tracker, for a takeover or for a
set after an entry error, which wait at the slice input with their arrival number (R92, R99, R127, R131). -/
def holdsQueue (s : State) (x : Nat) (r : Req) : Bool :=
  ! sliceWaits s x r.m.laddr && ((blockedBy s x r.m.laddr).isSome || (freeTrk s x r.m.laddr).isSome)
/-- An earlier request of the line waits with its arrival number: a later one does not pass it, but into the open transaction
(R107, R125). -/
def behind (s : State) (x : Nat) (ahead : List InReq) (r : Req) : Bool :=
  ahead.any (fun i => i.slice == x && i.req.m.laddr == r.m.laddr) && (takenBy s x r).isNone
/-- The first request with an arrival number that its bank can start, in arrival order (R92, R125). -/
def takeArrived (s : State) (x : Nat) (l ahead : List InReq) : Option State :=
  match l with
  | [] => none
  | i :: t =>
    if i.slice ≠ x ∨ behind s x ahead i.req = true then takeArrived s x t (i :: ahead)
    else
      match acceptReq s x i.req with
      | some u => some (withDir u { u.dir with arrived := u.dir.arrived.erase i })
      | none => takeArrived s x t (i :: ahead)

/-- The queue that the rotating input pointer names: cycles of the input stage since the slice's reset, modulo 5 (R124;
assumption 140). -/
def inPointer (s : State) (x : Nat) : Nat := sGet s.dir.cycles x 0 % 5
/-- Take one request from the head of queue `q`, with the next arrival number, unless it stays there. -/
def takeHead (s : State) (x q : Nat) : Option State :=
  match s.dir.input.find? (fun i => i.slice == x && i.q.val == q) with
  | none => none
  | some i =>
    let n := sGet s.dir.nextNum x 0
    let number (u : State) : State :=
      withDir u { u.dir with input := u.dir.input.erase i, nextNum := sPut u.dir.nextNum x 0 (n + 1) }
    if behind s x s.dir.arrived i.req then
      if holdsQueue s x i.req then none
      else some (withDir (number s) { (number s).dir with arrived := s.dir.arrived ++ [{ i with num := n }] })
    else
      match acceptReq s x i.req with
      | some u => some (number u)
      | none =>
        if holdsQueue s x i.req then none
        else some (withDir (number s) { (number s).dir with arrived := s.dir.arrived ++ [{ i with num := n }] })
/-- One cycle of the input stage: at most one request from each queue, from the queue that the pointer names on (R124). -/
def inputCycle (s : State) (x : Nat) : Option State :=
  let r := ((List.range 5).map (fun j => (inPointer s x + j) % 5)).foldl
    (fun (acc : State × Bool) q =>
      match takeHead acc.1 x q with
      | some u => (u, true)
      | none => acc) (s, false)
  if r.2 then some (withDir r.1 { r.1.dir with cycles := sPut r.1.dir.cycles x 0 (sGet s.dir.cycles x 0 + 1) }) else none
/-- What the input stage and the banks can start next. -/
def takeInput (s : State) (x : Nat) : Option State :=
  match takeArrived s x s.dir.arrived [] with
  | some u => some u
  | none => inputCycle s x

/-! ### What follows when something changes (R119, R128, R131 to R133) -/

/-- The way that an eviction has freed, and that its close has kept open, is free for others. -/
def releaseWay (s : State) (x set : Nat) (w : Option Nat) : State :=
  match w with
  | some v => if (getEnt s x set v).st = .free then setEnt s x set v { getEnt s x set v with opn := false } else s
  | none => s
/-- An eviction's way goes to the request that waits for it (R119 step 5): a request that needs a way found its line Invalid,
and an AtomicFar among them has the near path of its own lookup (R131, R158). -/
def giveVictim (s : State) (x t f : Nat) (k : Tracker) : State :=
  let set := lineSet k.line
  let plain := releaseWay s x set k.way
  match getTrk s x f with
  | some p =>
    match p.req, k.way with
    | some r, some w =>
      if p.victim = some t ∧ (getEnt s x set w).st = .free then
        runPlan (withDir s { s.dir with parked := s.dir.parked.erase (x, f) }) x f r (planFor {} r false) (some w)
          (getEnt plain x set w)
      else plain
    | _, _ => plain
  | none => plain

/-- Apply one received journal record; none where it must wait for a way (R97, R474). -/
def applyRec (s : State) (x : Nat) (r : JrnRec) : Option State :=
  let set := r.set.val
  let w := (List.range 16).find? (fun w => let e := getEnt s x set w; e.shadow && e.st != .free && e.tag == r.tag)
  let e : Entry := { opn := false, st := if r.owned then .owned else .shared, ovf := r.ovf, shadow := true
                     p0 := r.ptr0, p1 := r.ptr1, p2 := r.ptr2, tag := r.tag }
  match r.act with
  | .write =>
    match w with
    | some w => some (setEnt s x set w e)
    | none =>
      match freeWay s x set with
      | some v => some (plruTouch (setEnt s x set v e) x set v)
      | none => none
  | .remove =>
    match w with
    | some w => some (setEnt (withDir s { s.dir with reclaimed := s.dir.reclaimed.filter (· != setKey x set) }) x set w {})
    | none => some s
  | .reclaim =>
    some (withDir s { s.dir with work := s.dir.work ++ [⟨x, lineAt x set r.tag, .evict, []⟩] })
  | .empty => some s
/-- Apply the next received record; the last of a batch is acknowledged (R473). -/
def applyNext (s : State) (x : Nat) : Option State :=
  match (getJrn s x).recv with
  | [] => none
  | (r, last) :: t =>
    (applyRec s x r).map (fun u =>
      let v := setJrn u x { getJrn u x with recv := t }
      if last then sendTwin v (sliceEp x) (.jrnack (Fin.ofNat 32 x) r.jseq) else v)
/-- The next received record, where it must wait for a way, has one of the slice's own entries evicted, once (R97). -/
def evictForRecord (s : State) (x : Nat) : Option State :=
  match (getJrn s x).recv with
  | [] => none
  | (r, _) :: _ =>
    let set := r.set.val
    if (trksOf s x).any (fun e => lineSet e.2.line == set && e.2.forRec) then none
    else
      match plruFirst s x set eligible with
      | some w => (freeTrk s x (lineAt x set (getEnt s x set w).tag)).map (fun v => startEvict s x v set w none true)
      | none => none

/-- A tracker whose transaction has closed passes on (R128, R132). An eviction first gives its way to what waits for it. Then
the tracker goes to a victim of the oldest parked request; where the set is not held, to the line's first waiter; or to
nobody. -/
def passOn (s : State) (x t : Nat) (k : Tracker) : State :=
  let set := lineSet k.line
  let s0 := delTrk s x t
  let s1 := match k.forTxn with
    | some f => giveVictim s0 x t f k
    | none =>
      if k.forRec then
        let u := releaseWay s0 x set k.way
        (applyNext u x).getD u
      else s0
  match (parkedIn s1 x set).find? (fun q => match getTrk s1 x q with
      | some p => p.victim.isNone
      | none => false), k.way with
  | some f, some w =>
    if eligible (getEnt s1 x set w) then
      match getTrk s1 x f with
      | some p => startEvict (setTrk s1 x f { p with victim := some t }) x t set w (some f) false
      | none => s1
    else s1
  | _, _ =>
    if setHeld s1 x set || rdBit s (R.DIR_CTRL x) 0 then s1
    else
      match waitersOf s1 x k.line with
      | w :: _ => (startReq (withDir s1 { s1.dir with waits := s1.dir.waits.erase w }) x t w.req false).getD s1
      | [] => s1

/-- The oldest parked request of a set takes a way that is free (R132). -/
def giveWay (s : State) (x t : Nat) : Option State :=
  match getTrk s x t with
  | some k =>
    match k.req, freeWay s x (lineSet k.line) with
    | some r, some w =>
      some (runPlan (withDir s { s.dir with parked := s.dir.parked.erase (x, t), wantPark := s.dir.wantPark.erase (x, t) })
        x t r (planFor {} r false) (some w) (getEnt s x (lineSet k.line) w))
    | _, _ => none
  | none => none

/-- A held set whose ways are all shadows asks the home twin to reclaim one (R133). -/
def reclaimSet (s : State) (x t : Nat) : Option State :=
  match getTrk s x t with
  | some k =>
    let set := lineSet k.line
    if s.dir.reclaimed.contains (setKey x set) || ! (List.range 16).all (fun w => (getEnt s x set w).shadow) then none
    else
      match plruFirst s x set (fun e => e.shadow) with
      | some w =>
        some (sendTwin (withDir s { s.dir with reclaimed := s.dir.reclaimed ++ [setKey x set] }) (sliceEp x)
          (.jrnbatch (Fin.ofNat 32 x)
            [{ act := .reclaim, tag := (getEnt s x set w).tag, set := Fin.ofNat 8192 set, slice := Fin.ofNat 32 x }]))
      | none => none
  | none => none

/-- Start a transaction of the home's own (R75, R119, R149, R484), once its line is not Blocked and a tracker is free. -/
def startWork (s : State) (x : Nat) (w : Work) : Option State :=
  if (blockedBy s x w.line).isSome then none
  else
    match freeTrk s x w.line with
    | none => none
    | some t =>
      let s1 := withDir s { s.dir with work := s.dir.work.erase w }
      let q := lookup s x w.line
      match w.kind with
      | .recover => some (startRecover s1 x t w.line)
      | .evict =>
        match q.1 with
        | some v => some (startEvict s1 x t (lineSet w.line) v none false)
        | none => some s1
      | .poison =>
        match q.1 with
        | some v =>
          if q.2.st = .owned ∧ isLost s x q.2.p0 = true ∨ w.agents.contains q.2.p0 = true then
            let p := poisonWrite (setEnt s1 x (lineSet w.line) v { q.2 with opn := true }) x t
              { newTrk w.line none .poison (some v) q.2 (freed q.2) with phase := .data }
            some (setTrk p.1 x t p.2)
          else some s1
        | none => some s1
      | _ =>
        match q.1 with
        | some v =>
          let named := (ptrs q.2).filter (fun a => w.agents.contains a)
          if named = [] then some s1
          else
            let n := if q.2.st = .owned then freed q.2 else sharedBy q.2 ((ptrs q.2).filter (fun a => ! w.agents.contains a))
            some (runTrk s1 x t { newTrk w.line none .sweep (some v) q.2 n with bi := named })
        | none => some s1

/-- One thing that can now happen at a slice. A received journal record comes before a parked request of its set: the spec names
no order between them (DESIGN CHOICE, assumption 141). -/
def pick (s : State) (x : Nat) : Option State :=
  match (trksOf s x).find? (fun e => e.2.phase == .handoff) with
  | some e => some (passOn s x e.1 e.2)
  | none =>
    match (applyNext s x).orElse (fun _ => evictForRecord s x) with
    | some u => some u
    | none =>
      let parkedHere := s.dir.parked.filter (fun q => q.1 == x)
      match parkedHere.findSome? (fun q => giveWay s x q.2) with
      | some u => some u
      | none =>
        match parkedHere.findSome? (fun q => reclaimSet s x q.2) with
        | some u => some u
        | none =>
          let wanting := s.dir.wantPark.find? (fun q => q.1 == x && decide (parkedCount s x (q.2 / 64) < 16))
          match wanting.bind (fun q => (getTrk s x q.2).map (fun k => park s x q.2 k)) with
          | some u => some u
          | none =>
            let needing := (trksOf s x).findSome? (fun e =>
              if e.2.phase = .needWay then
                match e.2.req with
                | some r =>
                  let u := delTrk s x e.1
                  let p := planFor {} r false
                  -- try again once a way or a tracker has become free
                  if (freeWay s x (lineSet r.m.laddr)).isSome || (freeTrk s x r.m.laddr).isSome then
                    findRoom u x e.1 r p {} false
                  else none
                | none => none
              else none)
            match needing with
            | some u => some u
            | none =>
              match (s.dir.work.filter (fun w => w.slice == x)).findSome? (fun w => startWork s x w) with
              | some u => some u
              | none =>
                if rdBit s (R.DIR_CTRL x) 0 then none
                else
                  let ready := s.dir.waits.findSome? (fun w =>
                    if w.slice = x ∧ (blockedBy s x w.line).isNone = true ∧ setHeld s x (lineSet w.line) = false then
                      match freeTrk s x w.line with
                      | some t => startReq (withDir s { s.dir with waits := s.dir.waits.erase w }) x t w.req false
                      | none => none
                    else none)
                  match ready with
                  | some u => some u
                  | none => takeInput s x
/-- Let everything happen that can, at most `n` things. -/
def settleN (n : Nat) (s : State) (x : Nat) : State :=
  match n with
  | 0 => s
  | m + 1 =>
    match pick s x with
    | some u => settleN m u x
    | none => s
/-! ### Forwarding (R120) -/

/-- The command by which a request reaches a slice. -/
def reqCmd (x : Nat) (q : Fin 5) (r : Req) : Instr :=
  let x := Fin.ofNat 32 x
  match r.kind with
  | .rdShared => .rdshared x q r.m .clean
  | .rdOwn => .rdown x q r.m .clean
  | .upgrade => .upgrade x q r.m .clean
  | .rdCur => .rdcur x q r.m .clean
  | .wrLine => .wrline x q r.m .clean
  | .wrPart => .wrpart x q r.m .clean
  | .wbDirty => .wbdirty x q r.m .clean
  | .evict => .evict x q r.m .clean
  | .atomicFar => .atomicfar x q r.m r.a .clean
/-- Send a request from interface `e` to the other twin's home with FWD, and note it as outstanding there (R120, R284, R455).
The space for its answers is reserved where its own agent sends it. -/
def forwardReq (s : State) (e : Nat) (first : Bool) (r : Req) : State :=
  let m := { r.m with fwd := true, epoch0 := some (epochBit s) }
  let x := lineSlice r.m.laddr
  let c := reqCmd x 0 { r with m := m }
  let t := { s with pair := { s.pair with
    fwd := s.pair.fwd ++ [⟨Fin.ofNat 32 x, 0, r.m.src, r.m.rtag, r.m.laddr, r, false⟩] } }
  match msgInfo t c with
  | some i => inject t { i with init := e, dest := twinEp } (if first then some (.request r.m.src r.m.rtag) else none) c
  | none => t
/-- A forwarded request of an own agent has ended. -/
def dropFwd (s : State) (src : Agent) (rtag : BitVec 10) : State :=
  { s with pair := { s.pair with fwd := s.pair.fwd.filter (fun f => ! (f.src == src && f.rtag == rtag)) } }
/-- A request whose line's home has moved away goes to the other twin; one that the other twin forwarded goes back. -/
def redirect (s : State) (r : Req) : State :=
  let x := lineSlice r.m.laddr
  if ownAgent s r.m.src then forwardReq s (sliceEp x) false r else sendTwin s (sliceEp x) (reqCmd x 0 r)
/-- Redirect the requests that wait at slice `x` for lines that it no longer homes. -/
def redirectAll (s : State) (x : Nat) : State :=
  let gone (sl : Nat) (r : Req) : Bool := sl == x && ! homedHere s r.m.laddr
  let ws := s.dir.waits.filter (fun w => gone w.slice w.req)
  let ins := (s.dir.arrived ++ s.dir.input).filter (fun i => gone i.slice i.req)
  forAll (ws.map (·.req) ++ ins.map (·.req))
    (withDir s { s.dir with waits := s.dir.waits.filter (fun w => ! gone w.slice w.req)
                            arrived := s.dir.arrived.filter (fun i => ! gone i.slice i.req)
                            input := s.dir.input.filter (fun i => ! gone i.slice i.req) }) redirect

/-! ### Homing changes (R492, R495, R496) -/

/-- Open trackers of a slice. -/
def openTrks (s : State) (x : Nat) : Nat := (trksOf s x).length
/-- DRAINED (DIR_STATUS). -/
def sliceDrained (s : State) (x : Nat) : Bool := rdBit s (R.DIR_CTRL x) 0 && openTrks s x == 0
/-- Evictions of the home's own run or wait. -/
def evictsLeft (s : State) (x : Nat) : Bool :=
  s.dir.work.any (fun w => w.slice == x && w.kind == .evict) || (trksOf s x).any (fun e => e.2.done == .evict)
/-- Entries of slice `x` in use, each with its line. -/
def entriesOf (s : State) (x : Nat) : List (LAddr × Entry) :=
  (s.dir.ways.filter (fun e => e.1 / 131072 == x && e.2.st != .free)).map (fun e => (lineAt x (e.1 / 16 % 8192) e.2.tag, e.2))
/-- Set SHADOW of slice `x`'s entries for lines whose HOME is twin `pid`. -/
def markShadows (s : State) (x : Nat) (pid b : Bool) : State :=
  withDir s { s.dir with ways := s.dir.ways.map (fun e =>
    if e.1 / 131072 = x ∧ e.2.st ≠ .free ∧ segHome (bankNow s) (lineSeg (lineAt x (e.1 / 16 % 8192) e.2.tag)) = pid then
      (e.1, { e.2 with shadow := b }) else e) }
/-- Queue evictions of home entries of slice `x` that are unprotected and whose HOME is twin `pid`. -/
def queueEvicts (s : State) (x : Nat) (pid : Bool) : State :=
  let b := bankNow s
  let l := (entriesOf s x).filter (fun e =>
    ! e.2.shadow && ! segJournal b (lineSeg e.1) && segHome b (lineSeg e.1) == pid)
  withDir s { s.dir with work := s.dir.work ++ l.map (fun e => ⟨x, e.1, .evict, []⟩) }
/-- SetRecall of a set to every region of both twins (R496). -/
def setRecall (s : State) (x set : Nat) : State :=
  let c (n : Nat) : Instr := .setrecall (Fin.ofNat 16 n) (Fin.ofNat 32 x) (Fin.ofNat 8192 set)
  let t := forAll (List.range 16) s (fun u n => send u (c n))
  if partnerServes t then forAll (List.range 16) t (fun u n => sendTwin u (sliceEp x) (c n)) else t

/-- A twin enters a pair state: the pair event (R468, R497). -/
def setPairState (s : State) (n : Nat) : State :=
  if pairState s = n then s else raiseEv (wr s R.TWIN_PAIR_STATUS 30 28 n) 13
/-- All 32 slices are synchronised both ways: PAIRED (step 5 of R491). -/
def checkSynced (s : State) : State :=
  if (List.range 32).all (fun x => s.pair.syncSent.contains (Fin.ofNat 32 x) && s.pair.syncGot.contains (Fin.ofNat 32 x)) then
    setPairState { s with pair := { s.pair with syncSent := [], syncGot := [], rejoinSource := false, looking := false } } 2
  else s
/-- SYNC_DONE of a slice goes out. -/
def sendSync (s : State) (x : Nat) : State :=
  checkSynced (pairSend { s with pair := { s.pair with syncSent := s.pair.syncSent ++ [Fin.ofNat 32 x] } }
    (.syncDone (Fin.ofNat 32 x)))

/-- Steps 1 and 2 of the homing return of slice `x` from this twin: the journal resumes from 0 with every protected entry,
and the other twin's unprotected lines are evicted (R492). -/
def startReturn (s : State) (x : Nat) : State :=
  let t := { (wrBit (setJrn s x { getJrn s x with next := 0, acked := 0, batch := [] }) R.TWIN_JRN_STATUS x false) with
    pair := { s.pair with homing := s.pair.homing ++ [⟨Fin.ofNat 32 x, false, 2⟩] } }
  let l := (entriesOf t x).filter (fun e => ! e.2.shadow && segJournal (bankNow t) (lineSeg e.1))
  queueEvicts (forAll l t (fun u e => (journal u x (entryRec x e.1 e.2)).1)) x (! s.dev.pid)
/-- Step 4 of the homing return (R492). -/
def endReturn (s : State) (x : Nat) : State :=
  let t := wrBit (markShadows (sendBatch s x) x (! s.dev.pid) true) R.TWIN_ACTING x false
  let u := pairSend { t with pair := { t.pair with homing := t.pair.homing.filter (fun h => h.slice.val != x) } }
    (.homingDone (Fin.ofNat 32 x) false)
  let v := redirectAll (wrBit u (R.DIR_CTRL x) 0 false) x
  if v.pair.rejoinSource then sendSync v x else v
/-- What a homing return or a slice repair can do next at slice `x`. -/
def homingStep (s : State) (x : Nat) : State :=
  let s1 := match s.pair.homing.find? (fun h => h.slice.val == x) with
    | some h =>
      if h.step = 2 ∧ evictsLeft s x = false then
        let t := { s with pair := { s.pair with homing := s.pair.homing.map (fun g => if g = h then { g with step := 3 } else g) } }
        wrBit t (R.DIR_CTRL x) 0 true
      else if h.step = 3 ∧ sliceDrained s x = true then endReturn s x
      else s
    | none => s
  -- a repair counts its steps from 1, the hand-over of a fenced slice from 5
  let n := sGet s1.pair.repair x 0
  match n % 4 with
  | 1 =>
    if sliceDrained s1 x then
      let t := queueEvicts { s1 with pair := { s1.pair with repair := sPut s1.pair.repair x 0 (n + 1) } } x s1.dev.pid
      forAll (t.dir.badSets.filter (fun k => k / 8192 == x)) t (fun u k => setRecall u x (k % 8192))
    else s1
  | 2 =>
    if evictsLeft s1 x then s1
    else pairSend { s1 with pair := { s1.pair with repair := sPut s1.pair.repair x 0 (n + 1) } } (.homing (Fin.ofNat 32 x) true)
  | _ => s1
/-- Let everything happen at a slice that can, the steps of a homing change among them. -/
def settleRounds (n : Nat) (s : State) (x : Nat) : State :=
  match n with
  | 0 => settleN 4096 s x
  | m + 1 => settleRounds m (homingStep (settleN 4096 s x) x) x
def settleSlice (s : State) (x : Nat) : State :=
  if s.pair.homing.any (fun h => h.slice.val == x) || sGet s.pair.repair x 0 != 0 then settleRounds 4 s x else settleN 4096 s x
def settleSlices (s : State) : State := forAll (List.range 32) s settleSlice

/-! ### Arrival at a slice (R120, R321, R455) -/

/-- An agent sends a request to its home, wherever that is. -/
def sendReq (s : State) (r : Req) : State :=
  let x := lineSlice r.m.laddr
  if homedHere s r.m.laddr then send s (reqCmd x (arrivalPort s (agentEp s r.m.src) .req (sliceEp x)) r)
  else forwardReq s (agentEp s r.m.src) true r
/-- Kinds of a request under R326; none where it is not checked (R327). -/
def reqKinds (k : ReqKind) : Option Nat :=
  match k with
  | .rdShared => some 1
  | .rdCur => some 1
  | .rdOwn => some 3
  | .upgrade => some 3
  | .wrLine => some 2
  | .wrPart => some 2
  | .atomicFar => some 4
  | _ => none

/-- A request reaches its slice (R98, R99, R120, R124, R321). -/
def atSlice (s : State) (x : Fin 32) (q : Fin 5) (r : Req) (ecc : Ecc) : State :=
  let denied := if r.m.fwd && ! ownAgent s r.m.src then
      match reqKinds r.kind with
      | some k =>
        let a : Access := ⟨0, k, 0, r.m.src.toNat, lineAddr r.m.laddr, 64⟩
        (checkUnit s twinGuardWindow 32 a false).map (fun d => recordLog s twinGuardWindow a d 0 17)
      | none => none
    else none
  match denied with
  | some t => t
  | none =>
    if ! homedHere s r.m.laddr then redirect s r
    else
      -- a request that comes back is no longer outstanding at the other twin
      let s := dropFwd s r.m.src r.m.rtag
      let t := withDir s { s.dir with input := s.dir.input ++ [⟨x, q, r, 0⟩] }
      let u := match ecc with
        | .clean => t
        | .corrected => wr t (R.DIR_ECC_CNT x) 15 0 (satUp (rd t (R.DIR_ECC_CNT x) 15 0))
        | .uncorrectable =>
          let v := wrBit t (R.DIR_STATUS x) 17 true
          let w := wr v (R.DIR_UNCORR_CNT x) 15 0 (satUp (rd v (R.DIR_UNCORR_CNT x) 15 0))
          raiseEv (withDir w { w.dir with badSets := w.dir.badSets ++ [setKey x (lineSet r.m.laddr)] }) (sliceFaultEv x)
      settleSlice u x

/-- A request forwarded by the other twin and resolved under an epoch that this twin has not yet reached is held until its switch;
one resolved under the epoch before its own is decided under the bank of that epoch (R454, R455). Only a twin that has
answered PREPARED can be behind. -/
def atEpoch (s : State) (x : Fin 32) (q : Fin 5) (r : Req) (ecc : Ecc) : State :=
  if r.m.epoch0 ≠ some (! epochBit s) then atSlice s x q r ecc
  else if s.txn.sentPrepared ∧ ownAgent s r.m.src = false then
    { s with pair := { s.pair with heldEpoch := s.pair.heldEpoch ++ [⟨x, q, r, 0⟩] } }
  else restoreBank s (atSlice (atBank s r.m.epoch0) x q r ecc)

/-- The common form of the request commands. -/
def homeReq (x : Fin 32) (q : Fin 5) (r : Req) (ecc : Ecc) (s : State) : Host.Outcome State Fault Refusal :=
  .next (onFabric s (receive s (reqCmd x q r) (fun t => atEpoch t x q r ecc)))

/-- RDSHARED. -/
def execRdshared (x : Fin 32) (q : Fin 5) (m : Hdr) (ecc : Ecc) (s : State) : Host.Outcome State Fault Refusal :=
  homeReq x q { kind := .rdShared, m := m } ecc s
/-- RDOWN. -/
def execRdown (x : Fin 32) (q : Fin 5) (m : Hdr) (ecc : Ecc) (s : State) : Host.Outcome State Fault Refusal :=
  homeReq x q { kind := .rdOwn, m := m } ecc s
/-- UPGRADE. -/
def execUpgrade (x : Fin 32) (q : Fin 5) (m : Hdr) (ecc : Ecc) (s : State) : Host.Outcome State Fault Refusal :=
  homeReq x q { kind := .upgrade, m := m } ecc s
/-- RDCUR. -/
def execRdcur (x : Fin 32) (q : Fin 5) (m : Hdr) (ecc : Ecc) (s : State) : Host.Outcome State Fault Refusal :=
  homeReq x q { kind := .rdCur, m := m } ecc s
/-- WRLINE. -/
def execWrline (x : Fin 32) (q : Fin 5) (m : Hdr) (ecc : Ecc) (s : State) : Host.Outcome State Fault Refusal :=
  homeReq x q { kind := .wrLine, m := m } ecc s
/-- WRPART. -/
def execWrpart (x : Fin 32) (q : Fin 5) (m : Hdr) (ecc : Ecc) (s : State) : Host.Outcome State Fault Refusal :=
  homeReq x q { kind := .wrPart, m := m } ecc s
/-- WBDIRTY. -/
def execWbdirty (x : Fin 32) (q : Fin 5) (m : Hdr) (ecc : Ecc) (s : State) : Host.Outcome State Fault Refusal :=
  homeReq x q { kind := .wbDirty, m := m } ecc s
/-- EVICT. -/
def execEvict (x : Fin 32) (q : Fin 5) (m : Hdr) (ecc : Ecc) (s : State) : Host.Outcome State Fault Refusal :=
  homeReq x q { kind := .evict, m := m } ecc s
/-- ATOMICFAR. -/
def execAtomicfar (x : Fin 32) (q : Fin 5) (m : Hdr) (a : AtomicOp) (ecc : Ecc) (s : State) :
    Host.Outcome State Fault Refusal :=
  homeReq x q { kind := .atomicFar, m := m, a := a } ecc s

/-! ### Answers to the home (R106, R109, R126, R143, R145) -/

/-- A late response is counted (R143, R159). -/
def lateResponse (s : State) (x : Nat) : State := count s (R.DIR_LATE_CNT x) 0 .once (sliceFailEv x)
/-- The message belongs to this twin's home. -/
def forThisHome (s : State) (m : Hdr) : Bool := m.htwin == s.dev.pid

/-- A BIAck that the transaction awaits. -/
def takeBiack (s : State) (x t : Nat) (k : Tracker) (m : Hdr) : State :=
  let k1 := { k with bi := k.bi.erase m.src }
  let s1 := if m.dirty then
      setTrk (sendDataGo s x t k.line m.src m.rtag (epochOfTrk k)) x t
        { k1 with datas := k1.datas ++ [⟨m.src, m.rtag, .dirty, false⟩], sawDirty := true }
    else setTrk s x t k1
  if m.wbPending && ! k.takenFrom.contains m.src then
    match getTrk s1 x t with
    | some k2 =>
      match (waitersOf s1 x k.line).find? (fun w => w.req.m.src == m.src && isWrite w.req.kind) with
      | some w => takeWrite (withDir s1 { s1.dir with waits := s1.dir.waits.erase w }) x t k2 w.req
      | none => setTrk s1 x t { k2 with announced := k2.announced ++ [m.src] }
    | none => s1
  else s1

/-- BIACK at the home (R106, R143). A member of a broadcast that holds dirty data, or announces a write, is passed on
by its region as it is (assumption 45). -/
def homeBiack (s : State) (m : Hdr) : State :=
  let x := m.hslice.val
  let t := m.htxn.val
  match getTrk s x t with
  | some k =>
    if k.line = m.laddr ∧ k.phase = .snoop ∧ snoops s x k m.src = true then
      settleSlice (advance (takeBiack s x t k m) x t) x
    else lateResponse s x
  | none => lateResponse s x

/-- BIACKAGG (R116). -/
def execBiackagg (region : Fin 16) (pid : Bool) (m : Hdr) (s : State) : Host.Outcome State Fault Refusal :=
  .next (onFabric s (receive s (.biackagg region pid m) (fun u =>
    if ! forThisHome u m then u
    else
      let x := m.hslice.val
      let t := m.htxn.val
      let n := 16 * pid.toNat + region.val
      match getTrk u x t with
      | some k =>
        if k.line = m.laddr ∧ k.agg.contains n = true then
          settleSlice (advance (setTrk u x t { k with agg := k.agg.erase n }) x t) x
        else lateResponse u x
      | none => lateResponse u x)))

/-- The entry that names exactly the agents that may still hold copies after the snoops answered: those that were not snooped,
those that have not answered, and a requester that a broadcast left out (R137, R145). -/
def remaining (k : Tracker) : Entry :=
  let e := k.before
  let gaveUp (a : Agent) : Bool := k.snooped.contains a && ! k.bi.contains a
  if k.bcast.isSome then
    if k.agg ≠ [] then e
    else
      match k.req with
      | some r => if k.done = .cmpFar then freed e else sharedBy e [r.m.src]
      | none => freed e
  else
    match e.st with
    | .free => freed e
    | .owned => if ! gaveUp e.p0 then e else if k.down then sharedBy e [e.p0] else freed e
    | .shared => if e.ovf then e else sharedBy e ((ptrs e).filter (fun a => ! gaveUp a))
/-- End a transaction without its MemCmp: Err to a writer, or to a reader with no grant (R137, R145). -/
def endFailed (s : State) (x t : Nat) (k : Tracker) (st : BitVec 4) : State :=
  let n := { remaining k with tag := k.next.tag }
  let s1 := match k.req with
    | some r => if k.granted then s else sendErr s x t r st
    | none => s
  let s2 := forAll (k.datas.filter (fun d => d.kind == .taken)) s1 (fun u d =>
    sendErr u x t { kind := .wrLine, m := { src := d.agent, rtag := d.rtag, laddr := k.line } } st)
  -- the change is journaled in order and not awaited (R110)
  let j := if k.way.isSome then journalChange s2 x k.line k.before n else (s2, none)
  closeTrk j.1 x t { k with next := if k.granted then k.next else n, datas := [], bi := [], agg := [], announced := [] }

/-- MEMCMP at the home (R106, R109, R145). -/
def homeMemcmp (s : State) (m : Hdr) : State :=
  let x := m.hslice.val
  let t := m.htxn.val
  match getTrk s x t with
  | some k =>
    match (if k.line = m.laddr then k.datas.find? (fun d => d.rtag == m.rtag) else none) with
    | some d =>
      if m.status ≠ 0 then
        settleSlice (endFailed (raiseEv s (linkEv (m.dport / 4))) x t { k with datas := k.datas.erase d } m.status) x
      else
        let k1 := { k with datas := k.datas.erase d }
        let s1 := if d.kind = .taken then
            send s (.cmp { toAgent s (homeHdr s x t k.line) d.agent with rtag := d.rtag } {})
          else s
        settleSlice (advance (setTrk s1 x t k1) x t) x
    | none => lateResponse s x
  | none => lateResponse s x

/-- ACK at the home: the read transaction closes (R109). -/
def homeAck (s : State) (m : Hdr) : State :=
  let x := m.hslice.val
  let t := m.htxn.val
  match getTrk s x t with
  | some k =>
    if k.line = m.laddr ∧ k.phase = .ack ∧ (k.req.map (·.m.src)) = some m.src then settleSlice (closeTrk s x t k) x
    else lateResponse s x
  | none => lateResponse s x
/-- ACK (R109). -/
def execAck (m : Hdr) (s : State) : Host.Outcome State Fault Refusal :=
  .next (onFabric s (receive s (.ack m) (fun u => if forThisHome u m then homeAck u m else u)))

/-- The atomic unit receives its line (R152, R153). -/
def homeFill (s : State) (m : Hdr) (d : LineData) : State :=
  let x := m.hslice.val
  let t := m.htxn.val
  match getTrk s x t with
  | some k =>
    match k.req with
    | some r =>
      if k.line = m.laddr ∧ k.phase = .fill ∧ m.rtag = r.m.rtag then
        if m.poison ∨ r.m.poison then
          settleSlice (toJournal s x t { k with poison := true, res := ⟨0, false, true⟩ }) x
        else
          let a := atomLine d r.a
          if a.1 = d then settleSlice (toJournal s x t { k with res := a.2 }) x
          else
            setTrk (send s (.wbdata { memHdr s x t k.line r.m.epoch0 with rtag := r.m.rtag } a.1 (atomMask r.a))) x t
              { k with res := a.2, phase := .data, datas := [⟨0x3FF, r.m.rtag, .atom, false⟩] }
      else lateResponse s x
    | none => lateResponse s x
  | none => lateResponse s x

/-! ### Timers (R135 to R139) -/

/-- Agents of a region, pair identity × 16 + region, that a broadcast for set `g` reaches. -/
def regionMembers (b : SMap Word) (n g : Nat) : List Agent :=
  let base := 512 * (n / 16)
  (((List.range 8).map (fun i => base + 8 * (n % 16) + i)).filter (shareMember b g) ++
    (List.range 16).map (fun i => base + 128 + 16 * (n % 16) + i)).map (BitVec.ofNat 10)

/-- Record an expiry: cause and who (DIR_TMO_LAST). -/
def recordExpiry (s : State) (x : Nat) (l : LAddr) (cause who : Nat) : State :=
  wr64 (count s (R.DIR_TMO_CNT x) 0 .every (sliceFailEv x)) (R.DIR_TMO_LAST x)
    (BitVec.ofNat 64 (who * 2 ^ 54 + cause * 2 ^ 44 + l.toNat))
/-- The lowest of a list of numbers. -/
def lowest (l : List Nat) : Nat := l.foldl min (l.headD 0x3FF)

/-- The transaction awaits a message that must cross the twin link (R136). -/
def awaitsTwin (s : State) (k : Tracker) : Bool :=
  (k.bi ++ k.announced ++ k.datas.map (·.agent)).any (fun a => a != 0x3FF && ! ownAgent s a) ||
    k.agg.any (fun n => n / 16 != pidNat s) || (k.phase == .ack && k.req.any (fun r => ! ownAgent s r.m.src))
/-- The home timer of a transaction runs (R136): it holds its way or needs none, it awaits more than the journal, and no message
that it awaits must cross a twin link that is not ACTIVE. -/
def timerRuns (s : State) (k : Tracker) : Bool :=
  (k.phase == .snoop || k.phase == .data || k.phase == .fill || k.phase == .ack) &&
    (twinState s == 2 || ! awaitsTwin s k)
/-- The first applicable row of R137 is recorded with whom it names. -/
def recordAwaited (s : State) (x : Nat) (k : Tracker) : State :=
  if k.bi ≠ [] then recordExpiry s x k.line 1 (lowest (k.bi.map (·.toNat)))
  else if k.agg ≠ [] then recordExpiry s x k.line 2 (lowest k.agg)
  else if k.announced ≠ [] then recordExpiry s x k.line 3 (lowest (k.announced.map (·.toNat)))
  else if k.datas ≠ [] then recordExpiry s x k.line 4 0x3FF
  else if k.phase = .fill then recordExpiry s x k.line 6 0x3FF
  else recordExpiry s x k.line 5 0x3FF
/-- Members whose region has not answered a broadcast, the requester apart (R137). -/
def unanswered (s : State) (k : Tracker) : List Agent :=
  let self := match k.req with
    | some r => if k.done = .cmpFar then 0x3FF else r.m.src
    | none => 0x3FF
  match k.bcast with
  | some g => (k.agg.flatMap (fun n => regionMembers (bankFor s (some k.epoch)) n g)).filter (fun a => a != self)
  | none => []

/-- HOME_TIMEOUT: every applicable action of R137, in its order; the first applicable row is recorded. While the timer stands
still nothing happens (R136). -/
def execHomeTimeout (slice : Fin 32) (txn : Fin 256) (s : State) : Host.Outcome State Fault Refusal :=
  .next (onFabric s
    (let x := slice.val
     let t := txn.val
     match getTrk s x t with
     | none => s
     | some k =>
       if ! timerRuns s k then s
       else
         let declare (u : State) (a : Agent) : State := declareLost u (sliceEp x) a
         let s1 := setTrk (recordAwaited s x k) x t
           { k with expiries := k.expiries + 1, gone := k.gone ++ k.bi ++ k.announced }
         let s2 := forAll k.bi s1 (fun u a => lostAnswer (declare u a) x t a)
         let s3 := forAll (unanswered s k) s2 declare
         let s4 := match getTrk s3 x t with
           | some k1 => setTrk s3 x t { k1 with agg := [] }
           | none => s3
         let s5 := forAll k.announced s4 (fun u a => lostAnswer (declare u a) x t a)
         settleSlice
           (match getTrk s5 x t with
            | none => s5
            | some k1 =>
              if k.datas ≠ [] then endFailed s5 x t k1 2
              else
                match k1.phase with
                | .fill =>
                  closeTrk (match k1.req with
                    | some r => sendErr (if k1.way.isSome then (journalChange s5 x k1.line k1.before k1.next).1 else s5) x t r 2
                    | none => s5) x t k1
                | .ack => closeTrk s5 x t k1
                | _ => advance s5 x t) x))

/-- Every outstanding record of a slice counts as acknowledged, and its transactions go on (R476). -/
def ackAll (s : State) (x : Nat) : State :=
  let j := getJrn s x
  let u := perfHit (setJrn s x { j with acked := j.next, batch := [] }) 0 0x42 0 (j.next - j.acked).toNat 1
  settleSlice (forAll ((trksOf u x).filter (fun e => e.2.phase == .journal)) u (fun v e => advance v x e.1)) x

/-- JOURNAL_STALL: counted; with the twin link active it suspends the journal of the slice pair (R138, R476, R497). -/
def execJournalStall (slice : Fin 32) (txn : Fin 256) (s : State) : Host.Outcome State Fault Refusal :=
  .next (onFabric s
    (let x := slice.val
     match getTrk s x txn with
     | none => s
     | some k =>
       if k.phase ≠ .journal then s
       else
         let t := count s (R.DIR_JSTALL_CNT x) 0 .every (sliceFailEv x)
         if twinState t = 2 then
           let u := count (wrBit t R.TWIN_JRN_STATUS x true) R.TWIN_CNT1 16 .every 13
           ackAll u x
         else t))

/-- JOURNAL_BATCH_TIMEOUT: the open batch is sent (R472). -/
def execJournalBatchTimeout (slice : Fin 32) (s : State) : Host.Outcome State Fault Refusal :=
  .next (onFabric s (sendBatch s slice))

/-- JRNBATCH: the records are applied in order, and the last is acknowledged (R473 to R475). -/
def execJrnbatch (slice : Fin 32) (recs : List JrnRec) (s : State) : Host.Outcome State Fault Refusal :=
  .next (onFabric s (receive s (.jrnbatch slice recs) (fun t =>
    let j := getJrn t slice
    let rs := recs.filter (fun r => r.act != .empty)
    let marked := (List.range rs.length).zip rs |>.map (fun p => (p.2, p.1 + 1 == rs.length))
    settleSlice (setJrn t slice { j with recv := j.recv ++ marked }) slice)))

/-- The reservations of the batches that an acknowledgement covers are released (R287, R288). -/
def releaseJournal (s : State) (x : Nat) (q : BitVec 16) : State :=
  withNoc s { s.noc with resv := s.noc.resv.filter (fun r =>
    match r.what with
    | .journal y n => ! (y == x && decide ((q - n).toNat < 32768))
    | _ => true) }
/-- JRNACK (R473). -/
def execJrnack (slice : Fin 32) (ackJseq : BitVec 16) (s : State) : Host.Outcome State Fault Refusal :=
  .next (onFabric s (receive s (.jrnack slice ackJseq) (fun t =>
    let x := slice.val
    let j := getJrn t x
    let t := releaseJournal t x ackJseq
    if (ackJseq - j.acked).toNat < (j.next - j.acked).toNat then
      let u := perfHit (setJrn t x { j with acked := ackJseq + 1 }) 0 0x42 0 ((ackJseq - j.acked).toNat + 1) 1
      settleSlice (forAll ((trksOf u x).filter (fun e => e.2.phase == .journal)) u (fun v e => advance v x e.1)) x
    else t)))

/-! ### Loss of an agent (R146 to R149) -/

/-- Act on one open transaction that involves a lost agent (R148). -/
def lossInTrk (s : State) (x : Nat) (a : Agent) (t : Nat) : State :=
  let s1 := lostAnswer s x t a
  match getTrk s1 x t with
  | none => s1
  | some k =>
    if (k.req.map (·.m.src)) = some a then
      match k.phase with
      | .ack => closeTrk s1 x t k
      | .parked | .wantPark | .needWay | .evicting =>
        setTrk (withDir s1 { s1.dir with parked := s1.dir.parked.erase (x, t), wantPark := s1.dir.wantPark.erase (x, t) })
          x t { k with phase := .handoff, way := none, next := k.before }
      | .data =>
        -- its data will not come: the transaction ends as R137's MemCmp row ends it
        endFailed s1 x t k 3
      | _ => advance s1 x t
    else advance s1 x t

/-- A slice takes a loss notice: lost set, open transactions, and the scan (R147 to R149). -/
def takeNotice (s : State) (x : Nat) (agent : Agent) : State :=
  let scanning := rdBit s (R.DIR_LOST_STATUS x) 31
  let ls := if isLost s x agent then lostSet s x else lostSet s x ++ [agent]
  let d := { s.dir with
    lost := sPut s.dir.lost x [] ls
    lostLate := if scanning then sPut s.dir.lostLate x [] (sGet s.dir.lostLate x [] ++ [agent]) else s.dir.lostLate
    waits := s.dir.waits.filter (fun w => ! (w.slice == x && w.req.m.src == agent)) }
  let v := wrBit (withDir s d) (R.DIR_LOST_STATUS x) (if scanning then 30 else 31) true
  settleSlice (forAll (trksOf v x) v (fun w e => lossInTrk w x agent e.1)) x
/-- LOSS_NOTICE at a slice. The network carries one notice for a region, to its region services (R285): the notice for the first
slice of the region is that message, and the region services pass it on to the second. A notice for an own agent that comes
from the other twin is its home's declaration, and the agent's region gives the orders (R146). -/
def execLossNotice (slice : Fin 32) (agent : Agent) (s : State) : Host.Outcome State Fault Refusal :=
  .next (onFabric s (receive s (.lossNotice slice agent) (fun u =>
    let x := slice.val
    if x % 2 = 1 then takeNotice u x agent
    else
      let fromTwin := ! s.flight.any (fun g => g.cmd == .lossNotice slice agent)
      let v := if fromTwin ∧ ownAgent u agent = true ∧ agentRegion agent % 16 = x / 2 then orderOut u agent else u
      let w := { v with flight := v.flight ++ [⟨.lossNotice (Fin.ofNat 32 (x + 1)) agent, servicesEp (x / 2), servicesEp (x / 2), .snp,
        false, 0, 0, BitVec.ofNat 16 v.noc.cellTime, 0, false, none⟩] }
      if unitDown w (.slice slice) then w else takeNotice w x agent)))

/-- One entry of a purge scan (R149). -/
def scanEntry (s : State) (x : Nat) (kv : Nat × Entry) : State :=
  let set := kv.1 / 16 % 8192
  let w := kv.1 % 16
  let e := kv.2
  let l := lineAt x set e.tag
  if e.opn ∨ e.shadow then s
  else
    match e.st with
    | .shared =>
      if e.ovf ∨ ! (ptrs e).any (isLost s x) then s
      else
        let n := leaveOut s x [] e
        (journalChange (setEnt s x set w n) x l e n).1
    | .owned =>
      if isLost s x e.p0 then withDir s { s.dir with work := s.dir.work ++ [⟨x, l, .poison, [e.p0]⟩] } else s
    | .free => s

/-- PURGE_SCAN_DONE: the scan's changes, and the end of the agents it covered (R149). -/
def execPurgeScanDone (slice : Fin 32) (s : State) : Host.Outcome State Fault Refusal :=
  .next (onFabric s
    (let x := slice.val
     if ! rdBit s (R.DIR_LOST_STATUS x) 31 then s
     else
       let t := forAll (s.dir.ways.filter (fun e => e.1 / 131072 == x)) s (fun u e => scanEntry u x e)
       let late := sGet t.dir.lostLate x []
       let u := withDir t { t.dir with lost := sPut t.dir.lost x [] late, lostLate := sPut t.dir.lostLate x [] [] }
       settleSlice (wrBit (wrBit u (R.DIR_LOST_STATUS x) 30 false) (R.DIR_LOST_STATUS x) 31 (! late.isEmpty)) x))

/-- DIR_PURGE: AGENT is written, and GO gives the agent up for lost (R146). -/
def execDirPurge (slice : Fin 32) (val : Word) (s : State) : Host.Outcome State Fault Refusal :=
  .next (onFabric s
    (let t := wr s (R.DIR_PURGE slice) 9 0 (fld val 9 0)
     if bitAt val 31 ∧ fld val 9 0 % 512 < 384 then noticeLoss t (sliceEp slice) (BitVec.ofNat 10 (fld val 9 0)) else t))

/-- DECAY_WALK: every non-zero score falls by one; M stays (R157). -/
def execDecayWalk (slice : Fin 32) (s : State) : Host.Outcome State Fault Refusal :=
  .next (onFabric s
    (let x := slice.val
     if rd s (R.DIR_ATOM_CFG x) 23 16 = 0 then s
     else
       let down (v : Nat) : Nat := if v % 16 = 0 then v else v - 1
       let l := (s.dir.pred.map (fun e => if e.1 / 4096 = x then (e.1, down e.2) else e)).filter (fun e => e.2 != 0)
       withDir s { s.dir with pred := l, decayZero := sPut s.dir.decayZero x 0 (now s) }))

/-- DIR_ATOM_CFG_WRITE: the write restarts the decay timer (R157). -/
def execDirAtomCfgWrite (slice : Fin 32) (val : Word) (s : State) : Host.Outcome State Fault Refusal :=
  .next (onFabric s
    (let o := R.DIR_ATOM_CFG slice
     let t := setReg s o (writeBits o (getReg s o) val)
     withDir t { t.dir with decayZero := sPut t.dir.decayZero slice 0 (now t) }))

/-- DIR_DRAIN: DRAIN is set or cleared, and waiting requests go on when it clears. -/
def execDirDrain (slice : Fin 32) (on : Bool) (s : State) : Host.Outcome State Fault Refusal :=
  .next (onFabric s (settleSlice (wrBit s (R.DIR_CTRL slice) 0 on) slice))

/-- DIR_PEEK: the entry is captured (DIR_PEEK_SEL, DIR_PEEK_DATA). -/
def execDirPeek (slice : Fin 32) (set : Fin 8192) (way : Fin 16) (s : State) : Host.Outcome State Fault Refusal :=
  .next (onFabric s
    (let e := getEnt s slice set way
     let st := match e.st with
       | .free => 0
       | .shared => 1
       | .owned => 2
     let v := e.opn.toNat * 2 ^ 63 + st * 2 ^ 61 + e.ovf.toNat * 2 ^ 60 + e.shadow.toNat * 2 ^ 59 + e.p2.toNat * 2 ^ 46 +
       e.p1.toNat * 2 ^ 36 + e.p0.toNat * 2 ^ 26 + e.tag.toNat
     let o := R.DIR_PEEK_SEL slice
     wr64 (wrBit (wr (wr s o 16 13 way) o 12 0 set) o 30 true) (R.DIR_PEEK_DATA slice) (BitVec.ofNat 64 v)))

/-! ### Broadcasts in a region (R116, R150) -/

/-- Give a region's aggregate back when no member is left. -/
def settleAgg (s : State) (g : Agg) : State :=
  if g.left.isEmpty then
    send (withDir s { s.dir with aggs := s.dir.aggs.filter (fun h => ! (h.region == g.region && h.m == g.m)) })
      (.biackagg (Fin.ofNat 16 g.region) s.dev.pid { g.m with src := 0x3FF, tgt := 0x3FF, bcast := false, fwd := false })
  else
    withDir s { s.dir with aggs := s.dir.aggs.map (fun h => if h.region = g.region ∧ h.m = g.m then g else h) }

/-- BROADCAST_AGG_TIMEOUT: the members that have not answered are lost (R150). -/
def execBroadcastAggTimeout (region : Fin 16) (m : Hdr) (s : State) : Host.Outcome State Fault Refusal :=
  .next (onFabric s
    (match s.dir.aggs.find? (fun g => g.region == region.val && g.m == m) with
     | some g => settleAgg (forAll g.left s (fun u a => declareLost u (servicesEp region) a)) { g with left := [] }
     | none => s))

end Sys2Proof.Machine
end

