-- ==== Sys2Proof/Machine/Reach.lean ====
section
/-! DEFINITION. The checks that a pool access meets where it enters the device: steps 1 to 4 of R54, with the
protection unit of its entry and the colour of its granule (R77 to R82, R321 to R331, R579). -/

namespace Sys2Proof.Machine

/-- Steps 1 and 3 of R54: the address is below 64 TiB and its segment is valid and no carve-out. -/
def segUsable (b : SMap Word) (a : Nat) : Bool :=
  decide (a < 2 ^ 46) && segValid b (segOf a) && segMode b (segOf a) != 3
/-- Steps 1 to 3 for an access of port `p`, by its binding (R54, R412). -/
def portReach (b : SMap Word) (p a : Nat) : Bool := segUsable b a && mayUse b p (segOf a)
/-- An access refused under step 2 or 3 is counted (R54, R85). -/
def countUnbound (s : State) : State := count s R.SEG_UNBOUND_CNT 0 .every 6
/-- The access goes to a home (step 6 of R54). -/
def homed (s : State) (a : Nat) : Bool := segMode (bankNow s) (segOf a) == 1

/-- What the colour of a granule says: the access may go on, it is refused with a cause of R337, or the carve-out line
must be read. -/
inductive ColourSays where
  | pass | deny (cause : Nat) | need (line : LAddr)
deriving DecidableEq, Repr

/-- The colour check of an access to address `a` with key `k` in region `n` (R81, R329, R579). -/
def colourCheck (s : State) (n a k : Nat) : ColourSays :=
  match carveSeg (bankNow s) (segOf a) with
  | none => .deny 4
  | some c =>
    let y := colourByte c a
    match tagLook s n (addrLine y) with
    | none => .need (addrLine y)
    | some d => if admits (colourIn d y a) k then .pass else .deny 3
/-- The line of a colour check becomes the most recently used (R80). -/
def colourTouch (s : State) (n a : Nat) : State :=
  match carveSeg (bankNow s) (segOf a) with
  | some c => tagTouch s n (addrLine (colourByte c a))
  | none => s

/-- A region reads a carve-out line, and holds the access until it arrives (R81). -/
def tagNeed (s : State) (n : Nat) (l : LAddr) (u : TagUser) : State :=
  if s.pool.tagWaits.any (fun w => w.region == Fin.ofNat 16 n && w.line == l) then
    { s with pool := { s.pool with tagWaits := s.pool.tagWaits.map (fun w =>
      if w.region = Fin.ofNat 16 n ∧ w.line = l ∧ ¬ u ∈ w.held then { w with held := w.held ++ [u] } else w) } }
  else
    dpRead { (perfHit s n 0x11 0 1 1) with pool := { s.pool with tagWaits := s.pool.tagWaits ++ [⟨Fin.ofNat 16 n, l, false, false, [u]⟩] } }
      (portFor s n (lineAddr l)) l 0x3FF none (.tag (Fin.ofNat 16 n) l)

/-- A protection unit with its recording and its event: its window, its entries, its region, its event. -/
structure Unit10 where
  window : Nat
  entries : Nat
  region : Nat
  event : Nat
deriving DecidableEq, Repr

/-- The port protection unit of port `p`, and the guard of coach house `n`. -/
def ppuOf (p : Nat) : Unit10 := ⟨ppuWindow p, 16, portRegion p, ppuEv (p / 4)⟩
def guardOf (n : Nat) : Unit10 := ⟨guardWindow n, 64, n, regionEv n 17⟩

/-- The outcome of step 4: the access goes on, waits for a carve-out line, or is refused with its record made, `tag` telling
a tag error. -/
inductive Verdict where
  | pass (s : State)
  | need (line : LAddr)
  | refuse (s : State) (tag : Bool)
deriving DecidableEq, Repr

/-- Step 4 of R54: protection unit, then colour; `key` none where kind T is not colour-checked; `err`: the carve-out line
could not be read (R82, R323, R325, R330, R331). -/
def protect (s : State) (u : Unit10) (x : Access) (key : Option Nat) (err : Bool) : Verdict :=
  match checkUnit s u.window u.entries x false with
  | some d => .refuse (recordFirst s u.window x d 0 u.event) false
  | none =>
    match key with
    | none => .pass s
    | some k =>
      match (if err then .deny 4 else colourCheck s u.region x.first k) with
      | .pass => .pass (colourTouch s u.region x.first)
      | .need l => .need l
      | .deny c =>
        let t := if c = 4 then count s R.SEG_TAG_ERR_CNT 0 .every 7 else s
        let d : Denied := ⟨c, (byteAllowed s u.window u.entries x false x.first).2, x.first / 4096 * 4096⟩
        .refuse (recordFirst t u.window x d 0 u.event) (decide (c = 4))

end Sys2Proof.Machine
end

