-- ==== Sys2Proof/Machine/HostPort.lean ====
section
/-! DEFINITION. Host port cells: CXL.mem requests of a host (R102 to R105, R252, R374, R425, R580), and the lines of the
peer-window TLPs that a port's functions have started (R413, R414). -/

namespace Sys2Proof.Machine

def withHp (s : State) (h : HostPorts) : State := { s with hp := h }

/-- The port carries CXL.mem of a host: host role, link active, CXL.mem enabled, not fenced or in reset. -/
def hostUp (s : State) (p : Nat) : Bool :=
  portRole s p == 1 && linkActive s p && rdBit s (linkReg (.port (Fin.ofNat 128 p)) 0) 19 &&
    ! unitDown s (.cell (Fin.ofNat 128 p))
/-- Back-invalidation is enabled on the port (R374). -/
def biOn (s : State) (p : Nat) : Bool := linkActive s p && rdBit s (linkReg (.port (Fin.ofNat 128 p)) 0) 18

/-- A read is answered with poison and Cmp; every other request with Cmp (R333, R374, R425). -/
def isRead (k : ReqKind) : Bool := k == .rdShared || k == .rdOwn || k == .rdCur
def s2m (s : State) (p : Nat) (tag : BitVec 16) (m : S2M) : State := emit s (.s2m p tag m)
def answerFailed (s : State) (p : Nat) (tag : BitVec 16) (k : ReqKind) : State :=
  if isRead k then s2m (s2m s p tag (.memData 0 true)) p tag .cmp else s2m s p tag .cmp

/-! ### Requests of the cell -/

/-- Request tags of a host port: 64 for each cell (R140). -/
def hostTags (s : State) (p : Nat) : Nat := 64 * portCells s p
def reqsOf (s : State) (p : Nat) : List HostReq := s.hp.reqs.filter (fun r => r.port == p)
/-- The lowest free request tag. -/
def freeHostTag (s : State) (p : Nat) : Option (BitVec 10) :=
  ((List.range (hostTags s p)).find? (fun t => ! (reqsOf s p).any (fun r => r.rtag.toNat == t))).map (BitVec.ofNat 10)
def addReq (s : State) (r : HostReq) : State := withHp s { s.hp with reqs := s.hp.reqs ++ [r] }
def putReq (s : State) (r : HostReq) : State :=
  withHp s { s.hp with reqs := s.hp.reqs.map (fun q => if q.port = r.port ∧ q.rtag = r.rtag ∧ q.captured = r.captured then r else q) }
def delReq (s : State) (r : HostReq) : State :=
  withHp s { s.hp with reqs := s.hp.reqs.filter (fun q => ! (q.port == r.port && q.rtag == r.rtag && q.captured == r.captured)) }
/-- The request that an answer names. -/
def reqAt (s : State) (p : Nat) (t : BitVec 10) (l : LAddr) : Option HostReq :=
  s.hp.reqs.find? (fun r => r.port == p && r.rtag == t && r.line == l && ! r.captured)
/-- Free the cell in which a write's data stands. -/
def freeHeld (s : State) (r : HostReq) : State :=
  match r.cell with
  | some sh => freeCellsOf s (portRegion r.port) (portIdx r.port) r.cls 1 sh
  | none => s

/-- The message by which a request resolved under epoch `e` leaves: source, tag and line (R55, R88, R101). -/
def hostMsg (s : State) (p : Nat) (t : BitVec 10) (l : LAddr) (e : Bool) : Hdr :=
  { src := agentId s p, rtag := t, laddr := l, epoch0 := some e }
/-- Start a request: to the home of its line, or to its device port cell. A direct write's data leaves at once (R102,
R413, R580). -/
def startHost (s : State) (r : HostReq) (a : AtomicOp) (e : Bool) : State :=
  let m := hostMsg s r.port r.rtag r.line e
  if ! r.direct then sendReq (addReq s r) { kind := r.kind, m := m, a := a }
  else
    let p := portIn s (bankFor s (some e)) (portRegion r.port) (lineAddr r.line)
    let h := { m with tgt := m.src, dport := Fin.ofNat 128 p }
    match r.data with
    | some (d, k, poison) =>
      enqueueData (addReq s { r with data := none, cell := none }) (portRegion r.port) (portIdx r.port) r.cls
        (.port h.dport) (r.cell.getD false) (.line { h with src := 0x3FF, poison := poison } d k)
    | none =>
      if r.kind = .atomicFar then dpArrive (addReq s r) ⟨p, r.line, some (.atom h a), none, m.src, m.epoch0, none⟩
      else send (addReq s r) (.memrd { h with dest := BitVec.ofNat 8 r.port })

/-! ### Requests of the host (R54, R102, R580) -/

/-- A request of a host as the cell takes it. -/
structure HostCmd where
  port : Nat
  kind : ReqKind
  addr : Nat
  tag : BitVec 16
  data : Option (LineData × BitVec 64 × Bool)
deriving DecidableEq, Repr

/-- The internal message of R102; none where the cell answers or ignores the request itself. -/
def hostCmd (c : Instr) : Option HostCmd :=
  match c with
  | .m2sMemrd p mv a t => some ⟨p, (match mv with
      | .S => .rdShared
      | .A => .rdOwn
      | .I => .rdCur), a.toNat, t, none⟩
  | .m2sMemrddata p a t => some ⟨p, .rdShared, a.toNat, t, none⟩
  | .m2sMeminv p _ .A a t => some ⟨p, .upgrade, a.toNat, t, none⟩
  | .m2sMemclnevct p a t => some ⟨p, .evict, a.toNat, t, none⟩
  | .m2sMemwr p a t d x => some ⟨p, .wrLine, a.toNat, t, some (d, fullMask, x)⟩
  | .m2sMemwrptl p a t d k x => some ⟨p, .wrPart, a.toNat, t, some (d, k, x)⟩
  | _ => none

/-- The data of a write leaves its cell: refused or ended. -/
def dropData (s : State) (c : HostCmd) (cls : Nat) : State :=
  if c.data.isSome then freeCellsOf s (portRegion c.port) (portIdx c.port) cls 1 false else s
/-- Refuse a request under step 2 or 3 of R54. -/
def refuseUnbound (s : State) (c : HostCmd) (cls : Nat) : State :=
  answerFailed (dropData (countUnbound s) c cls) c.port c.tag c.kind

/-- A snoop of the line has been given to the host and its BIRsp has not come (R104). -/
def snoopOpen (s : State) (p : Nat) (l : LAddr) : Bool := s.hp.snps.any (fun q => q.port == p && q.m.laddr == l)

/-- A tag for data that a snoop takes: the lowest free one; with none free, one that names another line. -/
def captureTag (s : State) (p : Nat) (l : LAddr) : BitVec 10 :=
  match freeHostTag s p with
  | some t => t
  | none => (((reqsOf s p).find? (fun r => r.line != l)).map (·.rtag)).getD 0

/-- Step 4 of R54 for a request, under the epoch of its step 1. -/
def hostVerdict (s : State) (h : HostCmd) (e err : Bool) : Verdict :=
  let u := ppuOf h.port
  let t := atBank s (some e)
  match reqKinds h.kind with
  | none => .pass s
  | some k =>
    match protect t u ⟨0, k, 0, (agentId s h.port).toNat, h.addr / 64 * 64, 64⟩
        (some (fld (liveWord t (u.window + 0xC00)) 3 0)) err with
    | .pass v => .pass (restoreBank s v)
    | .need l => .need l
    | .refuse v tag => .refuse (restoreBank s v) tag
/-- The write is kept for DataGo and its checks are under way (R104). -/
def keptWrite (s : State) (h : HostCmd) : Option HostReq :=
  s.hp.reqs.find? (fun r => r.port == h.port && r.captured && ! r.checked && r.hostTag == h.tag && r.line == addrLine h.addr)
/-- A write that is kept for DataGo is refused: its data is discarded, and the DataGo sends poison (R54, R104, R113). -/
def refuseKept (s : State) (r : HostReq) : State :=
  answerFailed (putReq (freeHeld s r) { r with checked := true, data := none, cell := none, ended := true }) r.port r.hostTag r.kind

/-- A writeback of a host whose forced release is being swept: the data of a line that it held (R76). -/
def lateWrite (s : State) (b : SMap Word) (h : HostCmd) : Bool :=
  h.data.isSome && segUsable b h.addr && s.pool.sweeps.contains (Fin.ofNat 128 h.port, segOf h.addr)
/-- Run a request of a host whose data, if any, stands in its cell: steps 1 to 6 of R54 under epoch `e`; `err`: its carve-out
line could not be read. -/
def hostRun (s : State) (c : Instr) (e err : Bool) : State :=
  match hostCmd c with
  | none => s
  | some h =>
    let p := h.port
    let b := bankFor s (some e)
    let l := addrLine h.addr
    let atHome := segMode b (segOf h.addr) == 1
    if ! portReach b p h.addr && ! lateWrite s b h then refuseUnbound s h (homedIn b)
    else if atHome && ! biOn s p then
      raiseEv (refuseUnbound s h (homedIn b)) (linkEv (p / 4))
    else
      match hostVerdict s h e err with
      | .need t => tagNeed s (portRegion p) t (.host c e)
      | .refuse t tag =>
        let u := if tag then logUncorrectable t p 0 22 else t
        match keptWrite s h with
        | some r => refuseKept u r
        | none => answerFailed (dropData u h (homedIn b)) p h.tag h.kind
      | .pass t =>
        let r : HostReq := {
          port := p, rtag := 0, hostTag := h.tag, job := none, kind := h.kind, line := l, direct := ! atHome
          data := h.data, cell := h.data.map (fun _ => false), cls := homedIn b, captured := false, checked := true, ended := false
          grant := none, got := none }
        match keptWrite s h with
        | some q => putReq t { q with checked := true }
        | none =>
          if ! atHome && h.kind == .upgrade then s2m t p h.tag .cmpE
          else if ! atHome && h.kind == .evict then s2m t p h.tag .cmp
          else if h.data.isSome && atHome && snoopOpen t p l then
            addReq t { r with rtag := captureTag t p l, captured := true }
          else
            match freeHostTag t p with
            | some g => startHost t { r with rtag := g } ⟨0, false, 0, 0, 0⟩ e
            | none => withHp t { t.hp with waiting := t.hp.waiting ++ [⟨c, e⟩] }

/-- Requests that wait for a tag of port `p` try again, in order. -/
def pumpHost (s : State) (p : Nat) : State :=
  let mine (w : HostWait) : Bool := (hostCmd w.cmd).elim false (fun h => h.port == p)
  let l := s.hp.waiting.filter mine
  forAll l (withHp s { s.hp with waiting := s.hp.waiting.filter (fun w => ! mine w) }) (fun t w => hostRun t w.cmd w.epoch false)

/-- A grant of line `l` is held until its data comes: what the home issued later for the line waits (R103). -/
def holdsGrant (s : State) (p : Nat) (l : LAddr) : Bool :=
  s.hp.reqs.any (fun r => r.port == p && r.line == l && ! r.ended && r.job.isNone && r.grant.isSome)
/-- The lowest BISnp tag of a port that is not in use. -/
def freeSnpTag (s : State) (p : Nat) : BitVec 16 :=
  let l := (s.hp.snps.filter (fun q => q.port == p)).map (fun q => q.tag.toNat)
  BitVec.ofNat 16 (((List.range (l.length + 1)).find? (fun t => ! l.contains t)).getD 0)
/-- Give the host a BISnp. -/
def sendSnp (s : State) (q : HostSnp) : State :=
  let t := freeSnpTag s q.port
  s2m (withHp s { s.hp with snps := s.hp.snps ++ [{ q with tag := t }] }) q.port t
    (if q.down then .biSnpData q.m.laddr else .biSnpInv q.m.laddr)
/-- Snoops of port `p` that no earlier grant holds back any more go to the host, in order (R103). -/
def flushSnps (s : State) (p : Nat) : State :=
  let ready (q : HostSnp) : Bool := q.port == p && ! holdsGrant s p q.m.laddr
  forAll (s.hp.snpWait.filter ready) (withHp s { s.hp with snpWait := s.hp.snpWait.filter (fun q => ! ready q) }) sendSnp

/-- A BIConflict is answered once no completion for its line is held (R103). -/
def flushConfs (s : State) (p : Nat) : State :=
  let ready (f : HostConf) : Bool :=
    ! s.hp.reqs.any (fun r => r.port == p && r.line == f.line && ! r.ended && r.job.isNone && (r.grant.isSome || r.got.isSome))
  let l := s.hp.confs.filter (fun f => f.port == p && ready f)
  forAll l (withHp s { s.hp with confs := s.hp.confs.filter (fun f => ! (f.port == p && ready f)) })
    (fun t f => s2m t p f.tag .biConflictAck)

/-- A request is over: its tag and reservation are free, and what waited for them goes on. -/
def finishReq (s : State) (r : HostReq) : State :=
  flushConfs (flushSnps (pumpHost (unreserveReq (delReq s r) (agentId s r.port) r.rtag) r.port) r.port) r.port

/-! ### Lines of peer-window TLPs (R413, R414) -/

/-- What a line of a TLP ended with. -/
inductive LineEnd where
  | done | data (d : LineData) (poison : Bool) | old (v : BitVec 64) (poison : Bool) | failed
deriving DecidableEq, Repr
def putJob (s : State) (j : PeerJob) : State :=
  withHp s { s.hp with jobs := s.hp.jobs.map (fun q => if q.id = j.id then j else q) }
def jobAt (s : State) (id : Nat) : Option PeerJob := s.hp.jobs.find? (fun j => j.id == id)
/-- A line of TLP `id` has ended. -/
def jobLine (s : State) (id : Nat) (l : LAddr) (e : LineEnd) : State :=
  match jobAt s id with
  | none => s
  | some j =>
    let j1 := { j with running := j.running.erase l }
    let j2 := match e with
      | .done => j1
      | .data d x => { j1 with got := sIns j1.got l.toNat d, poison := j1.poison || x }
      | .old v x => { j1 with old := v, poison := j1.poison || x }
      | .failed => { j1 with status := .abort }
    putJob s (if j2.running.isEmpty && j2.todo.isEmpty then { j2 with stage := .done } else j2)

/-! ### Answers (R103, R109, R141, R425) -/

/-- Ack to the home of a grant (R103, R109). -/
def sendAck (s : State) (g : Hdr) (a : Agent) : State :=
  let t := send s (.ack { src := a, htwin := g.htwin, hslice := g.hslice, htxn := g.htxn, laddr := g.laddr, fwd := g.fwd })
  if g.htwin = s.dev.pid then t else dropFwd t a g.rtag
/-- One late answer at a host port cell (R141, R426). -/
def lateHost (s : State) (p : Nat) : State :=
  count s (linkReg (.port (Fin.ofNat 128 p)) 0x24) 0 .once (linkEv (p / 4))
/-- CXL_TMO and its error (R425, R426, R428). -/
def countCxlTmo (s : State) (p : Nat) : State :=
  logUncorrectable (count s (linkReg (.port (Fin.ofNat 128 p)) 0x20) 16 .every (linkEv (p / 4))) p 0 22
/-- End a request towards its client with an error (R414, R425). -/
def endClient (s : State) (r : HostReq) : State :=
  let t := freeHeld s r
  match r.job with
  | some id => jobLine t id r.line .failed
  | none => countCxlTmo (answerFailed t r.port r.hostTag r.kind) r.port

/-- A read has both what it waits for: the host gets NDR and data, a TLP its line, the home its Ack. -/
def settleRead (s : State) (r : HostReq) : State :=
  let nodata := r.grant.elim false (fun g => g.1.nodata)
  match r.grant with
  | some (g, ndr) =>
    if ! nodata && r.got.isNone then putReq s r
    else
      let d := r.got.getD (0, false)
      let poison := d.2 || g.poison || g.status != 0
      let t :=
        if r.ended then s
        else
          match r.job with
          | some id => jobLine s id r.line (.data d.1 poison)
          | none =>
            let u := s2m s r.port r.hostTag (if ndr = 1 then .cmpS else if ndr = 2 then .cmpE else .cmp)
            if isRead r.kind then s2m u r.port r.hostTag (.memData d.1 poison) else u
      finishReq (sendAck t g (agentId s r.port)) r
  | none => putReq s r

/-- A grant or a Cmp reaches port `p`: NDR 0 Cmp, 1 Cmp-S, 2 Cmp-E; `res` a far atomic's result. -/
def hostGrant (s : State) (p : Nat) (m : Hdr) (ndr : Nat) (res : AtomicRes) : State :=
  match reqAt s p m.rtag m.laddr with
  | none => lateHost s p
  | some r =>
    let t := if r.ended then lateHost s p else s
    if isRead r.kind || r.kind == .upgrade then settleRead t { r with grant := some (m, ndr) }
    else
      let u :=
        if r.ended then t
        else
          match r.job with
          | some id =>
            jobLine (freeHeld t r) id r.line
              (if r.kind = .atomicFar then .old res.old (m.poison || m.status != 0) else .done)
          | none => s2m (freeHeld t r) p r.hostTag .cmp
      finishReq u r
/-- Err reaches port `p` (R425): no grant follows. -/
def hostErr (s : State) (p : Nat) (m : Hdr) : State :=
  match reqAt s p m.rtag m.laddr with
  | none => lateHost s p
  | some r => finishReq (if r.ended then lateHost s p else endClient s r) r
/-- Read data reaches port `p` through the crossbar. -/
def hostData (s : State) (p : Nat) (m : Hdr) (d : LineData) : State :=
  match reqAt s p m.rtag m.laddr with
  | none => lateHost s p
  | some r =>
    let t := if r.ended then lateHost s p else s
    if r.direct then
      if r.ended then finishReq t r
      else if m.status = 3 then finishReq (endClient t r) r
      else
        finishReq
          (match r.job with
           | some id => jobLine t id r.line (.data d m.poison)
           | none => s2m (s2m t p r.hostTag .cmp) p r.hostTag (.memData d m.poison)) r
    else settleRead t { r with got := some (d, m.poison) }
/-- MemCmp, or the answer of an atomic of R60, ends a direct access. -/
def hostDirect (s : State) (p : Nat) (m : Hdr) (e : LineEnd) : State :=
  match reqAt s p m.rtag m.laddr with
  | none => lateHost s p
  | some r =>
    if r.ended then finishReq (lateHost s p) r
    else if m.status = 3 then finishReq (endClient s r) r
    else
      finishReq
        (match r.job with
         | some id => jobLine s id r.line e
         | none => s2m s p r.hostTag .cmp) r

/-- The line's own device port of this twin, for data that a DataGo of the other twin asks for (R121). -/
def goPort (s : State) (n : Nat) (m : Hdr) : Fin 128 :=
  if m.htwin = s.dev.pid then m.dport else Fin.ofNat 128 (portFor s n (lineAddr m.laddr))
/-- Header under which line data goes to its device port. -/
def dataHdr (s : State) (n : Nat) (m : Hdr) (poison : Bool) : Hdr :=
  { m with src := 0x3FF, tgt := 0x3FF, dport := goPort s n m, poison := poison, fwd := false, nodata := false }
/-- A DataGo waits at its interface for what it needs. -/
def datagoWaits (s : State) (m : Hdr) : State :=
  { s with flight := s.flight ++ [⟨.datago m, fromHome s m, agentEp s m.tgt, .rsp, false, 1, 0, BitVec.ofNat 16 s.noc.cellTime, 0,
    false, none⟩] }
/-- Send a line of poison in place of data that is gone (R113): it takes a cell; with none free the DataGo waits at the
interface. -/
def poisonGo (s : State) (p : Nat) (m : Hdr) : State :=
  let h := dataHdr s (portRegion p) m true
  match reserveCell s p (some (.port h.dport)) with
  | some r => enqueueData r.1 (portRegion p) (portIdx p) (homedClass s) (.port h.dport) r.2 (.line h 0 fullMask)
  | none => datagoWaits s m
/-- Writes kept for a snoop's DataGo, one after the other in one line. -/
def mergeHeld (l : List HostReq) : LineData × BitVec 64 × Bool :=
  l.foldl (fun acc r =>
    match r.data with
    | some (d, k, x) => (mergeLine acc.1 d k, acc.2.1 ||| k, acc.2.2 || x)
    | none => acc) (0, 0, false)
/-- DATAGO at port `p` (R104, R106, R113). -/
def hostDatago (s : State) (p : Nat) (m : Hdr) : State :=
  let n := portRegion p
  let forward (t : State) (r : HostReq) (d : LineData) (k : BitVec 64) (x : Bool) : State :=
    let h := dataHdr t n m x
    enqueueData t n (portIdx p) r.cls (.port h.dport) (r.cell.getD false) (.line h d k)
  match reqAt s p m.rtag m.laddr with
  | some r =>
    match r.data with
    | some (d, k, x) => forward (putReq s { r with data := none, cell := none }) r d k x
    | none => poisonGo s p m
  | none =>
    let l := s.hp.reqs.filter (fun r => r.port == p && r.captured && r.line == m.laddr)
    if l.any (fun r => ! r.checked) then datagoWaits s m
    else
    match l.filter (·.data.isSome) with
    | [] => pumpHost (poisonGo (withHp s { s.hp with
        reqs := s.hp.reqs.filter (fun q => ! (q.port == p && q.captured && q.line == m.laddr)) }) p m) p
    | r :: rest =>
      let v := mergeHeld l
      -- one cell leaves with the data; those of writes merged into it are free
      let t := forAll rest s freeHeld
      let u := forward (withHp t { t.hp with reqs := t.hp.reqs.filter (fun q => ! (q.port == p && q.captured && q.line == m.laddr)) })
        r v.1 v.2.1 v.2.2
      pumpHost (forAll l u (fun w q => if q.ended then w else s2m w p q.hostTag .cmp)) p

/-! ### Snoops (R102 to R105, R374) -/

/-- An agent's BIAck to the home of snoop `m`. -/
def biackOf (s : State) (m : Hdr) (a : Agent) (dirty wb : Bool) (t : BitVec 10) : Instr :=
  .biack { src := a, htwin := m.htwin, hslice := m.hslice, htxn := m.htxn, rtag := t, laddr := m.laddr, dirty := dirty
           wbPending := wb, fwd := m.htwin != s.dev.pid }
/-- A member answers its region in a broadcast: the region keeps the rest; dirty data or an announced write goes on to the
home as it is (R116, assumption 45). -/
def aggAnswer (s : State) (n : Nat) (m : Hdr) (a : Agent) (dirty wb : Bool) (t : BitVec 10) : State :=
  let u := if dirty || wb then send s (biackOf s m a dirty wb t) else s
  match u.dir.aggs.find? (fun g => g.region == n && g.m == m) with
  | some g => settleAgg u { g with left := g.left.erase a }
  | none => u
/-- Answer a snoop: to the home, or to the region for a broadcast. -/
def answerSnoop (s : State) (n : Nat) (m : Hdr) (agg : Bool) (a : Agent) (dirty wb : Bool) (t : BitVec 10) : State :=
  if agg then aggAnswer s n m a dirty wb t else send s (biackOf s m a dirty wb t)

/-- A snoop for port `p`: the host gets a BISnp, once an earlier grant of the line has gone to it, or the cell answers for an agent
that can hold no copy (R102, R103). -/
def hostSnoop (s : State) (p : Nat) (m : Hdr) (down agg : Bool) : State :=
  if ! hostUp s p || ! biOn s p then answerSnoop s (portRegion p) m agg (agentId s p) false false 0
  else
    let q : HostSnp := ⟨p, 0, m, agg, down⟩
    if holdsGrant s p m.laddr || s.hp.snpWait.any (fun w => w.port == p && w.m.laddr == m.laddr) then
      withHp s { s.hp with snpWait := s.hp.snpWait ++ [q] }
    else sendSnp s q

/-- Writes of the line that the cell has not forwarded, with their epochs: they wait for their carve-out line or for a tag. -/
def unsentWrites (s : State) (p : Nat) (l : LAddr) : List (Instr × Bool) :=
  (s.pool.tagWaits.flatMap (fun w => w.held.filterMap (fun u =>
    match u with
    | .host c e => some (c, e)
    | _ => none)) ++ s.hp.waiting.map (fun w => (w.cmd, w.epoch))).filter (fun c =>
      (hostCmd c.1).elim false (fun h => h.port == p && addrLine h.addr == l && h.data.isSome))
/-- Keep a write that is not yet forwarded for the DataGo; what waits for a tag has passed its checks. -/
def keepWrite (s : State) (x : Instr × Bool) : State :=
  let c := x.1
  match hostCmd c with
  | none => s
  | some h =>
    let l := addrLine h.addr
    let waits := s.hp.waiting.any (fun w => w.cmd == c)
    let r : HostReq := {
      port := h.port, rtag := captureTag s h.port l, hostTag := h.tag, job := none, kind := h.kind, line := l, direct := false
      data := h.data, cell := h.data.map (fun _ => false), cls := homedIn (bankFor s (some x.2)), captured := true, checked := waits, ended := false, grant := none
      got := none }
    addReq (withHp s { s.hp with waiting := s.hp.waiting.filter (fun w => w.cmd != c) }) r
/-- M2S_BIRSP: BIAck, with what the host's writes say (R104, R105): those that the cell has not forwarded are dirty data that it
keeps for DataGo. BIRspI or BIRspS makes no difference to the home. -/
def execM2sBirsp (port : Fin 128) (_toShared : Bool) (tag : BitVec 16) (s : State) : Host.Outcome State Fault Refusal :=
  .next (onFabric s
    (if ! hostUp s port then s
     else
       match s.hp.snps.find? (fun q => q.port == port.val && q.tag == tag) with
       | none => s
       | some q =>
         let t := forAll (unsentWrites s port q.m.laddr) (withHp s { s.hp with snps := s.hp.snps.erase q }) keepWrite
         let l := t.hp.reqs.filter (fun r => r.port == port.val && r.line == q.m.laddr && isWrite r.kind && r.job.isNone)
         let kept := l.filter (·.captured)
         answerSnoop t (portRegion port) q.m q.agg (agentId s port) (! kept.isEmpty) (l.any (fun r => ! r.captured))
           ((kept.map (·.rtag)).headD 0)))

/-- M2S_BICONFLICT (R103). -/
def execM2sBiconflict (port : Fin 128) (addr : BitVec 64) (tag : BitVec 16) (s : State) :
    Host.Outcome State Fault Refusal :=
  .next (onFabric s
    (if hostUp s port then
       flushConfs (withHp s { s.hp with confs := s.hp.confs ++ [⟨port, tag, addrLine addr.toNat⟩] }) port
     else s))

/-! ### Commands of the host -/

/-- A request without data. -/
def hostReq (s : State) (p : Nat) (c : Instr) : State := onFabric s (if hostUp s p then hostRun s c (epochBit s) false else s)
/-- A write: its data takes one cell of the link credits that brought it (R252). -/
def hostWrite (s : State) (p : Nat) (c : Instr) : State :=
  onFabric s
    (if hostUp s p then
       hostRun (advertise (takeMin (unback s p (homedClass s) 1) (portRegion p) (portIdx p) (homedClass s) 1) p (homedClass s))
         c (epochBit s) false
     else s)

/-- M2S_MEMRD (R102). -/
def execM2sMemrd (port : Fin 128) (mv : MetaVal) (addr : BitVec 64) (tag : BitVec 16) (s : State) :
    Host.Outcome State Fault Refusal := .next (hostReq s port (.m2sMemrd port mv addr tag))
/-- M2S_MEMRDDATA (R102). -/
def execM2sMemrddata (port : Fin 128) (addr : BitVec 64) (tag : BitVec 16) (s : State) :
    Host.Outcome State Fault Refusal := .next (hostReq s port (.m2sMemrddata port addr tag))
/-- M2S_MEMINV: MetaValue S or I is not supported, and completed with Cmp (R102). -/
def execM2sMeminv (port : Fin 128) (nt : Bool) (mv : MetaVal) (addr : BitVec 64) (tag : BitVec 16) (s : State) :
    Host.Outcome State Fault Refusal :=
  .next
    (match mv with
     | .A => hostReq s port (.m2sMeminv port nt .A addr tag)
     | _ => onFabric s (if hostUp s port then s2m s port tag .cmp else s))
/-- M2S_MEMSPECRD: ignored, as the standard allows (R102). -/
def execM2sMemspecrd (_port : Fin 128) (_addr : BitVec 64) (_tag : BitVec 16) (s : State) :
    Host.Outcome State Fault Refusal := .next s
/-- M2S_MEMCLNEVCT (R102). -/
def execM2sMemclnevct (port : Fin 128) (addr : BitVec 64) (tag : BitVec 16) (s : State) :
    Host.Outcome State Fault Refusal := .next (hostReq s port (.m2sMemclnevct port addr tag))
/-- M2S_MEMWR (R102, R252). -/
def execM2sMemwr (port : Fin 128) (addr : BitVec 64) (tag : BitVec 16) (data : LineData) (poison : Bool) (s : State) :
    Host.Outcome State Fault Refusal := .next (hostWrite s port (.m2sMemwr port addr tag data poison))
/-- M2S_MEMWRPTL (R102, R252). -/
def execM2sMemwrptl (port : Fin 128) (addr : BitVec 64) (tag : BitVec 16) (data : LineData) (mask : BitVec 64)
    (poison : Bool) (s : State) : Host.Outcome State Fault Refusal :=
  .next (hostWrite s port (.m2sMemwrptl port addr tag data mask poison))

/-! ### Timeouts and loss (R140, R395, R425) -/

/-- The request timeout stands still: the line's effective home is on the other twin and the twin link is not ACTIVE (R140). -/
def requestPaused (s : State) (l : LAddr) : Bool := ! homedHere s l && twinState s != 2
/-- The request timeout of a host port's request to a home: its client is told, the tag stays reserved (R140, R141). -/
def hostTimeout (s : State) (p : Nat) (t : BitVec 10) : State :=
  match s.hp.reqs.find? (fun r => r.port == p && r.rtag == t && ! r.captured && ! r.direct && ! r.ended) with
  | some r =>
    if requestPaused s r.line then s
    else flushSnps (flushConfs (putReq (endClient s r) { r with ended := true, data := none, cell := none }) p) p
  | none => s
/-- A reservation has run out: the tag is free, and later answers are late (R288). -/
def hostExpire (s : State) (p : Nat) (t : BitVec 10) : State :=
  match s.hp.reqs.find? (fun r => r.port == p && r.rtag == t && ! r.captured) with
  | some r => finishReq (if r.ended then s else endClient s r) r
  | none => s
/-- The link of a host port is lost: responses to the host are discarded, with every snoop and every job of its
functions; requests already at a home keep their tags until their answers come (R395). -/
def hostLost (s : State) (p : Nat) : State :=
  let mine (c : Instr) : Bool := (hostCmd c).elim false (fun h => h.port == p)
  let held := s.pool.tagWaits.flatMap (fun w => w.held.filterMap (fun u =>
    match u with
    | .host c e => some (c, e)
    | _ => none))
  let other (u : TagUser) : Bool :=
    match u with
    | .host c _ => ! mine c
    | _ => true
  let l := (held ++ s.hp.waiting.map (fun w => (w.cmd, w.epoch))).filter (fun x => mine x.1)
  let v := forAll l (forAll (s.hp.reqs.filter (fun r => r.port == p)) s freeHeld) (fun u x =>
    (hostCmd x.1).elim u (fun h => dropData u h (homedIn (bankFor u (some x.2)))))
  let t := { v with pool := { v.pool with tagWaits := v.pool.tagWaits.map (fun w => { w with held := w.held.filter other }) } }
  withHp t { t.hp with
    reqs := (t.hp.reqs.filter (fun r => ! (r.port == p && r.captured))).map (fun r =>
      if r.port = p then { r with ended := true, data := none, cell := none } else r)
    snps := t.hp.snps.filter (fun q => q.port != p)
    snpWait := t.hp.snpWait.filter (fun q => q.port != p)
    confs := t.hp.confs.filter (fun f => f.port != p)
    waiting := t.hp.waiting.filter (fun w => ! mine w.cmd)
    jobs := t.hp.jobs.filter (fun j => j.port != p) }

end Sys2Proof.Machine
end

