-- ==== Sys2Proof/Machine/Store.lean ====
section
/-! DEFINITION. The store die as memory (R441), its SPI-mode commands (R571), and CRC-32C. -/

namespace Sys2Proof.Machine

/-- What an unlisted store byte reads as. -/
def storeDefault : Byte := Config.erased

/-- The byte of the store at `a`. -/
def storeByte (s : State) (a : Nat) : Byte := sGet s.store a storeDefault

/-- The canonical form of the store: offsets strictly rising, and no byte listed that an unlisted offset reads as. -/
def Memory.wf (m : List Host.Cell) : Bool := sWf m (fun _ => storeDefault)

/-- Write one byte of the store. -/
def storePut (s : State) (a : Nat) (b : Byte) : State := { s with store := sPut s.store a storeDefault b }

/-- Write bytes from `a` onwards. -/
def storeWrite (s : State) (a : Nat) (bs : List Byte) : State :=
  match bs with
  | [] => s
  | b :: t => storeWrite (storePut s a b) (a + 1) t

/-- Erase the 4 KiB page that holds `a`. -/
def storeErasePage (s : State) (a : Nat) : State :=
  { s with store := sDrop s.store (fun k => k / 4096 == a / 4096) }

/-- `n` bytes from `a`. -/
def storeRead (s : State) (a n : Nat) : List Byte := (List.range n).map (fun i => storeByte s (a + i))

/-- A little-endian number of `n` bytes at `a` (R434). -/
def storeNat (s : State) (a n : Nat) : Nat :=
  match n with
  | 0 => 0
  | k + 1 => (storeByte s a).toNat + 256 * storeNat s (a + 1) k

/-- Little-endian bytes of a number. -/
def leBytes (n v : Nat) : List Byte := (List.range n).map (fun i => BitVec.ofNat 8 (v / 256 ^ i))

/-- Size and areas of the store (R441). -/
def storeSize : Nat := 0x10000000
def slotBase (b : Bool) : Nat := if b then 0x4000000 else 0
def journalBase : Nat := 0x8000000
def causeBase : Nat := 0xA000000
/-- `a` lies in the device-key record, which only the root of trust reads (R441, R571). -/
def inKeyRecord (a : Nat) : Bool := decide (0xA010000 ≤ a) && decide (a < 0xA020000)

/-- One byte into a CRC-32C (reflected polynomial 0x82F63B78). -/
def crcBit (c : Word) : Word := if c.getLsbD 0 then (c >>> 1) ^^^ 0x82F63B78 else c >>> 1
def crcByte (c : Word) (b : Byte) : Word :=
  let x := c ^^^ b.setWidth 32
  crcBit (crcBit (crcBit (crcBit (crcBit (crcBit (crcBit (crcBit x)))))))
/-- CRC-32C of a byte string. -/
def crc32c (bs : List Byte) : Word := bs.foldl crcByte 0xFFFFFFFF ^^^ 0xFFFFFFFF

/-! ### SPI mode (R571) -/

/-- The SPI-mode pin set answers: an effect in SPI mode, nothing otherwise. -/
def onSpi (s : State) (t : State) : State := if s.dev.spiMode then t else s

/-- SPI_READ_ID. -/
def execSpiReadId (s : State) : Host.Outcome State Fault Refusal :=
  .next (onSpi s (emit s (.spi [0x0B, 0x28, 0x01])))

/-- The status byte: BUSY, write enabled, FAIL. -/
def spiStatus (s : State) : Byte :=
  BitVec.ofNat 8 (s.dev.spiOp.isSome.toNat + 2 * s.dev.spiWel.toNat + 4 * s.dev.spiFail.toNat)

/-- SPI_READ_STATUS. -/
def execSpiReadStatus (s : State) : Host.Outcome State Fault Refusal :=
  .next (onSpi s (emit s (.spi [spiStatus s])))

/-- SPI_WRITE_ENABLE. -/
def execSpiWriteEnable (s : State) : Host.Outcome State Fault Refusal :=
  .next (onSpi s { s with dev := { s.dev with spiWel := true } })

/-- SPI_READ: data from the offset onwards, 0xFF from the device-key record. -/
def execSpiRead (off : BitVec 32) (len : Nat) (s : State) : Host.Outcome State Fault Refusal :=
  if s.dev.spiMode = true ∧ storeSize < off.toNat + len then .fault .storeOutside
  else
    .next (onSpi s (emit s (.spi ((List.range len).map
      (fun i => if inKeyRecord (off.toNat + i) then 0xFF else storeByte s (off.toNat + i))))))

/-- Supply trouble is present (R532). -/
def supplyTrouble (s : State) : Bool := rdBit s R.RST_SUP_STATUS 31

/-- Start or refuse a program or erase at `off`: it needs the write enable, no operation under way, a place
outside the device-key record and no supply trouble. -/
def spiStart (s : State) (off : BitVec 32) (op : SpiOp) (fits : Bool) : State :=
  if s.dev.spiWel && s.dev.spiOp.isNone && fits && ! inKeyRecord off.toNat && ! supplyTrouble s then
    wrBit { s with dev := { s.dev with spiWel := false, spiFail := false, spiOp := some op } } R.RST_SUP_STATUS 27 true
  else { s with dev := { s.dev with spiWel := if s.dev.spiOp.isNone then false else s.dev.spiWel, spiFail := true } }

/-- SPI_PROGRAM: up to 4 KiB within one 4 KiB page. -/
def execSpiProgram (off : BitVec 32) (data : List Byte) (s : State) : Host.Outcome State Fault Refusal :=
  if s.dev.spiMode = true ∧ storeSize ≤ off.toNat then .fault .storeOutside
  else .next (onSpi s (spiStart s off (.program off data) (decide (off.toNat % 4096 + data.length ≤ 4096))))

/-- SPI_ERASE_PAGE. -/
def execSpiErasePage (off : BitVec 32) (s : State) : Host.Outcome State Fault Refusal :=
  if s.dev.spiMode = true ∧ storeSize ≤ off.toNat then .fault .storeOutside
  else .next (onSpi s (spiStart s off (.erase off) true))

/-- Bytes of unstated content over the place of a failed operation. -/
def storeGarble (s : State) (a n : Nat) : State :=
  usedFree (storeWrite s a ((List.range n).map (Config.freeByte s.fresh)))

/-- SPI_OPERATION_DONE: BUSY clears; the bytes stand where the operation did not fail. What a failed one leaves
in its bytes is not stated: free values. -/
def execSpiOperationDone (failed : Bool) (s : State) : Host.Outcome State Fault Refusal :=
  .next (onSpi s
    (match s.dev.spiOp with
     | none => s
     | some op =>
       let t := wrBit { s with dev := { s.dev with spiOp := none, spiFail := failed } } R.RST_SUP_STATUS 27 false
       match op with
       | .program off data =>
         if failed then storeGarble t off.toNat data.length else storeWrite t off.toNat data
       | .erase off =>
         if failed then storeGarble t (off.toNat / 4096 * 4096) 4096 else storeErasePage t off.toNat))

end Sys2Proof.Machine
end

