-- ==== Sys2Proof/Machine/Coach.lean ====
section
/-! DEFINITION. Coaches: descriptors and their units (R168 to R171, R184), requests and answers of a coach, its line cache
and its snoop answers (R160 to R162, R105, R141, R154, R178). -/

namespace Sys2Proof.Machine

def withCo (s : State) (c : Coaches) : State := { s with co := c }

/-! ### Descriptors (R168 to R170, R184) -/

def dWord (d : BitVec 512) (i : Nat) : BitVec 64 := d.extractLsb' (64 * i) 64
def dOpc (d : BitVec 512) : Nat := nbits (dWord d 0).toNat 7 0
def dFence (d : BitVec 512) : Bool := d.getLsbD 8
def dNotify (d : BitVec 512) : Bool := d.getLsbD 9
def dRewrite (d : BitVec 512) : Bool := d.getLsbD 10
def dSize8 (d : BitVec 512) : Bool := d.getLsbD 11
def dAop (d : BitVec 512) : Nat := nbits (dWord d 0).toNat 15 12
def dColour (d : BitVec 512) : Nat := nbits (dWord d 0).toNat 19 16
def dTag (d : BitVec 512) : Nat := nbits (dWord d 0).toNat 63 32
def dLen (d : BitVec 512) : Nat := nbits (dWord d 1).toNat 31 0
def dSrc (d : BitVec 512) : Nat := nbits (dWord d 2).toNat 45 0
def dDst (d : BitVec 512) : Nat := nbits (dWord d 3).toNat 45 0
def dOpa (d : BitVec 512) : BitVec 64 := dWord d 4
def dOpb (d : BitVec 512) : BitVec 64 := dWord d 5

/-- Fields that a command uses beside OPC, FENCE, NOTIFY and TAG (R169). -/
structure Uses where
  len : Bool := false
  src : Bool := false
  dst : Bool := false
  opa : Bool := false
  opb : Bool := false
  rewrite : Bool := false
  atom : Bool := false
  colour : Bool := false
deriving DecidableEq, Repr
def usesOf (opc : Nat) : Uses :=
  match opc with
  | 1 => { len := true, src := true, dst := true }
  | 2 => { len := true, dst := true, opa := true }
  | 3 => { len := true, src := true, dst := true }
  | 4 => { len := true, src := true, opa := true }
  | 5 => { dst := true, opa := true, opb := true, atom := true }
  | 6 => { len := true, src := true, rewrite := true }
  | 7 => { len := true, dst := true, colour := true }
  | _ => { src := true }
/-- Reserved fields, and fields that the command does not use, are zero (R168). -/
def unusedZero (d : BitVec 512) : Bool :=
  let u := usesOf (dOpc d)
  nbits (dWord d 0).toNat 31 20 == 0 && nbits (dWord d 1).toNat 63 32 == 0 && nbits (dWord d 2).toNat 63 46 == 0 &&
    nbits (dWord d 3).toNat 63 46 == 0 && dWord d 6 == 0 && dWord d 7 == 0 &&
    (u.len || dLen d == 0) && (u.src || dSrc d == 0) && (u.dst || dDst d == 0) && (u.opa || dOpa d == 0) &&
    (u.opb || dOpb d == 0) && (u.rewrite || ! dRewrite d) && (u.atom || (dAop d == 0 && ! dSize8 d)) &&
    (u.colour || dColour d == 0)
/-- The rules of a command's row, but for the intersection of a COPY's ranges. -/
def rowRules (d : BitVec 512) : Bool :=
  let n := dLen d
  let size := atomBits (dSize8 d) / 8
  let below (a k : Nat) : Bool := decide (a + k ≤ 2 ^ 46)
  match dOpc d with
  | 1 => decide (1 ≤ n) && below (dSrc d) n && below (dDst d) n
  | 2 => decide (1 ≤ n) && below (dDst d) n
  | 3 => decide (1 ≤ n) && below (dSrc d) n && below (dDst d) n
  | 4 => decide (1 ≤ n) && below (dSrc d) n && nbits (dOpa d).toNat 63 32 == 0
  | 5 => decide (dAop d ≤ 6) && dDst d % size == 0 && (dAop d == 2 || dOpb d == 0) &&
      (dSize8 d || (nbits (dOpa d).toNat 63 32 == 0 && nbits (dOpb d).toNat 63 32 == 0)) && below (dDst d) size
  | 6 => dSrc d % 64 == 0 && n % 64 == 0 && decide (64 ≤ n) && below (dSrc d) n
  | 7 => dDst d % 4096 == 0 && n % 4096 == 0 && decide (4096 ≤ n) && below (dDst d) n
  | _ => dSrc d % 2 ^ 30 == 0
/-- Status of a descriptor by its fields: the first failing rule in the order of R169; 0 where none fails. -/
def descCheck (d : BitVec 512) (priv : Bool) : Nat :=
  if dOpc d = 0 ∨ 8 < dOpc d then 1
  else if 7 ≤ dOpc d ∧ ! priv then 4
  else if ! unusedZero d || ! rowRules d then 2
  else if dOpc d = 1 ∧ dSrc d < dDst d + dLen d ∧ dDst d < dSrc d + dLen d then 3
  else 0

/-- The anchor (R169). -/
def anchor (d : BitVec 512) : Nat := if dOpc d = 1 ∨ dOpc d = 2 ∨ dOpc d = 5 ∨ dOpc d = 7 then dDst d else dSrc d
def unsplit (d : BitVec 512) : Bool := dOpc d == 5 || dOpc d == 8
/-- Units of a descriptor (R184). -/
def unitCount (d : BitVec 512) : Nat :=
  if unsplit d then 1 else (anchor d + dLen d - 1) / 4096 - anchor d / 4096 + 1
/-- Offsets from the anchor at which unit `i` begins and ends. -/
def unitLo (d : BitVec 512) (i : Nat) : Nat :=
  if unsplit d ∨ i = 0 then 0 else (anchor d / 4096 + i) * 4096 - anchor d
def unitHi (d : BitVec 512) (i : Nat) : Nat :=
  if unsplit d then dLen d else min (dLen d) ((anchor d / 4096 + i + 1) * 4096 - anchor d)
def unitBytes (d : BitVec 512) (i : Nat) : Nat := unitHi d i - unitLo d i
/-- Cells of the memory quota that a unit reserves (R232). -/
def quotaCells (d : BitVec 512) (i : Nat) : Nat :=
  if dOpc d = 5 then 1 else if dOpc d = 8 then 64 else (unitBytes d i + 63) / 64
/-- Landing cells (R251): none where a unit reads no bulk data. -/
def landCells (d : BitVec 512) (i : Nat) : Nat :=
  if dOpc d = 2 ∨ dOpc d = 5 ∨ dOpc d = 7 then 0 else quotaCells d i
/-- Byte ranges (address, length) that a unit reads and writes as bulk data. -/
def unitReads (d : BitVec 512) (i : Nat) : List (Nat × Nat) :=
  let r (a : Nat) : Nat × Nat := (a + unitLo d i, unitBytes d i)
  match dOpc d with
  | 1 => [r (dSrc d)]
  | 3 => [r (dSrc d), r (dDst d)]
  | 4 => [r (dSrc d)]
  | 6 => [r (dSrc d)]
  | _ => []
def unitWrites (d : BitVec 512) (i : Nat) : List (Nat × Nat) :=
  if dOpc d = 1 ∨ dOpc d = 2 then [(dDst d + unitLo d i, unitBytes d i)] else []
/-- Lines of byte ranges, each once. -/
def rangeLines (l : List (Nat × Nat)) : List LAddr :=
  (l.flatMap (fun r => (linesOf r.1 r.2).map (BitVec.ofNat 40))).dedup

/-! ### Names and states of coaches -/

def houseOf (k : Nat) : Nat := k / 16
def coachAgent (s : State) (k : Nat) : Agent := agentId s (128 + k)
def coachNo (a : Agent) : Nat := localAgent a - 128
/-- STATE: 0 active, 1 retiring, 2 retired, 3 faulted. -/
def coachState (s : State) (k : Nat) : Nat := rd s (R.COACH_STATUS k) 1 0
def setCoachState (s : State) (k v : Nat) : State := wr s (R.COACH_STATUS k) 1 0 v
def coachUp (s : State) (k : Nat) : Bool := coachState s k == 0 && ! unitDown s (.coach (Fin.ofNat 256 k))
/-- The coach runs a MIGRATE (R194). -/
def migrating (s : State) (k : Nat) : Bool := s.co.units.any (fun u => u.coach == k && dOpc u.bits == 8)
def coachesOf (n : Nat) : List Nat := (List.range 16).map (· + 16 * n)

def chanOf (s : State) (i : Nat) : Chan := sGet s.co.chans i {}
def setChan (s : State) (i : Nat) (c : Chan) : State := withCo s { s.co with chans := sPut s.co.chans i {} c }

/-! ### Units -/

def unitAt (s : State) (k pipe : Nat) : Option UnitRun := s.co.units.find? (fun u => u.coach == k && u.pipe == pipe)
def putUnit (s : State) (u : UnitRun) : State :=
  withCo s { s.co with units := s.co.units.map (fun v => if v.coach = u.coach ∧ v.pipe = u.pipe then u else v) }
def dropUnit (s : State) (u : UnitRun) : State :=
  withCo s { s.co with units := s.co.units.filter (fun v => ! (v.coach == u.coach && v.pipe == u.pipe)) }
/-- Class of a unit's bulk data (R251). -/
def unitClass (u : UnitRun) : Nat := u.ch.tc
/-- A stopping error at byte offset `off`: the lowest stays (R177). -/
def failUnit (u : UnitRun) (status off : Nat) : UnitRun :=
  match u.err with
  | some e => if off < e.2 then { u with err := some (status, off) } else u
  | none => { u with err := some (status, off) }
def poisonUnit (u : UnitRun) (off : Nat) : UnitRun := { u with poison := some (u.poison.elim off (min off)) }
/-- Offset from the anchor of the first byte of line `l` in a unit's ranges; a write looks in the range written first. A line
outside them, of a TAGSET's carve-out, an ATOMIC or a MIGRATE, counts at the unit's first byte: ATOMIC and MIGRATE have no
anchor, and the model's offset there is 0 (R177, assumption 144). -/
def offsetOf (u : UnitRun) (l : LAddr) (written : Bool) : Nat :=
  let r := unitReads u.bits u.unit
  let w := unitWrites u.bits u.unit
  match (if written then w ++ r else r ++ w).find? (fun x => (linesOf x.1 x.2).contains l.toNat) with
  | some x => unitLo u.bits u.unit + (max x.1 (lineAddr l) - x.1)
  | none => unitLo u.bits u.unit

/-! ### Requests -/

def creqsOf (s : State) (k : Nat) : List CoachReq := s.co.reqs.filter (fun r => r.coach == k)
/-- Requests of a pipeline that it still waits for. -/
def pipeReqs (s : State) (k pipe : Nat) : List CoachReq :=
  (creqsOf s k).filter (fun r => r.pipe == some pipe && ! r.ended)
/-- RTAG `i` of coach `k`: unique in its house. -/
def coachTag (k i : Nat) : BitVec 10 := BitVec.ofNat 10 (k % 16 * 64 + i)
/-- The lowest that neither a request nor data held for DataGo uses. -/
def freeCoachTag (s : State) (k : Nat) : Option (BitVec 10) :=
  ((List.range 64).map (coachTag k)).find? (fun t =>
    ! (creqsOf s k).any (fun r => r.rtag == t) && ! s.co.held.any (fun c => c.coach == k && c.rtag == t))
/-- The tag under which data that a snoop takes is held for DataGo: with none free, that of a request for another line
(assumption 142). -/
def anyCoachTag (s : State) (k : Nat) (l : LAddr) : BitVec 10 :=
  match freeCoachTag s k with
  | some t => t
  | none => (((creqsOf s k).find? (fun r => r.line != l)).map (·.rtag)).getD (coachTag k 0)
/-- One more line request may be outstanding (R160). -/
def mayAsk (s : State) (k pipe : Nat) : Bool :=
  decide ((creqsOf s k).length < 64) && decide ((pipeReqs s k pipe).length < 48)
def addCreq (s : State) (r : CoachReq) : State := withCo s { s.co with reqs := s.co.reqs ++ [r] }
def sameCreq (a b : CoachReq) : Bool := a.coach == b.coach && a.rtag == b.rtag && a.line == b.line
def putCreq (s : State) (r : CoachReq) : State :=
  withCo s { s.co with reqs := s.co.reqs.map (fun q => if sameCreq q r then r else q) }
def delCreq (s : State) (r : CoachReq) : State :=
  unreserveReq (withCo s { s.co with reqs := s.co.reqs.filter (fun q => ! sameCreq q r) }) (coachAgent s r.coach) r.rtag
def creqAt (s : State) (k : Nat) (t : BitVec 10) (l : LAddr) : Option CoachReq :=
  s.co.reqs.find? (fun r => r.coach == k && r.rtag == t && r.line == l)

/-- A request of coach `k`, not yet sent. -/
def newCreq (s : State) (k : Nat) (t : BitVec 10) (kind : ReqKind) (l : LAddr) (pipe : Option Nat) : CoachReq :=
  { coach := k, rtag := t, kind := kind, line := l, pipe := pipe, direct := ! homed s (lineAddr l), data := none, cell := none
    cls := 0, a := ⟨0, false, 0, 0, 0⟩, ended := false, grant := none, got := none }
/-- The message by which it leaves: source, tag, line, and the epoch under which it is resolved (R55, R101). -/
def coachMsg (s : State) (r : CoachReq) : Hdr :=
  { src := coachAgent s r.coach, rtag := r.rtag, laddr := r.line, epoch0 := some (epochBit s) }
/-- The same for an access at device port cell `p` without a home: TGT receives what the cell answers. -/
def directMsg (s : State) (r : CoachReq) (p : Nat) : Hdr :=
  { coachMsg s r with tgt := coachAgent s r.coach, dport := Fin.ofNat 128 p }
/-- Device port of this twin that coach `k` names for a line (R192). -/
def coachPort (s : State) (k : Nat) (l : LAddr) : Nat := portFor s (houseOf k) (lineAddr l)
/-- Send a request to the home of its line. -/
def askHome (s : State) (r : CoachReq) : State :=
  sendReq (addCreq s { r with direct := false }) { kind := r.kind, m := coachMsg s r, a := r.a }
/-- Read line `r.line` directly at device port cell `p` (R161). -/
def readDirect (s : State) (r : CoachReq) (p : Nat) : State :=
  send (addCreq s { r with direct := true }) (.memrd { directMsg s r p with dest := attachment (coachAgent s r.coach) })
/-- Write a line directly at device port cell `p`, from a landing cell. -/
def writeDirect (s : State) (r : CoachReq) (p : Nat) : State :=
  match r.data with
  | some (d, k, poison) =>
    enqueueData (addCreq s { r with direct := true, data := none, cell := none }) (houseOf r.coach) 8 r.cls
      (.port (Fin.ofNat 128 p)) (r.cell.getD false) (.line { directMsg s r p with src := 0x3FF, poison := poison } d k)
  | none => s
/-- Another read at the device port cell: an atomic of R60, a colour write of R83. -/
def operateDirect (s : State) (r : CoachReq) (p : Nat) (f : Hdr → RdFor) : State :=
  dpArrive (addCreq s { r with direct := true })
    ⟨p, r.line, some (f (directMsg s r p)), none, coachAgent s r.coach, some (epochBit s), none⟩
/-- A write that carries no bulk data: a whole colour byte of R83. -/
def colourDirect (s : State) (r : CoachReq) (p : Nat) (d : LineData) (k : BitVec 64) : State :=
  dpArrive (addCreq s { r with direct := true })
    ⟨p, r.line, none, some (.msg (directMsg s r p), d, k, false), coachAgent s r.coach, some (epochBit s), none⟩

/-! ### The line cache (R160 to R162) -/

def cacheSet (s : State) (k : Nat) (l : LAddr) : List CLine := sGet s.co.cache (k * 64 + l.toNat % 64) []
def setCacheSet (s : State) (k : Nat) (l : LAddr) (v : List CLine) : State :=
  withCo s { s.co with cache := sPut s.co.cache (k * 64 + l.toNat % 64) [] v }
def inSet (s : State) (k : Nat) (l : LAddr) : Option CLine := (cacheSet s k l).find? (fun c => c.line == l)
/-- A victim that still waits for its tag. -/
def victimAt (s : State) (k : Nat) (l : LAddr) : Option CLine :=
  (s.co.victims.find? (fun v => v.1 == k && v.2.line == l)).map (·.2)
def dropVictim (s : State) (k : Nat) (l : LAddr) : State :=
  withCo s { s.co with victims := s.co.victims.filter (fun v => ! (v.1 == k && v.2.line == l)) }
/-- A line that the coach holds: in its set, or as a victim that has not left. -/
def cached (s : State) (k : Nat) (l : LAddr) : Option CLine := (inSet s k l).or (victimAt s k l)
def uncache (s : State) (k : Nat) (l : LAddr) : State :=
  setCacheSet (dropVictim s k l) k l ((cacheSet s k l).filter (fun c => c.line != l))
/-- A line that the coach keeps becomes a clean copy. -/
def cleanCopy (s : State) (k : Nat) (l : LAddr) : State :=
  let f (c : CLine) : CLine := if c.line = l then { c with dirty := false } else c
  let t := setCacheSet s k l ((cacheSet s k l).map f)
  withCo t { t.co with victims := t.co.victims.map (fun v => if v.1 = k then (k, f v.2) else v) }
/-- Send a victim back: WbDirty for a dirty line, Evict for a clean one; where 64 requests are outstanding it waits for a tag
(R160, R162, assumption 142). -/
def writeBack (s : State) (k : Nat) (c : CLine) : State :=
  match freeCoachTag s k with
  | some t =>
    let r := newCreq s k t (if c.dirty then .wbDirty else .evict) c.line none
    askHome s { r with data := if c.dirty then some (c.data, fullMask, false) else none }
  | none => withCo s { s.co with victims := s.co.victims ++ [(k, c)] }
/-- A tag of coach `k` has become free: its oldest waiting victim leaves. -/
def nextVictim (s : State) (k : Nat) : State :=
  match s.co.victims.find? (fun v => v.1 == k), freeCoachTag s k with
  | some v, some _ => writeBack (withCo s { s.co with victims := s.co.victims.erase v }) k v.2
  | _, _ => s
/-- The least recently used line of a full set that has no request outstanding. -/
def victimOf (s : State) (k : Nat) (v : List CLine) : Option CLine :=
  v.reverse.find? (fun c => ! (creqsOf s k).any (fun r => r.line == c.line))
/-- Put a line into the cache as its most recently used, making room. -/
def install (s : State) (k : Nat) (c : CLine) : State :=
  let v := (cacheSet s k c.line).filter (fun x => x.line != c.line)
  let t := dropVictim s k c.line
  if v.length < 8 then setCacheSet t k c.line (c :: v)
  else
    match victimOf t k v with
    | some x => writeBack (setCacheSet t k c.line (c :: v.filter (fun y => y.line != x.line))) k x
    | none => setCacheSet t k c.line (c :: v)
/-- Every line of coach `k` without a request outstanding leaves its cache (R204). -/
def flushCache (s : State) (k : Nat) : State :=
  let l := ((s.co.cache.filter (fun e => e.1 / 64 == k)).flatMap (·.2)).filter (fun c =>
    ! (creqsOf s k).any (fun r => r.line == c.line))
  forAll l s (fun t c => writeBack (uncache t k c.line) k c)
/-- Coach `k` holds no line and no dirty data that has not left. -/
def cacheEmpty (s : State) (k : Nat) : Bool :=
  (s.co.cache.filter (fun e => e.1 / 64 == k)).isEmpty && ! s.co.victims.any (fun v => v.1 == k) &&
    ! s.co.held.any (fun c => c.coach == k)

/-! ### Checks (R174, R225, R321) -/

/-- A coach access passes steps 1 to 3 of R54; step 3 lets MIGRATE into a carve-out (R201, R225). -/
def coachReach (s : State) (u : UnitRun) (a : Nat) : Bool :=
  let b := bankNow s
  (if dOpc u.bits = 8 then decide (a < 2 ^ 46) && segValid b (segOf a) else segUsable b a) &&
    (u.ch.priv || mayUse b (fld (liveWord s (R.STX_TENANT_W0 u.ch.tenant)) 29 23) (segOf a))
/-- The carve-out line that holds the colour of address `a`. -/
def colourLineOf (s : State) (a : Nat) : Option LAddr := (carveSeg (bankNow s) (segOf a)).map (fun c => addrLine (colourByte c a))
/-- Step 4 for an access of `n` bytes at `a`, of kinds `k`; `bad`: the carve-out line that could not be read. -/
def coachCheck (s : State) (u : UnitRun) (k a n : Nat) (bad : Option LAddr) : Verdict :=
  protect s (guardOf (houseOf u.coach)) ⟨0, k, 1, u.ch.tenant, a, n⟩
    (if k = 8 then none else some (fld (liveWord s (R.STX_TENANT_KEY u.ch.tenant)) 3 0))
    (bad.isSome && bad == colourLineOf s a)

/-! ### Snoops of a coach (R105, R162) -/

/-- A coach answers a snoop at once. -/
def coachSnoop (s : State) (k : Nat) (m : Hdr) (down agg : Bool) : State :=
  let a := coachAgent s k
  let wb := (creqsOf s k).any (fun r => r.line == m.laddr && ! r.direct && isWrite r.kind)
  match cached s k m.laddr with
  | some c =>
    let t := if down then cleanCopy s k m.laddr else uncache s k m.laddr
    if c.dirty then
      let g := anyCoachTag s k m.laddr
      answerSnoop (withCo t { t.co with held := t.co.held ++ [⟨k, g, m.laddr, c.data⟩] }) (houseOf k) m agg a true wb g
    else answerSnoop t (houseOf k) m agg a false wb 0
  | none => answerSnoop s (houseOf k) m agg a false wb 0

/-- DATAGO at a coach (R113): payload through its house attachment, line-cache data as WbData; poison where the data is
gone. A copy of the coach's own that lies under a bulk write goes with it. -/
def coachDatago (s : State) (k : Nat) (m : Hdr) : State :=
  let h := dataHdr s (houseOf k) m false
  let viaDat (t : State) (d : LineData) (x : Bool) : State :=
    send t (.wbdata { h with src := coachAgent t k, poison := x } d fullMask)
  match s.co.held.find? (fun c => c.coach == k && c.line == m.laddr && c.rtag == m.rtag) with
  | some c => viaDat (nextVictim (withCo s { s.co with held := s.co.held.erase c }) k) c.data false
  | none =>
    match (creqAt s k m.rtag m.laddr).filter (fun r => isWrite r.kind && r.data.isSome) with
    | some r =>
      match r.data with
      | some (d, mask, x) =>
        let t := putCreq s { r with data := none, cell := none }
        match r.cell with
        | some sh =>
          let own := (cached t k m.laddr).filter (·.dirty)
          enqueueData (uncache t k m.laddr) (houseOf k) 8 r.cls (.port h.dport) sh
            (match own with
             | some c => .line { h with poison := x } (mergeLine c.data d mask) fullMask
             | none => .line { h with poison := x } d mask)
        | none => viaDat t d x
      | none => s
    | none => viaDat s 0 true

/-- One late answer at a coach (R178, R207). -/
def lateCoach (s : State) (k : Nat) : State := count s (R.COACH_LATE_CNT k) 0 .once (coachEv k)

end Sys2Proof.Machine
end

