-- ==== Sys2Proof/Machine/Units.lean ====
section
/-! DEFINITION. Units in execution and the retire stage: starting descriptors (R166, R169, R179, R194), moving the lines of a
unit (R170, R174 to R176, R183), the end of a unit and of a descriptor (R171, R177, R180, R190, R226, R228), and the
broadcasts of TAGSET and MIGRATE (R83, R195, R198). -/

namespace Sys2Proof.Machine

/-! ### Descriptors -/

def descAt (s : State) (c : Nat) (g : BitVec 12) (e : Nat) : Option Desc :=
  s.co.descs.find? (fun d => d.chan == c && d.gen == g && d.entry == e)
def sameDesc (a b : Desc) : Bool := a.chan == b.chan && a.gen == b.gen && a.entry == b.entry
def putDesc (s : State) (d : Desc) : State :=
  withCo s { s.co with descs := s.co.descs.map (fun x => if sameDesc x d then d else x) }
/-- One item of an old generation is discarded and counted (R226). -/
def discardItem (s : State) (c : Nat) : State :=
  wr s (R.COACH_CH_CNT c) 15 0 (satUp (rd s (R.COACH_CH_CNT c) 15 0))

/-- Results that a command lists (R170); a command outside the table has none that the spec states. -/
def listsResult (opc : Nat) : Bool × Bool :=
  match opc with
  | 1 => (false, false)
  | 2 => (false, false)
  | 7 => (false, false)
  | 3 => (true, false)
  | 4 => (true, false)
  | 8 => (true, false)
  | _ => (true, true)
/-- A CRC register after `n` zero bytes: the GF(2) shift of R171. -/
def crcShift (c : Word) (n : Nat) : Word := (List.replicate n (0 : Byte)).foldl crcByte c
/-- The CRC-32C of a range from the partial registers of its units, in address order (R170, R171). -/
def crcCombine (d : BitVec 512) (res : SMap (BitVec 64 × BitVec 64)) : Word :=
  ((List.range (unitCount d)).foldl (fun (acc : Word) i =>
    crcShift acc (unitBytes d i) ^^^ BitVec.setWidth 32 (sGet res i (0, 0)).1) (~~~ BitVec.setWidth 32 (dOpa d))) ^^^ 0xFFFFFFFF
/-- RESULT0 and RESULT1 from the partial results (R170, R171). -/
def combine (d : BitVec 512) (res : SMap (BitVec 64 × BitVec 64)) : BitVec 64 × BitVec 64 :=
  match dOpc d with
  | 3 => (BitVec.ofNat 64 ((res.map (fun x => x.2.1.toNat)).foldl min (dLen d)), 0)
  | 4 => (BitVec.setWidth 64 (crcCombine d res), 0)
  | 6 => (BitVec.ofNat 64 ((res.map (fun x => x.2.1.toNat)).foldl (· + ·) 0),
      BitVec.ofNat 64 ((res.map (fun x => x.2.2.toNat)).foldl min (2 ^ 64 - 1)))
  | 5 => sGet res 0 (0, 0)
  | 8 => sGet res 0 (0, 0)
  | _ => (0, 0)
/-- The result of the status has a value that the spec states (R153, R170, R172, R176, R198). -/
def resultStated (opc status : Nat) : Bool :=
  status == 0 || (status == 6 && (opc == 5 || opc == 6 || opc == 8)) || (opc == 8 && decide (5 ≤ status) && status != 10 && status != 11)
/-- The record of a descriptor that ends with a status: results that no rule states are free values. -/
def recordFor (s : State) (d : Desc) (status err : Nat) : State × Rec :=
  let c := combine d.bits d.res
  if resultStated (dOpc d.bits) status then (s, ⟨status, c.1, c.2, err⟩)
  else
    let l := listsResult (dOpc d.bits)
    (usedFree (usedFree s),
      ⟨status, if l.1 then freeVal s else 0, if l.2 then freeVal (usedFree s) else 0, err⟩)
/-- Status and error offset of a descriptor whose units have ended (R177). -/
def endStatus (d : Desc) : Nat × Nat :=
  let first (l : List UnitErr) : Option UnitErr :=
    l.foldl (fun acc e => match acc with
      | some a => if e.unit < a.unit then some e else some a
      | none => some e) none
  match first (d.errs.filter (fun e => e.status != 6)) with
  | some e => (e.status, e.off)
  | none =>
    match first d.errs with
    | some e => (e.status, e.off)
    | none => (0, 0)
/-- The retire stage passes: the record is made (R180, R228). -/
def retire (s : State) (d : Desc) : State :=
  if d.aborted then
    let off := d.firstLeft.elim (dLen d.bits) (unitLo d.bits)
    let r0 := if dOpc d.bits = 8 then (combine d.bits d.res).1 else 0
    putDesc (perfHit s d.house 0x0F 0 1 1) { d with stage := .done, record := some ⟨0xC, r0, 0, off⟩ }
  else
    let e := endStatus d
    let r := recordFor s d e.1 e.2
    putDesc (perfHit r.1 d.house 0x0F 0 1 1) { d with stage := .done, record := some r.2 }
/-- Every unit that may run has ended. -/
def allEnded (d : Desc) : Bool :=
  d.stage == .run && (d.ended == d.units || (d.stopped && d.ended == d.started))
def settleDesc (s : State) (d : Desc) : State := if allEnded d then retire s d else putDesc s d

/-- A MIGRATE ends: its slot stops running (R194, R198). -/
def stopSlot (s : State) (i : Nat) : State :=
  forAll (List.range 16) s (fun t n => setSlot t n i { migSlot t n i with running := none })
/-- A MIGRATE that was accepted ends before any coach took its unit: its slot stops running; answers its W (R228). -/
def stopAccepted (s : State) (house : Nat) (d : BitVec 512) : State × Nat :=
  match slotFor s house (segOf (dSrc d)) with
  | some i => (stopSlot s i, (migSlot s house i).w)
  | none => (s, 0)
/-- Take a descriptor's unstarted units out of every deque (R175, R228); answers its lowest such unit. Units that had started
in a coach that failed stay, and run to their end (R203). -/
def dropRanges (s : State) (c : Nat) (g : BitVec 12) (e : Nat) : State × Option Nat :=
  let mine (r : UnitRange) : Bool := r.chan == c && r.gen == g && r.entry == e && ! r.restart
  let l := ((s.co.ranges ++ s.co.transit).filter mine).map (·.first)
  (withCo s { s.co with ranges := s.co.ranges.filter (fun r => ! mine r), transit := s.co.transit.filter (fun r => ! mine r) },
    match l with
    | [] => none
    | a :: t => some (t.foldl min a))
/-- Stop a descriptor: no further unit starts. -/
def stopDesc (s : State) (d : Desc) : State × Desc :=
  let r := dropRanges s d.chan d.gen d.entry
  let d1 := { d with stopped := true, firstLeft := if d.stopped then d.firstLeft else r.2 }
  if dOpc d.bits = 8 ∧ d.stage = .run ∧ r.2.isSome = true then
    let w := stopAccepted r.1 d.house d.bits
    (w.1, { d1 with res := sIns d1.res 0 (BitVec.ofNat 64 w.2, 0) })
  else (r.1, d1)

/-! ### Generations (R212, R226, R229) -/

def nextGen (g : BitVec 12) : BitVec 12 := if g = 0xFFF then 1 else g + 1
/-- Started units that a coach's failure has put back into a range entry (R203). -/
def restarts (s : State) : List UnitRange := (s.co.ranges ++ s.co.transit).filter (·.restart)
/-- A started unit carries a generation of a channel. -/
def genStarted (s : State) (c : Nat) (g : BitVec 12) : Bool :=
  s.co.units.any (fun u => u.chan == c && u.gen == g) || (restarts s).any (fun r => r.chan == c && r.gen == g)
/-- A unit of an earlier generation is still started (OLD_BUSY). -/
def oldBusy (s : State) (c : Nat) : Bool :=
  let g := (chanOf s c).gen
  s.co.units.any (fun u => u.chan == c && u.gen != g) || (restarts s).any (fun r => r.chan == c && r.gen != g)
/-- The generation advances, and the context is ACTIVE again or FREE. -/
def advanceGen (s : State) (c : Nat) : State :=
  let ch := chanOf s c
  -- the shaper goes with the channel, or starts again full (R313)
  let t := { s with buf := { s.buf with shapers := sDel s.buf.shapers c } }
  if ch.toFree then
    wr (setChan t c { gen := nextGen ch.gen, st := .free, life := ch.life + 1 }) R.STX_CHAN_STATUS 31 31 0
  else
    setChan t c { ch with gen := nextGen ch.gen, st := .active, cause := 0, head := 0, tail := 0, fetch := 0, phase := true, aborts := [] }
/-- A RESETTING wait ends with its unit (R212). -/
def settleGen (s : State) (c : Nat) : State :=
  let ch := chanOf s c
  if ch.st = .resetting ∧ genStarted s c (nextGen ch.gen) = false then advanceGen s c else s

/-! ### The end of a unit (R175, R190, R226) -/

/-- A unit's report reaches the retire stage. -/
def unitEnded (s : State) (c : Nat) (g : BitVec 12) (e : Nat) (x : UnitErr) (res : BitVec 64 × BitVec 64) : State :=
  match (if g = (chanOf s c).gen then descAt s c g e else none) with
  | none => discardItem s c
  | some d =>
    let d1 := { d with
      ended := d.ended + 1, errs := if x.status = 0 then d.errs else d.errs ++ [x], res := sIns d.res x.unit res }
    if x.status = 0 ∨ x.status = 6 then settleDesc s d1
    else
      let r := stopDesc s d1
      settleDesc r.1 r.2
/-- Status and error offset of a unit. -/
def unitStatus (u : UnitRun) : Nat × Nat :=
  match u.err with
  | some e => e
  | none =>
    match u.poison with
    | some o => (6, o)
    | none => (0, 0)
/-- Free the landing cells that a unit still holds. -/
def freeLanding (s : State) (u : UnitRun) : State :=
  let t := { s with buf := { s.buf with lands := s.buf.lands.filter (fun x => ! (x.coach.val == u.coach && x.pipe.val == u.pipe)) } }
  if u.cells = 0 then t else freeCellsOf t (houseOf u.coach) 8 (unitClass u) u.cells u.shared
/-- A unit ends: its pipeline, its cells and its quota are free, and its end is reported (R190, R207). -/
def endUnit (s : State) (u : UnitRun) (res : BitVec 64 × BitVec 64) : State :=
  let st := unitStatus u
  let t := dropUnit (freeLanding s u) u
  let v := if st.1 = 0 then t else count t (R.COACH_UNIT_ERR_CNT u.coach) 0 .once (coachEv u.coach)
  let w :=
    if houseOf (coachNo u.owner) = houseOf u.coach then unitEnded v u.chan u.gen u.entry ⟨u.unit, st.1, st.2⟩ res
    else
      send v (.unitend { thief := coachAgent v u.coach, owner := u.owner, index := BitVec.ofNat 16 u.chan, gen := u.gen
                         first := u.unit, count := 1, entry := BitVec.ofNat 12 u.entry, status := BitVec.ofNat 8 st.1
                         result0 := res.1, result1 := res.2, errOffset := BitVec.ofNat 32 st.2 })
  settleGen w u.chan

/-! ### Broadcasts of a coach house (R83, R195) -/

/-- Regions whose acknowledgement is awaited: those in service on this twin, and, while the partner takes part, those that
its last beacon shows in service. Step 4 of R83 counts a region that is fenced, or that the beacon shows out of service, as
answered; for the broadcasts of R195 the model does the same (assumption 143). -/
def ackRegions (s : State) : List Nat :=
  ((List.range 16).filter (fun n => ! unitDown s (.region (Fin.ofNat 16 n)))).map (· + 16 * pidNat s) ++
    (if partnerServes s then
       ((List.range 16).filter (fun n => s.pair.last.elim true (fun b => b.regions.getLsbD n))).map (· + 16 * (1 - pidNat s))
     else [])
/-- A coach house sends one message to each region of this twin in ascending order, and one to the other twin (R285). -/
def broadcast (s : State) (house : Nat) (c : Fin 16 → Instr) : State :=
  let t := forAll (List.range 16) s (fun u n => sendFrom u (houseEp house) (c (Fin.ofNat 16 n)))
  if partnerServes t then sendTwin t (houseEp house) (c 0) else t

/-- The slot of the segment that a MIGRATE unit moves, in its house's region. -/
def unitSlot (s : State) (u : UnitRun) : Option Nat := slotFor s (houseOf u.coach) (segOf (dSrc u.bits))
def slotW (s : State) (u : UnitRun) : Nat := (unitSlot s u).elim 0 (fun i => (migSlot s (houseOf u.coach) i).w)
/-- Begin a broadcast of a migration step in phase `p`, with watermark `w`. -/
def migCast (s : State) (u : UnitRun) (p : UnitPhase) (w : Nat) : State :=
  match unitSlot s u with
  | none => putUnit s { u with phase := p }
  | some i =>
    let m : MigMsg := ⟨Fin.ofNat 16 i, w, BitVec.ofNat 16 (segOf (dSrc u.bits)), coachAgent s u.coach, s.dev.pid⟩
    let t := putUnit s { u with phase := p, acks := ackRegions s }
    broadcast t (houseOf u.coach) (fun n => match p with
      | .mark => .migmark n m
      | .advance => .migadvance n m
      | _ => .migunmark n m)

/-! ### Moving lines -/

/-- The outcome of trying to issue something for a unit. -/
inductive Issue where
  | go (s : State) (u : UnitRun) | stall (s : State)
deriving DecidableEq, Repr

/-- Refuse one line of a unit: ACCESS_DENIED (R172). -/
def denyLine (s : State) (u : UnitRun) (l : LAddr) (written counted : Bool) : Issue :=
  .go (if counted then countUnbound s else s) (failUnit u 5 (offsetOf u l written))
/-- Check one line, and go on with `k` (R174). -/
def withLine (s : State) (u : UnitRun) (kinds a n : Nat) (l : LAddr) (bad : Option LAddr) (k : State → Issue) : Issue :=
  if ! coachReach s u a then denyLine s u l (kinds == 2) true
  else
    match coachCheck s u kinds a n bad with
    | .need t => .stall (tagNeed s (houseOf u.coach) t (.coach u.coach))
    | .refuse t _ => denyLine t u l (kinds == 2) false
    | .pass t => k t

/-- Note a line read. -/
def noteRead (u : UnitRun) (l : LAddr) (d : LineData) (x : Bool) : UnitRun :=
  let v := { u with got := sIns u.got l.toNat (d, x) }
  let w := if x then poisonUnit v (offsetOf v l false) else v
  if x && dOpc u.bits == 6 && dRewrite u.bits then { w with writes := w.writes ++ [l] }
  else if dOpc u.bits = 8 then { w with writes := w.writes ++ [l] }
  else w

/-- The unit has consumed a line whose data does not leave again: its landing cell is free (R251). -/
def consumeLine (s : State) (u : UnitRun) (x : Bool) : State × UnitRun :=
  let o := dOpc u.bits
  if (o = 3 ∨ o = 4 ∨ (o = 6 ∧ ! (x && dRewrite u.bits))) ∧ 0 < u.cells then
    (freeCellsOf s (houseOf u.coach) 8 (unitClass u) 1 u.shared, { u with cells := u.cells - 1 })
  else (s, u)
/-- Note a line read, and put the unit back. -/
def takeLine (s : State) (u : UnitRun) (l : LAddr) (d : LineData) (x : Bool) : State :=
  let r := consumeLine s (noteRead u l d x) x
  putUnit r.1 r.2
/-- Issue the read of the first line of a unit's list. A dirty line of the coach's own cache is read there: a home holds that
copy to be the line's only one (assumption 91). -/
def issueBulkRead (s : State) (u : UnitRun) (l : LAddr) (t : List LAddr) (bad : Option LAddr) : Issue :=
  let kinds := if dOpc u.bits = 8 then 8 else 1
  withLine s u kinds (lineAddr l) 64 l bad (fun s1 =>
    match (cached s1 u.coach l).filter (·.dirty) with
    | some c =>
      let r := consumeLine s1 (noteRead { u with reads := t } l c.data false) false
      .go r.1 r.2
    | none =>
      if ! mayAsk s1 u.coach u.pipe ||
          (dOpc u.bits == 8 && homed s1 (lineAddr l) && decide (16 ≤ ((pipeReqs s1 u.coach u.pipe).filter (fun r => r.kind == .rdCur)).length)) then
        .stall s1
      else
        match freeCoachTag s1 u.coach with
        | none => .stall s1
        | some g =>
          let r := newCreq s1 u.coach g .rdCur l (some u.pipe)
          .go (if homed s1 (lineAddr l) then askHome s1 r else readDirect s1 r (coachPort s1 u.coach l)) { u with reads := t })

/-- A byte that a unit has read. -/
def gotByte (u : UnitRun) (a : Nat) : Byte := lineByte (sGet u.got (a / 64) (0, false)).1 (a % 64)
/-- What a unit writes to line `l`: data, mask and POISON; none while a source line is missing (R170, R176). -/
def lineOut (u : UnitRun) (l : LAddr) : Option (LineData × BitVec 64 × Bool) :=
  match dOpc u.bits with
  | 6 => some (0, fullMask, false)
  | 8 => (sFind u.got l.toNat).map (fun v => (v.1, fullMask, v.2))
  | o =>
    match unitWrites u.bits u.unit with
    | (a, n) :: _ =>
      let lo := lineLo a l.toNat
      let hi := lineHi a n l.toNat
      let base := lineAddr l
      if o = 2 then
        some (mkLine (fun i => (dOpa u.bits).extractLsb' (8 * ((base + i) % 8)) 8), byteMask lo hi, false)
      else
        let src := base + lo - dDst u.bits + dSrc u.bits
        let need := linesOf src (hi - lo)
        if need.all (fun x => (sFind u.got x).isSome) then
          some (mkLine (fun i => if lo ≤ i ∧ i < hi then gotByte u (src + (i - lo)) else 0), byteMask lo hi,
            need.any (fun x => (sGet u.got x (0, false)).2))
        else none
    | [] => none
/-- A cell for one line that leaves: one of the unit's landing cells, or, for a line beyond those and for a FILL, which reads
nothing, one more from the minimum, or from the shared pool where the meter shows green (R251, assumption 94). -/
def takeLanding (s : State) (u : UnitRun) : Option (State × UnitRun × Bool) :=
  let n := houseOf u.coach
  let c := unitClass u
  if 0 < u.cells then some (s, { u with cells := u.cells - 1 }, u.shared)
  else if minUsed s n 8 c < bufMin s n 8 c then some (takeMin s n 8 c 1, u, false)
  else if u.level = 1 ∧ sharedFits s n 8 c 1 0 = true then some (takeShared s n 8 c 1, u, true)
  else none
/-- Issue the write of line `l`. -/
def issueBulkWrite (s : State) (u : UnitRun) (l : LAddr) (bad : Option LAddr) : Issue :=
  let t := u.writes.erase l
  withLine s u (if dOpc u.bits = 8 then 8 else 2) (lineAddr l) 64 l bad (fun s1 =>
    match lineOut u l, freeCoachTag s1 u.coach, takeLanding s1 u with
    | some d, some g, some (s2, v, sh) =>
      if ! mayAsk s1 u.coach u.pipe then .stall s1
      else
        let kind : ReqKind := if d.2.1 = fullMask then .wrLine else .wrPart
        let r := { newCreq s2 u.coach g kind l (some u.pipe) with data := some d, cell := some sh, cls := unitClass u }
        let w := { v with writes := t }
        if dOpc u.bits = 8 then .go (writeDirect s2 r (migPort (bankNow s2) (segOf (lineAddr l)))) w
        else .go (if homed s2 (lineAddr l) then askHome s2 r else writeDirect s2 r (coachPort s2 u.coach l)) w
    | _, _, _ => .stall s1)

/-- The operand of an ATOMIC. -/
def atomOf (d : BitVec 512) : AtomicOp :=
  ⟨BitVec.ofNat 4 (dAop d), dSize8 d, BitVec.ofNat 6 (dDst d % 64), dOpa d, dOpb d⟩
def resOf (r : AtomicRes) : BitVec 64 × BitVec 64 := (r.old, BitVec.ofNat 64 r.success.toNat)
/-- Perform an ATOMIC on line data and leave the line Owned and dirty in the cache (R154, R183). -/
def atomHere (s : State) (u : UnitRun) (l : LAddr) (d : LineData) : State × UnitRun :=
  let a := atomLine d (atomOf u.bits)
  (install s u.coach ⟨l, a.1, true⟩, { u with res := resOf a.2 })
/-- Issue an ATOMIC: in the cache where the line is Owned there, else at the home or the device port (R60, R154). -/
def issueAtomic (s : State) (u : UnitRun) (l : LAddr) (bad : Option LAddr) : Issue :=
  withLine s u 4 (dDst u.bits) (atomBits (dSize8 u.bits) / 8) l bad (fun s1 =>
    match (cached s1 u.coach l).filter (·.dirty) with
    | some c =>
      let r := atomHere s1 { u with reads := [] } l c.data
      .go r.1 r.2
    | none =>
      match (if mayAsk s1 u.coach u.pipe then freeCoachTag s1 u.coach else none) with
      | none => .stall s1
      | some g =>
        let r := { newCreq s1 u.coach g .atomicFar l (some u.pipe) with a := atomOf u.bits }
        .go (if homed s1 (lineAddr l) then askHome s1 r
          else operateDirect s1 r (coachPort s1 u.coach l) (fun m => .atom m r.a)) { u with reads := [] })

/-- The granule of a TAGSET unit. -/
def tagGranule (u : UnitRun) : Nat := dDst u.bits + unitLo u.bits u.unit
/-- A TAGSET covers both granules of the colour byte of the granule at `a`. -/
def coversPair (d : BitVec 512) (a : Nat) : Bool :=
  let b := a / 8192 * 8192
  decide (dDst d ≤ b) && decide (b + 8192 ≤ dDst d + dLen d)
/-- Issue the colour write of a TAGSET unit: the byte whole, or a read-modify-write of one granule's half (R83 step 1,
R579). -/
def issueColour (s : State) (u : UnitRun) (l : LAddr) : Issue :=
  let a := tagGranule u
  withLine s u 8 a 4096 l none (fun s1 =>
    match carveSeg (bankNow s1) (segOf a) with
    | none => denyLine s1 u l false false
    | some c =>
      let y := colourByte c a
      match (if mayAsk s1 u.coach u.pipe then freeCoachTag s1 u.coach else none) with
      | none => .stall s1
      | some g =>
        let r := newCreq s1 u.coach g .wrPart (addrLine y) (some u.pipe)
        let p := coachPort s1 u.coach (addrLine y)
        let v := { u with reads := [] }
        if coversPair u.bits a then
          .go (colourDirect s1 r p (mkLine (fun i => if i = y % 64 then BitVec.ofNat 8 (17 * dColour u.bits) else 0))
            (byteMask (y % 64) (y % 64 + 1))) v
        else .go (operateDirect s1 r p (fun m => .nibble m (y % 64) (decide (a / 4096 % 2 = 1)) (dColour u.bits))) v)
/-- Step 2 of R83. -/
def castTagInv (s : State) (u : UnitRun) : State :=
  match carveSeg (bankNow s) (segOf (tagGranule u)) with
  | none => putUnit s { u with phase := .tagInv, acks := [] }
  | some c =>
    broadcast (putUnit s { u with phase := .tagInv, acks := ackRegions s }) (houseOf u.coach)
      (fun n => .taginv n (Fin.ofNat 16 (houseOf u.coach)) s.dev.pid (addrLine (colourByte c (tagGranule u))))

/-- The partial result of a unit whose lines have all moved. -/
def unitResult (u : UnitRun) : BitVec 64 × BitVec 64 :=
  let d := u.bits
  let n := unitBytes d u.unit
  let lo := unitLo d u.unit
  match dOpc d with
  | 3 =>
    (BitVec.ofNat 64 (((List.range n).find? (fun i =>
      gotByte u (dSrc d + lo + i) != gotByte u (dDst d + lo + i))).elim (dLen d) (· + lo)), 0)
  | 4 => (BitVec.setWidth 64 ((List.range n).foldl (fun c i => crcByte c (gotByte u (dSrc d + lo + i))) 0), 0)
  | 6 =>
    let l := u.got.filter (fun x => x.2.2)
    (BitVec.ofNat 64 l.length, BitVec.ofNat 64 (l.foldl (fun acc x => min acc (x.1 * 64)) (2 ^ 64 - 1)))
  | _ => u.res

/-- Begin the landing reservation of a unit (R251, R317). -/
def askLanding (s : State) (u : UnitRun) : State :=
  let n := houseOf u.coach
  let k := landCells u.bits u.unit
  let r := joinFlow s n 8 (unitClass u) u.flow k
  let x : LandReq := ⟨n, unitClass u, Fin.ofNat 256 u.coach, Fin.ofNat 2 u.pipe, k, u.level, u.flow, r.2⟩
  let b := { r.1.buf with lands := r.1.buf.lands ++ [x] }
  putUnit (withBuf r.1 b) { u with phase := .landing }

/-- One thing that a unit does next. -/
def unitStep (s : State) (u : UnitRun) (bad : Option LAddr) : Issue × Bool :=
  -- the flag tells that the unit has ended
  let idle := (pipeReqs s u.coach u.pipe).isEmpty
  let stopped := u.err.isSome
  match u.phase with
  | .landing => (.stall s, false)
  | .tagInv => if u.acks.isEmpty then (.go s u, true) else (.stall s, false)
  | .colour =>
    match u.reads with
    | l :: _ => if stopped then (.go s u, true) else (issueColour s u l, false)
    | [] => if idle then (.stall (castTagInv s u), false) else (.stall s, false)
  | .lines =>
    if stopped then (if idle then (.go s u, true) else (.stall s, false))
    else if dOpc u.bits = 5 then
      match u.reads with
      | l :: _ => (issueAtomic s u l bad, false)
      | [] => if idle then (.go s u, true) else (.stall s, false)
    else
      match u.writes.find? (fun l => (lineOut u l).isSome) with
      | some l => (issueBulkWrite s u l bad, false)
      | none =>
        match u.reads with
        | l :: t => (issueBulkRead s u l t bad, false)
        | [] => if idle && u.writes.isEmpty then (.go s u, true) else (.stall s, false)
  | .mark => if u.acks.isEmpty then (.stall (askLanding s u), false) else (.stall s, false)
  | .copy =>
    if stopped then (if idle then (.stall (migCast s u .unmark (slotW s u)), false) else (.stall s, false))
    else
      match u.writes with
      | l :: _ => (issueBulkWrite s u l bad, false)
      | [] =>
        match u.reads with
        | l :: t => (issueBulkRead s u l t bad, false)
        | [] => if idle then (.stall (migCast (freeLanding s u) { u with cells := 0 } .advance (slotW s u + 1)), false) else (.stall s, false)
  | .advance =>
    if ! u.acks.isEmpty then (.stall s, false)
    else
      let w := slotW s u
      let v := { u with res := (BitVec.ofNat 64 w, 0) }
      if 262144 ≤ w then (.go s v, true)
      else if u.halt then (.stall (migCast s v .unmark w), false)
      else (.stall (migCast s { v with got := [] } .mark w), false)
  | .unmark => if u.acks.isEmpty then (.go s { u with res := (BitVec.ofNat 64 (slotW s u), 0) }, true) else (.stall s, false)

/-- Let the unit of a pipeline do what it can. -/
def pumpUnitN (n : Nat) (s : State) (k pipe : Nat) (bad : Option LAddr) : State :=
  match n with
  | 0 => s
  | m + 1 =>
    match unitAt s k pipe with
    | none => s
    | some u =>
      match unitStep s u bad with
      | (.go t v, true) =>
        endUnit (match (if dOpc v.bits = 8 then unitSlot t v else none) with
          | some i => stopSlot t i
          | none => t) v (unitResult v)
      | (.go t v, false) => pumpUnitN m (putUnit t v) k pipe bad
      | (.stall t, _) => t
def pumpUnit (s : State) (k pipe : Nat) (bad : Option LAddr) : State := pumpUnitN 1024 s k pipe bad
def pumpCoach (s : State) (k : Nat) (bad : Option LAddr) : State := pumpUnit (pumpUnit s k 0 bad) k 1 bad

/-! ### Answers to a coach (R141, R154, R175 to R178) -/

/-- What a request's end does to its unit. -/
def onUnit (s : State) (r : CoachReq) (f : UnitRun → UnitRun) : State :=
  match r.pipe with
  | some p =>
    match (if r.ended then none else unitAt s r.coach p) with
    | some u => putUnit s (f u)
    | none => s
  | none => s
/-- A request is over: a waiting victim may take its tag, and a coach that retires gives up what the request left in its
cache (R160, R204). -/
def finishCreq (s : State) (r : CoachReq) : State :=
  let t := nextVictim (delCreq s r) r.coach
  pumpCoach (if coachState t r.coach = 1 then flushCache t r.coach else t) r.coach none
/-- The offset that an error of a request is reported at (R177). -/
def reqOffset (u : UnitRun) (r : CoachReq) : Nat := offsetOf u r.line (isWrite r.kind)

/-- A read has brought the unit of a request its line. -/
def readUnit (s : State) (r : CoachReq) (d : LineData) (x : Bool) : State :=
  match (if r.ended then none else r.pipe.bind (unitAt s r.coach)) with
  | some u => takeLine s u r.line d x
  | none => s
/-- A read or a near atomic has grant and data. -/
def settleCreq (s : State) (r : CoachReq) : State :=
  match r.grant with
  | none => putCreq s r
  | some (g, _) =>
    if ! g.nodata && r.got.isNone then putCreq s r
    else
      let own := (cached s r.coach r.line).map (fun c => (c.data, false))
      let d := if g.nodata then own.getD (0, true) else r.got.getD (0, false)
      let poison := d.2 || g.poison || g.status != 0
      let t :=
        if r.ended then s
        else if r.kind = .atomicFar then
          match r.pipe.bind (unitAt s r.coach) with
          | some u =>
            if poison then putUnit s (poisonUnit u 0)
            else
              let h := atomHere s u r.line d.1
              putUnit h.1 h.2
          | none => s
        else readUnit s r d.1 poison
      finishCreq (sendAck t g (coachAgent s r.coach)) r

/-- A grant or Cmp reaches coach `k`. -/
def coachGrant (s : State) (k : Nat) (m : Hdr) (ndr : Nat) (res : AtomicRes) : State :=
  match creqAt s k m.rtag m.laddr with
  | none => lateCoach s k
  | some r =>
    let t := if r.ended then lateCoach s k else s
    if r.kind = .rdCur ∨ (r.kind = .atomicFar ∧ ndr = 2) then settleCreq t { r with grant := some (m, ndr) }
    else if r.kind = .atomicFar then
      finishCreq (onUnit t r (fun u =>
        if m.poison ∨ m.status ≠ 0 then poisonUnit { u with res := resOf res } 0 else { u with res := resOf res })) r
    else finishCreq t r
/-- Err reaches coach `k`: TIMEOUT or PATH_LOST (R172). -/
def coachErr (s : State) (k : Nat) (m : Hdr) : State :=
  match creqAt s k m.rtag m.laddr with
  | none => lateCoach s k
  | some r =>
    let t := if r.ended then lateCoach s k else s
    finishCreq (onUnit t r (fun u => failUnit u (if m.status = 3 then 8 else 7) (reqOffset u r))) r
/-- Data reaches coach `k`: through the crossbar, or a Fill for its line cache. -/
def coachData (s : State) (k : Nat) (m : Hdr) (d : LineData) : State :=
  match creqAt s k m.rtag m.laddr with
  | none => lateCoach s k
  | some r =>
    let t := if r.ended then lateCoach s k else s
    if r.direct then
      finishCreq (if m.status = 3 then onUnit t r (fun u => failUnit u 8 (reqOffset u r)) else readUnit t r d m.poison) r
    else settleCreq t { r with got := some (d, m.poison) }
/-- MemCmp of a direct write, or the answer of an atomic of R60 (R83, R172). -/
def coachDirect (s : State) (k : Nat) (m : Hdr) (res : AtomicRes) : State :=
  match creqAt s k m.rtag m.laddr with
  | none => lateCoach s k
  | some r =>
    let t := if r.ended then lateCoach s k else s
    finishCreq (onUnit t r (fun u =>
      if m.status = 3 then failUnit u 8 (reqOffset u r)
      else if r.kind = .atomicFar then
        (if m.status ≠ 0 then poisonUnit { u with res := resOf res } 0 else { u with res := resOf res })
      else u)) r
/-- A request timeout: it stands still while the line's home is out of reach; grants and data that reach the coach from now on
are late (R140, R141, R172, R178). -/
def coachTimeout (s : State) (k : Nat) (t : BitVec 10) : State :=
  match s.co.reqs.find? (fun r => r.coach == k && r.rtag == t && ! r.direct && ! r.ended) with
  | some r =>
    if requestPaused s r.line then s
    else
      let u := onUnit s r (fun u => failUnit u 7 (reqOffset u r))
      let v := match r.cell with
        | some sh => freeCellsOf u (houseOf k) 8 r.cls 1 sh
        | none => u
      pumpCoach (putCreq v { r with ended := true, data := none, cell := none }) k none
  | none => s
/-- A reservation has run out (R288). -/
def coachExpire (s : State) (k : Nat) (t : BitVec 10) : State :=
  match s.co.reqs.find? (fun r => r.coach == k && r.rtag == t) with
  | some r => finishCreq (onUnit s r (fun u => failUnit u 7 (reqOffset u r))) r
  | none => s

end Sys2Proof.Machine
end

