-- ==== Sys2Proof/Machine/House.lean ====
section
/-! DEFINITION. Coach houses: starting descriptors (R166, R179, R194), releasing, taking and stealing units (R186 to R190,
R309 to R312), landing cells (R251), migration slots in the regions (R193 to R199), and the retirement and return of
coaches (R202 to R206). -/

namespace Sys2Proof.Machine

/-! ### Deques -/

def dequeOf (s : State) (k : Nat) : List UnitRange := s.co.ranges.filter (fun r => r.coach == some k)
def dequeUnits (s : State) (k : Nat) : Nat := ((dequeOf s k).map (·.count)).foldl (· + ·) 0
def sameRange (a b : UnitRange) : Bool :=
  a.chan == b.chan && a.gen == b.gen && a.entry == b.entry && a.first == b.first
def putRange (s : State) (r : UnitRange) : State := withCo s { s.co with ranges := s.co.ranges ++ [r] }
/-- Replace a range entry in its place, or take it out where nothing is left. -/
def shrinkRange (s : State) (r v : UnitRange) : State :=
  withCo s { s.co with ranges := s.co.ranges.flatMap (fun x =>
    if sameRange x r then (if v.count = 0 then [] else [v]) else [x]) }

/-- A deque has 16 entries; one of them is kept for the answer of a remote steal that is under way (R160, R188). -/
def dequeRoom (s : State) (k : Nat) : Bool :=
  decide ((dequeOf s k).length + (! (sGet s.co.stealing k []).isEmpty).toNat < 16)
/-- Coaches of a house that may be chosen under R166: active, not running MIGRATE, with a free deque entry. -/
def choosable (s : State) (k : Nat) : Bool := coachUp s k && ! migrating s k && dequeRoom s k
/-- The coach with the fewest unstarted units; ties to the lowest number that follows the one chosen last (R166). -/
def chooseCoach (s : State) (n : Nat) : Option Nat :=
  let last := sGet s.co.lastCoach n 15
  ((List.range 16).map (fun i => 16 * n + (last + 1 + i) % 16)).foldl (fun acc k =>
    if ! choosable s k then acc
    else
      match acc with
      | none => some k
      | some j => if dequeUnits s k < dequeUnits s j then some k else some j) none
def noteChosen (s : State) (k : Nat) : State :=
  withCo s { s.co with lastCoach := sPut s.co.lastCoach (houseOf k) 15 (k % 16) }

/-! ### Starting descriptors (R169, R179, R185, R194, R205) -/

/-- MIGRATE is accepted, or the status that refuses it (R172, R194). A segment that is being copied and has no slot gives
MIG_BUSY where all 16 slots are taken, as the table of R172 says, and else MIG_STATE (assumption 148). -/
def migCheck (s : State) (n g : Nat) : Nat :=
  if segMig (bankNow s) g ≠ 2 then 0xA
  else
    match slotFor s n g with
    | some i => if (migSlot s n i).running.isSome then 0xB else 0
    | none => if (List.range 16).all (fun i => (migSlot s n i).valid) then 0xB else 0xA
/-- Mark the slot running with its coach, in every region of this twin. -/
def markRunning (s : State) (g : Nat) (a : Agent) : State :=
  forAll (List.range 16) s (fun t n =>
    match slotFor t n g with
    | some i => setSlot t n i { migSlot t n i with running := some a }
    | none => t)
/-- A fetched descriptor is assigned to a coach: its owner, whose deque receives all its units (R166, R185). One that breaks a
rule of R169 is never assigned; one for which no deque has room waits for its assignment. -/
def assignDesc (s : State) (d : Desc) : Option State :=
  let ch := chanOf s d.chan
  if d.stage ≠ .ready ∨ d.units ≠ 0 ∨ d.aborted = true ∨ descCheck d.bits ch.priv ≠ 0 then none
  else
    (chooseCoach s d.house).map (fun k =>
      let n := unitCount d.bits
      let t := putDesc (noteChosen s k) { d with owner := some k, units := n }
      putRange t ⟨d.chan, d.gen, d.entry, 0, n, houseOf k, some k, d.bits, coachAgent t k, ch, none, false⟩)
/-- Units of the range may run: its descriptor has started, or its started unit runs again (R179, R203). -/
def runnable (s : State) (r : UnitRange) : Bool :=
  r.restart || (descAt s r.chan r.gen r.entry).elim true (fun d => d.stage != .ready)
/-- Start one descriptor whose turn has come; none where it must wait. -/
def startDesc (s : State) (d : Desc) : Option State :=
  let before := (s.co.descs.takeWhile (fun x => ! sameDesc x d)).filter (fun x => x.chan == d.chan && x.gen == d.gen)
  if d.stage ≠ .ready ∨ before.any (fun x => x.stage == .fetch || x.stage == .ready) = true ∨
      (dFence d.bits = true ∧ before.any (fun x => x.stage != .done) = true) then none
  else
    let drop := (dropRanges s d.chan d.gen d.entry).1
    let refuse (st : Nat) : State :=
      let r := recordFor drop d st 0
      putDesc (perfHit r.1 d.house 0x0F 0 1 1) { d with stage := .done, record := some r.2 }
    if d.aborted then some (retire drop { d with firstLeft := some 0 })
    else
      match descCheck d.bits (chanOf s d.chan).priv with
      | 0 =>
        let g := segOf (dSrc d.bits)
        let st := if dOpc d.bits = 8 then migCheck s d.house g else 0
        if d.units = 0 then none
        else if st ≠ 0 then some (refuse st)
        else
          let t := putDesc s { d with stage := .run }
          some (if dOpc d.bits = 8 then markRunning t g (coachAgent t (d.owner.getD 0)) else t)
      | st => some (refuse st)
/-- Start whatever may start. -/
def startDescsN (n : Nat) (s : State) : State :=
  match n with
  | 0 => s
  | m + 1 =>
    match (s.co.descs.findSome? (assignDesc s)).or (s.co.descs.findSome? (startDesc s)) with
    | some t => startDescsN m t
    | none => s
def startDescs (s : State) : State := startDescsN (2 * s.co.descs.length + 1) s

/-! ### Release (R232, R233, R304, R309 to R312) -/

/-- Quota cells of started units, and of released units not started, that a test of channel and life selects (R217,
R232). -/
def quotaOf (s : State) (p : Nat → Chan → Bool) : Nat :=
  ((s.co.units.filter (fun u => p u.chan u.ch)).map (fun u => quotaCells u.bits u.unit)).foldl (· + ·) 0 +
    (((s.co.ranges ++ s.co.transit).filter (fun r => p r.chan r.ch && r.released.isSome)).map (fun r =>
      ((List.range r.count).map (fun i => quotaCells r.bits (r.first + i))).foldl (· + ·) 0)).foldl (· + ·) 0
/-- Cells of a channel's quota in use: its units of any generation, not those of an earlier channel at its index. -/
def quotaUsed (s : State) (c : Nat) : Nat := quotaOf s (fun i ch => i == c && ch.life == (chanOf s c).life)
/-- Device ports behind which byte ranges lie, each once. -/
def portsBehind (s : State) (l : List (Nat × Nat)) : List Nat :=
  ((rangeLines l).map (fun x => segPort (bankNow s) (segOf (lineAddr x)))).dedup
/-- Meter instances that a unit is charged on, one for each port read and each port written (R304). -/
def unitMeters (s : State) (n tenant : Nat) (d : BitVec 512) (i : Nat) : List Nat :=
  if unsplit d ∨ dOpc d = 7 then []
  else
    (portsBehind s (unitReads d i) ++ portsBehind s (unitWrites d i)).filterMap (fun q => meterFor s n tenant q)
/-- Charge meters one after the other; none where one gives red. The flag tells that one gave yellow. -/
def chargeMeters (s : State) (n bytes : Nat) (l : List Nat) (yellow : Bool) : Option (State × Bool) :=
  match l with
  | [] => some (s, yellow)
  | i :: t =>
    let k := colourOf s (meterProfile s n i) (meterPair s n i) bytes
    if k = .red then none
    else
      chargeMeters (setMeter s n i (chargeColour s (meterProfile s n i) (meterPair s n i) bytes k)) n bytes t
        (yellow || k == .yellow)
/-- The channel's shaper lets `bytes` pass and is charged (R312). -/
def chargeShaper (s : State) (c : Nat) (d : BitVec 512) (bytes : Nat) : Option State :=
  if unsplit d ∨ dOpc d = 7 then some s
  else
    let r := (chanOf s c).rate
    let p := sGet s.buf.shapers c fullPair
    if ratePir s.banks.live r = 0 then some s
    else if tokensC s r p < 4096 * bytes ∨ tokensP s r p < 4096 * bytes then none
    else some (withBuf s { s.buf with shapers := sPut s.buf.shapers c fullPair (chargeBoth s r p bytes bytes) })
/-- Release one unit: quota, shaper, meters, in that order; its level, and the flow that its landing reservation joins
(R309, R316). -/
def release (s : State) (c : Nat) (d : BitVec 512) (i : Nat) : Option (State × Nat × Nat) :=
  let ch := chanOf s c
  let b := unitBytes d i
  if ch.quota * 256 < quotaUsed s c + quotaCells d i then none
  else
    match chargeShaper s c d b with
    | none => none
    | some t =>
      let l := unitMeters t ch.house ch.tenant d i
      (chargeMeters t ch.house b l false).map (fun r => (r.1, if r.2 then 0 else 1, l.headD defaultFlow))
/-- The range's next unit may be taken, charged where it was not released before. -/
def releaseNext (s : State) (r : UnitRange) : Option (State × Nat × Nat) :=
  match r.released with
  | some v => some (s, v.1, v.2)
  | none => release s r.chan r.bits r.first

/-! ### Taking (R186, R189, R310) -/

/-- Start unit `r.first` of a range in a pipeline. -/
def startUnit (s : State) (k pipe : Nat) (r : UnitRange) (level flow : Nat) : State :=
  let d := r.bits
  let u : UnitRun := {
    coach := k, pipe := pipe, chan := r.chan, gen := r.gen, entry := r.entry, unit := r.first, bits := d, owner := r.owner
    ch := r.ch, level := level, flow := flow
    phase := if dOpc d = 7 then .colour else if dOpc d = 8 then .mark else .lines
    cells := 0, shared := false
    reads := if dOpc d = 5 then [addrLine (dDst d)] else if dOpc d = 7 then [addrLine (dDst d + unitLo d r.first)]
      else rangeLines (unitReads d r.first)
    writes := rangeLines (unitWrites d r.first), got := [], err := none, poison := none, res := (0, 0), acks := []
    halt := false }
  let t := withCo s { s.co with units := s.co.units ++ [u] }
  let v := match (if r.restart then none else descAt t r.chan r.gen r.entry) with
    | some e => putDesc t { e with started := e.started + 1 }
    | none => t
  if dOpc d = 8 then
    -- a migration that has nothing left to copy ends at once (step 5 of R195)
    (if 262144 ≤ slotW v u then pumpUnit (putUnit v { u with phase := .advance }) k pipe none else migCast v u .mark (slotW v u))
  else if landCells d r.first = 0 then pumpUnit v k pipe none
  else askLanding v u
/-- Take the lowest unit of a range entry. -/
def takeUnit (s : State) (k pipe : Nat) (r : UnitRange) : Option State :=
  (releaseNext s r).map (fun v =>
    startUnit (shrinkRange v.1 r { r with first := r.first + 1, count := r.count - 1 }) k pipe r v.2.1 v.2.2)
/-- Take from the coach's own deque: the oldest range whose next unit can be released. -/
def takeOwn (s : State) (k pipe : Nat) : Option State := ((dequeOf s k).filter (runnable s)).findSome? (takeUnit s k pipe)

/-- The thief's house is in the mask, and the range's units may be stolen (R165, R184). -/
def stealable (s : State) (r : UnitRange) (house : Nat) : Bool := r.ch.mask.testBit house && ! unsplit r.bits && runnable s r
/-- How many units a thief takes of `n` (R186). -/
def stolenOf (n : Nat) : Nat := if n = 1 then 1 else n / 2
/-- The quota of the range's channel has room for its unit `i` (R233). -/
def quotaRoom (s : State) (r : UnitRange) (i : Nat) : Bool :=
  r.released.isSome || decide (quotaUsed s r.chan + quotaCells r.bits i ≤ (chanOf s r.chan).quota * 256)
/-- Move units from the deque of coach `v` of the same house into that of coach `k`; a unit that its quota does not admit is
not stolen (R186, R233). -/
def stealRange (s : State) (k v : Nat) : Option (State × UnitRange) :=
  ((dequeOf s v).find? (fun r => stealable s r (houseOf k))).bind (fun r =>
    let n := stolenOf r.count
    let w := { r with first := r.first + (r.count - n), count := n, coach := some k }
    if dequeRoom s k && quotaRoom s r w.first then
      some (putRange (shrinkRange (perfHit s (houseOf k) 0x10 0 1 1) r { r with count := r.count - n }) w, w)
    else none)
/-- Steal from the coaches `l` in turn, and take the lowest stolen unit; units that no check releases stay in the thief's
deque, and the next coach is tried (R187, R310). The flag tells that a unit was taken. -/
def stealLocal (s : State) (k pipe : Nat) (l : List Nat) : State × Bool :=
  match l with
  | [] => (s, false)
  | v :: t =>
    match stealRange s k v with
    | none => stealLocal s k pipe t
    | some (u, w) =>
      match takeUnit u k pipe w with
      | some x => (x, true)
      | none => stealLocal u k pipe t
/-- Victims in the order of R187. -/
def victims (s : State) (k : Nat) : List Nat :=
  ((List.range 15).map (fun i => houseOf k * 16 + (k + 1 + i) % 16)).filter (fun v => coachState s v < 2)

/-- Other houses by hop count, ties by distance in number (R187). -/
def housesFrom (n : Nat) : List Nat :=
  (List.range 7).flatMap (fun h => ((List.range 15).map (fun i => (n + 1 + i) % 16)).filter (fun m => hops n m == h))

/-- Stealing controls of a house. -/
def localEn (s : State) (n : Nat) : Bool := rdBit s (R.COACH_HOUSE_CTRL n) 0
def remoteEn (s : State) (n : Nat) : Bool := rdBit s (R.COACH_HOUSE_CTRL n) 1
def remoteMin (s : State) (n : Nat) : Nat := max 1 (rd s (R.COACH_HOUSE_CTRL n) 11 8)
def setStealing (s : State) (k : Nat) (l : List Nat) : State :=
  withCo s { s.co with stealing := sPut s.co.stealing k [] l }
/-- Ask the first house of a thief's list (R188). -/
def askHouse (s : State) (k : Nat) (l : List Nat) : State :=
  match l with
  | [] => setStealing s k []
  | h :: _ =>
    send (setStealing s k l) (.stealreq (Fin.ofNat 16 h)
      { thief := coachAgent s k, minimum := BitVec.ofNat 4 (remoteMin s (houseOf k)) })

/-- The free pipeline of a coach that may take a unit. -/
def freePipe (s : State) (k : Nat) : Option Nat :=
  if ! coachUp s k || migrating s k then none else [0, 1].find? (fun p => (unitAt s k p).isNone)
/-- What the house holds while its coaches' deques are full goes to an active coach of it that has room (R206,
assumption 149). -/
def adoptRangesN (n : Nat) (s : State) (k : Nat) : State :=
  match n with
  | 0 => s
  | m + 1 =>
    match (if dequeRoom s k then s.co.ranges.find? (fun r => r.coach.isNone && r.house == houseOf k) else none) with
    | some r =>
      adoptRangesN m (withCo s { s.co with ranges := s.co.ranges.map (fun x => if x = r then { x with coach := some k } else x) }) k
    | none => s
def adoptRanges (s : State) (k : Nat) : State := if coachUp s k then adoptRangesN 16 s k else s
/-- COACH_TAKE_UNIT (R187). -/
def execCoachTakeUnit (coach : Fin 256) (s : State) : Host.Outcome State Fault Refusal :=
  .next (onFabric s
    (let k := coach.val
     let n := houseOf k
     let s := adoptRanges s k
     match freePipe s k with
     | none => s
     | some p =>
       match takeOwn s k p with
       | some t => t
       | none =>
         let r := if localEn s n then stealLocal s k p (victims s k) else (s, false)
         if ! r.2 && remoteEn s n && (sGet s.co.stealing k []).isEmpty && dequeRoom r.1 k then askHouse r.1 k (housesFrom n)
         else r.1))

/-! ### Remote steals (R188, R206, R311) -/

/-- Ranges that house `h` may grant to a thief of house `t`, with the units it would grant. -/
def grantable (s : State) (h t m : Nat) : List (UnitRange × Nat) :=
  (s.co.ranges.filter (fun r => r.house == h && stealable s r t)).filterMap (fun r =>
    match r.coach with
    | some _ => if m ≤ r.count then some (r, stolenOf r.count) else none
    | none => some (r, r.count))
/-- The oldest of those with the most unstarted units. -/
def bestRange (l : List (UnitRange × Nat)) : Option (UnitRange × Nat) :=
  l.foldl (fun acc x =>
    match acc with
    | none => some x
    | some y => if y.1.count < x.1.count then some x else some y) none
/-- Charge up to `n` units from unit `i`, stopping at the first that fails or whose colour differs (R311). -/
def chargeUnits (s : State) (r : UnitRange) (i n done : Nat) (lv : Option (Nat × Nat)) : State × Nat × Option (Nat × Nat) :=
  match n with
  | 0 => (s, done, lv)
  | m + 1 =>
    match release s r.chan r.bits i with
    | none => (s, done, lv)
    | some v =>
      -- the quota of the units charged so far counts with them
      let left := (chanOf s r.chan).quota * 256 -
        (quotaUsed s r.chan + ((List.range done).map (fun j => quotaCells r.bits (i - 1 - j))).foldl (· + ·) 0)
      if left < quotaCells r.bits i then (s, done, lv)
      else
        match lv with
        | none => chargeUnits v.1 r (i + 1) m (done + 1) (some v.2)
        | some x => if x.1 = v.2.1 then chargeUnits v.1 r (i + 1) m (done + 1) lv else (s, done, lv)
/-- STEALREQ: the house grants a range, or refuses (R188, R206, R311). -/
def execStealreq (house : Fin 16) (m : StealMsg) (s : State) : Host.Outcome State Fault Refusal :=
  .next (onFabric s (receive s (.stealreq house m) (fun t =>
    let h := house.val
    let k := coachNo m.thief
    let refuse (u : State) : State := sendFrom u (houseEp h) (.stealrep { thief := m.thief, owner := coachAgent u (16 * h) })
    match (if remoteEn t h then bestRange (grantable t h (houseOf k) (max 1 m.minimum.toNat)) else none) with
    | none => refuse t
    | some (r, n) =>
      let first := r.first + (r.count - n)
      let c := match r.released with
        | some v => (t, n, some v)
        | none => chargeUnits t r first n 0 none
      if c.2.1 = 0 then refuse c.1
      else
        let v : UnitRange := { r with first := first, count := c.2.1, house := houseOf k, coach := none, released := c.2.2 }
        let rest : UnitRange := { r with first := first + c.2.1, count := n - c.2.1 }
        let t1 := shrinkRange (perfHit c.1 (houseOf k) 0x10 0 1 1) r { r with count := r.count - n }
        let t2 := if n = c.2.1 then t1 else putRange t1 rest
        let t3 := withCo t2 { t2.co with transit := t2.co.transit ++ [v] }
        sendFrom t3 (houseEp h) (.stealrep {
          thief := m.thief, owner := r.owner, grant := true, index := BitVec.ofNat 16 r.chan, gen := r.gen, first := first
          count := c.2.1, entry := BitVec.ofNat 12 r.entry, desc := r.bits }))))

/-! ### Where units go when a coach cannot keep them (R203, R206) -/

/-- The active coach with room and the fewest unstarted units among some, lowest number first. -/
def fewest (s : State) (l : List Nat) : Option Nat :=
  (l.filter (fun k => coachUp s k && dequeRoom s k)).foldl (fun acc k =>
    match acc with
    | none => some k
    | some j => if dequeUnits s k < dequeUnits s j then some k else some j) none
/-- Where a range of coach `k` passes: its group, its house, or the house itself; a coach whose deque is full is passed over
(assumption 149). A unit to be run again goes where a range would (R203). -/
def heirOf (s : State) (k : Nat) : Option Nat :=
  match fewest s ((List.range 4).map (· + k / 4 * 4)) with
  | some j => some j
  | none => fewest s (coachesOf (houseOf k))
def passRange (s : State) (r : UnitRange) (k : Nat) : State :=
  withCo s { s.co with ranges := s.co.ranges.map (fun x => if sameRange x r then { x with coach := heirOf s k } else x) }
/-- Every range of a coach's deque passes on. -/
def passDeque (s : State) (k : Nat) : State := forAll (dequeOf s k) s (fun t r => passRange t r k)
/-- The retire stages of a coach's descriptors pass on; unit ends go to the new owner. -/
def passDescs (s : State) (k : Nat) : State :=
  forAll (s.co.descs.filter (fun d => d.owner == some k && d.stage != .done)) s (fun t d =>
    let j := chooseCoach t (houseOf k)
    match j with
    | some j => noteChosen (putDesc t { d with owner := some j }) j
    | none => putDesc t { d with owner := none })

/-- STEALREP: the range enters the thief's deque and its lowest unit is taken; a refusal asks the next house (R187,
R188). -/
def execStealrep (m : StealMsg) (s : State) : Host.Outcome State Fault Refusal :=
  .next (onFabric s (receive s (.stealrep m) (fun t0 =>
    let k := coachNo m.thief
    let t := unreserve t0 (.steal m.thief)
    if ! m.grant then
      (if coachUp t k then askHouse t k ((sGet t.co.stealing k []).drop 1) else setStealing t k [])
    else
      let u := setStealing t k []
      match u.co.transit.find? (fun r => r.chan == m.index.toNat && r.gen == m.gen && r.entry == m.entry.toNat && r.first == m.first) with
      | none => u
      | some r =>
        let w := { r with coach := some k }
        let x := putRange (withCo u { u.co with transit := u.co.transit.erase r }) w
        if ! coachUp x k then passRange x w k
        else (freePipe x k).elim x (fun p => (takeUnit x k p w).getD x))))

/-- UNITEND: a stolen unit's end reaches the owning coach's retire stage (R190). -/
def execUnitend (m : StealMsg) (s : State) : Host.Outcome State Fault Refusal :=
  .next (onFabric s (receive s (.unitend m) (fun t =>
    startDescs (unitEnded t m.index.toNat m.gen m.entry.toNat ⟨m.first, m.status.toNat, m.errOffset.toNat⟩
      (m.result0, m.result1)))))

/-! ### Landing cells (R251, R317) -/

/-- LANDING_GRANT: the reservation at the head of its admission point gets its cells, from the minimum, or from the shared
pool where its meter shows green and R246 holds. A landing reservation has no queue: its Q is taken as 0 (assumption 94). A
unit that waits for a single cell tries again. -/
def execLandingGrant (coach : Fin 256) (pipe : Fin 2) (s : State) : Host.Outcome State Fault Refusal :=
  .next (onFabric s
    (match s.buf.lands.find? (fun x => x.coach == coach && x.pipe == pipe), unitAt s coach pipe with
     | some x, some u =>
       let n := x.region
       let head := leastTag (waitingAt s n 8 x.cls)
       if head ≠ some ⟨x.tag, x.flow, none⟩ then s
       else
         let fromMin := decide (minUsed s n 8 x.cls + x.cells ≤ bufMin s n 8 x.cls)
         let fromPool := decide (x.level = 1) && sharedFits s n 8 x.cls x.cells 0
         if ! fromMin && ! fromPool then s
         else
           let t := if fromMin then takeMin s n 8 x.cls x.cells else takeShared s n 8 x.cls x.cells
           let b := { t.buf with lands := t.buf.lands.erase x, vtime := sPut t.buf.vtime (admKey n 8 x.cls) 0 x.tag }
           let v := { u with cells := x.cells, shared := ! fromMin, phase := if dOpc u.bits = 8 then .copy else .lines }
           let g := dSrc u.bits + slotW t u * 4096
           let w := if dOpc u.bits = 8 then { v with reads := rangeLines [(g, 4096)], writes := [], got := [] } else v
           pumpUnit (admitHeads (putUnit (withBuf t b) w) n 8 x.cls) coach pipe none
     | _, _ => pumpUnit s coach pipe none))

/-! ### Migration slots in the regions (R193, R195, R196, R198) -/

/-- Held accesses of a busy granule leave for the new location's device port cell (R196). -/
def redirectHeld (s : State) (n i : Nat) : State :=
  let v := migSlot s n i
  let b := bankNow s
  let old := segPort b v.segment
  let new := migPort b v.segment
  withDp s { s.dp with wait := s.dp.wait.map (fun o =>
    if o.port = old ∧ o.moved = none ∧ portRegion old = n ∧ segOf (lineAddr o.line) = v.segment ∧ granuleOf (lineAddr o.line) = v.w
    then { o with moved := some new } else o) }
/-- Issue what a change of a slot has freed at the device ports it names. -/
def pumpSlot (s : State) (i n : Nat) : State :=
  let b := bankNow s
  let g := (migSlot s n i).segment
  pumpPort (pumpPort s (segPort b g)) (migPort b g)

/-- MIGMARK: the region marks the granule busy and acknowledges (R195 step 1). -/
def execMigmark (region : Fin 16) (m : MigMsg) (s : State) : Host.Outcome State Fault Refusal :=
  .next (onFabric s (receive s (.migmark region m) (fun t =>
    let v := migSlot t region m.slot
    send (setSlot t region m.slot { v with valid := true, segment := m.segment.toNat, w := m.w, running := some m.coach, busy := true })
      (.migack m.slot .mark region t.dev.pid))))
/-- MIGADVANCE: the watermark moves, the granule is free and its held accesses go to the new location (R195 step 4,
R196); the last advance ends the run. -/
def execMigadvance (region : Fin 16) (m : MigMsg) (s : State) : Host.Outcome State Fault Refusal :=
  .next (onFabric s (receive s (.migadvance region m) (fun t =>
    let u := redirectHeld t region m.slot
    let v := migSlot u region m.slot
    let w := setSlot u region m.slot { v with w := m.w, busy := false }
    -- the answer goes to the running coach's house, so it leaves before the run ends
    let x := send w (.migack m.slot .advance region w.dev.pid)
    pumpSlot (if m.w = 262144 then setSlot x region m.slot { migSlot x region m.slot with running := none } else x) m.slot region)))
/-- MIGUNMARK: the granule is free, W is unchanged and the run has ended (R198). -/
def execMigunmark (region : Fin 16) (m : MigMsg) (s : State) : Host.Outcome State Fault Refusal :=
  .next (onFabric s (receive s (.migunmark region m) (fun t =>
    let x := send t (.migack m.slot .unmark region t.dev.pid)
    let v := migSlot x region m.slot
    pumpSlot (setSlot x region m.slot { v with busy := false, running := none }) m.slot region)))

/-- The unit that runs the migration of a slot on this twin. -/
def slotUnit (s : State) (i : Nat) : Option UnitRun := s.co.units.find? (fun u => dOpc u.bits == 8 && unitSlot s u == some i)
/-- The phase that an acknowledgement belongs to. -/
def ackPhase (k : MigKind) : UnitPhase :=
  match k with
  | .mark => .mark
  | .unmark => .unmark
  | .advance => .advance
/-- An acknowledgement of a broadcast has arrived: the space held for it is free, for the other twin's with its last
(R285, R287). -/
def ackSpace (s : State) (left : List Nat) (region : Fin 16) (pid : Bool) (r : Nat → ResvFor) : State :=
  if pid = s.dev.pid then unreserve s (r region)
  else if left.any (fun n => n / 16 == pid.toNat) then s
  else unreserve s (r 16)
/-- The space held for the acknowledgements that a unit awaits, by region (16 for the other twin's). -/
def awaitedSpace (s : State) (u : UnitRun) : Option (Nat → ResvFor) :=
  let ofSlot (k : MigKind) : Option (Nat → ResvFor) := (unitSlot s u).map (fun i => .migration i k)
  match u.phase with
  | .tagInv => (colourLineOf s (tagGranule u)).map (fun l => .tagInv (houseOf u.coach) l)
  | .mark => ofSlot .mark
  | .unmark => ofSlot .unmark
  | .advance => ofSlot .advance
  | _ => none
/-- Region `region` of twin `pid` has acknowledged what unit `u` has broadcast, or counts as having done so. -/
def answerFrom (s : State) (u : UnitRun) (region : Fin 16) (pid : Bool) : State :=
  let left := u.acks.erase (16 * pid.toNat + region)
  let t := (awaitedSpace s u).elim s (ackSpace s left region pid)
  startDescs (pumpUnit (putUnit t { u with acks := left }) u.coach u.pipe none)
/-- A region leaves service: every acknowledgement that a unit awaits from it counts as given (R83, assumption 143). -/
def regionAnswered (s : State) (region : Fin 16) (pid : Bool) : State :=
  forAll (s.co.units.map (fun u => (u.coach, u.pipe))) s (fun t k =>
    match t.co.units.find? (fun u => (u.coach, u.pipe) == k) with
    | some u => if u.acks.contains (16 * pid.toNat + region) then answerFrom t u region pid else t
    | none => t)
/-- MIGACK (R195). -/
def execMigack (slot : Fin 16) (kind : MigKind) (region : Fin 16) (pid : Bool) (s : State) :
    Host.Outcome State Fault Refusal :=
  .next (onFabric s (receive s (.migack slot kind region pid) (fun t =>
    match slotUnit t slot with
    | some u => if u.phase = ackPhase kind then answerFrom t u region pid else t
    | none => t)))
/-- MIG_STEP_TIMEOUT: a step that is still unfinished fails with TIMEOUT, and the slot is unmarked (R198, R200). A region that
has taken the advance of that step keeps its W (assumption 147). -/
def execMigStepTimeout (slot : Fin 16) (s : State) : Host.Outcome State Fault Refusal :=
  .next (onFabric s
    (match slotUnit s slot with
     | some u =>
       if u.phase = .unmark then s
       else
         let v := failUnit u 7 0
         let t := freeLanding s v
         let w := withCo t { t.co with reqs := t.co.reqs.map (fun r =>
           if r.coach = u.coach ∧ r.pipe = some u.pipe then { r with ended := true } else r) }
         pumpUnit (migCast w { v with cells := 0, reads := [], writes := [] } .unmark (slotW w u)) u.coach u.pipe none
     | none => s))

/-! ### Tag invalidations (R83) -/

/-- TAGINV: the region drops the line and acknowledges. -/
def execTaginv (region : Fin 16) (house : Fin 16) (pid : Bool) (line : LAddr) (s : State) :
    Host.Outcome State Fault Refusal :=
  .next (onFabric s (receive s (.taginv region house pid line) (fun t =>
    let u := tagDropLine t region line
    let a : Instr := .tagack house line region u.dev.pid
    if pid = u.dev.pid then send u a else sendTwin u (servicesEp region) a)))
/-- TAGACK: one region has dropped the line. -/
def execTagack (house : Fin 16) (line : LAddr) (region : Fin 16) (pid : Bool) (s : State) :
    Host.Outcome State Fault Refusal :=
  .next (onFabric s (receive s (.tagack house line region pid) (fun t =>
    let mine (u : UnitRun) : Bool :=
      houseOf u.coach == house.val && u.phase == .tagInv && u.acks.contains (16 * pid.toNat + region) &&
        colourLineOf t (tagGranule u) == some line
    match t.co.units.find? mine with
    | some u => answerFrom t u region pid
    | none => t)))

/-! ### Retirement (R202 to R206) -/

/-- CAUSE of COACH_FAULT. -/
def causeCode (c : CoachCause) : Nat :=
  match c with
  | .cacheUncorrectable => 1
  | .pipelineParity => 2
  | .dequeParity => 3
  | .declaredLost => 4
/-- A unit that had started in a faulty coach runs again from its first byte, whatever has become of its descriptor; ATOMIC ends
with COACH_FAULT; a MIGRATE step is unmarked (R203 step 4). The spec names no coach for it and no place: it goes, first in its
deque, to the coach that a range of the faulty coach passes to (assumption 162). -/
def reExecute (s : State) (u : UnitRun) : State :=
  let t := withCo s { s.co with reqs := s.co.reqs.map (fun r =>
    if r.coach = u.coach ∧ r.pipe = some u.pipe then { r with ended := true, data := none, cell := none } else r) }
  if dOpc u.bits = 5 then endUnit t (failUnit u 9 0) (0, 0)
  else if dOpc u.bits = 8 then
    migCast (freeLanding t u) { failUnit u 9 0 with cells := 0, reads := [], writes := [] } .unmark (slotW t u)
  else
    let v := dropUnit (freeLanding t u) u
    let r : UnitRange := ⟨u.chan, u.gen, u.entry, u.unit, 1, houseOf u.coach, heirOf v u.coach, u.bits, u.owner, u.ch,
      some (u.level, u.flow), true⟩
    withCo v { v.co with ranges := r :: v.co.ranges }
/-- A unit is fenced: its reservations are released, and what its region owed to broadcasts counts as answered (R30, R83,
R290). -/
def addFence (s : State) (u : FenceUnit) : State :=
  let t := releaseUnit { s with dev := { s.dev with fenced := if s.dev.fenced.contains u then s.dev.fenced else s.dev.fenced ++ [u] } } u
  match u with
  | .region n => regionAnswered t n t.dev.pid
  | _ => t
/-- COACH_FAULT: a faulty retirement (R203, R207). -/
def execCoachFault (coach : Fin 256) (cause : CoachCause) (s : State) : Host.Outcome State Fault Refusal :=
  .next (onFabric s (receive s (.coachFault coach cause) (fun t0 =>
    let k := coach.val
    if 2 ≤ coachState t0 k then t0
    else
      let t := raiseEv (setCoachState (wr t0 (R.COACH_FAULT k) 3 0 (causeCode cause)) k 3) (coachEv k)
      -- the line cache and what waits for DataGo are discarded
      let u := withCo t { t.co with
        cache := sDrop t.co.cache (fun i => i / 64 == k), held := t.co.held.filter (fun c => c.coach != k)
        victims := t.co.victims.filter (fun v => v.1 != k), stealing := sDel t.co.stealing k }
      let d := addFence u (.coach coach)
      -- a home that declared the coach lost has sent the notices already
      let v := if cause = .declaredLost then d else noticeLoss d (servicesEp (houseOf k)) (coachAgent d k)
      let w := passDeque v k
      let x := forAll (w.co.units.filter (fun y => y.coach == k)) w reExecute
      startDescs (passDescs x k))))
/-- Begin an orderly retirement (R204): the deque and the retire stages pass on, and every line leaves the cache; what a unit
that still runs brings into it leaves as its request ends (`finishCreq`). -/
def startRetire (s : State) (k : Nat) : State :=
  if coachState s k ≠ 0 then s
  else startDescs (passDescs (passDeque (flushCache (raiseEv (setCoachState s k 1) (coachEv k)) k) k) k)
/-- COACH_RETIRE (R202, R204); a region held in reset accepts no retirement (R32). -/
def execCoachRetire (coach : Fin 256) (s : State) : Host.Outcome State Fault Refusal :=
  .next (onFabric s (if parentDown s (.coach coach) then s else startRetire s coach))
/-- COACH_RETIRE_DONE: its units, its requests and the lines of its cache are gone; the loss notice goes out (R204). -/
def execCoachRetireDone (coach : Fin 256) (s : State) : Host.Outcome State Fault Refusal :=
  .next (onFabric s
    (let k := coach.val
     let busy := s.co.units.any (fun u => u.coach == k) || s.co.reqs.any (fun r => r.coach == k && ! r.ended) || ! cacheEmpty s k
     if coachState s k = 1 && ! busy then
       setCoachState (noticeLoss s (servicesEp (houseOf k)) (coachAgent s k)) k 2
     else s))
/-- COACH_RESET: a retired or faulted coach is reset at cell level and its self-test starts (R205). -/
def resetCoach (s : State) (coach : Fin 256) : State :=
  let k := coach.val
  if coachState s k < 2 then s
  else
    let st := coachState s k
    let t := clearRegs s (fun o => decide (R.COACH_CTRL k ≤ o) && decide (o < R.COACH_CTRL k + 0x100) && levelOf o == .cell)
    let u := setCoachState t k st
    let d := { u.dev with held := if u.dev.held.contains (.coach coach) then u.dev.held else u.dev.held ++ [.coach coach] }
    withCo { u with dev := d } { u.co with
      cache := sDrop u.co.cache (fun i => i / 64 == k), held := u.co.held.filter (fun c => c.coach != k)
      victims := u.co.victims.filter (fun v => v.1 != k), reqs := u.co.reqs.filter (fun r => r.coach != k) }
/-- COACH_SELF_TEST_DONE: the reset ends; a coach that fails stays retired with CAUSE 0x5 (R205). Bit 31 of COACH_CTRL, reserved, holds
that it has passed (assumption 16). -/
def execCoachSelfTestDone (coach : Fin 256) (pass : Bool) (s : State) : Host.Outcome State Fault Refusal :=
  .next (onFabric s
    (if ! s.dev.held.contains (.coach coach) then s
     else
       let t := { s with dev := { s.dev with held := s.dev.held.erase (.coach coach), fenced := s.dev.fenced.erase (.coach coach) } }
       let u := setCoachState t coach 2
       if pass then wrBit u (R.COACH_CTRL coach) 31 true else wr u (R.COACH_FAULT coach) 3 0 5))
/-- COACH_REINSTATE: a reset, retired coach returns to service (R205). -/
def execCoachReinstate (coach : Fin 256) (s : State) : Host.Outcome State Fault Refusal :=
  .next (onFabric s
    (let k := coach.val
     if coachState s k = 2 ∧ rdBit s (R.COACH_CTRL k) 31 = true then
       -- what the house holds goes to a coach again (R206)
       let t := setCoachState (wrBit s (R.COACH_CTRL k) 31 false) k 0
       let u := withCo t { t.co with
         ranges := t.co.ranges.map (fun r => if r.house = houseOf k ∧ r.coach = none then { r with coach := some k } else r)
         descs := t.co.descs.map (fun d => if d.house = houseOf k ∧ d.stage ≠ .done ∧ d.units ≠ 0 ∧ d.owner = none then { d with owner := some k } else d) }
       startDescs u
     else s))

/-! ### Colour initialisation (R78) -/

/-- The colour bytes of segment `g` in its carve-out: 2,048 whole lines (R77). -/
def colourLines (c g : Nat) : List LAddr := (List.range 2048).map (fun i => addrLine (colourByte c (g * 2 ^ 30) + 64 * i))
/-- Write one whole carve-out line through the coach house of region (slice div 2) at the device port that R192 names; the
write takes no cell of the crossbar (assumption 146). -/
def writeColours (s : State) (b : Byte) (l : LAddr) : State :=
  let n := hashSlice (lineAddr l) / 2
  dpArrive s ⟨portFor s n (lineAddr l), l, none, some (.colour, mkLine (fun _ => b), fullMask, false), 0x3FF,
    some (epochBit s), none⟩
/-- COLOUR_INIT_START: the coordinator's keeper starts the fill of the waiting segments, once the other twin has answered
SWITCHED (R78). -/
def execColourInitStart (s : State) : Host.Outcome State Fault Refusal :=
  .next (onFabric s
    (if s.pool.colourInit = [] ∨ s.txn.sentSwitch = true ∨ s.pool.colourMine = false ∨ s.pool.colourRunning = true then s
     else
       forAll s.pool.colourInit { s with pool := { s.pool with colourRunning := true } } (fun t g =>
         match carveSeg (bankNow t) g with
         | some c => forAll (colourLines c g) t (fun u l => writeColours u (BitVec.ofNat 8 (17 * segColour (bankNow t) g)) l)
         | none => t)))

/-! ### A twin is lost (R199) -/

/-- The survivor sets W in all its regions to the highest that any holds, with nothing busy; a slot that the lost twin ran
stops running. Its own broadcasts wait for this twin's regions alone. -/
def migTakeover (s : State) : State :=
  let hi (i : Nat) : Nat := ((List.range 16).map (fun n => (migSlot s n i).w)).foldl max 0
  let lostRun (i : Nat) : Bool := (List.range 16).any (fun n => (migSlot s n i).running.elim false (fun a => ! ownAgent s a))
  let t := forAll (List.range 16) s (fun u i =>
    if lostRun i then
      forAll (List.range 16) u (fun v n => pumpSlot (setSlot v n i { migSlot v n i with w := hi i, busy := false, running := none }) i n)
    else u)
  let copies (r : Resv) : Bool :=
    match r.what with
    | .tagInv _ _ c => c == 16
    | .migration _ _ c => c == 16
    | _ => false
  let n := withNoc t { t.noc with resv := t.noc.resv.filter (fun r => ! copies r) }
  let u := withCo n { n.co with units := n.co.units.map (fun x => { x with acks := x.acks.filter (fun n => n / 16 == pidNat t) }) }
  forAll (u.co.units.map (fun x => (x.coach, x.pipe))) u (fun v x => pumpUnit v x.1 x.2 none)

end Sys2Proof.Machine
end

