-- ==== Sys2Proof/Machine/Chan.lean ====
section
/-! DEFINITION. Channels (06): handles, life cycle, doorbells, descriptor reads, completion records, aborts and resets. -/

namespace Sys2Proof.Machine

/-! ### Handles and limits (R208 to R214) -/

/-- XOR of the nibbles of a number of `n` nibbles. -/
def nibbleXor (n v : Nat) : Nat := ((List.range n).map (fun i => v / 16 ^ i % 16)).foldl Nat.xor 0
/-- The handle of index `c` (R211). -/
def handleOf (ch : Chan) (c : Nat) : Word :=
  let check := Nat.xor (nibbleXor 3 ch.gen.toNat) (Nat.xor (nibbleXor 4 c) (ch.tenant % 16))
  BitVec.ofNat 32 (ch.gen.toNat * 2 ^ 20 + check * 2 ^ 16 + c)
/-- The index that a handle names, where it passes R213 for tenant `t`; none for the tenant that owns the context. From the
moment a reset begins the old handle names nothing, also while the context waits in RESETTING (R230). -/
def handleIndex (s : State) (h : Word) (t : Option Nat) : Option Nat :=
  let c := h.toNat % 65536
  let ch := chanOf s c
  if (ch.st = .active ∨ ch.st = .halted) ∧ handleOf ch c = h ∧ (t.elim true (fun x => x == ch.tenant)) = true then some c else none

/-- Descriptors of a ring: D. -/
def ringSize (ch : Chan) : Nat := 16 * 2 ^ ch.depth
/-- Channels of a tenant. -/
def chansOf (s : State) (t : Nat) : List (Nat × Chan) := s.co.chans.filter (fun x => x.2.st != .free && x.2.tenant == t)
/-- Tenant words of a bank. -/
def tenW (b : SMap Word) (t k : Nat) : Word := sGet b (R.STX_TENANT_W0 t + 4 * k) 0
/-- Host port and function of a tenant (R208, R400). -/
def tenantPort (s : State) (t : Nat) : Nat := fld (tenW s.banks.live t 0) 29 23
def tenantFn (s : State) (t : Nat) : Nat := fld (tenW s.banks.live t 0) 22 15 + 1
/-- Descriptors of a tenant's channels in units of 16, and its memory quota in cells, which started units of a destroyed
channel still hold (R217, R232). -/
def depthUsed (s : State) (t : Nat) : Nat := ((chansOf s t).map (fun x => 2 ^ x.2.depth)).foldl (· + ·) 0
def poolCells (s : State) (t : Nat) : Nat :=
  ((chansOf s t).map (fun x => x.2.quota * 256)).foldl (· + ·) 0 +
    quotaOf s (fun i ch => ch.tenant == t && ch.life != (chanOf s i).life)
/-- The live channels of tenant `t` fit its limits in a bank (R209, R210). -/
def tenantFits (s : State) (b : SMap Word) (t : Nat) : Bool :=
  let l := chansOf s t
  let w0 := tenW b t 0
  let w1 := tenW b t 1
  let w2 := tenW b t 2
  l.isEmpty ||
    (bitAt w0 31 && decide (l.length ≤ fld w0 8 0) && decide (depthUsed s t ≤ fld w1 11 0) &&
      decide (((l.map (fun x => x.2.quota)).foldl (· + ·) 0) ≤ fld w2 15 0) &&
      l.all (fun x => decide (Nat.land x.2.mask (fld w1 31 16) = x.2.mask) && bitAt w1 (12 + x.2.tc) &&
        decide (fld w2 23 16 ≤ x.2.rate) && decide (x.2.rate ≤ fld w2 31 24) && (! x.2.priv || bitAt w0 30)))

/-! ### Fetching (R167, R219, R220) -/

/-- The function may read and write host memory: present, enabled, in D0, its link active, not in a function-level reset
(R220, R404, R421). -/
def fnMayDma (s : State) (p f : Nat) : Bool :=
  fnPresent s p f && busMaster s p f && memEnable s p f && ! inD3 s p f && linkActive s p && ! inFlr s p f &&
    ! unitDown s (.cell (Fin.ofNat 128 p))
/-- Reads outstanding of a tenant's function (R403). -/
def readsOut (s : State) (t : Nat) : Nat :=
  (s.co.descs.filter (fun d => d.stage == .fetch && d.lost.isNone && (chanOf s d.chan).tenant == t)).length
/-- The channel's house may fetch its next descriptor. -/
def mayFetch (s : State) (ch : Chan) : Bool :=
  ch.st == .active && ch.fetch != ch.tail && decide ((ch.fetch + ringSize ch - ch.head) % ringSize ch < 32) &&
    fnMayDma s (tenantPort s ch.tenant) (tenantFn s ch.tenant) && decide (readsOut s ch.tenant < 64) &&
    (coachesOf ch.house).any (fun k => coachUp s k)
/-- Read descriptors of channel `c` as far as its house may. -/
def fetchN (n : Nat) (s : State) (c : Nat) : State :=
  match n with
  | 0 => s
  | m + 1 =>
    let ch := chanOf s c
    if ! mayFetch s ch then s
    else
      let d : Desc := {
        chan := c, gen := ch.gen, entry := ch.fetch, house := ch.house, stage := .fetch, bits := 0, owner := none, units := 0
        started := 0, ended := 0, errs := [], res := [], stopped := false, aborted := ch.aborts.contains ch.fetch
        firstLeft := none, record := none }
      let t := setChan s c { ch with fetch := (ch.fetch + 1) % ringSize ch, aborts := ch.aborts.erase ch.fetch }
      let u := withCo t { t.co with descs := t.co.descs ++ [d] }
      fetchN m (emit u (.dmaRead (tenantPort s ch.tenant) (tenantFn s ch.tenant)
        (ch.sq + BitVec.ofNat 64 (64 * ch.fetch)) c ch.gen ch.fetch)) c
def fetchChan (s : State) (c : Nat) : State := fetchN 32 s c
/-- Every channel fetches what it may. -/
def fetchAll (s : State) : State := forAll (s.co.chans.map (·.1)) s fetchChan

/-- A channel halts (R224). -/
def haltChan (s : State) (c cause : Nat) : State :=
  let ch := chanOf s c
  if ch.st = .active then raiseEv (setChan s c { ch with st := .halted, cause := cause }) (regionEv ch.house 18) else s

def fetchAt (s : State) (c : Nat) (g : BitVec 12) (e : Nat) : Option Desc :=
  s.co.descs.find? (fun d => d.chan == c && d.gen == g && d.entry == e && d.stage == .fetch)
def dropDesc (s : State) (d : Desc) : State := withCo s { s.co with descs := s.co.descs.filter (fun x => ! sameDesc x d) }
/-- The item belongs to the channel's present life (R226). -/
def ofLife (s : State) (c : Nat) (g : BitVec 12) : Bool :=
  g == (chanOf s c).gen && ((chanOf s c).st == .active || (chanOf s c).st == .halted)
/-- An unexpected completion at a host port (R397, R398). -/
def unexpectedAt (s : State) (p : Nat) : State := unexpected s p

/-- DESCRIPTOR_FETCH_DONE (R166, R173, R220, R226, R424). -/
def execDescriptorFetchDone (chan : BitVec 16) (gen : BitVec 12) (entry : BitVec 12) (r : FetchResult) (s : State) :
    Host.Outcome State Fault Refusal :=
  .next (onFabric s
    (let c := chan.toNat
     let p := tenantPort s (chanOf s c).tenant
     let f := tenantFn s (chanOf s c).tenant
     match fetchAt s c gen entry.toNat with
     | none => unexpectedAt s p
     | some d =>
       match d.lost with
       | some log =>
         let t := unexpectedAt (if ofLife s c gen then s else dropDesc s d) p
         if log then logUncorrectable t p f 16 else t
       | none =>
         let t := match r with
           | .poisoned => logUncorrectable s p f 12
           | _ => s
         if ! ofLife s c gen then fetchAll (discardItem (dropDesc t d) c)
         else
           match r with
           | .data bits => fetchAll (startDescs (putDesc t { d with stage := .ready, bits := bits }))
           | _ => fetchAll (haltChan (putDesc t { d with lost := some false }) c 1)))

/-- A read has not been completed in time, or its link is lost: the function logs it and the channel halts (R395, R423). -/
def endRead (s : State) (d : Desc) : State :=
  let t := logUncorrectable (putDesc s { d with lost := some true }) (tenantPort s (chanOf s d.chan).tenant)
    (tenantFn s (chanOf s d.chan).tenant) 14
  if ofLife s d.chan d.gen then haltChan t d.chan 1 else t
/-- DMA_READ_TIMEOUT (R423). -/
def execDmaReadTimeout (chan : BitVec 16) (gen : BitVec 12) (entry : BitVec 12) (s : State) :
    Host.Outcome State Fault Refusal :=
  .next (onFabric s
    (match fetchAt s chan.toNat gen entry.toNat with
     | some d => if d.lost.isNone then fetchAll (endRead s d) else s
     | none => s))

/-! ### Doorbells (R222, R223) -/

/-- A rejected doorbell write is counted. -/
def dbReject (s : State) (t : Nat) : State :=
  wr s (R.STX_TENANT_STAT t) 31 16 (satUp (rd s (R.STX_TENANT_STAT t) 31 16))
/-- A doorbell write of function `f` of port `p` at BAR 2 offset `off`. -/
def doorbellNow (s : State) (p f off size : Nat) (v : BitVec 64) : State :=
  match tenantOf s p f with
  | none => s
  | some t =>
    match (if size = 8 ∧ off % 0x1000 = 0 then handleIndex s (v.extractLsb' 0 32) (some t) else none) with
    | none => dbReject s t
    | some c =>
      let ch := chanOf s c
      let n := ringSize ch
      let x := (v.extractLsb' 32 16).toNat
      if ch.slot ≠ off / 0x1000 then dbReject s t
      -- doorbells are accepted from fabric ready on (step 10 of R534)
      else if ch.st ≠ .active ∨ rdBit s R.RST_BRINGUP 31 = false then s
      else if n ≤ x ∨ (ch.head + n - 1 + n - ch.tail) % n < (x + n - ch.tail) % n then haltChan s c 2
      else fetchChan (setChan s c { ch with tail := x }) c

/-! ### Completion records (R182, R221) -/

/-- The four words of a record (R221). -/
def recordWords (d : Desc) (r : Rec) (phase : Bool) : List (BitVec 64) :=
  [BitVec.ofNat 64 (dTag d.bits + r.status % 256 * 2 ^ 32 + phase.toNat * 2 ^ 40 + d.entry * 2 ^ 48), r.r0, r.r1,
    BitVec.ofNat 64 (r.err % 2 ^ 32 + d.gen.toNat * 2 ^ 32)]
/-- RECORD_WRITE: the record of the oldest descriptor, once its function may write; HEAD moves on and NOTIFY raises the
channel's vector. -/
def execRecordWrite (chan : BitVec 16) (s : State) : Host.Outcome State Fault Refusal :=
  .next (onFabric s
    (let c := chan.toNat
     let ch := chanOf s c
     let p := tenantPort s ch.tenant
     let f := tenantFn s ch.tenant
     match (if ofLife s c ch.gen && fnMayDma s p f then descAt s c ch.gen ch.head else none) with
     | none => s
     | some d =>
       match d.record with
       | none => s
       | some r =>
         let t := emit (dropDesc s d) (.dmaWrite p f (ch.cq + BitVec.ofNat 64 (32 * ch.head)) (recordWords d r ch.phase))
         let last := ch.head + 1 == ringSize ch
         let u := setChan t c { ch with
           head := if last then 0 else ch.head + 1, phase := if last then ! ch.phase else ch.phase }
         startDescs (fetchAll (if dNotify d.bits then raiseVector u p f ch.vector else u))))

/-! ### Abort (R227, R228) -/

/-- Units of a descriptor that migrate end after their step (R228). -/
def haltMigrate (s : State) (c : Nat) (g : BitVec 12) (e : Option Nat) : State :=
  withCo s { s.co with units := s.co.units.map (fun u =>
    if u.chan = c ∧ u.gen = g ∧ dOpc u.bits = 8 ∧ e.elim true (fun x => x == u.entry) = true then { u with halt := true } else u) }
def abortResult (s : State) (c e r : Nat) : State := setChan s c { chanOf s c with abortRes := r, abortIdx := e }
/-- An abort of entry `e`, decided where the descriptor stands. On a context that is resetting nothing is left to abort; one that
is FREE has no channel, and nothing changes (assumption 163). -/
def abortEntry (s : State) (c e : Nat) : State :=
  let ch := chanOf s c
  let n := ringSize ch
  let at_ (x : Nat) : Nat := (x + n - ch.head) % n
  if ch.st = .free then s
  else if ch.st = .resetting then abortResult s c e 2
  else if n ≤ e ∨ at_ ch.tail ≤ at_ e then abortResult s c e 2
  else
    match descAt s c ch.gen e with
    | none =>
      let t := abortResult s c e 1
      setChan t c { chanOf t c with aborts := if ch.aborts.contains e then ch.aborts else ch.aborts ++ [e] }
    | some d =>
      match d.stage with
      | .done => abortResult s c e 2
      | .run =>
        let r := stopDesc (abortResult s c e 1) { d with aborted := true }
        startDescs (settleDesc (haltMigrate r.1 c ch.gen (some e)) r.2)
      | _ => startDescs (putDesc (abortResult s c e 1) { d with aborted := true })
/-- CH_CTRL_ABORT. -/
def execChCtrlAbort (chan : BitVec 16) (index : BitVec 12) (s : State) : Host.Outcome State Fault Refusal :=
  .next (onFabric s (abortEntry s chan.toNat index.toNat))

/-! ### Reset and destroy (R212, R217, R226, R229) -/

/-- The channel's old life ends: its records and its unstarted units are dropped, reads under way come back to be
discarded, and the generation advances unless a started unit carries the next. -/
def endLife (s : State) (c : Nat) (toFree : Bool) : State :=
  let ch := chanOf s c
  if ch.st = .free then s
  else if ch.st = .resetting then setChan s c { ch with toFree := ch.toFree || toFree }
  else
    let mine (d : Desc) : Bool := d.chan == c && d.gen == ch.gen
    let t := forAll (s.co.descs.filter (fun d => mine d && d.stage == .done)) s (fun u _ => discardItem u c)
    -- units that a failed coach had started run to their end, but for those that no coach has taken over (R206, R226)
    let keep (r : UnitRange) : Bool := ! (r.chan == c && r.gen == ch.gen) || (r.restart && r.coach.isSome)
    let waiting := t.co.descs.filter (fun d => mine d && d.stage == .run && d.started == 0 && dOpc d.bits == 8)
    let t := forAll waiting t (fun v d => (stopAccepted v d.house d.bits).1)
    let u := haltMigrate (withCo t { t.co with
      descs := t.co.descs.filter (fun d => ! mine d || d.stage == .fetch)
      ranges := t.co.ranges.filter keep
      transit := t.co.transit.filter keep }) c ch.gen none
    let v := setChan u c { ch with toFree := toFree, aborts := [] }
    startDescs
      (if genStarted v c (nextGen ch.gen) then setChan v c { chanOf v c with st := .resetting } else advanceGen v c)
/-- CH_CTRL_RESET. -/
def execChCtrlReset (chan : BitVec 16) (s : State) : Host.Outcome State Fault Refusal :=
  .next (onFabric s (endLife s chan.toNat false))
/-- Every channel of a tenant is reset by a function-level reset of its function: its reads are ended, and their
completions are unexpected and not logged (R231, R421). -/
def endTenant (s : State) (t : Nat) : State :=
  let l := (chansOf s t).map (·.1)
  let u := withCo s { s.co with descs := s.co.descs.map (fun d =>
    if d.stage = .fetch ∧ (chanOf s d.chan).tenant = t then { d with lost := some false } else d) }
  forAll l u (fun v c => endLife v c false)

/-! ### The command interface (R215 to R218) -/

/-- Finish a channel command with a result code. -/
def chanCode (s : State) (code : Nat) : State := wr s R.STX_CHAN_STATUS 7 0 code
/-- A command runs: GO has no effect while BUSY is 1. -/
def onChanCmd (s : State) (t : State) : State := onFabric s (if rdBit s R.STX_CHAN_STATUS 31 then s else t)
/-- The channel that CREATE's arguments describe. -/
def argChan (s : State) : Chan :=
  let a0 := rdWord s R.STX_CHAN_ARG0
  let a1 := rdWord s R.STX_CHAN_ARG1
  let a2 := rdWord s R.STX_CHAN_ARG2
  { st := .active, priv := bitAt a0 31, tenant := fld a0 27 16, slot := fld a0 15 8, depth := fld a0 3 0
    mask := fld a1 31 16, house := fld a1 15 12, tc := fld a1 9 8, quota := fld a1 7 0
    sq := rd64 s R.STX_CHAN_SQ_BASE &&& ~~~ 0xFFF, cq := rd64 s R.STX_CHAN_CQ_BASE &&& ~~~ 0xFFF, rate := fld a2 31 24, vector := fld a2 10 0 }
/-- A reserved field of CREATE's arguments was written with a one (R9, R215). -/
def argReserved (s : State) : Bool :=
  decide (rdWord s R.STX_CHAN_ARG0 &&& 0x700000F0 ≠ 0) || decide (rdWord s R.STX_CHAN_ARG1 &&& 0x00000C00 ≠ 0) ||
    decide (rdWord s R.STX_CHAN_ARG2 &&& 0x00FFF800 ≠ 0) || decide (rdWord s R.STX_CHAN_SQ_BASE &&& 0xFFF ≠ 0) ||
    decide (rdWord s R.STX_CHAN_CQ_BASE &&& 0xFFF ≠ 0)
/-- Largest vector of a tenant's function by STX_PORT_FN (R215). -/
def vectorMax (s : State) (t : Nat) : Nat :=
  let w := liveWord s (R.STX_PORT_FN_W1 (tenantPort s t))
  if tenantFn s t = 1 then fld w 10 0 else fld w 26 16
/-- The lowest free index. -/
def freeIndex (s : State) : Option Nat := (List.range 65536).find? (fun i => (chanOf s i).st == .free)
/-- The first failing check of R215, as its code; 0 where all pass. -/
def createCode (s : State) (a : Chan) : Nat :=
  let b := s.banks.live
  let t := a.tenant
  let w0 := tenW b t 0
  let w1 := tenW b t 1
  let w2 := tenW b t 2
  if 8 < a.depth ∨ a.quota = 0 ∨ a.mask.testBit a.house = false ∨ vectorMax s t < a.vector ∨ argReserved s = true then 0x01
  else if ! bitAt w0 31 then 0x02
  else if (chansOf s t).any (fun x => x.2.slot == a.slot) then 0x03
  else if fld w0 8 0 ≤ (chansOf s t).length then 0x04
  else if fld w1 11 0 < depthUsed s t + 2 ^ a.depth then 0x05
  else if Nat.land a.mask (fld w1 31 16) ≠ a.mask ∨ (coachesOf a.house).any (fun k => coachState s k == 0) = false then 0x06
  else if fld w2 15 0 * 256 < poolCells s t + a.quota * 256 then 0x07
  else if ! bitAt w1 (12 + a.tc) ∨ a.rate < fld w2 23 16 ∨ fld w2 31 24 < a.rate then 0x08
  else if a.priv ∧ ! bitAt w0 30 then 0x09
  else if (freeIndex s).isNone then 0x0A
  else 0
/-- CHAN_CREATE (R215). -/
def execChanCreate (s : State) : Host.Outcome State Fault Refusal :=
  .next (onChanCmd s
    (let a := argChan s
     let code := createCode s a
     match (if code = 0 then freeIndex s else none) with
     | none => chanCode s code
     | some i =>
       let ch := { a with gen := (chanOf s i).gen, life := (chanOf s i).life }
       chanCode (setReg (setChan s i ch) R.STX_CHAN_HANDLE (handleOf ch i)) 0))
/-- The channel that STX_CHAN_HANDLE names (R216). -/
def namedChan (s : State) : Option Nat := handleIndex s (rdWord s R.STX_CHAN_HANDLE) none
/-- CHAN_DESTROY (R217): BUSY stays while the index waits in RESETTING. -/
def execChanDestroy (s : State) : Host.Outcome State Fault Refusal :=
  .next (onChanCmd s
    (match namedChan s with
     | none => chanCode s 0x0B
     | some c =>
       let t := chanCode (endLife s c true) 0
       if (chanOf t c).st = .free then t else wrBit t R.STX_CHAN_STATUS 31 true))
/-- CHAN_RESET (R229): the command is done at once, also where the context then waits in RESETTING (assumption 164). -/
def execChanReset (s : State) : Host.Outcome State Fault Refusal :=
  .next (onChanCmd s
    (match namedChan s with
     | none => chanCode s 0x0B
     | some c => chanCode (endLife s c false) 0))
/-- CHAN_REHOME (R218): an idle channel moves to the house of ARG1, within its mask. -/
def execChanRehome (s : State) : Host.Outcome State Fault Refusal :=
  .next (onChanCmd s
    (match namedChan s with
     | none => chanCode s 0x0B
     | some c =>
       let ch := chanOf s c
       let n := rd s R.STX_CHAN_ARG1 15 12
       if ! ch.mask.testBit n then chanCode s 0x01
       else if s.co.descs.any (fun d => d.chan == c && d.gen == ch.gen && d.lost.isNone) || oldBusy s c then chanCode s 0x0C
       else fetchChan (chanCode (setChan s c { ch with house := n }) 0) c))

end Sys2Proof.Machine
end

