-- ==== Sys2Proof/Machine/Events.lean ====
section
/-! DEFINITION. The event unit's commands and the persistence of trouble counters (18). -/

namespace Sys2Proof.Machine

/-- EVTFWD: the partner's event sets its bit of EVT_TWIN_PEND; on a change from 0 to 1 the keeper is interrupted and
vector 16 sent (R543). -/
def execEvtfwd (event : Fin 512) (pid : Bool) (s : State) : Host.Outcome State Fault Refusal :=
  .next
    (let off := R.EVT_TWIN_PEND (event.val / 32)
     if pid = s.dev.pid || rdBit s off (event.val % 32) then s
     else
       mgmtVector (emit (wrBit (wrBit s off (event.val % 32) true) R.EVT_SUMMARY 16 true) (.keeperIrq event.val)) 16)

/-- EVT_PEND_CLEAR: ones clear their pending bits, and EVT_SUMMARY follows (R539, R542). -/
def execEvtPendClear (w : Fin 16) (val : Word) (s : State) : Host.Outcome State Fault Refusal :=
  .next (settleSummary (setReg s (R.EVT_PEND w) (getReg s (R.EVT_PEND w) &&& ~~~ val)) w)

/-- A write of EVT_TWIN_PEND: ones clear, and the TWIN bit of EVT_SUMMARY follows (R543). -/
def twinPendClear (s : State) (w : Nat) (val : Word) : State :=
  let t := setReg s (R.EVT_TWIN_PEND w) (getReg s (R.EVT_TWIN_PEND w) &&& ~~~ val)
  wrBit t R.EVT_SUMMARY 16 ((List.range 16).any (fun k => decide (getReg t (R.EVT_TWIN_PEND k) ≠ 0)))

/-! ### Trouble journal -/

/-- The offset that EVT_PERSIST_SEL entry `i` names, where it is valid and its word holds a trouble counter
(R546, R548). -/
def persistWord (s : State) (i : Nat) : Option Nat :=
  let e := liveWord s (R.EVT_PERSIST_SEL i)
  let off := fld e 27 2 * 4
  if bitAt e 31 && decide (counterMask off ≠ 0) then some off else none
def persistWords (s : State) : List Nat := (List.range 256).filterMap (persistWord s)

/-- ASCII "VXBTJRN1". -/
def journalMagic : List Byte := [0x56, 0x58, 0x42, 0x54, 0x4A, 0x52, 0x4E, 0x31]

/-- A journal page with CRC field `crc` (R546). -/
def pageBytes (s : State) (q : Nat) (crc : Nat) : List Byte :=
  let ws := persistWords s
  let head := journalMagic ++ leBytes 8 q ++ leBytes 8 (now s).toNat ++ leBytes 2 ws.length ++ [0, 0] ++ leBytes 4 crc
  let body := ws.flatMap (fun off => leBytes 4 off ++ leBytes 4 (rdWord s off).toNat)
  head ++ body ++ List.replicate (4096 - 32 - body.length) 0
def journalPage (s : State) (q : Nat) : List Byte := pageBytes s q (crc32c (pageBytes s q 0)).toNat

/-- A non-volatile write was refused or stopped (RST_SUP_CNT, R537). -/
def nvDeferred (s : State) : State := count s R.RST_SUP_CNT 16 .once 64

/-- Start the next journal page, or defer it under supply trouble (R546, R547). -/
def journalStart (s : State) : State :=
  if s.dev.jpage.isSome then s
  else if supplyTrouble s then nvDeferred (wrBit s R.EVT_PERSIST_STATUS 30 true)
  else
    wrBit (wrBit { s with dev := { s.dev with
      jseq := s.dev.jseq + 1, jpage := some (journalPage s (s.dev.jseq + 1).toNat) } }
      R.EVT_PERSIST_STATUS 30 false) R.RST_SUP_STATUS 27 true

/-- TROUBLE_JOURNAL_PERIOD: while EN is 1 and the keeper runs (R546). -/
def execTroubleJournalPeriod (s : State) : Host.Outcome State Fault Refusal :=
  .next (if rdBit s R.EVT_PERSIST_CFG 31 && s.dev.keeperRun then journalStart s else s)

/-- TROUBLE_JOURNAL_WRITE_DONE: the page stands, or STORE_ERR is set and event 67 raised (R547). What a failed
write leaves in its page is not stated: free values. -/
def execTroubleJournalWriteDone (ok : Bool) (s : State) : Host.Outcome State Fault Refusal :=
  .next
    (match s.dev.jpage with
     | none => s
     | some bytes =>
       let a := journalBase + s.dev.jseq.toNat % 8192 * 0x1000
       let t := wrBit { s with dev := { s.dev with jpage := none } } R.RST_SUP_STATUS 27 false
       if ok then wr (storeWrite t a bytes) R.EVT_PERSIST_STATUS 15 0 (s.dev.jseq.toNat % 2 ^ 16)
       else raiseEv (wrBit (storeGarble t a 4096) R.EVT_PERSIST_STATUS 29 true) 67)

/-- The journal page at index `k` of the ring is valid: MAGIC and CRC (R548). -/
def pageValid (s : State) (k : Nat) : Bool :=
  let a := journalBase + k * 0x1000
  decide (storeRead s a 8 = journalMagic) &&
    (let bs := storeRead s a 4096
     decide ((crc32c (bs.take 0x1C ++ [0, 0, 0, 0] ++ bs.drop 0x20)).toNat = storeNat s (a + 0x1C) 4))

/-- The valid page with the highest JSEQ among the first `n`, as (JSEQ, index) (R548). -/
def newestPage (s : State) (n : Nat) : Option (Nat × Nat) :=
  match n with
  | 0 => none
  | k + 1 =>
    match newestPage s k with
    | none => if pageValid s k then some (storeNat s (journalBase + k * 0x1000 + 8) 8, k) else none
    | some (q, j) =>
      if pageValid s k && decide (q < storeNat s (journalBase + k * 0x1000 + 8) 8) then
        some (storeNat s (journalBase + k * 0x1000 + 8) 8, k)
      else some (q, j)

/-- Write the recorded words of the page at `a` that an entry names back into their counters; no events (R548). -/
def restorePage (s : State) (a : Nat) : State :=
  let ws := persistWords s
  forAll (List.range (min (storeNat s (a + 0x18) 2) 256)) s (fun t i =>
    let off := storeNat t (a + 0x20 + 8 * i) 4
    let v := BitVec.ofNat 32 (storeNat t (a + 0x24 + 8 * i) 4)
    if ws.contains off then
      setReg t off ((getReg t off &&& ~~~ counterMask off) ||| (v &&& counterMask off))
    else t)

/-- The restore from the newest valid page, its sequence and its place; with none the sequence starts again. -/
def restoreFrom (s : State) (o : Option (Nat × Nat)) : State :=
  match o with
  | none => { s with dev := { s.dev with jseq := 0 } }
  | some (q, k) =>
    let t := restorePage { s with dev := { s.dev with jseq := BitVec.ofNat 64 q } } (journalBase + k * 0x1000)
    wr (wrBit t R.EVT_PERSIST_STATUS 31 true) R.EVT_PERSIST_STATUS 15 0 (q % 2 ^ 16)

/-- The restore after structure load following a package-level reset (R547, R548). -/
def journalRestore (s : State) : State := restoreFrom s (newestPage s 8192)

/-! ### Performance counters (R549 to R553) -/

/-- The bank's performance-counter event (R538). -/
def perfEv (k : Nat) : Nat := if k < 64 then 19 else regionEv ((k - 64) / 16) 23

/-- The events of the counters that have wrapped are raised (R553; assumption 14). -/
def perfAnnounce (s : State) : State :=
  forAll s.snap.due { s with snap := { s.snap with due := [] } } (fun t k => raiseEv t (perfEv k))

/-- PERF_COUNTER_OVERFLOW: an enabled counter passes 2^48 − 1 and wraps to 0; one that has wrapped by what it counted has its
event raised (R553). -/
def execPerfCounterOverflow (k : Fin 320) (s : State) : Host.Outcome State Fault Refusal :=
  .next (onFabric s
    (if s.snap.due.contains k.val then perfAnnounce s
     else if rdBit s (perfBase k) 31 then perfAnnounce (perfWrap (wr64 s (perfBase k + 8) 0) k 64)
     else s))

end Sys2Proof.Machine
end

