-- ==== Sys2Proof/Machine/TxnBase.lean ====
section
/-! DEFINITION. The transaction unit's registers, the end of a transaction, and what an outage of the twin link does to it
(14). -/

namespace Sys2Proof.Machine

/-- STATE of STX_TXN_STATUS: 0 IDLE, 1 OPEN, 2 COMMITTING, 3 PERSISTING (R451). -/
def txnState (s : State) : Nat := rd s R.STX_TXN_STATUS 31 29
/-- This twin coordinates the open transaction. -/
def isCoord (s : State) : Bool := rdBit s R.STX_TXN_STATUS 28
/-- Completion with a code. -/
def txnCode (s : State) (c : Nat) : State := wr s R.STX_TXN_STATUS 7 0 c
/-- STX_EPOCH. -/
def epochOf (s : State) : BitVec 32 := getReg s R.STX_EPOCH

/-- The structure that a switch would give: live values with every shadow applied (R452). -/
def resultBank (s : State) : SMap Word := s.banks.shadow.foldl (fun b p => sPut b p.1 0 p.2) s.banks.live

/-- Close the transaction on this twin: shadows are discarded (R451). -/
def txnClose (s : State) : State :=
  setReg (setReg { s with
      banks := { s.banks with shadow := [] }
      txn := { s.txn with handle := 0, owner := none, both := false, unacked := [], sentPrepare := false
                          gotPrepared := false, drained := false, sentSwitch := false, gotPrepare := false
                          sentPrepared := false, validated := false, expect := [] } }
    R.STX_TXN_STATUS (BitVec.ofNat 32 (rd s R.STX_TXN_STATUS 7 0))) R.STX_TXN_CHANGES 0

/-- Tell the other twin that the transaction is discarded; while the link is out of its active state, ABORT is owed
(R457). -/
def sendAbort (s : State) : State :=
  if ! s.txn.both then s
  else if twinState s == 2 then pairSend s (.abort s.txn.handle)
  else { s with txn := { s.txn with abortOwed := some s.txn.handle } }

/-- End with a code on this twin, the other twin's shadows discarded too. -/
def txnEnd (s : State) (code : Nat) : State := txnCode (txnClose (sendAbort s)) code

/-- A commit or persist that ends with a code other than DONE: FAILED counts it (R461). -/
def countFailed (s : State) : State := count s R.STX_TXN_CNT 0 .every 5
def commitFails (s : State) (code : Nat) : State := countFailed (txnEnd s code)

/-- An ignored structural write: STRAY counts it (R447, R461). -/
def countStray (s : State) : State := count s R.STX_TXN_CNT 16 .once 5

/-- The twin link leaves its active state between steps 2 and 5: TWIN_TIMEOUT, and ABORT is owed (R457). -/
def txnLinkLost (s : State) : State :=
  if txnState s = 2 && isCoord s && s.txn.sentPrepare && ! s.txn.sentSwitch then commitFails s 5 else s
/-- The link returns: an ABORT that is owed is sent (R457). -/
def txnLinkBack (s : State) : State :=
  match s.txn.abortOwed with
  | some h => pairSend { s with txn := { s.txn with abortOwed := none } } (.abort h)
  | none => s

end Sys2Proof.Machine
end

