-- ==== Sys2Proof/Machine/Lanes.lean ====
section
/-! DEFINITION. Lanes, their forced power states, loopback and checker (11), and the own-protocol link: flits,
acknowledgement, replay, RECOVERY, and spare-wheel switchover (12). -/

namespace Sys2Proof.Machine

/-- The link's event (R398, R538). -/
def linkEvent (l : LinkId) : Nat :=
  match l with
  | .port p => linkEv (p / 4)
  | .twin => 15

/-! ### Receiving -/

/-- Free the flits that ACK_SEQ covers (R385, R386). -/
def covered (a : BitVec 12) (f : Flit) : Bool := decide (seqSub a f.seq < 2048)
def takeAck (s : State) (l : LinkId) (a : BitVec 12) : State :=
  let o := ownOf s l
  let rest := o.replayBuf.dropWhile (covered a)
  setOwn s l { o with replayBuf := rest
                      replays := if rest.length < o.replayBuf.length then 0 else o.replays }

/-- Credits that a flit returns (R384). -/
def takeCredits (s : State) (l : LinkId) (f : Flit) : State :=
  let o := ownOf s l
  setOwn s l { o with credits := sPut o.credits f.crVc.val 0 (sGet o.credits f.crVc.val 0 + f.crCount.toNat) }

/-- The acknowledgement and credit fields of a good flit, and what they let leave. -/
def takeFields (s : State) (l : LinkId) (f : Flit) : State := pumpLink (takeCredits (takeAck s l f.ackSeq) l f) l

/-- Abandon or keep the switchovers of a link that enters RECOVERY (R393): in force once either end has sent
SPARE_ACK. `key` is the block, or 32 or 33 for the twin link. -/
def swOf (s : State) (key : Nat) : Option Switchover := sFind s.links.sw key
def setSw (s : State) (key : Nat) (w : Option Switchover) : State :=
  { s with links := { s.links with sw := match w with
      | some x => sIns s.links.sw key x
      | none => sDel s.links.sw key } }

/-- The spare's status word and the positions of STATE and LANE in it. `second`: twin-link lane 17. -/
def spareOff (o : SpareOwner) : Nat :=
  match o with
  | .block b => R.PB_SPARE_STATUS b
  | .twin => R.TWIN_SPARE_STATUS
/-- STATE of a spare: 0 off, 1 standby, 2 substituting, 3 failed. TWIN_SPARE_STATUS holds STATE16 in [15:14] and
LANE16 in [4:0]; STATE17 in [31:30] and LANE17 in [20:16]. -/
def spareState (s : State) (o : SpareOwner) (second : Bool) : Nat :=
  match o with
  | .block _ => rd s (spareOff o) 31 30
  | .twin => if second then rd s (spareOff o) 31 30 else rd s (spareOff o) 15 14
/-- LANE that a spare replaces. -/
def spareLane (s : State) (o : SpareOwner) (second : Bool) : Nat :=
  match o with
  | .block _ => rd s (spareOff o) 4 0
  | .twin => if second then rd s (spareOff o) 20 16 else rd s (spareOff o) 4 0
/-- The lane event of a spare's owner (R370, R538). -/
def spareEv (o : SpareOwner) : Nat :=
  match o with
  | .block b => laneEv b
  | .twin => 16
/-- Write STATE and LANE; the event on a change of STATE (R370). -/
def setSpare (s : State) (o : SpareOwner) (second : Bool) (st lane : Nat) : State :=
  let t :=
    match o with
    | .block _ => wr (wr s (spareOff o) 31 30 st) (spareOff o) 4 0 lane
    | .twin =>
      if second then wr (wr s (spareOff o) 31 30 st) (spareOff o) 20 16 lane
      else wr (wr s (spareOff o) 15 14 st) (spareOff o) 4 0 lane
  if spareState s o second = st then t else raiseEv t (spareEv o)
/-- Key of a switchover. -/
def spareKey (o : SpareOwner) (second : Bool) : Nat :=
  match o with
  | .block b => b
  | .twin => if second then 33 else 32
/-- The link that a spare serves: its owner trunk port, or the twin link (R364). -/
def spareLink (s : State) (o : SpareOwner) : Option LinkId :=
  match o with
  | .block b =>
    let p := 4 * b.val + fld (liveWord s (R.PB_SPARE_CFG b)) 27 26
    if bitAt (liveWord s (R.PB_SPARE_CFG b)) 31 && portRole s p == 4 then some (.port (Fin.ofNat 128 p)) else none
  | .twin => if bitAt (liveWord s R.TWIN_SPARE_CFG) 31 then some .twin else none

/-- The spares of a link, with `second`. -/
def sparesOf (s : State) (l : LinkId) : List (SpareOwner × Bool) :=
  match l with
  | .port p =>
    let b : Fin 32 := Fin.ofNat 32 (p.val / 4)
    if spareLink s (.block b) = some l then [(.block b, false)] else []
  | .twin => if spareLink s .twin = some .twin then [(.twin, false), (.twin, true)] else []

/-- The device lane of local index `l` of an owner. -/
def ownerLane (o : SpareOwner) (l : Nat) : Nat :=
  match o with
  | .block b => 16 * b.val + l
  | .twin => 544 + l
/-- The device lane of a spare. -/
def spareDeviceLane (o : SpareOwner) (second : Bool) : Nat :=
  match o with
  | .block b => 512 + b.val
  | .twin => if second then 561 else 560
/-- The per-lane register at lane offset `k` of device lane `n` (R342). -/
def laneReg (n k : Nat) : Nat :=
  if n < 512 then R.PB_LANE_STATUS (n / 16) (n % 16) + k
  else if n < 544 then R.PB_LANE_STATUS (n - 512) 16 + k
  else R.TWIN_LANE_STATUS (n - 544) + k
/-- Put a lane's directions in states `tx` and `rx`; a receiver that goes OFF loses its adaptation values, which then read as at
reset (R358, assumption 16). -/
def laneTo (s : State) (n tx rx : Nat) : State :=
  let t := wr (wr s (laneReg n 0) 24 23 tx) (laneReg n 0) 22 21 rx
  if rx = 0 then setReg t (laneReg n 8) 0 else t
/-- Put both directions in state `st`. -/
def setLaneState (s : State) (n st : Nat) : State := laneTo s n st st

/-- A switchover as the link enters RECOVERY (R393). -/
def settleSwitchover (s : State) (x : SpareOwner × Bool) : State :=
  match swOf s (spareKey x.1 x.2) with
  | none => s
  | some w =>
    let t := setSw s (spareKey x.1 x.2) none
    if w.sentAck || w.gotAck then
      let n := ownerLane x.1 w.lane.toNat
      if w.restore then setLaneState (setSpare t x.1 x.2 1 0x1F) n 3
      else setLaneState (setLaneState (setSpare t x.1 x.2 2 w.lane.toNat) n 0) (spareDeviceLane x.1 x.2) 3
    else t

/-- Enter RECOVERY from ACTIVE, counting it (R390, R398); on the twin link an open commit may end (R457). -/
def enterRecovery (s : State) (l : LinkId) (full : Bool) : State :=
  if linkStateOf s l != 2 then s
  else
    let t := forAll (sparesOf s l) (wr s (linkReg l 0) 31 29 3) settleSwitchover
    let o := ownOf t l
    let u := count (setOwn t l { o with fullReset := full }) (linkReg l 0x18) 0 .every (linkEvent l)
    if l = .twin then txnLinkLost u else u

/-- Replay from the flit with sequence `x` (R388); at REPLAY_MAX replays without a freed flit, RECOVERY. -/
def doReplay (s : State) (l : LinkId) (x : BitVec 12) : State :=
  let o := ownOf s l
  if o.replays ≥ replayMax s l then enterRecovery s l false
  else
    let fs := o.replayBuf.dropWhile (fun f => decide (f.seq ≠ x) && covered (x - 1) f)
    let t := setOwn s l { o with replays := o.replays + 1, ackOwed := false }
    let t1 := emit t (.link (.replay l { xseq := x, ackSeq := o.rxNext - 1 }))
    let t2 := forAll fs t1 (fun u f => emit (noteFlit u l) (.link (.dataFlit l { f with ackSeq := o.rxNext - 1 })))
    count t2 (linkReg l 0x10) 0 .once (linkEvent l)

/-- A failed CRC: discard, count, and in the replay wait one NAK (R387). -/
def crcFail (s : State) (l : LinkId) : State :=
  let t := count s (linkReg l 0x10) 16 .once (linkEvent l)
  let o := ownOf t l
  if o.replayWait then t
  else
    emit (setOwn t l { o with replayWait := true, rxReplay := none, ackOwed := false })
      (.link (.nak l { xseq := o.rxNext, ackSeq := o.rxNext - 1 }))

/-- The link is ACTIVE and speaks the own protocol: flits act. -/
def onOwnLink (s : State) (l : LinkId) (t : State) : State :=
  if ! s.dev.fabReset && ownProtocol s l && linkStateOf s l == 2 then t else s

/-- The sequence under which the next DATA flit is checked. -/
def checkSeq (o : OwnLink) : BitVec 12 := o.rxReplay.getD o.rxNext

/-- The twin node injects a message that has arrived whole and returns its slots of 16 bytes (R383, R384). -/
def returnSlots (s : State) (got : Option (Nat × Nat)) : State :=
  match got with
  | some (v, n) => emit s (.credit 128 v ((n + 15) / 16))
  | none => s
/-- Accept a DATA flit in order, or discard it as a duplicate (R381, R385, R387); on the twin link a packet's last flit
returns its slots (R384). -/
def acceptData (s : State) (l : LinkId) (f : Flit) : State :=
  let o := ownOf s l
  let nextRe : Option (BitVec 12) := match o.rxReplay with
    | some x => if x + 1 = o.rxNext + 1 then none else some (x + 1)
    | none => none
  if checkSeq o = o.rxNext then
    let got : Option (Nat × Nat) :=
      if f.sop then some (f.vc.val, f.len.toNat)
      else match o.rxPacket with
        | some (v, n) => some (v, n + f.len.toNat)
        | none => none
    let t := setOwn s l { o with rxNext := o.rxNext + 1, rxReplay := nextRe, ackOwed := true
                                 rxPacket := if f.eop then none else got }
    match l with
    | .twin => if f.eop then returnSlots t got else t
    | .port _ => t
  else
    count (setOwn s l { o with rxReplay := nextRe, ackOwed := true }) (linkReg l 0x18) 16 .once (linkEvent l)

/-- DATA_FLIT: a DATA flit whose CRC holds under the sequence `f.seq` (R380, R387). Under another sequence it
fails its CRC. -/
def execDataFlit (l : LinkId) (f : Flit) (s : State) : Host.Outcome State Fault Refusal :=
  .next (onOwnLink s l
    (let o := ownOf s l
     if o.replayWait then s
     else if f.seq ≠ checkSeq o then crcFail s l
     else takeFields (acceptData s l f) l f))

/-- FLIT_CRC_FAIL (R387); on a standard port the standard's rejects are counted. -/
def execFlitCrcFail (l : LinkId) (s : State) : Host.Outcome State Fault Refusal :=
  .next (onFabric s
    (if ownProtocol s l then onOwnLink s l (crcFail s l)
     else count s (linkReg l 0x10) 16 .once (linkEvent l)))

/-- ACK_FLIT (R385). -/
def execAckFlit (l : LinkId) (f : Flit) (s : State) : Host.Outcome State Fault Refusal :=
  .next (onOwnLink s l (takeFields s l f))

/-- NAK: XSEQ − 1 acts as an ACK_SEQ, the replay starts at XSEQ, and new DATA flits follow it (R388, R390). -/
def execNak (l : LinkId) (f : Flit) (s : State) : Host.Outcome State Fault Refusal :=
  .next (onOwnLink s l
    (let t := doReplay (takeAck (takeCredits (takeAck s l f.ackSeq) l f) l (f.xseq - 1)) l f.xseq
     let o := ownOf t l
     pumpLink (setOwn t l { o with nakFirst := false }) l))

/-- REPLAY: the replay wait ends and the next DATA flit takes sequence XSEQ (R387). -/
def execReplay (l : LinkId) (f : Flit) (s : State) : Host.Outcome State Fault Refusal :=
  .next (onOwnLink s l
    (let t := takeFields s l f
     let o := ownOf t l
     setOwn t l { o with replayWait := false, rxReplay := if f.xseq = o.rxNext then none else some f.xseq }))

/-- COMP_FLIT: the elastic buffer discards it (R382). -/
def execCompFlit (_l : LinkId) (s : State) : Host.Outcome State Fault Refusal := .next s

/-- ACK_IDLE_EXPIRY: an ACK flit when an accepted DATA flit has not been acknowledged (R385). -/
def execAckIdleExpiry (l : LinkId) (s : State) : Host.Outcome State Fault Refusal :=
  .next (onOwnLink s l
    (let o := ownOf s l
     if o.ackOwed then emit (setOwn s l { o with ackOwed := false }) (.link (.ackFlit l { ackSeq := o.rxNext - 1 }))
     else s))

/-- NAK_RESEND_TIMEOUT: no REPLAY within REPLAY_TMO of the NAK (R387). -/
def execNakResendTimeout (l : LinkId) (s : State) : Host.Outcome State Fault Refusal :=
  .next (onOwnLink s l
    (let o := ownOf s l
     if o.replayWait then
       emit (setOwn s l { o with ackOwed := false }) (.link (.nak l { xseq := o.rxNext, ackSeq := o.rxNext - 1 }))
     else s))

/-- REPLAY_TIMEOUT: the oldest unacknowledged flit waited REPLAY_TMO (R388). -/
def execReplayTimeout (l : LinkId) (s : State) : Host.Outcome State Fault Refusal :=
  .next (onOwnLink s l
    (match (ownOf s l).replayBuf with
     | f :: _ => doReplay s l f.seq
     | [] => s))

/-! ### Lanes -/

/-- The lane's event. -/
def laneEvent (n : Nat) : Nat := if n < 512 then laneEv (n / 16) else if n < 544 then laneEv (n - 512) else 16
/-- The own-protocol link that the lane carries, if any. -/
def laneLink (s : State) (n : Nat) : Option LinkId :=
  if n < 512 then
    match portOf s (n / 4) with
    | some p => if portRole s p == 4 then some (.port (Fin.ofNat 128 p)) else none
    | none => none
  else if 544 ≤ n ∧ n < 560 then some .twin
  else none
/-- A lane that management software may force: of a fenced cell, of a cell with no valid port, or a spare in
standby (R359). -/
def forceable (s : State) (n : Nat) : Bool :=
  if n < 512 then cellFenced s (n / 4) || (portOf s (n / 4)).isNone
  else if n < 544 then spareState s (.block (Fin.ofNat 32 (n - 512))) false == 1
  else if n < 560 then false
  else spareState s .twin (n == 561) == 1
/-- Apply a written force to a lane where R359 lets it act. -/
def applyForce (s : State) (n : Nat) : State :=
  if forceable s n && rdBit s (laneReg n 0x10) 31 then
    laneTo s n (rd s (laneReg n 0x10) 3 2) (rd s (laneReg n 0x10) 1 0)
  else s

/-- LANE_POWER_FORCE: the word is held, and acts as soon as the lane is one that R359 names. -/
def execLanePowerForce (lane : Fin 562) (val : Word) (s : State) : Host.Outcome State Fault Refusal :=
  .next (onFabric s
    (applyForce (setReg s (laneReg lane 0x10)
      (writeBits (laneReg lane 0x10) (getReg s (laneReg lane 0x10)) val)) lane))

/-- LOOPBACK_MODE_WRITE: a non-zero MODE is ignored on a lane that may not be forced (R362); CHECK_EN from 0 to 1
clears the count and the lock (R363). -/
def execLoopbackModeWrite (lane : Fin 562) (val : Word) (s : State) : Host.Outcome State Fault Refusal :=
  .next (onFabric s
    (if fld val 31 29 != 0 && ! forceable s lane then s
     else
       let off := laneReg lane 0x14
       let t := setReg s off (writeBits off (getReg s off) val)
       if bitAt val 24 && ! rdBit s off 24 then setReg (wrBit t off 23 false) (laneReg lane 0x18) 0 else t))

/-- CHECKER_LOCK: the running checker sets CHECK_LOCK (R363). -/
def execCheckerLock (lane : Fin 562) (s : State) : Host.Outcome State Fault Refusal :=
  .next (onFabric s (if rdBit s (laneReg lane 0x14) 24 then wrBit s (laneReg lane 0x14) 23 true else s))

/-- A lane leaves loopback and its forced state is that of the link again (R362). -/
def leaveLoopback (s : State) (n : Nat) : State := wr s (laneReg n 0x14) 31 29 0

/-! ### Spare-wheel switchover (R364 to R370, R392 to R394) -/

/-- The lane shows FAILING. -/
def laneIsFailing (s : State) (o : SpareOwner) (l : Nat) : Bool := rdBit s (laneReg (ownerLane o l) 0) 20
/-- The lane belongs to the link that the owner's spare serves. -/
def laneOfOwner (s : State) (o : SpareOwner) (l : Nat) : Bool :=
  decide (l < 16) && (spareLink s o).isSome && laneLink s (ownerLane o l) == spareLink s o
/-- A loss beyond the spares: a full link reset (R368). -/
def beyondSpares (s : State) (o : SpareOwner) : State :=
  match spareLink s o with
  | some l => enterRecovery s l true
  | none => s
/-- Start a switchover as the requesting end (step 1 of R392). -/
def startSwitch (s : State) (o : SpareOwner) (second restore : Bool) (l : BitVec 5) : State :=
  emit (setSw s (spareKey o second) (some ⟨l, 1, false, false, false, false, restore⟩))
    (.link (if restore then .restoreReq o l second else .spareReq o l second))
/-- The spare that a new failing lane may take: in standby with no switchover under way; on the twin link lane 16
before lane 17 (R367). -/
def freeSpare (s : State) (o : SpareOwner) : Option Bool :=
  let ok := fun b => spareState s o b == 1 && (swOf s (spareKey o b)).isNone
  match o with
  | .block _ => if ok false then some false else none
  | .twin => if ok false then some false else if ok true then some true else none
/-- The management parent of the owner's lanes is in reset (R32); the twin link belongs to the chip. -/
def ownerHeld (o : SpareOwner) (s : State) : Bool :=
  match o with
  | .block b => parentDown s (.cell (Fin.ofNat 128 (4 * b)))
  | .twin => false
/-- The owner's link is ACTIVE. -/
def ownerActive (s : State) (o : SpareOwner) : Bool :=
  match spareLink s o with
  | some l => linkStateOf s l == 2
  | none => false

/-- SPARE_SUBST: management software writes SUBST with the lane's local index (R367). -/
def execSpareSubst (o : SpareOwner) (lane : BitVec 5) (s : State) : Host.Outcome State Fault Refusal :=
  .next (onFabric s
    (if laneOfOwner s o lane.toNat && ownerActive s o && ! ownerHeld o s then
       match freeSpare s o with
       | some b => startSwitch s o b false lane
       | none => s
     else s))

/-- SPARE_RESTORE: refused on a lane that still shows FAILING (R369). -/
def execSpareRestore (o : SpareOwner) (lane : BitVec 5) (s : State) : Host.Outcome State Fault Refusal :=
  .next (onFabric s
    (let b := decide (o = .twin) && spareLane s o true == lane.toNat && spareState s o true == 2
     if spareState s o b == 2 && spareLane s o b == lane.toNat && ! laneIsFailing s o lane.toNat &&
         ownerActive s o && ! ownerHeld o s && (swOf s (spareKey o b)).isNone then
       startSwitch s o b true lane
     else s))

/-- SPARE_FAILURE: a spare in standby becomes failed; while it substitutes, a loss beyond the spares (R368). -/
def execSpareFailure (o : SpareOwner) (second : Bool) (s : State) : Host.Outcome State Fault Refusal :=
  .next (onFabric s
    (if spareState s o second == 1 then setSpare (setSw s (spareKey o second) none) o second 3 0x1F
     else if spareState s o second == 2 then beyondSpares s o else s))

/-- The owner of the lane of an own link, with its spare. -/
def laneOwner (n : Nat) : SpareOwner := if n < 512 then .block (Fin.ofNat 32 (n / 16)) else .twin
/-- Local index of a lane for its owner. -/
def laneLocal (n : Nat) : Nat := if n < 512 then n % 16 else n - 544
/-- AUTO of the owner's spare. -/
def spareAuto (s : State) (o : SpareOwner) : Bool :=
  match o with
  | .block b => bitAt (liveWord s (R.PB_SPARE_CFG b)) 30
  | .twin => bitAt (liveWord s R.TWIN_SPARE_CFG) 30

/-- A spare stands in for the lane, or a switchover to one is under way. -/
def laneCovered (s : State) (o : SpareOwner) (l : Nat) : Bool :=
  [false, true].any (fun b => (b == false || o == .twin) &&
    (spareState s o b == 2 && spareLane s o b == l ||
      ((swOf s (spareKey o b)).map (fun w => ! w.restore && w.lane.toNat == l)).getD false))
/-- LANE_FAILING: a lane of an active own link sets FAILING and raises its event (R366); on an ACTIVE link the block controller
substitutes it where AUTO is 1, and a loss beyond the spares retrains the link (R367, R368, R390). -/
def execLaneFailing (lane : Fin 562) (why : LaneWhy) (s : State) : Host.Outcome State Fault Refusal :=
  .next (onFabric s
    (match laneLink s lane with
     | none => s
     | some l =>
       if linkStateOf s l != 2 && linkStateOf s l != 3 then s
       else
         let t := raiseEv (wrBit (if why = .lockLost then wrBit s (laneReg lane 0) 31 false else s)
           (laneReg lane 0) 20 true) (laneEvent lane)
         let o := laneOwner lane
         if linkStateOf s l != 2 || ownerHeld o t || laneCovered t o (laneLocal lane) then t
         else if laneOfOwner t o (laneLocal lane) then
           match freeSpare t o with
           | some b => if spareAuto t o then startSwitch t o b false (BitVec.ofNat 5 (laneLocal lane)) else t
           | none => beyondSpares t o
         else if why = .lockLost then enterRecovery t l true else t))

/-- A switchover with both SPARE_DONE flits is complete (step 5 of R392, R394). -/
def finishSwitch (s : State) (o : SpareOwner) (second : Bool) : State :=
  match swOf s (spareKey o second) with
  | none => s
  | some w =>
    if w.sentDone && w.gotDone then
      let t := setSw s (spareKey o second) none
      let n := ownerLane o w.lane.toNat
      if w.restore then applyForce (setLaneState (setSpare t o second 1 0x1F) n 3) (spareDeviceLane o second)
      else setLaneState (setLaneState (setSpare t o second 2 w.lane.toNat) n 0) (spareDeviceLane o second) 3
    else s

/-- Abandon a switchover; a lane that is still failing is a loss beyond the spares (R392). -/
def abandonSwitch (s : State) (o : SpareOwner) (second : Bool) : State :=
  match swOf s (spareKey o second) with
  | none => s
  | some w =>
    let t := setSw s (spareKey o second) none
    if ! w.restore && laneIsFailing t o w.lane.toNat then beyondSpares t o else t

/-- Answer a request with SPARE_ACK or RESTORE_ACK and bridge the lane (step 2 of R392). -/
def ackSwitch (s : State) (o : SpareOwner) (second restore : Bool) (lane : BitVec 5) (mine : Option Switchover) :
    State :=
  let w : Switchover := mine.getD ⟨lane, 0, false, false, false, false, restore⟩
  emit (setSw s (spareKey o second) (some { w with lane := lane, sentAck := true, restore := restore }))
    (.link (if restore then .restoreAck o lane second else .spareAck o lane second))

/-- SPARE_REQ from the partner (step 2 of R392; overlaps by R393). -/
def execSpareReq (o : SpareOwner) (lane : BitVec 5) (second : Bool) (s : State) :
    Host.Outcome State Fault Refusal :=
  .next (onFabric s
    (if ! ownerActive s o then s
     else
       match swOf s (spareKey o second) with
       | none =>
         if spareState s o second == 1 then ackSwitch s o second false lane none
         else emit s (.link (.spareNak o lane second))
       | some w =>
         if w.lane = lane then ackSwitch s o second false lane (some w)
         else if o = .twin ∧ ! second ∧ spareState s o true == 1 ∧ (swOf s 33).isNone then
           -- both spares in standby: lane 16 takes the lower index, lane 17 the higher
           if w.lane.toNat < lane.toNat then ackSwitch s o true false lane none
           else ackSwitch (setSw s 33 (some w)) o false false lane none
         else if w.lane.toNat < lane.toNat then s
         else
           let t := ackSwitch s o second false lane none
           if laneIsFailing t o w.lane.toNat then beyondSpares t o else t))

/-- SPARE_ACK from the partner (step 3 of R392). -/
def execSpareAck (o : SpareOwner) (lane : BitVec 5) (second : Bool) (s : State) :
    Host.Outcome State Fault Refusal :=
  .next (onFabric s
    (match swOf s (spareKey o second) with
     | some w => if w.lane = lane then setSw s (spareKey o second) (some { w with gotAck := true }) else s
     | none => s))

/-- SPARE_NAK from the partner abandons the switchover (R392). -/
def execSpareNak (o : SpareOwner) (_lane : BitVec 5) (second : Bool) (s : State) :
    Host.Outcome State Fault Refusal :=
  .next (onFabric s (abandonSwitch s o second))

/-- SPARE_DONE from the partner: the lane goes OFF, and the switchover ends once both have been sent (R392). -/
def execSpareDone (o : SpareOwner) (lane : BitVec 5) (second : Bool) (s : State) :
    Host.Outcome State Fault Refusal :=
  .next (onFabric s
    (match swOf s (spareKey o second) with
     | some w =>
       if w.lane = lane then
         let t := setSw s (spareKey o second) (some { w with gotDone := true })
         finishSwitch (if w.restore then t else wr t (laneReg (ownerLane o lane.toNat) 0) 24 23 0) o second
       else s
     | none => s))

/-- SPARE_REQ_RESEND: every 1 µs until answered, at most 8 times (R392). -/
def execSpareReqResend (o : SpareOwner) (second : Bool) (s : State) : Host.Outcome State Fault Refusal :=
  .next (onFabric s
    (match swOf s (spareKey o second) with
     | some w =>
       if w.requests = 0 || w.gotAck then s
       else if w.requests < 8 then
         emit (setSw s (spareKey o second) (some { w with requests := w.requests + 1 }))
           (.link (if w.restore then .restoreReq o w.lane second else .spareReq o w.lane second))
       else abandonSwitch s o second
     | none => s))

/-- SPARE_ALIGNED: the receiver has switched its multiplexer and sends SPARE_DONE (step 4 of R392). -/
def execSpareAligned (o : SpareOwner) (second : Bool) (s : State) : Host.Outcome State Fault Refusal :=
  .next (onFabric s
    (match swOf s (spareKey o second) with
     | some w =>
       if w.sentAck || w.gotAck then
         finishSwitch (emit (setSw s (spareKey o second) (some { w with sentDone := true }))
           (.link (.spareDone o w.lane second))) o second
       else s
     | none => s))

/-- RESTORE_REQ from the partner (R394). -/
def execRestoreReq (o : SpareOwner) (lane : BitVec 5) (second : Bool) (s : State) :
    Host.Outcome State Fault Refusal :=
  .next (onFabric s
    (if spareState s o second == 2 && spareLane s o second == lane.toNat && ownerActive s o then
       ackSwitch s o second true lane (swOf s (spareKey o second))
     else s))

/-- RESTORE_ACK from the partner (R394). -/
def execRestoreAck (o : SpareOwner) (lane : BitVec 5) (second : Bool) (s : State) :
    Host.Outcome State Fault Refusal :=
  .next (onFabric s
    (match swOf s (spareKey o second) with
     | some w =>
       if w.lane = lane && w.restore then setSw s (spareKey o second) (some { w with gotAck := true }) else s
     | none => s))

/-- The lanes of a link (R344); the twin link's data lanes. -/
def linkLanes (s : State) (l : LinkId) : List Nat :=
  match l with
  | .port p => (List.range (4 * portCells s p)).map (fun i => 4 * p.val + i)
  | .twin => (List.range 16).map (fun i => 544 + i)

/-- Put the spares of a link in standby or off as its link becomes active or not (R365). -/
def settleSpares (s : State) (l : LinkId) (active : Bool) : State :=
  forAll (sparesOf s l) s (fun t x =>
    if active && spareState t x.1 x.2 == 0 then
      applyForce (setLaneState (setSpare t x.1 x.2 1 0x1F) (spareDeviceLane x.1 x.2) 3) (spareDeviceLane x.1 x.2)
    else if ! active && spareState t x.1 x.2 == 1 then
      setLaneState (setSpare (setSw t (spareKey x.1 x.2) none) x.1 x.2 0 0x1F) (spareDeviceLane x.1 x.2) 0
    else t)

/-- A commit changes OWNER or clears ENABLE of a spare: what it was doing ends (R369), except that a failed one stays failed. -/
def dropSpare (s : State) (o : SpareOwner) (second : Bool) : State :=
  let t := setSw s (spareKey o second) none
  if spareState s o second = 0 ∨ spareState s o second = 3 then t
  else setLaneState (setSpare t o second 0 0x1F) (spareDeviceLane o second) 0
/-- The spares of two banks: one that another bank gives to another port or disables ends what it was doing. -/
def switchSpares (s : State) (a b : SMap Word) : State :=
  let serves (m : SMap Word) (o : Nat) (own : Bool) : Nat :=
    let w := (sFind m o).getD 0
    if bitAt w 31 then (if own then fld w 27 26 + 1 else 1) else 0
  let t := forAll (List.range 32) s (fun u n =>
    if serves a (R.PB_SPARE_CFG n) true = serves b (R.PB_SPARE_CFG n) true then u else dropSpare u (.block (Fin.ofNat 32 n)) false)
  if serves a R.TWIN_SPARE_CFG false = serves b R.TWIN_SPARE_CFG false then t
  else dropSpare (dropSpare t .twin false) .twin true

/-- What the receiver of a trained lane has adapted to, and its polarity (R355, R356): with ADAPT fixed the CTLE step is CTLE_INIT;
otherwise it is some step of the range searched. The polarity is the configured one on an own-protocol link, else as detected. The
reserved bits [1:0] of the result hold that the lane has trained: 1 with ADAPT fixed, 2 with adaptation (assumption 16). -/
def adaptLane (s : State) (own : Bool) (n : Nat) : State :=
  let e := rdWord s (laneReg n 4)
  let f := (freeVal s).extractLsb' 0 32
  let ctle := if fld e 31 30 = 0 then fld e 29 25 else fld e 24 20 + fld f 15 0 % (fld e 19 15 - fld e 24 20 + 1)
  wrBit (setReg (usedFree s) (laneReg n 8) (BitVec.ofNat 32 (ctle * 2 ^ 27 + (if fld e 31 30 = 0 then 1 else 2))))
    (laneReg n 0) 28 (if own then bitAt e 11 else bitAt f 16)
/-- A successful training of a link's lanes: locked, adapted, ON at the rate reached, FAILING cleared (R355,
R358, PB_LANE_STATUS). A lane that a spare replaces keeps OFF (R360). -/
def trainLanes (s : State) (l : LinkId) (rate : Nat) : State :=
  let replaced := (sparesOf s l).filterMap (fun x =>
    if spareState s x.1 x.2 == 2 then some (ownerLane x.1 (spareLane s x.1 x.2)) else none)
  forAll (linkLanes s l) s (fun t n =>
    let u := wr (wrBit (leaveLoopback t n) (laneReg n 0) 20 false) (laneReg n 0) 27 25 rate
    if replaced.contains n then u
    else setLaneState (wrBit (wrBit (wrBit (adaptLane u (ownProtocol s l) n) (laneReg n 0) 31 true) (laneReg n 0) 30 true)
      (laneReg n 0) 29 false) n 3)

end Sys2Proof.Machine
end

