-- ==== Sys2Proof/Machine/Image.lean ====
section
/-! DEFINITION. Structure images in the store: sections, register runs, validity, the bank that an image gives, and
the image that a persist writes (14). -/

namespace Sys2Proof.Machine

/-! ### Reset sources: factory levels (R522) -/

/-- Factory default level of a reset source. -/
def factoryDefault (src : Nat) : Nat :=
  if src = 3 ∨ src = 22 then 0
  else if src = 4 then 1
  else if src = 5 then 2
  else if src = 0 ∨ src = 1 ∨ src = 7 ∨ src = 11 ∨ src = 13 ∨ src = 20 then 4
  else 3
/-- Factory ceiling of a reset source. -/
def factoryCeiling (src : Nat) : Nat :=
  if src = 3 then 2 else if src = 4 then 2 else if src = 5 then 3 else if src = 9 then 3 else if src = 22 then 1 else 4

/-! ### Sections -/

/-- Section type of a structural word's offset (R435). Slot-channel, pairing and twin-link words go with the ports
and lanes (assumption 40). -/
def sectionOf (off : Nat) : Nat :=
  if off < 0x1000000 then (if off / 0x1000 = 4 then 0x40 else 0x70)
  else if off < 0x2000000 then 0x10
  else if off < 0x4000000 then (if 0x3500000 ≤ off then 0x31 else 0x30)
  else if off < 0x8000000 then 0x80
  else if off < 0xC000000 then
    let r := off % 0x400000
    if 0x240000 ≤ r ∧ r < 0x280000 then 0x40 else if 0x40000 ≤ r ∧ r < 0xC0000 then 0x10 else 0x11
  else if off < 0xD000000 then 0x50
  else if off < 0xE000000 then 0x60
  else if off < 0xF000000 then (if 0xE0F0000 ≤ off then 0x40 else 0x10)
  else if 0xF100000 ≤ off ∧ off < 0xF200000 then 0x21
  else 0x20

/-- Section types in the order of R435, and those that no image may lack. -/
def sectionTypes : List Nat := [0x01, 0x10, 0x11, 0x20, 0x21, 0x30, 0x31, 0x40, 0x50, 0x60, 0x70, 0x80]
def requiredTypes : List Nat := [0x01, 0x10, 0x11, 0x31, 0x50, 0x60]

/-- A section entry of the header (R434). -/
structure Section where
  typ : Nat
  offset : Nat
  length : Nat
  crc : Nat
deriving DecidableEq, Repr

/-- The section entries of the image in the slot at `base`. -/
def sectionsAt (s : State) (base : Nat) : List Section :=
  (List.range (min (storeNat s (base + 0xA) 2) 248)).map (fun i =>
    let e := base + 0x80 + i * 16
    ⟨storeNat s e 2, storeNat s (e + 4) 4, storeNat s (e + 8) 4, storeNat s (e + 12) 4⟩)

/-- Words of register runs from `a`, `len` bytes long, as (management offset, word); none where the runs do not
fill the section (R436). `fuel` bounds the number of runs. -/
def runsAt (s : State) (a len fuel : Nat) : Option (List (Nat × Word)) :=
  match fuel with
  | 0 => if len = 0 then some [] else none
  | f + 1 =>
    if len = 0 then some []
    else if len < 8 then none
    else
      let off := storeNat s a 4
      let n := storeNat s (a + 4) 4
      if n = 0 ∨ 65536 < n ∨ len < 8 + 4 * n ∨ off % 4 ≠ 0 then none
      else
        match runsAt s (a + 8 + 4 * n) (len - 8 - 4 * n) f with
        | none => none
        | some t =>
          some ((List.range n).map (fun i => (off + 4 * i, BitVec.ofNat 32 (storeNat s (a + 8 + 4 * i) 4))) ++ t)

/-- The words of one section. -/
def sectionWords (s : State) (base : Nat) (x : Section) : Option (List (Nat × Word)) :=
  if x.typ = 0x01 then some [] else runsAt s (base + x.offset) x.length (x.length / 8)

/-- Every run word names a structural word of its section's blocks, with no other bit set (R436); a reset override
stays within its source's ceiling (R523). -/
def runWordOk (typ : Nat) (p : Nat × Word) : Bool :=
  decide (sectionOf p.1 = typ) && decide (structMask p.1 ≠ 0) && decide (p.2 &&& ~~~ structMask p.1 = 0) &&
    (decide (typ ≠ 0x70) || fld p.2 24 22 == 7 || decide (fld p.2 24 22 ≤ factoryCeiling ((p.1 - 0x1100) / 4)))

/-- ASCII "VXBSTRC1". -/
def imageMagic : List Byte := [0x56, 0x58, 0x42, 0x53, 0x54, 0x52, 0x43, 0x31]

/-- IMAGE_LEN of the image at `base`. -/
def imageLen (s : State) (base : Nat) : Nat := storeNat s (base + 0xC) 4
/-- SEQUENCE and EPOCH of the image at `base`. -/
def imageSeq (s : State) (base : Nat) : Nat := storeNat s (base + 0x10) 8
def imageEpoch (s : State) (base : Nat) : Nat := storeNat s (base + 0x18) 4

/-- No two sections overlap. -/
def disjoint (l : List Section) : Bool :=
  match l with
  | [] => true
  | x :: t => t.all (fun y => decide (x.offset + x.length ≤ y.offset) || decide (y.offset + y.length ≤ x.offset)) &&
      disjoint t

/-- One section's placement, CRC and runs hold. -/
def sectionOk (s : State) (base : Nat) (x : Section) : Bool :=
  sectionTypes.contains x.typ && x.offset % 64 == 0 && decide (0x1000 ≤ x.offset) && x.length % 4 == 0 &&
    decide (x.offset + x.length + 256 ≤ imageLen s base) &&
    decide ((crc32c (storeRead s (base + x.offset) x.length)).toNat = x.crc) &&
    (match sectionWords s base x with
     | some ws => ws.all (runWordOk x.typ)
     | none => false)

/-- The code envelope of the image at `base`. -/
def envelopeAt (s : State) (base : Nat) : List Byte :=
  match (sectionsAt s base).find? (fun x => x.typ == 0x01) with
  | some x => storeRead s (base + x.offset) x.length
  | none => []

/-- The slot at `base` holds a valid image (R442). -/
def imageValid (s : State) (base : Nat) : Bool :=
  let xs := sectionsAt s base
  let n := imageLen s base
  decide (storeRead s base 8 = imageMagic) && storeNat s (base + 8) 2 == 1 && storeNat s (base + 0x1C) 2 == 0x0B28 &&
    decide (storeNat s (base + 0x1E) 1 ≤ Config.stepMajor.toNat * 16 + Config.stepMinor.toNat) &&
    decide (1 ≤ storeNat s (base + 0xA) 2) && decide (storeNat s (base + 0xA) 2 ≤ 248) &&
    n % 256 == 0 && decide (0x1100 ≤ n) && decide (n ≤ 0x4000000) &&
    disjoint xs && xs.all (sectionOk s base) && decide ((xs.map (·.typ)).Nodup) &&
    requiredTypes.all (fun t => xs.any (fun x => x.typ == t)) &&
    Config.signatureOk (storeByte s (base + 0x1F)) (storeByte s (base + 0x20))
      (storeRead s (base + n - 256) 256) (storeRead s base (n - 256)) &&
    Config.envelopeOk (envelopeAt s base)

/-- The bits of a sharing-set word that R63 and R64 leave to the structure: a write of the others has no effect,
and they are held as zero. -/
def shareWritable (off : Nat) : Word :=
  if 0xF100000 ≤ off ∧ off < 0xF180000 then
    let k := (off - 0xF100000) / 0x80
    let w := (off - 0xF100000) % 0x80 / 4
    if k = 0 ∨ 4 ≤ w % 16 then 0 else 0xFFFFFFFF
  else 0xFFFFFFFF
/-- What a sharing-set word reads as beyond its held bits: coaches are members of sets 1 to 4,095 (R64). -/
def shareForced (off : Nat) : Word :=
  if 0xF100080 ≤ off ∧ off < 0xF180000 ∧ 4 ≤ (off % 0x80 / 4) % 16 ∧ (off % 0x80 / 4) % 16 < 12 then 0xFFFFFFFF else 0
/-- A structural value as R63 and R64 let it be written. -/
def shareFix (off : Nat) (v : Word) : Word := v &&& shareWritable off
/-- The bank that the image at `base` gives: sections in header order, runs in order, a later word overriding an
earlier one; fields that it does not give are zero (R433, R436). -/
def imageBank (s : State) (base : Nat) : SMap Word :=
  (sectionsAt s base).foldl (fun b x =>
    match sectionWords s base x with
    | some ws => ws.foldl (fun b p => sPut b p.1 0 (shareFix p.1 p.2)) b
    | none => b) []

/-! ### The image that PERSIST writes (R459) -/

/-- One run of one word for each non-zero word of a section's type (the division into runs is the device's,
assumption 41). -/
def persistSection (b : SMap Word) (typ : Nat) : List Byte :=
  b.flatMap (fun p => if sectionOf p.1 = typ then leBytes 4 p.1 ++ leBytes 4 1 ++ leBytes 4 p.2.toNat else [])

/-- Bytes padded with zeros to a multiple of `m`. -/
def padTo (m : Nat) (bs : List Byte) : List Byte := bs ++ List.replicate ((m - bs.length % m) % m) 0

/-- Lay sections out from offset `a`: the entries and the bytes. -/
def layOut (a : Nat) (l : List (Nat × List Byte)) : List Section × List Byte :=
  match l with
  | [] => ([], [])
  | (t, bs) :: r =>
    let q := padTo 64 bs
    let (xs, rest) := layOut (a + q.length) r
    (⟨t, a, bs.length, (crc32c bs).toNat⟩ :: xs, q ++ rest)

/-- The image of a bank with a code envelope, a sequence number and an epoch, signed with the device key. -/
def buildImage (b : SMap Word) (envelope : List Byte) (seq epoch : Nat) : List Byte :=
  let (xs, body) := layOut 0x1000 (sectionTypes.map (fun t => (t, if t = 0x01 then envelope else persistSection b t)))
  let padded := padTo 256 body
  let len := 0x1000 + padded.length + 256
  let head := imageMagic ++ leBytes 2 1 ++ leBytes 2 xs.length ++ leBytes 4 len ++ leBytes 8 seq ++ leBytes 4 epoch ++
    leBytes 2 0x0B28 ++ leBytes 1 (Config.stepMajor.toNat * 16 + Config.stepMinor.toNat) ++ leBytes 1 2 ++
    List.replicate 96 0 ++
    xs.flatMap (fun x => leBytes 2 x.typ ++ [0, 0] ++ leBytes 4 x.offset ++ leBytes 4 x.length ++ leBytes 4 x.crc)
  let all := padTo 0x1000 head ++ padded
  all ++ Config.deviceSignature all

end Sys2Proof.Machine
end

