-- ==== Sys2Proof/Machine/Peer.lean ====
section
/-! DEFINITION. What a host does to a service function (13): BAR accesses, the peer window, their order, configuration
requests and function-level resets. -/

namespace Sys2Proof.Machine

/-! ### Views of a channel context and of BAR 0 (R214, R408, R554) -/

/-- Word `i` of the context of index `c` (06, "Channel context registers"); `tenantView`: fields marked P read as zero. -/
def ctxWord (s : State) (c i : Nat) (tenantView : Bool) : Word :=
  let ch := chanOf s c
  let cnt := rd s (R.COACH_CH_CNT c) 15 0
  let live := decide (ch.st ≠ .free)
  let code := match ch.st with
    | .free => 0
    | .active => 1
    | .halted => 2
    | .resetting => 3
  match i with
  | 0 => if live then handleOf ch c else 0
  | 1 =>
    if live then
      BitVec.ofNat 32 (code * 2 ^ 30 + (oldBusy s c).toNat * 2 ^ 29 + ch.priv.toNat * 2 ^ 28 + ch.house * 2 ^ 12 +
        ch.cause * 2 ^ 8 + (if tenantView then 0 else ch.tenant * 2 ^ 16 + ch.slot))
    else BitVec.ofNat 32 ((oldBusy s c).toNat * 2 ^ 29)
  | 2 => BitVec.ofNat 32 (ch.tail * 2 ^ 16 + ch.head)
  | 4 => BitVec.ofNat 32 (ch.abortRes * 2 ^ 28 + ch.abortIdx)
  | 5 => BitVec.ofNat 32 cnt
  | 6 =>
    if live then BitVec.ofNat 32 (ch.mask * 2 ^ 16 + ch.depth * 2 ^ 12 + ch.tc * 2 ^ 8 + ch.quota) else 0
  | _ => 0
/-- The channel of a tenant's slot. -/
def slotChan (s : State) (t k : Nat) : Option Nat := ((chansOf s t).find? (fun x => x.2.slot == k)).map (·.1)
/-- STX_TENANT_STAT. -/
def tenantStat (s : State) (t : Nat) : Word :=
  BitVec.ofNat 32 (rd s (R.STX_TENANT_STAT t) 31 16 * 2 ^ 16 + (chansOf s t).length)
/-- RST_CHIP_ID. -/
def chipId : Word := 0x0B280200 ||| BitVec.setWidth 32 (Config.stepMajor ++ Config.stepMinor)
/-- The counter shown in slot `k` of a tenant's page: the lowest assigned one (R554). -/
def shownCounter (s : State) (t k : Nat) : Option Nat :=
  (List.range 320).find? (fun i =>
    let w := rdWord s (perfBase i + 0x10)
    bitAt w 31 && fld w 11 0 == t && fld w 23 16 == k)
/-- The word at BAR 0 offset `o` for tenant `t` (R408). -/
def bar0Word (s : State) (t o : Nat) : Word :=
  if o = 0 then tenantStat s t
  else if o = 4 then liveWord s (R.STX_TENANT_KEY t)
  else if o = 8 then chipId
  else if o = 0x10 ∨ o = 0x14 then rdWord s (R.RST_TIME + (o - 0x10))
  else if 0x1000 ≤ o ∧ o < 0x1100 then (if o % 0x10 = 0xC then 0 else liveWord s (R.STX_WIN_W0 t ((o - 0x1000) / 0x10) + o % 0x10))
  else if 0x4000 ≤ o ∧ o < 0x6000 then
    match shownCounter s t ((o - 0x4000) / 0x20) with
    | some i => if o % 0x20 = 0x10 then 0 else if o % 0x20 ≤ 0x14 then rdWord s (perfBase i + o % 0x20) else 0
    | none => 0
  else if 0x8000 ≤ o ∧ o < 0xA000 then
    match slotChan s t ((o - 0x8000) / 0x20) with
    | some c => ctxWord s c (o % 0x20 / 4) true
    | none => 0
  else 0
/-- The low word of a 64-bit register of BAR 0: RST_TIME, and the value of a counter (R8, R407). -/
def bar0Wide (o : Nat) : Bool := o == 0x10 || (decide (0x4000 ≤ o) && decide (o < 0x6000) && o % 0x20 == 8)

/-! ### BAR 0 and BAR 2 (R404, R407 to R409, R421) -/

/-- BAR accesses of the function are turned away: in D3hot, without Memory Space Enable, in a function-level reset, or while
R463 holds the twin in STARTING (R535). -/
def barClosed (s : State) (p f : Nat) : Bool :=
  inFlr s p f || inD3 s p f || ! memEnable s p f || (s.pair.clash && pairState s == 0)
/-- Unsupported Request: completed where it is non-posted, and logged but in a function-level reset, whose end clears the
log. -/
def barRefuse (s : State) (p f tag : Nat) (nonPosted : Bool) : State :=
  let t := if inFlr s p f then s else logUncorrectable s p f 20
  if nonPosted then emit t (.cpl p f tag .unsupported false []) else t
/-- Complete a BAR read. -/
def barData (s : State) (p f n v : Nat) : State := emit s (.cpl p f 0 .success false (leBytes n v))
/-- The register of the map that tenant `t` sees as the 64-bit register at `o` of BAR 0: RST_TIME, or a counter's value. -/
def bar0Reg (s : State) (t o : Nat) : Option Nat :=
  if ! bar0Wide o then none
  else if o = 0x10 then some R.RST_TIME
  else (shownCounter s t ((o - 0x4000) / 0x20)).map (fun i => perfBase i + 8)
/-- One 4-byte read of BAR 0: the low word of a 64-bit register captures the high word of that register, and a read of the
high word returns what was captured (R8). -/
def bar0Read4 (s : State) (t o : Nat) : State × Word :=
  match bar0Reg s t o with
  | some r => ({ s with cap := sPut s.cap (r + 4) 0 (rdWord s (r + 4)) }, bar0Word s t o)
  | none =>
    match if 4 ≤ o then bar0Reg s t (o - 4) else none with
    | some r => (s, sGet s.cap (r + 4) 0)
    | none => (s, bar0Word s t o)
/-- A word of BAR 0 written by the tenant: only COACH_CH_CTRL acts (R227, R229, R408). -/
def bar0Write4 (s : State) (t o : Nat) (v : Word) : State :=
  if 0x8000 ≤ o ∧ o < 0xA000 ∧ o % 0x20 = 0xC then
    match slotChan s t ((o - 0x8000) / 0x20) with
    | some c =>
      if bitAt v 31 then endLife s c false
      else if bitAt v 30 then abortEntry s c (fld v 11 0)
      else s
    | none => s
  else s
/-- A word of the MSI-X area of BAR 2 (R409, R416, R417). -/
def bar2Word (s : State) (p f o : Nat) : Word :=
  if 0x100000 ≤ o ∧ o < 0x108000 then
    let i := (o - 0x100000) / 4
    if i / 4 < msixSize s p f then msixWord s p f (i / 4) (i % 4) else 0
  else if 0x108000 ≤ o ∧ o < 0x108100 then
    BitVec.ofNat 32 (((List.range 32).map (fun j =>
      if vectorPending s p f ((o - 0x108000) * 8 + j) then 2 ^ j else 0)).foldl (· + ·) 0)
  else 0
/-- A BAR access that is performed now. -/
def barNow (s : State) (a : BarAccess) : State :=
  let p := a.port.val
  let f := a.func.val
  let area2 := decide (0x100000 ≤ a.off) && decide (a.off < 0x110000)
  let fits := (a.size == 4 || a.size == 8) && a.off % a.size == 0
  if ! fnPresent s p f || f = 0 then s
  else if barClosed s p f then barRefuse s p f 0 a.write.isNone
  else if a.bar.val = 0 then
    if ! fits then barRefuse s p f 0 a.write.isNone
    else
      match a.write, tenantOf s p f with
      | none, none => barData s p f a.size 0
      | none, some t =>
        let r := bar0Read4 s t a.off
        if a.size = 4 then barData r.1 p f 4 r.2.toNat
        else barData r.1 p f 8 ((bar0Word s t a.off).toNat + (bar0Word s t (a.off + 4)).toNat * 2 ^ 32)
      | some v, some t =>
        let u := bar0Write4 s t a.off (v.extractLsb' 0 32)
        if a.size = 8 then bar0Write4 u t (a.off + 4) (v.extractLsb' 32 32) else u
      | some _, none => s
  else if a.bar.val = 2 then
    if area2 && ! fits then barRefuse s p f 0 a.write.isNone
    else
      match a.write with
      | none =>
        barData s p f a.size (if area2 then (bar2Word s p f a.off).toNat +
          (if a.size = 8 then (bar2Word s p f (a.off + 4)).toNat * 2 ^ 32 else 0) else 0)
      | some v =>
        if a.off < 0x100000 then doorbellNow s p f a.off a.size v
        else if a.off < 0x108000 then
          let u := msixTableWrite s p f ((a.off - 0x100000) / 4) (v.extractLsb' 0 32)
          if a.size = 8 then msixTableWrite u p f ((a.off - 0x100000) / 4 + 1) (v.extractLsb' 32 32) else u
        else s
  else s

/-! ### TLPs of a function in order (R413 to R420) -/

/-- The function's TLPs that have not ended, in arrival order. -/
def posted (w : PeerWork) : Bool :=
  match w with
  | .write _ => true
  | .bar (.bar0Access a) => a.write.isSome
  | .bar _ => true
  | _ => false
def isBar (w : PeerWork) : Bool :=
  match w with
  | .bar _ => true
  | _ => false
def sameFn (a b : PeerJob) : Bool := a.port == b.port && a.func == b.func
/-- TLPs of the function that stand before `j`. -/
def before (s : State) (j : PeerJob) : List PeerJob := (s.hp.jobs.takeWhile (fun x => x.id != j.id)).filter (sameFn j)
/-- Peer-window TLPs wait from step 3 to step 4 of a function-level reset (R421). -/
def flrWaits (s : State) (p f : Nat) : Bool := sGet s.fns.flr (fnKey p f) 0 == 2
/-- The TLP is in a meter's hold list (R307). -/
def meterHeld (s : State) (id : Nat) : Bool :=
  s.buf.pkts.any (fun x => match x.load with
    | .peer i _ => i == id
    | _ => false)
/-- The turn of a TLP has come (R419, R420). -/
def jobTurn (s : State) (j : PeerJob) : Bool :=
  let l := before s j
  if isBar j.work then ! l.any (fun x => posted x.work && ! x.dropped && (isBar x.work || ! flrWaits s j.port j.func))
  else
    ! flrWaits s j.port j.func && ! meterHeld s j.id && ! l.any (fun x => posted x.work) &&
      (posted j.work ||
        decide (((s.hp.jobs.filter (sameFn j)).filter (fun x => ! posted x.work && ! isBar x.work && x.stage == .run)).length < 64))

/-- Kind of a peer-window TLP: R, W, A of R326; and its permission bit. -/
def peerKind (w : PeerWork) : Nat :=
  match w with
  | .read => 1
  | .write _ => 2
  | _ => 4
/-- Data and mask that a write TLP gives line `l`. -/
def peerLine (j : PeerJob) (data : List Byte) (l : LAddr) : LineData × BitVec 64 :=
  let lo := lineLo j.addr l.toNat
  let hi := lineHi j.addr j.bytes l.toNat
  (mkLine (fun i => if lo ≤ i ∧ i < hi then data.getD (l.toNat * 64 + i - j.addr) 0 else 0), byteMask lo hi)
/-- Start one line of a TLP; none where a tag or a cell is missing (R88, R140, R413). -/
def startLine (s : State) (j : PeerJob) (l : LAddr) : Option State :=
  match freeHostTag s j.port with
  | none => none
  | some t =>
    let r : HostReq := {
      port := j.port, rtag := t, hostTag := BitVec.ofNat 16 j.id, job := some j.id, kind := .rdCur, line := l
      direct := segMode (bankFor s (some j.epoch)) (segOf (lineAddr l)) != 1, data := none, cell := none, cls := homedClass s, captured := false
      checked := true, ended := false, grant := none, got := none }
    match j.work with
    | .read => some (startHost s r ⟨0, false, 0, 0, 0⟩ j.epoch)
    | .atomic a => some (startHost s { r with kind := .atomicFar } a j.epoch)
    | .write d =>
      (reserveCell s j.port none).map (fun c =>
        let v := peerLine j d l
        startHost c.1 { r with
          kind := if v.2 = fullMask then .wrLine else .wrPart, data := some (v.1, v.2, false), cell := some c.2 }
          ⟨0, false, 0, 0, 0⟩ j.epoch)
    | .bar _ => none
/-- Start as many lines as may start. -/
def startLines (n : Nat) (s : State) (id : Nat) : State :=
  match n with
  | 0 => s
  | m + 1 =>
    match jobAt s id with
    | none => s
    | some j =>
      match j.todo with
      | [] => s
      | l :: t =>
        match startLine (putJob s { j with todo := t, running := j.running ++ [l], stage := .run }) { j with todo := t } l with
        | some u => startLines m u id
        | none => s

def dropJob (s : State) (j : PeerJob) : State :=
  withHp s { s.hp with jobs := s.hp.jobs.filter (fun x => x.id != j.id) }
/-- PEER_TMO (R414, R426). -/
def countPeerTmo (s : State) (p : Nat) : State :=
  count s (linkReg (.port (Fin.ofNat 128 p)) 0x20) 0 .every (linkEv (p / 4))
/-- Data of a completed read, in address order. -/
def readBytes (j : PeerJob) : List Byte :=
  (List.range j.bytes).map (fun i => lineByte (sGet j.got ((j.addr + i) / 64) 0) ((j.addr + i) % 64))
/-- A TLP has ended: its completion, or what a posted one leaves (R413, R414). -/
def endJob (s : State) (j : PeerJob) : State :=
  let t := dropJob s j
  if j.dropped then t
  else if posted j.work then
    if j.status = .success then t else countPeerTmo (logUncorrectable t j.port j.func 15) j.port
  else
    let out (u : State) (b : List Byte) : State := emit u (.cpl j.port j.func j.tag.toNat j.status j.poison b)
    match j.status, j.work with
    | .success, .read => out t (readBytes j)
    | .success, .atomic a => out t (leBytes (if a.size8 then 8 else 4) j.old.toNat)
    | .unsupported, _ => out (logUncorrectable t j.port j.func 20) []
    | _, _ => out (logUncorrectable t j.port j.func 15) []
/-- A BAR 0 access or a doorbell whose turn has come (R407, R419). -/
def barRun (t : State) (c : Instr) : State :=
  match c with
  | .bar0Access a => barNow t a
  | .doorbell p f off size v =>
    if ! fnPresent t p f then t
    else if barClosed t p f then barRefuse t p f 0 false
    else doorbellNow t p f off size v
  | _ => t
/-- What job `j` does next, if anything. -/
def jobStep (s : State) (j : PeerJob) : Option State :=
  match j.stage with
  | .colour => none
  | .turn =>
    if ! jobTurn s j then none
    else
      match j.work with
      | .bar c =>
        some (barRun (dropJob s j) c)
      | _ => some (putJob s { j with stage := .run })
  | .run =>
    let t := startLines 65 s j.id
    if ((jobAt t j.id).elim 0 (fun x => x.todo.length)) = j.todo.length then none else some t
  | .done =>
    if ! posted j.work && ! isBar j.work && (before s j).any (fun x => ! posted x.work && ! isBar x.work) then none
    else some (endJob s j)
/-- Let every TLP go as far as it can. -/
def settlePeersN (n : Nat) (s : State) : State :=
  match n with
  | 0 => s
  | m + 1 =>
    match s.hp.jobs.findSome? (jobStep s) with
    | some t => settlePeersN m t
    | none => s
def settlePeers (s : State) : State := settlePeersN (70 * s.hp.jobs.length + 1) s

/-- Take a TLP of a function. -/
def addJob (s : State) (j : PeerJob) : State :=
  withHp s { s.hp with jobs := s.hp.jobs ++ [{ j with id := s.hp.nextJob }], nextJob := s.hp.nextJob + 1 }
def emptyJob (p f : Nat) (w : PeerWork) : PeerJob :=
  { id := 0, port := p, func := f, tag := 0, work := w, addr := 0, bytes := 0, key := 0, tenant := 0, stage := .turn, todo := []
    running := [], got := [], poison := false, status := .success, old := 0, dropped := false, epoch := false }
/-- BAR0_ACCESS (R407 to R409, R418 to R420). -/
def execBar0Access (a : BarAccess) (s : State) : Host.Outcome State Fault Refusal :=
  .next (onFabric s (settlePeers (addJob s (emptyJob a.port a.func (.bar (.bar0Access a))))))
/-- DOORBELL (R222, R223), after the earlier posted writes of its function (R419). -/
def execDoorbell (port : Fin 128) (func : FuncNo) (off size : Nat) (val : BitVec 64) (s : State) :
    Host.Outcome State Fault Refusal :=
  .next (onFabric s (settlePeers (addJob s (emptyJob port func (.bar (.doorbell port func off size val))))))

/-! ### The peer window (R410 to R415, R328) -/

/-- An enabled window of tenant `t` that holds all the bytes [x, x + n) of BAR 4 (R328, R411). -/
def windowFor (s : State) (t x n : Nat) : Option Nat :=
  (List.range 16).find? (fun w =>
    let w0 := liveWord s (R.STX_WIN_W0 t w)
    let lo := fld w0 15 0 * 2 ^ 30
    bitAt w0 31 && decide (lo ≤ x) && decide (x + n ≤ lo + fld (liveWord s (R.STX_WIN_W1 t w)) 16 0 * 2 ^ 30))
/-- End a refused TLP: a posted one is discarded at once, a non-posted one is completed in its turn. -/
def peerRefuse (s : State) (j : PeerJob) (st : CplStatus) : State :=
  if posted j.work then logUncorrectable (dropJob s j) j.port j.func (if st = .unsupported then 20 else 15)
  else putJob s { j with stage := .done, status := st }
/-- Step 4 of R54 for a TLP, at its arrival or when its carve-out line has come, under the epoch of its arrival (R55). -/
def peerCheck (s : State) (id : Nat) (bad : Bool) : State :=
  match jobAt s id with
  | none => s
  | some j =>
    match protect (atBank s (some j.epoch)) (ppuOf j.port) ⟨0, peerKind j.work, 1, j.tenant, j.addr, j.bytes⟩ (some j.key) bad with
    | .need l => tagNeed (putJob s { j with stage := .colour }) (portRegion j.port) l (.peer id)
    | .refuse t tag =>
      let u := restoreBank s t
      peerRefuse (if tag then logUncorrectable u j.port 0 22 else u) j .abort
    | .pass t =>
      putJob (restoreBank s t) { j with stage := .turn, todo := (linesOf j.addr j.bytes).map (BitVec.ofNat 40) }
/-- The meter of (tenant, port) takes the TLP: a red one, and one behind a hold list, waits (R304, R306, R307). -/
def peerMeter (s : State) (j : PeerJob) : State :=
  let n := portRegion j.port
  match meterFor s n j.tenant j.port with
  | none => s
  | some i =>
    let pr := meterProfile s n i
    let k := if holdList s n i = [] then colourOf s pr (meterPair s n i) j.bytes else .red
    let t := setMeter s n i (chargeColour s pr (meterPair s n i) j.bytes k)
    if k = .red then
      let r := newPkt t n (portIdx j.port) (homedClass t) (.port (Fin.ofNat 128 j.port)) .U 0 0 false i (.peer j.id j.bytes)
      settleHeld (withBuf r.1 { r.1.buf with pkts := r.1.buf.pkts ++ [{ r.2 with stage := .held i }] }) n i
    else t
/-- A peer-window TLP reaches its function: window, binding, protection, colour (R328, R411, R412). -/
def peerArrive (s : State) (tlp : PeerTlp) (w : PeerWork) : State :=
  let p := tlp.port.val
  let f := tlp.func.val
  let j0 : PeerJob := { emptyJob p f w with id := s.hp.nextJob, tag := tlp.tag, bytes := tlp.bytes, epoch := epochBit s }
  if ! fnPresent s p f || f = 0 then s
  else if barClosed s p f then barRefuse s p f tlp.tag.toNat (! posted w)
  else
    let size16 := match w with
      | .atomic _ => tlp.bytes != 4 && tlp.bytes != 8
      | _ => false
    match tenantOf s p f with
    | none =>
      -- no tenant owns the function: no window is enabled (INIT of the record: assumption 177)
      let x : Access := ⟨0, peerKind w, 1, (freeVal s).toNat % 4096, tlp.off, tlp.bytes⟩
      peerRefuse (recordFirst (addJob (usedFree s) j0) (ppuWindow p) x ⟨5, 0x7E, tlp.off⟩ 3 (ppuEv (p / 4))) j0 .unsupported
    | some t =>
      match windowFor s t tlp.off tlp.bytes with
      | none =>
        let x : Access := ⟨0, peerKind w, 1, t, tlp.off, tlp.bytes⟩
        peerRefuse (recordFirst (addJob s j0) (ppuWindow p) x ⟨5, 0x7E, tlp.off⟩ 3 (ppuEv (p / 4))) j0 .unsupported
      | some i =>
        let w0 := liveWord s (R.STX_WIN_W0 t i)
        let ok := match w with
          | .read => bitAt w0 28
          | .write _ => bitAt w0 29
          | _ => bitAt w0 30
        let a := fld (liveWord s (R.STX_WIN_W2 t i)) 15 0 * 2 ^ 30 + (tlp.off - fld w0 15 0 * 2 ^ 30)
        let j := { j0 with addr := a, key := fld w0 27 24, tenant := t }
        if ! ok then
          let x : Access := ⟨0, peerKind w, 1, t, tlp.off, tlp.bytes⟩
          peerRefuse (recordFirst (addJob s j) (ppuWindow p) x ⟨5, 0x7E, tlp.off⟩ 3 (ppuEv (p / 4))) j .abort
        else if size16 then peerRefuse (addJob s j) j .unsupported
        else if ! portReach (bankNow s) p a then peerRefuse (countUnbound (addJob s j)) j .abort
        else peerCheck (peerMeter (addJob s j) j) j.id false
/-- PEER_READ. -/
def execPeerRead (t : PeerTlp) (s : State) : Host.Outcome State Fault Refusal :=
  .next (onFabric s (settlePeers (peerArrive s t .read)))
/-- PEER_WRITE. -/
def execPeerWrite (t : PeerTlp) (data : List Byte) (s : State) : Host.Outcome State Fault Refusal :=
  .next (onFabric s (settlePeers (peerArrive s t (.write data))))
/-- PEER_ATOMIC: always far (R413); the compare value is OPERAND_A. -/
def execPeerAtomic (t : PeerTlp) (op : PeerOp) (opA opB : BitVec 64) (s : State) : Host.Outcome State Fault Refusal :=
  let aop : BitVec 4 := match op with
    | .fetchAdd => 0
    | .swap => 1
    | .cas => 2
  .next (onFabric s (settlePeers (peerArrive s t (.atomic ⟨aop, t.bytes == 8, BitVec.ofNat 6 (t.off % 64), opA, opB⟩))))

/-! ### Hold lists (R308) -/

/-- HOLD_LIST_RELEASE: the head of a hold list, once Tp covers it. A peer-window TLP then waits for its turn only. -/
def execHoldListRelease (region : Fin 16) (meter : Fin 1024) (s : State) : Host.Outcome State Fault Refusal :=
  .next (onFabric s
    (match holdList s region meter with
     | [] => s
     | x :: _ =>
       let b := match x.load with
         | .switched p => p.bytes
         | .peer _ n => n
         | _ => 0
       let pr := meterProfile s region meter
       let pair := meterPair s region meter
       let valid := bitAt (meterWord s.banks.live region meter) 31
       if valid && decide (0 < ratePir s.banks.live pr) && decide (tokensP s pr pair < 4096 * b) then s
       else
         let full := ! valid || decide (4096 * b ≤ tokensC s pr pair) || decide (ratePir s.banks.live pr = 0)
         let t := if valid then setMeter s region meter (chargeBoth s pr pair (if full then b else 0) b) else s
         let u := withBuf t { t.buf with pkts := t.buf.pkts.erase x }
         let v := match x.load with
           | .peer _ _ => u
           | _ => joinPkt u { x with level := if full then 1 else 0 }
         settlePeers (settleHeld v region meter)))

/-! ### Function-level reset (R231, R421, R422) -/

/-- Time 0 of a function-level reset of service function `f`: its channels are reset, its pending messages are gone, and
what its TLPs bring back is discarded. -/
def startFlr (s : State) (p f : Nat) : State :=
  if ! fnPresent s p f || inFlr s p f then s
  else
    let t := match tenantOf s p f with
      | some t => endTenant s t
      | none => s
    let u := { t with fns := { t.fns with
      flr := sPut t.fns.flr (fnKey p f) 0 1, pba := t.fns.pba.filter (fun k => k / 2048 != fnKey p f) } }
    -- TLPs that have not started are dropped; those whose lines run go on in memory
    let mine (j : PeerJob) : Bool := j.port == p && j.func == f
    withHp u { u.hp with jobs := (u.hp.jobs.filter (fun j => ! mine j || ! j.running.isEmpty)).map (fun j =>
      if mine j then { j with dropped := true, todo := [] } else j) }
/-- Configuration space of function `f` at its reset values (R421 step 3). -/
def resetConfig (s : State) (p f : Nat) : State :=
  let k := fnKey p f
  { s with fns := { s.fns with
    cfg := sDrop s.fns.cfg (fun i => i / 1024 == k), msix := sDrop s.fns.msix (fun i => i / 8192 == k)
    pba := s.fns.pba.filter (fun i => i / 2048 != k) } }
/-- VF Enable becomes 0: every VF is reset and absent (R405, R422). -/
def clearVfs (s : State) (p : Nat) : State :=
  let l := presentVfs s p
  let t := forAll l s (fun u f => startFlr u p f)
  cfgPut t p 1 (0x168 / 4) (cfgGet t p 1 (0x168 / 4) &&& ~~~ 1)
/-- Initiate Function Level Reset of a function (R421, R422). -/
def flrOf (s : State) (p f : Nat) : State :=
  if f = 0 then
    resetConfig { s with pool := { s.pool with
      events := sDel s.pool.events p, nextHandle := sDel s.pool.nextHandle p
      waits := s.pool.waits.filter (fun w => w.port.val != p || w.release) } } p 0
  else if f = 1 then startFlr (clearVfs s p) p 1
  else startFlr s p f
/-- FLR. -/
def execFlr (port : Fin 128) (func : FuncNo) (s : State) : Host.Outcome State Fault Refusal :=
  .next (onFabric s
    (if fnPresent s port func && ! inFlr s port func then settlePeers (flrOf s port func) else s))
/-- Step 3: the reset is complete; step 4 follows once the writes of the earlier life have ended. -/
def finishFlr (s : State) (p f : Nat) : State :=
  let t := resetConfig s p f
  let busy := t.hp.jobs.any (fun j => j.port == p && j.func == f && j.dropped)
  { t with fns := { t.fns with flr := sPut t.fns.flr (fnKey p f) 0 (if busy then 2 else 0) } }
/-- FLR_COMPLETE (R421 step 3). -/
def execFlrComplete (port : Fin 128) (func : FuncNo) (s : State) : Host.Outcome State Fault Refusal :=
  .next (onFabric s (if inFlr s port func then settlePeers (finishFlr s port func) else s))
/-- FLR_PEER_DRAINED (R421 step 4): TLPs that waited go on, once nothing of the earlier life is in progress. -/
def execFlrPeerDrained (port : Fin 128) (func : FuncNo) (s : State) : Host.Outcome State Fault Refusal :=
  .next (onFabric s
    (if flrWaits s port func && ! s.hp.jobs.any (fun j => j.port == port.val && j.func == func.val && j.dropped) then
       settlePeers { s with fns := { s.fns with flr := sDel s.fns.flr (fnKey port func) } }
     else s))
/-- VF_ENABLE_CLEAR (R405). -/
def execVfEnableClear (port : Fin 128) (s : State) : Host.Outcome State Fault Refusal :=
  .next (onFabric s
    (if fnPresent s port 1 && ! inFlr s port 1 && vfEnable s port then settlePeers (clearVfs s port) else s))

/-! ### Configuration requests (R399 to R405, R535) -/

/-- BUS_MASTER_ENABLE_SET: pending vectors go out, and the function's channels fetch and write (R220, R417). -/
def execBusMasterEnableSet (port : Fin 128) (func : FuncNo) (s : State) : Host.Outcome State Fault Refusal :=
  .next (onFabric s
    (if fnPresent s port func && ! inFlr s port func then fetchAll (setBusMaster s port func) else s))
/-- POWER_STATE_WRITE: only the PF has the Power Management capability (R402, R404). -/
def execPowerStateWrite (port : Fin 128) (func : FuncNo) (d3 : Bool) (s : State) : Host.Outcome State Fault Refusal :=
  .next (onFabric s
    (if func.val = 1 && fnPresent s port 1 && ! inFlr s port 1 then fetchAll (setPower s port d3) else s))

/-- Write a configuration word of a function, with what the change does (R404, R405, R417, R421). -/
def cfgWrite (s : State) (p f o : Nat) (v : Word) : State :=
  let m := cfgMask s p f o
  let old := cfgGet s p f (o / 4)
  let new := ((old &&& ~~~ m) ||| (v &&& m)) &&& ~~~ (v &&& cfgW1c f o)
  -- Initiate Function Level Reset is bit 15 of Device Control
  if o = 0x68 ∧ bitAt v 15 then flrOf (cfgPut s p f (o / 4) new) p f
  else if f = 1 ∧ o = 0x168 ∧ bitAt old 0 ∧ ! bitAt v 0 then
    let t := clearVfs s p
    cfgPut t p 1 (o / 4) new
  else if f = 1 ∧ o = 0x44 then setPower s p (fld v 1 0 == 3)
  else
    let t := cfgPut s p f (o / 4) new
    -- messages that the change lets out
    if o = 0x04 ∨ o = 0x50 then flushVectors t p f else t
/-- CONFIG_REQUEST: retry status during start-up, Unsupported Request from an absent function, reset values and no effect
in a function-level reset, else the word (R399, R421, R535). -/
def execConfigRequest (port : Fin 128) (func : FuncNo) (off : BitVec 12) (write : Option Word) (s : State) :
    Host.Outcome State Fault Refusal :=
  .next (onFabric s
    (if portRole s port ≠ 1 ∨ linkActive s port = false then s
     else if retryStatus s port then emit s (.cfg port .retry 0)
     else if ! fnPresent s port func then emit s (.cfg port .unsupported 0)
     else
       let o := off.toNat / 4 * 4
       match write with
       | none =>
         emit (if cfgHeaderLog o then usedFree s else s)
           (.cfg port .success (cfgRead (if inFlr s port func then resetConfig s port func else s) port func o))
       | some v =>
         if inFlr s port func then emit s (.cfg port .success 0)
         else settlePeers (fetchAll (emit (cfgWrite s port func o v) (.cfg port .success 0)))))

end Sys2Proof.Machine
end

