-- ==== Sys2Proof/Machine/Reply.lean ====
section
/-! DEFINITION. Messages that reach an agent: grants, Cmp, Err, DataGo, Fill, MemCmp and snoops (R102 to R120, R141); the
carve-out lines that a region reads (R81, R82); released capacity (R74 to R76); and the timers of requests and
reservations (R140, R288). -/

namespace Sys2Proof.Machine

/-- What a change lets go on: descriptors of channels and TLPs of functions. -/
def settleAll (s : State) : State := settlePeers (startDescs s)

/-! ### Answers to agents (R109, R112, R120, R121) -/

/-- The forwarded request that an answer of the other twin's home is for. -/
def fwdOf (s : State) (m : Hdr) : Option Fwd := s.pair.fwd.find? (fun f => f.src == m.tgt && f.rtag == m.rtag)
/-- The MemRd that the forwarding twin sends to its own device port for a grant with data (R111, R121). -/
def fwdMemRd (s : State) (f : Fwd) (m : Hdr) : Hdr :=
  let near := f.req.kind == .atomicFar && isCoach m.tgt
  let n := if isCoach m.tgt then houseOf (coachNo m.tgt) else portRegion (localAgent m.tgt)
  { tgt := m.tgt, htwin := m.htwin, hslice := m.hslice, htxn := m.htxn, rtag := m.rtag, laddr := m.laddr
    dest := if near then 0 else attachment m.tgt, ddat := near, fwd := true, epoch0 := f.req.m.epoch0
    dport := Fin.ofNat 128 (portIn s (bankFor s f.req.m.epoch0) n (lineAddr m.laddr)) }
/-- The twin node passes on an answer of the other twin's home to an own agent: with a grant that carries data, an Upgrade's
that the home has served as RdOwn among them, it sends the MemRd to this twin's own device port; a Cmp or an Err ends the
request there (R112, R120, R121, R482). -/
def twinAnswer (s : State) (m : Hdr) (ends : Bool) : State :=
  if m.htwin = s.dev.pid then s
  else
    match fwdOf s m with
    | none => s
    | some f =>
      let kind := f.req.kind
      let reads := ! m.nodata && (match kind with
        | .rdShared | .rdOwn | .upgrade | .rdCur => true
        | .atomicFar => ! ends
        | _ => false)
      let closes := ends && kind != .rdCur
      let t :=
        if closes then dropFwd s m.tgt m.rtag
        else { s with pair := { s.pair with fwd := s.pair.fwd.map (fun x =>
          if x.src = f.src ∧ x.rtag = f.rtag then { x with htxn := m.htxn, granted := true } else x) } }
      if reads then send t (.memrd (fwdMemRd t f m)) else t

/-- Give an answer to its agent. -/
def toHostOrCoach (s : State) (m : Hdr) (h : State → Nat → State) (c : State → Nat → State) : State :=
  if ! ownAgent s m.tgt then s
  else if localAgent m.tgt < 128 then h s (localAgent m.tgt)
  else if isCoach m.tgt then c s (coachNo m.tgt)
  else s
/-- A grant (NDR 1 Cmp-S, 2 Cmp-E) or a Cmp (0). -/
def grantTo (s : State) (m : Hdr) (ndr : Nat) (res : AtomicRes) : State :=
  settleAll (toHostOrCoach (twinAnswer s m (ndr == 0)) m
    (fun t p => hostGrant t p m ndr res) (fun t k => coachGrant t k m ndr res))
/-- CMPS. -/
def execCmps (m : Hdr) (s : State) : Host.Outcome State Fault Refusal :=
  .next (onFabric s (receive s (.cmps m) (fun t => grantTo t m 1 {})))
/-- CMPO. -/
def execCmpo (m : Hdr) (s : State) : Host.Outcome State Fault Refusal :=
  .next (onFabric s (receive s (.cmpo m) (fun t => grantTo t m 2 {})))
/-- CMP: of a home, or of a device port cell that has performed an atomic of R60 (assumption 43). -/
def execCmp (m : Hdr) (res : AtomicRes) (s : State) : Host.Outcome State Fault Refusal :=
  .next (onFabric s (receive s (.cmp m res) (fun t =>
    if m.ddat then
      settleAll (toHostOrCoach t m (fun u p => hostDirect u p m (.old res.old (m.status != 0)))
        (fun u k => coachDirect u k m res))
    else grantTo t m 0 res)))
/-- ERR (R137, R145, R147). -/
def execErr (m : Hdr) (s : State) : Host.Outcome State Fault Refusal :=
  .next (onFabric s (receive s (.err m) (fun t =>
    let u := if m.htwin = t.dev.pid then t else dropFwd t m.tgt m.rtag
    settleAll (toHostOrCoach u m (fun v p => hostErr v p m) (fun v k => coachErr v k m)))))
/-- DATAGO: the named agent sends its data; a DataGo without an agent has the device port write poison (R113, R142). -/
def execDatago (m : Hdr) (s : State) : Host.Outcome State Fault Refusal :=
  .next (onFabric s (receive s (.datago m) (fun v =>
    let t := unreserve v (.dirty m.tgt (homeTxn m))
    if m.tgt = 0x3FF then dpWrite t m.dport m.laddr m 0 fullMask true
    else
      settleAll (toHostOrCoach (twinAnswer t m false) m (fun u p => hostDatago u p m) (fun u k => coachDatago u k m)))))
/-- FILL: the atomic unit's line, or a line for a coach's cache (R111, R153). -/
def execFill (m : Hdr) (data : LineData) (s : State) : Host.Outcome State Fault Refusal :=
  .next (onFabric s (receive s (.fill m data) (fun t =>
    if m.tgt = 0x3FF then homeFill t m data
    else settleAll (toHostOrCoach t m (fun u _ => u) (fun u k => coachData u k m data)))))
/-- MEMCMP: to the home, or to the agent that wrote without one (R113). -/
def execMemcmp (m : Hdr) (s : State) : Host.Outcome State Fault Refusal :=
  .next (onFabric s (receive s (.memcmp m) (fun t =>
    if m.tgt = 0x3FF then (if forThisHome t m then homeMemcmp t m else t)
    else settleAll (toHostOrCoach t m (fun u p => hostDirect u p m .done) (fun u k => coachDirect u k m {})))))
/-- BIACK (R106). -/
def execBiack (m : Hdr) (s : State) : Host.Outcome State Fault Refusal :=
  .next (onFabric s (receive s (.biack m) (fun t => if forThisHome t m then homeBiack t m else t)))

/-! ### Snoops (R102, R105, R115, R116) -/

/-- BACKINV or BACKDOWN reaches its agent. -/
def snoopAgent (s : State) (m : Hdr) (down : Bool) : State :=
  toHostOrCoach s m (fun t p => hostSnoop t p m down false) (fun t k => coachSnoop t k m down false)
def execBackinv (m : Hdr) (s : State) : Host.Outcome State Fault Refusal :=
  .next (onFabric s (receive s (.backinv m) (fun t => snoopAgent t m false)))
/-- BACKDOWN. -/
def execBackdown (m : Hdr) (s : State) : Host.Outcome State Fault Refusal :=
  .next (onFabric s (receive s (.backdown m) (fun t => snoopAgent t m true)))
/-- A member counts as answered at once: it is in a lost set of the region's slices, its coach is retired or faulted, or its unit
is fenced or in reset (R150). A host whose link is not active answers from its cell. -/
def countedAtOnce (s : State) (n : Nat) (a : Agent) : Bool :=
  (lostSet s (2 * n)).contains a || (lostSet s (2 * n + 1)).contains a || (agentUnit a).any (unitDown s) ||
    (isCoach a && decide (2 ≤ coachState s (coachNo a)))
/-- BACKINV_BROADCAST at a region: every member of the segment's sharing set there but the requester is snooped, by the set of
the epoch in which the home issued the broadcast (R65, R116, R117, R150, assumption 44). -/
def execBackinvBroadcast (region : Fin 16) (m : Hdr) (s : State) : Host.Outcome State Fault Refusal :=
  .next (onFabric s (receive s (.backinvBroadcast region m) (fun t =>
    let n := region.val
    let b := bankFor t m.epoch0
    let l := (regionMembers b (n + 16 * pidNat t) (segShare b (lineSeg m.laddr))).filter (fun a =>
      a != m.tgt && ! countedAtOnce t n a)
    let g : Agg := ⟨n, m, l⟩
    let u := withDir t { t.dir with aggs := t.dir.aggs ++ [g] }
    if l.isEmpty then settleAgg u g
    else
      forAll l u (fun v a =>
        if localAgent a < 128 then hostSnoop v (localAgent a) m false true else coachSnoop v (coachNo a) m false true))))

/-! ### Timers of agents (R140, R141, R288) -/

/-- REQUEST_TIMEOUT: the failure goes to the request's client. -/
def execRequestTimeout (agent : Agent) (rtag : BitVec 10) (s : State) : Host.Outcome State Fault Refusal :=
  .next (onFabric s
    (if ! ownAgent s agent then s
     else if localAgent agent < 128 then settleAll (hostTimeout s (localAgent agent) rtag)
     else if isCoach agent then settleAll (coachTimeout s (coachNo agent) rtag)
     else s))
/-! ### Carve-out lines (R80 to R82) -/

/-- The access that waits for a line goes on: checked with it, or refused with a tag error. -/
def tagUser (s : State) (l : LAddr) (err : Bool) (u : TagUser) : State :=
  match u with
  | .host c e => if (hostCmd c).elim false (fun h => hostUp s h.port) then hostRun s c e err else s
  | .peer id => peerCheck s id err
  | .coach k => pumpCoach s k (if err then some l else none)
/-- Port of an access that waits, where a host made it. -/
def tagPort (s : State) (u : TagUser) : Option Nat :=
  match u with
  | .host c _ => (hostCmd c).map (·.port)
  | .peer id => (jobAt s id).map (·.port)
  | .coach _ => none
/-- TAG_LINE_FILL: the line is cached and the held accesses are checked; a line in error is read once more, and a second
error refuses them (R82, R428). Data whose line was dropped while it was read is not used: the line is read again (R78, R83). -/
def execTagLineFill (region : Fin 16) (line : LAddr) (data : LineData) (ecc : Ecc) (s : State) :
    Host.Outcome State Fault Refusal :=
  .next (onFabric s (receive s (.tagLineFill region line data ecc) (fun t =>
    match t.pool.tagWaits.find? (fun w => w.region == region && w.line == line) with
    | none => t
    | some w =>
      let others := t.pool.tagWaits.filter (fun v => ! (v.region == region && v.line == line))
      let gone := { t with pool := { t.pool with tagWaits := others } }
      let read (x : TagWait) : State :=
        dpRead { t with pool := { t.pool with tagWaits := others ++ [x] } }
          (portFor t region (lineAddr line)) line 0x3FF (some (epochBit t)) (.tag region line)
      if w.stale then read { w with stale := false }
      else
        match ecc with
        | .uncorrectable =>
          if w.again then settleAll (forAll w.held gone (fun u x => tagUser u line true x)) else read { w with again := true }
        | e =>
          let u := tagInstall gone region line data
          let v := if e = .corrected then
              forAll ((w.held.filterMap (tagPort u)).dedup) (count u (R.RGN_TAG_ECC_CNT region) 0 .once (regionEv region 3))
                (fun x p => logCorrectable x p 0 14)
            else u
          settleAll (forAll w.held v (fun x y => tagUser x line false y)))))

/-! ### Released capacity (R67, R72, R74 to R76) -/

/-- Begin the purge sweep of segment `g` for port `p` at the slices that home it (R75). -/
def startSweep (s : State) (p g : Nat) : State :=
  let agents : List Agent := [BitVec.ofNat 10 p, BitVec.ofNat 10 (512 + p)]
  let lines := s.dir.ways.filterMap (fun e =>
    let x := e.1 / 16 / 8192
    let l := lineAt x (e.1 / 16 % 8192) e.2.tag
    if e.2.st ≠ .free ∧ e.2.shadow = false ∧ lineSeg l = g ∧ (ptrs e.2).any (fun a => agents.contains a) = true then some (x, l) else none)
  let t := { s with pool := { s.pool with sweeps := s.pool.sweeps ++ [(Fin.ofNat 128 p, g)] } }
  withDir t { t.dir with work := t.dir.work ++ lines.map (fun e => ⟨e.1, e.2, .sweep, agents⟩) }
/-- A sweep of one of these segments still has work. -/
def sweepBusy (s : State) (gs : List Nat) : Bool :=
  s.dir.work.any (fun w => w.kind == .sweep && gs.contains (lineSeg w.line)) ||
    s.dir.trk.any (fun e => e.2.done == .sweep && gs.contains (lineSeg e.2.line))
/-- RELEASE_DYNAMIC_CAPACITY: a segment without a home becomes UNBOUND at once, a shared-coherent one once the sweep of this
twin is done and the other has acknowledged that its own is (R68, R74 to R76, assumption 52). -/
def execReleaseDynamicCapacity (port : Fin 128) (extents : List Extent) (s : State) : Host.Outcome State Fault Refusal :=
  .next (onMailbox s port
    (let gs := rangeSegs extents
     let b := bankNow s
     if ! extents.all rangeOk || ! gs.all (fun g => decide (2 ≤ bindOf b port g)) then mboxRefuse s port true
     else
       let swept := gs.filter (fun g => segMode b g == 1)
       let plain := gs.filter (fun g => segMode b g != 1)
       let acks := if bindPartner s then gs else []
       let t := if gs.any (fun g => bindOf b port g == 2) then raiseEv s 9 else s
       let u := { t with pool := { t.pool with waits := t.pool.waits ++ [⟨port, true, acks, swept, swept⟩] } }
       let v := dropExtents (forAll plain u (fun w g => deviceBind w port g 0)) port plain
       let x := forAll acks v (fun w g => pairSend w (.bind port .unbound (BitVec.ofNat 16 g)))
       settleMbox (settleSlices (forAll swept x (fun w g => startSweep w port g)))))
/-- BIND: the other twin's change of a binding state is applied and acknowledged; a release of a shared-coherent segment waits
for the sweep of the slices that this twin homes (R68, R75). -/
def execBind (port : Fin 128) (st : BindState) (seg : BitVec 16) (s : State) : Host.Outcome State Fault Refusal :=
  .next (onFabric s
    (let g := seg.toNat
     match st with
     | .unbound =>
       if segMode (bankNow s) g = 1 then
         settleSlices (startSweep { s with pool := { s.pool with asked := s.pool.asked ++ [(port, g)] } } port g)
       else pairSend (dropExtents (deviceBind s port g 0) port [g]) (.bindAck port st seg)
     | .bound => pairSend (addExtents (deviceBind s port g 2) port [g]) (.bindAck port st seg)
     | _ => pairSend (deviceBind s port g (bindCode st)) (.bindAck port st seg)))
/-- PURGE_SWEEP_DONE: the sweeps of a port have nothing left to do; a release command completes once the other twin has
acknowledged, and the other twin's release is acknowledged (R74 to R76). -/
def execPurgeSweepDone (port : Fin 128) (s : State) : Host.Outcome State Fault Refusal :=
  .next (onFabric s
    (if sweepBusy s ((s.pool.sweeps.filter (fun x => x.1 == port)).map (·.2)) then s
     else
       let mine := s.pool.asked.filter (fun x => x.1 == port)
       let t := { s with pool := { s.pool with
         sweeps := s.pool.sweeps.filter (fun x => x.1 != port), asked := s.pool.asked.filter (fun x => x.1 != port)
         waits := s.pool.waits.map (fun w => if w.port = port ∧ w.release then { w with sweeps := [] } else w) } }
       settleMbox (forAll mine t (fun u x =>
         pairSend (dropExtents (deviceBind u port x.2 0) port [x.2]) (.bindAck port .unbound (BitVec.ofNat 16 x.2))))))

end Sys2Proof.Machine
end

