-- ==== Sys2Proof/Machine/Validate.lean ====
section
/-! DEFINITION. Validation of the structure that a commit would give (R452): the rules of each code over a bank of
structural words. -/

namespace Sys2Proof.Machine

/-- A validation failure: code, item and the lowestOff management offset involved (R452). -/
structure Failure where
  code : Nat
  item : Nat
  off : Nat
deriving DecidableEq, Repr

/-- The word of a bank. -/
def bw (b : SMap Word) (off : Nat) : Word := sGet b off 0

/-- The lowestOff of a list of offsets. -/
def lowestOff (l : List Nat) : Option Nat := l.foldl (fun a x => some (match a with
  | some y => min x y
  | none => x)) none

/-- The lowestOff-numbered failing item of a rule: `items` gives, for each item number, the offsets involved. -/
def firstItem (code : Nat) (items : List (Nat × List Nat)) : Option Failure :=
  match items with
  | [] => none
  | (i, l) :: t =>
    match lowestOff l with
    | some o => some ⟨code, i, o⟩
    | none => firstItem code t

/-! ### 0x10 PORT (R347) -/

/-- PB_PORT_CFG of cell `c`, its offset and fields in a bank. -/
def bCfgOff (c : Nat) : Nat := R.PB_PORT_CFG (c / 4) (c % 4)
def bValid (b : SMap Word) (c : Nat) : Bool := bitAt (bw b (bCfgOff c)) 31
def bRole (b : SMap Word) (c : Nat) : Nat := if bValid b c then fld (bw b (bCfgOff c)) 30 28 else 0
def bCells (b : SMap Word) (c : Nat) : Nat := 2 ^ fld (bw b (bCfgOff c)) 27 26
def bRate (b : SMap Word) (c : Nat) : Nat := fld (bw b (bCfgOff c)) 25 23
def validCells (b : SMap Word) : List Nat := (List.range 128).filter (bValid b)
/-- Cells of the port of lowestOff cell `c`, within its block. -/
def cellsOf (b : SMap Word) (c : Nat) : List Nat := (List.range (bCells b c)).map (· + c)
/-- PB_LANE_RX_EQ and PB_LANE_TX_EQ of the lanes of a port. -/
def rxOffs (b : SMap Word) (c : Nat) : List Nat :=
  (List.range (4 * bCells b c)).map (fun i => R.PB_LANE_RX_EQ ((4 * c + i) / 16) ((4 * c + i) % 16))
/-- The equalisation of one lane meets item 7. -/
def eqOk (b : SMap Word) (rx : Nat) : Bool :=
  let r := bw b rx
  let t := bw b (rx + 8)
  decide (fld r 24 20 ≤ fld r 29 25) && decide (fld r 29 25 ≤ fld r 19 15) && decide (fld t 27 24 ≤ 10) &&
    decide (fld t 23 20 ≤ 8) && decide (fld t 19 15 ≤ 16) && decide (fld t 14 10 ≤ 24) &&
    decide (fld t 23 20 + fld t 19 15 + fld t 14 10 ≤ 40)
/-- VALID, ROLE, WIDTH and MAX_RATE of cell `c` (item 5). -/
def layoutKey (b : SMap Word) (c : Nat) : Nat := fld (bw b (bCfgOff c)) 31 23
/-- Every cell of the old and of the new port of lowest cell `c` is fenced, and its management parent is not in reset: a cell in
reset with its block accepts no re-role (R32, assumption 169). -/
def fencedBoth (s : State) (b : SMap Word) (c : Nat) : Bool :=
  ((if bValid b c then cellsOf b c else []) ++ (if portValid s c then cellsOf s.banks.live c else [])).all
    (fun k => cellFenced s k && ! parentDown s (.cell (Fin.ofNat 128 k)))
/-- The owner cell of a block's spare. -/
def ownerCell (b : SMap Word) (k : Nat) : Nat := 4 * k + fld (bw b (R.PB_SPARE_CFG k)) 27 26

/-- Rule R347. -/
def checkPort (s : State) (b : SMap Word) : Option Failure :=
  let vs := validCells b
  firstItem 0x10 [
    (1, (vs.filter (fun c => ! (decide (bCells b c ≤ 4) && c % bCells b c == 0 && decide (1 ≤ bRole b c) &&
        decide (bRole b c ≤ 4) && decide (bRate b c < 7)))).map bCfgOff),
    (2, (vs.filter (fun c => (List.range 4).any (fun k =>
        let p := c / 4 * 4 + k
        decide (p < c) && bValid b p && decide (c < p + bCells b p)))).map bCfgOff),
    (3, (vs.filter (fun c => if bRole b c = 4 then ! (bRate b c == 5 || bRate b c == 6)
        else decide (5 < bRate b c))).map bCfgOff),
    (4, (vs.filter (fun c => bRole b c != 4)).flatMap (fun c =>
        (if bitAt (bw b (bCfgOff c)) 22 then [bCfgOff c] else []) ++
          (rxOffs b c).filter (fun o => bitAt (bw b o) 11))),
    (5, ((List.range 128).filter (fun c => layoutKey b c != layoutKey s.banks.live c && ! fencedBoth s b c)).map bCfgOff ++
        ((List.range 32).filter (fun k =>
          let w := bw b (R.PB_SPARE_CFG k)
          let l := liveWord s (R.PB_SPARE_CFG k)
          bitAt l 31 && (! bitAt w 31 || fld w 27 26 != fld l 27 26) &&
            ! fencedBoth s b (ownerCell s.banks.live k))).map R.PB_SPARE_CFG),
    (6, ((List.range 32).filter (fun k => bitAt (bw b (R.PB_SPARE_CFG k)) 31 && bRole b (ownerCell b k) != 4)).map
        R.PB_SPARE_CFG),
    (7, vs.flatMap (fun c => (rxOffs b c).filter (fun o => ! eqOk b o)))]

/-! ### 0x17 TENANT item 3 and 0x18 WINDOW, 0x19 ENDPOINT (R208, R410, R432) -/

/-- Enabled tenants of a bank, rising. -/
def bTenants (b : SMap Word) : List Nat :=
  b.filterMap (fun p =>
    if 0x3100000 ≤ p.1 ∧ p.1 < 0x3110000 ∧ p.1 % 16 = 0 ∧ bitAt p.2 31 then some ((p.1 - 0x3100000) / 16) else none)
/-- PORT and FUNC of a tenant. -/
def bPort (b : SMap Word) (t : Nat) : Nat := fld (bw b (R.STX_TENANT_W0 t)) 29 23
def bFunc (b : SMap Word) (t : Nat) : Nat := fld (bw b (R.STX_TENANT_W0 t)) 22 15
/-- Enabled windows of a bank, as (tenant, window). -/
def bWindows (b : SMap Word) : List (Nat × Nat) :=
  b.filterMap (fun p =>
    if 0x3400000 ≤ p.1 ∧ p.1 < 0x3500000 ∧ p.1 % 16 = 0 ∧ bitAt p.2 31 then
      some ((p.1 - 0x3400000) / 256, (p.1 - 0x3400000) % 256 / 16) else none)
def winOff (x : Nat × Nat) : Nat := R.STX_WIN_W0 x.1 x.2
def winStart (b : SMap Word) (x : Nat × Nat) : Nat := fld (bw b (winOff x)) 15 0
def winLen (b : SMap Word) (x : Nat × Nat) : Nat := fld (bw b (winOff x + 4)) 16 0
def winSeg (b : SMap Word) (x : Nat × Nat) : Nat := fld (bw b (winOff x + 8)) 15 0
/-- BAR 4 size, in GiB, of the function of tenant `t`. -/
def tenantBar4 (b : SMap Word) (t : Nat) : Nat :=
  let w := bw b (R.STX_PORT_FN_W0 (bPort b t))
  let l := if bFunc b t = 0 then fld w 21 16 else fld w 27 22
  if l < 30 then 0 else 2 ^ (l - 30)

/-- Rule R410. -/
def checkWindow (b : SMap Word) : Option Failure :=
  let ws := bWindows b
  firstItem 0x18 [
    (1, (ws.filter (fun x => winLen b x == 0)).map (fun x => winOff x + 4)),
    (2, (ws.filter (fun x => decide (tenantBar4 b x.1 < winStart b x + winLen b x))).map winOff),
    (3, (ws.filter (fun x => ws.any (fun y => y.1 == x.1 && y.2 != x.2 &&
        decide (winStart b x < winStart b y + winLen b y) && decide (winStart b y < winStart b x + winLen b x)))).map
        winOff),
    (4, (ws.filter (fun x => decide (65536 < winSeg b x + winLen b x))).map (fun x => winOff x + 4))]

/-- A BAR4_LOG value that R432 allows. -/
def logOk (n : Nat) : Bool := n == 0 || (decide (30 ≤ n) && decide (n ≤ 46))

/-- Rule R432, which numbers no items. -/
def checkEndpoint (b : SMap Word) : Option Failure :=
  firstItem 0x19 [
    (0, ((List.range 128).filter (fun p =>
          let w := bw b (R.STX_PORT_FN_W0 p)
          ! (logOk (fld w 27 22) && logOk (fld w 21 16)))).map R.STX_PORT_FN_W0 ++
        (bTenants b).flatMap (fun t =>
          let w := bw b (R.STX_PORT_FN_W0 (bPort b t))
          if ! bitAt w 31 || decide (fld w 7 0 < bFunc b t) then [R.STX_TENANT_W0 t] else []))]

/-- The first failing check of a list (R452). -/
def firstFailure (l : List (Option Failure)) : Option Failure :=
  match l with
  | [] => none
  | some f :: _ => some f
  | none :: t => firstFailure t

end Sys2Proof.Machine
end

