-- ==== Sys2Proof/Machine/Rules.lean ====
section
/-! DEFINITION. Validation of the structure that a commit would give (R452), continued: buffers, routes, rates, segments,
bindings, migrations and tenants, and the order of the checks. -/

namespace Sys2Proof.Machine

/-! ### 0x11 BUFFER (R249) -/

def bMin (b : SMap Word) (n j c : Nat) : Nat := fld (bw b (R.RGN_BUF_MIN n (j * 4 + c))) 14 0
/-- Virtual channels that a role's link can carry: VC0, VC0 to VC3 on a switch-through port, all on a trunk port. -/
def bVcs (r : Nat) : Nat := if r = 3 then 4 else if r = 4 then 8 else 1
/-- Class `c` is named for port `p`, its role being `r`. -/
def bNames (b : SMap Word) (p c : Nat) : Bool :=
  let r := bRole b p
  (List.range (bVcs r)).any (fun v => fld (bw b (R.XBAR_PORT_VCMAP p)) (2 * v + 1) (2 * v) == c) ||
    ((r == 1 || r == 2) && fld (bw b R.XBAR_CFG) 1 0 == c)
/-- Ports of a bank with a role. -/
def bPorts (b : SMap Word) : List Nat := (validCells b).filter (fun p => decide (1 ≤ bRole b p) && decide (bRole b p ≤ 4))
/-- Sum of MIN over a region. -/
def bMinSum (b : SMap Word) (n : Nat) : Nat := ((List.range 36).map (fun i => bMin b n (i / 4) (i % 4))).foldl (· + ·) 0

/-- Rule R249. -/
def checkBuffer (b : SMap Word) : Option Failure :=
  firstItem 0x11 [
    (1, ((List.range 128).filter (fun p => ! bValid b p)).flatMap (fun p =>
        ((List.range 4).map (fun c => R.RGN_BUF_MIN (p / 8) (p % 8 * 4 + c))).filter (fun o =>
          fld (bw b o) 14 0 != 0 || fld (bw b o) 30 24 != 0))),
    (2, (bPorts b).flatMap (fun p =>
        ((List.range 4).filter (fun c => bNames b p c && decide (bMin b (p / 8) (p % 8) c < 34))).map (fun c =>
          R.RGN_BUF_MIN (p / 8) (p % 8 * 4 + c)))),
    (3, (List.range 64).flatMap (fun i =>
        if bMin b (i / 4) 8 (i % 4) < 64 then [R.RGN_BUF_MIN (i / 4) (32 + i % 4)] else [])),
    (4, ((List.range 16).filter (fun n => decide (24576 < bMinSum b n))).map (fun n => R.RGN_BUF_MIN n 0)),
    (5, ((List.range 16).filter (fun n => decide (fld (bw b (R.RGN_BUF_VOQ_MAX n)) 14 0 < 64))).map R.RGN_BUF_VOQ_MAX)]

/-! ### 0x12 ROUTE (R281, R282) -/

/-- Walk of a route from region `n`: where it ends, the hop codes taken, and the regions passed. -/
def walkRoute (k n : Nat) (codes : Nat) : RouteEnd × List Nat × List Nat :=
  match k with
  | 0 => (.unfinished, [], [n])
  | j + 1 =>
    let c := codes % 8
    if c = 0 then (.region n, [], [n])
    else
      match neighbour n c with
      | .region m => let r := walkRoute j m (codes / 8); (r.1, c :: r.2.1, n :: r.2.2)
      | e => (e, [c], [n])

/-- Fewest hops from node `a` to node `d`, the hop into a spine node included. -/
def fewestHops (a d : Nat) : Nat :=
  if a = d then 0
  else ((nodeRegions a).flatMap (fun x => (nodeRegions d).map (fun y => hops x y))).foldl min 6 + (if d < 16 then 0 else 1)
/-- Node `d` as the end of a route. -/
def nodeEnd (d : Nat) : RouteEnd := if d < 16 then .region d else if d = 16 then .keeper else .twin
/-- East and west hops precede north and south hops, or the other way round. -/
def ordered (yx : Bool) (l : List Nat) : Bool :=
  match l with
  | [] => true
  | c :: t => ((decide (3 ≤ c)) == yx || t.all (fun x => decide (3 ≤ x) == ! yx)) && ordered yx t

/-- The numbers of the items that entry `x` of initiator `i` breaks. -/
def routeBreaks (s : State) (w : Word) (i x : Nat) : List Nat :=
  let d := x % 32
  if 18 ≤ d then [6]
  else
    let a := nodeOf i
    let yx := bitAt w 30
    if a = d ∧ 16 ≤ a then (if fld w 2 0 = 0 then [] else [1]) ++ (if yx then [3] else [])
    else
      let walks := (nodeRegions a).map (fun n => walkRoute 7 n (fld w 20 0))
      let good := walks.filter (fun r => r.1 == nodeEnd d && r.2.1.length == fewestHops a d)
      match (if good.isEmpty then walks.head? else good.head?) with
      | none => []
      | some r =>
        let mesh := if d < 16 then r.2.1 else r.2.1.dropLast
        let left := r.1 == .keeper || r.1 == .twin
        (if good.isEmpty then [1] else []) ++ (if ordered yx mesh then [] else [2]) ++
          (if decide (16 ≤ d) && (yx || (left && r.1 != nodeEnd d)) then [3] else []) ++
          (if r.1 = .tiedOff then [4] else []) ++
          (if r.2.2.any (fun n => s.dev.routersOut.contains n) then [5] else [])

/-- Valid route entries of a bank, as (initiator, entry, word). -/
def bRoutes (b : SMap Word) : List (Nat × Nat × Word) :=
  b.filterMap (fun p =>
    if 0xD000000 ≤ p.1 ∧ p.1 < 0xD006200 ∧ bitAt p.2 31 then
      some ((p.1 - 0xD000000) / 0x100, (p.1 - 0xD000000) % 0x100 / 4, p.2) else none)

/-- Rule R282. -/
def checkRoute (s : State) (b : SMap Word) : Option Failure :=
  let bad := (bRoutes b).map (fun e => (R.NOC_ROUTE e.1 e.2.1, routeBreaks s e.2.2 e.1 e.2.1))
  firstItem 0x12 ((List.range 6).map (fun k => (k + 1, (bad.filter (fun e => e.2.contains (k + 1))).map (·.1))))

/-! ### 0x13 RATE (R302, R303) -/

def bCir (b : SMap Word) (r : Nat) : Nat := fld (bw b (R.XBAR_RATE_CIR r)) 23 0
def bPir (b : SMap Word) (r : Nat) : Nat := fld (bw b (R.XBAR_RATE_PIR r)) 23 0
def bCbs (b : SMap Word) (r : Nat) : Nat := fld (bw b (R.XBAR_RATE_BURST r)) 19 0
def bPbs (b : SMap Word) (r : Nat) : Nat := fld (bw b (R.XBAR_RATE_BURST r + 4)) 19 0
/-- Valid meter instances of a bank, as (region, offset, key). -/
def bMeters (b : SMap Word) : List (Nat × Nat × Nat) :=
  b.filterMap (fun p =>
    if 0xC020000 ≤ p.1 ∧ p.1 < 0xC060000 ∧ p.1 % 16 = 0 ∧ bitAt p.2 31 then
      some ((p.1 - 0xC020000) / 0x4000, p.1, fld p.2 30 12) else none)

/-- Rule R302, with R303 as item 4. -/
def checkRate (b : SMap Word) : Option Failure :=
  let on := (List.range 256).filter (fun r => bPir b r != 0)
  let ms := bMeters b
  firstItem 0x13 [
    (1, (on.filter (fun r => bCir b r == 0)).map R.XBAR_RATE_CIR),
    (2, (on.filter (fun r => decide (bPir b r < bCir b r))).map R.XBAR_RATE_CIR),
    (3, on.flatMap (fun r => (if bCbs b r < 66 then [R.XBAR_RATE_BURST r] else []) ++
        (if bPbs b r < 66 then [R.XBAR_RATE_BURST r + 4] else []))),
    (4, (ms.filter (fun x => ms.any (fun y => y.1 == x.1 && y.2.1 != x.2.1 && y.2.2 == x.2.2))).map (fun x => x.2.1))]

/-! ### 0x14 SEGMENT (R61) -/

/-- Valid segments of a bank, rising. -/
def bSegs (b : SMap Word) : List Nat :=
  b.filterMap (fun p =>
    if 0xF000000 ≤ p.1 ∧ p.1 < 0xF100000 ∧ p.1 % 16 = 0 ∧ bitAt p.2 31 then some ((p.1 - 0xF000000) / 16) else none)
/-- Segments whose entries hold anything in a bank. -/
def bNamed (b : SMap Word) : List Nat :=
  (b.filterMap (fun p => if 0xF000000 ≤ p.1 ∧ p.1 < 0xF100000 then some ((p.1 - 0xF000000) / 16) else none)).eraseDups
/-- Binding states of a bank that are not UNBOUND, as (port, segment, state). -/
def bBound (b : SMap Word) : List (Nat × Nat × Nat) :=
  (b.filter (fun p => decide (0xF200000 ≤ p.1) && decide (p.1 < 0xF400000))).flatMap (fun p =>
    ((List.range 16).filter (fun k => fld p.2 (2 * k + 1) (2 * k) != 0)).map (fun k =>
      ((p.1 - 0xF200000) / 0x4000, (p.1 - 0xF200000) % 0x4000 / 4 * 16 + k, fld p.2 (2 * k + 1) (2 * k))))
/-- Device ranges of valid entries, each with the offset that names it: places, and targets of migrations. -/
def bRanges (b : SMap Word) : List (Nat × Nat × Nat) :=
  (bSegs b).flatMap (fun g => (segPort b g, segDpa b g, R.SEG_ENTRY_W1 g) ::
    (if segMig b g = 0 then [] else [(migPort b g, migDpa b g, R.SEG_ENTRY_W2 g)]))
/-- Bindings of shared-coherent segments at this twin's host ports. -/
def bSharedHere (b : SMap Word) : List (Nat × Nat × Nat) :=
  (bBound b).filter (fun x => segValid b x.2.1 && segMode b x.2.1 == 1 && bRole b x.1 == 1)
/-- Link of a host port in DL_Active with back-invalidation off. -/
def biOff (s : State) (p : Nat) : Bool := linkActive s p && ! rdBit s (R.PB_LINK_STATUS (p / 4) (p % 4)) 18

/-- Offsets of written binding fields that no longer hold their expected value (R69). -/
def bindRaced (s : State) : List Nat :=
  (s.txn.expect.filter (fun p => liveWord s p.1 != p.2)).map (·.1)

/-- Rule R61. -/
def checkSegment (s : State) (b : SMap Word) : Option Failure :=
  let gs := bSegs b
  let rs := bRanges b
  let bs := bBound b
  firstItem 0x14 [
    (1, (gs.filter (fun g => if segMode b g = 1 then segShare b g == 0
        else segHome b g || segJournal b g || segShare b g != 0)).map R.SEG_ENTRY_W0),
    (2, gs.flatMap (fun g => (if bRole b (segPort b g) = 2 then [] else [R.SEG_ENTRY_W1 g]) ++
        (if segMig b g = 0 ∨ bRole b (migPort b g) = 2 then [] else [R.SEG_ENTRY_W2 g]))),
    (3, (rs.filter (fun x => rs.any (fun y => y.2.2 != x.2.2 && y.1 == x.1 && y.2.1 == x.2.1))).map (fun x => x.2.2)),
    (4, (bs.filter (fun x => segValid b x.2.1 && segMode b x.2.1 == 0 &&
        bs.any (fun y => y.2.1 == x.2.1 && y.1 != x.1))).map (fun x => bindOff x.1 x.2.1)),
    (5, (bs.filter (fun x => ! segValid b x.2.1 || segMode b x.2.1 == 3)).flatMap (fun x =>
        [bindOff x.1 x.2.1, R.SEG_ENTRY_W0 x.2.1])),
    (6, ((bSharedHere b).filter (fun x => ! shareMember b (segShare b x.2.1) (512 * pidNat s + x.1))).flatMap (fun x =>
        [bindOff x.1 x.2.1, R.SEG_SHARE_W (segShare b x.2.1) ((512 * pidNat s + x.1) / 32)])),
    (7, ((bSharedHere b).filter (fun x => biOff s x.1)).map (fun x => bindOff x.1 x.2.1)),
    (8, ((bNamed b).filter (fun g => segMig b g != 0)).flatMap (fun g =>
        (if segValid b g && segMode b g == segMode s.banks.live g then [] else [R.SEG_ENTRY_W0 g]) ++
          (if segPort b g = segPort s.banks.live g ∧ segDpa b g = segDpa s.banks.live g then [] else [R.SEG_ENTRY_W1 g]))),
    (9, (gs.filter (fun g => (carveSeg b g).isNone)).flatMap (fun g => [R.SEG_ENTRY_W0 g, R.SEG_CARVE_MAP (g / 8192)])),
    (10, bindRaced s)]

/-! ### 0x15 BINDING (R67) -/

/-- The changes of a binding state that a structure transaction may write. -/
def bindWritable (a b : Nat) : Bool :=
  a == b || (a == 0 && b == 1) || (a == 1 && b == 0) || (a == 2 && b == 3) || (a == 2 && b == 0) || (a == 3 && b == 0)
/-- Rule R67, which numbers no items. -/
def checkBinding (s : State) (b : SMap Word) : Option Failure :=
  firstItem 0x15 [
    (0, (s.banks.shadow.filter (fun p => decide (0xF200000 ≤ p.1) && decide (p.1 < 0xF400000) &&
        (List.range 16).any (fun k =>
          ! bindWritable (fld (liveWord s p.1) (2 * k + 1) (2 * k)) (fld (bw b p.1) (2 * k + 1) (2 * k))))).map (·.1))]

/-! ### 0x16 MIGRATION (R191) -/

/-- The slot that a segment holds, in every region the same (R191, R193). -/
def slotOfSeg (s : State) (g : Nat) : Option Nat := slotFor s 0 g
/-- Slot `i` is free in every region. -/
def slotFree (s : State) (i : Nat) : Bool := (List.range 16).all (fun n => ! (migSlot s n i).valid)
/-- Free slots, lowest first. -/
def freeSlots (s : State) : List Nat := (List.range 16).filter (slotFree s)
/-- W of a segment's slot in every region is `w`. -/
def slotAtW (s : State) (g w : Nat) : Bool :=
  match slotOfSeg s g with
  | some i => (List.range 16).all (fun n => (migSlot s n i).w == w)
  | none => false
/-- The segment's slot is running in a region. -/
def slotRuns (s : State) (g : Nat) : Bool :=
  match slotOfSeg s g with
  | some i => (List.range 16).any (fun n => (migSlot s n i).running.isSome)
  | none => false
/-- Segments that start copying in a bank. -/
def startsCopy (s : State) (b : SMap Word) : List Nat :=
  (bNamed b).filter (fun g => segMig b g == 2 && segMig s.banks.live g == 1)
/-- The offsets in which a segment's change of MIG_STATE breaks R191. -/
def migBreaks (s : State) (b : SMap Word) (g : Nat) : List Nat :=
  let l := s.banks.live
  let w0 := R.SEG_ENTRY_W0 g
  match segMig l g, segMig b g with
  | 0, 0 => []
  | 0, 1 => []
  | 1, 1 => []
  | 1, 0 => []
  | 1, 2 => if (startsCopy s b).length ≤ (freeSlots s).length then [] else [w0]
  | 2, 2 => []
  | 2, 1 => if slotAtW s g 0 && ! slotRuns s g then [] else [w0]
  | 2, 3 => if slotAtW s g 262144 then [] else [w0]
  | 3, 3 => []
  | 3, 0 =>
    (if segPort b g = migPort l g ∧ segDpa b g = migDpa l g then [] else [R.SEG_ENTRY_W1 g]) ++
      (if migPort b g = 0 ∧ migDpa b g = 0 then [] else [R.SEG_ENTRY_W2 g])
  | _, _ => [w0]
/-- Rule R191, which numbers no items. -/
def checkMigration (s : State) (b : SMap Word) : Option Failure :=
  firstItem 0x16 [(0, ((bNamed b ++ bNamed s.banks.live).eraseDups).flatMap (migBreaks s b))]

/-! ### 0x17 TENANT (R208, R210) -/

/-- The offsets of limits that live channels of tenant `t` exceed. -/
def tenantBreaks (s : State) (b : SMap Word) (t : Nat) : List Nat :=
  let l := chansOf s t
  let w0 := tenW b t 0
  let w1 := tenW b t 1
  let w2 := tenW b t 2
  if l.isEmpty then []
  else
    (if decide (l.length ≤ fld w0 8 0) && l.all (fun x => ! x.2.priv || bitAt w0 30) then [] else [R.STX_TENANT_W0 t]) ++
    (if decide (depthUsed s t ≤ fld w1 11 0) &&
        l.all (fun x => decide (Nat.land x.2.mask (fld w1 31 16) = x.2.mask) && bitAt w1 (12 + x.2.tc)) then []
     else [R.STX_TENANT_W1 t]) ++
    (if decide (((l.map (fun x => x.2.quota)).foldl (· + ·) 0) ≤ fld w2 15 0) &&
        l.all (fun x => decide (fld w2 23 16 ≤ x.2.rate) && decide (x.2.rate ≤ fld w2 31 24)) then []
     else [R.STX_TENANT_W2 t])
/-- Tenants that have channels. -/
def liveTenants (s : State) : List Nat := ((s.co.chans.filter (fun x => x.2.st != .free)).map (fun x => x.2.tenant)).eraseDups
/-- Rules R210 and R208. -/
def checkTenant (s : State) (b : SMap Word) : Option Failure :=
  let ts := bTenants b
  firstItem 0x17 [
    (1, ((liveTenants s).filter (fun t => ! bitAt (tenW b t 0) 31)).map R.STX_TENANT_W0),
    (2, (liveTenants s).flatMap (tenantBreaks s b)),
    (3, (ts.filter (fun t => ts.any (fun u => u != t && bPort b u == bPort b t && bFunc b u == bFunc b t))).map
        R.STX_TENANT_W0)]

/-- Validation of a bank on this twin: the first failing condition in code order (R452). -/
def validateAll (s : State) (b : SMap Word) : Option Failure :=
  firstFailure [checkPort s b, checkBuffer b, checkRoute s b, checkRate b, checkSegment s b, checkBinding s b,
    checkMigration s b, checkTenant s b, checkWindow b, checkEndpoint b]

end Sys2Proof.Machine
end

