-- ==== Sys2Proof/Machine/Switch.lean ====
section
/-! DEFINITION. What an epoch switch brings about in the units (R454): offers, releases, colours, routes, regulators, buckets,
migration slots and lanes. -/

namespace Sys2Proof.Machine

/-- Words in [lo, hi) whose values differ between two banks. -/
def changedWords (a b : SMap Word) (lo hi : Nat) : List Nat :=
  let differs (p : Nat × Word) : Bool := decide (lo ≤ p.1) && decide (p.1 < hi) && bw a p.1 != bw b p.1
  (((a.filter differs).map (·.1)) ++ ((b.filter (fun p => differs p && (sFind a p.1).isNone)).map (·.1)))

/-! ### Bindings, colours (R70, R74, R78) -/

/-- Bindings whose state changes as `q` says (from, to). -/
def bindChanges (a b : SMap Word) (q : Nat → Nat → Bool) : List (Nat × Nat) :=
  (changedWords a b 0xF200000 0xF400000).flatMap (fun o =>
    ((List.range 16).filter (fun k => q (fld (bw a o) (2 * k + 1) (2 * k)) (fld (bw b o) (2 * k + 1) (2 * k)))).map (fun k =>
      ((o - 0xF200000) / 0x4000, (o - 0xF200000) % 0x4000 / 4 * 16 + k)))
/-- The segments of port `p` in a list of bindings, rising. -/
def segsOfPort (l : List (Nat × Nat)) (p : Nat) : List Nat :=
  ((l.filter (fun x => x.1 == p)).map (·.2)).mergeSort (fun x y => decide (x ≤ y))
/-- Ports named in a list of bindings. -/
def portsOf (l : List (Nat × Nat)) : List Nat := (List.range 128).filter (fun p => l.any (fun x => x.1 == p))

/-- Newly valid segments wait for their colours, and every tag cache is emptied (R78). -/
def switchColours (s : State) (a b : SMap Word) : State :=
  let new := (bSegs b).filter (fun g => ! segValid a g)
  if new = [] then s
  else
    let t := forAll (List.range 16) s tagDropAll
    { t with pool := { t.pool with
        colourInit := t.pool.colourInit.filter (fun g => segValid b g && ! new.contains g) ++ new
        -- on the other twin the coordinator's fill is under way
        colourRunning := ! rdBit t R.STX_TXN_STATUS 28, colourMine := rdBit t R.STX_TXN_STATUS 28 } }

/-- Records of offered, requested and forced changes, and the purge sweeps of forced releases (R70, R74). -/
def switchBindings (s : State) (a b : SMap Word) : State :=
  let offered := bindChanges a b (fun x y => x != 1 && y == 1)
  let asked := bindChanges a b (fun x y => x == 2 && y == 3)
  let forced := bindChanges a b (fun x y => decide (2 ≤ x) && y == 0)
  let s1 := forAll (portsOf offered) s (fun t p =>
    offerRuns t p ((segsOfPort offered p).filter (fun g => ! t.pool.colourInit.contains g)))
  let s2 := forAll (portsOf asked) s1 (fun t p =>
    if portRole t p == 1 then raiseRuns t p .releaseCapacity (segsOfPort asked p) else t)
  forAll (portsOf forced) s2 (fun t p =>
    let gs := segsOfPort forced p
    let u := if portRole t p == 1 then raiseRuns t p .forcedRelease gs else t
    forAll (gs.filter (fun g => segMode a g == 1)) (dropExtents u p gs) (fun v g => startSweep v p g))

/-! ### Routes and regulators (R283, R297) -/

/-- DrainMarks for a changed entry that held a route: one on each network of its set, along the old route (R283). -/
def drainRoute (a : SMap Word) (s : State) (o : Nat) : State :=
  let i := (o - 0xD000000) / 0x100
  let x := (o - 0xD000000) % 0x100 / 4
  let d := x % 32
  let nets : List Net := if x / 32 = 0 then [.req, .snp] else [.rsp, .dat]
  let dest := if d < 16 then servicesEp d else if d = 16 then keeperEp else twinEp
  let t := forAll nets s (fun u n =>
    putBy u ⟨.drainmark (Fin.ofNat 98 dest) n (Fin.ofNat 98 i), i, dest, n, false, 1, 0, 0, 0, false, none⟩ (bw a o))
  withNoc t { t.noc with drains := t.noc.drains ++ [⟨i, x / 32, d, nets⟩] }
def switchRoutes (s : State) (a b : SMap Word) : State :=
  forAll ((changedWords a b 0xD000000 0xD006200).filter (fun o => bitAt (bw a o) 31 && decide ((o - 0xD000000) % 0x80 / 4 < 18)))
    s (drainRoute a)
/-- A changed regulator starts with a full bucket. -/
def switchRegs (s : State) (a b : SMap Word) : State :=
  forAll (changedWords a b 0xD010000 0xD010620) s (fun t o =>
    withNoc t { t.noc with buckets := sDel t.noc.buckets ((o - 0xD010000) / 4) })

/-! ### Meters and shapers (R315) -/

/-- CIR, PIR, CBS or PBS of profile `r` changes. -/
def rateChanged (a b : SMap Word) (r : Nat) : Bool :=
  rateCir a r != rateCir b r || ratePir a r != ratePir b r || rateCbs a r != rateCbs b r || ratePbs a r != ratePbs b r
/-- Buckets after a rate change to profile `r`: empty where COLD, else full. -/
def rateStart (s : State) (b : SMap Word) (r : Nat) : Bucket × Bucket :=
  if rateCold b r then (⟨rateCbs b r, (now s).toNat⟩, ⟨ratePbs b r, (now s).toNat⟩) else fullPair
def switchMeters (s : State) (a b : SMap Word) : State :=
  let users := (b.filter (fun p => decide (0xC020000 ≤ p.1) && decide (p.1 < 0xC060000) && p.1 % 16 == 0 && bitAt p.2 31)).map (·.1)
  let t := forAll users s (fun u o =>
    let n := (o - 0xC020000) / 0x4000
    let i := (o - 0xC020000) % 0x4000 / 16
    let r := fld (bw b o) 7 0
    if ! bitAt (bw a o) 31 then setMeter u n i fullPair
    else if fld (bw a o) 7 0 ≠ r ∨ rateChanged a b r = true then setMeter u n i (rateStart u b r)
    else u)
  forAll (t.co.chans.filter (fun c => c.2.st != .free && rateChanged a b c.2.rate)) t (fun u c =>
    withBuf u { u.buf with shapers := sPut u.buf.shapers c.1 fullPair (rateStart u b c.2.rate) })

/-! ### Migration slots (R191) -/

/-- Give slot `i` a value in every region. -/
def setSlots (s : State) (i : Nat) (v : MigSlot) : State := forAll (List.range 16) s (fun t n => setSlot t n i v)
def switchSlots (s : State) (a b : SMap Word) : State :=
  let moves := (bNamed b ++ bNamed a).eraseDups.filter (fun g => segMig a g != segMig b g)
  let freed := moves.filter (fun g => segMig a g == 2)
  let s1 := forAll freed s (fun t g =>
    match slotOfSeg t g with
    | some i => setSlots t i {}
    | none => t)
  forAll (startsCopy { s with banks := { s.banks with live := a } } b) s1 (fun t g =>
    match (freeSlots t).head? with
    | some i => setSlots t i { valid := true, segment := g, w := 0 }
    | none => t)

/-! ### The switch -/

/-- What follows in the units when `after` has taken the new bank in the place of `before`'s. -/
def afterSwitch (before after : State) : State :=
  let a := before.banks.live
  let b := after.banks.live
  let s1 := switchSlots after a b
  let s2 := switchBindings (switchColours s1 a b) a b
  let s3 := switchMeters (switchRegs (switchRoutes s2 a b) a b) a b
  let s4 := slotSettle s3
  let s5 := forAll ((List.range 128).filter (fun p => portRole s4 p == 4)) (switchSpares s4 a b) (fun t p =>
    settleSpares t (.port (Fin.ofNat 128 p)) (linkActive t p))
  let s6 := settleSpares s5 .twin (twinState s5 == 2 || twinState s5 == 3)
  let s7 := forAll ((List.range 562).filter (fun n => (sFind s6.regs (laneReg n 0x10)).isSome)) s6 applyForce
  let s8 := forAll (List.range 16) s7 settleSummary
  let s9 := forAll s8.pair.heldEpoch { s8 with pair := { s8.pair with heldEpoch := [] } } (fun t i =>
    atSlice t (Fin.ofNat 32 i.slice) i.q i.req .clean)
  fetchAll (settleAll (settleSlices (settleNoc s9)))

end Sys2Proof.Machine
end

