-- ==== Sys2Proof/Machine/Txn.lean ====
section
/-! DEFINITION. Structure transactions: the state machine, shadows and mirroring, the commit protocol, persisting and
image loads (14, R533). -/

namespace Sys2Proof.Machine

/-! ### Commands of STX_TXN_CTRL -/

/-- The other twin takes part: the pair is PAIRED and the twin link in its active state (R446). -/
def partnerTakesPart (s : State) : Bool := pairState s == 2 && (twinState s == 2 || twinState s == 3)

/-- A rejoin runs on this twin (R489). -/
def rejoining (s : State) : Bool := pairState s == 1 || s.pair.rejoinSource

/-- The serial after `n`: 1 follows 0xFF_FFFF (R446). -/
def nextSerial (n : BitVec 24) : BitVec 24 := if n = 0xFFFFFF then 1 else n + 1
/-- The handle of R446. -/
def mkHandle (serial : BitVec 24) (pid : Bool) (init : FabInit) : Handle :=
  BitVec.ofNat 32 (serial.toNat * 256 + pid.toNat * 128 + FabInit.code init)

/-- TXN_BEGIN (R446, R451): BUSY while a transaction is open, a persist or a rejoin runs, or the keeper cores
restart (R33). -/
def execTxnBegin (init : FabInit) (s : State) : Host.Outcome State Fault Refusal :=
  .next
    (if txnState s != 0 || rejoining s || ! s.dev.keeperRun then txnCode s 1
     else
       let n := nextSerial s.txn.serial
       let h := mkHandle n s.dev.pid init
       let t := { s with txn := { s.txn with serial := n, handle := h, owner := some init, both := partnerTakesPart s } }
       setReg (setReg t R.STX_TXN_HANDLE h) R.STX_TXN_STATUS
         (BitVec.ofNat 32 (2 ^ 29 + 2 ^ 28 + FabInit.code init * 2 ^ 20)))

/-- A handle that the partner can have issued (R446). -/
def partnerHandle (s : State) (h : Handle) : Bool :=
  partnerTakesPart s && h.getLsbD 7 != s.dev.pid && fld h 6 4 == 0 && fld h 31 8 != 0

/-- The partner's transaction is open on this twin from the first sign of it here: JOIN, SHADOW_WR or PREPARE with
its handle (the pair-control messages carry no BEGIN, assumption 42); while the keeper cores restart none opens (R33). -/
def adopt (s : State) (h : Handle) : State :=
  if txnState s = 0 && s.dev.keeperRun && partnerHandle s h then
    setReg { s with txn := { s.txn with serial := BitVec.ofNat 24 (fld h 31 8), handle := h, owner := none, both := true } }
      R.STX_TXN_STATUS (BitVec.ofNat 32 (2 ^ 29 + rd s R.STX_TXN_STATUS 7 0))
  else s

/-- A command by an initiator that may not give it (R447, R451): the code, or none where it may go on. -/
def refuseCode (s : State) (init : FabInit) : Option Nat :=
  if txnState s = 2 || txnState s = 3 then some 1
  else if txnState s = 0 then some 2
  else if s.txn.owner ≠ some init then some 3
  else if getReg s R.STX_TXN_HANDLE ≠ s.txn.handle then some 2
  else none

/-- TXN_JOIN: on the other twin, with the correct handle, the writer becomes owner (R447, R451). -/
def execTxnJoin (init : FabInit) (s : State) : Host.Outcome State Fault Refusal :=
  .next
    (let t := adopt s (getReg s R.STX_TXN_HANDLE)
     if txnState t = 2 || txnState t = 3 then txnCode s 1
     else if txnState t = 0 then txnCode s 2
     else if t.txn.owner.isSome && t.txn.owner ≠ some init then txnCode t 3
     else if isCoord t || getReg t R.STX_TXN_HANDLE ≠ t.txn.handle then txnCode s 2
     else
       txnCode (wr { t with txn := { t.txn with owner := some init } } R.STX_TXN_STATUS 23 20 (FabInit.code init)) 0)

/-- TXN_ROLLBACK by the owner on either twin: both twins discard their shadows (R451). -/
def execTxnRollback (init : FabInit) (s : State) : Host.Outcome State Fault Refusal :=
  .next
    (match refuseCode s init with
     | some c => txnCode s c
     | none => txnEnd s 0)

/-- Make the inactive bank active: every unit of this twin at once (R454); the old bank stays for accesses that
began under it. `b` is the bank of the new epoch. -/
def epochSwitch (s : State) (b : SMap Word) : State :=
  let t := setReg { s with banks := { s.banks with live := b, old := s.banks.live } } R.STX_EPOCH (epochOf s + 1)
  raiseEv (perfHit (afterSwitch s t) 0 0x43 0 1 1) 5

/-- The commit on the coordinator once its own structure is valid: PREPARE, or alone (steps 2 of R453, R457). -/
def commitPrepare (s : State) : State :=
  let t := { s with txn := { s.txn with validated := true } }
  if s.txn.both && partnerTakesPart s then
    pairSend { t with txn := { t.txn with sentPrepare := true } } (.prepare s.txn.handle (epochOf s + 1))
  else { t with txn := { t.txn with both := false } }

/-- Report a failure in STX_TXN_FAIL and STX_TXN_FAIL_ADDR (R452). -/
def reportFailure (s : State) (pid : Bool) (f : Failure) : State :=
  setReg (setReg s R.STX_TXN_FAIL (BitVec.ofNat 32 (pid.toNat * 2 ^ 31 + f.item % 16 * 256 + f.code % 256)))
    R.STX_TXN_FAIL_ADDR (BitVec.ofNat 32 f.off)

/-- Step 1 of R453: once every mirrored write has been acknowledged, validate this twin's resulting structure. -/
def commitStart (s : State) : State :=
  if s.txn.unacked ≠ [] then s
  else
    match validateAll s (resultBank s) with
    | some f => commitFails (reportFailure s s.dev.pid f) f.code
    | none => commitPrepare s

/-- TXN_COMMIT on the coordinator by its owner (R450, R451, R453). -/
def execTxnCommit (init : FabInit) (s : State) : Host.Outcome State Fault Refusal :=
  .next
    (match refuseCode s init with
     | some c => txnCode s c
     | none =>
       if ! isCoord s then txnCode s 2
       else if rdBit s R.STX_TXN_STATUS 27 then commitFails s 4
       else commitStart (wr s R.STX_TXN_STATUS 31 29 2))

/-! ### Structural writes and shadows (R447 to R450) -/

/-- Pair-wide bits of a word: the segment-map block but for DEV_PORT and MIG_PORT (R449). -/
def pairWide (off : Nat) : Word :=
  if off / 0x1000000 = 0xF then
    (if off < 0xF100000 ∧ (off % 16 = 4 ∨ off % 16 = 8) then structMask off &&& ~~~ maskBits 30 24 else structMask off)
  else 0

/-- The shadowed value of a word: of the transaction where it has one, else live. -/
def shadowWord (s : State) (off : Nat) : Word := (sFind s.banks.shadow off).getD (liveWord s off)

/-- Put a value into the shadow of a word; beyond 65,536 words it is ignored and the transaction marked full (R450). The
first write to a word of the binding table notes its live value (R69). -/
def putShadow (s : State) (off : Nat) (v : Word) : State :=
  if (sFind s.banks.shadow off).isNone && decide (65536 ≤ s.banks.shadow.length) then
    wrBit s R.STX_TXN_STATUS 27 true
  else
    let m := sIns s.banks.shadow off v
    let first := decide (0xF200000 ≤ off) && decide (off < 0xF400000) && (sFind s.txn.expect off).isNone
    let e := if first then sIns s.txn.expect off (liveWord s off) else s.txn.expect
    setReg { s with banks := { s.banks with shadow := m }, txn := { s.txn with expect := e } } R.STX_TXN_CHANGES
      (BitVec.ofNat 32 m.length)

/-- The owner's write of a word on this twin (R448, R449). The coordinator mirrors pair-wide bits; the other twin
sends them to the coordinator and applies its own bits. -/
def ownerWrite (s : State) (off : Offset) (val : Word) : State :=
  let o := off.toNat
  let m := structMask o
  let pw := pairWide o
  let v := shareFix o (val &&& m)
  if isCoord s then
    let t := putShadow s o v
    if s.txn.both && decide (pw ≠ 0) then
      pairSend { t with txn := { t.txn with unacked := t.txn.unacked ++ [off] } } (.shadowWr s.txn.handle off (v &&& pw))
    else t
  else
    let t := if pw = 0 ∨ m &&& ~~~ pw ≠ 0 then putShadow s o ((shadowWord s o &&& pw) ||| (v &&& ~~~ pw)) else s
    if pw ≠ 0 then pairSend t (.shadowWr s.txn.handle off (v &&& pw)) else t

/-- The fabric guard logs an ignored write to a locked register (R334). -/
def recordLocked (s : State) (init : FabInit) (off : Nat) : State :=
  recordLog s fgWindow ⟨2, 2, 3, FabInit.code init, off, 4⟩ ⟨6, 0x7D, off⟩ 2 18

/-- The effect of a structural write by `init`: stray unless it is the owner's in an open transaction (R447), and
ignored and recorded where the word is locked (R334). -/
def structuralEffect (init : FabInit) (off : Offset) (val : Word) (s : State) : State :=
  let t := if isLocked s off.toNat then recordLocked s init off.toNat else s
  if txnState s ≠ 1 ∨ s.txn.owner ≠ some init then countStray t
  else if isLocked s off.toNat then t
  else ownerWrite t off val

/-- STRUCTURAL_WRITE: checked by the fabric guard, which refuses it without effect (R321, R333). -/
def execStructuralWrite (init : FabInit) (off : Offset) (val : Word) (s : State) :
    Host.Outcome State Fault Refusal :=
  .next
    (if structMask off.toNat = 0 then s
     else
       match fabricGuard s init off.toNat true with
       | some d => recordFabric s init off.toNat true d
       | none => structuralEffect init off val s)

/-- One word of COACH_MIG_SLOT from the source of a rejoin: slot `i`, its low or high word (R491). -/
def joinSlot (s : State) (i : Nat) (high : Bool) (v : Word) : State :=
  let m := migSlot s 0 i
  let who : Option Agent := if bitAt v 17 then some (BitVec.ofNat 10 (fld v 27 18)) else none
  setSlots s i
    (if high then { m with w := fld v 16 0 * 4 + m.w % 4, busy := bitAt v 18 }
     else { m with valid := bitAt v 16, segment := fld v 15 0, running := who, w := m.w / 4 * 4 + fld v 31 30 })
/-- Step 2 of R491 on the joining twin: load a word and adopt the source's epoch. -/
def joinLoad (s : State) (o : Nat) (v : Word) : State :=
  let t := match s.pair.last with
    | some b => setReg s R.STX_EPOCH b.epoch
    | none => s
  let base := R.COACH_MIG_SLOT 0 0
  if base ≤ o ∧ o < base + 0x80 then joinSlot t ((o - base) / 8) (decide (o % 8 = 4)) v
  else
    let live := sPut t.banks.live o 0 ((liveWord t o &&& ~~~ pairWide o) ||| (v &&& pairWide o))
    { t with banks := { t.banks with live := live } }

/-- SHADOW_WR from the partner (R449): the coordinator orders it, applies it and mirrors it; the other twin applies
and acknowledges it. With handle 0 the joining twin loads it (step 2 of R491). -/
def execShadowWr (handle : Handle) (off : Offset) (val : Word) (s : State) : Host.Outcome State Fault Refusal :=
  .next (onFabric s
    (let o := off.toNat
     let pw := pairWide o
     if handle = 0 then (if pairState s = 1 && ! s.pair.rejoinSource then joinLoad s o val else s)
     else
       let t := adopt s handle
       if txnState t ≠ 1 ∨ t.txn.handle ≠ handle then t
       else
         let u := if pw = 0 then t else putShadow t o ((shadowWord t o &&& ~~~ pw) ||| (val &&& pw))
         if isCoord t then
           pairSend { u with txn := { u.txn with unacked := u.txn.unacked ++ [off] } } (.shadowWr handle off (val &&& pw))
         else pairSend u (.shadowAck handle off)))

/-- SHADOW_ACK (R449); the last one lets a waiting COMMIT go on (step 1 of R453). -/
def execShadowAck (handle : Handle) (off : Offset) (s : State) : Host.Outcome State Fault Refusal :=
  .next (onFabric s
    (if handle ≠ s.txn.handle then s
     else
       let t := { s with txn := { s.txn with unacked := s.txn.unacked.erase off } }
       if txnState t = 2 && isCoord t && ! t.txn.validated then commitStart t else t))

/-- TXN_IDLE_TIMEOUT: no owner write or command for IDLE_TMO on the coordinator (R451). -/
def execTxnIdleTimeout (s : State) : Host.Outcome State Fault Refusal :=
  .next (if txnState s = 1 && isCoord s && rd s R.STX_TXN_CFG 15 0 != 0 then txnEnd s 7 else s)

/-! ### The commit protocol (R453) -/

/-- PREPARE on the other twin: validate this twin's resulting structure; PREPARED waits for the drain (step 3). -/
def execPrepare (handle : Handle) (epoch : BitVec 32) (s : State) : Host.Outcome State Fault Refusal :=
  .next (onFabric s
    (let t := adopt s handle
     if txnState t ≠ 1 ∨ isCoord t ∨ t.txn.handle ≠ handle then t
     else
       match validateAll t (resultBank t) with
       | some f =>
         txnCode (txnClose (pairSend t (.refused handle (BitVec.ofNat 32 f.off) (BitVec.ofNat 4 f.item)
           (BitVec.ofNat 8 f.code)))) 0x1A
       | none => wr { t with txn := { t.txn with gotPrepare := true, newEpoch := epoch } } R.STX_TXN_STATUS 31 29 2))

/-- Bring the inactive bank level with the active one and write the changes into it (steps 3 and 4 of R453). -/
def fillInactive (s : State) : State := { s with banks := { s.banks with old := resultBank s } }

/-- The coordinator's commitment: SWITCH goes out and this twin switches (steps 5 and 6 of R453); alone, the commit
is DONE (R457). -/
def commitSwitch (s : State) : State :=
  if s.txn.sentPrepare then
    let t := epochSwitch s (resultBank s)
    pairSend { t with banks := { t.banks with shadow := [] }, txn := { t.txn with sentSwitch := true } }
      (.switch s.txn.handle (epochOf t))
  else txnCode (txnClose (epochSwitch s (resultBank s))) 0

/-- EPOCH_DRAIN_DONE: no access of the previous epoch remains on this twin (steps 3 and 4 of R453). -/
def execEpochDrainDone (s : State) : Host.Outcome State Fault Refusal :=
  .next (onFabric s
    (if txnState s ≠ 2 then s
     else if s.txn.gotPrepare then
       (if s.txn.sentPrepared then s
        else pairSend (fillInactive { s with txn := { s.txn with sentPrepared := true } }) (.prepared s.txn.handle))
     else if s.txn.validated && ! s.txn.drained && ! s.txn.sentSwitch then
       let t := fillInactive { s with txn := { s.txn with drained := true } }
       if t.txn.gotPrepared || ! t.txn.sentPrepare then commitSwitch t else t
     else s))

/-- PREPARED on the coordinator (step 5 of R453). -/
def execPrepared (handle : Handle) (s : State) : Host.Outcome State Fault Refusal :=
  .next (onFabric s
    (if txnState s = 2 && isCoord s && s.txn.handle = handle && s.txn.sentPrepare && ! s.txn.sentSwitch then
       let t := { s with txn := { s.txn with gotPrepared := true } }
       if t.txn.drained then commitSwitch t else t
     else s))

/-- REFUSED on the coordinator: the other twin's code, item and offset are reported with TWIN naming it (R452). -/
def execRefused (handle : Handle) (off : BitVec 32) (item : BitVec 4) (code : BitVec 8) (s : State) :
    Host.Outcome State Fault Refusal :=
  .next (onFabric s
    (if txnState s = 2 && isCoord s && s.txn.handle = handle && ! s.txn.sentSwitch then
       countFailed (txnCode (txnClose (reportFailure s (! s.dev.pid) ⟨code.toNat, item.toNat, off.toNat⟩)) code.toNat)
     else s))

/-- SWITCH on the other twin: it switches and answers SWITCHED (step 6 of R453). -/
def execSwitch (handle : Handle) (epoch : BitVec 32) (s : State) : Host.Outcome State Fault Refusal :=
  .next (onFabric s
    (if txnState s = 2 && s.txn.handle = handle && s.txn.sentPrepared && s.txn.newEpoch = epoch then
       let t := epochSwitch s (resultBank s)
       txnCode (txnClose (pairSend t (.switched handle))) 0
     else s))

/-- SWITCHED on the coordinator: DONE (step 7 of R453). -/
def execSwitched (handle : Handle) (s : State) : Host.Outcome State Fault Refusal :=
  .next (onFabric s
    (if s.txn.sentSwitch && s.txn.handle = handle then txnCode (txnClose s) 0 else s))

/-- SWITCHED_TIMEOUT: UNCONFIRMED, with the transaction event (R457, R461). -/
def execSwitchedTimeout (s : State) : Host.Outcome State Fault Refusal :=
  .next (if s.txn.sentSwitch then countFailed (raiseEv (txnCode (txnClose s) 0x0A) 5) else s)

/-- ABORT: the twin discards the transaction (R451, R457). -/
def execAbort (handle : Handle) (s : State) : Host.Outcome State Fault Refusal :=
  .next (onFabric s
    (if (txnState s = 1 || txnState s = 2) && s.txn.handle = handle && ! s.txn.sentSwitch then
       txnCode (txnClose s) 0
     else s))

/-- The keeper cores restart: an open transaction, or a commit before step 6, ends (R451). -/
def txnKeeperRestart (s : State) : State :=
  if txnState s = 1 then txnEnd s 6
  else if txnState s = 2 && ! s.txn.sentSwitch then commitFails s 6
  else s
/-- At takeover (R485): the partner's transaction is discarded; one that this twin coordinates continues alone. -/
def txnTakeover (s : State) : State :=
  if txnState s ≠ 1 ∧ txnState s ≠ 2 then s
  else if ! isCoord s then txnCode (txnClose s) 5
  else if s.txn.sentSwitch then countFailed (raiseEv (txnCode (txnClose s) 0x0A) 5)
  else
    let t := { s with txn := { s.txn with both := false, unacked := [], sentPrepare := false, gotPrepared := false } }
    if txnState t = 2 && ! t.txn.validated then commitStart t
    else if t.txn.drained then commitSwitch t else t
/-- A twin that stands down discards its open transaction with TWIN_TIMEOUT (R490). -/
def txnStandDown (s : State) : State :=
  if txnState s = 1 || txnState s = 2 then txnCode (txnClose s) 5 else s

/-! ### Persisting and image loads -/

/-- The slot that holds the booted image (STX_IMG_STATUS.BOOTED). -/
def bootedSlot (s : State) : Bool := rdBit s R.STX_IMG_STATUS 31

/-- TXN_PERSIST (R459, R460): only from IDLE; under supply trouble nothing is written. -/
def execTxnPersist (init : FabInit) (s : State) : Host.Outcome State Fault Refusal :=
  .next
    (if txnState s = 2 || txnState s = 3 then txnCode s 1
     else if txnState s = 1 then txnCode s (if s.txn.owner = some init then 2 else 3)
     else if supplyTrouble s then countFailed (nvDeferred (txnCode s 8))
     else
       let base := slotBase (bootedSlot s)
       let other := slotBase (! bootedSlot s)
       let seq := max (if imageValid s base then imageSeq s base else 0) (if imageValid s other then imageSeq s other else 0)
       let img := buildImage s.banks.live (envelopeAt s base) (seq + 1) (epochOf s).toNat
       wrBit (wr (storeErasePage { s with txn := { s.txn with image := some img } } other) R.STX_TXN_STATUS 31 29 3)
         R.RST_SUP_STATUS 27 true)

/-- Everything but the header page of an interrupted image: content not stated. -/
def garbleBody (s : State) (base : Nat) (n : Nat) : State := storeGarble s (base + 4096) (n - 4096)

/-- PERSIST_DONE (R460): the image stands with its header, or the target slot stays invalid. -/
def execPersistDone (e : StoreEnd) (s : State) : Host.Outcome State Fault Refusal :=
  .next
    (match s.txn.image with
     | none => s
     | some img =>
       let base := slotBase (! bootedSlot s)
       let t := wrBit (wr { s with txn := { s.txn with image := none } } R.STX_TXN_STATUS 31 29 0) R.RST_SUP_STATUS 27 false
       match e with
       | .done => txnCode (storeWrite t base img) 0
       | .supplyLow => countFailed (nvDeferred (txnCode (garbleBody t base img.length) 8))
       | .storeError => countFailed (txnCode (garbleBody t base img.length) 9))

/-- The 64 KiB of STX_IMG_BUF. -/
def imgBufBytes (s : State) : List Byte :=
  (List.range 16384).flatMap (fun i => leBytes 4 (sGet s.dev.imgBuf i 0).toNat)

/-- IMG_LOAD: SLOT and PAGE are taken; the booted slot is refused unless no slot can be booted; programming a page
above 0 erases the header page (R533, R532). -/
def execImgLoad (slot : Bool) (page : BitVec 10) (s : State) : Host.Outcome State Fault Refusal :=
  .next
    (let t := wr (wrBit s R.STX_IMG_LOAD 29 slot) R.STX_IMG_LOAD 9 0 page.toNat
     if rdBit s R.STX_IMG_LOAD 30 then s
     else if ! s.dev.stuck && slot == bootedSlot s then wr t R.STX_IMG_LOAD 23 16 1
     else if supplyTrouble s then nvDeferred (wr t R.STX_IMG_LOAD 23 16 2)
     else
       let u := wrBit (wrBit { t with txn := { t.txn with loading := some (imgBufBytes s) } } R.STX_IMG_LOAD 30 true)
         R.RST_SUP_STATUS 27 true
       if page = 0 then u else storeErasePage u (slotBase slot))

/-- IMG_LOAD_DONE: BUSY clears with its code (R533). -/
def execImgLoadDone (e : StoreEnd) (s : State) : Host.Outcome State Fault Refusal :=
  .next
    (match s.txn.loading with
     | none => s
     | some bs =>
       let slot := rdBit s R.STX_IMG_LOAD 29
       let a := slotBase slot + rd s R.STX_IMG_LOAD 9 0 * 0x10000
       let t := wrBit (wrBit { s with txn := { s.txn with loading := none } } R.STX_IMG_LOAD 30 false)
         R.RST_SUP_STATUS 27 false
       match e with
       | .done => wr (storeWrite t a bs) R.STX_IMG_LOAD 23 16 0
       | .supplyLow => wr (nvDeferred (storeErasePage (storeGarble t a 0x10000) (slotBase slot))) R.STX_IMG_LOAD 23 16 2
       | .storeError => wr (storeErasePage (storeGarble t a 0x10000) (slotBase slot)) R.STX_IMG_LOAD 23 16 3)

end Sys2Proof.Machine
end

