-- ==== Sys2Proof/Machine/Chip.lean ====
section
/-! DEFINITION. Resets of chip and package level (17): effective levels, what such a reset clears and keeps, the reset
cause, and what it does to writes of the store that are under way. -/

namespace Sys2Proof.Machine

/-! ### Effective levels (R522, R523, R458) -/

/-- An entry of the one-time-programmable bank or of the image; only a level code counts. -/
def levelEntry (m : SMap (BitVec 3)) (src : Nat) : Nat :=
  let v := (sGet m src 7).toNat
  if v ≤ 4 then v else 0
/-- The effective level of a source: the widest of its factory default and its two entries. -/
def effLevel (s : State) (src : Nat) : Nat :=
  max (factoryDefault src) (max (levelEntry s.dev.otpShadow src) (levelEntry s.dev.imgLevel src))
/-- IMAGE of RST_SRC_MAP under the live structure. -/
def imageLevel (s : State) (src : Nat) : BitVec 3 := BitVec.ofNat 3 (fld (liveWord s (R.RST_SRC_MAP src)) 24 22)
/-- A reset of level `l` puts the committed image entries of the sources of that level or below in force (R523). -/
def adoptLevels (s : State) (l : Nat) : State :=
  let put (m : SMap (BitVec 3)) (src : Nat) : SMap (BitVec 3) :=
    if effLevel s src ≤ l then sPut m src 7 (imageLevel s src) else m
  { s with dev := { s.dev with imgLevel := (List.range 24).foldl put s.dev.imgLevel } }

/-! ### The reset cause (R529) -/

/-- The reset-cause record of the store: the upper half of RST_RESET_CAUSE as a word, and its complement (assumption 46). -/
def causeRecord (c : Word) : List Byte := leBytes 4 c.toNat ++ leBytes 4 (~~~ c).toNat
def causeWord (src lvl unit : Nat) : Word := BitVec.ofNat 32 (src * 2 ^ 27 + lvl * 2 ^ 24 + unit % 128 * 2 ^ 16)
/-- The STORED fields take the store's record. -/
def loadStored (s : State) : State :=
  let c := BitVec.ofNat 32 (storeNat s causeBase 4)
  if storeRead s (causeBase + 4) 4 = leBytes 4 (~~~ c).toNat then
    wr s R.RST_RESET_CAUSE 15 7 (256 + fld c 31 27 * 8 + fld c 26 24)
  else wr s R.RST_RESET_CAUSE 15 7 0
/-- The copy in the store: deferred under supply trouble (R532). -/
def storeCause (s : State) (c : Word) : State :=
  if supplyTrouble s then nvDeferred { s with dev := { s.dev with causeDeferred := true } }
  else storeWrite s causeBase (causeRecord c)
/-- Record a reset of chip or package level; its event waits for structure load. -/
def recordCause (s : State) (src lvl unit : Nat) : State :=
  let c := causeWord src lvl unit
  let t := setReg s R.RST_RESET_CAUSE ((getReg s R.RST_RESET_CAUSE &&& 0xFFFF) ||| c)
  let u := { t with dev := { t.dev with causeEvent := true } }
  if src = 0 then u else storeCause u c

/-! ### Interrupted writes of the store (R460, R532, R533) -/

/-- A persist or an image load that the keeper cores do not finish leaves its slot invalid. -/
def interruptTxn (s : State) : State :=
  let t := match s.txn.image with
    | some img => garbleBody s (slotBase (! bootedSlot s)) img.length
    | none => s
  if s.txn.loading.isSome then
    let slot := rdBit s R.STX_IMG_LOAD 29
    storeErasePage (storeGarble t (slotBase slot + rd s R.STX_IMG_LOAD 9 0 * 0x10000) 0x10000) (slotBase slot)
  else t
/-- A journal page or a program of the SPI-mode pin set that a package-level reset interrupts: bytes not stated. -/
def interruptStore (s : State) : State :=
  let t := interruptTxn s
  let u := if s.dev.jpage.isSome then storeGarble t (journalBase + s.dev.jseq.toNat % 8192 * 0x1000) 4096 else t
  match s.dev.spiOp with
  | some (.program off data) => storeGarble u off.toNat data.length
  | some (.erase off) => storeGarble u (off.toNat / 4096 * 4096) 4096
  | none => u

/-! ### Start-ups that fail (R536) -/

/-- ATTEMPTS after a reset of chip or package level: RESET_N and power-on clear it; one before fabric ready counts. -/
def attemptsAfter (s : State) (src : Nat) : Nat :=
  let a := rd s R.RST_BRINGUP 25 24
  if src ≤ 1 then 0
  else if rdBit s R.RST_BRINGUP 31 || s.dev.stuck || s.dev.pkgReset || s.dev.spiMode then a
  else min 3 (a + 1)
/-- The reset ends a third start-up in succession. -/
def lastAttempt (s : State) (src : Nat) : Bool :=
  ! rdBit s R.RST_BRINGUP 31 && ! s.dev.stuck && ! s.dev.pkgReset && ! s.dev.spiMode && attemptsAfter s src == 3
/-- RST_BRINGUP as start-up begins anew. -/
def bringup (s : State) (attempts : Nat) : Word :=
  BitVec.ofNat 32 ((rdBit s R.RST_BRINGUP 30).toNat * 2 ^ 30 + attempts * 2 ^ 24 + 1)

/-! ### Assertion (R519, R526) -/

/-- Everything that the fabric die, the keeper cores and the keeper interface hold is as after reset; slot channels, supply
monitors, the event unit, the reset controller, the fuse shadow and the store are kept. -/
def clearChip (s : State) (stop : Bool) : State :=
  let z := State.reset
  let d := s.dev
  let package (p : Nat × Word) : Bool := levelOf p.1 == .package
  { z with
    regs := s.regs.filterMap keptWord, cap := s.cap.filter package, banks := ⟨s.banks.live.filter package, [], []⟩
    store := s.store, slots := s.slots, snap := { s.snap with lost := s.snap.lost || s.snap.record.isSome, record := none }
    out := s.out, fresh := s.fresh, pending := s.pending
    dev := { d with
      fabReset := true, keeperRun := false, fenced := [], held := [.chip], swDeferred := none, faultDeferred := none
      wdRestarted := false, stuck := false, stopDue := d.stopDue || stop, kq := [], faultsHeld := [], imgBuf := []
      routersOut := [] } }
/-- Chip-level reset by source `src`; while the fabric die is in reset at start-up step 1 the request is absorbed (R528). -/
def chipReset (s : State) (src unit : Nat) : State :=
  if s.dev.pkgReset || (s.dev.fabReset && rd s R.RST_BRINGUP 3 0 == 1 && ! s.dev.stuck) then s
  else
    let t := clearChip (interruptTxn s) (lastAttempt s src)
    let u := setReg t R.RST_BRINGUP (bringup s (attemptsAfter s src))
    recordCause (wrBit u R.RST_SUP_STATUS 27 u.dev.jpage.isSome) src 3 unit
/-- Package-level reset by source `src`: the store, the one-time-programmable bank and the pins stay. -/
def packageReset (s : State) (src unit : Nat) : State :=
  if s.dev.pkgReset then s
  else
    let a := interruptStore s
    let z := State.reset
    let t := { z with
      store := a.store, out := s.out, fresh := a.fresh, pending := s.pending
      dev := { z.dev with
        otp := s.dev.otp, otpShadow := s.dev.otp, pid := s.dev.pid, spiMode := s.dev.spiMode, perst := s.dev.perst
        clkBad := s.dev.clkBad, stopDue := (s.dev.stopDue && decide (1 < src)) || lastAttempt s src } }
    let u := setReg (setReg t R.RST_SUP_STATUS (getReg s R.RST_SUP_STATUS &&& 0xC000FFFF)) R.RST_BRINGUP
      (BitVec.ofNat 32 (attemptsAfter s src * 2 ^ 24 + 1))
    recordCause (loadStored u) src 4 unit
/-- A source asserts at its effective level, chip or package. -/
def raiseSource (s : State) (src unit : Nat) : State :=
  if effLevel s src = 4 then packageReset s src unit else chipReset s src unit

/-- The resets that wait for the handover: they assert as the twin enters STOOD_DOWN (R26, R521). -/
def deferredReset (s : State) : State :=
  match s.dev.faultDeferred with
  | some src => raiseSource s src 0
  | none =>
    match s.dev.swDeferred with
    | some l => raiseSource s (3 + l.toNat) 0
    | none => s

end Sys2Proof.Machine
end

