-- ==== Sys2Proof/Machine/Xbar.lean ====
section
/-! DEFINITION. The crossbar and its central scheduler: one cell time (R236 to R243, R255 to R263). -/

namespace Sys2Proof.Machine

/-! ### Attachments and candidates (R237, R242, R243, R257) -/

/-- Output attachments of a destination, ascending. -/
def destAtts (s : State) (d : Dest) : List Nat :=
  match d with
  | .port p => (List.range (portCells s p)).map (· + p.val)
  | .house n => [128 + n.val]
/-- A number for each destination, for the rotation of VOQs over attachments. -/
def destNo (d : Dest) : Nat :=
  match d with
  | .port p => p
  | .house n => 128 + n
/-- The input attachment at which a packet is offered in this cell time: VOQs rotate over a port's attachments. -/
def inputAtt (s : State) (x : Pkt) : Nat :=
  if x.j = 8 then 128 + x.region
  else
    let p := 8 * x.region + x.j
    p + (destNo x.dest + x.cls + s.noc.cellTime) % portCells s p
/-- Packet `x` is an eligible head of its queue, `l` being the packets of the buffers in order (R242). -/
def eligibleHead (l : List Pkt) (x : Pkt) : Bool :=
  let ahead := (l.takeWhile (fun y => y.id != x.id)).filter (fun y => sameVoq x y && (y.stage == .queued || y.stage == .moving))
  x.stage == .queued &&
    (match x.typ with
     | .U => true
     | .P => ! ahead.any (fun y => y.typ == .P)
     | t => ! ahead.any (fun y => y.typ == .P || y.typ == t))
/-- Age of a packet in cell times, saturated at 4,095 (R25). -/
def pktAge (s : State) (x : Pkt) : Nat := min 4095 (s.noc.cellTime - x.stamp)
/-- Level of R257; an AGE_LIMIT below 16 acts as 16. -/
def pktLevel (s : State) (x : Pkt) : Nat :=
  if max 16 (fld (liveWord s R.XBAR_CFG) 27 16) ≤ pktAge s x then 2 else x.level
/-- Key of a queue's rotating pointer, and a packet's distance from it: equal ages go to the first type from the pointer, and
within a type to the packet admitted first (R25, R243). -/
def ageKey (x : Pkt) : Nat := ((x.region * 9 + x.j) * 144 + destNo x.dest) * 4 + x.cls
def ageRank (s : State) (x : Pkt) : Nat := (typNo x.typ + 4 - sGet s.buf.agePtr (ageKey x) 0) % 4
/-- Packet `x` is chosen before `y`, which was admitted first. -/
def chosenBefore (s : State) (x y : Pkt) : Bool :=
  decide (pktAge s y < pktAge s x) || (pktAge s x == pktAge s y && decide (ageRank s x < ageRank s y))
/-- The input takes part: no grant goes to a port cell that is fenced (R30). -/
def inputOpen (s : State) (a : Nat) : Bool := decide (128 ≤ a) || ! cellFenced s a

/-- A candidate: a packet at an input attachment, with its level. -/
structure Cand where
  pkt : Pkt
  att : Nat
  level : Nat
deriving DecidableEq, Repr
/-- The candidates of this cell time: for each input, destination and class the oldest eligible head. -/
def candidates (s : State) : List Cand :=
  let l := s.buf.pkts
  (l.filter (fun x => eligibleHead l x && inputOpen s (inputAtt s x))).foldl (fun acc x =>
    let c : Cand := ⟨x, inputAtt s x, pktLevel s x⟩
    let same (y : Cand) : Bool := y.att == c.att && y.pkt.dest == x.dest && y.pkt.cls == x.cls
    match acc.find? same with
    | none => acc ++ [c]
    | some y => if chosenBefore s x y.pkt then acc.map (fun z => if same z then c else z) else acc) []

/-! ### Credits and staging (R255) -/

/-- The virtual channel on which a trunk port sends class `c`. -/
def trunkVc (s : State) (p c : Nat) : Nat := ((List.range 8).find? (fun v => vcClass s p v == c)).getD 0
/-- Header and data credits that a packet takes on a standard link; a type that the link does not credit takes none: U, which
PCIe flow control does not know (R255, assumption 165). -/
def linkNeed (x : Pkt) : Nat × Nat :=
  match x.typ, x.load with
  | .U, _ => (0, 0)
  | _, .switched p => (p.hdrCredits, p.dataCredits)
  | _, _ => (1, 0)
/-- Credits of a trunk port's virtual channel, in cells. -/
def trunkCells (s : State) (p c : Nat) : Nat := sGet (ownOf s (.port (Fin.ofNat 128 p))).credits (trunkVc s p c) 0
/-- An offer of an output to an input. -/
structure Offer where
  out : Nat
  cand : Cand
deriving DecidableEq, Repr
/-- Sum of what offers of lower attachments of the same destination would take. -/
def offered (l : List Offer) (x : Pkt) (same : Pkt → Bool) (n : Pkt → Nat) : Nat :=
  (((l.map (·.cand.pkt)).filter (fun y => y.dest == x.dest && same y)).map n).foldl (· + ·) 0
/-- The port holds enough link credits for the whole packet, beside what lower attachments offer (R255). -/
def creditsFor (s : State) (l : List Offer) (p : Nat) (x : Pkt) : Bool :=
  if portRole s p = 4 then
    decide (offered l x (fun y => trunkVc s p y.cls == trunkVc s p x.cls) (·.cells) + x.cells ≤ trunkCells s p x.cls)
  else
    let k := egressKey p x.cls x.typ
    let same (y : Pkt) : Bool := y.cls == x.cls && y.typ == x.typ
    let fits (n : Pkt → Nat) (have_ : Nat) : Bool := n x == 0 || decide (offered l x same n + n x ≤ have_)
    fits (fun y => (linkNeed y).1) (sGet s.buf.egress k 0) && fits (fun y => (linkNeed y).2) (sGet s.buf.egress (k + 1) 0)
/-- Packet `x` is eligible for output `e`, `l` being the offers made so far in this iteration. -/
def eligibleOut (s : State) (l : List Offer) (e : Nat) (x : Pkt) : Bool :=
  match x.dest with
  | .house n => e == 128 + n.val
  | .port p =>
    (destAtts s x.dest).contains e && ! cellFenced s e && linkActive s p &&
      decide (sGet s.buf.staging e 0 + x.cells ≤ 64) && creditsFor s l p x

/-! ### The scheduler (R256 to R260) -/

/-- Weight of a class; 0 acts as 1. -/
def classWeight (s : State) (c : Nat) : Nat := max 1 (fld (liveWord s R.XBAR_CLASS_WEIGHT) (8 * c + 7) (8 * c))
/-- Class pointer and remaining count of an output. -/
def classPtrOf (s : State) (e : Nat) : Nat × Nat := sGet s.buf.classPtr e (0, classWeight s 0)
def setClassPtr (s : State) (e : Nat) (v : Nat × Nat) : State :=
  withBuf s { s.buf with classPtr := sIns s.buf.classPtr e v }
/-- The class that an output picks among those with a candidate; the pointer moves where it must (R258). -/
def classPick (s : State) (e : Nat) (has : Nat → Bool) : State × Nat :=
  let p := classPtrOf s e
  if has p.1 then (s, p.1)
  else
    match ((List.range 3).map (fun i => (p.1 + 1 + i) % 4)).find? has with
    | some c => (setClassPtr s e (c, classWeight s c), c)
    | none => (s, p.1)
/-- The first of some numbers below 144 at or after a pointer, wrapping. -/
def firstFrom (ptr : Nat) (l : List Nat) : Option Nat :=
  ((List.range 144).map (fun i => (ptr + i) % 144)).find? (fun i => l.contains i)
def grantKey (e c : Nat) : Nat := e * 4 + c
def topLevel (l : List Cand) : Nat := (l.map (·.level)).foldl max 0

/-- What a cell time has matched: pairs (input, output) with the packet's number. -/
structure Pairing where
  inp : Nat
  out : Nat
  id : Nat
deriving DecidableEq, Repr

/-- The offers of one iteration, by output in ascending order. -/
def offersOf (s : State) (cands : List Cand) (done : List Pairing) (outs : List Nat) (l : List Offer) : State × List Offer :=
  match outs with
  | [] => (s, l)
  | e :: t =>
    let r := cands.filter (fun c => ! done.any (fun d => d.inp == c.att) && eligibleOut s l e c.pkt)
    if done.any (fun d => d.out == e) || r.isEmpty then offersOf s cands done t l
    else
      let lv := topLevel r
      let q := r.filter (fun c => c.level == lv)
      let p := classPick s e (fun k => q.any (fun c => c.pkt.cls == k))
      let w := q.filter (fun c => c.pkt.cls == p.2)
      match (firstFrom (sGet s.buf.grantPtr (grantKey e p.2) 0) (w.map (·.att))).bind (fun i => w.find? (fun c => c.att == i)) with
      | some c => offersOf p.1 cands done t (l ++ [⟨e, c⟩])
      | none => offersOf p.1 cands done t l
/-- The accepts of one iteration, by input; `first`: the pointers move. -/
def acceptsOf (s : State) (first : Bool) (l : List Offer) (ins : List Nat) (done : List Pairing) : State × List Pairing :=
  match ins with
  | [] => (s, done)
  | i :: t =>
    let mine := l.filter (fun o => o.cand.att == i)
    let q := mine.filter (fun o => o.cand.level == topLevel (mine.map (·.cand)))
    match (firstFrom (sGet s.buf.acceptPtr i 0) (q.map (·.out))).bind (fun e => q.find? (fun o => o.out == e)) with
    | some o =>
      let u := if first then
          withBuf s { s.buf with
            grantPtr := sPut s.buf.grantPtr (grantKey o.out o.cand.pkt.cls) 0 ((i + 1) % 144)
            acceptPtr := sPut s.buf.acceptPtr i 0 ((o.out + 1) % 144) }
        else s
      acceptsOf u first l t (done ++ [⟨i, o.out, o.cand.pkt.id⟩])
    | none => acceptsOf s first l t done
/-- Take the link credits of a packet, or give them back. -/
def takeLinkCredits (s : State) (p : Nat) (x : Pkt) (back : Bool) : State :=
  let move (have_ n : Nat) : Nat := if back then have_ + n else have_ - n
  if portRole s p = 4 then
    let l : LinkId := .port (Fin.ofNat 128 p)
    let o := ownOf s l
    let v := trunkVc s p x.cls
    setOwn s l { o with credits := sPut o.credits v 0 (move (sGet o.credits v 0) x.cells) }
  else
    let k := egressKey p x.cls x.typ
    let e := sPut s.buf.egress k 0 (move (sGet s.buf.egress k 0) (linkNeed x).1)
    withBuf s { s.buf with egress := sPut e (k + 1) 0 (move (sGet e (k + 1) 0) (linkNeed x).2) }
/-- The credits and staging that an accepted packet reserves (R256, R261). -/
def reserveOut (s : State) (x : Pkt) (e : Nat) : State :=
  match x.dest with
  | .house _ => s
  | .port p => takeLinkCredits (withBuf s { s.buf with staging := sPut s.buf.staging e 0 (sGet s.buf.staging e 0 + x.cells) }) p x false
/-- Start the accepted packets of an iteration. -/
def startPkts (s : State) (l : List Pairing) : State :=
  forAll l s (fun t d =>
    match t.buf.pkts.find? (fun x => x.id == d.id) with
    | some x =>
      if x.stage = .queued then
        let u := withBuf t { t.buf with
          agePtr := sPut t.buf.agePtr (ageKey x) 0 ((typNo x.typ + 1) % 4)
          pkts := t.buf.pkts.map (fun y =>
            if y.id = x.id then { y with stage := .moving, inAtt := d.inp, outAtt := d.out } else y) }
        reserveOut u x d.out
      else t
    | none => t)
/-- Numbers without repeats, ascending below 144. -/
def rising (l : List Nat) : List Nat := (List.range 144).filter (fun i => l.contains i)
/-- Iterations `k` to 3 of the matching (R259). -/
def matchIter (n : Nat) (s : State) (first : Bool) (cands : List Cand) (done : List Pairing) : State × List Pairing :=
  match n with
  | 0 => (s, done)
  | m + 1 =>
    let live := cands.filter (fun c => ! done.any (fun d => d.id == c.pkt.id))
    let o := offersOf s live done (rising (live.flatMap (fun c => destAtts s c.pkt.dest))) []
    let a := acceptsOf o.1 first o.2 (rising (o.2.map (·.cand.att))) done
    matchIter m (startPkts a.1 a.2) false cands a.2

/-! ### Egress (R261 to R263) -/

/-- Port `p` transmits packet `x`, whose link credits are taken already. -/
def transmit (s : State) (x : Pkt) (p : Nat) : State :=
  match x.load with
  | .switched k =>
    let t := emit s (.tlp p k x.poison)
    if portRole t p = 4 then linkSend t (.port (Fin.ofNat 128 p)) ⟨trunkVc t p x.cls, 0, k.bytes, none⟩ else t
  | _ => s
/-- Take a packet out of the buffers with the staging it reserved. -/
def dropPkt (s : State) (x : Pkt) : State :=
  withBuf s { s.buf with
    pkts := s.buf.pkts.filter (fun y => y.id != x.id)
    staging := if x.outAtt < 128 then sPut s.buf.staging x.outAtt 0 (sGet s.buf.staging x.outAtt 0 - x.cells) else s.buf.staging }
/-- Of the packets whose first cell is in the staging of port `p`, the one whose first cell came first. -/
def firstStaged (s : State) (p : Nat) : Option Pkt :=
  (s.buf.pkts.filter (fun x => x.dest == .port (Fin.ofNat 128 p) && (x.stage == .staged || (x.stage == .moving && decide (0 < x.sent))))).foldl
    (fun acc x =>
      match acc with
      | none => some x
      | some y => if x.ord < y.ord then some x else some y) none
/-- A port that waits for last cells transmits its packets whole, in the order of their first cells (R262, R263). -/
def transmitStaged (k : Nat) (s : State) (p : Nat) : State :=
  match k with
  | 0 => s
  | m + 1 =>
    match firstStaged s p with
    | some x => if x.stage = .staged then transmitStaged m (dropPkt (transmit s x p) x) p else s
    | none => s

/-! ### Sending cells (R236, R238, R247, R258, R262) -/

/-- What a packet does when its last cell has crossed. -/
def arrive (s : State) (x : Pkt) : State :=
  match x.load, x.dest with
  | .read m d, .port p => hostData s p { m with poison := m.poison || x.poison } d
  | .read m d, .house _ => coachData s (coachNo m.tgt) { m with poison := m.poison || x.poison } d
  | .line m d k, .port p => dpWrite s p m.laddr { m with poison := m.poison || x.poison } d k (m.poison || x.poison)
  | .access o, .port p => dpArrive s { o with port := p }
  | _, _ => s
/-- One cell crossed output `e` in class `c` (R258). -/
def classCell (s : State) (e c : Nat) : State :=
  let p := classPtrOf s e
  if p.1 ≠ c then s
  else if p.2 ≤ 1 then setClassPtr s e ((c + 1) % 4, classWeight s ((c + 1) % 4))
  else setClassPtr s e (c, p.2 - 1)
/-- Port whose function 0 logs an error of a packet (R428). -/
def logPacket (s : State) (p : Nat) (unc : Bool) : State :=
  if portRole s p = 1 then (if unc then logUncorrectable s p 0 22 else logCorrectable s p 0 14) else s
/-- The SECDED of a switched packet's header as its first cell is read (R238): the state, and whether it goes on. -/
def headerCheck (s : State) (x : Pkt) : State × Bool :=
  match x.load with
  | .switched p =>
    match p.ecc with
    | .clean => (s, true)
    | .corrected => (logPacket (count s (R.RGN_BUF_ECC_CNT x.region) 0 .once (regionEv x.region 3)) p.port false, true)
    | .uncorrectable =>
      (logPacket (count s (R.RGN_BUF_UNCORR_CNT x.region) 0 .every (regionEv x.region 1)) p.port true, false)
  | _ => (s, true)
/-- A packet is discarded for its header: its cells, staging and link credits are free (R238, R248). -/
def discardPkt (s : State) (x : Pkt) : State :=
  let t := dropPkt (freeCellsOf s x.region x.j x.cls (x.cells - x.sent) x.shared) x
  match x.dest, x.load with
  | .port p, .switched k =>
    if x.stage ≠ .moving then t
    else if 0 < x.sent ∧ cutThrough t p = true then emit t (.tlpCut p k)
    else takeLinkCredits t p x true
  | .port p, _ => if x.stage = .moving then takeLinkCredits t p x true else t
  | .house _, _ => t
/-- Port through which a packet came in: a switched packet's own, another's by its input. -/
def pktPort (x : Pkt) : Option Nat :=
  match x.load with
  | .switched p => some p.port
  | _ => if x.j < 8 then some (8 * x.region + x.j) else none
/-- Function 0 of a packet's port logs a correction in it, or its discard (R428). -/
def logPktPort (s : State) (x : Pkt) (unc : Bool) : State :=
  match pktPort x with
  | some p => logPacket s p unc
  | none => s
/-- An error in a cell of a packet in the buffers or staging (R238): a corrected one is counted, an uncorrectable one of its
payload poisons it, and one of its header discards it. -/
def cellCorrects (s : State) (x : Pkt) : State :=
  logPktPort (count s (R.RGN_BUF_ECC_CNT x.region) 0 .once (regionEv x.region 3)) x false
def cellPoisons (s : State) (x : Pkt) : State :=
  withBuf s { s.buf with pkts := s.buf.pkts.map (fun y => if y.id = x.id then { y with poison := true } else y) }
def cellLost (s : State) (x : Pkt) : State :=
  discardPkt (logPktPort (count s (R.RGN_BUF_UNCORR_CNT x.region) 0 .every (regionEv x.region 1)) x true) x
/-- The packet that number `n` picks among those with cells. -/
def somePkt (s : State) (n : Nat) : Option Pkt :=
  let l := s.buf.pkts.filter (fun x => decide (0 < x.cells) && (x.stage == .queued || x.stage == .moving || x.stage == .staged))
  l[n % max 1 l.length]?
/-- The first cell of a packet reaches the staging of its port. -/
def firstCell (s : State) (x : Pkt) : State × Pkt :=
  let y := { x with ord := s.buf.nextOrd }
  let t := withBuf s { s.buf with nextOrd := s.buf.nextOrd + 1 }
  match x.dest with
  | .port p => (if cutThrough t p then transmit t y p else t, y)
  | .house _ => (t, y)
/-- A cell of a packet leaves the crossbar for its port or house (R550). -/
def noteLeaving (s : State) (x : Pkt) : State :=
  let d : Nat × Nat := match x.dest with
    | .port p => (p.val / 8, p.val % 8)
    | .house n => (n.val, 8)
  perfHit (perfHit s d.1 0x03 d.2 1 1) d.1 0x05 d.2 (cellLen x.load x.sent) 1
/-- Send one cell of a packet in transfer; its content is free as it crosses. The packet, where that was its last cell. -/
def sendCell (s : State) (id : Nat) : State × Option Pkt :=
  match s.buf.pkts.find? (fun x => x.id == id) with
  | none => (s, none)
  | some x =>
    if x.stage ≠ .moving then (s, none)
    else
      let h := if x.sent = 0 then headerCheck s x else (s, true)
      if ! h.2 then (discardPkt h.1 x, none)
      else
        let t := classCell (freeCellsOf (noteLeaving h.1 x) x.region x.j x.cls 1 x.shared) x.outAtt x.cls
        let f := if x.sent = 0 then firstCell t x else (t, x)
        let y := { f.2 with sent := x.sent + 1 }
        let put (z : Pkt) : State := withBuf f.1 { f.1.buf with pkts := f.1.buf.pkts.map (fun w => if w.id = z.id then z else w) }
        if y.sent < y.cells then (put y, none)
        else
          match y.load, y.dest with
          | .switched _, .port p =>
            if cutThrough f.1 p then (dropPkt f.1 y, none) else (transmitStaged 64 (put { y with stage := .staged }) p, none)
          | _, _ => (dropPkt f.1 y, some y)
/-- Send one cell over each pair, in ascending order of the outputs (R262); the packets that have crossed. -/
def sendCells (s : State) (l : List Pairing) : State × List Pkt :=
  ((List.range 144).filterMap (fun e => l.find? (fun d => d.out == e))).foldl (fun acc d =>
    let r := sendCell acc.1 d.id
    (r.1, acc.2 ++ r.2.toList)) (s, [])

/-- CROSSBAR_CELL_TIME: match inputs to outputs, and send one cell over each pair (R259). The cells are freed first; what has
crossed then acts, and free cells let waiting reads and units go on (R247, R250, R251). -/
def execCrossbarCellTime (s : State) : Host.Outcome State Fault Refusal :=
  .next (onFabric s
    (let t := withNoc s { s.noc with cellTime := s.noc.cellTime + 1 }
     let locked := (t.buf.pkts.filter (fun x => x.stage == .moving)).map (fun x => (⟨x.inAtt, x.outAtt, x.id⟩ : Pairing))
     let m := matchIter 3 t true (candidates t) locked
     let c := sendCells (perfHit m.1 0 0x40 0 m.2.length 1) m.2
     let u := forAll c.2 c.1 arrive
     let v := forAll ((u.dp.wait.map (·.port)).dedup) u pumpPort
     settleAll (forAll (v.co.units.map (fun x => (x.coach, x.pipe))) v (fun w x => pumpUnit w x.1 x.2 none))))

end Sys2Proof.Machine
end

