-- ==== Sys2Proof/Machine/Loss.lean ====
section
/-! DEFINITION. Links that come up and go down (12): training, the link-loss rule, RECOVERY's end; fences (R30, R32, R348); the
decision of a partition (R479) and the source's side of a rejoin (R491). -/

namespace Sys2Proof.Machine

/-! ### The link-loss rule (R266, R395, R431, R432) -/

/-- AER words that keep their values through a conventional reset: status, mask, severity of both classes (PCIe 6.x,
assumption 30). -/
def stickyWord (w : Nat) : Bool := decide (0x104 / 4 ≤ w) && decide (w ≤ 0x114 / 4)
/-- Conventional reset of host port `p`: its functions take the committed layout, and their configuration space its reset
values (R432). -/
def conventionalReset (s : State) (p : Nat) : State :=
  let put (m : SMap Word) (k off : Nat) : SMap Word := sPut m (p * 4 + k) 0 (liveWord s off)
  let ofPort (k : Nat) : Bool := k / 257 == p
  { s with
    fns := { s.fns with
      layout := put (put (put (put s.fns.layout 0 (R.STX_PORT_FN_W0 p)) 1 (R.STX_PORT_FN_W1 p)) 2 R.STX_EP_ID) 3 R.STX_EP_ID2
      cfg := sDrop s.fns.cfg (fun i => ofPort (i / 1024) && ! stickyWord (i % 1024))
      msix := sDrop s.fns.msix (fun i => ofPort (i / 8192)), pba := s.fns.pba.filter (fun i => ! ofPort (i / 2048))
      flr := sDrop s.fns.flr ofPort }
    pool := { s.pool with
      waits := s.pool.waits.filter (fun w => w.port.val != p || w.release) } }
/-- Reads of host memory outstanding through port `p` complete as timeouts (R220, R395). -/
def endPortReads (s : State) (p : Nat) : State :=
  forAll (s.co.descs.filter (fun d => d.stage == .fetch && d.lost.isNone && tenantPort s (chanOf s d.chan).tenant == p)) s endRead
/-- What the loss of its link does at port `p` by its role. -/
def loseRole (s : State) (p : Nat) : State :=
  match portRole s p with
  | 1 => conventionalReset (hostLost (endPortReads (noticeLoss s (servicesEp (portRegion p)) (agentId s p)) p) p) p
  | 2 => devPortLost (setSlotBit s p 24 12) p
  | 4 => setOwn s (.port (Fin.ofNat 128 p)) OwnLink.reset
  | _ => s
/-- The link of port `p` leaves its active state: STATE becomes `st`, and what is outstanding or queued on the link ends
(R266, R395). -/
def loseLink (s : State) (p st : Nat) : State :=
  let l : LinkId := .port (Fin.ofNat 128 p)
  let off := linkReg l 0
  if ! linkActive s p then wr s off 31 29 st
  else
    let t := count (settleSpares (wr s off 31 29 st) l false) (linkReg l 0x14) 0 .every (linkEv (p / 4))
    loseRole (dropCredits (flushPort t p) p) p
/-- Everything that a change of links lets go on. -/
def settleUnits (s : State) : State := fetchAll (settleAll (settleSlices (settleNoc s)))
/-- LINK_DOWN: DL_Down of a standard link, or an own link on entering DOWN. -/
def execLinkDown (port : Fin 128) (s : State) : Host.Outcome State Fault Refusal :=
  .next (onFabric s (if portValid s port then settleUnits (loseLink s port 0) else s))

/-! ### Fences (R30, R32, R267, R348) -/

/-- The device lanes of cell `c` (R342). -/
def cellLanes (c : Nat) : List Nat := (List.range 4).map (4 * c + ·)
/-- A cell's FENCE takes effect: its port loses its link, its reservations are released (R290), and forces written to its lanes
act (R359). -/
def fenceCell (s : State) (c : Nat) : State :=
  let t := releaseUnit (wrBit s (R.PB_CELL_CTRL (c / 4) (c % 4)) 0 true) (.cell (Fin.ofNat 128 c))
  let u := match portOf t c with
    | some p => loseLink t p 0
    | none => t
  forAll (cellLanes c) u applyForce
/-- FENCE is lifted: the cell's lanes leave loopback (R362), and the port trains once none of its cells is fenced. -/
def unfenceCell (s : State) (c : Nat) : State :=
  let t := forAll (cellLanes c) (wrBit s (R.PB_CELL_CTRL (c / 4) (c % 4)) 0 false) leaveLoopback
  match portOf t c with
  | some p =>
    if cellFenced s c && ((List.range (portCells t p)).all (fun i => ! cellFenced t (p + i))) && linkState t p == 0 then
      wr t (linkReg (.port (Fin.ofNat 128 p)) 0) 31 29 1
    else t
  | none => t

/-- The event that a unit's fault raises. -/
def unitEvent (u : FenceUnit) : Nat :=
  match u with
  | .cell c => linkEv (c / 4)
  | .coach k => coachEv k
  | .slice x => sliceFaultEv x
  | .region n => regionEv n 0

/-- Steps 1 to 3 of R495 for slice `x`, alone where `fence` (R30, R494): they are possible while the partner serves. The
step stands in `pair.repair`, from 1, from 5 for a fence. A slice that has nothing to hand over, or nobody to hand it to, is
fenced at once (assumption 168). -/
def startHandOver (s : State) (x : Nat) (fence : Bool) : State :=
  let n := sGet s.pair.repair x 0
  if ! partnerServes s ∨ slicedAway s x ∨ n ≠ 0 then
    if ! fence then s
    else if 1 ≤ n ∧ n ≤ 3 then { s with pair := { s.pair with repair := sPut s.pair.repair x 0 (n + 4) } }
    else if 4 < n then s
    else addFence s (.slice (Fin.ofNat 32 x))
  else
    { wrBit s (R.DIR_CTRL x) 0 true with
      pair := { s.pair with repair := sPut s.pair.repair x 0 (if fence then 5 else 1) } }
/-- Fence a region (R494): its healthy coaches retire in order, both slices hand over, its ports are fenced. -/
def fenceRegion (s : State) (n : Nat) : State :=
  let t := forAll (coachesOf n) (addFence s (.region (Fin.ofNat 16 n))) startRetire
  let u := startHandOver (startHandOver t (2 * n) true) (2 * n + 1) true
  forAll (List.range 8) u (fun v i => fenceCell v (8 * n + i))
/-- A fence takes effect by the rule for its unit (R30). -/
def fenceUnit (s : State) (u : FenceUnit) : State :=
  match u with
  | .cell c => fenceCell s c
  | .coach k => startRetire s k
  | .slice x => startHandOver s x true
  | .region n => fenceRegion s n
/-- A fence is asked for: while the management parent is in reset it is held as a raised event (R32). -/
def askFence (s : State) (u : FenceUnit) : State :=
  if parentDown s u then
    raiseEv { s with dev := { s.dev with
      faultsHeld := if s.dev.faultsHeld.contains u then s.dev.faultsHeld else s.dev.faultsHeld ++ [u] } } (unitEvent u)
  else fenceUnit s u
/-- CELL_FENCE. -/
def execCellFence (u : FenceUnit) (s : State) : Host.Outcome State Fault Refusal :=
  .next (onFabric s (receive s (.cellFence u) (fun t => settleUnits (askFence t u))))

def dropFence (s : State) (u : FenceUnit) : State := { s with dev := { s.dev with fenced := s.dev.fenced.filter (· != u) } }
/-- Ask the partner to hand slice `x` back (R495 step 5). -/
def takeBack (s : State) (x : Nat) : State :=
  if slicedAway s x && partnerServes s then pairSend s (.homing (Fin.ofNat 32 x) false) else s
/-- Lift a unit's fence (R348, R494, R520). -/
def unfenceUnit (s : State) (u : FenceUnit) : State :=
  match u with
  | .cell c => unfenceCell s c
  | .coach k => dropFence s (.coach k)
  | .slice x => takeBack (dropFence s (.slice x)) x
  | .region n =>
    let s := tagDropAll s n
    -- coaches that the region's reset has left in service
    let fresh := (coachesOf n).filter (fun k => coachState s k == 0)
    let r := forAll fresh (dropFence s (.region n)) (fun v k => dropFence v (.coach (Fin.ofNat 256 k)))
    let t := dropFence (dropFence r (.slice (Fin.ofNat 32 (2 * n)))) (.slice (Fin.ofNat 32 (2 * n + 1)))
    takeBack (takeBack (forAll (List.range 8) t (fun v i => unfenceCell v (8 * n + i))) (2 * n)) (2 * n + 1)
/-- CELL_UNFENCE: refused while the management parent is in reset (R32). -/
def execCellUnfence (u : FenceUnit) (s : State) : Host.Outcome State Fault Refusal :=
  .next (onFabric s (if parentDown s u then s else settleUnits (unfenceUnit s u)))

/-! ### Partition and standing down (R467, R479, R490) -/

/-- The path over the twin link, and the wire, which TWIN_PAIR_CFG.WIRE_EN may leave unused, is lost (R467). -/
def wireLost (s : State) : Bool := s.pair.missWire == 8 || ! bitAt (liveWord s R.TWIN_PAIR_CFG) 31
def linkPathLost (s : State) : Bool := s.pair.missLink == 8
/-- REGIONS of this twin's beacons (R465). -/
def regionsUp (s : State) : BitVec 16 :=
  (List.range 16).foldl (fun (b : BitVec 16) n =>
    if unitDown s (.region (Fin.ofNat 16 n)) then b else b ||| (1#16 <<< n)) 0
def popCount (b : BitVec 16) : Nat := ((List.range 16).filter (fun n => b.getLsbD n)).length
/-- This twin is the one that stands down against the partner's last beacon: fewer regions, or twin 1 (R479). -/
def yields (s : State) : Bool :=
  match s.pair.last with
  | some b =>
    let mine := popCount (regionsUp s)
    let theirs := popCount b.regions
    decide (mine < theirs) || (mine == theirs && s.dev.pid)
  | none => false
/-- Stand down: the open transaction ends, every port is fenced, the state is STOOD_DOWN (R479, R490); a reset that waits for
it asserts (R26, R521). -/
def standDown (s : State) : State :=
  deferredReset (settleUnits (forAll (List.range 128) (setPairState (txnStandDown s) 4) fenceCell))
/-- The rejoin in progress ends with the link: the source acts for every slice again, and the joining twin waits for the
link (DEDUCED from R491, R469). -/
def dropRejoin (s : State) : State :=
  let t := { s with pair := { s.pair with rejoinSource := false, homing := [], syncSent := [], syncGot := [] } }
  if s.pair.rejoinSource then
    forAll (List.range 32) t (fun u x =>
      wrBit (wrBit (markShadows u x (! u.dev.pid) false) R.TWIN_ACTING x true) (R.DIR_CTRL x) 0 false)
  else t
/-- The twin link enters DOWN: its buffers are gone, and on a paired twin with the wire in use it is a partition (R390,
R479). -/
def twinDown (s : State) : State :=
  if twinState s = 0 then s
  else
    let was := twinState s
    let t := settleSpares (wr (setOwn s .twin OwnLink.reset) (linkReg .twin 0) 31 29 0) .twin false
    if was = 1 then t
    else
      let u := txnLinkLost (dropRejoin (count t (linkReg .twin 0x14) 0 .every 15))
      if (pairState u == 2 || pairState u == 5) && ! wireLost u && yields u then standDown u else u

/-! ### A source's part in a rejoin (R491) -/

/-- COACH_MIG_SLOT words of slot `i` (05, "Registers"). -/
def slotBits (v : MigSlot) : Nat :=
  v.busy.toNat * 2 ^ 50 + v.w * 2 ^ 30 + ((v.running.map (·.toNat)).getD 0x3FF) * 2 ^ 18 + v.running.isSome.toNat * 2 ^ 17 +
    v.valid.toNat * 2 ^ 16 + v.segment
/-- Step 2: every pair-wide field, binding state and migration slot goes over in SHADOW_WR with handle 0. -/
def sendStructure (s : State) : State :=
  let ws := s.banks.live.filter (fun p => decide (p.2 &&& pairWide p.1 ≠ 0))
  let t := forAll ws s (fun u p => pairSend u (.shadowWr 0 (BitVec.ofNat 28 p.1) (p.2 &&& pairWide p.1)))
  forAll (List.range 16) t (fun u i =>
    let v := slotBits (migSlot u 0 i)
    pairSend (pairSend u (.shadowWr 0 (BitVec.ofNat 28 (R.COACH_MIG_SLOT 0 i)) (BitVec.ofNat 32 v)))
      (.shadowWr 0 (BitVec.ofNat 28 (R.COACH_MIG_SLOT 0 i + 4)) (BitVec.ofNat 32 (v / 2 ^ 32))))
/-- A twin that is ALONE with a joining partner on an ACTIVE link sends its structure and returns every slice. -/
def rejoinTry (s : State) : State :=
  if pairState s = 3 ∧ s.pair.takeoverStep = 0 ∧ s.pair.rejoinSource = false ∧ twinState s = 2 ∧
      (s.pair.last.map (·.state)) = some .joining then
    let t := sendStructure { s with pair := { s.pair with rejoinSource := true, syncSent := [], syncGot := [] } }
    settleSlices (forAll (List.range 32) t startReturn)
  else s

/-! ### Training (R253, R373, R377, R384, R387, R390, R391) -/

/-- The status word that a training gives; rate and width stay within the port's. A RECOVERY without complete
retraining returns at the rate and width that the link had (R390, R391, DEDUCED). -/
def statusWord (s : State) (l : LinkId) (t : Trained) : Word :=
  if ownProtocol s l && linkStateOf s l == 3 && ! (ownOf s l).fullReset then
    putFld (getReg s (linkReg l 0)) 31 29 2
  else
  let cap := rd s (linkReg l 4) 30 28
  let top := match l with
    | .port p => 2 + fld (portCfg s p) 27 26
    | .twin => 4
  let rate := match l with
    | .port p => min t.rate.toNat (fld (portCfg s p) 25 23)
    | .twin => min t.rate.toNat 6
  let w := min t.width.toNat (min cap top)
  let own := ownProtocol s l
  let cxl := match l with
    | .port p => ! own && (portRole s p == 1 || portRole s p == 2)
    | .twin => false
  let bi := match l with
    | .port p => cxl && t.cxlMem && t.bi && portRole s p == 1 && decide (2 ≤ t.cxlFlit.toNat)
    | .twin => false
  BitVec.ofNat 32 (2 * 2 ^ 29 + rate * 2 ^ 26 + w * 2 ^ 23 + (own || t.flit).toNat * 2 ^ 22 +
    (if cxl then t.cxlFlit.toNat else 0) * 2 ^ 20 + (cxl && t.cxlMem).toNat * 2 ^ 19 + bi.toNat * 2 ^ 18)
/-- An own link end as it starts: on the twin link 256 credits for each of its five channels (DESIGN CHOICE). -/
def ownStart (l : LinkId) : OwnLink :=
  match l with
  | .twin => { OwnLink.reset with credits := [(0, 256), (1, 256), (2, 256), (3, 256), (4, 256)] }
  | .port _ => OwnLink.reset
/-- An own link becomes ACTIVE: from RECOVERY each end asks for a replay and goes on; else it starts afresh (R390). -/
def trainOwn (s : State) (l : LinkId) (from3 : Bool) : State :=
  if from3 then
    let o := ownOf s l
    emit (setOwn s l
        { o with replayWait := true, rxReplay := none, replays := 0, fullReset := false, ackOwed := false, nakFirst := true })
      (.link (.nak l { xseq := o.rxNext, ackSeq := o.rxNext - 1 }))
  else setOwn s l (ownStart l)
/-- A standard link reaches DL_Active: credits go out, and on a device port what waits is issued. -/
def trainPort (s : State) (p : Nat) : State :=
  let t := forAll (List.range 4) s (fun u c => advertise u p c)
  if portRole t p = 2 then pumpPort (setSlotBit t p 24 12) p else t
/-- The link may train: its port is configured, and no cell of it is fenced or in reset. -/
def mayTrain (s : State) (l : LinkId) : Bool :=
  match l with
  | .port p => portValid s p && (List.range (portCells s p)).all (fun i => ! unitDown s (.cell (Fin.ofNat 128 (p + i))))
  | .twin => true
/-- LINK_TRAINED. -/
def execLinkTrained (l : LinkId) (tr : Trained) (s : State) : Host.Outcome State Fault Refusal :=
  .next (onFabric s
    (if ! mayTrain s l then s
     else
       let was := linkStateOf s l
       let w := statusWord s l tr
       -- an own link takes x4, x8 or x16: where no such width qualifies it enters DOWN (R391)
       if ownProtocol s l ∧ fld w 25 23 < 2 then
         (match l with
         | .port p => settleUnits (loseLink s p 0)
         | .twin => settleUnits (twinDown s))
       else
       let t := settleSpares (trainLanes (setReg s (linkReg l 0) w) l (fld w 28 26)) l true
       if ownProtocol t l then
         let u := if was = 2 then t else trainOwn t l (was == 3)
         match l with
         | .twin => if was = 2 then u else settleUnits (rejoinTry (txnLinkBack u))
         | .port p => if was = 3 then u else settleUnits (forAll (List.range 4) u (fun v c => advertise v p c))
       else
         match l with
         | .port p => if was = 2 ∨ was = 3 then t else settleUnits (trainPort t p)
         | .twin => t))

/-- LINK_RETRAIN: a full link reset (R377, R390). -/
def execLinkRetrain (l : LinkId) (s : State) : Host.Outcome State Fault Refusal :=
  .next (onFabric s
    (if ! mayTrain s l then s
     else if ownProtocol s l then
       match linkStateOf s l with
       | 2 => enterRecovery s l true
       | 3 => let o := ownOf s l; setOwn s l { o with fullReset := true }
       | _ => wr s (linkReg l 0) 31 29 1
     else
       match l with
       | .port p => settleUnits (loseLink s p 1)
       | .twin => s))

/-- RECOVERY_TIMEOUT: an own link has not returned within 10 ms and enters DOWN (R390). -/
def execRecoveryTimeout (l : LinkId) (s : State) : Host.Outcome State Fault Refusal :=
  .next (onFabric s
    (if ownProtocol s l && linkStateOf s l == 3 then
       match l with
       | .port p => settleUnits (loseLink s p 0)
       | .twin => twinDown s
     else s))

/-- STANDARD_LINK_RECOVERY: the LTSSM has been in Recovery; when the procedure fails, a full link reset (R377, R389, R398). -/
def execStandardLinkRecovery (port : Fin 128) (returned : Bool) (s : State) : Host.Outcome State Fault Refusal :=
  .next (onFabric s
    (if ownProtocol s (.port port) || ! linkActive s port then s
     else
       let t := count s (linkReg (.port port) 0x18) 0 .every (linkEv (port / 4))
       if returned then wr t (linkReg (.port port) 0) 31 29 2 else settleUnits (loseLink t port 1)))

/-- DEVICE_WRITE_TIMEOUT: the cell declares its link failed (R145, R395). -/
def execDeviceWriteTimeout (port : Fin 128) (s : State) : Host.Outcome State Fault Refusal :=
  .next (onFabric s
    (if s.dp.outst.any (fun o => o.port == port.val &&
         (o.wr.isSome || (match o.rd with
           | some (.msg _) => false
           | some (.tag _ _) => false
           | some _ => true
           | none => false))) then settleUnits (loseLink s port 0) else s))

/-- SERDES_PLL_LOCK_LOSS: only the lanes of that PLL are affected; their ports see a link-down (R42). -/
def execSerdesPllLockLoss (ports : List (Fin 128)) (twin : Bool) (s : State) : Host.Outcome State Fault Refusal :=
  .next (onFabric s
    (let t := forAll ports s (fun u p => if portValid u p then loseLink u p 0 else u)
     settleUnits (if twin then twinDown t else t)))

end Sys2Proof.Machine
end

