-- ==== Sys2Proof/Machine/Snap.lean ====
section
/-! DEFINITION. The snapshot engine (R555 to R557). -/

namespace Sys2Proof.Machine

def withSnap (s : State) (n : Snap) : State := { s with snap := n }

/-- Slots of the ring: below 2 acts as 2. -/
def ringEntries (s : State) : Nat := max 2 (rd s R.PERF_SNAP_SIZE 17 0)
/-- First byte of the ring. -/
def ringBase (s : State) : Nat := (rd64 s R.PERF_SNAP_BASE).toNat * 4096
/-- Slot to be written next. -/
def ringWrite (s : State) : Nat := rd s R.PERF_SNAP_WRITE 17 0
/-- The slot after `i`. -/
def nextSlot (s : State) (i : Nat) : Nat := (i + 1) % ringEntries s
/-- The ring lies in one private or shared-non-coherent segment that is bound to no host. -/
def ringPlaced (s : State) : Bool :=
  let a := ringBase s
  let g := segOf a
  let b := bankNow s
  g == segOf (a + ringEntries s * 4096 - 1) && decide (g < 65536) && segValid b g && (segMode b g == 0 || segMode b g == 2) &&
    (List.range 128).all (fun p => ! mayUse b p g) && decide (ringWrite s < ringEntries s)

/-- The eight bytes of counter `k`: COUNT, EN, OVF. -/
def counterBytes (s : State) (k : Nat) : List Byte :=
  leBytes 8 ((rd64 s (perfBase k + 8)).toNat % 2 ^ 48 + (rdBit s (perfBase k) 31).toNat * 2 ^ 48 +
    (rdBit s (perfBase k + 0x14) 0).toNat * 2 ^ 49)
/-- The record of a capture (R556). -/
def snapRecord (s : State) : List Byte :=
  leBytes 8 s.snap.seq.toNat ++ leBytes 8 (now s).toNat ++ leBytes 4 (getReg s R.STX_EPOCH).toNat ++ leBytes 2 320 ++
    leBytes 1 (pidNat s) ++ leBytes 1 s.snap.lost.toNat ++ List.replicate 40 0 ++
    (List.range 320).flatMap (counterBytes s)
/-- Line `i` of a record goes to its place in slot WRITE, at the segment's device port cell. -/
def writeLine (s : State) (bytes : List Byte) (i : Nat) : State :=
  let a := ringBase s + ringWrite s * 4096 + i * 64
  let d := mkLine (fun j => bytes.getD (i * 64 + j) 0)
  dpArrive s ⟨portFor s 0 a, addrLine a, none, some (.snap, d, fullMask, false), 0x3FF, some (epochBit s), none⟩

/-- PERF_SNAP_ENABLE: a write of PERF_SNAP_CTRL; setting EN sets WRITE to 0 and SEQ to 1 (R557). -/
def snapCtrl (s : State) (val : Word) : State :=
  let t := setReg s R.PERF_SNAP_CTRL (writeBits R.PERF_SNAP_CTRL (getReg s R.PERF_SNAP_CTRL) val)
  if bitAt val 31 && ! rdBit s R.PERF_SNAP_CTRL 31 then
    withSnap (setReg t R.PERF_SNAP_WRITE 0) { t.snap with seq := 1, lost := false }
  else t
def execPerfSnapEnable (val : Word) (s : State) : Host.Outcome State Fault Refusal := .next (snapCtrl s val)

/-- A capture that makes no record is counted, missed (`lo` = 0) or dropped (16). -/
def loseCapture (s : State) (lo : Nat) : State :=
  let t := count s R.PERF_SNAP_CNT lo .once 20
  withSnap t { t.snap with lost := true }

/-- SNAPSHOT_CAPTURE: the capture is missed while the last record is being written, dropped where the ring is misplaced or
full, and otherwise its 40 body lines are written (R555 to R557). -/
def execSnapshotCapture (s : State) : Host.Outcome State Fault Refusal :=
  .next (onFabric s
    (if ! rdBit s R.PERF_SNAP_CTRL 31 then s
     else if s.snap.record.isSome then loseCapture s 0
     else if ! ringPlaced s ||
         (! rdBit s R.PERF_SNAP_CTRL 30 && nextSlot s (ringWrite s) == rd s R.PERF_SNAP_READ 17 0) then
       loseCapture s 16
     else
       let bytes := snapRecord s
       forAll ((List.range 40).map (· + 1)) (withSnap s { s.snap with record := some bytes, lost := false })
         (fun t i => writeLine t bytes i)))

/-- A body line of the record is on its way. -/
def bodyOut (s : State) : Bool :=
  s.dp.outst.any (fun o => o.wr == some .snap) || s.dp.wait.any (fun o => (o.wr.map (·.1)) == some WrFor.snap)
/-- SNAPSHOT_RECORD_DONE: every body line has completed; the header line is written and WRITE advances, with event 20 as it
reaches the slot before READ (R556, R557). -/
def execSnapshotRecordDone (s : State) : Host.Outcome State Fault Refusal :=
  .next (onFabric s
    (match s.snap.record with
     | none => s
     | some bytes =>
       if bodyOut s then s
       else
         let t := writeLine s bytes 0
         let w := nextSlot s (ringWrite s)
         let u := setReg (withSnap t { t.snap with record := none, seq := t.snap.seq + 1 }) R.PERF_SNAP_WRITE (BitVec.ofNat 32 w)
         if nextSlot s w = rd s R.PERF_SNAP_READ 17 0 then raiseEv u 20 else u))

end Sys2Proof.Machine
end

