-- ==== Sys2Proof/Machine/Pair.lean ====
section
/-! DEFINITION. The pair (15): resets of slices and banks, the repair of a directory slice and homing changes, beacons,
takeover and recovery, handover, rejoin. -/

namespace Sys2Proof.Machine

def withPair (s : State) (p : Pair) : State := { s with pair := p }

/-! ### Slices and banks in reset (R123, R155) -/

/-- Banks of slice `x` that a list of local banks names hold set `set`. -/
def inBanks (bs : List Nat) (set : Nat) : Bool := bs.contains (setBank set)
/-- Free every way of the banks, with their trackers and wait-store entries, and start the self-test. The granules of each
bank use every predictor entry, so all are cleared (R123, R155; assumption 80). -/
def resetBanks (s : State) (x : Nat) (bs : List Nat) : State :=
  let d := s.dir
  let waysGone (k : Nat) : Bool := k / 131072 == x && inBanks bs (k / 16 % 8192)
  let setsGone (k : Nat) : Bool := k / 8192 == x && inBanks bs (k % 8192)
  let trkGone (k : Nat) : Bool := k / 256 == x && bs.contains (k % 256 / 64)
  let parkGone (q : Nat × Nat) : Bool := q.1 == x && bs.contains (q.2 / 64)
  withDir s { d with
    ways := sDrop d.ways waysGone, plru := sDrop d.plru setsGone, trk := sDrop d.trk trkGone
    waits := d.waits.filter (fun w => ! (w.slice == x && inBanks bs (lineSet w.line)))
    parked := d.parked.filter (fun q => ! parkGone q), wantPark := d.wantPark.filter (fun q => ! parkGone q)
    work := d.work.filter (fun w => ! (w.slice == x && inBanks bs (lineSet w.line)))
    badSets := d.badSets.filter (fun k => ! setsGone k), reclaimed := d.reclaimed.filter (fun k => ! setsGone k)
    pred := sDrop d.pred (fun k => k / 4096 == x)
    testing := d.testing.filter (fun b => ! (b / 4 == x && bs.contains (b % 4))) ++ bs.map (· + 4 * x) }
/-- The reset is refused but for a drained slice for whose lines the partner acts (R123). -/
def mayResetSlice (s : State) (x : Nat) : Bool := sliceDrained s x && slicedAway s x
def hold (s : State) (u : RUnit) : State :=
  { s with dev := { s.dev with held := if s.dev.held.contains u then s.dev.held else s.dev.held ++ [u] } }
/-- The slice's registers, lost set and decay timer as after a reset of block level; FAULT stands until a self-test passes
(R14, R123, R157). -/
def clearSlice (s : State) (x : Nat) : State :=
  let fault := rdBit s (R.DIR_STATUS x) 17
  let t := wrBit (clearRange s (R.DIR_CTRL x) 0x40000 isBlock) (R.DIR_STATUS x) 17 fault
  withDir t { t.dir with
    lost := sDel t.dir.lost x, lostLate := sDel t.dir.lostLate x, decayZero := sPut t.dir.decayZero x 0 (now t) }
def resetSlice (s : State) (x : Fin 32) : State :=
  if mayResetSlice s x then hold (clearSlice (resetBanks s x [0, 1, 2, 3]) x) (.slice x) else s
def resetBank (s : State) (x : Fin 32) (b : Nat) : State :=
  if mayResetSlice s x then hold (resetBanks s x [b]) (.bank (Fin.ofNat 128 (4 * x + b))) else s
/-- SLICE_RESET_DONE: the self-test has ended. On a pass FAULT reads 0, and a repair goes on to its homing return; on a
failure the slice stays handed over and its event is raised (R123, R495). -/
def execSliceResetDone (slice : Fin 32) (pass : Bool) (s : State) : Host.Outcome State Fault Refusal :=
  .next (onFabric s
    (let x := slice.val
     let mine (u : RUnit) : Bool := match u with
       | .slice y => y == slice
       | .bank b => b.val / 4 == x
       | _ => false
     if ! s.dev.held.any mine then s
     else
       let t := withDir { s with dev := { s.dev with held := s.dev.held.filter (fun u => ! mine u) } }
         { s.dir with
           testing := s.dir.testing.filter (fun b => b / 4 != x)
           decayZero := if s.dev.held.contains (.slice slice) then sPut s.dir.decayZero x 0 (now s) else s.dir.decayZero }
       let repairing := sGet t.pair.repair x 0 == 4
       let u := withPair t { t.pair with repair := if repairing then sDel t.pair.repair x else t.pair.repair }
       if pass then
         let v := wrBit u (R.DIR_STATUS x) 17 false
         settleUnits (if repairing then takeBack v x else v)
       else settleUnits (raiseEv u (sliceFaultEv x))))

/-! ### Directory-slice repair and homing changes (R492, R495, R496) -/

/-- DIRECTORY_SLICE_REPAIR: step 1, unless the slice's management parent is in reset (R32). -/
def execDirectorySliceRepair (slice : Fin 32) (s : State) : Host.Outcome State Fault Refusal :=
  .next (onFabric s (if parentDown s (.slice slice) then s else settleUnits (startHandOver s slice false)))

/-- Map the row of a bad set to the lowest free spare row of its bank; none where no spare row remains. -/
def mapRow (s : State) (x set : Nat) : Option State :=
  let b := setBank set
  ((List.range 8).find? (fun i => ! rdBit s (R.DIR_REMAP x b i) 31)).map (fun i =>
    wr (wrBit s (R.DIR_REMAP x b i) 31 true) (R.DIR_REMAP x b i) 10 0 (set % 2048))
def mapRows (s : State) (x : Nat) (l : List Nat) : Option State :=
  l.foldl (fun acc k => acc.bind (fun t => mapRow t x k)) (some s)
/-- HOMING (hand over) at the partner P of R495 step 3: P's shadows of the sender's lines become home entries, and P acts. -/
def takeOverSlice (s : State) (x : Nat) : State :=
  let t := wrBit (markShadows (ackAll s x) x (! s.dev.pid) false) R.TWIN_ACTING x true
  pairSend t (.homingDone (Fin.ofNat 32 x) true)
/-- HOMING. -/
def execHoming (slice : Fin 32) (handOver : Bool) (s : State) : Host.Outcome State Fault Refusal :=
  .next (onFabric s
    (let x := slice.val
     if handOver then settleUnits (takeOverSlice s x)
     else if sliceActing s x && ! s.pair.homing.any (fun h => h.slice == slice) then settleUnits (startReturn s x)
     else s))
/-- HOMING_DONE (hand over) at T: forwarding starts; a repair maps the faulty rows and resets the slice (R495 steps 3 and
4), a fence takes effect. -/
def handedOver (s : State) (x : Fin 32) : State :=
  let n := sGet s.pair.repair x 0
  let t := redirectAll (ackAll (wrBit s R.TWIN_HOMING x true) x) x
  let done := withPair t { t.pair with repair := sDel t.pair.repair x }
  if 4 < n then addFence done (.slice x)
  else
    match mapRows t x ((t.dir.badSets.filter (fun k => k / 8192 == x.val)).map (· % 8192)) with
    | some u => withPair (resetSlice u x) { u.pair with repair := sPut u.pair.repair x 0 4 }
    | none => raiseEv done (sliceFaultEv x)
/-- HOMING_DONE (take back) at the owner O: the end of a homing return (step 4 of R492). -/
def takenBack (s : State) (x : Nat) : State :=
  let t := wrBit (wrBit (wrBit (markShadows s x s.dev.pid false) R.TWIN_HOMING x false) R.TWIN_JRN_STATUS x false) (R.DIR_CTRL x) 0 false
  let u := setJrn t x { getJrn t x with next := 0, acked := 0, batch := [] }
  let v := withPair (withDir u { u.dir with badSets := u.dir.badSets.filter (fun k => k / 8192 != x) })
    { u.pair with repair := sDel u.pair.repair x }
  if pairState v = 1 then sendSync v x else v
/-- Step 3 of R491: the joining twin validates the joined structure once; on failure it stands down. -/
def joinInvalid (s : State) : Bool :=
  pairState s == 1 && s.pair.syncSent.isEmpty && (validateAll s s.banks.live).isSome
/-- HOMING_DONE. -/
def execHomingDone (slice : Fin 32) (handOver : Bool) (s : State) : Host.Outcome State Fault Refusal :=
  .next (onFabric s
    (if handOver then
       (if 2 ≤ sGet s.pair.repair slice 0 then settleUnits (handedOver s slice) else s)
     else if ! slicedAway s slice then s
     else if joinInvalid s then standDown (raiseEv s 13)
     else settleUnits (takenBack s slice)))
/-- SYNC_DONE (R491 step 5). -/
def execSyncDone (slice : Fin 32) (s : State) : Host.Outcome State Fault Refusal :=
  .next (onFabric s
    (if (pairState s == 1 || s.pair.rejoinSource) && ! s.pair.syncGot.contains slice then
       settleUnits (checkSynced (withPair s { s.pair with syncGot := s.pair.syncGot ++ [slice] }))
     else s))
/-- SETRECALL: each coach of the region writes back and drops every line that it holds of that slice and set (R496). -/
def execSetrecall (region : Fin 16) (slice : Fin 32) (set : Fin 8192) (s : State) : Host.Outcome State Fault Refusal :=
  .next (onFabric s (receive s (.setrecall region slice set) (fun t =>
    let hit (c : CLine) : Bool := lineSlice c.line == slice.val && lineSet c.line == set.val
    settleUnits (forAll (coachesOf region) t (fun u k =>
      let ls := ((u.co.cache.filter (fun e => e.1 / 64 == k)).flatMap (·.2)).filter hit
      let keep (e : Nat × List CLine) : Nat × List CLine := if e.1 / 64 = k then (e.1, e.2.filter (fun c => ! hit c)) else e
      let v := withCo u { u.co with cache := (u.co.cache.map keep).filter (fun e => ! e.2.isEmpty) }
      forAll ls v (fun w c => writeBack w k c))))))

/-! ### Takeover (R480 to R485) -/

/-- Agent IDs of the partner. -/
def partnerAgents (s : State) : List Agent := (List.range 384).map (fun a => BitVec.ofNat 10 (a + 512 * (1 - pidNat s)))
/-- An answer to an own agent in place of the partner's home. -/
def standIn (s : State) (f : Fwd) : Hdr :=
  { htwin := ! s.dev.pid, hslice := f.slice, htxn := f.htxn, tgt := f.src, rtag := f.rtag, laddr := f.laddr, fwd := true }
def dropOne (s : State) (f : Fwd) : State := withPair s { s.pair with fwd := s.pair.fwd.erase f }
/-- Free the promoted entry of a line whose write completed (step 2 of R481). -/
def freePromoted (s : State) (l : LAddr) : State :=
  let x := lineSlice l
  match findWay s x l with
  | some w => setEnt s x (lineSet l) w {}
  | none => s
/-- The settlement of one forwarded request (R482). -/
def settleFwd (s : State) (f : Fwd) : State :=
  let again := withPair (dropOne s f) { (dropOne s f).pair with represent := s.pair.represent ++ [f.req] }
  match f.req.kind with
  | .rdShared | .rdOwn | .upgrade | .rdCur => if f.granted then dropOne s f else again
  -- a write whose DataGo has come stays until its device port answers
  | .wrLine | .wrPart | .wbDirty => if f.granted then freePromoted s f.laddr else again
  | .evict => send (dropOne s f) (.cmp (standIn s f) {})
  | .atomicFar => if f.granted then dropOne s f else send (dropOne s f) (.err { standIn s f with status := 3 })
/-- Every entry that mirrors the partner's directory becomes a home entry (step 2 of R481). -/
def promote (s : State) : State :=
  let home (e : Nat × Entry) : Nat × Entry := (e.1, { e.2 with shadow := false })
  withDir s { s.dir with ways := s.dir.ways.map home, reclaimed := [] }
/-- CAUSE of TWIN_TAKEOVER_CAUSE (R480). -/
def takeoverCode (c : TakeoverCause) : Nat :=
  match c with
  | .pathsLost => 1
  | .handoverDone => 2
  | .partnerStoodDown => 3
/-- Steps 1 and 2 of R481 with the records of the takeover; the quiet period begins. -/
def startTakeover (s : State) (c : TakeoverCause) : State :=
  let t := wr64 (wr s R.TWIN_TAKEOVER_CAUSE 31 28 (takeoverCode c)) R.TWIN_TAKEOVER_TIME (now s)
  let u := count t R.TWIN_CNT1 0 .every 13
  -- homing changes end: this twin homes its own lines and the partner's
  let stopped := u.pair.repair.filter (fun e => decide (e.2 ≤ 3))
  let fences := u.pair.repair.filter (fun e => decide (4 < e.2))
  let v0 := forAll fences (forAll (stopped ++ fences) u (fun z e => wrBit z (R.DIR_CTRL e.1) 0 false)) (fun z e =>
    addFence z (.slice (Fin.ofNat 32 e.1)))
  let v := setReg (setReg (withPair v0 { v0.pair with takeoverStep := 3, homing := [], repair := [], syncSent := [], syncGot := [] })
    R.TWIN_ACTING 0xFFFFFFFF) R.TWIN_HOMING 0
  let w := promote (forAll (List.range 32) (twinDown v) ackAll)
  let x := forAll w.pair.fwd w settleFwd
  let y := txnTakeover { x with pool := { x.pool with colourRunning := false, colourMine := true } }
  settleUnits (migTakeover (dropBindAcks y))
/-- Step 4 of R481: the loss of every agent of the partner, each noticed from the services of the region with its agent's number
(assumption 167), of its regions' answers, and the lines that own agents hold for a DataGo that will not come (R482). -/
def quietEnd (s : State) : State :=
  let t := forAll (partnerAgents s) (withPair s { s.pair with takeoverStep := 4 }) (fun u a => noticeLoss u (servicesEp (agentRegion a % 16)) a)
  let far (n : Nat) : Bool := n / 16 == 1 - pidNat s
  let near (k : Tracker) : Tracker := { k with agg := k.agg.filter (fun n => ! far n) }
  let trks := t.dir.trk.map (fun e => (e.1, near e.2))
  let u := withDir t { t.dir with trk := trks }
  let v := forAll (u.dir.trk.map (·.1)) u (fun w k => advance w (k / 256) (k % 256))
  let moved (l : LAddr) : Bool := segHome (bankNow v) (lineSeg l) != v.dev.pid
  let h (rtag : BitVec 10) (l : LAddr) : Hdr := { htwin := ! v.dev.pid, rtag := rtag, laddr := l, epoch0 := some (epochBit v) }
  let mine := v.co.held.filter (fun c => moved c.line)
  let caught := v.hp.reqs.filter (fun r => r.captured && moved r.line)
  let w := withHp (withCo v { v.co with held := v.co.held.filter (fun c => ! moved c.line) })
    { v.hp with reqs := v.hp.reqs.filter (fun r => ! (r.captured && moved r.line)) }
  let x := forAll mine w (fun z c =>
    dpWrite z (portFor z (houseOf c.coach) (lineAddr c.line)) c.line (h c.rtag c.line) c.data fullMask false)
  forAll caught x (fun z r =>
    match r.data with
    | some (d, k, p) =>
      s2m (dpWrite (freeHeld z r) (portFor z (portRegion r.port) (lineAddr r.line)) r.line (h r.rtag r.line) d k p)
        r.port r.hostTag .cmp
    | none => z)
/-- Unprotected shared-coherent segments whose home has moved, rising (R484). -/
def movedSegs (s : State) : List Nat :=
  let b := bankNow s
  (((bSegs b).filter (fun g => segMode b g == 1 && ! segJournal b g && segHome b g != s.dev.pid)).dedup).mergeSort
    (fun x y => decide (x ≤ y))
/-- Step 5 of R481: represented requests enter first, then those that waited; ALONE, the takeover event, recovery (R484). -/
def endTakeover (s : State) : State :=
  let l := s.pair.represent.map (fun r => (⟨lineSlice r.m.laddr, 0, r, 0⟩ : InReq))
  let t := withDir (withPair s { s.pair with
    takeoverStep := 0, represent := [], recovery := movedSegs s, recovered := [], handoverStep := 0 })
    { s.dir with arrived := l ++ s.dir.arrived }
  settleUnits (raiseEv (setPairState t 3) 14)
/-- TAKEOVER for a cause whose condition holds on a PAIRED twin (R480). That the twin link has been out of ACTIVE for 80 µs is
the sender's to know. -/
def execTakeover (cause : TakeoverCause) (s : State) : Host.Outcome State Fault Refusal :=
  .next (onFabric s
    (let holds := match cause with
       | .pathsLost => linkPathLost s && wireLost s && twinState s != 2
       | .handoverDone => false
       | .partnerStoodDown => (s.pair.last.map (·.state)) == some PairState.stoodDown
     if pairState s = 2 && s.pair.takeoverStep == 0 && holds then startTakeover s cause else s))
/-- TAKEOVER_QUIET_END: the quiet period is over (steps 3 and 4 of R481). -/
def execTakeoverQuietEnd (s : State) : Host.Outcome State Fault Refusal :=
  .next (onFabric s (if s.pair.takeoverStep = 3 then settleUnits (quietEnd s) else s))
/-- TAKEOVER_COMPLETE (step 5 of R481). -/
def execTakeoverComplete (s : State) : Host.Outcome State Fault Refusal :=
  .next (onFabric s (if s.pair.takeoverStep = 4 then endTakeover s else s))

/-- RECOVERY_SWEEP_DONE: every line of the segment is recovered: dirty copies of own coaches are written, every other line not
recovered before is poison, and no agent holds a copy (R484). -/
def execRecoverySweepDone (seg : BitVec 16) (s : State) : Host.Outcome State Fault Refusal :=
  .next (onFabric s
    (let g := seg.toNat
     if ! s.pair.recovery.contains g then s
     else
       let done (l : LAddr) : Bool := s.pair.recovered.contains (recKey (lineSlice l) l)
       let hit (c : CLine) : Bool := lineSeg c.line == g && ! done c.line
       let dirty := s.co.cache.flatMap (fun e => (e.2.filter (fun c => hit c && c.dirty)).map (fun c => (e.1 / 64, c)))
       let left := (s.co.cache.map (fun e => (e.1, e.2.filter (fun c => ! hit c)))).filter (fun e => ! e.2.isEmpty)
       let t := withCo (emit s (.poisonFill g)) { s.co with cache := left }
       let u := forAll dirty t (fun v c =>
         dpWrite v (portFor v (houseOf c.1) (lineAddr c.2.line)) c.2.line { htwin := ! v.dev.pid, laddr := c.2.line } c.2.data fullMask false)
       let other (k : Nat) : Bool := lineSeg (BitVec.ofNat 40 (k % 2 ^ 40)) != g
       let w := withPair u { u.pair with
         recovery := u.pair.recovery.filter (· != g), recovered := u.pair.recovered.filter other }
       settleUnits (raiseEv w 13)))

/-! ### Beacons (R463, R465, R467, R489, R490) -/

/-- The pair state by name. -/
def stateName (n : Nat) : PairState :=
  match n with
  | 1 => .joining
  | 2 => .paired
  | 3 => .alone
  | 4 => .stoodDown
  | 5 => .handing
  | _ => .starting
/-- The beacon that this twin sends. -/
def ownBeacon (s : State) : Beacon :=
  ⟨s.dev.pid, stateName (pairState s), s.pair.bseq, regionsUp s, getReg s R.STX_EPOCH, liveWord s R.TWIN_PAIR_TAG⟩
/-- BEACON_SEND: on the twin link and, with WIRE_EN, on the wire. -/
def execBeaconSend (s : State) : Host.Outcome State Fault Refusal :=
  .next (onFabric s
    (let b := ownBeacon s
     let t := if twinState s = 2 then pairSend s (.beacon .link b) else s
     let u := if bitAt (liveWord s R.TWIN_PAIR_CFG) 31 then emit t (.wire b) else t
     withPair u { u.pair with bseq := u.pair.bseq + 1 }))

/-- A path's missed windows and its bit in TWIN_PAIR_STATUS; the pair event on a loss or a regain (R467, R497). -/
def pathBit (p : BeaconPath) : Nat :=
  match p with
  | .link => 27
  | .wire => 26
def setPath (s : State) (p : BeaconPath) (n : Fin 9) : State :=
  let t := withPair s (match p with
    | .link => { s.pair with missLink := n }
    | .wire => { s.pair with missWire := n })
  let up := n != 8
  if rdBit s R.TWIN_PAIR_STATUS (pathBit p) = up then t else raiseEv (wrBit t R.TWIN_PAIR_STATUS (pathBit p) up) 13
/-- The path is in use: the wire only with WIRE_EN. -/
def pathUsed (s : State) (p : BeaconPath) : Bool :=
  match p with
  | .link => true
  | .wire => bitAt (liveWord s R.TWIN_PAIR_CFG) 31
/-- BEACON_WINDOW_MISS (R467). -/
def execBeaconWindowMiss (path : BeaconPath) (s : State) : Host.Outcome State Fault Refusal :=
  .next (onFabric s
    (if ! pathUsed s path then s
     else
       let m := match path with
         | .link => s.pair.missLink
         | .wire => s.pair.missWire
       let t := count s R.TWIN_CNT0 (match path with
         | .link => 0
         | .wire => 16) .once 13
       setPath t path (Fin.ofNat 9 (min 8 (m.val + 1)))))

/-- Progress of start-up shown in RST_BRINGUP. -/
def setStep (s : State) (n : Nat) : State := wr s R.RST_BRINGUP 3 0 n
/-- Leave STARTING for ALONE: this twin acts for every line (R469, R489). -/
def enterAlone (s : State) : State :=
  let t := withPair (setReg (setReg s R.TWIN_ACTING 0xFFFFFFFF) R.TWIN_HOMING 0) { s.pair with looking := false }
  settleUnits (setStep (setPairState t 3) 7)
/-- Leave STARTING for JOINING: the partner acts for every line, and what the source will send takes the place of the pair-wide
fields (R489, R491). -/
def enterJoining (s : State) : State :=
  let keep := (s.banks.live.map (fun p => (p.1, p.2 &&& ~~~ pairWide p.1))).filter (fun p => p.2 != 0)
  let t := withPair { s with banks := { s.banks with live := keep } } { s.pair with
    looking := false, syncSent := [], syncGot := [] }
  setStep (setPairState (setReg (setReg t R.TWIN_ACTING 0) R.TWIN_HOMING 0xFFFFFFFF) 1) 7
/-- A beacon's epoch is later than this twin's, modulo 2^32 (R489). -/
def epochLater (a b : BitVec 32) : Bool := a != b && decide ((a - b).toNat < 2 ^ 31)
/-- What a twin in STARTING does on a good beacon (R489): a partner that has already joined it makes it the source. -/
def startDecision (s : State) (b : Beacon) : State :=
  let mine := getReg s R.STX_EPOCH
  match b.state with
  | .alone | .paired => enterJoining s
  | .starting =>
    if epochLater mine b.epoch || (mine == b.epoch && ! s.dev.pid) then enterAlone s else enterJoining s
  | .joining => enterAlone s
  | _ => s
/-- A good beacon acts by this twin's pair state (R480, R489 to R491). -/
def goodBeacon (s : State) (b : Beacon) : State :=
  match pairState s with
  | 0 => if s.pair.looking && ! s.pair.clash then rejoinTry (startDecision s b) else s
  | 2 => if b.state = .stoodDown ∧ s.pair.takeoverStep = 0 then startTakeover s .partnerStoodDown else s
  | 3 =>
    if b.state = .alone then (if yields s then standDown (raiseEv s 13) else raiseEv s 13) else rejoinTry s
  | _ => s
/-- BEACON: one with an equal identity or another tag holds a starting twin in STARTING (R463). -/
def execBeacon (path : BeaconPath) (b : Beacon) (s : State) : Host.Outcome State Fault Refusal :=
  .next (onFabric s
    (if ! pathUsed s path then s
     else
       let sameId := b.pid == s.dev.pid
       let otherTag := b.pairTag != liveWord s R.TWIN_PAIR_TAG
       if sameId || otherTag then
         let mark (on : Bool) (bit : Nat) (t : State) : State :=
           if ! on || rdBit t R.TWIN_PAIR_STATUS bit then t else raiseEv (wrBit t R.TWIN_PAIR_STATUS bit true) 13
         let t := mark otherTag 24 (mark sameId 25
           (withPair s { s.pair with clash := s.pair.clash || pairState s == 0 }))
         -- the path is lost by missing windows: a beacon with the expected tag ends the run of them (R467)
         if otherTag then t else setPath t path 0
       else
         let out := (List.range 16).filter (fun n => ! b.regions.getLsbD n)
         let t := forAll out (setPath s path 0) (fun u n => regionAnswered u (Fin.ofNat 16 n) b.pid)
         goodBeacon (wr (withPair t { t.pair with last := some b }) R.TWIN_PAIR_STATUS 15 0 b.regions.toNat) b))
/-- JOIN_WAIT_EXPIRY: no partner has been found (R489). -/
def execJoinWaitExpiry (s : State) : Host.Outcome State Fault Refusal :=
  .next (onFabric s (if pairState s = 0 && s.pair.looking && ! s.pair.clash then enterAlone s else s))

/-! ### Explicit handover (R486) -/

/-- Step 1 on the leaving twin: HANDING, HANDOVER, and DRAIN on every slice. -/
def startHandover (s : State) : State :=
  if pairState s ≠ 2 ∨ s.pair.takeoverStep ≠ 0 then s
  else
    let t := pairSend (setPairState (withPair s { s.pair with handoverStep := 1 }) 5) .handover
    settleUnits (forAll (List.range 32) t (fun u x => wrBit u (R.DIR_CTRL x) 0 true))
/-- HANDOVER_WRITE. -/
def execHandoverWrite (s : State) : Host.Outcome State Fault Refusal := .next (onFabric s (startHandover s))
/-- HANDOVER at the staying twin: the leaving twin is HANDING; its requests still end as they do while PAIRED. -/
def execHandover (s : State) : Host.Outcome State Fault Refusal :=
  .next (onFabric s (if pairState s = 2 then withPair s { s.pair with handoverStep := 1 } else s))
/-- Step 2 is done: no transaction is open, no forwarded request outstanding, every record acknowledged. -/
def handoverQuiet (s : State) : Bool :=
  (List.range 32).all (fun x => sliceDrained s x && unackedOf (getJrn s x) == 0) && s.pair.fwd.isEmpty
/-- Steps 3 to 5 on the leaving twin. -/
def leaveTwin (s : State) : State :=
  standDown (pairSend (withPair s { s.pair with handoverStep := 0 }) .handoverDone)
/-- HANDOVER_DONE at the staying twin: it takes over with cause 0x2, without a quiet period (R486). -/
def execHandoverDone (s : State) : Host.Outcome State Fault Refusal :=
  .next (onFabric s
    (if pairState s = 2 && s.pair.takeoverStep == 0 then
       endTakeover (settleUnits (quietEnd (startTakeover s .handoverDone)))
     else s))

end Sys2Proof.Machine
end

