-- ==== Sys2Proof/Machine/Resets.lean ====
section
/-! DEFINITION. Reset sources (17): resets below chip level, the pins and commands that raise them, clocks and supplies, the
one-time-programmable levels. -/

namespace Sys2Proof.Machine

/-! ### Resets below chip level (R519, R520, R528) -/

/-- The unit at level `l` that contains a target of a source (R522): of levels 0 to 2. -/
def widen (u : RUnit) (l : Nat) : RUnit :=
  let region (n : Nat) : RUnit := .region (Fin.ofNat 16 n)
  match u with
  | .cell c => if l = 0 then u else if l = 1 then .portBlock (Fin.ofNat 32 (c / 4)) else region (c / 8)
  | .coach k => if l = 0 then u else if l = 1 then .coachGroup (Fin.ofNat 64 (k / 4)) else region (k / 16)
  | .bank b => if l = 0 then u else if l = 1 then .slice (Fin.ofNat 32 (b / 4)) else region (b / 8)
  | .portBlock b => if l ≤ 1 then u else region (b / 2)
  | .coachGroup g => if l ≤ 1 then u else region (g / 4)
  | .slice x => if l ≤ 1 then u else region (x / 2)
  | _ => u
/-- The event that a reset of the unit raises (R529). -/
def resetEvent (u : RUnit) : Nat :=
  match u with
  | .cell c => linkEv (c / 4)
  | .coach k => coachEv k
  | .bank b => sliceFaultEv (b / 4)
  | .portBlock b => linkEv b
  | .coachGroup g => coachEv (4 * g)
  | .slice x => sliceFaultEv x
  | .region n => regionEv n 0
  | _ => 2
/-- A unit that contains `u` is already in reset (R528). -/
def absorbed (s : State) (u : RUnit) : Bool :=
  s.dev.held.contains u || s.dev.held.contains (widen u 1) || s.dev.held.contains (widen u 2)

/-- Window of port block `b` (R47). -/
def blockBase (b : Nat) : Nat := 0x8000000 + b / 2 * 0x400000 + 0x40000 * (1 + b % 2)

/-- A port cell in reset: its link, its lanes and its functions are as after reset, and it is fenced. -/
def resetCell (s : State) (c : Nat) : State :=
  let t := silence (fenceCell s c) (.cell (Fin.ofNat 128 c))
  let port := portOf t c
  let u := match port with
    | some p => if portRole t p = 1 then conventionalReset t p else t
    | none => t
  let v := { u with fns := { u.fns with cfg := sDrop u.fns.cfg (fun k => decide (some (k / 1024 / 257) = port)) } }
  let w := clearRange v (R.PB_LINK_STATUS (c / 4) (c % 4)) 0x40 isCell
  let x := clearRange w (R.PB_SLOT_CAP (c / 4) (c % 4)) 0x10 isCell
  clearRange x (R.PB_LANE_STATUS (c / 4) (4 * (c % 4))) 0x400 isCell
/-- A port block in reset, with its spare wheel and its cells' protection units. -/
def resetPortBlock (s : State) (b : Nat) : State :=
  let t := forAll (List.range 4) s (fun u i => resetCell u (4 * b + i))
  let u := clearRange { t with links := { t.links with sw := sDel t.links.sw b } } (blockBase b) 0x40000 isBlock
  let v := forAll (List.range 4) u (fun w i => clearRange w (ppuWindow (4 * b + i)) 0x1000 isBlock)
  forAll (List.range 4) v (fun w i => wrBit w (R.PB_CELL_CTRL b i) 0 true)

/-- A coach that a reset above cell level takes out of service: what it runs passes to other coaches or is executed again
(R203, R206), its lines are lost, and after the reset it is in service once unfenced. -/
def takeOutCoach (s : State) (k : Nat) : State :=
  let a := if coachState s k = 0 then noticeLoss s (servicesEp (houseOf k)) (coachAgent s k) else s
  let b := setCoachState a k 3
  let c := withCo b { b.co with
    victims := b.co.victims.filter (fun v => v.1 != k), cache := sDrop b.co.cache (fun i => i / 64 == k), held := b.co.held.filter (fun h => h.coach != k)
    stealing := sDel b.co.stealing k }
  let d := passDeque c k
  let e := forAll (d.co.units.filter (fun y => y.coach == k)) d reExecute
  let f := passDescs e k
  let g := clearRange (withCo f { f.co with reqs := f.co.reqs.filter (fun r => r.coach != k) }) (R.COACH_CTRL k) 0x100 isCell
  addFence (silence g (.coach (Fin.ofNat 256 k))) (.coach (Fin.ofNat 256 k))
/-- Locks of the words from `lo` on, `n` bytes, as the booted image gives them (R335). -/
def imageLocks (s : State) (lo n : Nat) : State :=
  let img := imageBank s (slotBase (bootedSlot s))
  let locks (o : Nat) : Word := accMask o .W1S ||| (if o % 0x1000 = 0xC00 then 0x80000000 else 0)
  let fix (p : Nat × Word) : Nat × Word :=
    if lo ≤ p.1 ∧ p.1 < lo + n then (p.1, (p.2 &&& ~~~ locks p.1) ||| (sGet img p.1 0 &&& locks p.1)) else p
  { s with banks := { s.banks with live := (s.banks.live.map fix).filter (fun p => p.2 != 0) } }
/-- A slice in a reset of its region: its directory and its registers are as after reset, and what waited at it is gone. -/
def emptySlice (s : State) (x : Nat) : State :=
  let t := clearSlice (resetBanks s x [0, 1, 2, 3]) x
  let u := silence t (.slice (Fin.ofNat 32 x))
  withDir (wrBit u (R.DIR_STATUS x) 17 false) { u.dir with
    input := u.dir.input.filter (fun r => r.slice != x), testing := u.dir.testing.filter (fun b => b / 4 != x) }
/-- A region in reset: its blocks, coach house, slices, buffer, tag cache, protection units and registers. -/
def resetRegion (s : State) (n : Nat) : State :=
  let t := fenceRegion s n
  let u := forAll (coachesOf n) (resetPortBlock (resetPortBlock t (2 * n)) (2 * n + 1)) takeOutCoach
  let v := emptySlice (emptySlice u (2 * n)) (2 * n + 1)
  let v := silence v (.region (Fin.ofNat 16 n))
  let w := { v with
    pool := { v.pool with
      tags := sDrop v.pool.tags (fun k => k / 512 == n), tagWaits := v.pool.tagWaits.filter (fun x => x.region.val != n) }
    dp := { v.dp with slots := v.dp.slots }
    dir := { v.dir with aggs := v.dir.aggs.filter (fun a => a.region != n) }
    buf := { v.buf with
      pkts := v.buf.pkts.filter (fun p => p.region != n), lands := v.buf.lands.filter (fun p => p.region != n)
      sweepColour := sDel v.buf.sweepColour n, leaked := v.buf.leaked.filter (fun k => k / 32768 != n) } }
  let x := imageLocks w (guardWindow n) 0x1000
  let y := forAll (List.range 8) x (fun z i => imageLocks z (ppuWindow (8 * n + i)) 0x1000)
  clearRange y (0x8000000 + n * 0x400000) 0x400000 isRegion

/-- Reset a unit below chip level: it is fenced and held until its release, and its event is raised. -/
def resetUnit (s : State) (u : RUnit) : State :=
  if s.dev.fabReset || absorbed s u then s
  else
    let t := match u with
      | .cell c => resetCell s c
      | .coach k => takeOutCoach s k
      | .portBlock b => resetPortBlock s b
      | .coachGroup g => forAll (List.range 4) s (fun v i => takeOutCoach v (4 * g + i))
      | .region n => resetRegion s n
      | _ => s
    settleUnits (raiseEv (hold t u) (resetEvent u))
/-- A source with a target unit asserts at its effective level (R522, R523). -/
def raiseUnit (s : State) (src : Nat) (u : RUnit) (unit : Nat) : State :=
  let l := effLevel s src
  if 3 ≤ l then raiseSource s src unit else adoptLevels (resetUnit s (widen u l)) l

/-- COACH_CTRL.RESET: source 3 with the coach as target (R205). -/
def coachSource (s : State) (k : Fin 256) : State :=
  if coachState s k < 2 ∨ effLevel s 3 = 0 then resetCoach s k else raiseUnit s 3 (.coach k) 0
def execCoachReset (coach : Fin 256) (s : State) : Host.Outcome State Fault Refusal := .next (onFabric s (coachSource s coach))
/-- SLICE_RESET: source 4 with the slice as target (R123). -/
def sliceSource (s : State) (x : Fin 32) : State :=
  if ! mayResetSlice s x ∨ effLevel s 4 ≤ 1 then resetSlice s x else raiseUnit s 4 (.slice x) 0
def execSliceReset (slice : Fin 32) (s : State) : Host.Outcome State Fault Refusal := .next (onFabric s (sliceSource s slice))
/-- BANK_RESET: source 3 with each bank whose bit is a one as target (R123). -/
def bankSource (s : State) (x : Fin 32) (b : Nat) : State :=
  if ! mayResetSlice s x then s
  else
    match effLevel s 3 with
    | 0 => resetBank s x b
    | 1 => resetSlice s x
    | _ => raiseUnit s 3 (.bank (Fin.ofNat 128 (4 * x + b))) 0
def banksSource (s : State) (x : Fin 32) (banks : BitVec 4) : State :=
  forAll ((List.range 4).filter (fun b => banks.getLsbD b)) s (fun t b => bankSource t x b)
def execBankReset (slice : Fin 32) (banks : BitVec 4) (s : State) : Host.Outcome State Fault Refusal :=
  .next (onFabric s (banksSource s slice banks))

/-! ### Commands that request a reset (R521, R522, R525) -/

/-- RST_SW.TARGET names a unit of LEVEL. -/
def swTarget (lvl target : Nat) : Option RUnit :=
  match lvl with
  | 0 => some (.cell (Fin.ofNat 128 target))
  | 1 => if target < 32 then some (.portBlock (Fin.ofNat 32 target)) else none
  | 2 => if target < 16 then some (.region (Fin.ofNat 16 target)) else none
  | 3 => some .chip
  | 4 => some .package
  | _ => none
/-- RST_SW.GO: sources 3 to 7; one of chip or package level on a PAIRED twin waits for the handover (R521). -/
def softReset (s : State) (lvl : BitVec 3) (target : Nat) : State :=
  match swTarget lvl.toNat target with
  | none => s
  | some u =>
    let src := 3 + lvl.toNat
    if effLevel s src < 3 then raiseUnit s src u 0
    else if ! s.dev.fabReset && pairState s == 2 && s.pair.takeoverStep == 0 then
      startHandover { s with dev := { s.dev with swDeferred := some lvl } }
    else raiseSource s src 0
def execRstSw (level : BitVec 3) (target : BitVec 7) (s : State) : Host.Outcome State Fault Refusal :=
  .next (if s.dev.pkgReset then s else softReset s level target.toNat)

/-- RST_TWIN_ORDER.GO: a pulse of TWIN_RST_OUT_N while the partner is stood down or lost (R525). -/
def twinOrder (s : State) : State :=
  if s.dev.keeperRun && (s.pair.last.map (·.state) == some .stoodDown || (linkPathLost s && wireLost s)) then emit s .twinRst
  else s
def execRstTwinOrder (s : State) : Host.Outcome State Fault Refusal := .next (twinOrder s)

/-! ### Pins (R525, R527) -/

/-- Whether the filter honours a low pulse: never below 2 µs, always from 10 µs; between, either (`honour`). -/
def filterPasses (lowNs : Nat) (honour : Bool) : Bool := decide (10000 ≤ lowNs) || (decide (2000 ≤ lowNs) && honour)
/-- RESET_N. -/
def execResetPin (lowNs : Nat) (honour : Bool) (s : State) : Host.Outcome State Fault Refusal :=
  .next
    (if s.dev.pkgReset then s
     else if filterPasses lowNs honour then raiseSource s 1 0
     else count s R.RST_GLITCH_CNT 0 .once 4)
/-- TWIN_RST_IN_N. -/
def execTwinRstIn (lowNs : Nat) (honour : Bool) (s : State) : Host.Outcome State Fault Refusal :=
  .next
    (if s.dev.pkgReset then s
     else if filterPasses lowNs honour then raiseSource s 8 0
     else count s R.RST_GLITCH_CNT 16 .once 4)
/-- Cells of the port whose PORT_PERST_N is `p`. -/
def perstCells (s : State) (p : Nat) : List Nat := (List.range (portCells s p)).map (· + p)
/-- PORT_PERST_ASSERT: source 22 resets each cell of a host port; the pin stands in `dev.perst`. -/
def execPortPerstAssert (port : Fin 128) (s : State) : Host.Outcome State Fault Refusal :=
  .next
    (let t := { s with dev := { s.dev with perst := if s.dev.perst.contains port then s.dev.perst else s.dev.perst ++ [port] } }
     if s.dev.fabReset || portRole s port != 1 || s.dev.perst.contains port then t
     else forAll (perstCells t port) t (fun u c => raiseUnit u 22 (.cell (Fin.ofNat 128 c)) port))
/-- Units that PORT_PERST_N of an asserted port keeps in reset. -/
def perstHolds (s : State) (u : RUnit) : Bool :=
  s.dev.perst.any (fun p => portRole s p == 1 &&
    (perstCells s p).any (fun c => decide (u = widen (.cell (Fin.ofNat 128 c)) (min 1 (effLevel s 22)))))
def letGo (s : State) (p : RUnit → Bool) : State :=
  { s with dev := { s.dev with held := s.dev.held.filter (fun u => ! p u) } }
/-- Fences that waited for a management parent take effect once it has left reset (R32). -/
def heldFences (s : State) : State :=
  let due := s.dev.faultsHeld.filter (fun u => ! parentDown s u)
  let t := { s with dev := { s.dev with faultsHeld := s.dev.faultsHeld.filter (fun u => parentDown s u) } }
  if due.isEmpty then s else settleUnits (forAll due t fenceUnit)
/-- PORT_PERST_DEASSERT: the cells are released and unfenced, and the port trains (R520). -/
def execPortPerstDeassert (port : Fin 128) (s : State) : Host.Outcome State Fault Refusal :=
  .next
    (let t := { s with dev := { s.dev with perst := s.dev.perst.erase port } }
     if s.dev.fabReset || portRole s port != 1 || ! s.dev.perst.contains port then t
     else
       let cs := perstCells t port
       let mine (u : RUnit) : Bool := cs.any (fun c => decide (u = widen (.cell (Fin.ofNat 128 c)) (min 1 (effLevel s 22))))
       let u := letGo t mine
       if cs.any (fun c => ! u.dev.held.contains (.cell (Fin.ofNat 128 c)) && ! absorbed u (.cell (Fin.ofNat 128 c))) then
         settleUnits (heldFences (forAll cs u unfenceCell))
       else u)

/-! ### Faults (R26, R293, R522, R524) -/

/-- A fault that reaches chip level: the handover first where the twin is PAIRED, then its source (R26). While the keeper cores
restart it waits (R33). -/
def chipFault (s : State) (src : Nat) : State :=
  if s.dev.fabReset then s
  else if ! s.dev.keeperRun then { s with dev := { s.dev with faultDeferred := some src } }
  else if (pairState s == 2 || pairState s == 5) && s.pair.takeoverStep == 0 then
    startHandover { s with dev := { s.dev with faultDeferred := some src } }
  else raiseSource s src 0
/-- ROUTER_PARITY_ERROR: the router is out of service, and the fault passes to chip level (R293). -/
def execRouterParityError (router : Fin 18) (s : State) : Host.Outcome State Fault Refusal :=
  .next (onFabric s
    (let out := if s.dev.routersOut.contains router.val then s.dev.routersOut else s.dev.routersOut ++ [router.val]
     chipFault (routerParity { s with dev := { s.dev with routersOut := out } } router) 17))
/-- Source of a state-element error (R522). -/
def paritySource (p : ParitySource) : Nat :=
  match p with
  | .rstc => 11
  | .clkc => 12
  | .fuse => 13
  | .epoch => 14
  | .segmap => 15
  | .route => 16
/-- STATE_PARITY_ERROR. -/
def execStateParityError (p : ParitySource) (s : State) : Host.Outcome State Fault Refusal :=
  .next (raiseSource s (paritySource p) 0)
/-- DEBUG_RESET. -/
def execDebugReset (s : State) : Host.Outcome State Fault Refusal := .next (raiseSource s 23 0)
/-- KEEPER_WATCHDOG_RESTART: 250 ms without service restart the keeper cores alone (R524, R33, R451). -/
def execKeeperWatchdogRestart (s : State) : Host.Outcome State Fault Refusal :=
  .next
    (if ! s.dev.keeperRun then s
     else
       let t := raiseEv (txnKeeperRestart s) 65
       { t with dev := { t.dev with keeperRun := false, wdRestarted := true } })
/-- KEEPER_WATCHDOG_RESET: the restarted cores have not serviced the watchdog within 1 s (R524). -/
def execKeeperWatchdogReset (s : State) : Host.Outcome State Fault Refusal :=
  .next (if s.dev.wdRestarted then raiseSource s 2 0 else s)

/-! ### Clocks (R40, R41) -/

/-- A clock loss: the clocks stop, chip-level reset is held until the clock is back, LOSSES counts with event 3. -/
def clockLoss (s : State) : State :=
  let t := count s R.RST_CLK_LOSS_CNT 0 .every 3
  raiseSource { t with dev := { t.dev with clkBad := true } } 10 0
/-- REFCLK_LOSS. -/
def execRefclkLoss (s : State) : Host.Outcome State Fault Refusal :=
  .next (if s.dev.pkgReset then { s with dev := { s.dev with clkBad := true } } else
    wr (clockLoss s) R.RST_CLK_STATUS 3 0 0)
/-- ROOT_PLL_LOCK_LOSS: while REFCLK is present. -/
def execRootPllLockLoss (s : State) : Host.Outcome State Fault Refusal :=
  .next (if s.dev.fabReset then s else wr (clockLoss s) R.RST_CLK_STATUS 3 0 5)
/-- FAB_PWR_EN rises at start-up step 2 with REFCLK present (R531). -/
def enableFabric (s : State) : State :=
  if rd s R.RST_BRINGUP 3 0 = 2 ∧ s.dev.clkBad = false then wrBit s R.RST_SUP_STATUS 28 true else s

/-! ### Supplies (R531, R532) -/

/-- The keeper removes fabric power. -/
def fabricOff (s : State) : State := wr s R.RST_SUP_STATUS 29 28 0
/-- FABRIC_SUPPLY_FAULT. -/
def execFabricSupplyFault (s : State) : Host.Outcome State Fault Refusal :=
  .next
    (if rdBit s R.RST_SUP_STATUS 28 && ! s.dev.pkgReset then fabricOff (raiseSource s 19 0) else s)
/-- KEEPER_SUPPLY_FAULT. -/
def execKeeperSupplyFault (s : State) : Host.Outcome State Fault Refusal := .next (raiseSource s 20 0)
/-- THERMAL: a sensor's reading; from 115 °C on, source 21, and the fabric die loses its power (R531, R575). -/
def execThermal (region : Fin 16) (degrees : BitVec 8) (s : State) : Host.Outcome State Fault Refusal :=
  .next (onFabric s
    (if 115 ≤ degrees.toNat then fabricOff (raiseSource s 21 0)
     else wr (wr s R.RST_TEMP 7 0 degrees.toNat) R.RST_TEMP 11 8 region))
/-- SUPPLY_TROUBLE_START: V3P3_AUX is below 3.05 V or PFAIL_N asserted; the entry raises event 64 (R532, R537). -/
def execSupplyTroubleStart (auxMv : BitVec 16) (pfail : Bool) (s : State) : Host.Outcome State Fault Refusal :=
  .next
    (let t := wrBit (wr s R.RST_SUP_STATUS 15 0 auxMv.toNat) R.RST_SUP_STATUS 30 pfail
     if supplyTrouble s || ! (decide (auxMv.toNat < 3050) || pfail) then t
     else raiseEv (count (wrBit t R.RST_SUP_STATUS 31 true) R.RST_SUP_CNT 0 .once 64) 64)
/-- SUPPLY_TROUBLE_END: at or above 3.15 V with PFAIL_N deasserted for 10 ms; the deferred cause and journal writes are
made (R532, R547). -/
def execSupplyTroubleEnd (auxMv : BitVec 16) (s : State) : Host.Outcome State Fault Refusal :=
  .next
    (if ! supplyTrouble s || decide (auxMv.toNat < 3150) then s
     else
       let t := wr (wr s R.RST_SUP_STATUS 31 30 0) R.RST_SUP_STATUS 15 0 auxMv.toNat
       let u := if s.dev.causeDeferred then
           storeWrite { t with dev := { t.dev with causeDeferred := false } } causeBase
             (causeRecord (getReg t R.RST_RESET_CAUSE &&& 0xFFFF0000))
         else t
       if rdBit u R.EVT_PERSIST_STATUS 30 then journalStart u else u)

/-! ### One-time-programmable levels (R523) -/

/-- RST_OTP_PROGRAM: the write is accepted, or refused with its code. -/
def otpProgram (s : State) (src lvl : Nat) : State :=
  let t := wr (wr s R.RST_OTP_CTRL 12 8 src) R.RST_OTP_CTRL 2 0 lvl
  if rdBit s R.RST_OTP_CTRL 30 then s
  else if 24 ≤ src ∨ 4 < lvl ∨ lvl ≤ factoryDefault src then wr t R.RST_OTP_CTRL 23 16 2
  else if (sFind s.dev.otp src).isSome then wr t R.RST_OTP_CTRL 23 16 1
  else if supplyTrouble s then nvDeferred (wr t R.RST_OTP_CTRL 23 16 3)
  else wrBit t R.RST_OTP_CTRL 30 true
def execRstOtpProgram (source : BitVec 5) (level : BitVec 3) (s : State) : Host.Outcome State Fault Refusal :=
  .next (if s.dev.pkgReset then s else otpProgram s source.toNat level.toNat)
/-- RST_OTP_DONE: BUSY clears; a failed program leaves the entry as it was. -/
def execRstOtpDone (ok : Bool) (s : State) : Host.Outcome State Fault Refusal :=
  .next
    (if ! rdBit s R.RST_OTP_CTRL 30 then s
     else
       let t := wr (wrBit s R.RST_OTP_CTRL 30 false) R.RST_OTP_CTRL 23 16 (if ok then 0 else 4)
       let l := BitVec.ofNat 3 (rd s R.RST_OTP_CTRL 2 0)
       if ok then { t with dev := { t.dev with otp := sPut t.dev.otp (rd s R.RST_OTP_CTRL 12 8) 7 l } } else t)

/-- HANDOVER_DRAINED: step 2 of R486 is done on the leaving twin. -/
def execHandoverDrained (s : State) : Host.Outcome State Fault Refusal :=
  .next (onFabric s (if pairState s = 5 && handoverQuiet s then leaveTwin s else s))

end Sys2Proof.Machine
end

