-- ==== Sys2Proof/Machine/Startup.lean ====
section
/-! DEFINITION. Start-up (17): the release of resets, keeper boot and boot selection, region self-test, structure load, fabric
ready (R434 to R445, R526, R531, R534 to R536). -/

namespace Sys2Proof.Machine

/-! ### Release (R526, R528, R536) -/

/-- Package-level reset releases: the pins are sampled, the fuse map is loaded, and the keeper may boot while the fabric die
stays in chip-level reset (R21, R462, R526, R571). -/
def packageRelease (s : State) (pid spi : Bool) : State :=
  let t := { s with dev := { s.dev with
    pkgReset := false, held := [.chip], otpShadow := s.dev.otp, pid := pid, spiMode := spi } }
  setStep (wr t R.RST_CLK_STATUS 3 0 (if s.dev.clkBad then 0 else 5)) 1
/-- The keeper stops after a third start-up that failed (R536). -/
def stopKeeper (s : State) : State :=
  raiseEv (wrBit { s with dev := { s.dev with stopDue := false, stuck := true } } R.RST_BRINGUP 30 true) 1
/-- The fabric die has its power, its clock and an image (R21, R40, R531). -/
def mayRelease (s : State) : Bool :=
  rd s R.RST_BRINGUP 3 0 == 2 && rd s R.RST_SUP_STATUS 29 28 == 3 && ! s.dev.clkBad && ! s.dev.pkgReset
/-- Chip-level reset releases: the dividers are aligned and RST_TIME counts from 0. -/
def chipRelease (s : State) : State :=
  let t := { s with dev := { s.dev with fabReset := false, held := [] } }
  setStep (wr64 (wr t R.RST_CLK_STATUS 3 0 15) R.RST_TIME 0) 3
/-- Units below chip level that a release lets go: those whose release is no self-test and no pin's. -/
def mayLetGo (s : State) (u : RUnit) : Bool :=
  match u with
  | .cell _ | .portBlock _ => ! perstHolds s u
  | .coachGroup _ | .region _ => true
  | _ => false
/-- RESET_RELEASE: the widest reset held is released; units stay fenced (R520). -/
def execResetRelease (s : State) : Host.Outcome State Fault Refusal :=
  .next
    (if s.dev.pkgReset then packageRelease s s.dev.pid s.dev.spiMode
     else if s.dev.fabReset then
       (if s.dev.stopDue then stopKeeper s else if mayRelease s then chipRelease s else s)
     else heldFences (letGo s (mayLetGo s)))
/-- POWER_ON_RELEASE: source 0 (R531). -/
def execPowerOnRelease (pairIdHigh storeSpiLow : Bool) (s : State) : Host.Outcome State Fault Refusal :=
  .next (if s.dev.pkgReset then recordCause (packageRelease (loadStored s) pairIdHigh storeSpiLow) 0 4 0 else s)
/-- REFCLK_RESTORED: the clock is back, and the fabric die is released where nothing else holds it (R40). -/
def execRefclkRestored (s : State) : Host.Outcome State Fault Refusal :=
  .next
    (if ! s.dev.clkBad then s
     else
       let t := { s with dev := { s.dev with clkBad := false } }
       if t.dev.pkgReset then t
       else
         let u := enableFabric (wr t R.RST_CLK_STATUS 3 0 5)
         if u.dev.fabReset && ! u.dev.stopDue && mayRelease u then chipRelease u else u)
/-- FABRIC_POWER_GOOD: FAB_PG while FAB_PWR_EN is high (R531). -/
def execFabricPowerGood (s : State) : Host.Outcome State Fault Refusal :=
  .next (if rdBit s R.RST_SUP_STATUS 28 then wrBit s R.RST_SUP_STATUS 29 true else s)

/-! ### Keeper boot (R442 to R444, R534) -/

/-- The slot to boot: valid, not failed since the last package-level reset, the higher SEQUENCE, slot A when equal. -/
def chooseSlot (s : State) : Option Bool :=
  let a := imageValid s (slotBase false) && ! s.dev.failedA
  let b := imageValid s (slotBase true) && ! s.dev.failedB
  if a && b then some (decide (imageSeq s (slotBase false) < imageSeq s (slotBase true)))
  else if a then some false
  else if b then some true
  else none
/-- STX_IMG_STATUS and STX_IMG_SEQ of the booted slot. -/
def imageStatus (s : State) (slot : Bool) : State :=
  let base := slotBase slot
  let other := if slot then s.dev.failedA else s.dev.failedB
  let svn := (Config.envelopeSvn (envelopeAt s base)).toNat
  let w := slot.toNat * 2 ^ 31 + other.toNat * 2 ^ 30 + (imageValid s (slotBase false)).toNat * 2 ^ 29 +
    (imageValid s (slotBase true)).toNat * 2 ^ 28 + (storeByte s (base + 0x1F)).toNat % 4 * 2 ^ 26 + svn
  wr64 (setReg s R.STX_IMG_STATUS (BitVec.ofNat 32 w)) R.STX_IMG_SEQ (BitVec.ofNat 64 (imageSeq s base))
/-- The keeper cores run again. -/
def keeperUp (s : State) : State :=
  let t := heldFences { s with dev := { s.dev with keeperRun := true, wdRestarted := false } }
  match t.dev.faultDeferred with
  | some src => if pairState t = 5 then t else chipFault { t with dev := { t.dev with faultDeferred := none } } src
  | none => t
/-- KEEPER_BOOT: after a restart of the cores alone the firmware runs again; at start-up step 1 an image is chosen, or the
fabric die stays in reset (R444). -/
def execKeeperBoot (s : State) : Host.Outcome State Fault Refusal :=
  .next
    (if s.dev.pkgReset || s.dev.spiMode then s
     else if ! s.dev.fabReset then (if s.dev.keeperRun then s else keeperUp s)
     else if s.dev.stuck || s.dev.stopDue || rd s R.RST_BRINGUP 3 0 != 1 then s
     else
       match chooseSlot s with
       | none =>
         let w := (imageValid s (slotBase false)).toNat * 2 ^ 29 + (imageValid s (slotBase true)).toNat * 2 ^ 28
         setReg { s with dev := { s.dev with stuck := true } } R.STX_IMG_STATUS (BitVec.ofNat 32 w)
       | some slot =>
         let t := imageStatus s slot
         enableFabric (setStep { t with dev := { t.dev with keeperRun := true, wdRestarted := false } } 2))

/-! ### Self-test and structure load (R433, R443, R534) -/

/-- A region that fails its self-test stays fenced. -/
def failRegion (s : State) (n : Nat) : State :=
  let t := forAll (List.range 8) (addFence s (.region (Fin.ofNat 16 n))) (fun u i =>
    wrBit u (R.PB_CELL_CTRL ((8 * n + i) / 4) (i % 4)) 0 true)
  let u := forAll (coachesOf n) t (fun v k => addFence v (.coach (Fin.ofNat 256 k)))
  raiseEv (addFence (addFence u (.slice (Fin.ofNat 32 (2 * n)))) (.slice (Fin.ofNat 32 (2 * n + 1)))) (regionEv n 0)
/-- REGION_SELF_TEST_DONE. -/
def execRegionSelfTestDone (failed : BitVec 16) (chipUnitFailed : Bool) (s : State) : Host.Outcome State Fault Refusal :=
  .next (onFabric s
    (if rd s R.RST_BRINGUP 3 0 != 3 then s
     else if chipUnitFailed then raiseSource s 18 0
     else setStep (forAll ((List.range 16).filter (fun n => failed.getLsbD n)) s failRegion) 4))

/-- The bank after structure load: what the image gives; fabric-guard words that a commit has locked keep their values until
a package-level reset (R335, R433). -/
def loadedBank (s : State) (base : Nat) : SMap Word :=
  if s.dev.afterPackage then imageBank s base
  else
    let kept := s.banks.live.filter (fun p => decide (p.1 / 0x1000 = 4) && isLocked s p.1)
    let locked (o : Nat) : Bool := decide (o / 0x1000 = 4) && isLocked s o
    kept.foldl (fun (b : SMap Word) p => sPut b p.1 0 p.2) (sDrop (imageBank s base) locked)
/-- The image loads: it is valid, and its routes stand with every router in service (R443, R581). -/
def imageLoads (s : State) (base : Nat) : Bool :=
  let whole := { s with dev := { s.dev with fenced := [], held := [], routersOut := [] } }
  imageValid s base && (checkRoute whole (imageBank s base)).isNone
/-- PERST holds the slot of port `p`. -/
def slotHeld (s : State) (p : Nat) : Bool := (portSlot s p).any (fun i => rdBit s (R.SLOT_STATUS i) 24)
/-- A host port whose PORT_PERST_N is asserted: its cells are held in reset. -/
def holdPerst (s : State) (p : Nat) : State :=
  forAll (perstCells s p) s (fun u c => hold (wrBit u (R.PB_CELL_CTRL (c / 4) (c % 4)) 0 true) (.cell (Fin.ofNat 128 c)))
/-- A port that may train goes to TRAINING. -/
def startTraining (s : State) (l : LinkId) : State := if mayTrain s l = true then wr s (linkReg l 0) 31 29 1 else s
/-- After structure load a port trains: a host port whose PORT_PERST_N is deasserted, a device port whose slot is out of
reset; a host port in reset is held (R534). -/
def startPort (s : State) (p : Nat) : State :=
  match portRole s p with
  | 0 => s
  | 1 =>
    if s.dev.perst.contains (Fin.ofNat 128 p) = true then holdPerst (conventionalReset s p) p
    else startTraining (conventionalReset s p) (.port (Fin.ofNat 128 p))
  | _ => if slotHeld s p = true then s else startTraining s (.port (Fin.ofNat 128 p))
/-- Everything that follows the bank's load. -/
def afterLoad (s : State) : State :=
  let t := forAll (List.range 128) (slotSettle s) startPort
  let u := wr t (linkReg .twin 0) 31 29 1
  let v := if u.dev.afterPackage then journalRestore u else u
  let w := if v.dev.causeEvent then raiseEv { v with dev := { v.dev with causeEvent := false } } 2 else v
  setStep (withPair { w with dev := { w.dev with afterPackage := false } } { w.pair with looking := true }) 5
/-- STRUCTURE_LOAD: every structural field takes the booted image's value, and STX_EPOCH its EPOCH (R433, R445); a failure is
source 9 (R443). -/
def execStructureLoad (s : State) : Host.Outcome State Fault Refusal :=
  .next (onFabric s
    (if rd s R.RST_BRINGUP 3 0 != 4 then s
     else
       let slot := bootedSlot s
       let base := slotBase slot
       if imageLoads s base then
         let t := { s with banks := ⟨loadedBank s base, [], []⟩ }
         let u := setReg t R.STX_EPOCH (BitVec.ofNat 32 (imageEpoch s base))
         let v := adoptLevels u (if s.dev.afterPackage then 4 else 3)
         settleUnits (afterLoad v)
       else
         raiseSource { s with dev := { s.dev with
           failedA := s.dev.failedA || ! slot, failedB := s.dev.failedB || slot } } 9 0))

/-! ### Fabric ready (R534, R535) -/

/-- Offers of the live structure: Add Capacity records for every offered segment of a host port (R70, R535). -/
def offerAll (s : State) (p : Nat) : State :=
  let words := s.banks.live.filter (fun q => decide (R.SEG_BIND p 0 ≤ q.1) && decide (q.1 < R.SEG_BIND p 0 + 0x4000))
  let segs := words.flatMap (fun q =>
    ((List.range 16).filter (fun i => fld q.2 (2 * i + 1) (2 * i) == 1)).map (fun i => (q.1 - R.SEG_BIND p 0) / 4 * 16 + i))
  offerRuns s p (segs.filter (fun g => ! s.pool.colourInit.contains g))
/-- FABRIC_READY: the twin is PAIRED or ALONE (step 10). -/
def execFabricReady (s : State) : Host.Outcome State Fault Refusal :=
  .next (onFabric s
    (if (pairState s == 2 || pairState s == 3) && ! rdBit s R.RST_BRINGUP 31 then
       let t := wr (setStep (wrBit s R.RST_BRINGUP 31 true) 10) R.RST_BRINGUP 25 24 0
       raiseEv (forAll (List.range 128) t offerAll) 0
     else s))
/-- DEVICE_PORT_TRAIN_TIMEOUT: the port event; the port keeps training (R534). -/
def execDevicePortTrainTimeout (port : Fin 128) (s : State) : Host.Outcome State Fault Refusal :=
  .next (onFabric s (if portRole s port == 2 && ! linkActive s port then raiseEv s (linkEv (port / 4)) else s))

end Sys2Proof.Machine
end

