-- ==== Sys2Proof/Machine/RegRead.lean ====
section
/-! DEFINITION. Reads of the management space: fields that the device computes, write-only and reserved fields, and the
captured words of wide registers (R8 to R10, R13). -/

namespace Sys2Proof.Machine

/-! ### Windows of the map (R46, R47, R214) -/

/-- Region and offset in its window. -/
def regionOff (off : Nat) : Nat × Nat := ((off - 0x8000000) / 0x400000, (off - 0x8000000) % 0x400000)
def inRegions (off : Nat) : Bool := decide (0x8000000 ≤ off) && decide (off < 0xC000000)
/-- Port block 2n or 2n + 1 and the offset in it, from a region and the offset in its window. -/
def blockOff (n r : Nat) : Nat × Nat := (2 * n + (r / 0x40000 - 1), r % 0x40000)
/-- Directory slice and the offset in it. -/
def sliceOff (n r : Nat) : Nat × Nat := (2 * n + (r / 0x40000 - 6), r % 0x40000)
/-- Coach and the offset in its window, `h` being the house offset. -/
def coachOff (n h : Nat) : Nat × Nat := (16 * n + (h - 0x1000) / 0x100, h % 0x100)
/-- Channel context and the offset in it. -/
def ctxOff (n h : Nat) : Nat × Nat := (4096 * n + (h - 0x40000) / 0x20, h % 0x20)
/-- Word `i` of the image buffer STX_IMG_BUF (R533). -/
def imgBufWord (off : Nat) : Option Nat :=
  if 0x2010000 ≤ off ∧ off < 0x2020000 ∧ off % 4 = 0 then some ((off - 0x2010000) / 4) else none

/-! ### Fields that the device computes -/

/-- RST_SRC_MAP of source `src`: an entry that is not programmed, or not valid, shows as held (R523). -/
def srcMapWord (s : State) (src : Nat) : Word :=
  BitVec.ofNat 32 (effLevel s src * 2 ^ 25 + fld (liveWord s (R.RST_SRC_MAP src)) 24 22 * 2 ^ 22 +
    (sGet s.dev.otpShadow src 7).toNat * 2 ^ 19 + factoryCeiling src * 2 ^ 16 + factoryDefault src)
/-- DIR_STATUS: FAULT is held; DRAINED and OPEN follow the trackers. -/
def dirStatus (s : State) (x : Nat) : Word :=
  BitVec.ofNat 32 ((rdBit s (R.DIR_STATUS x) 17).toNat * 2 ^ 17 + (sliceDrained s x).toNat * 2 ^ 16 + openTrks s x)
/-- DIR_WAIT_STATUS: PARKED and WAITING. -/
def dirWaitStatus (s : State) (x : Nat) : Word :=
  BitVec.ofNat 32 ((s.dir.parked.filter (fun p => p.1 == x)).length * 2 ^ 16 +
    (s.dir.waits.filter (fun w => w.slice == x)).length)
/-- COACH_STATUS: LINES, OUTSTANDING, DEQUE, PIPE1, PIPE0; STATE is held. -/
def coachStatus (s : State) (k : Nat) : Word :=
  let lines := ((s.co.cache.filter (fun e => e.1 / 64 == k)).map (fun e => e.2.length)).foldl (· + ·) 0
  let out := (s.co.reqs.filter (fun r => r.coach == k && ! r.ended)).length
  let deque := min 15 (s.co.ranges.filter (fun r => r.coach == some k)).length
  BitVec.ofNat 32 (lines * 2 ^ 16 + out * 2 ^ 8 + deque * 2 ^ 4 + (unitAt s k 1).isSome.toNat * 8 +
    (unitAt s k 0).isSome.toNat * 4 + coachState s k)
/-- A mask of the house's coaches for which `f` holds. -/
def coachBits (n : Nat) (f : Nat → Bool) : Nat :=
  ((List.range 16).map (fun j => if f (16 * n + j) then 2 ^ j else 0)).foldl (· + ·) 0
/-- COACH_HOUSE_STATUS: MIGRATING and RETIRED. -/
def houseStatus (s : State) (n : Nat) : Word :=
  BitVec.ofNat 32 (coachBits n (migrating s) * 2 ^ 16 + coachBits n (fun k => decide (2 ≤ coachState s k)))
/-- Word 0 or 1 of XBAR_METER_TOKENS: whole bytes in Tc and Tp. -/
def meterTokens (s : State) (n i : Nat) (high : Bool) : Word :=
  let r := meterProfile s n i
  let b := meterPair s n i
  BitVec.ofNat 32 ((if high then tokensP s r b else tokensC s r b) / 4096)
/-- PB_SLOT_CAP: HPC, PIP, AIP, PCP and ABP read zero on a port that no channel serves (R501). -/
def slotCapWord (s : State) (p : Nat) (w : Word) : Word := if (portSlot s p).isSome then w else w &&& ~~~ 0x5B
/-- PB_SLOT_CTRL with PDS. -/
def slotCtrlWord (s : State) (p : Nat) (w : Word) : Word :=
  if (portSlot s p).any (slotInserted s) then w ||| 0x400000 else w
/-- TWIN_SWEEP_STATUS. -/
def sweepStatus (s : State) : Word :=
  BitVec.ofNat 32 (s.pair.recovery.length % 2 ^ 16 + (! s.pair.recovery.isEmpty).toNat * 2 ^ 31)

/-- The word lies in a lane's registers (R46, R342). -/
def isLane (off : Nat) : Bool :=
  (inRegions off && ((regionOff off).2 / 0x40000 == 1 || (regionOff off).2 / 0x40000 == 2) &&
      decide (0x1000 ≤ (regionOff off).2 % 0x40000) && decide ((regionOff off).2 % 0x40000 < 0x2100)) ||
    (decide (0xE001000 ≤ off) && decide (off < 0xE002200))
/-- What a lane measures, as some value: MARGIN of a locked lane; VGA, and DFE1 of a lane that adapts, once it has trained
(R355). -/
def laneView (s : State) (off : Nat) (w : Word) : Word :=
  let f := (freeVal s).extractLsb' 0 32
  match off % 0x100 with
  | 0 => if bitAt w 31 then w ||| (f &&& 0xFF) else w
  | 8 =>
    match fld (getReg s off) 1 0 with
    | 0 => w
    | 1 => w ||| (f &&& 0x07F00000)
    | _ => w ||| (f &&& 0x07FFF000)
  | _ => w
/-- A word of a region's window. -/
def viewRegion (s : State) (n r : Nat) (w : Word) : Word :=
  match r / 0x40000 with
  | 1 | 2 =>
    let b := (blockOff n r).1
    let k := (blockOff n r).2
    if 0x400 ≤ k ∧ k < 0x440 ∧ k % 16 = 0 then slotCapWord s (4 * b + (k - 0x400) / 16) w
    else if 0x400 ≤ k ∧ k < 0x440 ∧ k % 16 = 4 then slotCtrlWord s (4 * b + (k - 0x400) / 16) w
    else w
  | 4 | 5 =>
    let h := r - 0x100000
    if h = 4 then houseStatus s n
    else if 0x100 ≤ h ∧ h < 0x180 then
      let v := BitVec.ofNat 64 (slotBits (migSlot s n ((h - 0x100) / 8)))
      if h % 8 = 0 then v.extractLsb' 0 32 else v.extractLsb' 32 32
    else if 0x1000 ≤ h ∧ h < 0x2000 ∧ h % 0x100 = 4 then coachStatus s (coachOff n h).1
    else if 0x40000 ≤ h ∧ h < 0x60000 then ctxWord s (ctxOff n h).1 ((ctxOff n h).2 / 4) false
    else w
  | 6 | 7 =>
    let x := (sliceOff n r).1
    match (sliceOff n r).2 with
    | 4 => dirStatus s x
    | 0x24 => dirWaitStatus s x
    | _ => w
  | _ => w

/-- The word that a read of a register word shows: what is held, without write-only and reserved fields, and what the
device computes. `w` is the word so masked. -/
def viewWord (s : State) (off : Nat) (w : Word) : Word :=
  if isLane off then laneView s off w
  else if inRegions off then viewRegion s (regionOff off).1 (regionOff off).2 w
  else if off = R.RST_CHIP_ID then chipId
  else if off = R.RST_CHIP_SERIAL then Config.serial.extractLsb' 0 32
  else if off = R.RST_CHIP_SERIAL + 4 then Config.serial.extractLsb' 32 32
  else if off = R.RST_TIME ∨ off = R.RST_TIME + 4 then (if s.dev.fabReset then 0 else w)
  else if off = R.RST_TEMP then
    ((if s.dev.fabReset then 0 else w &&& 0xFFF) ||| ((freeVal s).extractLsb' 0 32 &&& 0xFF0000))
  else if R.RST_SRC_MAP 0 ≤ off ∧ off < R.RST_SRC_MAP 24 then srcMapWord s ((off - R.RST_SRC_MAP 0) / 4)
  else if R.SLOT_MEAS 0 ≤ off ∧ off ≤ R.SLOT_MEAS 31 ∧ off % 0x100 = 0x24 then (freeVal s).extractLsb' 0 32
  else if R.STX_TENANT_STAT 0 ≤ off ∧ off < R.STX_TENANT_STAT 4096 then tenantStat s ((off - R.STX_TENANT_STAT 0) / 4)
  else if R.XBAR_METER_TOKENS 0 0 ≤ off ∧ off < 0xC060000 ∧ 8 ≤ off % 16 then
    meterTokens s ((off - 0xC020000) / 0x4000) ((off - 0xC020000) % 0x4000 / 16) (decide (off % 16 = 12))
  else if off = R.TWIN_PAIR_STATUS then (w &&& 0x7FFFFFFF) ||| (if s.dev.pid then 0x80000000 else 0)
  else if off = R.TWIN_SWEEP_STATUS then sweepStatus s
  else w ||| shareForced off

/-- The bits of word `i` of a register that a read returns (R9, R13). -/
def readMask (r : RegRow) (i : Nat) : Word := orFields r.fields i (fun f => decide (f.acc ≠ .WO))
/-- The value of word `i` of register `r`, at `off`, as a read finds it. -/
def wordNow (s : State) (r : RegRow) (i off : Nat) : Word := viewWord s off (rdWord s off &&& readMask r i)
/-- Registers that show a measurement: each read takes a new free value (KEEPER_C, slot and lane measurements). -/
def measured (off : Nat) : Bool :=
  (isLane off && (off % 0x100 == 0 || off % 0x100 == 8)) ||
  decide (off = R.RST_TEMP) || (decide (R.SLOT_MEAS 0 ≤ off) && decide (off ≤ R.SLOT_MEAS 31) && decide (off % 0x100 = 0x24))
/-- Capture words 1 to `n` of the register whose word 0 is at `off` (R8). -/
def captureWords (s : State) (r : RegRow) (off n : Nat) : State :=
  let put (c : SMap Word) (i : Nat) : SMap Word := sPut c (off + 4 * (i + 1)) 0 (wordNow s r (i + 1) (off + 4 * (i + 1)))
  { s with cap := (List.range n).foldl put s.cap }
/-- A read of the management space: the state after it and the word read. A read of a register's lowest word captures the
others, and a read of a higher word returns what was captured (R8); an offset that holds no register reads zero (R10). -/
def readReg (s : State) (off : Nat) : State × Word :=
  match findReg off with
  | some (r, i) =>
    if i = 0 then (captureWords (if measured off then usedFree s else s) r off (r.words - 1), wordNow s r 0 off)
    else (s, sGet s.cap off 0)
  | none =>
    match imgBufWord off with
    | some i => (s, sGet s.dev.imgBuf i 0)
    | none => (s, 0)

end Sys2Proof.Machine
end

