-- ==== Sys2Proof/Machine/SlotLoss.lean ====
section
/-! DEFINITION. What takes power-good away from a slot (R504 to R511): trips, losses, removal and the power-off command, each with
the link loss of the device port that the slot serves (R509, R395). -/

namespace Sys2Proof.Machine

/-- SLOT_PWRGD of channel `i` has gone since `s`: the link of the device port that it serves takes the link-loss rule (R509). -/
def slotLinkDown (s t : State) (i : Nat) : State :=
  match slotPort s i with
  | some p => if slotPwrgd s i && ! slotPwrgd t i && linkActive t p then onFabric t (settleUnits (loseLink t p 0)) else t
  | none => t

/-- SLOT_POWER_OFF: PCC written 1 on the device port (R430, R504). -/
def execSlotPowerOff (port : Fin 128) (s : State) : Host.Outcome State Fault Refusal :=
  .next (onFabric s
    (match portSlot s port with
     | some i =>
       if rdBit s (slotCtrl port) 10 then s
       else slotLinkDown s (slotPowerDown (addCommand (wrBit s (slotCtrl port) 10 true) port) i) i
     | none => wrBit s (slotCtrl port) 10 true))

/-- PRESENCE_LOST: the channel turns off, its history ends, PDS clears and LINK_GEN advances (R511). -/
def execPresenceLost (chan : Fin 32) (s : State) : Host.Outcome State Fault Refusal :=
  .next (if ! slotPresent s chan then s
    else
      let st := R.SLOT_STATUS chan
      let t := slotTo (wr (slotPgOff s chan) st 21 18 0) chan slotOff
      let t1 := wr (wrBit (wrBit t st 23 false) st 22 false) st 7 0 ((rd s st 7 0 + 1) % 256)
      let t2 := raiseEv { t1 with slots := { t1.slots with
        debounced := t1.slots.debounced.filter (· != chan.val) } } (slotEv chan)
      slotLinkDown s (slotPresence t2 chan false) chan)

/-- FAST_TRIP (R504, R506). -/
def execFastTrip (chan : Fin 32) (s : State) : Host.Outcome State Fault Refusal :=
  .next (if slotState s chan = slotRamp || slotState s chan = slotOn || slotState s chan = slotBreak then
      slotLinkDown s (count (slotFault s chan 1) (R.SLOT_CNT0 chan) 16 .every (slotEv chan)) chan
    else s)

/-- CIRCUIT_BREAKER_EXPIRY (R504, R505). -/
def execCircuitBreakerExpiry (chan : Fin 32) (s : State) : Host.Outcome State Fault Refusal :=
  .next (if slotState s chan = slotRamp || slotState s chan = slotOn then
      slotLinkDown s (count (slotFault s chan 2) (R.SLOT_CNT0 chan) 0 .every (slotEv chan)) chan
    else s)

/-- POWER_GOOD_LOSS: in ON a fault, in BREAK only the deassertion (R504, R507). -/
def execPowerGoodLoss (chan : Fin 32) (high : Bool) (s : State) : Host.Outcome State Fault Refusal :=
  .next (if slotState s chan = slotOn then
      slotLinkDown s (count (slotFault s chan (if high then 5 else 4)) (R.SLOT_CNT1 chan) 0 .every (slotEv chan)) chan
    else if slotState s chan = slotBreak then slotLinkDown s (slotPgOff s chan) chan
    else s)

end Sys2Proof.Machine
end

