-- ==== Sys2Proof/Machine/RegWrite.lean ====
section
/-! DEFINITION. Writes of the management space: which write starts what, counter-clear registers, structural fields, and
every other field by its access code (R13, R31, R545). -/

namespace Sys2Proof.Machine

/-- The state that a command's meaning answers; the state itself where it stops. -/
def afterOf (s : State) (o : Host.Outcome State Fault Refusal) : State :=
  match o with
  | .next t => t
  | _ => s
/-- Do `f` where `b` holds. -/
def whenDo (b : Bool) (s : State) (f : State → State) : State := if b then f s else s

/-- A write of one word by the access codes of its fields, structural fields left alone (R13). -/
def plainWrite (s : State) (off : Nat) (val : Word) : State := setReg s off (writeBits off (getReg s off) val)

/-! ### Counter-clear registers (R545) -/

/-- What a bit of a counter-clear register clears: the bit, the counter's word, and the low bit of its half. -/
structure CntBit where
  bit : Nat
  off : Nat
  lo : Nat
deriving DecidableEq, Repr

/-- The counters of a clear register at `k` in a port block, `base` being the block's first offset. -/
def blockClears (base k : Nat) : List CntBit :=
  if 0x1000 ≤ k ∧ k < 0x2100 ∧ k % 0x100 = 0xFC then [⟨0, base + (k - 0xFC) + 0x20, 0⟩]
  else if 0x200 ≤ k ∧ k < 0x300 ∧ k % 0x40 = 0x3C then
    let l := base + (k - 0x3C)
    [⟨0, l + 0x10, 16⟩, ⟨1, l + 0x10, 0⟩, ⟨2, l + 0x14, 16⟩, ⟨3, l + 0x14, 0⟩, ⟨4, l + 0x18, 16⟩, ⟨5, l + 0x18, 0⟩]
  else if 0x200 ≤ k ∧ k < 0x300 ∧ k % 0x40 = 0x38 then
    let l := base + (k - 0x38)
    [⟨0, l + 0x20, 0⟩, ⟨1, l + 0x20, 16⟩, ⟨2, l + 0x24, 0⟩]
  else []
/-- COUNT and LOST of a protection unit. -/
def unitClears (w : Nat) : List CntBit := [⟨0, w + 0xC40, 0⟩, ⟨1, w + 0xC40, 16⟩]
/-- The counters of a clear register in a region's window. -/
def regionClears (off n r : Nat) : List CntBit :=
  match r / 0x40000 with
  | 1 | 2 => blockClears (off - (blockOff n r).2) (blockOff n r).2
  | 4 | 5 =>
    let h := r - 0x100000
    if 0x1000 ≤ h ∧ h < 0x2000 ∧ h % 0x100 = 0xFC then
      [⟨0, off - 0x7C, 0⟩, ⟨1, off - 0x78, 0⟩, ⟨2, off - 0x74, 0⟩]
    else if 0x40000 ≤ h ∧ h < 0x60000 ∧ h % 0x20 = 0x1C then [⟨0, off - 8, 0⟩]
    else []
  | 6 | 7 =>
    match (sliceOff n r).2 with
    | 0x1FC => [⟨0, off - 0xFC, 0⟩, ⟨1, off - 0xF8, 0⟩]
    | 0x2FC => [⟨0, off - 0xFC, 0⟩, ⟨1, off - 0xF8, 0⟩, ⟨2, off - 0xF4, 0⟩, ⟨3, off - 0xF0, 0⟩, ⟨4, off - 0xEC, 0⟩]
    | _ => []
  | 8 => if r = 0x2009FC then [⟨0, off - 0xFC, 0⟩, ⟨1, off - 0xF8, 0⟩, ⟨2, off - 0xF4, 0⟩] else []
  | 9 => if r % 0x1000 = 0xCFC ∧ r < 0x249000 then unitClears (off - 0xCFC) else []
  | 10 => if r = 0x2801FC then [⟨0, off - 0x1EC, 0⟩] else []
  | _ => []
/-- The counters of the clear register at `off`; none where there is none. -/
def clearsAt (off : Nat) : List CntBit :=
  if inRegions off then regionClears off (regionOff off).1 (regionOff off).2
  else if off = R.RST_CNT_CLEAR then [⟨0, R.RST_CLK_LOSS_CNT, 0⟩]
  else if off = R.RST_RESET_CNT_CLEAR then [⟨0, R.RST_GLITCH_CNT, 0⟩, ⟨1, R.RST_GLITCH_CNT, 16⟩]
  else if off = R.RST_FG_CNT_CLEAR ∨ off = R.TWIN_GUARD_CNT_CLEAR then unitClears (off - 0xCFC)
  else if off = R.RST_SUP_CNT_CLEAR then [⟨0, R.RST_SUP_CNT, 0⟩, ⟨1, R.RST_SUP_CNT, 16⟩]
  else if R.SLOT_CNT_CLEAR 0 ≤ off ∧ off ≤ R.SLOT_CNT_CLEAR 31 ∧ off % 0x100 = 0xFC then
    [⟨0, off - 0x7C, 16⟩, ⟨1, off - 0x7C, 0⟩, ⟨2, off - 0x78, 16⟩, ⟨3, off - 0x78, 0⟩]
  else if off = R.STX_TXN_CNT_CLEAR then [⟨0, R.STX_TXN_CNT, 0⟩, ⟨1, R.STX_TXN_CNT, 16⟩]
  else if off = R.PERF_SNAP_CNT_CLEAR then [⟨0, R.PERF_SNAP_CNT, 0⟩, ⟨1, R.PERF_SNAP_CNT, 16⟩]
  else if off = R.XBAR_CNT_CLEAR then [⟨0, R.XBAR_FLUSH_CNT, 0⟩]
  else if R.NOC_CNT_CLEAR 0 ≤ off ∧ off ≤ R.NOC_CNT_CLEAR 17 ∧ off % 0x100 = 0xFC then
    let b := off - 0xFC
    [⟨0, b, 0⟩, ⟨1, b, 16⟩, ⟨2, b + 4, 0⟩, ⟨3, b + 4, 16⟩, ⟨4, b + 8, 0⟩, ⟨5, b + 8, 16⟩, ⟨6, b + 12, 0⟩]
  else if 0xE000000 ≤ off ∧ off < 0xE010000 then
    if 0xE001000 ≤ off ∧ off < 0xE002200 ∧ off % 0x100 = 0xFC then [⟨0, off - 0xDC, 0⟩]
    else if off = R.TWIN_LINK_CNT_CLEAR then blockClears 0xE000000 0x23C
    else []
  else if off = R.TWIN_CNT_CLEAR then
    [⟨0, R.TWIN_CNT0, 0⟩, ⟨1, R.TWIN_CNT0, 16⟩, ⟨2, R.TWIN_CNT1, 0⟩, ⟨3, R.TWIN_CNT1, 16⟩]
  else if off = R.SEG_CNT_CLEAR then [⟨0, R.SEG_UNBOUND_CNT, 0⟩, ⟨1, R.SEG_TAG_ERR_CNT, 0⟩, ⟨2, R.SEG_DC_REJECT_CNT, 0⟩]
  else []
/-- Clear the counters of `l` whose bit of `val` is one. -/
def clearCounters (s : State) (val : Word) (l : List CntBit) : State :=
  forAll l s (fun t c => if bitAt val c.bit then clearCnt t c.off c.lo else t)
/-- LOG of a privileged guard: FILL becomes 0 and every slot's VALID 0. -/
def clearLog (s : State) (w : Nat) : State :=
  forAll (List.range 8) (wr s (w + 0xC20) 7 4 0) (fun t k => wrBit t (w + 0xD00 + 0x20 * k) 31 false)
/-- A write of a counter-clear register. -/
def counterClear (s : State) (off : Nat) (val : Word) : State :=
  let t := clearCounters s val (clearsAt off)
  if bitAt val 2 && (off == R.RST_FG_CNT_CLEAR || off == R.TWIN_GUARD_CNT_CLEAR) then clearLog t (off - 0xCFC) else t

/-! ### Writes in a region's window -/

/-- Device lane number of lane `i` of block `b` (R342). -/
def blockLane (b i : Nat) : Nat := if i < 16 then 16 * b + i else 512 + b
/-- PB_LANE_PWR and PB_LANE_LOOP of device lane `n`; other lane registers by their fields. -/
def writeLane (s : State) (n k : Nat) (val : Word) (other : State) : State :=
  match k with
  | 0x10 => afterOf s (execLanePowerForce (Fin.ofNat 562 n) val s)
  | 0x14 => afterOf s (execLoopbackModeWrite (Fin.ofNat 562 n) val s)
  | _ => other
/-- PB_SPARE_CTRL or TWIN_SPARE_CTRL. -/
def writeSpare (s : State) (o : SpareOwner) (val : Word) : State :=
  let lane : BitVec 5 := BitVec.ofNat 5 (fld val 4 0)
  whenDo (bitAt val 30) (whenDo (bitAt val 31) s (fun t => afterOf t (execSpareSubst o lane t)))
    (fun t => afterOf t (execSpareRestore o lane t))
/-- PB_LINK_CTRL or TWIN_LINK_CTRL: WIDTH_CAP, and RETRAIN. -/
def writeLinkCtrl (s : State) (l : LinkId) (off : Nat) (val : Word) : State :=
  whenDo (bitAt val 31) (plainWrite s off val) (fun t => afterOf t (execLinkRetrain l t))
/-- PB_CELL_CTRL: FENCE as management software leaves it (R30, R32). -/
def writeFence (s : State) (c : Fin 128) (b : Bool) : State :=
  if b == cellFenced s c then s
  else if b then settleUnits (askFence s (.cell c))
  else afterOf s (execCellUnfence (.cell c) s)
/-- PB_SLOT_CTRL: status bits clear, enables are taken, and a change of PCC, PIC or AIC is one command (R430). -/
def writeSlotCtrl (s : State) (p : Fin 128) (val : Word) : State :=
  let off := slotCtrl p
  let cur := getReg s off
  let t := setReg s off ((writeBits off cur val &&& ~~~ 0x7C0) ||| (cur &&& 0x7C0))
  let pic : BitVec 2 := BitVec.ofNat 2 (fld val 9 8)
  let aic : BitVec 2 := BitVec.ofNat 2 (fld val 7 6)
  if bitAt val 10 == bitAt cur 10 then afterOf t (execSlotIndicator p pic aic t)
  else
    let u := wr (wr t off 9 8 pic.toNat) off 7 6 aic.toNat
    if bitAt val 10 then afterOf u (execSlotPowerOff p u) else afterOf u (execSlotPowerOn p u)

/-- A word of a port block. -/
def writeBlock (s : State) (b k off : Nat) (val : Word) (other : State) : State :=
  if 0x40 ≤ k ∧ k < 0x50 ∧ k % 4 = 0 then writeFence s (Fin.ofNat 128 (4 * b + (k - 0x40) / 4)) (bitAt val 0)
  else if k = 0x88 then writeSpare s (.block (Fin.ofNat 32 b)) val
  else if 0x200 ≤ k ∧ k < 0x300 ∧ k % 0x40 = 4 then
    writeLinkCtrl s (.port (Fin.ofNat 128 (4 * b + (k - 0x200) / 0x40))) off val
  else if 0x400 ≤ k ∧ k < 0x440 ∧ k % 16 = 4 then writeSlotCtrl s (Fin.ofNat 128 (4 * b + (k - 0x400) / 16)) val
  else if 0x1000 ≤ k ∧ k < 0x2100 then writeLane s (blockLane b ((k - 0x1000) / 0x100)) (k % 0x100) val other
  else other
/-- COACH_CTRL. -/
def writeCoachCtrl (s : State) (k : Fin 256) (val : Word) : State :=
  whenDo (bitAt val 2)
    (whenDo (bitAt val 1) (whenDo (bitAt val 0) s (fun t => afterOf t (execCoachRetire k t)))
      (fun t => afterOf t (execCoachReinstate k t)))
    (fun t => afterOf t (execCoachReset k t))
/-- COACH_CH_CTRL of index `c`: ABORT beside RESET is ignored (R227). -/
def writeChCtrl (s : State) (c : BitVec 16) (val : Word) : State :=
  if bitAt val 31 then afterOf s (execChCtrlReset c s)
  else whenDo (bitAt val 30) s (fun t => afterOf t (execChCtrlAbort c (BitVec.ofNat 12 (fld val 11 0)) t))
/-- A word of a directory slice. -/
def writeSlice (s : State) (x : Fin 32) (k off : Nat) (val : Word) (other : State) : State :=
  match k with
  | 0 =>
    let t := afterOf s (execDirDrain x (bitAt val 0) s)
    let u := whenDo (fld val 7 4 != 0) t (fun t => afterOf t (execBankReset x (BitVec.ofNat 4 (fld val 7 4)) t))
    whenDo (bitAt val 8) u (fun t => afterOf t (execSliceReset x t))
  | 0x10 =>
    if bitAt val 31 then afterOf s (execDirPeek x (Fin.ofNat 8192 (fld val 12 0)) (Fin.ofNat 16 (fld val 16 13)) s)
    else plainWrite s off val
  | 0x20 => afterOf s (execDirAtomCfgWrite x val s)
  | 0x30 => afterOf s (execDirPurge x val s)
  | _ => other

/-- Quantities that R550 lists: those of a region, and those of the chip. -/
def nativeCode (c : Nat) (chip : Bool) : Bool :=
  (decide (1 ≤ c) && decide (c ≤ 0x12)) || (chip && decide (0x40 ≤ c) && decide (c ≤ 0x43))
/-- VXS32 event codes with an equivalent (R551). -/
def compatCode (c : Nat) : Bool := [0x0001, 0x0010, 0x0011, 0x0020, 0x0030, 0x0040].contains c
/-- PERF_CTR_SEL of the counter at `off`: a selection that counts nothing sets UNSUPP (R550, R551). -/
def writeSel (s : State) (off : Nat) (chip : Bool) (val : Word) : State :=
  let ok := if bitAt val 29 then compatCode (fld val 15 0) else nativeCode (fld val 7 0) chip
  wrBit (plainWrite s off val) (off + 0x14) 1 (! ok)

/-- A word of a region's window; `other` is the write by access codes. -/
def writeRegion (s : State) (n r off : Nat) (val : Word) (other : State) : State :=
  match r / 0x40000 with
  | 1 | 2 => writeBlock s (blockOff n r).1 (blockOff n r).2 off val other
  | 4 | 5 =>
    let h := r - 0x100000
    if 0x1000 ≤ h ∧ h < 0x2000 ∧ h % 0x100 = 0 then writeCoachCtrl s (Fin.ofNat 256 (coachOff n h).1) val
    else if 0x40000 ≤ h ∧ h < 0x60000 ∧ h % 0x20 = 0xC then writeChCtrl s (BitVec.ofNat 16 (ctxOff n h).1) val
    else other
  | 6 | 7 => writeSlice s (Fin.ofNat 32 (sliceOff n r).1) (sliceOff n r).2 off val other
  | 10 => if r = 0x280000 then whenDo (bitAt val 0) s (fun t => afterOf t (execTagInvalidate (Fin.ofNat 16 n) t)) else other
  | 11 => if r < 0x2C0200 ∧ r % 0x20 = 0 then writeSel s off false val else other
  | _ => other

/-! ### Writes in the other blocks -/

/-- STX_CHAN_CMD: an OP that is not listed gives BAD_ARG (R216). -/
def writeChanCmd (s : State) (val : Word) : State :=
  if ! bitAt val 31 then s
  else
    match fld val 3 0 with
    | 1 => afterOf s (execChanCreate s)
    | 2 => afterOf s (execChanDestroy s)
    | 3 => afterOf s (execChanReset s)
    | 4 => afterOf s (execChanRehome s)
    | _ => onChanCmd s (chanCode s 0x01)
/-- STX_TXN_CTRL: an OP that is not listed gives BAD_OP. -/
def writeTxnCtrl (s : State) (init : FabInit) (val : Word) : State :=
  if ! bitAt val 31 then s
  else
    match fld val 3 0 with
    | 1 => afterOf s (execTxnBegin init s)
    | 2 => afterOf s (execTxnCommit init s)
    | 3 => afterOf s (execTxnRollback init s)
    | 4 => afterOf s (execTxnJoin init s)
    | 5 => afterOf s (execTxnPersist init s)
    | _ => txnCode s 0x0B
/-- STX_IMG_LOAD: GO, or SLOT and PAGE while no page is being programmed (R533). -/
def writeImgLoad (s : State) (val : Word) : State :=
  if bitAt val 31 then afterOf s (execImgLoad (bitAt val 29) (BitVec.ofNat 10 (fld val 9 0)) s)
  else if rdBit s R.STX_IMG_LOAD 30 then s
  else plainWrite s R.STX_IMG_LOAD val
/-- RST_OTP_CTRL: GO, or SOURCE and LEVEL while nothing is being programmed. -/
def writeOtp (s : State) (val : Word) : State :=
  if bitAt val 31 then otpProgram s (fld val 12 8) (fld val 2 0)
  else if rdBit s R.RST_OTP_CTRL 30 then s
  else plainWrite s R.RST_OTP_CTRL val
/-- STX_TENANT_CNT_CLEAR: DB_REJECT of the tenant. -/
def writeTenantClear (s : State) (val : Word) : State :=
  whenDo (bitAt val 31) s (fun t => clearCnt t (R.STX_TENANT_STAT (fld val 11 0)) 16)

/-- A word outside the region windows; `other` is the write by access codes. -/
def writeChip (s : State) (init : FabInit) (off : Nat) (val : Word) (other : State) : State :=
  if off = R.RST_OTP_CTRL then writeOtp s val
  else if off = R.RST_SW then
    whenDo (bitAt val 31) s (fun t => softReset t (BitVec.ofNat 3 (fld val 10 8)) (fld val 6 0))
  else if off = R.RST_TWIN_ORDER then whenDo (bitAt val 31) s twinOrder
  else if off = R.STX_TXN_CTRL then writeTxnCtrl s init val
  else if off = R.STX_IMG_LOAD then writeImgLoad s val
  else if off = R.STX_CHAN_CMD then writeChanCmd s val
  -- the arguments are held whole: CREATE checks their reserved fields (R215)
  else if R.STX_CHAN_ARG0 ≤ off ∧ off < R.STX_CHAN_HANDLE ∧ off % 4 = 0 then setReg s off val
  else if off = R.STX_TENANT_CNT_CLEAR then writeTenantClear s val
  else if R.EVT_PEND 0 ≤ off ∧ off < R.EVT_PEND 0 + 0x40 ∧ off % 4 = 0 then
    afterOf s (execEvtPendClear (Fin.ofNat 16 ((off - R.EVT_PEND 0) / 4)) val s)
  else if R.EVT_TWIN_PEND 0 ≤ off ∧ off < R.EVT_TWIN_PEND 0 + 0x40 ∧ off % 4 = 0 then
    twinPendClear s ((off - R.EVT_TWIN_PEND 0) / 4) val
  else if R.PERF_CHIP_CTR_SEL 0 ≤ off ∧ off < R.PERF_CHIP_CTR_SEL 0 + 0x800 ∧ off % 0x20 = 0 then writeSel s off true val
  else if off = R.PERF_SNAP_CTRL then snapCtrl s val
  else if off = R.TWIN_PAIR_CTRL then whenDo (bitAt val 31) s (fun t => afterOf t (execHandoverWrite t))
  else if off = R.TWIN_SPARE_CTRL then writeSpare s .twin val
  else if off = R.TWIN_LINK_CTRL then writeLinkCtrl s .twin off val
  else if 0xE001000 ≤ off ∧ off < 0xE002200 then
    writeLane s (544 + (off - 0xE001000) / 0x100) (off % 0x100) val other
  else other

/-- A write by `init` reaches the word at `off` (R10, R13, R31, R334, R448, R545). -/
def writeReg (s : State) (init : FabInit) (off : Offset) (val : Word) : State :=
  let o := off.toNat
  match imgBufWord o with
  | some i => { s with dev := { s.dev with imgBuf := sPut s.dev.imgBuf i 0 val } }
  | none =>
    if (clearsAt o).isEmpty then
      let p := plainWrite s o val
      let other := if structMask o = 0 then p else structuralEffect init off val p
      if inRegions o then writeRegion s (regionOff o).1 (regionOff o).2 o val other
      else writeChip s init o val other
    else counterClear s o val

end Sys2Proof.Machine
end

