-- ==== Sys2Proof/Machine/Mgmt.lean ====
section
/-! DEFINITION. Management accesses: their check, the keeper's queue, keeper accesses over the internal network, and the
management endpoint, the SMBus/I2C target and the debug master (R11, R296, R321, R333, R444, R568 to R572). -/

namespace Sys2Proof.Machine

/-- An offset of the fabric die, which the keeper reaches by keeper accesses (R296). -/
def onFabricDie (off : Nat) : Bool := decide (0x8000000 ≤ off)
/-- The access finds nothing that serves it: the fabric die is in reset, or no slot can be booted and the block is not one of
the first three (R444). -/
def unserved (s : State) (off : Nat) : Bool :=
  (onFabricDie off && s.dev.fabReset) || (s.dev.stuck && decide (0x4000000 ≤ off))
/-- Registers that a unit in reset, a fenced region or an absent one does not answer (R296). -/
def targetDown (s : State) (off : Nat) : Bool :=
  let n := if inRegions off then (regionOff off).1 else 0
  let r := (regionOff off).2
  let held (u : RUnit) : Bool := s.dev.held.contains u
  let cell (c : Nat) : Bool := held (.cell (Fin.ofNat 128 c))
  let inBlock (b k : Nat) : Bool := held (.portBlock (Fin.ofNat 32 b)) || (decide (0x200 ≤ k) && decide (k < 0x300) && cell (4 * b + (k - 0x200) / 0x40))
  let inHouse (h : Nat) : Bool := decide (0x1000 ≤ h) && decide (h < 0x2000) &&
    (held (.coach (Fin.ofNat 256 (coachOff n h).1)) || held (.coachGroup (Fin.ofNat 64 ((coachOff n h).1 / 4))))
  unitDown s (.region (Fin.ofNat 16 n)) || (inRegions off &&
    match r / 0x40000 with
    | 1 | 2 => inBlock (blockOff n r).1 (blockOff n r).2
    | 4 | 5 => inHouse (r - 0x100000)
    | 6 | 7 => held (.slice (Fin.ofNat 32 (sliceOff n r).1))
    | _ => false)

/-- One 32-bit access where its register is: a write, or a read that gives a word. -/
def accessWord (s : State) (init : FabInit) (off : Offset) (w : Option Word) : State × Word :=
  match w with
  | some v => (writeReg s init off v, 0)
  | none => readReg s off.toNat

/-! ### The keeper's queue (R296, R570) -/

def withKq (s : State) (l : List KAcc) : State := { s with dev := { s.dev with kq := l } }
/-- The first access of `a` has ended with `w`. -/
def wordDone (a : KAcc) (w : Word) : KAcc :=
  { a with left := a.left.tail, tag := none, got := if (a.left.head?.bind (·.2)).isSome then a.got else a.got ++ [w] }
/-- The words read, the first in the low half. -/
def gotBits (l : List Word) : BitVec 64 := (l.getD 1 0) ++ (l.getD 0 0)
/-- The interface answers a read; a write has no answer (R11, R333, R569). -/
def answerAccess (s : State) (a : KAcc) : State :=
  if a.got.isEmpty then s
  else
    match a.init with
    | .endpoint => emit s (.mgmt .success (gotBits a.got))
    | .smbus => emit s (.smb (a.got.head?))
    | .debug => emit s (.debug (a.got.headD 0))
    | .keeper => s
/-- Inject a keeper access under the next KTAG, with one RSP flit reserved at the keeper node (R287, R296). -/
def sendKpr (s : State) (a : KAcc) (rest : List KAcc) (off : Offset) (w : Option Word) : State :=
  let k := s.dev.ktag
  let t := withKq { s with dev := { s.dev with ktag := k + 1 } } ({ a with tag := some k } :: rest)
  send t (.kpracc ⟨w.isSome, a.init, k, off, w.getD 0⟩)
/-- One move of the queue: the oldest access answers where it has ended, or its next word is checked and performed, or goes to
the fabric die. -/
def kprMove (s : State) : State :=
  match s.dev.kq with
  | [] => s
  | a :: rest =>
    match a.tag, a.left with
    | some _, _ => s
    | none, [] => answerAccess (withKq s rest) a
    | none, (off, w) :: _ =>
      match fabricGuard s a.init off.toNat w.isSome with
      | some d => withKq (recordFabric s a.init off.toNat w.isSome d) (wordDone a 0xFFFFFFFF :: rest)
      | none =>
        if unserved s off.toNat then withKq s (wordDone a 0 :: rest)
        else if onFabricDie off.toNat then sendKpr s a rest off w
        else
          let x := accessWord s a.init off w
          -- a write may reset the keeper interface, which forgets its queue
          withKq x.1 (if x.1.dev.kq.isEmpty then [] else wordDone a x.2 :: rest)
def kprMoves (s : State) (n : Nat) : State :=
  match n with
  | 0 => s
  | m + 1 => kprMoves (kprMove s) m
/-- Move as far as the queue goes: an access has at most two words, and is answered. -/
def pumpKeeper (s : State) : State := kprMoves s (3 * s.dev.kq.length)
/-- An access arrives at the keeper. -/
def arriveAccess (s : State) (init : FabInit) (l : List (Offset × Option Word)) : State :=
  if s.dev.pkgReset then s else pumpKeeper (withKq s (s.dev.kq ++ [⟨init, l, [], none⟩]))
/-- The keeper access of KTAG `k` ends with `w`. -/
def kprEnds (s : State) (k : BitVec 8) (w : Word) : State :=
  match s.dev.kq with
  | [] => s
  | a :: rest => if a.tag = some k then pumpKeeper (withKq s (wordDone a w :: rest)) else s

/-! ### Commands -/

/-- KPRACC: endpoint 5 performs the access, or answers ERR, and sends KprRsp (R296). -/
def execKpracc (m : KprAcc) (s : State) : Host.Outcome State Fault Refusal :=
  .next (onFabric s (receive s (.kpracc m) (fun t =>
    let o := m.offset.toNat
    let n := if inRegions o then (regionOff o).1 else 0
    let err := targetDown t o
    let x := if err then (t, 0) else accessWord t m.init m.offset (if m.wr then some m.data else none)
    onFabric x.1 (inject x.1 ⟨servicesEp n, keeperEp, .rsp, false, 1, 0, 0⟩ none (.kprrsp ⟨m.ktag, err, x.2⟩)))))
/-- KPRRSP: the keeper node frees the reservation, and the access goes on. -/
def execKprrsp (m : KprRsp) (s : State) : Host.Outcome State Fault Refusal :=
  .next (onFabric s (receive s (.kprrsp m) (fun t =>
    kprEnds (unreserve t (.keeper m.ktag)) m.ktag m.data)))
/-- An answer for which space is held must cross the twin link (R288). -/
def answerCrosses (s : State) (r : ResvFor) : Bool :=
  match r with
  | .request a t =>
    s.hp.reqs.any (fun q => agentId s q.port == a && q.rtag == t && ! q.captured && ! homedHere s q.line) ||
      s.co.reqs.any (fun q => coachAgent s q.coach == a && q.rtag == t && ! homedHere s q.line)
  | .dirty _ n => decide (n / 8192 ≠ pidNat s)
  | .tagInv _ _ c | .migration _ _ c => c == 16
  | .journal _ _ => true
  | .steal _ | .keeper _ => false
/-- What gives up as the space for its answers is released: a request its tag, a coach its steal request, a keeper access its
answer, and reads zero. A broadcast, a journal batch and a snoop answer have no tag, and wait on (R288, assumption 132). -/
def giveUp (s : State) (r : ResvFor) : State :=
  match r with
  | .request a t =>
    settleAll (if localAgent a < 128 then hostExpire s (localAgent a) t else coachExpire s (coachNo a) t)
  | .steal a => settleAll (setStealing s (coachNo a) [])
  | .keeper t => kprEnds s t 0
  | .journal _ _ | .tagInv _ _ _ | .migration _ _ _ | .dirty _ _ => s
/-- RESERVATION_EXPIRY: the interface gives the space back and counts it, unless the twin link has stopped the time (R288). -/
def execReservationExpiry (endpoint : Fin 98) (rtag : BitVec 10) (s : State) : Host.Outcome State Fault Refusal :=
  .next (onFabric s
    (match s.noc.resv.find? (fun r => r.endpoint == endpoint.val && resvNo r.what == rtag) with
     | none => s
     | some r =>
       if answerCrosses s r.what && twinState s != 2 then s
       else
         let node := nodeOf endpoint
         giveUp (count (unreserve s r.what) (R.NOC_ERR_CNT2 node) 0 .every (routerEv node)) r.what))

/-- The fabric guard lets a management access pass, or refuses it: a read returns 0xFFFFFFFF, a write has no effect
(R333). -/
def guarded (s : State) (init : FabInit) (off : Offset) (isWrite : Bool) (k : State → State × Word) : State × Word :=
  match fabricGuard s init off.toNat isWrite with
  | some d => (recordFabric s init off.toNat isWrite d, 0xFFFFFFFF)
  | none => if s.dev.pkgReset || unserved s off.toNat then (s, 0) else k s
/-- REGISTER_WRITE: a write by `init` reaches its register. -/
def execRegisterWrite (init : FabInit) (off : Offset) (val : Word) (s : State) : Host.Outcome State Fault Refusal :=
  .next (guarded s init off true (fun t => (writeReg t init off val, 0))).1
/-- WIDE_REGISTER_LOW_READ: the other words are captured at the same instant, and the word goes to the interface that
reads (R8). -/
def execWideRegisterLowRead (init : FabInit) (off : Offset) (s : State) : Host.Outcome State Fault Refusal :=
  .next
    (let x := guarded s init off false (fun t => readReg t off.toNat)
     if s.dev.pkgReset then s else answerAccess x.1 ⟨init, [], [x.2], none⟩)
/-- COUNTER_CLEAR_WRITE. -/
def execCounterClearWrite (init : FabInit) (off : Offset) (val : Word) (s : State) : Host.Outcome State Fault Refusal :=
  .next (guarded s init off true (fun t => (counterClear t off.toNat val, 0))).1
/-- The words of a management-endpoint access, the lower address first; none where it is not 4 or 8 bytes, aligned (R11). -/
def endpointWords (off : Offset) (width : Nat) (data : Option (BitVec 64)) : Option (List (Offset × Option Word)) :=
  if width = 4 ∧ off.toNat % 4 = 0 then some [(off, data.map (·.extractLsb' 0 32))]
  else if width = 8 ∧ off.toNat % 8 = 0 then
    some [(off, data.map (·.extractLsb' 0 32)), (off + 4, data.map (·.extractLsb' 32 32))]
  else none
/-- MGMT_ENDPOINT_ACCESS: performed as whole 32-bit accesses, or completed as Unsupported Request (R11). -/
def execMgmtEndpointAccess (off : Offset) (width : Nat) (data : Option (BitVec 64)) (s : State) :
    Host.Outcome State Fault Refusal :=
  .next
    (match endpointWords off width data with
     | some l => arriveAccess s .endpoint l
     | none => if s.dev.pkgReset then s else emit s (.mgmt .unsupported 0))
/-- DEBUG_ACCESS: checked against locked entries alone (R336). -/
def execDebugAccess (off : Offset) (data : Option Word) (s : State) : Host.Outcome State Fault Refusal :=
  .next (arriveAccess s .debug [(off, data)])
/-- SMBUS_WRITE_REGISTER: a wrong packet error code, or an offset that is not a multiple of 4, is not acknowledged (R569). -/
def execSmbusWriteRegister (off : BitVec 32) (val : Word) (pecOk : Bool) (s : State) : Host.Outcome State Fault Refusal :=
  .next
    (if s.dev.pkgReset then s
     else if ! pecOk || off.toNat % 4 != 0 then emit s (.smb none)
     else if 2 ^ 28 ≤ off.toNat then s
     else arriveAccess s .smbus [(off.setWidth 28, some val)])
/-- SMBUS_LATCH_OFFSET. -/
def execSmbusLatchOffset (off : BitVec 32) (pecOk : Bool) (s : State) : Host.Outcome State Fault Refusal :=
  .next
    (if s.dev.pkgReset then s
     else if ! pecOk || off.toNat % 4 != 0 then emit s (.smb none)
     else { s with dev := { s.dev with smbOffset := off } })
/-- SMBUS_READ_REGISTER: the register at the latched offset; an offset beyond the management space holds none (R10). -/
def execSmbusReadRegister (s : State) : Host.Outcome State Fault Refusal :=
  .next
    (if s.dev.pkgReset then s
     else if 2 ^ 28 ≤ s.dev.smbOffset.toNat then emit s (.smb (some 0))
     else arriveAccess s .smbus [(s.dev.smbOffset.setWidth 28, none)])
/-- MGMT_PERST: the management endpoint alone is reset; its MSI-X table returns to its reset values (R568). -/
def execMgmtPerst (s : State) : Host.Outcome State Fault Refusal := .next { s with dev := { s.dev with mgmtMsix := [] } }

end Sys2Proof.Machine
end

