-- ==== Sys2Proof/Machine/Dispatch.lean ====
section
/-! DEFINITION. The meaning of each command: one arm per row of the spec's table of operations and events. -/

namespace Sys2Proof.Machine

def exec (i : Instr) (s : State) : Host.Outcome State Fault Refusal :=
  match i with
  | .registerWrite init off val => Sys2Proof.Machine.execRegisterWrite init off val s
  | .mgmtEndpointAccess off width write => Sys2Proof.Machine.execMgmtEndpointAccess off width write s
  | .wideRegisterLowRead init off => Sys2Proof.Machine.execWideRegisterLowRead init off s
  | .counterClearWrite init off val => Sys2Proof.Machine.execCounterClearWrite init off val s
  | .debugAccess off write => Sys2Proof.Machine.execDebugAccess off write s
  | .smbusWriteRegister off val pecOk => Sys2Proof.Machine.execSmbusWriteRegister off val pecOk s
  | .smbusLatchOffset off pecOk => Sys2Proof.Machine.execSmbusLatchOffset off pecOk s
  | .smbusReadRegister => Sys2Proof.Machine.execSmbusReadRegister s
  | .spiReadId => Sys2Proof.Machine.execSpiReadId s
  | .spiReadStatus => Sys2Proof.Machine.execSpiReadStatus s
  | .spiWriteEnable => Sys2Proof.Machine.execSpiWriteEnable s
  | .spiRead off len => Sys2Proof.Machine.execSpiRead off len s
  | .spiProgram off data => Sys2Proof.Machine.execSpiProgram off data s
  | .spiErasePage off => Sys2Proof.Machine.execSpiErasePage off s
  | .spiOperationDone failed => Sys2Proof.Machine.execSpiOperationDone failed s
  | .mgmtPerst => Sys2Proof.Machine.execMgmtPerst s
  | .refclkLoss => Sys2Proof.Machine.execRefclkLoss s
  | .refclkRestored => Sys2Proof.Machine.execRefclkRestored s
  | .rootPllLockLoss => Sys2Proof.Machine.execRootPllLockLoss s
  | .serdesPllLockLoss ports twin => Sys2Proof.Machine.execSerdesPllLockLoss ports twin s
  | .cellFence u => Sys2Proof.Machine.execCellFence u s
  | .cellUnfence u => Sys2Proof.Machine.execCellUnfence u s
  | .m2sMemrd port mv addr tag => Sys2Proof.Machine.execM2sMemrd port mv addr tag s
  | .m2sMemrddata port addr tag => Sys2Proof.Machine.execM2sMemrddata port addr tag s
  | .m2sMeminv port nt mv addr tag => Sys2Proof.Machine.execM2sMeminv port nt mv addr tag s
  | .m2sMemspecrd port addr tag => Sys2Proof.Machine.execM2sMemspecrd port addr tag s
  | .m2sMemclnevct port addr tag => Sys2Proof.Machine.execM2sMemclnevct port addr tag s
  | .m2sMemwr port addr tag data poison => Sys2Proof.Machine.execM2sMemwr port addr tag data poison s
  | .m2sMemwrptl port addr tag data mask poison => Sys2Proof.Machine.execM2sMemwrptl port addr tag data mask poison s
  | .m2sBirsp port toShared tag => Sys2Proof.Machine.execM2sBirsp port toShared tag s
  | .m2sBiconflict port addr tag => Sys2Proof.Machine.execM2sBiconflict port addr tag s
  | .tagLineFill region line data ecc => Sys2Proof.Machine.execTagLineFill region line data ecc s
  | .tagInvalidate region => Sys2Proof.Machine.execTagInvalidate region s
  | .tagInvalidateDone region => Sys2Proof.Machine.execTagInvalidateDone region s
  | .getDynamicCapacityConfiguration port => Sys2Proof.Machine.execGetDynamicCapacityConfiguration port s
  | .getDynamicCapacityExtentList port first count => Sys2Proof.Machine.execGetDynamicCapacityExtentList port first count s
  | .addDynamicCapacityResponse port extents => Sys2Proof.Machine.execAddDynamicCapacityResponse port extents s
  | .releaseDynamicCapacity port extents => Sys2Proof.Machine.execReleaseDynamicCapacity port extents s
  | .getEventRecords port => Sys2Proof.Machine.execGetEventRecords port s
  | .clearEventRecords port handles => Sys2Proof.Machine.execClearEventRecords port handles s
  | .purgeSweepDone port => Sys2Proof.Machine.execPurgeSweepDone port s
  | .bind port st seg => Sys2Proof.Machine.execBind port st seg s
  | .bindAck port st seg => Sys2Proof.Machine.execBindAck port st seg s
  | .colourInitStart => Sys2Proof.Machine.execColourInitStart s
  | .colourInitDone => Sys2Proof.Machine.execColourInitDone s
  | .rdshared slice q m ecc => Sys2Proof.Machine.execRdshared slice q m ecc s
  | .rdown slice q m ecc => Sys2Proof.Machine.execRdown slice q m ecc s
  | .upgrade slice q m ecc => Sys2Proof.Machine.execUpgrade slice q m ecc s
  | .rdcur slice q m ecc => Sys2Proof.Machine.execRdcur slice q m ecc s
  | .wrline slice q m ecc => Sys2Proof.Machine.execWrline slice q m ecc s
  | .wrpart slice q m ecc => Sys2Proof.Machine.execWrpart slice q m ecc s
  | .wbdirty slice q m ecc => Sys2Proof.Machine.execWbdirty slice q m ecc s
  | .evict slice q m ecc => Sys2Proof.Machine.execEvict slice q m ecc s
  | .atomicfar slice q m a ecc => Sys2Proof.Machine.execAtomicfar slice q m a ecc s
  | .memrd m => Sys2Proof.Machine.execMemrd m s
  | .memrdIssue port => Sys2Proof.Machine.execMemrdIssue port s
  | .expanderReadData port tag data poison linkGen => Sys2Proof.Machine.execExpanderReadData port tag data poison linkGen s
  | .expanderWriteCompletion port tag linkGen => Sys2Proof.Machine.execExpanderWriteCompletion port tag linkGen s
  | .cmps m => Sys2Proof.Machine.execCmps m s
  | .cmpo m => Sys2Proof.Machine.execCmpo m s
  | .cmp m res => Sys2Proof.Machine.execCmp m res s
  | .err m => Sys2Proof.Machine.execErr m s
  | .datago m => Sys2Proof.Machine.execDatago m s
  | .wbdata m data mask => Sys2Proof.Machine.execWbdata m data mask s
  | .fill m data => Sys2Proof.Machine.execFill m data s
  | .memcmp m => Sys2Proof.Machine.execMemcmp m s
  | .backinv m => Sys2Proof.Machine.execBackinv m s
  | .backdown m => Sys2Proof.Machine.execBackdown m s
  | .backinvBroadcast region m => Sys2Proof.Machine.execBackinvBroadcast region m s
  | .biack m => Sys2Proof.Machine.execBiack m s
  | .biackagg region pid m => Sys2Proof.Machine.execBiackagg region pid m s
  | .broadcastAggTimeout region m => Sys2Proof.Machine.execBroadcastAggTimeout region m s
  | .ack m => Sys2Proof.Machine.execAck m s
  | .journalBatchTimeout slice => Sys2Proof.Machine.execJournalBatchTimeout slice s
  | .jrnbatch slice recs => Sys2Proof.Machine.execJrnbatch slice recs s
  | .jrnack slice ackJseq => Sys2Proof.Machine.execJrnack slice ackJseq s
  | .homeTimeout slice txn => Sys2Proof.Machine.execHomeTimeout slice txn s
  | .journalStall slice txn => Sys2Proof.Machine.execJournalStall slice txn s
  | .requestTimeout agent rtag => Sys2Proof.Machine.execRequestTimeout agent rtag s
  | .memrdTimeout port tag => Sys2Proof.Machine.execMemrdTimeout port tag s
  | .deviceWriteTimeout port => Sys2Proof.Machine.execDeviceWriteTimeout port s
  | .lossNotice slice agent => Sys2Proof.Machine.execLossNotice slice agent s
  | .purgeScanDone slice => Sys2Proof.Machine.execPurgeScanDone slice s
  | .dirPurge slice val => Sys2Proof.Machine.execDirPurge slice val s
  | .decayWalk slice => Sys2Proof.Machine.execDecayWalk slice s
  | .dirAtomCfgWrite slice val => Sys2Proof.Machine.execDirAtomCfgWrite slice val s
  | .dirDrain slice on => Sys2Proof.Machine.execDirDrain slice on s
  | .sliceReset slice => Sys2Proof.Machine.execSliceReset slice s
  | .bankReset slice banks => Sys2Proof.Machine.execBankReset slice banks s
  | .sliceResetDone slice pass => Sys2Proof.Machine.execSliceResetDone slice pass s
  | .dirPeek slice set way => Sys2Proof.Machine.execDirPeek slice set way s
  | .doorbell port func off size val => Sys2Proof.Machine.execDoorbell port func off size val s
  | .descriptorFetchDone chan gen entry r => Sys2Proof.Machine.execDescriptorFetchDone chan gen entry r s
  | .dmaReadTimeout chan gen entry => Sys2Proof.Machine.execDmaReadTimeout chan gen entry s
  | .coachTakeUnit coach => Sys2Proof.Machine.execCoachTakeUnit coach s
  | .stealreq house m => Sys2Proof.Machine.execStealreq house m s
  | .stealrep m => Sys2Proof.Machine.execStealrep m s
  | .unitend m => Sys2Proof.Machine.execUnitend m s
  | .landingGrant coach pipe => Sys2Proof.Machine.execLandingGrant coach pipe s
  | .recordWrite chan => Sys2Proof.Machine.execRecordWrite chan s
  | .migmark region m => Sys2Proof.Machine.execMigmark region m s
  | .migadvance region m => Sys2Proof.Machine.execMigadvance region m s
  | .migunmark region m => Sys2Proof.Machine.execMigunmark region m s
  | .migack slot kind region pid => Sys2Proof.Machine.execMigack slot kind region pid s
  | .migStepTimeout slot => Sys2Proof.Machine.execMigStepTimeout slot s
  | .taginv region house pid line => Sys2Proof.Machine.execTaginv region house pid line s
  | .tagack house line region pid => Sys2Proof.Machine.execTagack house line region pid s
  | .coachFault coach cause => Sys2Proof.Machine.execCoachFault coach cause s
  | .coachRetire coach => Sys2Proof.Machine.execCoachRetire coach s
  | .coachRetireDone coach => Sys2Proof.Machine.execCoachRetireDone coach s
  | .coachReset coach => Sys2Proof.Machine.execCoachReset coach s
  | .coachSelfTestDone coach pass => Sys2Proof.Machine.execCoachSelfTestDone coach pass s
  | .coachReinstate coach => Sys2Proof.Machine.execCoachReinstate coach s
  | .chanCreate => Sys2Proof.Machine.execChanCreate s
  | .chanDestroy => Sys2Proof.Machine.execChanDestroy s
  | .chanReset => Sys2Proof.Machine.execChanReset s
  | .chanRehome => Sys2Proof.Machine.execChanRehome s
  | .chCtrlReset chan => Sys2Proof.Machine.execChCtrlReset chan s
  | .chCtrlAbort chan index => Sys2Proof.Machine.execChCtrlAbort chan index s
  | .packetReceived p => Sys2Proof.Machine.execPacketReceived p s
  | .holdListRelease region meter => Sys2Proof.Machine.execHoldListRelease region meter s
  | .flowTagRefresh region j c => Sys2Proof.Machine.execFlowTagRefresh region j c s
  | .auditSweepStart region => Sys2Proof.Machine.execAuditSweepStart region s
  | .auditSweepEnd region found => Sys2Proof.Machine.execAuditSweepEnd region found s
  | .routerFlitArrival router net init dest seq credited hdrEcc payload => Sys2Proof.Machine.execRouterFlitArrival router net init dest seq credited hdrEcc payload s
  | .creditret endpoint net src count latMax latSum => Sys2Proof.Machine.execCreditret endpoint net src count latMax latSum s
  | .drainmark endpoint net init => Sys2Proof.Machine.execDrainmark endpoint net init s
  | .drainecho endpoint net node => Sys2Proof.Machine.execDrainecho endpoint net node s
  | .reservationExpiry endpoint rtag => Sys2Proof.Machine.execReservationExpiry endpoint rtag s
  | .regulatedInjection init net => Sys2Proof.Machine.execRegulatedInjection init net s
  | .routerParityError router => Sys2Proof.Machine.execRouterParityError router s
  | .kpracc m => Sys2Proof.Machine.execKpracc m s
  | .kprrsp m => Sys2Proof.Machine.execKprrsp m s
  | .laneFailing lane why => Sys2Proof.Machine.execLaneFailing lane why s
  | .spareSubst o lane => Sys2Proof.Machine.execSpareSubst o lane s
  | .spareRestore o lane => Sys2Proof.Machine.execSpareRestore o lane s
  | .spareFailure o second => Sys2Proof.Machine.execSpareFailure o second s
  | .lanePowerForce lane val => Sys2Proof.Machine.execLanePowerForce lane val s
  | .loopbackModeWrite lane val => Sys2Proof.Machine.execLoopbackModeWrite lane val s
  | .dataFlit l f => Sys2Proof.Machine.execDataFlit l f s
  | .flitCrcFail l => Sys2Proof.Machine.execFlitCrcFail l s
  | .ackFlit l f => Sys2Proof.Machine.execAckFlit l f s
  | .nak l f => Sys2Proof.Machine.execNak l f s
  | .replay l f => Sys2Proof.Machine.execReplay l f s
  | .compFlit l => Sys2Proof.Machine.execCompFlit l s
  | .ackIdleExpiry l => Sys2Proof.Machine.execAckIdleExpiry l s
  | .nakResendTimeout l => Sys2Proof.Machine.execNakResendTimeout l s
  | .replayTimeout l => Sys2Proof.Machine.execReplayTimeout l s
  | .recoveryTimeout l => Sys2Proof.Machine.execRecoveryTimeout l s
  | .linkTrained l t => Sys2Proof.Machine.execLinkTrained l t s
  | .linkRetrain l => Sys2Proof.Machine.execLinkRetrain l s
  | .linkDown port => Sys2Proof.Machine.execLinkDown port s
  | .spareReq o lane second => Sys2Proof.Machine.execSpareReq o lane second s
  | .spareAck o lane second => Sys2Proof.Machine.execSpareAck o lane second s
  | .spareNak o lane second => Sys2Proof.Machine.execSpareNak o lane second s
  | .spareDone o lane second => Sys2Proof.Machine.execSpareDone o lane second s
  | .spareReqResend o second => Sys2Proof.Machine.execSpareReqResend o second s
  | .spareAligned o second => Sys2Proof.Machine.execSpareAligned o second s
  | .restoreReq o lane second => Sys2Proof.Machine.execRestoreReq o lane second s
  | .restoreAck o lane second => Sys2Proof.Machine.execRestoreAck o lane second s
  | .configRequest port func off write => Sys2Proof.Machine.execConfigRequest port func off write s
  | .vfEnableClear port => Sys2Proof.Machine.execVfEnableClear port s
  | .busMasterEnableSet port func => Sys2Proof.Machine.execBusMasterEnableSet port func s
  | .powerStateWrite port func d3 => Sys2Proof.Machine.execPowerStateWrite port func d3 s
  | .msixUnmask port func vector => Sys2Proof.Machine.execMsixUnmask port func vector s
  | .flr port func => Sys2Proof.Machine.execFlr port func s
  | .flrPeerDrained port func => Sys2Proof.Machine.execFlrPeerDrained port func s
  | .bar0Access a => Sys2Proof.Machine.execBar0Access a s
  | .peerRead t => Sys2Proof.Machine.execPeerRead t s
  | .peerWrite t data => Sys2Proof.Machine.execPeerWrite t data s
  | .peerAtomic t op opA opB => Sys2Proof.Machine.execPeerAtomic t op opA opB s
  | .slotPowerOn port => Sys2Proof.Machine.execSlotPowerOn port s
  | .slotPowerOff port => Sys2Proof.Machine.execSlotPowerOff port s
  | .slotIndicator port pic aic => Sys2Proof.Machine.execSlotIndicator port pic aic s
  | .slotCommandCompleted port => Sys2Proof.Machine.execSlotCommandCompleted port s
  | .boardInserted chan => Sys2Proof.Machine.execBoardInserted chan s
  | .presenceLost chan => Sys2Proof.Machine.execPresenceLost chan s
  | .fastTrip chan => Sys2Proof.Machine.execFastTrip chan s
  | .circuitBreakerExpiry chan => Sys2Proof.Machine.execCircuitBreakerExpiry chan s
  | .rampTimeout chan => Sys2Proof.Machine.execRampTimeout chan s
  | .powerGoodAssert chan => Sys2Proof.Machine.execPowerGoodAssert chan s
  | .powerGoodLoss chan high => Sys2Proof.Machine.execPowerGoodLoss chan high s
  | .perstDlyExpiry chan => Sys2Proof.Machine.execPerstDlyExpiry chan s
  | .feedGood chan f => Sys2Proof.Machine.execFeedGood chan f s
  | .feedLost chan f => Sys2Proof.Machine.execFeedLost chan f s
  | .reverseCurrent chan => Sys2Proof.Machine.execReverseCurrent chan s
  | .breakElapsed chan => Sys2Proof.Machine.execBreakElapsed chan s
  | .feedReturnExpiry chan => Sys2Proof.Machine.execFeedReturnExpiry chan s
  | .retryElapsed chan => Sys2Proof.Machine.execRetryElapsed chan s
  | .sidebandScan buttons check => Sys2Proof.Machine.execSidebandScan buttons check s
  | .txnBegin init => Sys2Proof.Machine.execTxnBegin init s
  | .txnJoin init => Sys2Proof.Machine.execTxnJoin init s
  | .txnCommit init => Sys2Proof.Machine.execTxnCommit init s
  | .txnRollback init => Sys2Proof.Machine.execTxnRollback init s
  | .txnPersist init => Sys2Proof.Machine.execTxnPersist init s
  | .persistDone e => Sys2Proof.Machine.execPersistDone e s
  | .structuralWrite init off val => Sys2Proof.Machine.execStructuralWrite init off val s
  | .shadowWr handle off val => Sys2Proof.Machine.execShadowWr handle off val s
  | .shadowAck handle off => Sys2Proof.Machine.execShadowAck handle off s
  | .txnIdleTimeout => Sys2Proof.Machine.execTxnIdleTimeout s
  | .prepare handle epoch => Sys2Proof.Machine.execPrepare handle epoch s
  | .epochDrainDone => Sys2Proof.Machine.execEpochDrainDone s
  | .prepared handle => Sys2Proof.Machine.execPrepared handle s
  | .refused handle off item code => Sys2Proof.Machine.execRefused handle off item code s
  | .switch handle epoch => Sys2Proof.Machine.execSwitch handle epoch s
  | .switched handle => Sys2Proof.Machine.execSwitched handle s
  | .switchedTimeout => Sys2Proof.Machine.execSwitchedTimeout s
  | .abort handle => Sys2Proof.Machine.execAbort handle s
  | .imgLoad slot page => Sys2Proof.Machine.execImgLoad slot page s
  | .imgLoadDone e => Sys2Proof.Machine.execImgLoadDone e s
  | .beaconSend => Sys2Proof.Machine.execBeaconSend s
  | .beacon path b => Sys2Proof.Machine.execBeacon path b s
  | .beaconWindowMiss path => Sys2Proof.Machine.execBeaconWindowMiss path s
  | .takeover cause => Sys2Proof.Machine.execTakeover cause s
  | .takeoverQuietEnd => Sys2Proof.Machine.execTakeoverQuietEnd s
  | .takeoverComplete => Sys2Proof.Machine.execTakeoverComplete s
  | .recoverySweepDone seg => Sys2Proof.Machine.execRecoverySweepDone seg s
  | .handoverWrite => Sys2Proof.Machine.execHandoverWrite s
  | .handover => Sys2Proof.Machine.execHandover s
  | .handoverDrained => Sys2Proof.Machine.execHandoverDrained s
  | .handoverDone => Sys2Proof.Machine.execHandoverDone s
  | .joinWaitExpiry => Sys2Proof.Machine.execJoinWaitExpiry s
  | .directorySliceRepair slice => Sys2Proof.Machine.execDirectorySliceRepair slice s
  | .homing slice handOver => Sys2Proof.Machine.execHoming slice handOver s
  | .homingDone slice handOver => Sys2Proof.Machine.execHomingDone slice handOver s
  | .syncDone slice => Sys2Proof.Machine.execSyncDone slice s
  | .setrecall region slice set => Sys2Proof.Machine.execSetrecall region slice set s
  | .evtfwd event pid => Sys2Proof.Machine.execEvtfwd event pid s
  | .evtPendClear w val => Sys2Proof.Machine.execEvtPendClear w val s
  | .troubleJournalPeriod => Sys2Proof.Machine.execTroubleJournalPeriod s
  | .perfSnapEnable val => Sys2Proof.Machine.execPerfSnapEnable val s
  | .snapshotCapture => Sys2Proof.Machine.execSnapshotCapture s
  | .snapshotRecordDone => Sys2Proof.Machine.execSnapshotRecordDone s
  | .resetPin lowNs honour => Sys2Proof.Machine.execResetPin lowNs honour s
  | .twinRstIn lowNs honour => Sys2Proof.Machine.execTwinRstIn lowNs honour s
  | .rstTwinOrder => Sys2Proof.Machine.execRstTwinOrder s
  | .rstSw level target => Sys2Proof.Machine.execRstSw level target s
  | .keeperWatchdogRestart => Sys2Proof.Machine.execKeeperWatchdogRestart s
  | .keeperWatchdogReset => Sys2Proof.Machine.execKeeperWatchdogReset s
  | .stateParityError p => Sys2Proof.Machine.execStateParityError p s
  | .fabricSupplyFault => Sys2Proof.Machine.execFabricSupplyFault s
  | .keeperSupplyFault => Sys2Proof.Machine.execKeeperSupplyFault s
  | .thermal region degrees => Sys2Proof.Machine.execThermal region degrees s
  | .portPerstAssert port => Sys2Proof.Machine.execPortPerstAssert port s
  | .portPerstDeassert port => Sys2Proof.Machine.execPortPerstDeassert port s
  | .debugReset => Sys2Proof.Machine.execDebugReset s
  | .powerOnRelease pairIdHigh storeSpiLow => Sys2Proof.Machine.execPowerOnRelease pairIdHigh storeSpiLow s
  | .resetRelease => Sys2Proof.Machine.execResetRelease s
  | .supplyTroubleStart auxMv pfail => Sys2Proof.Machine.execSupplyTroubleStart auxMv pfail s
  | .supplyTroubleEnd auxMv => Sys2Proof.Machine.execSupplyTroubleEnd auxMv s
  | .rstOtpProgram source level => Sys2Proof.Machine.execRstOtpProgram source level s
  | .rstOtpDone ok => Sys2Proof.Machine.execRstOtpDone ok s
  | .keeperBoot => Sys2Proof.Machine.execKeeperBoot s
  | .regionSelfTestDone failed chipUnitFailed => Sys2Proof.Machine.execRegionSelfTestDone failed chipUnitFailed s
  | .structureLoad => Sys2Proof.Machine.execStructureLoad s
  | .slotGroupPower g => Sys2Proof.Machine.execSlotGroupPower g s
  | .fabricReady => Sys2Proof.Machine.execFabricReady s
  | .crossbarCellTime => Sys2Proof.Machine.execCrossbarCellTime s
  | .flowControlUpdate port c typ credits => Sys2Proof.Machine.execFlowControlUpdate port c typ credits s
  | .standardLinkRecovery port returned => Sys2Proof.Machine.execStandardLinkRecovery port returned s
  | .checkerLock lane => Sys2Proof.Machine.execCheckerLock lane s
  | .presenceDebounced chan => Sys2Proof.Machine.execPresenceDebounced chan s
  | .flrComplete port func => Sys2Proof.Machine.execFlrComplete port func s
  | .fabricPowerGood => Sys2Proof.Machine.execFabricPowerGood s
  | .devicePortTrainTimeout port => Sys2Proof.Machine.execDevicePortTrainTimeout port s
  | .retryStatusTimeout port => Sys2Proof.Machine.execRetryStatusTimeout port s
  | .troubleJournalWriteDone ok => Sys2Proof.Machine.execTroubleJournalWriteDone ok s
  | .perfCounterOverflow k => Sys2Proof.Machine.execPerfCounterOverflow k s

end Sys2Proof.Machine
end

