-- ==== Sys2Proof/Machine/Tick.lean ====
section
/-! DEFINITION. What happens while no command waits (assumption 1): the timestamp advances, and an error that no command
reports may be corrected or counted (assumption 11). -/

namespace Sys2Proof.Machine

/-- Coach `k` corrects a single-bit error of a line in its cache (R164, R207). -/
def coachCorrects (s : State) (k : Nat) : State :=
  if s.co.cache.any (fun e => e.1 / 64 == k) then count s (R.COACH_CACHE_ECC_CNT k) 0 .once (coachEv k) else s
/-- The link decoder attributes a symbol error to lane `n`, whose receiver is ON (R366, R370). -/
def laneSymErr (s : State) (n : Nat) : State :=
  if rd s (laneReg n 0) 22 21 = 3 then count s (laneReg n 0x20) 0 .once (laneEvent n) else s
/-- The locked checker of lane `n` finds an error; its count stops at 0xFFFF_FFFF (R363). -/
def laneCheckErr (s : State) (n : Nat) : State :=
  if rdBit s (laneReg n 0x14) 24 && rdBit s (laneReg n 0x14) 23 && getReg s (laneReg n 0x18) != 0xFFFFFFFF then
    setReg s (laneReg n 0x18) (getReg s (laneReg n 0x18) + 1)
  else s
/-- Whether an error arises in a cycle, and where, is a free value. -/
def upset (s : State) : State :=
  let v := freeVal s
  let t := usedFree s
  let n := (v.extractLsb' 8 16).toNat
  let onPkt (f : State → Pkt → State) : State := (somePkt t n).elim t (f t)
  match (v.extractLsb' 0 8).toNat with
  | 1 => coachCorrects t (n % 256)
  | 2 => laneSymErr t (n % 562)
  | 3 => laneCheckErr t (n % 562)
  | 4 => onPkt cellCorrects
  | 5 => onPkt cellPoisons
  | 6 => onPkt cellLost
  | _ => t
/-- A candidate of the input of cell `a` waits for nothing but link credits (R550, R255). -/
def creditWait (s : State) (a : Nat) : Bool :=
  s.buf.pkts.any (fun x => eligibleHead s.buf.pkts x && inputAtt s x == a && inputOpen s a &&
    match x.dest with
    | .house _ => false
    | .port p =>
      linkActive s p && ! creditsFor s [] p x &&
        (destAtts s x.dest).any (fun e => ! cellFenced s e && decide (sGet s.buf.staging e 0 + x.cells ≤ 64)))
/-- The value in each cycle of a quantity that the state holds (R550). -/
def perfValue (s : State) (n code inst : Nat) : Nat :=
  match code with
  | 0x01 => 1
  | 0x06 => ((List.range 36).map (fun i => minUsed s n (i / 4) (i % 4) + sharedUsed s n (i / 4) (i % 4))).foldl (· + ·) 0
  | 0x07 => poolUsed s n
  | 0x08 => if inst < 36 then minUsed s n (inst / 4) (inst % 4) + sharedUsed s n (inst / 4) (inst % 4) else 0
  | 0x09 => if inst < 8 then (creditWait s (8 * n + inst)).toNat else 0
  | 0x0A => if inst < 2 then openTrks s (2 * n + inst) else 0
  | 0x0B => if inst < 2 then waitCount s (2 * n + inst) else 0
  | 0x0D => (s.co.units.filter (fun u => houseOf u.coach == n)).length
  | 0x0E => (s.co.reqs.filter (fun r => houseOf r.coach == n && ! r.ended)).length
  | _ => 0
/-- The 16 cycles of FCLK in one of KCLK: each counter that has chosen such a quantity counts its value (R549, R550). -/
def perfTick (s : State) : State :=
  forAll (perfOn s) s (fun t k =>
    match perfSel t k with
    | some q => perfAdd t k (perfGain q (perfValue t q.region q.code q.inst) 16)
    | none => t)
/-- One cycle of KCLK while no command waits: the timestamp advances, the performance counters count and the events of those that
have wrapped are raised, unless the fabric die is held in reset (R39,
R526). -/
def tick (s : State) : State := onFabric s (perfAnnounce (perfTick (upset (wr64 s R.RST_TIME (now s + 1)))))

end Sys2Proof.Machine
end

