-- ==== Sys2Proof/Machine/Layout.lean ====
section
/-! DEFINITION. The words that messages, cells, flits and pair-control slots are on their wires: the header of R100 with the
opcodes of R101 and R294 to R296, the sideband of R280, the cell header and data cell of R235 and R236, the flits of R378 and
the slots of R464 to R466, R471 and R472. Commands carry these fields; this file says at which bits they travel. -/

namespace Sys2Proof.Machine

/-! ### Packing -/

/-- Fields as (width, value), the lowest bits first, as one number; a value gives its low bits. -/
def pack (l : List (Nat × Nat)) : Nat :=
  match l with
  | [] => 0
  | f :: t => f.2 % 2 ^ f.1 + 2 ^ f.1 * pack t
/-- The values of fields of the given widths, the lowest bits first. -/
def unpack (ws : List Nat) (n : Nat) : List Nat :=
  match ws with
  | [] => []
  | w :: t => n % 2 ^ w :: unpack t (n / 2 ^ w)

/-! ### Headers of REQ, RSP and SNP messages (R100, R101) -/

/-- The fields of R100 from bit 0 up. -/
def hdrFields (opc : Nat) (m : Hdr) : List (Nat × Nat) :=
  [(12, 0), (4, m.status.toNat), (1, m.nodata.toNat), (1, m.fwd.toNat), (1, m.poison.toNat), (1, m.wbPending.toNat),
    (1, m.dirty.toNat), (1, m.bcast.toNat), (7, m.dport), (1, m.ddat.toNat), (8, m.dest.toNat), (40, m.laddr.toNat)] ++
  [(10, m.rtag.toNat), (8, m.htxn), (5, m.hslice), (1, m.htwin.toNat), (10, m.tgt.toNat), (10, m.src.toNat), (6, opc)]
def hdrWidths : List Nat := [12, 4, 1, 1, 1, 1, 1, 1, 7, 1, 8, 40, 10, 8, 5, 1, 10, 10, 6]
/-- The 128-bit header. -/
def hdrWord (opc : Nat) (m : Hdr) : BitVec 128 := BitVec.ofNat 128 (pack (hdrFields opc m))
/-- Opcode and fields that a header spells. -/
def readHdr (w : BitVec 128) : Nat × Hdr :=
  let v := unpack hdrWidths w.toNat
  let at' (i : Nat) : Nat := v.getD i 0
  let bit (i : Nat) : Bool := at' i == 1
  (at' 18,
    { src := BitVec.ofNat 10 (at' 17), tgt := BitVec.ofNat 10 (at' 16), htwin := bit 15, hslice := Fin.ofNat 32 (at' 14)
      htxn := Fin.ofNat 256 (at' 13), rtag := BitVec.ofNat 10 (at' 12), laddr := BitVec.ofNat 40 (at' 11)
      dest := BitVec.ofNat 8 (at' 10), ddat := bit 9, dport := Fin.ofNat 128 (at' 8), bcast := bit 7, dirty := bit 6
      wbPending := bit 5, poison := bit 4, fwd := bit 3, nodata := bit 2, status := BitVec.ofNat 4 (at' 1) })

/-- Opcode of a message (R101, R294 to R296, R472, R473, R543); none for a command that is no message. -/
def opcodeOf (c : Instr) : Option Nat :=
  match c with
  | .rdshared _ _ _ _ => some 0x01
  | .rdown _ _ _ _ => some 0x02
  | .upgrade _ _ _ _ => some 0x03
  | .rdcur _ _ _ _ => some 0x04
  | .wrline _ _ _ _ => some 0x05
  | .wrpart _ _ _ _ => some 0x06
  | .wbdirty _ _ _ _ => some 0x07
  | .evict _ _ _ _ => some 0x08
  | .atomicfar _ _ _ _ _ => some 0x09
  | .memrd _ => some 0x10
  | .jrnbatch _ _ => some 0x1C
  | .kpracc _ => some 0x1D
  | .cmps _ => some 0x20
  | .cmpo _ => some 0x21
  | .cmp _ _ => some 0x22
  | .err _ => some 0x23
  | .datago _ => some 0x24
  | .biack _ => some 0x26
  | .biackagg _ _ _ => some 0x27
  | .memcmp _ => some 0x28
  | .ack _ => some 0x29
  | .creditret _ _ _ _ _ _ => some 0x2A
  | .jrnack _ _ => some 0x2C
  | .migack _ _ _ _ => some 0x2D
  | .kprrsp _ => some 0x2E
  | .tagack _ _ _ _ => some 0x2F
  | .backinv _ => some 0x30
  | .backinvBroadcast _ _ => some 0x30
  | .backdown _ => some 0x31
  | .taginv _ _ _ _ => some 0x32
  | .lossNotice _ _ => some 0x34
  | .migmark _ _ => some 0x35
  | .migunmark _ _ => some 0x36
  | .migadvance _ _ => some 0x37
  | .fill _ _ => some 0x38
  | .wbdata _ _ _ => some 0x39
  | .stealreq _ _ => some 0x3A
  | .stealrep _ => some 0x3B
  | .unitend _ => some 0x3C
  | .evtfwd _ _ => some 0x3D
  | .drainmark _ _ _ => some 0x3E
  | .drainecho _ _ _ => some 0x3F
  | _ => none
/-- The fields of R100 that a message carries, where it is one of R101. -/
def hdrOfMsg (c : Instr) : Option Hdr :=
  match c with
  | .rdshared _ _ m _ | .rdown _ _ m _ | .upgrade _ _ m _ | .rdcur _ _ m _ | .wrline _ _ m _ | .wrpart _ _ m _
  | .wbdirty _ _ m _ | .evict _ _ m _ | .atomicfar _ _ m _ _ | .memrd m | .cmps m | .cmpo m | .cmp m _ | .err m | .datago m
  | .biack m | .biackagg _ _ m | .memcmp m | .ack m | .backinv m | .backinvBroadcast _ m | .backdown m | .fill m _
  | .wbdata m _ _ => some m
  | _ => none
/-- The REQ or SNP message at slice `x`, or the RSP message, that opcode `opc` names; the other codes of R101 are reserved
or need more than a header. -/
def plainMsg (opc : Nat) (x : Fin 32) (q : Fin 5) (m : Hdr) : Option Instr :=
  match opc with
  | 0x01 => some (.rdshared x q m)
  | 0x02 => some (.rdown x q m)
  | 0x03 => some (.upgrade x q m)
  | 0x04 => some (.rdcur x q m)
  | 0x05 => some (.wrline x q m)
  | 0x06 => some (.wrpart x q m)
  | 0x07 => some (.wbdirty x q m)
  | 0x08 => some (.evict x q m)
  | 0x10 => some (.memrd m)
  | 0x20 => some (.cmps m)
  | 0x21 => some (.cmpo m)
  | 0x23 => some (.err m)
  | 0x24 => some (.datago m)
  | 0x26 => some (.biack m)
  | 0x28 => some (.memcmp m)
  | 0x29 => some (.ack m)
  | 0x30 => if m.bcast then none else some (.backinv m)
  | 0x31 => some (.backdown m)
  | _ => none

/-! ### Headers of the other messages (R294 to R296, R473, R543) -/

/-- A header whose named fields lie from bit `lo` up, under its opcode in [127:122]; every other bit is zero. -/
def fieldsAt (lo opc : Nat) (l : List (Nat × Nat)) : BitVec 128 := BitVec.ofNat 128 (2 ^ 122 * opc + 2 ^ lo * pack l)
/-- The steal messages: STATUS, MIN, ENTRY, COUNT, FIRST, GEN, INDEX, GRANT, OWNER and THIEF from bit 9 up (R294). -/
def stealWord (opc : Nat) (m : StealMsg) : BitVec 128 :=
  fieldsAt 9 opc [(8, m.status.toNat), (4, m.minimum.toNat), (12, m.entry.toNat), (20, m.count), (20, m.first), (12, m.gen.toNat),
    (16, m.index.toNat), (1, m.grant.toNat), (10, m.owner.toNat), (10, m.thief.toNat)]
/-- MigMark, MigUnmark and MigAdvance: PID, COACH, SEGMENT, W and SLOT from bit 72 up (R295). -/
def migWord (opc : Nat) (m : MigMsg) : BitVec 128 :=
  fieldsAt 72 opc [(1, m.pid.toNat), (10, m.coach.toNat), (16, m.segment.toNat), (19, m.w), (4, m.slot)]
/-- KIND of a MigAck. -/
def kindCode (k : MigKind) : Nat :=
  match k with
  | .mark => 1
  | .unmark => 2
  | .advance => 3
/-- The header of a message that a unit of the twin of identity `tw` sends. Of a DrainMark and a DrainEcho R294 names no
field: the sideband says what they need. -/
def headerOf (tw : Bool) (c : Instr) : Option (BitVec 128) :=
  match opcodeOf c with
  | none => none
  | some o =>
    match hdrOfMsg c with
    | some m => some (hdrWord o m)
    | none =>
      match c with
      | .creditret _ n x k mx sm =>
        some (fieldsAt 76 o [(18, sm.toNat), (16, mx.toNat), (3, k.toNat), (7, x), (2, netNo n)])
      | .stealreq _ m => some (stealWord o m)
      | .stealrep m => some (stealWord o m)
      | .unitend m => some (stealWord o m)
      | .taginv _ h pid l => some (fieldsAt 38 o [(40, l.toNat), (39, 0), (1, pid.toNat), (4, h)])
      | .tagack _ l n pid => some (fieldsAt 38 o [(40, l.toNat), (39, 0), (1, pid.toNat), (4, n)])
      | .lossNotice _ a => some (fieldsAt 111 o [(1, tw.toNat), (10, a.toNat)])
      | .migmark _ m => some (migWord o m)
      | .migunmark _ m => some (migWord o m)
      | .migadvance _ m => some (migWord o m)
      | .migack i k n pid => some (fieldsAt 111 o [(1, pid.toNat), (4, n), (2, kindCode k), (4, i)])
      | .kpracc m =>
        some (fieldsAt 83 o [(26, m.offset.toNat / 4), (8, m.ktag.toNat), (4, FabInit.code m.init), (1, m.wr.toNat)])
      | .kprrsp m => some (fieldsAt 32 o [(32, m.data.toNat), (49, 0), (1, m.err.toNat), (8, m.ktag.toNat)])
      | .jrnbatch x _ => some (fieldsAt 96 o [(5, x), (1, tw.toNat)])
      | .jrnack x q => some (fieldsAt 62 o [(16, q.toNat), (18, 0), (5, x), (1, (! tw).toNat)])
      | .evtfwd e pid => some (fieldsAt 112 o [(1, pid.toNat), (9, e)])
      | _ => some (fieldsAt 0 o [])

/-! ### Payload flits (R151, R294, R296, R471, R472) -/

/-- The control and operand flits of an AtomicFar. -/
def controlFlit (a : AtomicOp) : BitVec 128 :=
  BitVec.ofNat 128 (pack [(6, a.offset.toNat), (117, 0), (1, a.size8.toNat), (4, a.aop.toNat)])
def operandFlit (a : AtomicOp) : BitVec 128 := BitVec.ofNat 128 (pack [(64, a.opA.toNat), (64, a.opB.toNat)])
/-- The result flit of a far atomic. -/
def resultFlit (r : AtomicRes) : BitVec 128 := BitVec.ofNat 128 (pack [(64, r.old.toNat), (1, r.success.toNat)])
/-- ACT of a journal record, and STATE of one that writes an entry. -/
def actCode (a : JrnAct) : Nat :=
  match a with
  | .write => 0
  | .remove => 1
  | .reclaim => 2
  | .empty => 3
/-- A journal record as its 16 bytes (R471): an empty one is zero but for ACT. -/
def recWord (r : JrnRec) : BitVec 128 :=
  if r.act = .empty then BitVec.ofNat 128 (3 * 2 ^ 126)
  else
    fieldsAt 37 0 [(16, r.jseq.toNat), (5, r.slice), (13, r.set), (22, r.tag.toNat), (10, r.ptr2.toNat), (10, r.ptr1.toNat),
      (10, r.ptr0.toNat), (1, r.ovf.toNat), (2, if r.act = .write then (if r.owned then 2 else 1) else 0), (2, actCode r.act)]
/-- The payload flits of a JrnBatch: four records each, with empty ones after the last. -/
def batchFlits (l : List JrnRec) : List (BitVec 512) :=
  (List.range ((l.length + 3) / 4)).map (fun i =>
    BitVec.ofNat 512 (pack ((List.range 4).map (fun j =>
      (128, (recWord (l.getD (4 * i + j) { act := .empty })).toNat)))))
/-- Payload flits of a message on REQ and RSP. -/
def narrowFlits (c : Instr) : List (BitVec 128) :=
  match c with
  | .atomicfar _ _ _ a _ => [controlFlit a, operandFlit a]
  | .cmp _ r => if r.present then [resultFlit r] else []
  | _ => []
/-- Payload flits of a message on DAT. -/
def wideFlits (c : Instr) : List (BitVec 512) :=
  match c with
  | .fill _ d => [d]
  | .wbdata _ d _ => [d]
  | .jrnbatch _ l => batchFlits l
  | .stealrep m => if m.grant then [m.desc] else []
  | .unitend m => [BitVec.ofNat 512 (pack [(64, m.result0.toNat), (64, m.result1.toNat), (32, m.errOffset.toNat)])]
  | .kpracc m => if m.wr then [m.data.setWidth 512] else []
  | _ => []
/-- Flits of a message: its header and its payload. -/
def msgFlits (c : Instr) : Nat := 1 + (narrowFlits c).length + (wideFlits c).length

/-! ### The sideband and the slots of the twin link (R280, R464 to R466) -/

/-- The sideband of flit `i` of a message, in [63:0]. -/
def sideband (g : Msg) (i : Nat) : BitVec 64 :=
  BitVec.ofNat 64 (pack [(1, 0), (1, (i + 1 == g.flits).toNat), (1, (i == 0).toNat), (1, g.rvc.toNat), (1, g.cred.toNat),
    (8, g.seq.toNat), (7, g.init), (7, g.dest), (21, g.route.toNat), (16, g.stamp.toNat)])
/-- The slot that starts a message on the twin link, resolved under an epoch of lowest bit `e`. -/
def startSlot (g : Msg) (e : Bool) : BitVec 128 :=
  BitVec.ofNat 128 (pack [(64, (sideband g 0).toNat), (58, 0), (3, g.flits), (1, e.toNat)])
/-- Pair state codes (R468). -/
def stateCode (p : PairState) : Nat :=
  match p with
  | .starting => 0
  | .joining => 1
  | .paired => 2
  | .alone => 3
  | .stoodDown => 4
  | .handing => 5
/-- A beacon; on the wire its CRC-32C follows. -/
def beaconWord (b : Beacon) : BitVec 128 :=
  BitVec.ofNat 128 (pack [(32, b.pairTag.toNat), (32, b.epoch.toNat), (28, 0), (16, b.regions.toNat), (8, b.bseq.toNat),
    (3, stateCode b.state), (1, b.pid.toNat), (8, 1)])
/-- CODE, ARG0 and ARG1 of a pair-control message (R466). -/
def pairArgs (c : Instr) : Option (Nat × Nat × Nat) :=
  let bound (p : Fin 128) (st : BindState) (g : BitVec 16) : Nat := p * 2 ^ 32 + bindCode st * 2 ^ 16 + g.toNat
  match c with
  | .prepare h e => some (0x02, h.toNat, e.toNat)
  | .prepared h => some (0x03, h.toNat, 0)
  | .refused h o i k => some (0x04, h.toNat, o.toNat * 2 ^ 32 + i.toNat * 2 ^ 8 + k.toNat)
  | .switch h e => some (0x05, h.toNat, e.toNat)
  | .switched h => some (0x06, h.toNat, 0)
  | .abort h => some (0x07, h.toNat, 0)
  | .shadowWr h o v => some (0x08, h.toNat, o.toNat * 2 ^ 32 + v.toNat)
  | .shadowAck h o => some (0x09, h.toNat, o.toNat * 2 ^ 32)
  | .bind p st g => some (0x0A, 0, bound p st g)
  | .bindAck p st g => some (0x0B, 0, bound p st g)
  | .handover => some (0x0C, 0, 0)
  | .handoverDone => some (0x0D, 0, 0)
  | .homing x b => some (0x0E, 0, b.toNat * 2 ^ 8 + x)
  | .homingDone x b => some (0x0F, 0, b.toNat * 2 ^ 8 + x)
  | .syncDone x => some (0x10, 0, x)
  | _ => none
/-- The slot of a pair-control message of a twin of identity `pid`. -/
def pairSlot (pid : Bool) (c : Instr) : Option (BitVec 128) :=
  (pairArgs c).map (fun a => BitVec.ofNat 128 (pack [(64, a.2.2), (32, a.2.1), (23, 0), (1, pid.toNat), (8, a.1)]))

/-! ### Cells (R235, R236) -/

/-- Bytes of the packet that a load is. -/
def loadBytes (l : Load) : Nat :=
  match l with
  | .switched p => p.bytes
  | .peer _ n => n
  | _ => 80
/-- The packet's payload is poisoned. -/
def loadPoison (l : Load) : Bool :=
  match l with
  | .switched p => p.poison
  | .read m _ => m.poison
  | .line m _ _ => m.poison
  | _ => false
/-- The header of cell `i` of a packet that crosses from its input to its output attachment. -/
def cellHeader (x : Pkt) (i : Nat) : BitVec 64 :=
  let fstCell := i == 0
  let lstCell := i + 1 == x.cells
  BitVec.ofNat 64 (pack [(28, 0), (1, (x.poison || loadPoison x.load).toNat),
    (7, if lstCell then loadBytes x.load - 128 * (x.cells - 1) else 0), (6, if fstCell then x.cells else i), (1, lstCell.toNat),
    (1, fstCell.toNat), (2, typNo x.typ), (2, x.cls), (8, x.inAtt), (8, x.outAtt)])
/-- The data header: HTXN, RTAG, LADDR, POISON and STATUS at the positions of R100. -/
def dataHeader (m : Hdr) : BitVec 128 :=
  hdrWord 0 { src := 0, tgt := 0, htxn := m.htxn, rtag := m.rtag, laddr := m.laddr, poison := m.poison, status := m.status }
/-- The 80 bytes of a data cell: the data header, then the line. -/
def dataCell (m : Hdr) (d : LineData) : BitVec 640 := d ++ dataHeader m

/-! ### Flits of own-protocol links (R378 to R381) -/

/-- KIND of R379; the codes that are not listed are reserved. -/
inductive FlitKind where
  | data | idle | ack | nak | replay | ctrl | comp
deriving DecidableEq, Repr

def FlitKind.code (k : FlitKind) : Nat :=
  match k with
  | .data => 0
  | .idle => 1
  | .ack => 2
  | .nak => 3
  | .replay => 4
  | .ctrl => 5
  | .comp => 7
/-- The kind carries acknowledgement and credit fields. -/
def FlitKind.acks (k : FlitKind) : Bool :=
  match k with
  | .data | .ack | .nak | .replay => true
  | .idle | .ctrl | .comp => false
/-- The header of a flit, with its control code and argument: fields that its kind does not carry are zero. -/
def flitHeader (k : FlitKind) (f : Flit) (ctl arg : Nat) : BitVec 64 :=
  let only (b : Bool) (n : Nat) : Nat := if b then n else 0
  let dat := decide (k = .data)
  BitVec.ofNat 64 (pack [(8, only (decide (k = .ctrl)) arg), (4, only (decide (k = .ctrl)) ctl),
    (12, only (decide (k = .nak ∨ k = .replay)) f.xseq.toNat), (7, only k.acks f.crCount.toNat), (3, only k.acks f.crVc),
    (12, only k.acks f.ackSeq.toNat), (1, k.acks.toNat), (8, only dat f.len.toNat), (1, only dat f.eop.toNat),
    (1, only dat f.sop.toNat), (3, only dat f.vc), (4, k.code)])
/-- One bit of CRC-64 with the ECMA-182 polynomial, not reflected. -/
def crc64Bit (r : BitVec 64) (b : Bool) : BitVec 64 :=
  if r.getLsbD 63 != b then (r <<< 1) ^^^ 0x42F0E1EBA9EA3693 else r <<< 1
/-- CRC-64 of bytes, the highest bit of each first; all ones at the start, inverted at the end. -/
def crc64 (l : List Byte) : BitVec 64 :=
  l.foldl (fun r b => [7, 6, 5, 4, 3, 2, 1, 0].foldl (fun q i => crc64Bit q (b.getLsbD i)) r) (BitVec.allOnes 64) ^^^
    BitVec.allOnes 64
/-- The bytes of `n` as `k` bytes, the least significant first. -/
def lowFirst (k : Nat) (n : Nat) : List Byte := (List.range k).map (fun i => BitVec.ofNat 8 (n / 2 ^ (8 * i)))
/-- Prefix of the CRC: the sequence of a DATA flit, 0xFFFF for every other kind; its bytes come high byte first, as the bits
of R380's polynomial do (assumption 176). -/
def crcPrefix (k : FlitKind) (seq : BitVec 12) : List Byte := (lowFirst 2 (if k = .data then seq.toNat else 0xFFFF)).reverse
/-- The 256 bytes of a flit with payload `p` of 240 bytes. -/
def flitBytes (k : FlitKind) (f : Flit) (ctl arg : Nat) (p : List Byte) : List Byte :=
  let body := lowFirst 8 (flitHeader k f ctl arg).toNat ++ (List.range 240).map (fun i => if k = .data then p.getD i 0 else 0)
  body ++ lowFirst 8 (crc64 (crcPrefix k f.seq ++ body)).toNat
/-- CTL of the spare-wheel messages: their code and argument, the lane's local index with the second spare in bit 7 (R392). -/
def spareCtl (c : Instr) : Option (Nat × Nat) :=
  let arg (lane : BitVec 5) (second : Bool) : Nat := lane.toNat + 128 * second.toNat
  match c with
  | .spareReq _ lane x => some (1, arg lane x)
  | .spareAck _ lane x => some (2, arg lane x)
  | .spareNak _ lane x => some (3, arg lane x)
  | .spareDone _ lane x => some (4, arg lane x)
  | _ => none
/-- The header of a trunk packet: TYPE, POISON and BYTES (R381). -/
def trunkHeader (p : RxPacket) : BitVec 64 :=
  BitVec.ofNat 64 (pack [(48, 0), (13, p.bytes), (1, p.poison.toNat), (2, typNo p.typ)])

end Sys2Proof.Machine
end

