-- ==== Sys2Proof/Safety.lean ====
section
/-! DEFINITION. The terms in which claims are stated: what a command gives, the parts of the state and what stays as it
was, what is sent, and the invariant that every step keeps. -/

namespace Sys2Proof

open Sys2Proof.Machine

/-- A window of recorded violations: of a port protection unit, a coach-house guard or the twin guard (10, "Registers"). -/
inductive RecordWindow : Nat → Prop where
  | port (c : Nat) : RecordWindow (ppuWindow c)
  | house (n : Nat) : RecordWindow (guardWindow n)
  | twin : RecordWindow twinGuardWindow

/-- The register words in which the units show their own work, by offset: pending events, trouble counters, violation
records, statistics, and the state of queues, channels, slices and pairing. Traffic changes no others. Each name is one of its
array's words, whatever the index. -/
inductive Background : Nat → Prop where
  | evtPend (w : Nat) : Background (R.EVT_PEND w)
  | evtSummary : Background R.EVT_SUMMARY
  | nocErr0 (r : Nat) : Background (R.NOC_ERR_CNT0 r)
  | nocErr1 (r : Nat) : Background (R.NOC_ERR_CNT1 r)
  | nocErr2 (r : Nat) : Background (R.NOC_ERR_CNT2 r)
  | nocErr3 (r : Nat) : Background (R.NOC_ERR_CNT3 r)
  | nocStat (i j k : Nat) (hk : k < 16) : Background (R.NOC_STAT i j + k)
  | bufStatus (n : Nat) : Background (R.RGN_BUF_STATUS n)
  | bufUse (n k : Nat) : Background (R.RGN_BUF_USE n k)
  | bufEcc (n : Nat) : Background (R.RGN_BUF_ECC_CNT n)
  | bufUncorr (n : Nat) : Background (R.RGN_BUF_UNCORR_CNT n)
  | tagEcc (n : Nat) : Background (R.RGN_TAG_ECC_CNT n)
  | meterHeld (n i : Nat) : Background (R.XBAR_METER_HELD n i)
  | tenantStat (t : Nat) : Background (R.STX_TENANT_STAT t)
  | chanStatus : Background R.STX_CHAN_STATUS
  | chanCnt (c : Nat) : Background (R.COACH_CH_CNT c)
  | coachErr (k : Nat) : Background (R.COACH_UNIT_ERR_CNT k)
  | coachLate (k : Nat) : Background (R.COACH_LATE_CNT k)
  | coachEcc (k : Nat) : Background (R.COACH_CACHE_ECC_CNT k)
  | perfLow (k : Nat) : Background (perfBase k + 8)
  | perfHigh (k : Nat) : Background (perfBase k + 8 + 4)
  | perfOverflow (k : Nat) : Background (perfBase k + 0x14)
  | laneErrors (n : Nat) : Background (laneReg n 0x18)
  | laneSymbols (n : Nat) : Background (laneReg n 0x20)
  | linkReplay (l : LinkId) : Background (linkReg l 0x10)
  | linkUnexpected (l : LinkId) : Background (linkReg l 0x14)
  | linkDuplicate (l : LinkId) : Background (linkReg l 0x18)
  | linkTimeout (l : LinkId) : Background (linkReg l 0x20)
  | linkLate (l : LinkId) : Background (linkReg l 0x24)
  | dirCtrl (x : Nat) : Background (R.DIR_CTRL x)
  | dirStatus (x : Nat) : Background (R.DIR_STATUS x)
  | dirEcc (x : Nat) : Background (R.DIR_ECC_CNT x)
  | dirUncorr (x : Nat) : Background (R.DIR_UNCORR_CNT x)
  | dirLost (x : Nat) : Background (R.DIR_LOST_STATUS x)
  | dirTmoLast (x : Nat) : Background (R.DIR_TMO_LAST x)
  | dirTmoLastHigh (x : Nat) : Background (R.DIR_TMO_LAST x + 4)
  | dirTmo (x : Nat) : Background (R.DIR_TMO_CNT x)
  | dirLate (x : Nat) : Background (R.DIR_LATE_CNT x)
  | dirPoison (x : Nat) : Background (R.DIR_POISON_CNT x)
  | dirPark (x : Nat) : Background (R.DIR_PARK_CNT x)
  | dirStall (x : Nat) : Background (R.DIR_JSTALL_CNT x)
  | segUnbound : Background R.SEG_UNBOUND_CNT
  | segTagErr : Background R.SEG_TAG_ERR_CNT
  | segReject : Background R.SEG_DC_REJECT_CNT
  | twinActing : Background R.TWIN_ACTING
  | twinStatus : Background R.TWIN_PAIR_STATUS
  | twinJournal : Background R.TWIN_JRN_STATUS
  | twinCnt1 : Background R.TWIN_CNT1
  | record {w : Nat} (hw : RecordWindow w) (k : Nat) (h1 : 0xC10 ≤ k) (h2 : k < 0xE00) : Background (w + k)

/-- The parts of the state but for the queue of waiting commands; `settings` are the register words that are not in the
background. -/
inductive Part where
  | regs | settings | cap | banks | dev | txn | pair | links | fns | slots | snap | pool | store | noc | buf | dir | dp | hp | co
  | flight | out | fresh
deriving DecidableEq, Repr

/-- Part `p` is the same in both states. -/
def Part.same (p : Part) (s t : State) : Prop :=
  match p with
  | .regs => t.regs = s.regs
  | .settings => ∀ o, ¬ Background o → getReg t o = getReg s o
  | .cap => t.cap = s.cap
  | .banks => t.banks = s.banks
  | .dev => t.dev = s.dev
  | .txn => t.txn = s.txn
  | .pair => t.pair = s.pair
  | .links => t.links = s.links
  | .fns => t.fns = s.fns
  | .slots => t.slots = s.slots
  | .snap => t.snap = s.snap
  | .pool => t.pool = s.pool
  | .store => t.store = s.store
  | .noc => t.noc = s.noc
  | .buf => t.buf = s.buf
  | .dir => t.dir = s.dir
  | .dp => t.dp = s.dp
  | .hp => t.hp = s.hp
  | .co => t.co = s.co
  | .flight => t.flight = s.flight
  | .out => t.out = s.out
  | .fresh => t.fresh = s.fresh

/-- From `s` to `t` only the parts in `l` may have changed, and no waiting command has been added or taken away. -/
def Frame (l : List Part) (s t : State) : Prop := t.pending = s.pending ∧ ∀ p, p ∉ l → p.same s t

/-- What raising an event may change: events and counters, the messages and links that carry it, interrupts and the events of
performance counters. -/
def eventParts : List Part := [.regs, .links, .fns, .snap, .noc, .flight, .out]
/-- What sending over a link may change: the link, performance counters and what leaves. -/
def linkParts : List Part := [.regs, .links, .snap, .out]

/-- Every register word but those at the offsets in `l` is as it was. -/
def RegsBut (l : List Nat) (s t : State) : Prop := ∀ o, o ∉ l → getReg t o = getReg s o

/-- From `s` to `t` the device has sent `o`. -/
def Sent (s t : State) (o : Out) : Prop := ∃ l, t.out = s.out ++ l ∧ o ∈ l

/-- Command `c` completes in state `s` with a next state of which `P` holds. -/
def Gives (c : Instr) (s : State) (P : State → Prop) : Prop := ∃ t, exec c s = .next t ∧ P t

/-- Traffic and the work of the units on it: requests, answers, snoops, journal and migration messages, packets, TLPs, flits
and the ends of their waits, mailbox reads, and what configures nothing. -/
def Instr.traffic (i : Instr) : Bool :=
  match i with
  | .routerFlitArrival .. | .creditret .. | .drainmark .. | .drainecho .. | .regulatedInjection ..
  | .packetReceived .. | .flowTagRefresh .. | .flowControlUpdate .. | .getDynamicCapacityConfiguration ..
  | .getDynamicCapacityExtentList .. | .getEventRecords .. | .clearEventRecords ..
  | .colourInitStart .. | .colourInitDone .. | .memrd .. | .memrdIssue .. | .wbdata .. | .expanderReadData ..
  | .expanderWriteCompletion .. | .memrdTimeout .. | .rdshared .. | .rdown .. | .upgrade .. | .rdcur ..
  | .wrline .. | .wrpart .. | .wbdirty .. | .evict .. | .atomicfar .. | .biackagg .. | .ack ..
  | .homeTimeout .. | .journalStall .. | .journalBatchTimeout .. | .jrnbatch .. | .jrnack .. | .lossNotice ..
  | .purgeScanDone .. | .decayWalk .. | .broadcastAggTimeout .. | .m2sBirsp .. | .m2sBiconflict ..
  | .m2sMemrd .. | .m2sMemrddata .. | .m2sMeminv .. | .m2sMemspecrd .. | .m2sMemclnevct .. | .m2sMemwr ..
  | .m2sMemwrptl .. | .coachTakeUnit .. | .stealreq .. | .stealrep .. | .unitend .. | .landingGrant ..
  | .migmark .. | .migadvance .. | .migunmark .. | .migack .. | .migStepTimeout .. | .taginv .. | .tagack ..
  | .msixUnmask .. | .retryStatusTimeout .. | .dataFlit .. | .ackFlit .. | .replay .. | .compFlit ..
  | .ackIdleExpiry .. | .nakResendTimeout .. | .spareSubst .. | .spareRestore .. | .spareAck ..
  | .restoreReq .. | .restoreAck .. | .descriptorFetchDone .. | .dmaReadTimeout .. | .recordWrite ..
  | .chCtrlAbort .. | .chCtrlReset .. | .bar0Access .. | .doorbell .. | .peerRead .. | .peerWrite ..
  | .peerAtomic .. | .holdListRelease .. | .flr .. | .flrComplete .. | .flrPeerDrained .. | .vfEnableClear ..
  | .busMasterEnableSet .. | .powerStateWrite .. | .configRequest .. | .cmps .. | .cmpo .. | .cmp .. | .err ..
  | .datago .. | .fill .. | .memcmp .. | .biack .. | .backinv .. | .backdown .. | .backinvBroadcast ..
  | .requestTimeout .. | .tagLineFill .. | .crossbarCellTime .. | .syncDone .. | .setrecall ..
  | .takeoverQuietEnd .. | .takeoverComplete .. | .recoverySweepDone .. | .beaconSend .. | .handover ..
  | .devicePortTrainTimeout .. => true
  | _ => false

/-- The commands that reach units of the fabric die alone. -/
def Instr.onFabricDie (i : Instr) : Bool :=
  match i with
  | .routerFlitArrival .. | .creditret .. | .drainmark .. | .drainecho .. | .regulatedInjection ..
  | .packetReceived .. | .flowTagRefresh .. | .flowControlUpdate .. | .auditSweepStart .. | .auditSweepEnd ..
  | .slotPowerOn .. | .slotPowerOff .. | .slotIndicator .. | .slotCommandCompleted .. | .slotGroupPower ..
  | .tagInvalidate .. | .tagInvalidateDone .. | .getDynamicCapacityConfiguration ..
  | .getDynamicCapacityExtentList .. | .getEventRecords .. | .clearEventRecords ..
  | .addDynamicCapacityResponse .. | .bind .. | .bindAck .. | .colourInitStart .. | .colourInitDone ..
  | .memrd .. | .memrdIssue .. | .wbdata .. | .expanderReadData .. | .expanderWriteCompletion ..
  | .memrdTimeout .. | .rdshared .. | .rdown .. | .upgrade .. | .rdcur .. | .wrline .. | .wrpart ..
  | .wbdirty .. | .evict .. | .atomicfar .. | .biackagg .. | .ack .. | .homeTimeout .. | .journalStall ..
  | .journalBatchTimeout .. | .jrnbatch .. | .jrnack .. | .lossNotice .. | .purgeScanDone .. | .dirPurge ..
  | .decayWalk .. | .dirAtomCfgWrite .. | .dirDrain .. | .dirPeek .. | .broadcastAggTimeout .. | .m2sBirsp ..
  | .m2sBiconflict .. | .m2sMemrd .. | .m2sMemrddata .. | .m2sMeminv .. | .m2sMemclnevct .. | .m2sMemwr ..
  | .m2sMemwrptl .. | .coachTakeUnit .. | .stealreq .. | .stealrep .. | .unitend .. | .landingGrant ..
  | .migmark .. | .migadvance .. | .migunmark .. | .migack .. | .migStepTimeout .. | .taginv .. | .tagack ..
  | .coachFault .. | .coachRetire .. | .coachRetireDone .. | .coachSelfTestDone .. | .coachReinstate ..
  | .msixUnmask .. | .retryStatusTimeout .. | .dataFlit .. | .flitCrcFail .. | .ackFlit .. | .nak ..
  | .replay .. | .ackIdleExpiry .. | .nakResendTimeout .. | .replayTimeout .. | .lanePowerForce ..
  | .loopbackModeWrite .. | .checkerLock .. | .spareSubst .. | .spareRestore .. | .spareFailure ..
  | .laneFailing .. | .spareReq .. | .spareAck .. | .spareNak .. | .spareDone .. | .spareReqResend ..
  | .spareAligned .. | .restoreReq .. | .restoreAck .. | .perfCounterOverflow .. | .descriptorFetchDone ..
  | .dmaReadTimeout .. | .recordWrite .. | .chCtrlAbort .. | .chCtrlReset .. | .chanCreate .. | .chanDestroy ..
  | .chanReset .. | .chanRehome .. | .bar0Access .. | .doorbell .. | .peerRead .. | .peerWrite ..
  | .peerAtomic .. | .holdListRelease .. | .flr .. | .flrComplete .. | .flrPeerDrained .. | .vfEnableClear ..
  | .busMasterEnableSet .. | .powerStateWrite .. | .configRequest .. | .cmps .. | .cmpo .. | .cmp .. | .err ..
  | .datago .. | .fill .. | .memcmp .. | .biack .. | .backinv .. | .backdown .. | .backinvBroadcast ..
  | .requestTimeout .. | .tagLineFill .. | .releaseDynamicCapacity .. | .purgeSweepDone ..
  | .crossbarCellTime .. | .shadowWr .. | .shadowAck .. | .prepare .. | .epochDrainDone .. | .prepared ..
  | .refused .. | .switch .. | .switched .. | .abort .. | .linkDown .. | .cellFence .. | .cellUnfence ..
  | .linkTrained .. | .linkRetrain .. | .recoveryTimeout .. | .standardLinkRecovery .. | .deviceWriteTimeout ..
  | .serdesPllLockLoss .. | .sliceResetDone .. | .directorySliceRepair .. | .homing .. | .homingDone ..
  | .syncDone .. | .setrecall .. | .takeover .. | .takeoverQuietEnd .. | .takeoverComplete ..
  | .recoverySweepDone .. | .beaconSend .. | .beaconWindowMiss .. | .beacon .. | .joinWaitExpiry ..
  | .handoverWrite .. | .handover .. | .handoverDone .. | .coachReset .. | .sliceReset .. | .bankReset ..
  | .routerParityError .. | .thermal .. | .handoverDrained .. | .regionSelfTestDone .. | .structureLoad ..
  | .fabricReady .. | .devicePortTrainTimeout .. | .snapshotCapture .. | .snapshotRecordDone .. | .kpracc ..
  | .kprrsp .. | .reservationExpiry .. => true
  | _ => false

/-- The words at which a write starts an operation or is kept in a form of its own; a write of any other word acts by the access
codes of its fields alone (R13). -/
def startsAction (o : Nat) : Bool :=
  let r := (regionOff o).2
  let k := r % 0x40000
  let h := r - 0x100000
  if inRegions o then
    match r / 0x40000 with
    | 1 | 2 => (decide (0x40 ≤ k) && decide (k < 0x50)) || k == 0x88 || (decide (0x200 ≤ k) && decide (k < 0x300) && k % 0x40 == 4) ||
        (decide (0x400 ≤ k) && decide (k < 0x440) && k % 16 == 4) ||
        (decide (0x1000 ≤ k) && decide (k < 0x2100) && (k % 0x100 == 0x10 || k % 0x100 == 0x14))
    | 4 | 5 => (decide (0x1000 ≤ h) && decide (h < 0x2000) && h % 0x100 == 0) ||
        (decide (0x40000 ≤ h) && decide (h < 0x60000) && h % 0x20 == 0xC)
    | 6 | 7 => [0, 0x10, 0x20, 0x30].contains (sliceOff 0 r).2
    | 10 => r == 0x280000
    | 11 => decide (r < 0x2C0200) && r % 0x20 == 0
    | _ => false
  else
    [R.RST_OTP_CTRL, R.RST_SW, R.RST_TWIN_ORDER, R.STX_TXN_CTRL, R.STX_IMG_LOAD, R.STX_CHAN_CMD, R.STX_TENANT_CNT_CLEAR,
      R.PERF_SNAP_CTRL, R.TWIN_PAIR_CTRL, R.TWIN_SPARE_CTRL, R.TWIN_LINK_CTRL].contains o ||
    (decide (R.STX_CHAN_ARG0 ≤ o) && decide (o < R.STX_CHAN_HANDLE)) ||
    (decide (R.EVT_PEND 0 ≤ o) && decide (o < R.EVT_PEND 0 + 0x40)) ||
    (decide (R.EVT_TWIN_PEND 0 ≤ o) && decide (o < R.EVT_TWIN_PEND 0 + 0x40)) ||
    (decide (R.PERF_CHIP_CTR_SEL 0 ≤ o) && decide (o < R.PERF_CHIP_CTR_SEL 0 + 0x800) && o % 0x20 == 0) ||
    (decide (0xE001000 ≤ o) && decide (o < 0xE002200) && (o % 0x100 == 0x10 || o % 0x100 == 0x14))

/-- A plain word of the management space: no word of the image buffer, no counter-clear register, no structural field, and no
write of it starts an operation. -/
def plainWord (o : Nat) : Bool :=
  (imgBufWord o).isNone && (clearsAt o).isEmpty && structMask o == 0 && ! startsAction o

/-- The message that arrives by command `c` comes to its destination interface, whose unit is in service: `u` is the state in
which the unit acts (R284, R286, R289, R290). -/
def Arrives (s : State) (c : Instr) (u : State) : Prop :=
  eject s c = (u, true) ∧ ∀ x, msgUnit c = some x → unitDown u x = false

/-- The form that the state keeps: register words and store bytes in their canonical form, so that equal contents are equal
data. -/
def Inv (s : State) : Prop := sWf s.regs resetWord = true ∧ Memory.wf s.store = true

/-- A safe run of a command stops with no fault. -/
def Safe (c : Instr) (s : State) : Prop := ∃ t, exec c s = .next t

end Sys2Proof
end

