-- ==== Sys2Proof/Certificates/Slice0/Obligations.lean ====
section
/-! DEFINITION. The statements for the provers. Each says in its docstring what it claims; `Gives c s P` says that command
`c` completes in `s` with a next state of which `P` holds, and `Frame l s t` that no part but those in `l` has changed. -/

open Sys2Proof Sys2Proof.Machine

/-! ### The block as a whole -/

/-- A step takes the command at the front of the queue and runs it on the state with the rest of the queue. -/
def Obligations.StepRunsFrontCommand : Prop :=
  ∀ (c : Instr) (s : State) (rest : List Instr), s.pending = c :: rest → step s = exec c { s with pending := rest }

/-- With no command waiting one cycle of KCLK passes (the model's choice, assumption 1): a fabric die in reset stays as it
is; otherwise the timestamp RST_TIME advances by one, and beyond it only what units show of their own work, a packet that an error
strikes, events with what carries them, and the use of free values may change. -/
def Obligations.IdleStepCountsTime : Prop :=
  ∀ s : State, s.pending = [] →
    ∃ t, step s = .next t ∧ (s.dev.fabReset = true → t = s) ∧
      (s.dev.fabReset = false → getReg t R.RST_TIME = (now s + 1).extractLsb' 0 32 ∧
        getReg t (R.RST_TIME + 4) = (now s + 1).extractLsb' 32 32) ∧
      (∀ o, o ∉ [R.RST_TIME, R.RST_TIME + 4] → ¬ Background o → getReg t o = getReg s o) ∧
      Frame (.settings :: .buf :: .fresh :: eventParts) s t

/-- The machine right after reset: both dies are held in reset, every register word is at its reset value with no structural
bits, the store lists no byte, nothing travels, nothing has been sent and no command waits. -/
def Obligations.ResetState : Prop :=
  State.reset.dev.pkgReset = true ∧ State.reset.dev.fabReset = true ∧
    (∀ o, getReg State.reset o = resetWord o ∧ liveWord State.reset o = 0) ∧
    (∀ a, storeByte State.reset a = Config.erased) ∧
    State.reset.flight = [] ∧ State.reset.out = [] ∧ State.reset.pending = []

/-- Register words and store bytes are in canonical form in the state after reset. -/
def Obligations.ResetMeetsInvariant : Prop := Inv State.reset

/-- Every step keeps the canonical form of the register words and of the store. -/
def Obligations.StepKeepsInvariant : Prop := ∀ s t : State, Inv s → step s = .next t → Inv t

/-- No command takes a waiting command away or adds one, takes back what has been sent, or uses a free value twice. -/
def Obligations.CommandsKeepQueueAndHistory : Prop :=
  ∀ (c : Instr) (s t : State), exec c s = .next t → t.pending = s.pending ∧ s.out <+: t.out ∧ s.fresh ≤ t.fresh

/-- Every command completes in every state, but for an SPI-mode command at a store offset that the store does not have. -/
def Obligations.EveryCommandCompletes : Prop :=
  ∀ (c : Instr) (s : State), (∃ t, exec c s = .next t) ∨
    (s.dev.spiMode = true ∧ exec c s = .fault .storeOutside ∧
      ((∃ off len, c = .spiRead off len ∧ 0x10000000 < off.toNat + len) ∨
       (∃ off data, c = .spiProgram off data ∧ 0x10000000 ≤ off.toNat) ∨
       (∃ off, c = .spiErasePage off ∧ 0x10000000 ≤ off.toNat)))

/-- While the fabric die is held in reset, a command that reaches units of the fabric die alone changes nothing. -/
def Obligations.FabricInResetDoesNothing : Prop :=
  ∀ (c : Instr) (s : State), c.onFabricDie = true → s.dev.fabReset = true → exec c s = .next s

/-- Traffic and what configures nothing change no configuration: neither structure bank, no register word but events,
counters, records and states of units, no state of the dies, the transaction unit, the slots or the store. -/
def Obligations.TrafficChangesNoConfiguration : Prop :=
  ∀ (c : Instr) (s t : State), c.traffic = true → exec c s = .next t →
    Frame [.regs, .cap, .pair, .links, .fns, .snap, .pool, .noc, .buf, .dir, .dp, .hp, .co, .flight, .out, .fresh] s t

/-! ### Management accesses -/

/-- A served management write of a plain word sets its fields by their access codes and changes nothing else; one of the image
buffer holds the word; one of a counter-clear register clears counters; one that starts an operation does what the operation
does, and a GO bit of 0 starts none. -/
def Obligations.RegisterWriteByAccessCodes : Prop :=
  ∀ (init : FabInit) (off : Offset) (val : Word) (s : State),
    s.dev.pkgReset = false → unserved s off.toNat = false → fabricGuard s init off.toNat true = none →
    (plainWord off.toNat = true → Gives (.registerWrite init off val) s (fun t =>
      getReg t off.toNat = writeBits off.toNat (getReg s off.toNat) val ∧ RegsBut [off.toNat] s t ∧
        Frame [.regs, .settings] s t)) ∧
    (∀ i, imgBufWord off.toNat = some i → Gives (.registerWrite init off val) s (fun t =>
      sGet t.dev.imgBuf i 0 = val ∧ (∀ j, j ≠ i → sGet t.dev.imgBuf j 0 = sGet s.dev.imgBuf j 0) ∧ Frame [.dev] s t)) ∧
    (clearsAt off.toNat ≠ [] →
      exec (.registerWrite init off val) s = exec (.counterClearWrite init off val) s) ∧
    (off.toNat = R.STX_TXN_CTRL → (bitAt val 31 = false → exec (.registerWrite init off val) s = .next s) ∧
      (bitAt val 31 = true →
        (fld val 3 0 = 1 → exec (.registerWrite init off val) s = exec (.txnBegin init) s) ∧
        (fld val 3 0 = 2 → exec (.registerWrite init off val) s = exec (.txnCommit init) s) ∧
        (fld val 3 0 = 3 → exec (.registerWrite init off val) s = exec (.txnRollback init) s) ∧
        (fld val 3 0 = 4 → exec (.registerWrite init off val) s = exec (.txnJoin init) s) ∧
        (fld val 3 0 = 5 → exec (.registerWrite init off val) s = exec (.txnPersist init) s))) ∧
    (off.toNat = R.STX_CHAN_CMD → s.dev.fabReset = false →
      (bitAt val 31 = false → exec (.registerWrite init off val) s = .next s) ∧
      (bitAt val 31 = true →
        (fld val 3 0 = 1 → exec (.registerWrite init off val) s = exec .chanCreate s) ∧
        (fld val 3 0 = 2 → exec (.registerWrite init off val) s = exec .chanDestroy s) ∧
        (fld val 3 0 = 3 → exec (.registerWrite init off val) s = exec .chanReset s) ∧
        (fld val 3 0 = 4 → exec (.registerWrite init off val) s = exec .chanRehome s)))

/-- A management write or read that the fabric guard refuses reaches no register: only the guard's log, its counters and the
pending events change, and the read returns 0xFFFFFFFF. -/
def Obligations.RefusedManagementAccess : Prop :=
  ∀ (init : FabInit) (off : Offset) (val : Word) (d : Denied) (s : State),
    s.dev.pkgReset = false →
    (fabricGuard s init off.toNat true = some d →
      Gives (.registerWrite init off val) s (fun t =>
        (∀ o, ¬ Background o → (o < fgWindow + 0xC10 ∨ fgWindow + 0xE00 ≤ o) → getReg t o = getReg s o) ∧
          Frame (.settings :: eventParts) s t)) ∧
    (fabricGuard s .smbus off.toNat false = some d →
      Gives (.wideRegisterLowRead .smbus off) s (fun t => Sent s t (.smb (some 0xFFFFFFFF))))

/-- A read of the lowest word of a register captures its other words at the same instant and answers the reader; a read of
a higher word answers what was captured; a read of an offset that no register occupies answers zero. -/
def Obligations.WideRegisterReadCaptures : Prop :=
  ∀ (off : Offset) (r : RegRow) (i : Nat) (s : State),
    s.dev.pkgReset = false → unserved s off.toNat = false → fabricGuard s .endpoint off.toNat false = none →
    (findReg off.toNat = some (r, 0) →
      Gives (.wideRegisterLowRead .endpoint off) s (fun t =>
        t.out = s.out ++ [.mgmt .success (0#32 ++ wordNow s r 0 off.toNat)] ∧
          (∀ j, j + 1 < r.words →
            sGet t.cap (off.toNat + 4 * (j + 1)) 0 =
              wordNow (if measured off.toNat then usedFree s else s) r (j + 1) (off.toNat + 4 * (j + 1))) ∧
          Frame [.cap, .out, .fresh] s t)) ∧
    (findReg off.toNat = some (r, i + 1) →
      exec (.wideRegisterLowRead .endpoint off) s = .next (emit s (.mgmt .success (0#32 ++ sGet s.cap off.toNat 0)))) ∧
    (findReg off.toNat = none → imgBufWord off.toNat = none →
      exec (.wideRegisterLowRead .endpoint off) s = .next (emit s (.mgmt .success 0)))

/-- A write of one to a counter's bit in its counter-clear register sets that counter to zero; no other word changes. In the
clear register of a privileged guard, LOG set empties the guard's log as well. -/
def Obligations.CounterClearWriteClears : Prop :=
  ∀ (init : FabInit) (off : Offset) (val : Word) (s : State),
    s.dev.pkgReset = false → unserved s off.toNat = false → fabricGuard s init off.toNat true = none →
    (off.toNat ≠ R.RST_FG_CNT_CLEAR → off.toNat ≠ R.TWIN_GUARD_CNT_CLEAR →
      Gives (.counterClearWrite init off val) s (fun t =>
        (∀ c ∈ clearsAt off.toNat, bitAt val c.bit = true → fld (getReg t c.off) (c.lo + 15) c.lo = 0) ∧
          RegsBut ((clearsAt off.toNat).map (·.off)) s t ∧ Frame [.regs, .settings] s t)) ∧
    (∀ w, w = off.toNat - 0xCFC → off.toNat = R.RST_FG_CNT_CLEAR ∨ off.toNat = R.TWIN_GUARD_CNT_CLEAR →
      Gives (.counterClearWrite init off val) s (fun t =>
        (bitAt val 0 = true → fld (getReg t (w + 0xC40)) 15 0 = 0) ∧
        (bitAt val 1 = true → fld (getReg t (w + 0xC40)) 31 16 = 0) ∧
        (bitAt val 2 = true → fld (getReg t (w + 0xC20)) 7 4 = 0 ∧
          ∀ k, k < 8 → bitAt (getReg t (w + 0xD00 + 0x20 * k)) 31 = false) ∧
        (bitAt val 2 = false → RegsBut [w + 0xC40] s t) ∧
        RegsBut ([w + 0xC40, w + 0xC20] ++ (List.range 8).map (fun k => w + 0xD00 + 0x20 * k)) s t ∧
        Frame [.regs, .settings] s t))

/-- With no access waiting at the keeper, a read of a keeper-die register is answered at once, by the management endpoint
as one word or as two consecutive words, by the debug master and by the SMBus/I2C target at its latched offset; a read beyond the
management space answers zero. -/
def Obligations.ManagementReadsAnswer : Prop :=
  ∀ (off : Offset) (s : State), s.dev.pkgReset = false →
    (s.dev.stuck = false → s.dev.kq = [] → off.toNat < 0x7FFFFF8 →
      (off.toNat % 4 = 0 → fabricGuard s .endpoint off.toNat false = none →
        Gives (.mgmtEndpointAccess off 4 none) s (fun t =>
          t.out = s.out ++ [.mgmt .success (0#32 ++ (readReg s off.toNat).2)] ∧ Frame [.cap, .out, .fresh] s t)) ∧
      (off.toNat % 8 = 0 → fabricGuard s .endpoint off.toNat false = none → fabricGuard s .endpoint (off.toNat + 4) false = none →
        Gives (.mgmtEndpointAccess off 8 none) s (fun t =>
          t.out = s.out ++ [.mgmt .success
            ((readReg (readReg s off.toNat).1 (off.toNat + 4)).2 ++ (readReg s off.toNat).2)] ∧
          Frame [.cap, .out, .fresh] s t)) ∧
      (fabricGuard s .debug off.toNat false = none →
        Gives (.debugAccess off none) s (fun t =>
          t.out = s.out ++ [.debug (readReg s off.toNat).2] ∧ Frame [.cap, .out, .fresh] s t)) ∧
      (s.dev.smbOffset = off.setWidth 32 → fabricGuard s .smbus off.toNat false = none →
        Gives .smbusReadRegister s (fun t =>
          t.out = s.out ++ [.smb (some (readReg s off.toNat).2)] ∧ Frame [.cap, .out, .fresh] s t))) ∧
    (2 ^ 28 ≤ s.dev.smbOffset.toNat → exec .smbusReadRegister s = .next (emit s (.smb (some 0)))) ∧
    (∀ (w : Nat) (d : Option (BitVec 64)), ¬ (w = 4 ∧ off.toNat % 4 = 0) → ¬ (w = 8 ∧ off.toNat % 8 = 0) →
      exec (.mgmtEndpointAccess off w d) s = .next (emit s (.mgmt .unsupported 0)))

/-- With no access waiting at the keeper, a write by the management endpoint, the debug master or the SMBus/I2C target of a
plain word of the keeper die is performed by its access codes, and one of the fabric die leaves as a keeper access under the
next tag; behind an access whose answer is outstanding it waits. The target latches an offset that is a multiple of 4 and does not
acknowledge another, or a wrong packet error code; beyond the management space a write has no effect. -/
def Obligations.ManagementWritesReach : Prop :=
  ∀ (off : Offset) (val : Word) (s : State), s.dev.pkgReset = false →
    (s.dev.kq = [] → unserved s off.toNat = false → off.toNat % 4 = 0 → onFabricDie off.toNat = false → plainWord off.toNat = true →
      ∀ Done : State → Prop,
        Done = (fun t => getReg t off.toNat = writeBits off.toNat (getReg s off.toNat) val ∧ RegsBut [off.toNat] s t ∧
          Frame [.regs, .settings] s t) →
        (fabricGuard s .endpoint off.toNat true = none → Gives (.mgmtEndpointAccess off 4 (some (val.setWidth 64))) s Done) ∧
        (fabricGuard s .debug off.toNat true = none → Gives (.debugAccess off (some val)) s Done) ∧
        (fabricGuard s .smbus off.toNat true = none → Gives (.smbusWriteRegister (off.setWidth 32) val true) s Done)) ∧
    (∀ k, k = s.dev.ktag → s.dev.kq = [] → unserved s off.toNat = false → off.toNat % 4 = 0 → onFabricDie off.toNat = true →
      (fabricGuard s .endpoint off.toNat true = none → exec (.mgmtEndpointAccess off 4 (some (val.setWidth 64))) s = .next (send
        { s with dev := { s.dev with ktag := k + 1, kq := [⟨.endpoint, [(off, some val)], [], some k⟩] } }
        (.kpracc ⟨true, .endpoint, k, off, val⟩))) ∧
      (fabricGuard s .debug off.toNat true = none → exec (.debugAccess off (some val)) s = .next (send
        { s with dev := { s.dev with ktag := k + 1, kq := [⟨.debug, [(off, some val)], [], some k⟩] } }
        (.kpracc ⟨true, .debug, k, off, val⟩))) ∧
      (fabricGuard s .smbus off.toNat true = none → exec (.smbusWriteRegister (off.setWidth 32) val true) s = .next (send
        { s with dev := { s.dev with ktag := k + 1, kq := [⟨.smbus, [(off, some val)], [], some k⟩] } }
        (.kpracc ⟨true, .smbus, k, off, val⟩)))) ∧
    (∀ a l (w : FabInit → State), s.dev.kq = a :: l → a.tag.isSome = true → off.toNat % 4 = 0 →
      (∀ init, w init = { s with dev := { s.dev with kq := s.dev.kq ++ [⟨init, [(off, some val)], [], none⟩] } }) →
      exec (.mgmtEndpointAccess off 4 (some (val.setWidth 64))) s = .next (w .endpoint) ∧
        exec (.debugAccess off (some val)) s = .next (w .debug) ∧
        exec (.smbusWriteRegister (off.setWidth 32) val true) s = .next (w .smbus)) ∧
    (∀ o : BitVec 32, o.toNat % 4 = 0 →
      exec (.smbusLatchOffset o true) s = .next { s with dev := { s.dev with smbOffset := o } }) ∧
    (∀ (o : BitVec 32) (pec : Bool), o.toNat % 4 ≠ 0 ∨ pec = false →
      exec (.smbusLatchOffset o pec) s = .next (emit s (.smb none)) ∧
        exec (.smbusWriteRegister o val pec) s = .next (emit s (.smb none))) ∧
    (∀ o : BitVec 32, o.toNat % 4 = 0 → 2 ^ 28 ≤ o.toNat → exec (.smbusWriteRegister o val true) s = .next s)

/-- In SPI mode the pin set answers its ID and its status and returns the store's bytes, 0xFF in the device-key record; after
a write enable it starts one program within a page, or one erase, with BUSY set; the end of an operation that has not failed
leaves the bytes in the store and clears BUSY. -/
def Obligations.SpiModeCommands : Prop :=
  ∀ (off : BitVec 32) (len : Nat) (data : List Byte) (s : State), s.dev.spiMode = true →
    exec .spiReadId s = .next (emit s (.spi [0x0B, 0x28, 0x01])) ∧
    exec .spiReadStatus s = .next (emit s (.spi [spiStatus s])) ∧
    exec .spiWriteEnable s = .next { s with dev := { s.dev with spiWel := true } } ∧
    (off.toNat + len ≤ 0x10000000 →
      Gives (.spiRead off len) s (fun t => ∃ bs, t = emit s (.spi bs) ∧ bs.length = len ∧ ∀ i, i < len →
        bs[i]? = some (if 0xA010000 ≤ off.toNat + i ∧ off.toNat + i < 0xA020000 then 0xFF
          else storeByte s (off.toNat + i)))) ∧
    (off.toNat < 0x10000000 → s.dev.spiWel = true → s.dev.spiOp = none → inKeyRecord off.toNat = false →
      supplyTrouble s = false →
      (off.toNat % 4096 + data.length ≤ 4096 →
        Gives (.spiProgram off data) s (fun t => t.dev.spiOp = some (.program off data) ∧ t.dev.spiWel = false ∧
          bitAt (getReg t R.RST_SUP_STATUS) 27 = true ∧ RegsBut [R.RST_SUP_STATUS] s t ∧
          Frame [.dev, .regs, .settings] s t)) ∧
      Gives (.spiErasePage off) s (fun t => t.dev.spiOp = some (.erase off) ∧ t.dev.spiWel = false ∧
        bitAt (getReg t R.RST_SUP_STATUS) 27 = true ∧ RegsBut [R.RST_SUP_STATUS] s t ∧
        Frame [.dev, .regs, .settings] s t)) ∧
    (s.dev.spiOp = some (.program off data) →
      Gives (.spiOperationDone false) s (fun t => t.dev.spiOp = none ∧ t.dev.spiFail = false ∧
        bitAt (getReg t R.RST_SUP_STATUS) 27 = false ∧
        (∀ a, storeByte t a = if off.toNat ≤ a ∧ a < off.toNat + data.length then data.getD (a - off.toNat) 0
          else storeByte s a) ∧
        RegsBut [R.RST_SUP_STATUS] s t ∧ Frame [.dev, .store, .regs, .settings] s t)) ∧
    (s.dev.spiOp = some (.erase off) →
      Gives (.spiOperationDone false) s (fun t => t.dev.spiOp = none ∧ bitAt (getReg t R.RST_SUP_STATUS) 27 = false ∧
        (∀ a, storeByte t a = if a / 4096 = off.toNat / 4096 then 0xFF else storeByte s a) ∧
        Frame [.dev, .store, .regs, .settings] s t))

/-- MGMT_PERST_N resets the management endpoint alone: its MSI-X table returns to its reset values and nothing else
changes. -/
def Obligations.ManagementEndpointReset : Prop :=
  ∀ s : State, exec .mgmtPerst s = .next { s with dev := { s.dev with mgmtMsix := [] } }


/-! ### Clocks, fences and the host's CXL.mem interface -/

/-- Loss of REFCLK puts the fabric die into reset with no clock shown in RST_CLK_STATUS, and loss of the root PLL's lock with
REFCLK present does the same and shows REFCLK. REFCLK's return ends the loss; once the start-up step, power and clock
allow it, the fabric die is released with RST_TIME at zero. -/
def Obligations.ClockLossHoldsFabric : Prop :=
  ∀ s : State, s.dev.pkgReset = false →
    Gives .refclkLoss s (fun t => t.dev.fabReset = true ∧ t.dev.clkBad = true ∧ fld (getReg t R.RST_CLK_STATUS) 3 0 = 0) ∧
    (s.dev.fabReset = false → Gives .rootPllLockLoss s (fun t =>
      t.dev.fabReset = true ∧ t.dev.clkBad = true ∧ fld (getReg t R.RST_CLK_STATUS) 3 0 = 5)) ∧
    (s.dev.clkBad = true → Gives .refclkRestored s (fun t => t.dev.clkBad = false ∧
      (s.dev.fabReset = true → s.dev.stopDue = false → rd s R.RST_BRINGUP 3 0 = 2 → rdBit s R.RST_SUP_STATUS 29 = true →
        t.dev.fabReset = false ∧ getReg t R.RST_TIME = 0 ∧ getReg t (R.RST_TIME + 4) = 0)))

/-- A fence of a unit whose management parent is in reset is held with its event raised; any other takes effect by the rule for
the unit. A fence is lifted unless the parent is in reset. The loss of a SerDes PLL's lock takes down the links of its ports
alone, in order, and the twin link where it is among them. -/
def Obligations.FencesAndSerdesLoss : Prop :=
  ∀ s : State, s.dev.fabReset = false →
    (∀ v u, Arrives s (.cellFence v) u →
      (parentDown u v = true → exec (.cellFence v) s = .next (settleUnits (raiseEv
        { u with dev := { u.dev with
          faultsHeld := if u.dev.faultsHeld.contains v then u.dev.faultsHeld else u.dev.faultsHeld ++ [v] } }
        (unitEvent v)))) ∧
      (parentDown u v = false → exec (.cellFence v) s = .next (settleUnits (fenceUnit u v)))) ∧
    (∀ v, (parentDown s v = true → exec (.cellUnfence v) s = .next s) ∧
      (parentDown s v = false → exec (.cellUnfence v) s = .next (settleUnits (unfenceUnit s v)))) ∧
    (∀ ports : List (Fin 128),
      exec (.serdesPllLockLoss ports false) s =
        .next (settleUnits (ports.foldl (fun (t : State) (p : Fin 128) => if portValid t p then loseLink t p 0 else t) s)) ∧
      exec (.serdesPllLockLoss ports true) s =
        .next (settleUnits (twinDown (ports.foldl (fun (t : State) (p : Fin 128) => if portValid t p then loseLink t p 0 else t) s))))

/-- A request of a host (MemRd, MemRdData, MemInv with MetaValue A, MemClnEvct, MemWr, MemWrPtl) on a port that serves CXL.mem
completes by the rules of the epoch in which it arrives: one for a segment that the port may not reach, or for a home without
back-invalidation, is refused; one that passes the checks of step 4 is sent under a free tag, but for the hints that no home
takes part in, which are completed at once; with no tag free it waits. MemSpecRd, and MemInv with a MetaValue other than A, do
nothing but complete. -/
def Obligations.HostRequests : Prop :=
  ∀ (p : Fin 128) (mv : MetaVal) (nt : Bool) (addr : BitVec 64) (tag : BitVec 16) (d : LineData) (mask : BitVec 64) (x : Bool)
    (s : State), s.dev.fabReset = false → hostUp s p = true →
    (∃ gives : Instr → State,
      exec (.m2sMemrd p mv addr tag) s = .next (gives (.m2sMemrd p mv addr tag)) ∧
      exec (.m2sMemrddata p addr tag) s = .next (gives (.m2sMemrddata p addr tag)) ∧
      exec (.m2sMeminv p nt .A addr tag) s = .next (gives (.m2sMeminv p nt .A addr tag)) ∧
      exec (.m2sMemclnevct p addr tag) s = .next (gives (.m2sMemclnevct p addr tag)) ∧
      exec (.m2sMemwr p addr tag d x) s = .next (gives (.m2sMemwr p addr tag d x)) ∧
      exec (.m2sMemwrptl p addr tag d mask x) s = .next (gives (.m2sMemwrptl p addr tag d mask x)) ∧
      ∀ (c : Instr) (h : HostCmd) (u t : State) (b : SMap Word),
        (c = .m2sMemrd p mv addr tag ∨ c = .m2sMemrddata p addr tag ∨ c = .m2sMeminv p nt .A addr tag ∨
          c = .m2sMemclnevct p addr tag ∨ c = .m2sMemwr p addr tag d x ∨ c = .m2sMemwrptl p addr tag d mask x) →
        hostCmd c = some h →
        u = (if h.data.isSome then
          advertise (takeMin (unback s p (homedClass s) 1) (portRegion p) (portIdx p) (homedClass s) 1) p (homedClass s) else s) →
        b = bankFor u (some (epochBit s)) →
        (portReach b p h.addr = false → lateWrite u b h = false → gives c = refuseUnbound u h (homedIn b)) ∧
        (portReach b p h.addr = true ∨ lateWrite u b h = true →
          (segMode b (segOf h.addr) = 1 → biOn u p = false →
            gives c = raiseEv (refuseUnbound u h (homedIn b)) (linkEv (p / 4))) ∧
          ((segMode b (segOf h.addr) = 1 → biOn u p = true) → hostVerdict u h (epochBit s) false = .pass t → keptWrite u h = none →
            (segMode b (segOf h.addr) ≠ 1 → h.kind = .upgrade → gives c = s2m t p h.tag .cmpE) ∧
            (segMode b (segOf h.addr) ≠ 1 → h.kind = .evict → gives c = s2m t p h.tag .cmp) ∧
            (segMode b (segOf h.addr) = 1 ∨ h.kind ≠ .upgrade ∧ h.kind ≠ .evict →
              (h.data.isSome = true → segMode b (segOf h.addr) = 1 → snoopOpen t p (addrLine h.addr) = false) →
              (∀ g, freeHostTag t p = some g → gives c = startHost t
                { port := p, rtag := g, hostTag := h.tag, job := none, kind := h.kind, line := addrLine h.addr
                  direct := ! (segMode b (segOf h.addr) == 1), data := h.data, cell := h.data.map (fun _ => false), cls := homedIn b
                  captured := false, checked := true, ended := false, grant := none, got := none } ⟨0, false, 0, 0, 0⟩
                  (epochBit s)) ∧
              (freeHostTag t p = none →
                gives c = withHp t { t.hp with waiting := t.hp.waiting ++ [⟨c, epochBit s⟩] }))))) ∧
    exec (.m2sMemspecrd p addr tag) s = .next s ∧
    (mv ≠ .A → exec (.m2sMeminv p nt mv addr tag) s = .next (s2m s p tag .cmp))

/-- A host's BIRsp answers the oldest snoop it names, which then waits no longer: with dirty data that the cell keeps where the
host has sent writes of the line that it has not forwarded, and with the writes that it has. BIConflict is answered at once where
no completion for its line is held. -/
def Obligations.HostSnoopAnswers : Prop :=
  ∀ (p : Fin 128) (tag : BitVec 16) (s : State), s.dev.fabReset = false → hostUp s p = true →
    (∀ q sh t l, s.hp.snps.find? (fun q => q.port == p.val && q.tag == tag) = some q →
      t = forAll (unsentWrites s p q.m.laddr) (withHp s { s.hp with snps := s.hp.snps.erase q }) keepWrite →
      l = t.hp.reqs.filter (fun r => r.port == p.val && r.line == q.m.laddr && isWrite r.kind && r.job.isNone) →
      exec (.m2sBirsp p sh tag) s = .next (answerSnoop t (portRegion p) q.m q.agg (agentId s p)
        (! (l.filter (·.captured)).isEmpty) (l.any (fun r => ! r.captured)) (((l.filter (·.captured)).map (·.rtag)).headD 0))) ∧
    (∀ addr, s.hp.confs = [] → s.hp.reqs.all (fun r => ! (r.port == p.val && r.line == addrLine addr.toNat)) = true →
      exec (.m2sBiconflict p addr tag) s = .next (emit s (.s2m p tag .biConflictAck)))

/-! ### Tag caches, the mailbox and bindings -/

/-- Every line of a region's tag cache is dropped by an invalidation, which shows BUSY until it is done. A line that arrives
is installed as the most recently used of its set and the accesses that waited for it go on; a line in error is read once
more, and a second error refuses them; a line that was invalidated while it was read is read again. -/
def Obligations.TagCacheCommands : Prop :=
  ∀ (n : Fin 16) (s : State), s.dev.fabReset = false →
    Gives (.tagInvalidate n) s (fun t => (∀ k, k / 512 = n.val → sGet t.pool.tags k [] = []) ∧
      (∀ k, k / 512 ≠ n.val → sGet t.pool.tags k [] = sGet s.pool.tags k []) ∧
      bitAt (getReg t (R.RGN_TAG_STATUS n)) 0 = true ∧ RegsBut [R.RGN_TAG_STATUS n] s t ∧
      Frame [.pool, .regs, .settings] s t) ∧
    Gives (.tagInvalidateDone n) s (fun t => bitAt (getReg t (R.RGN_TAG_STATUS n)) 0 = false ∧
      RegsBut [R.RGN_TAG_STATUS n] s t ∧ Frame [.regs, .settings] s t) ∧
    (∀ line data ecc u w, Arrives s (.tagLineFill n line data ecc) u →
      u.pool.tagWaits.find? (fun w => w.region == n && w.line == line) = some w →
      ∀ others, others = u.pool.tagWaits.filter (fun v => ! (v.region == n && v.line == line)) →
      ∀ gone, gone = { u with pool := { u.pool with tagWaits := others } } →
      (w.stale = true → exec (.tagLineFill n line data ecc) s = .next (dpRead
        { u with pool := { u.pool with tagWaits := others ++ [{ w with stale := false }] } } (portFor u n (lineAddr line)) line
        0x3FF (some (epochBit u)) (.tag n line))) ∧
      (w.stale = false → ecc = .clean → exec (.tagLineFill n line data ecc) s =
        .next (settleAll (w.held.foldl (fun t x => tagUser t line false x) (tagInstall gone n line data)))) ∧
      (w.stale = false → ecc = .uncorrectable → w.again = true → exec (.tagLineFill n line data ecc) s =
        .next (settleAll (w.held.foldl (fun t x => tagUser t line true x) gone))) ∧
      (w.stale = false → ecc = .uncorrectable → w.again = false → exec (.tagLineFill n line data ecc) s = .next (dpRead
        { u with pool := { u.pool with tagWaits := others ++ [{ w with again := true }] } } (portFor u n (lineAddr line)) line
        0x3FF (some (epochBit u)) (.tag n line))))

/-- The mailbox of a host port in DL_Active answers one region of 64 TiB in 1 GiB blocks, the extents and the event records
of its pool view, and clears records. -/
def Obligations.PoolViewQueries : Prop :=
  ∀ (p : Fin 128) (s : State), s.dev.fabReset = false → portRole s p = 1 → linkActive s p = true →
    exec (.getDynamicCapacityConfiguration p) s = .next (emit s (.mboxConfig p [(0, 65536, 1)])) ∧
    (∀ first n, exec (.getDynamicCapacityExtentList p first n) s =
      .next (emit s (.mboxExtents p (extentsOf s p).length ((((extentsOf s p).drop first).take n).map
        (fun e => (e.1, e.2, extentTag s e.1)))))) ∧
    exec (.getEventRecords p) s = .next (emit s (.mboxEvents p (dcEvents s p))) ∧
    Gives (.clearEventRecords p none) s (fun t => dcEvents t p = [] ∧ Sent s t (.mboxDone p true) ∧
      (∀ q, q ≠ p.val → dcEvents t q = dcEvents s q) ∧ Frame [.pool, .out] s t) ∧
    (∀ hs, Gives (.clearEventRecords p (some hs)) s (fun t =>
      dcEvents t p = (dcEvents s p).filter (fun e => ! hs.contains e.handle) ∧ Sent s t (.mboxDone p true) ∧
      (∀ q, q ≠ p.val → dcEvents t q = dcEvents s q) ∧ Frame [.pool, .out] s t))

/-- An Add or Release response that names a block in a wrong state is refused. Offered blocks become BOUND and are completed at
once without the other twin, while the pool view's list stays within 4,096 extents. Of a release, blocks without a home become
UNBOUND at once and those that homes serve are swept first; the other twin does the same, and the end of the sweeps and its
acknowledgements complete the command. -/
def Obligations.PoolViewResponses : Prop :=
  ∀ (p : Fin 128) (e : List Extent) (s : State),
    s.dev.fabReset = false →
    (portRole s p = 1 → linkActive s p = true → e.all rangeOk = true →
      ((∃ g ∈ rangeSegs e, bindOf (bankNow s) p g ≠ 1) →
        Gives (.addDynamicCapacityResponse p e) s (fun t => Sent s t (.mboxDone p false) ∧
          Frame (.settings :: eventParts) s t)) ∧
      ((∀ g ∈ rangeSegs e, bindOf (bankNow s) p g = 1) → bindPartner s = false →
        ∀ t, t = addExtents ((rangeSegs e).foldl (fun u g => deviceBind u p g 2) s) p (rangeSegs e) →
        ((extentsOf t p).length ≤ 4096 → exec (.addDynamicCapacityResponse p e) s = .next (emit t (.mboxDone p true)) ∧
          (∀ g ∈ rangeSegs e, bindOf (bankNow t) p g = 2)) ∧
        (4096 < (extentsOf t p).length → exec (.addDynamicCapacityResponse p e) s = .next (mboxRefuse s p true))) ∧
      ((∃ g ∈ rangeSegs e, bindOf (bankNow s) p g < 2) →
        Gives (.releaseDynamicCapacity p e) s (fun t => Sent s t (.mboxDone p false) ∧
          Frame (.settings :: eventParts) s t)) ∧
      (∀ acks swept plain u v x, (∀ g ∈ rangeSegs e, 2 ≤ bindOf (bankNow s) p g) →
        acks = (if bindPartner s then rangeSegs e else []) →
        swept = (rangeSegs e).filter (fun g => segMode (bankNow s) g == 1) →
        plain = (rangeSegs e).filter (fun g => segMode (bankNow s) g != 1) →
        u = (if (rangeSegs e).any (fun g => bindOf (bankNow s) p g == 2) then raiseEv s 9 else s) →
        v = dropExtents (plain.foldl (fun w g => deviceBind w p g 0)
          { u with pool := { u.pool with waits := u.pool.waits ++ [⟨p, true, acks, swept, swept⟩] } }) p plain →
        x = acks.foldl (fun w g => pairSend w (.bind p .unbound (BitVec.ofNat 16 g))) v →
        exec (.releaseDynamicCapacity p e) s = .next (settleMbox (settleSlices (swept.foldl (fun w g => startSweep w p g) x))))) ∧
    (∀ b, b = sweepBusy s ((s.pool.sweeps.filter (fun x => x.1 == p)).map (·.2)) →
      (b = true → exec (.purgeSweepDone p) s = .next s) ∧
      (b = false → exec (.purgeSweepDone p) s = .next (settleMbox
        ((s.pool.asked.filter (fun x => x.1 == p)).foldl (fun u x =>
            pairSend (dropExtents (deviceBind u p x.2 0) p [x.2]) (.bindAck p .unbound (BitVec.ofNat 16 x.2)))
          { s with pool := { s.pool with
            sweeps := s.pool.sweeps.filter (fun x => x.1 != p), asked := s.pool.asked.filter (fun x => x.1 != p)
            waits := s.pool.waits.map (fun w => if w.port = p ∧ w.release then { w with sweeps := [] } else w) } }))))

/-- The other twin's change of a binding state is applied to that port and segment alone and is acknowledged; a release of a
segment that homes serve is swept first. An acknowledgement is taken off the mailbox commands of its port that wait for it. The
colour fill of the waiting segments is started by the coordinator once no SWITCHED is awaited; once its writes have completed it
ends, and then no segment waits. -/
def Obligations.BindingsAndColourFill : Prop :=
  ∀ (p : Fin 128) (st : BindState) (seg : BitVec 16) (s : State), s.dev.fabReset = false →
    (st = .unbound → segMode (bankNow s) seg.toNat = 1 → exec (.bind p st seg) s = .next (settleSlices (startSweep
      { s with pool := { s.pool with asked := s.pool.asked ++ [(p, seg.toNat)] } } p seg.toNat))) ∧
    (st ≠ .unbound ∨ segMode (bankNow s) seg.toNat ≠ 1 →
      ∃ u, exec (.bind p st seg) s = .next (pairSend u (.bindAck p st seg)) ∧
      (∀ (q : Fin 128) (g : Nat), g < 65536 → bindOf (bankNow u) q g =
        if q = p ∧ g = seg.toNat then bindCode st else bindOf (bankNow s) q g) ∧
      (st = .bound → extentsOf u p = addExtent (segMode (bankNow u)) (extentsOf s p) seg.toNat) ∧
      (st = .offered ∨ st = .releasing → u.pool = s.pool) ∧ Frame [.banks, .pool] s u) ∧
    exec (.bindAck p st seg) s = .next (settleMbox { s with pool := { s.pool with
      waits := s.pool.waits.map (fun w => if w.port = p then { w with acks := w.acks.erase seg.toNat } else w) } }) ∧
    (s.pool.colourInit ≠ [] → s.txn.sentSwitch = false → s.pool.colourMine = true → s.pool.colourRunning = false →
      exec .colourInitStart s = .next (s.pool.colourInit.foldl (fun t g =>
        match carveSeg (bankNow t) g with
        | some c => (colourLines c g).foldl (fun u l => writeColours u (BitVec.ofNat 8 (17 * segColour (bankNow t) g)) l) t
        | none => t) { s with pool := { s.pool with colourRunning := true } })) ∧
    (s.pool.colourInit = [] ∨ s.txn.sentSwitch = true ∨ s.pool.colourMine = false ∨ s.pool.colourRunning = true →
      exec .colourInitStart s = .next s) ∧
    (s.pool.colourRunning = true → colourWrites s = false → Gives .colourInitDone s (fun t =>
      t.pool.colourInit = [] ∧ t.pool.colourRunning = false)) ∧
    (s.pool.colourRunning = false ∨ colourWrites s = true → exec .colourInitDone s = .next s)


/-! ### The home -/

/-- What the home decides for a request against the directory entry of its line: whom it snoops, whether the owner keeps a
copy, whether it broadcasts or takes a way, what it answers, and whom the entry names at close. -/
def Obligations.HomeDecisions : Prop :=
  ∀ (e : Entry) (r : Req) (far : Bool) (p : Plan), p = planFor e r far → r.m.src ≠ 0x3FF →
    (e.st = .owned → e.p0 ≠ 0x3FF) →
    -- RdShared
    (r.kind = .rdShared →
      p.done = .cmpS ∧ p.bcast = false ∧ (p.alloc = true ↔ e.st = .free) ∧ p.next.st = .shared ∧
      (e.st = .free → p.snoop = [] ∧ ptrs p.next = [r.m.src]) ∧
      (e.st = .shared → p.snoop = [] ∧ (e.ovf = true ∨ (ptrs e).contains r.m.src = true → p.next = e) ∧
        (e.ovf = false → (ptrs e).contains r.m.src = false → (ptrs e).length < 3 →
          p.next.ovf = false ∧ ptrs p.next = ptrs e ++ [r.m.src]) ∧
        (e.ovf = false → (ptrs e).contains r.m.src = false → (ptrs e).length = 3 → p.next.ovf = true)) ∧
      (e.st = .owned → e.p0 ≠ r.m.src → p.snoop = [e.p0] ∧ p.down = true ∧ ptrs p.next = [e.p0, r.m.src]) ∧
      (e.st = .owned → e.p0 = r.m.src → p.snoop = [] ∧ ptrs p.next = [r.m.src])) ∧
    -- RdOwn and Upgrade
    (r.kind = .rdOwn ∨ r.kind = .upgrade →
      p.next.st = .owned ∧ p.next.p0 = r.m.src ∧ p.down = false ∧ (p.alloc = true ↔ e.st = .free) ∧
      (p.done = .cmpONoData ↔ r.kind = .upgrade ∧ e.st = .shared ∧ e.ovf = false ∧ (ptrs e).contains r.m.src = true) ∧
      (p.done ≠ .cmpONoData → p.done = .cmpO)) ∧
    -- RdCur
    (r.kind = .rdCur →
      p.done = .cmpRead ∧ p.alloc = false ∧ p.bcast = false ∧
      (e.st = .owned ∧ e.p0 ≠ r.m.src → p.snoop = [e.p0] ∧ p.down = true ∧ p.next.st = .shared ∧ ptrs p.next = [e.p0]) ∧
      (¬ (e.st = .owned ∧ e.p0 ≠ r.m.src) → p.snoop = [] ∧ p.next = e)) ∧
    -- writes
    (r.kind = .wrLine ∨ r.kind = .wrPart ∨ r.kind = .wbDirty → p.done = .cmpWrite ∧ p.alloc = false ∧ p.down = false ∧
      p.next.st = .free) ∧
    (r.kind = .rdOwn ∨ r.kind = .upgrade ∨ r.kind = .wrLine ∨ r.kind = .wrPart ∨ r.kind = .wbDirty →
      (p.bcast = true ↔ e.st = .shared ∧ e.ovf = true) ∧
      (e.st = .shared → e.ovf = false → p.snoop = (ptrs e).filter (· != r.m.src)) ∧
      (e.st = .owned → e.p0 ≠ r.m.src → p.snoop = [e.p0]) ∧ (e.st = .owned → e.p0 = r.m.src → p.snoop = [])) ∧
    -- Evict
    (r.kind = .evict →
      p.done = .cmpEvict ∧ p.snoop = [] ∧ p.bcast = false ∧ p.alloc = false ∧
      (e.st = .owned → e.p0 = r.m.src → p.next.st = .free) ∧ (e.st = .owned → e.p0 ≠ r.m.src → p.next = e) ∧
      (e.st = .shared → e.ovf = true → p.next = e) ∧
      (e.st = .shared → e.ovf = false → (ptrs e).filter (· != r.m.src) = [] → p.next.st = .free) ∧
      (e.st = .shared → e.ovf = false → (ptrs e).filter (· != r.m.src) ≠ [] →
        p.next.st = .shared ∧ ptrs p.next = (ptrs e).filter (· != r.m.src))) ∧
    -- AtomicFar on the far path takes every copy, the requester's too
    (r.kind = .atomicFar → far = true → p.done = .cmpFar ∧ p.alloc = false ∧ p.next.st = .free ∧
      (p.bcast = true ↔ e.st = .shared ∧ e.ovf = true) ∧ (e.st = .owned → p.snoop = [e.p0]) ∧
      (e.st = .shared → e.ovf = false → p.snoop = ptrs e)) ∧
    (r.kind = .atomicFar → far = false → p = planFor e { r with kind := .upgrade } false)

/-- A request that arrives at the slice that homes its line, resolved under the epoch in force or without one, and let pass by
the twin guard where the other twin forwards it, joins its input queue and the slice does what it can; a request whose home is
elsewhere is passed on. A header error that ECC corrects is counted; one that it does not is counted, shown as the slice's
fault and raised as its event. -/
def Obligations.HomeRequestsJoinTheirSlice : Prop :=
  ∀ (x : Fin 32) (q : Fin 5) (m : Hdr) (a : AtomicOp) (s u : State) (v : Req → State),
    s.dev.fabReset = false → m.epoch0 ≠ some (! epochBit u) →
    (m.fwd = true → ownAgent u m.src = false →
      ∀ k ∈ [1, 2, 3, 4], checkUnit u twinGuardWindow 32 ⟨0, k, 0, m.src.toNat, lineAddr m.laddr, 64⟩ false = none) →
    (∀ r, v r = { u with
      pair := { u.pair with fwd := u.pair.fwd.filter (fun f => ! (f.src == m.src && f.rtag == m.rtag)) }
      dir := { u.dir with input := u.dir.input ++ [⟨x, q, r, 0⟩] } }) →
    (homedHere u m.laddr = true →
      (Arrives s (.rdshared x q m .clean) u →
        exec (.rdshared x q m .clean) s = .next (settleSlice (v { kind := .rdShared, m := m }) x)) ∧
      (Arrives s (.rdown x q m .clean) u →
        exec (.rdown x q m .clean) s = .next (settleSlice (v { kind := .rdOwn, m := m }) x)) ∧
      (Arrives s (.upgrade x q m .clean) u →
        exec (.upgrade x q m .clean) s = .next (settleSlice (v { kind := .upgrade, m := m }) x)) ∧
      (Arrives s (.rdcur x q m .clean) u →
        exec (.rdcur x q m .clean) s = .next (settleSlice (v { kind := .rdCur, m := m }) x)) ∧
      (Arrives s (.wrline x q m .clean) u →
        exec (.wrline x q m .clean) s = .next (settleSlice (v { kind := .wrLine, m := m }) x)) ∧
      (Arrives s (.wrpart x q m .clean) u →
        exec (.wrpart x q m .clean) s = .next (settleSlice (v { kind := .wrPart, m := m }) x)) ∧
      (Arrives s (.wbdirty x q m .clean) u →
        exec (.wbdirty x q m .clean) s = .next (settleSlice (v { kind := .wbDirty, m := m }) x)) ∧
      (Arrives s (.evict x q m .clean) u →
        exec (.evict x q m .clean) s = .next (settleSlice (v { kind := .evict, m := m }) x)) ∧
      (Arrives s (.atomicfar x q m a .clean) u →
        exec (.atomicfar x q m a .clean) s = .next (settleSlice (v { kind := .atomicFar, m := m, a := a }) x))) ∧
    (∀ (c : Ecc → Instr) (r : Req),
      (c, r) ∈ [((fun e => Instr.rdshared x q m e), ({ kind := .rdShared, m := m } : Req)),
        (fun e => .rdown x q m e, { kind := .rdOwn, m := m }), (fun e => .upgrade x q m e, { kind := .upgrade, m := m }),
        (fun e => .rdcur x q m e, { kind := .rdCur, m := m }), (fun e => .wrline x q m e, { kind := .wrLine, m := m }),
        (fun e => .wrpart x q m e, { kind := .wrPart, m := m }), (fun e => .wbdirty x q m e, { kind := .wbDirty, m := m }),
        (fun e => .evict x q m e, { kind := .evict, m := m }),
        (fun e => .atomicfar x q m a e, { kind := .atomicFar, m := m, a := a })] →
      Arrives s (c .clean) u →
      (homedHere u m.laddr = true →
        exec (c .corrected) s = .next (settleSlice (wr (v r) (R.DIR_ECC_CNT x) 15 0 (satUp (rd (v r) (R.DIR_ECC_CNT x) 15 0))) x) ∧
        (∀ w, w = wr (wrBit (v r) (R.DIR_STATUS x) 17 true) (R.DIR_UNCORR_CNT x) 15 0
            (satUp (rd (wrBit (v r) (R.DIR_STATUS x) 17 true) (R.DIR_UNCORR_CNT x) 15 0)) →
          exec (c .uncorrectable) s = .next (settleSlice (raiseEv
            { w with dir := { w.dir with badSets := w.dir.badSets ++ [setKey x (lineSet m.laddr)] } } (sliceFaultEv x)) x))) ∧
      (homedHere u m.laddr = false → ∀ e, exec (c e) s = .next (redirect u r)))

/-- What a slice does with a request at its input: a lost agent gets an Err; requests of a set that waits stay at the input; a
write of an agent that is being snooped for the line is taken into that transaction; while the slice takes no new transaction
of the line, other requests stay at the input; any other request for a line under way, or behind waiting ones, joins the line's
wait list; a line that is free opens a transaction in a free tracker. -/
def Obligations.SliceTakesRequest : Prop :=
  ∀ (x : Nat) (r : Req) (s : State),
    (isLost s x r.m.src = true → acceptReq s x r = some (sendErr s x 0 r 3)) ∧
    (isLost s x r.m.src = false →
      (setWaits s x r.m.laddr = true → acceptReq s x r = none) ∧
      (setWaits s x r.m.laddr = false →
        (∀ t k, takenBy s x r = some (t, k) → acceptReq s x r = some (takeWrite s x t k r) ∧
          (t, k) ∈ trksOf s x ∧ k.line = r.m.laddr ∧ isWrite r.kind = true ∧ k.phase = .snoop ∧ snoops s x k r.m.src = true) ∧
        (takenBy s x r = none →
          (lineWaits s x r.m.laddr = true → acceptReq s x r = none) ∧
          (lineWaits s x r.m.laddr = false →
            (∀ t, blockedBy s x r.m.laddr = some t → acceptReq s x r = joinWaits s x r .joins) ∧
            (blockedBy s x r.m.laddr = none →
              setHeld s x (lineSet r.m.laddr) = true ∨ waitersOf s x r.m.laddr ≠ [] →
              acceptReq s x r = joinWaits s x r (foundAt (lookup s x r.m.laddr).2 r.m.src)) ∧
            (∀ t, blockedBy s x r.m.laddr = none → setHeld s x (lineSet r.m.laddr) = false → waitersOf s x r.m.laddr = [] →
              freeTrk s x r.m.laddr = some t → toRecover s x r.m.laddr = false →
              ∀ p, p = planFor (lookup s x r.m.laddr).2 r (farPath s x r (predNext s x (predOf s x r.m.laddr)
                  (foundAt (lookup s x r.m.laddr).2 r.m.src))) →
                p.alloc = false →
                acceptReq s x r = some (runPlan
                  (perfHit (predUpdate s x r (foundAt (lookup s x r.m.laddr).2 r.m.src)) (x / 2) 0x0C (x % 2) 1 1)
                  x t r p (lookup s x r.m.laddr).1 (lookup s x r.m.laddr).2))))))

/-! ### Device ports and answers -/

/-- A device port cell reads for a MemRd and writes for a WbData in arrival order, and leaves one on the network while 64
accesses to busy granules stand at it; a cell that becomes free lets the next read go. An answer of the expander under its tag
and the link's generation ends the access and goes on to its destination; one that no access waits for is discarded. A
MemRd that expires ends with poison, its tag reserved; an expired write takes the link down. -/
def Obligations.DevicePortAccesses : Prop :=
  ∀ (p : Fin 128) (tag : BitVec 14) (d : LineData) (poison : Bool) (gen : BitVec 8) (s : State), s.dev.fabReset = false →
    (∀ m o, o = (⟨m.dport, m.laddr, some (.msg m), none, m.tgt, m.epoch0, none⟩ : DpOp) →
      (holdFull s o = true → exec (.memrd m) s = .next s) ∧
      (∀ u, holdFull s o = false → Arrives s (.memrd m) u → exec (.memrd m) s = .next (pumpPort
        (withDp u { u.dp with wait := u.dp.wait ++ [o] }) m.dport))) ∧
    (∀ m mask o, o = (⟨m.dport, m.laddr, none, some (.msg m, d, mask, m.poison), m.tgt, m.epoch0, none⟩ : DpOp) →
      (holdFull s o = true → exec (.wbdata m d mask) s = .next s) ∧
      (∀ u, holdFull s o = false → Arrives s (.wbdata m d mask) u → exec (.wbdata m d mask) s = .next (pumpPort
        (withDp u { u.dp with wait := u.dp.wait ++ [o] }) m.dport))) ∧
    exec (.memrdIssue p) s = .next (pumpPort s p) ∧
    (outstAt s p tag = none →
      exec (.expanderReadData p tag d poison gen) s = .next (discardResponse s p tag) ∧
      exec (.expanderWriteCompletion p tag gen) s = .next (discardResponse s p tag) ∧
      exec (.memrdTimeout p tag) s = .next s) ∧
    (∀ o, outstAt s p tag = some o →
      (∀ r, o.rd = some r → gen.toNat = linkGenOf s p → exec (.expanderReadData p tag d poison gen) s =
        .next (pumpPort (afterRead (dropOut s o) o r d poison) p)) ∧
      (∀ r, o.rd = some r → gen.toNat ≠ linkGenOf s p →
        exec (.expanderReadData p tag d poison gen) s = .next (discardResponse s p tag)) ∧
      (∀ m, o.wr = some (.msg m) → gen.toNat = linkGenOf s p →
        exec (.expanderWriteCompletion p tag gen) s = .next (pumpPort (sendMemCmp (dropOut s o) m 0) p)) ∧
      (∀ m r, o.wr = some (.atom m r) → gen.toNat = linkGenOf s p →
        exec (.expanderWriteCompletion p tag gen) s = .next (pumpPort (sendAtomRes (dropOut s o) p m 0 r) p)) ∧
      (∀ v, v = withDp s { s.dp with
          outst := s.dp.outst.erase o, reserved := s.dp.reserved ++ [p.val * 16384 + tag.toNat] } →
        (∀ m, o.rd = some (.msg m) → exec (.memrdTimeout p tag) s =
          .next (pumpPort (deliverRead v p { m with poison := true, status := 0 } 0 o.shared o.cls) p)) ∧
        (∀ n l, o.rd = some (.tag n l) → exec (.memrdTimeout p tag) s =
          .next (pumpPort (sendFrom v (blockEp (p / 4)) (.tagLineFill n l 0 .uncorrectable)) p)))) ∧
    (∀ o ∈ s.dp.outst, o.port = p.val → o.wr.isSome = true ∨ (∃ m a, o.rd = some (.atom m a)) →
      exec (.deviceWriteTimeout p) s = .next (settleUnits (loseLink s p 0))) ∧
    (s.dp.outst.all (fun o => o.port != p.val) = true → exec (.deviceWriteTimeout p) s = .next s)

/-- Grants, completions, errors, data requests and line data reach the host port or the coach that they name, own agents
of this twin alone; a Fill and a MemCmp without an agent go to the home, and a DataGo without one has the device port write poison. -/
def Obligations.AnswersReachTheirAgent : Prop :=
  ∀ (m : Hdr) (d : LineData) (res : AtomicRes) (s u : State), s.dev.fabReset = false → m.htwin = u.dev.pid →
    -- a host port
    (ownAgent u m.tgt = true → localAgent m.tgt < 128 → m.tgt ≠ 0x3FF →
      (Arrives s (.cmps m) u → exec (.cmps m) s = .next (settleAll (hostGrant u (localAgent m.tgt) m 1 {}))) ∧
      (Arrives s (.cmpo m) u → exec (.cmpo m) s = .next (settleAll (hostGrant u (localAgent m.tgt) m 2 {}))) ∧
      (Arrives s (.cmp m res) u → m.ddat = false →
        exec (.cmp m res) s = .next (settleAll (hostGrant u (localAgent m.tgt) m 0 res))) ∧
      (Arrives s (.cmp m res) u → m.ddat = true → exec (.cmp m res) s =
        .next (settleAll (hostDirect u (localAgent m.tgt) m (.old res.old (m.status != 0))))) ∧
      (Arrives s (.err m) u → exec (.err m) s = .next (settleAll (hostErr u (localAgent m.tgt) m))) ∧
      (Arrives s (.datago m) u → exec (.datago m) s =
        .next (settleAll (hostDatago (unreserve u (.dirty m.tgt (homeTxn m))) (localAgent m.tgt) m))) ∧
      (Arrives s (.memcmp m) u → exec (.memcmp m) s = .next (settleAll (hostDirect u (localAgent m.tgt) m .done))) ∧
      (Arrives s (.backinv m) u → exec (.backinv m) s = .next (hostSnoop u (localAgent m.tgt) m false false)) ∧
      (Arrives s (.backdown m) u → exec (.backdown m) s = .next (hostSnoop u (localAgent m.tgt) m true false))) ∧
    -- a coach
    (ownAgent u m.tgt = true → 128 ≤ localAgent m.tgt → isCoach m.tgt = true → m.tgt ≠ 0x3FF →
      (Arrives s (.cmps m) u → exec (.cmps m) s = .next (settleAll (coachGrant u (coachNo m.tgt) m 1 {}))) ∧
      (Arrives s (.cmpo m) u → exec (.cmpo m) s = .next (settleAll (coachGrant u (coachNo m.tgt) m 2 {}))) ∧
      (Arrives s (.cmp m res) u → m.ddat = false →
        exec (.cmp m res) s = .next (settleAll (coachGrant u (coachNo m.tgt) m 0 res))) ∧
      (Arrives s (.cmp m res) u → m.ddat = true →
        exec (.cmp m res) s = .next (settleAll (coachDirect u (coachNo m.tgt) m res))) ∧
      (Arrives s (.err m) u → exec (.err m) s = .next (settleAll (coachErr u (coachNo m.tgt) m))) ∧
      (Arrives s (.datago m) u → exec (.datago m) s =
        .next (settleAll (coachDatago (unreserve u (.dirty m.tgt (homeTxn m))) (coachNo m.tgt) m))) ∧
      (Arrives s (.fill m d) u → exec (.fill m d) s = .next (settleAll (coachData u (coachNo m.tgt) m d))) ∧
      (Arrives s (.backinv m) u → exec (.backinv m) s = .next (coachSnoop u (coachNo m.tgt) m false false)) ∧
      (Arrives s (.backdown m) u → exec (.backdown m) s = .next (coachSnoop u (coachNo m.tgt) m true false))) ∧
    -- no agent
    (m.tgt = 0x3FF →
      (Arrives s (.fill m d) u → exec (.fill m d) s = .next (homeFill u m d)) ∧
      (Arrives s (.memcmp m) u → exec (.memcmp m) s = .next (homeMemcmp u m)) ∧
      (Arrives s (.datago m) u → exec (.datago m) s =
        .next (dpWrite (unreserve u (.dirty m.tgt (homeTxn m))) m.dport m.laddr m 0 fullMask true)))

/-! ### Snoop answers, the journal and failures -/

/-- A broadcast in a region opens an aggregate of the members of the sharing set there but the requester, among them every
coach of the region, without those that count as answered at once, and snoops each. A BIAck or an aggregate answer that the
home's transaction awaits is taken off what it waits for, and an Ack closes a read; late ones are counted. Members of an
expired aggregate are declared lost and the region answers. -/
def Obligations.SnoopAnswersAtHome : Prop :=
  ∀ (n : Fin 16) (pid : Bool) (m : Hdr) (s u : State), s.dev.fabReset = false →
    (∀ b l v, Arrives s (.backinvBroadcast n m) u → b = bankFor u m.epoch0 →
      l = (regionMembers b (n.val + 16 * pidNat u) (segShare b (lineSeg m.laddr))).filter
        (fun a => a != m.tgt && ! countedAtOnce u n a) →
      v = withDir u { u.dir with aggs := u.dir.aggs ++ [⟨n, m, l⟩] } →
      (∀ k : Fin 256, k.val / 16 = n.val →
        (coachAgent u k ∈ l ↔ coachAgent u k ≠ m.tgt ∧ countedAtOnce u n (coachAgent u k) = false)) ∧
      (l = [] → exec (.backinvBroadcast n m) s = .next (settleAgg v ⟨n, m, []⟩)) ∧
      (l ≠ [] → exec (.backinvBroadcast n m) s = .next (l.foldl (fun (w : State) (a : Agent) =>
        if localAgent a < 128 then hostSnoop w (localAgent a) m false true else coachSnoop w (coachNo a) m false true) v))) ∧
    (∀ k, m.htwin = u.dev.pid → getTrk u m.hslice m.htxn = some k → k.line = m.laddr →
      (Arrives s (.biack m) u → k.phase = .snoop → snoops u m.hslice k m.src = true → exec (.biack m) s =
        .next (settleSlice (advance (takeBiack u m.hslice m.htxn k m) m.hslice m.htxn) m.hslice)) ∧
      (Arrives s (.biackagg n pid m) u → k.agg.contains (16 * pid.toNat + n.val) = true → exec (.biackagg n pid m) s =
        .next (settleSlice (advance (setTrk u m.hslice m.htxn { k with agg := k.agg.erase (16 * pid.toNat + n.val) })
          m.hslice m.htxn) m.hslice)) ∧
      (Arrives s (.ack m) u → k.phase = .ack → k.req.map (·.m.src) = some m.src →
        exec (.ack m) s = .next (settleSlice (closeTrk u m.hslice m.htxn k) m.hslice))) ∧
    (m.htwin = u.dev.pid → getTrk u m.hslice m.htxn = none →
      (Arrives s (.biack m) u → exec (.biack m) s = .next (lateResponse u m.hslice)) ∧
      (Arrives s (.biackagg n pid m) u → exec (.biackagg n pid m) s = .next (lateResponse u m.hslice)) ∧
      (Arrives s (.ack m) u → exec (.ack m) s = .next (lateResponse u m.hslice))) ∧
    (∀ g, s.dir.aggs.find? (fun g => g.region == n.val && g.m == m) = some g →
      exec (.broadcastAggTimeout n m) s =
        .next (settleAgg (g.left.foldl (fun v a => declareLost v (servicesEp n) a) s) { g with left := [] }))

/-- The open journal batch is sent when its time has passed. Records that arrive are applied in their order behind those
waiting, the last one asking for an acknowledgement; an acknowledgement frees the transactions up to its record. A transaction
that waits too long is counted, and suspends the journal of its slice while the twin link is active. -/
def Obligations.JournalCommands : Prop :=
  ∀ (x : Fin 32) (s : State), s.dev.fabReset = false →
    ((getJrn s x).batch = [] → exec (.journalBatchTimeout x) s = .next s) ∧
    ((getJrn s x).batch ≠ [] → exec (.journalBatchTimeout x) s =
      .next (sendTwin (setJrn s x { getJrn s x with batch := [] }) (sliceEp x) (.jrnbatch x (getJrn s x).batch))) ∧
    (∀ l r u, Arrives s (.jrnbatch x (l ++ [r])) u → (∀ q ∈ l, q.act ≠ .empty) → r.act ≠ .empty →
      exec (.jrnbatch x (l ++ [r])) s = .next (settleSlice (setJrn u x { getJrn u x with
        recv := (getJrn u x).recv ++ (l.map (fun q => (q, false)) ++ [(r, true)]) }) x)) ∧
    (∀ ack u, Arrives s (.jrnack x ack) u →
      ((ack - (getJrn u x).acked).toNat < ((getJrn u x).next - (getJrn u x).acked).toNat →
        ∃ v, v = perfHit (setJrn (releaseJournal u x ack) x { getJrn u x with acked := ack + 1 }) 0 0x42 0
            ((ack - (getJrn u x).acked).toNat + 1) 1 ∧
        exec (.jrnack x ack) s = .next (settleSlice (((trksOf v x).filter (fun e => e.2.phase == .journal)).foldl
          (fun w e => advance w x e.1) v) x)) ∧
      (((getJrn u x).next - (getJrn u x).acked).toNat ≤ (ack - (getJrn u x).acked).toNat →
        exec (.jrnack x ack) s = .next (releaseJournal u x ack))) ∧
    (∀ (t : Fin 256) k, getTrk s x t = some k → k.phase = .journal →
      ∀ v, v = count s (R.DIR_JSTALL_CNT x) 0 .every (sliceFailEv x) →
        (twinState v ≠ 2 → exec (.journalStall x t) s = .next v) ∧
        (twinState v = 2 → exec (.journalStall x t) s =
          .next (ackAll (count (wrBit v R.TWIN_JRN_STATUS x true) R.TWIN_CNT1 16 .every 13) x)))

/-- A home transaction without a broadcast that expires while it waits for an Ack is recorded as cause 5 and closed; while it
waits for MemCmp it ends with Err 2, recorded as cause 4. A request's expiry goes to its host port or coach, whose client it
ends. A loss notice for an odd slice is taken there; that for the even slice of a region sends the odd slice's on, and is taken
unless the slice is out of service. Taking one adds the agent to the lost set, drops its waiting requests, shows a scan and
takes it out of the open transactions; the scan's end clears the lost set but for those that came late. -/
def Obligations.TimeoutsAndLoss : Prop :=
  ∀ (x : Fin 32) (t : Fin 256) (a : Agent) (tag : BitVec 10) (s : State), s.dev.fabReset = false →
    (getTrk s x t = none → exec (.homeTimeout x t) s = .next s) ∧
    (∀ k, getTrk s x t = some k → timerRuns s k = false → exec (.homeTimeout x t) s = .next s) ∧
    (∀ k e, getTrk s x t = some k → timerRuns s k = true → k.bi = [] → k.agg = [] → k.announced = [] → k.bcast = none →
      e = { k with expiries := k.expiries + 1 } →
      (k.datas = [] → k.phase = .ack → ∃ v, getTrk v x t = some e ∧
        getReg v (R.DIR_TMO_LAST x + 4) ++ getReg v (R.DIR_TMO_LAST x) =
          BitVec.ofNat 64 (0x3FF * 2 ^ 54 + 5 * 2 ^ 44 + k.line.toNat) ∧
        exec (.homeTimeout x t) s = .next (settleSlice (closeTrk v x t e) x)) ∧
      (k.datas ≠ [] → ∃ v, getTrk v x t = some e ∧
        getReg v (R.DIR_TMO_LAST x + 4) ++ getReg v (R.DIR_TMO_LAST x) =
          BitVec.ofNat 64 (0x3FF * 2 ^ 54 + 4 * 2 ^ 44 + k.line.toNat) ∧
        exec (.homeTimeout x t) s = .next (settleSlice (endFailed v x t e 2) x))) ∧
    (ownAgent s a = true → localAgent a < 128 →
      exec (.requestTimeout a tag) s = .next (settleAll (hostTimeout s (localAgent a) tag))) ∧
    (ownAgent s a = true → 128 ≤ localAgent a → isCoach a = true →
      exec (.requestTimeout a tag) s = .next (settleAll (coachTimeout s (coachNo a) tag))) ∧
    (ownAgent s a = false → exec (.requestTimeout a tag) s = .next s) ∧
    (∀ u, Arrives s (.lossNotice x a) u → x.val % 2 = 1 → exec (.lossNotice x a) s = .next (takeNotice u x a)) ∧
    (∀ u, Arrives s (.lossNotice x a) u → x.val % 2 = 0 → ownAgent u a = false →
      ∃ v, v.regs = u.regs ∧ v.dir = u.dir ∧ Frame [.flight] u v ∧
        (∃ g ∈ v.flight, g.cmd = .lossNotice (Fin.ofNat 32 (x.val + 1)) a) ∧
        exec (.lossNotice x a) s = .next (if unitDown v (.slice x) then v else takeNotice v x a)) ∧
    (∀ u, rdBit u (R.DIR_LOST_STATUS x) 31 = false → isLost u x a = false →
      ∃ v, takeNotice u x a = settleSlice ((trksOf v x).foldl (fun w e => lossInTrk w x a e.1) v) x ∧
        lostSet v x = lostSet u x ++ [a] ∧ (∀ w ∈ v.dir.waits, w.slice = x.val → w.req.m.src ≠ a) ∧
        bitAt (getReg v (R.DIR_LOST_STATUS x)) 31 = true ∧ RegsBut [R.DIR_LOST_STATUS x] u v) ∧
    (rdBit s (R.DIR_LOST_STATUS x) 31 = false → exec (.purgeScanDone x) s = .next s) ∧
    (rdBit s (R.DIR_LOST_STATUS x) 31 = true →
      ∀ v, v = (s.dir.ways.filter (fun e => e.1 / 131072 == x.val)).foldl (fun u e => scanEntry u x e) s →
        exec (.purgeScanDone x) s = .next (settleSlice (wrBit (wrBit (withDir v { v.dir with
          lost := sPut v.dir.lost x [] (sGet v.dir.lostLate x []), lostLate := sPut v.dir.lostLate x [] [] })
          (R.DIR_LOST_STATUS x) 30 false) (R.DIR_LOST_STATUS x) 31 (! (sGet v.dir.lostLate x []).isEmpty)) x))

/-- Control of a slice: DIR_PURGE's AGENT is written and with GO and a valid agent the notices are sent; DRAIN is set or
cleared; DIR_PEEK captures an entry in DIR_PEEK_DATA; a decay walk lowers every score of the slice that is not zero by one and
leaves the mode and the other slices; a write of DIR_ATOM_CFG restarts the decay timer. -/
def Obligations.SliceControl : Prop :=
  ∀ (x : Fin 32) (val : Word) (s : State), s.dev.fabReset = false →
    (bitAt val 31 = true ∧ fld val 9 0 % 512 < 384 → exec (.dirPurge x val) s =
      .next (noticeLoss (wr s (R.DIR_PURGE x) 9 0 (fld val 9 0)) (sliceEp x) (BitVec.ofNat 10 (fld val 9 0)))) ∧
    (¬ (bitAt val 31 = true ∧ fld val 9 0 % 512 < 384) →
      exec (.dirPurge x val) s = .next (wr s (R.DIR_PURGE x) 9 0 (fld val 9 0))) ∧
    (∀ t, exec (.dirPurge x val) s = .next t → fld (getReg t (R.DIR_PURGE x)) 9 0 = fld val 9 0) ∧
    (∀ on, exec (.dirDrain x on) s = .next (settleSlice (wrBit s (R.DIR_CTRL x) 0 on) x)) ∧
    (∀ set way, Gives (.dirPeek x set way) s (fun t =>
      (∀ w : BitVec 64, w = getReg t (R.DIR_PEEK_DATA x + 4) ++ getReg t (R.DIR_PEEK_DATA x) →
        w.getLsbD 63 = (getEnt s x set way).opn ∧ w.getLsbD 60 = (getEnt s x set way).ovf ∧
        w.getLsbD 59 = (getEnt s x set way).shadow ∧ w.extractLsb' 46 10 = (getEnt s x set way).p2 ∧
        w.extractLsb' 36 10 = (getEnt s x set way).p1 ∧ w.extractLsb' 26 10 = (getEnt s x set way).p0 ∧
        w.extractLsb' 0 22 = (getEnt s x set way).tag ∧
        (w.getLsbD 62 = true ↔ (getEnt s x set way).st = .owned) ∧
        (w.getLsbD 61 = true ↔ (getEnt s x set way).st = .shared)) ∧
      RegsBut [R.DIR_PEEK_SEL x, R.DIR_PEEK_DATA x, R.DIR_PEEK_DATA x + 4] s t ∧ Frame [.regs, .settings] s t)) ∧
    (rd s (R.DIR_ATOM_CFG x) 23 16 = 0 → exec (.decayWalk x) s = .next s) ∧
    (rd s (R.DIR_ATOM_CFG x) 23 16 ≠ 0 → Gives (.decayWalk x) s (fun t =>
      (∀ e ∈ t.dir.pred, ∃ o ∈ s.dir.pred, o.1 = e.1 ∧ (e.1 / 4096 ≠ x.val → e.2 = o.2) ∧
        (e.1 / 4096 = x.val → e.2 / 16 = o.2 / 16 ∧ e.2 % 16 = o.2 % 16 - 1)) ∧ Frame [.dir] s t)) ∧
    Gives (.dirAtomCfgWrite x val) s (fun t =>
      getReg t (R.DIR_ATOM_CFG x) = writeBits (R.DIR_ATOM_CFG x) (getReg s (R.DIR_ATOM_CFG x)) val ∧
      sGet t.dir.decayZero x 0 = now t ∧ RegsBut [R.DIR_ATOM_CFG x] s t ∧ Frame [.regs, .settings, .dir] s t)


/-! ### Channels and coaches -/

/-- A channel command has no effect while STX_CHAN_STATUS.BUSY is 1. CREATE writes the code of its first failing check, or makes
the lowest free index a channel of its arguments with the index's generation and shows its handle; a handle that names no
channel gives 0x0B; DESTROY and RESET end the channel's life; REHOME to a house outside the mask gives 0x01, of a channel that
is not idle 0x0C, and else moves it. The reset of a channel's control page does what RESET does. An abort does nothing on a free
context, finds nothing on one that is resetting or at an entry that is not waiting, and stops a descriptor that has not begun. -/
def Obligations.ChannelCommands : Prop :=
  ∀ (chan : BitVec 16) (s : State), s.dev.fabReset = false →
    (rdBit s R.STX_CHAN_STATUS 31 = true → exec .chanCreate s = .next s ∧ exec .chanDestroy s = .next s ∧
      exec .chanReset s = .next s ∧ exec .chanRehome s = .next s) ∧
    (rdBit s R.STX_CHAN_STATUS 31 = false →
      (createCode s (argChan s) ≠ 0 → Gives .chanCreate s (fun t =>
        fld (getReg t R.STX_CHAN_STATUS) 7 0 = createCode s (argChan s) % 256 ∧ RegsBut [R.STX_CHAN_STATUS] s t ∧
        Frame [.regs, .settings] s t)) ∧
      (∀ i, createCode s (argChan s) = 0 → freeIndex s = some i → Gives .chanCreate s (fun t =>
        fld (getReg t R.STX_CHAN_STATUS) 7 0 = 0 ∧ chanOf t i = { argChan s with gen := (chanOf s i).gen, life := (chanOf s i).life } ∧
        (∀ j, j ≠ i → chanOf t j = chanOf s j) ∧
        getReg t R.STX_CHAN_HANDLE = handleOf { argChan s with gen := (chanOf s i).gen, life := (chanOf s i).life } i ∧
        RegsBut [R.STX_CHAN_STATUS, R.STX_CHAN_HANDLE] s t ∧ Frame [.regs, .settings, .co] s t)) ∧
      (namedChan s = none → ∀ c ∈ [Instr.chanDestroy, .chanReset, .chanRehome], Gives c s (fun t =>
        fld (getReg t R.STX_CHAN_STATUS) 7 0 = 0x0B ∧ RegsBut [R.STX_CHAN_STATUS] s t ∧ Frame [.regs, .settings] s t)) ∧
      (∀ c, namedChan s = some c →
        (∀ t, t = chanCode (endLife s c true) 0 →
          ((chanOf t c).st = .free → exec .chanDestroy s = .next t) ∧
          ((chanOf t c).st ≠ .free → exec .chanDestroy s = .next (wrBit t R.STX_CHAN_STATUS 31 true))) ∧
        exec .chanReset s = .next (chanCode (endLife s c false) 0) ∧
        (∀ n, n = rd s R.STX_CHAN_ARG1 15 12 →
          ((chanOf s c).mask.testBit n = false → exec .chanRehome s = .next (chanCode s 1)) ∧
          ((chanOf s c).mask.testBit n = true →
            s.co.descs.any (fun d => d.chan == c && d.gen == (chanOf s c).gen && d.lost.isNone) = true ∨ oldBusy s c = true →
            exec .chanRehome s = .next (chanCode s 0x0C)) ∧
          ((chanOf s c).mask.testBit n = true →
            s.co.descs.any (fun d => d.chan == c && d.gen == (chanOf s c).gen && d.lost.isNone) = false → oldBusy s c = false →
            exec .chanRehome s = .next (fetchChan (chanCode (setChan s c { chanOf s c with house := n }) 0) c))))) ∧
    exec (.chCtrlReset chan) s = .next (endLife s chan.toNat false) ∧
    (∀ e : BitVec 12, ((chanOf s chan.toNat).st = .free → exec (.chCtrlAbort chan e) s = .next s) ∧
      ((chanOf s chan.toNat).st = .resetting →
        exec (.chCtrlAbort chan e) s = .next (abortResult s chan.toNat e.toNat 2)) ∧
      ((chanOf s chan.toNat).st ≠ .free → ringSize (chanOf s chan.toNat) ≤ e.toNat →
        exec (.chCtrlAbort chan e) s = .next (abortResult s chan.toNat e.toNat 2))) ∧
    (∀ (e : BitVec 12) d, ofLife s chan.toNat (chanOf s chan.toNat).gen = true →
      e.toNat < ringSize (chanOf s chan.toNat) →
      (e.toNat + ringSize (chanOf s chan.toNat) - (chanOf s chan.toNat).head) % ringSize (chanOf s chan.toNat) <
        ((chanOf s chan.toNat).tail + ringSize (chanOf s chan.toNat) - (chanOf s chan.toNat).head) %
          ringSize (chanOf s chan.toNat) →
      descAt s chan.toNat (chanOf s chan.toNat).gen e.toNat = some d →
      (d.stage = .done → exec (.chCtrlAbort chan e) s = .next (abortResult s chan.toNat e.toNat 2)) ∧
      (d.stage = .ready → exec (.chCtrlAbort chan e) s =
        .next (startDescs (putDesc (abortResult s chan.toNat e.toNat 1) { d with aborted := true }))))

/-- A doorbell waits behind the earlier posted writes of its function. A fetched descriptor of the channel's present life
becomes ready and starts what may start; poisoned data halts the channel, and data that no read waits for is unexpected. A
read that expires ends unless it has been given up. The record of the oldest descriptor is written at HEAD, which moves on. -/
def Obligations.ChannelWork : Prop :=
  ∀ (chan : BitVec 16) (gen entry : BitVec 12) (s : State), s.dev.fabReset = false →
    (∀ p f off n val, exec (.doorbell p f off n val) s =
      .next (settlePeers (addJob s (emptyJob p f (.bar (.doorbell p f off n val)))))) ∧
    (fetchAt s chan.toNat gen entry.toNat = none →
      (∀ r, exec (.descriptorFetchDone chan gen entry r) s =
        .next (unexpectedAt s (tenantPort s (chanOf s chan.toNat).tenant))) ∧
      exec (.dmaReadTimeout chan gen entry) s = .next s) ∧
    (∀ d, fetchAt s chan.toNat gen entry.toNat = some d → d.lost = none →
      (∀ bits, ofLife s chan.toNat gen = true → exec (.descriptorFetchDone chan gen entry (.data bits)) s =
        .next (fetchAll (startDescs (putDesc s { d with stage := .ready, bits := bits })))) ∧
      (∀ bits, ofLife s chan.toNat gen = false → exec (.descriptorFetchDone chan gen entry (.data bits)) s =
        .next (fetchAll (discardItem (dropDesc s d) chan.toNat))) ∧
      (ofLife s chan.toNat gen = true → exec (.descriptorFetchDone chan gen entry .poisoned) s =
        .next (fetchAll (haltChan (putDesc (logUncorrectable s (tenantPort s (chanOf s chan.toNat).tenant)
          (tenantFn s (chanOf s chan.toNat).tenant) 12) { d with lost := some false }) chan.toNat 1))) ∧
      exec (.dmaReadTimeout chan gen entry) s = .next (fetchAll (endRead s d))) ∧
    (∀ d r ch, ch = chanOf s chan.toNat → ofLife s chan.toNat ch.gen = true →
      fnMayDma s (tenantPort s ch.tenant) (tenantFn s ch.tenant) = true →
      descAt s chan.toNat ch.gen ch.head = some d → d.record = some r → dNotify d.bits = false →
      ∃ u, exec (.recordWrite chan) s = .next (startDescs (fetchAll u)) ∧
        u.out = s.out ++ [.dmaWrite (tenantPort s ch.tenant) (tenantFn s ch.tenant) (ch.cq + BitVec.ofNat 64 (32 * ch.head))
          (recordWords d r ch.phase)] ∧
        chanOf u chan.toNat = (if ch.head + 1 = ringSize ch then { ch with head := 0, phase := ! ch.phase }
          else { ch with head := ch.head + 1 }) ∧ Frame [.co, .out] s u)

/-- A coach with a free pipe takes a unit of its own deque, else one of a coach of its house, else asks the other houses, one
at a time. A house that may not give asks nothing of its coaches and refuses; a refusal has the thief ask the next house; a
grant enters the thief's deque; a stolen unit's end goes to its owner. -/
def Obligations.CoachWork : Prop :=
  ∀ (k : Fin 256) (h : Fin 16) (m : StealMsg) (s u : State), s.dev.fabReset = false →
    (∀ v, v = adoptRanges s k →
      (freePipe v k = none → exec (.coachTakeUnit k) s = .next v) ∧
      (∀ p t, freePipe v k = some p → takeOwn v k p = some t → exec (.coachTakeUnit k) s = .next t) ∧
      (∀ p t, freePipe v k = some p → takeOwn v k p = none → localEn v (houseOf k) = true →
        stealLocal v k p (victims v k) = (t, true) → exec (.coachTakeUnit k) s = .next t) ∧
      (∀ p, freePipe v k = some p → takeOwn v k p = none → localEn v (houseOf k) = false →
        (remoteEn v (houseOf k) = true → sGet v.co.stealing k [] = [] → dequeRoom v k = true →
          exec (.coachTakeUnit k) s = .next (askHouse v k (housesFrom (houseOf k)))) ∧
        (remoteEn v (houseOf k) = false → exec (.coachTakeUnit k) s = .next v))) ∧
    (Arrives s (.stealreq h m) u → remoteEn u h = false → exec (.stealreq h m) s =
      .next (sendFrom u (houseEp h) (.stealrep { thief := m.thief, owner := coachAgent u (16 * h) }))) ∧
    (Arrives s (.stealreq h m) u → remoteEn u h = true →
      ∀ r n w t, bestRange (grantable u h (houseOf (coachNo m.thief)) (max 1 m.minimum.toNat)) = some (r, n) →
        r.released = some w → 0 < n →
        t = shrinkRange (perfHit u (houseOf (coachNo m.thief)) 0x10 0 1 1) r { r with count := r.count - n } →
        exec (.stealreq h m) s = .next (sendFrom
          (withCo t { t.co with transit := t.co.transit ++
            [{ r with first := r.first + (r.count - n), count := n, house := houseOf (coachNo m.thief), coach := none }] })
          (houseEp h)
          (.stealrep { thief := m.thief, owner := r.owner, grant := true, index := BitVec.ofNat 16 r.chan, gen := r.gen
                       first := r.first + (r.count - n), count := n, entry := BitVec.ofNat 12 r.entry, desc := r.bits }))) ∧
    (∀ k v, k = coachNo m.thief → v = unreserve u (.steal m.thief) →
      (Arrives s (.stealrep m) u → m.grant = false → coachUp v k = true →
        exec (.stealrep m) s = .next (askHouse v k ((sGet v.co.stealing k []).drop 1))) ∧
      (Arrives s (.stealrep m) u → m.grant = true →
        ∀ r, u.co.transit.find? (fun r => r.chan == m.index.toNat && r.gen == m.gen && r.entry == m.entry.toNat &&
            r.first == m.first) = some r →
          ∃ y, sGet y.co.stealing k [] = [] ∧ y.co.transit = u.co.transit.erase r ∧ Frame [.co] v y ∧
            (coachUp y k = true → freePipe (putRange y { r with coach := some k }) k = none →
              exec (.stealrep m) s = .next (putRange y { r with coach := some k })) ∧
            (coachUp y k = false → exec (.stealrep m) s =
              .next (passRange (putRange y { r with coach := some k }) { r with coach := some k } k)))) ∧
    (Arrives s (.unitend m) u → exec (.unitend m) s = .next (startDescs (unitEnded u m.index.toNat m.gen m.entry.toNat
      ⟨m.first, m.status.toNat, m.errOffset.toNat⟩ (m.result0, m.result1))))

/-- A landing reservation that is not at the head of its admission point waits; one that is, and whose cells the minimum
holds, or with a green packet's level the shared pool, gets them and its unit goes on; one that finds neither waits. -/
def Obligations.LandingReservations : Prop :=
  ∀ (k : Fin 256) (p : Fin 2) (s : State), s.dev.fabReset = false →
    (s.buf.lands.find? (fun x => x.coach == k && x.pipe == p) = none →
      exec (.landingGrant k p) s = .next (pumpUnit s k p none)) ∧
    (∀ x v, s.buf.lands.find? (fun x => x.coach == k && x.pipe == p) = some x → unitAt s k p = some v →
      (leastTag (waitingAt s x.region 8 x.cls) ≠ some ⟨x.tag, x.flow, none⟩ → exec (.landingGrant k p) s = .next s) ∧
      (leastTag (waitingAt s x.region 8 x.cls) = some ⟨x.tag, x.flow, none⟩ → dOpc v.bits ≠ 8 →
        minUsed s x.region 8 x.cls + x.cells ≤ bufMin s x.region 8 x.cls →
        ∀ t, t = takeMin s x.region 8 x.cls x.cells →
          exec (.landingGrant k p) s = .next (pumpUnit (admitHeads (putUnit (withBuf t { t.buf with
            lands := t.buf.lands.erase x, vtime := sPut t.buf.vtime (admKey x.region 8 x.cls) 0 x.tag })
            { v with cells := x.cells, shared := false, phase := .lines }) x.region 8 x.cls) k p none)) ∧
      (leastTag (waitingAt s x.region 8 x.cls) = some ⟨x.tag, x.flow, none⟩ →
        bufMin s x.region 8 x.cls < minUsed s x.region 8 x.cls + x.cells →
        (x.level ≠ 1 ∨ sharedFits s x.region 8 x.cls x.cells 0 = false → exec (.landingGrant k p) s = .next s) ∧
        (x.level = 1 → sharedFits s x.region 8 x.cls x.cells 0 = true → dOpc v.bits ≠ 8 →
          ∀ t, t = takeShared s x.region 8 x.cls x.cells →
            exec (.landingGrant k p) s = .next (pumpUnit (admitHeads (putUnit (withBuf t { t.buf with
              lands := t.buf.lands.erase x, vtime := sPut t.buf.vtime (admKey x.region 8 x.cls) 0 x.tag })
              { v with cells := x.cells, shared := true, phase := .lines }) x.region 8 x.cls) k p none))))

/-- A region marks a slot busy, moves its watermark on, or frees it, and acknowledges each; the coach's acknowledgements are
taken off what its unit awaits; a step that expires fails with TIMEOUT. A tag line that is invalidated is dropped and
acknowledged. -/
def Obligations.MigrationMessages : Prop :=
  ∀ (n : Fin 16) (m : MigMsg) (s u : State), s.dev.fabReset = false →
    (Arrives s (.migmark n m) u → ∃ v, exec (.migmark n m) s = .next (send v (.migack m.slot .mark n u.dev.pid)) ∧
      migSlot v n m.slot = { migSlot u n m.slot with
        valid := true, segment := m.segment.toNat, w := m.w, running := some m.coach, busy := true } ∧
      (∀ i j : Nat, i * 16 + j ≠ n.val * 16 + m.slot.val → migSlot v i j = migSlot u i j) ∧ Frame [.dp] u v) ∧
    (Arrives s (.migadvance n m) u → m.w ≠ 262144 →
      exec (.migadvance n m) s = .next (pumpSlot (send (setSlot (redirectHeld u n m.slot) n m.slot
        { migSlot (redirectHeld u n m.slot) n m.slot with w := m.w, busy := false })
        (.migack m.slot .advance n (redirectHeld u n m.slot).dev.pid)) m.slot n)) ∧
    (Arrives s (.migunmark n m) u → ∀ x, x = send u (.migack m.slot .unmark n u.dev.pid) →
      exec (.migunmark n m) s = .next (pumpSlot (setSlot x n m.slot { migSlot x n m.slot with busy := false, running := none })
        m.slot n)) ∧
    (∀ i kind pid, Arrives s (.migack i kind n pid) u →
      (slotUnit u i = none → exec (.migack i kind n pid) s = .next u) ∧
      (∀ v, slotUnit u i = some v → v.phase = ackPhase kind → exec (.migack i kind n pid) s =
        .next (startDescs (pumpUnit (putUnit ((awaitedSpace u v).elim u (ackSpace u (v.acks.erase (16 * pid.toNat + n)) n pid))
          { v with acks := v.acks.erase (16 * pid.toNat + n) }) v.coach v.pipe none)))) ∧
    (∀ i : Fin 16, (slotUnit s i = none → exec (.migStepTimeout i) s = .next s) ∧
      (∀ v, slotUnit s i = some v → v.phase = .unmark → exec (.migStepTimeout i) s = .next s) ∧
      (∀ v, slotUnit s i = some v → v.phase ≠ .unmark →
        ∃ w, exec (.migStepTimeout i) s = .next (pumpUnit (migCast w
            { failUnit v 7 0 with cells := 0, reads := [], writes := [] } .unmark (slotW w v)) v.coach v.pipe none) ∧
          w = withCo (freeLanding s (failUnit v 7 0)) { (freeLanding s (failUnit v 7 0)).co with
            reqs := (freeLanding s (failUnit v 7 0)).co.reqs.map (fun r =>
              if r.coach = v.coach ∧ r.pipe = some v.pipe then { r with ended := true } else r) })) ∧
    (∀ h line, Arrives s (.taginv n h u.dev.pid line) u → (tagDropLine u n line).dev.pid = u.dev.pid →
      exec (.taginv n h u.dev.pid line) s = .next (send (tagDropLine u n line) (.tagack h line n u.dev.pid))) ∧
    (∀ h line, Arrives s (.taginv n h (! u.dev.pid) line) u → (tagDropLine u n line).dev.pid = u.dev.pid →
      exec (.taginv n h (! u.dev.pid) line) s =
        .next (sendTwin (tagDropLine u n line) (servicesEp n) (.tagack h line n u.dev.pid))) ∧
    (∀ h line pid f, Arrives s (.tagack h line n pid) u →
      f = u.co.units.find? (fun y => houseOf y.coach == h.val && y.phase == .tagInv && y.acks.contains (16 * pid.toNat + n) &&
        colourLineOf u (tagGranule y) == some line) →
      (f = none → exec (.tagack h line n pid) s = .next u) ∧
      ∀ v, f = some v → exec (.tagack h line n pid) s =
        .next (startDescs (pumpUnit (putUnit ((awaitedSpace u v).elim u (ackSpace u (v.acks.erase (16 * pid.toNat + n)) n pid))
          { v with acks := v.acks.erase (16 * pid.toNat + n) }) v.coach v.pipe none)))

/-- A fault of a coach in service records its cause, shows STATE 3, raises its event, discards its line cache, fences it and
passes its work on; a fault of one that is retired changes nothing. A retirement, refused while the coach's block or region is
held in reset, shows STATE 1, raises the event, empties the cache and passes the work on; it is done, with STATE 2 and a
loss notice, once nothing of the coach is under way and its cache is empty. A coach leaves its reset retired, with RESET_DONE on a pass and CAUSE
0x5 on a failure; one that is retired and reset returns to STATE 0 on REINSTATE. -/
def Obligations.CoachLife : Prop :=
  ∀ (k : Fin 256) (s : State), s.dev.fabReset = false →
    (∀ cause u, Arrives s (.coachFault k cause) u →
      (2 ≤ coachState u k → exec (.coachFault k cause) s = .next u) ∧
      (coachState u k < 2 → ∀ t d v,
        t = raiseEv (setCoachState (wr u (R.COACH_FAULT k) 3 0 (causeCode cause)) k 3) (coachEv k) →
        d = addFence { t with co := { t.co with
          cache := sDrop t.co.cache (fun i => i / 64 == k.val), held := t.co.held.filter (fun c => c.coach != k.val)
          victims := t.co.victims.filter (fun v => v.1 != k.val), stealing := sDel t.co.stealing k } } (.coach k) →
        v = (if cause = .declaredLost then d else noticeLoss d (servicesEp (houseOf k)) (coachAgent d k)) →
        FenceUnit.coach k ∈ d.dev.fenced ∧
        exec (.coachFault k cause) s = .next (startDescs (passDescs
          (((passDeque v k).co.units.filter (fun y => y.coach == k.val)).foldl reExecute (passDeque v k)) k)))) ∧
    (parentDown s (.coach k) = true ∨ coachState s k ≠ 0 → exec (.coachRetire k) s = .next s) ∧
    (parentDown s (.coach k) = false → coachState s k = 0 → exec (.coachRetire k) s = .next (startDescs (passDescs
      (passDeque (flushCache (raiseEv (setCoachState s k 1) (coachEv k)) k) k) k))) ∧
    (coachState s k = 1 → s.co.units.all (fun u => u.coach != k.val) = true →
      s.co.reqs.all (fun r => r.coach != k.val || r.ended) = true → cacheEmpty s k = true →
      exec (.coachRetireDone k) s = .next (setCoachState (noticeLoss s (servicesEp (houseOf k)) (coachAgent s k)) k 2)) ∧
    (coachState s k ≠ 1 → exec (.coachRetireDone k) s = .next s) ∧
    (coachState s k < 2 → exec (.coachReset k) s = .next s) ∧
    (2 ≤ coachState s k → effLevel s 3 = 0 → Gives (.coachReset k) s (fun t =>
      (RUnit.coach k) ∈ t.dev.held ∧ (∀ r ∈ t.co.reqs, r.coach ≠ k.val) ∧ (∀ i, i / 64 = k.val → sGet t.co.cache i [] = []) ∧
      Frame [.regs, .settings, .cap, .dev, .co] s t)) ∧
    ((RUnit.coach k) ∉ s.dev.held → ∀ pass, exec (.coachSelfTestDone k pass) s = .next s) ∧
    ((RUnit.coach k) ∈ s.dev.held →
      Gives (.coachSelfTestDone k true) s (fun t => fld (getReg t (R.COACH_STATUS k)) 1 0 = 2 ∧
        bitAt (getReg t (R.COACH_CTRL k)) 31 = true ∧ RegsBut [R.COACH_STATUS k, R.COACH_CTRL k] s t ∧
        t.dev.held = s.dev.held.erase (.coach k) ∧ t.dev.fenced = s.dev.fenced.erase (.coach k) ∧
        Frame [.dev, .regs, .settings] s t) ∧
      Gives (.coachSelfTestDone k false) s (fun t => fld (getReg t (R.COACH_STATUS k)) 1 0 = 2 ∧
        fld (getReg t (R.COACH_FAULT k)) 3 0 = 5 ∧ RegsBut [R.COACH_STATUS k, R.COACH_FAULT k] s t ∧
        Frame [.dev, .regs, .settings] s t)) ∧
    (coachState s k = 2 → rdBit s (R.COACH_CTRL k) 31 = true → ∃ u, exec (.coachReinstate k) s = .next (startDescs u) ∧
      fld (getReg u (R.COACH_STATUS k)) 1 0 = 0 ∧ bitAt (getReg u (R.COACH_CTRL k)) 31 = false ∧
      (∀ r ∈ u.co.ranges, r.house = houseOf k → r.coach ≠ none) ∧ Frame [.regs, .settings, .co] s u) ∧
    (coachState s k ≠ 2 ∨ rdBit s (R.COACH_CTRL k) 31 = false → exec (.coachReinstate k) s = .next s)


/-! ### Crossbar and buffers -/

/-- A packet on a port whose link is down is lost; a refused memory request of a switch-through or trunk port is recorded as
the port's first violation, its credits go back, and a non-posted one is answered with Completer Abort; any other packet is
accepted. Header and data credits of a flow-control update add to those held. One cell time lets the matched inputs send one
cell each, what has crossed whole acts at its destination, and what waits for the freed cells goes on. -/
def Obligations.SwitchedPackets : Prop :=
  ∀ (p : RxPacket) (x : Access) (s : State), s.dev.fabReset = false →
    (linkActive s p.port = false → exec (.packetReceived p) s = .next s) ∧
    (linkActive s p.port = true →
      x = ⟨1, if p.atomic then 4 else if p.write then 2 else 1, 2, p.requester.toNat, p.addr.toNat, p.length⟩ →
      (p.memory = false ∨ portRole s p.port < 3 → exec (.packetReceived p) s = .next (acceptPacket s p)) ∧
      (checkUnit s (ppuWindow p.port) 16 x false = none → exec (.packetReceived p) s = .next (acceptPacket s p)) ∧
      (∀ d t u, p.memory = true → 3 ≤ portRole s p.port → checkUnit s (ppuWindow p.port) 16 x false = some d →
        t = recordFirst s (ppuWindow p.port) x d 1 (ppuEv (p.port / 4)) →
        u = advertise (unback t p.port (vcClass t p.port p.vc) (p.hdrCredits + (p.dataCredits + 7) / 8)) p.port
          (vcClass t p.port p.vc) →
        (p.typ = .NP → exec (.packetReceived p) s = .next (emit u (.cplSwitched p.port p.requester p.tag .abort))) ∧
        (p.typ ≠ .NP → exec (.packetReceived p) s = .next u))) ∧
    (∀ (port : Fin 128) (c : Fin 4) (typ : PktType) (n : LinkCredits) (k : Nat), k = egressKey port c typ →
      Gives (.flowControlUpdate port c typ n) s (fun t =>
        sGet t.buf.egress k 0 = sGet s.buf.egress k 0 + n.hdr ∧
        sGet t.buf.egress (k + 1) 0 = sGet s.buf.egress (k + 1) 0 + n.data ∧
        (∀ i, i ≠ k → i ≠ k + 1 → sGet t.buf.egress i 0 = sGet s.buf.egress i 0) ∧ Frame [.buf] s t)) ∧
    (∀ t m c, t = withNoc s { s.noc with cellTime := s.noc.cellTime + 1 } →
      m = matchIter 3 t true (candidates t)
        ((t.buf.pkts.filter (fun x => x.stage == .moving)).map (fun x => (⟨x.inAtt, x.outAtt, x.id⟩ : Pairing))) →
      c = sendCells (perfHit m.1 0 0x40 0 m.2.length 1) m.2 →
      ∀ u v, u = c.2.foldl arrive c.1 → v = ((u.dp.wait.map (·.port)).dedup).foldl pumpPort u →
        exec .crossbarCellTime s = .next (settleAll ((v.co.units.map (fun x => (x.coach, x.pipe))).foldl
          (fun w x => pumpUnit w x.1 x.2 none) v)))

/-- The head of a hold list stays while its meter is valid and Tp does not cover it; once Tp covers it, it goes at the level
that Tc gives and is charged; an invalidated meter lets it go at level green and charges nothing. A tag refresh lifts the finish tag of every empty flow to V. An audit sweep, once enabled, shows
RUNNING under the opposite colour, and its end clears RUNNING, counts the sweep and
takes each finding. -/
def Obligations.HoldListsAndAudits : Prop :=
  ∀ (n : Fin 16) (i : Fin 1024) (s : State), s.dev.fabReset = false →
    (holdList s n i = [] → exec (.holdListRelease n i) s = .next s) ∧
    (∀ x l p, holdList s n i = x :: l → x.load = .switched p →
      (bitAt (meterWord s.banks.live n i) 31 = true → 0 < ratePir s.banks.live (meterProfile s n i) →
        tokensP s (meterProfile s n i) (meterPair s n i) < 4096 * p.bytes →
        exec (.holdListRelease n i) s = .next s) ∧
      (bitAt (meterWord s.banks.live n i) 31 = false → exec (.holdListRelease n i) s = .next (settlePeers (settleHeld
        (joinPkt (withBuf s { s.buf with pkts := s.buf.pkts.erase x }) { x with level := 1 }) n i))) ∧
      (∀ f q t, f = meterProfile s n i → bitAt (meterWord s.banks.live n i) 31 = true →
        ratePir s.banks.live f = 0 ∨ 4096 * p.bytes ≤ tokensP s f (meterPair s n i) →
        q = (decide (4096 * p.bytes ≤ tokensC s f (meterPair s n i)) || decide (ratePir s.banks.live f = 0)) →
        t = setMeter s n i (chargeBoth s f (meterPair s n i) (if q then p.bytes else 0) p.bytes) →
        exec (.holdListRelease n i) s = .next (settlePeers (settleHeld (joinPkt
          (withBuf t { t.buf with pkts := t.buf.pkts.erase x }) { x with level := if q then 1 else 0 }) n i)))) ∧
    (∀ (j : Fin 9) (c : Fin 4), Gives (.flowTagRefresh n j c) s (fun t => t.buf.vtime = s.buf.vtime ∧
      t.buf.pkts = s.buf.pkts ∧
      (∀ f v k, f < 1025 → v = sGet s.buf.vtime (admKey n j c) 0 → k = admKey n j c * 1025 + f →
        (((waitingAt s n j c).any (fun x => x.flow == f)) = false → tagLater (sGet s.buf.finish k 0) v = false →
          sGet t.buf.finish k 0 = v) ∧
        (((waitingAt s n j c).any (fun x => x.flow == f)) = true ∨ tagLater (sGet s.buf.finish k 0) v = true →
          sGet t.buf.finish k 0 = sGet s.buf.finish k 0)) ∧ Frame [.buf] s t)) ∧
    (rdBit s (R.RGN_BUF_AUDIT_CTRL n) 0 = false → exec (.auditSweepStart n) s = .next s) ∧
    (rdBit s (R.RGN_BUF_AUDIT_CTRL n) 0 = true → Gives (.auditSweepStart n) s (fun t =>
      bitAt (getReg t (R.RGN_BUF_AUDIT_STATUS n)) 30 = true ∧
      sGet t.buf.sweepColour n 0 = 1 - sGet s.buf.sweepColour n 0 ∧ RegsBut [R.RGN_BUF_AUDIT_STATUS n] s t ∧
      Frame [.regs, .settings, .buf] s t)) ∧
    (rdBit s (R.RGN_BUF_AUDIT_STATUS n) 30 = false → ∀ l, exec (.auditSweepEnd n l) s = .next s) ∧
    (rdBit s (R.RGN_BUF_AUDIT_STATUS n) 30 = true → Gives (.auditSweepEnd n []) s (fun t =>
      bitAt (getReg t (R.RGN_BUF_AUDIT_STATUS n)) 30 = false ∧
      fld (getReg t (R.RGN_BUF_AUDIT_STATUS n)) 15 0 = (rd s (R.RGN_BUF_AUDIT_STATUS n) 15 0 + 1) % 65536 ∧
      RegsBut [R.RGN_BUF_AUDIT_STATUS n] s t ∧ Frame [.regs, .settings] s t)) ∧
    (∀ l t, rdBit s (R.RGN_BUF_AUDIT_STATUS n) 30 = true → exec (.auditSweepEnd n []) s = .next t →
      exec (.auditSweepEnd n l) s = .next (l.foldl (fun v f => auditFinding v n f) t))

/-! ### The internal network -/

/-- A message enters the input buffer of its first router when the buffer has room, and stays at its interface when it has
none. A header that ECC corrects is counted; one that it does not is counted and its message discarded. Returned credits are
taken off those in use. A drain marker is answered with an echo, and an echo is taken off the drain that awaits it. A
reservation that expires is given back and counted, and what held it gives up, but for one whose answer would cross the twin
link while that is not active. A router with a parity error is out of service and the fault passes to chip level.
A header is read back with the opcode and the fields that it was made of. -/
def Obligations.NetworkCommands : Prop :=
  ∀ (r : Fin 18) (net : Net) (i d e : Fin 98) (seq : BitVec 8) (cr : Bool) (tag : BitVec 10) (s : State),
    s.dev.fabReset = false →
    ((∀ g ∈ s.flight, named net i d seq cr g = false) →
      exec (.routerFlitArrival r net i d seq cr .clean .clean) s = .next s ∧
      exec (.routerFlitArrival r net i d seq cr .corrected .clean) s =
        .next (count s (R.NOC_ERR_CNT0 r) 0 .once (routerEv r))) ∧
    (∀ g p, s.flight.filter (named net i d seq cr) = [g] → g.place = none → entryPort i r = some p →
      (hasRoom s r p g = false → ∀ h, exec (.routerFlitArrival r net i d seq cr h .clean) s = .next s) ∧
      (∀ w, hasRoom s r p g = true → (∀ x ∈ s.flight, placeNo x ≤ s.noc.arrivals) →
        w = { s with
          noc := { s.noc with arrivals := s.noc.arrivals + 1 }
          flight := s.flight.map (fun x => if x = g then { g with place := some ⟨r, p, s.noc.arrivals + 1⟩ } else x) } →
        exec (.routerFlitArrival r net i d seq cr .clean .clean) s = .next w ∧
        exec (.routerFlitArrival r net i d seq cr .corrected .clean) s =
          .next (count w (R.NOC_ERR_CNT0 r) 0 .once (routerEv r)) ∧
        (∀ v, v = count w (R.NOC_ERR_CNT0 r) 16 .every (routerEv r) →
          exec (.routerFlitArrival r net i d seq cr .uncorrectable .clean) s =
            .next { v with flight := v.flight.erase { g with place := some ⟨r, p, s.noc.arrivals + 1⟩ } }))) ∧
    (∀ cnt mx sm u, Arrives s (.creditret e net i cnt mx sm) u → exec (.creditret e net i cnt mx sm) s =
      .next (settleNoc (countLatency (withNoc u { u.noc with
        taken := sPut u.noc.taken (nocKey e i net) 0 (sGet u.noc.taken (nocKey e i net) 0 - cnt.toNat) })
        e net cnt.toNat sm.toNat mx.toNat))) ∧
    (∀ u, Arrives s (.drainmark e net i) u →
      exec (.drainmark e net i) s = .next (send u (.drainecho i net (Fin.ofNat 18 (nodeOf e))))) ∧
    (∀ u l, Arrives s (.drainecho e net r) u →
      l = u.noc.drains.map (fun d => if d.init == e.val && d.set == netSet net && d.node == r.val then
        { d with nets := d.nets.erase net } else d) →
      exec (.drainecho e net r) s =
        .next (settleNoc (withNoc u { u.noc with drains := l.filter (fun d => ! d.nets.isEmpty) }))) ∧
    exec (.regulatedInjection i net) s = .next (settleNoc s) ∧
    (s.noc.resv.find? (fun q => q.endpoint == e.val && resvNo q.what == tag) = none →
      exec (.reservationExpiry e tag) s = .next s) ∧
    (∀ q t, s.noc.resv.find? (fun q => q.endpoint == e.val && resvNo q.what == tag) = some q →
      t = count (unreserve s q.what) (R.NOC_ERR_CNT2 (nodeOf e)) 0 .every (routerEv (nodeOf e)) →
      (answerCrosses s q.what = true → twinState s ≠ 2 → exec (.reservationExpiry e tag) s = .next s) ∧
      (answerCrosses s q.what = false ∨ twinState s = 2 →
        (∀ a n, q.what = .request a n → localAgent a < 128 →
          exec (.reservationExpiry e tag) s = .next (settleAll (hostExpire t (localAgent a) n))) ∧
        (∀ a n, q.what = .request a n → 128 ≤ localAgent a →
          exec (.reservationExpiry e tag) s = .next (settleAll (coachExpire t (coachNo a) n))) ∧
        (∀ a, q.what = .steal a → exec (.reservationExpiry e tag) s = .next (settleAll (setStealing t (coachNo a) []))) ∧
        (∀ n, q.what = .keeper n → exec (.reservationExpiry e tag) s = .next (kprEnds t n 0)) ∧
        (∀ x n, q.what = .journal x n → exec (.reservationExpiry e tag) s = .next t))) ∧
    (r.val ∉ s.dev.routersOut → exec (.routerParityError r) s = .next (chipFault
      (raiseEv { s with dev := { s.dev with routersOut := s.dev.routersOut ++ [r.val] } } (routerEv r)) 17)) ∧
    (∀ (opc : Nat) (m : Hdr), opc < 64 → readHdr (hdrWord opc m) = (opc, { m with epoch0 := none }))

/-- An access of the keeper at endpoint 5 answers ERR where its unit does not serve, and else performs the word and answers
it; the answer frees the reservation and ends the keeper's word. -/
def Obligations.KeeperAccesses : Prop :=
  ∀ (m : KprAcc) (q : KprRsp) (n : Nat) (s u : State), s.dev.fabReset = false →
    n = (if inRegions m.offset.toNat then (regionOff m.offset.toNat).1 else 0) →
    (Arrives s (.kpracc m) u → u.dev.fabReset = false → targetDown u m.offset.toNat = true →
      exec (.kpracc m) s = .next (inject u ⟨servicesEp n, keeperEp, .rsp, false, 1, 0, 0⟩ none (.kprrsp ⟨m.ktag, true, 0⟩))) ∧
    (Arrives s (.kpracc m) u → targetDown u m.offset.toNat = false →
      ∀ v w, accessWord u m.init m.offset (if m.wr then some m.data else none) = (v, w) → v.dev.fabReset = false →
        exec (.kpracc m) s = .next (inject v ⟨servicesEp n, keeperEp, .rsp, false, 1, 0, 0⟩ none (.kprrsp ⟨m.ktag, false, w⟩))) ∧
    (Arrives s (.kprrsp q) u →
      exec (.kprrsp q) s = .next (kprEnds (unreserve u (.keeper q.ktag)) q.ktag q.data))

/-! ### Lanes and links -/

/-- A failing lane of an own link shows FAILING with its event, and on an active link its owner substitutes it where AUTO is 1;
software substitutes with a free spare and restores a substituted lane that is not failing, on active links alone and not while
the owner's block or region is held in reset; a spare that fails in standby shows STATE 3. A force is held and acts where it
may; a loop-back mode that may not act is ignored; a checker that is switched on starts from zero, and a running one locks. -/
def Obligations.LaneCommands : Prop :=
  ∀ (n : Fin 562) (o : SpareOwner) (lane : BitVec 5) (val : Word) (s : State), s.dev.fabReset = false →
    (∀ why, laneLink s n = none → exec (.laneFailing n why) s = .next s) ∧
    (∀ l why, laneLink s n = some l → linkStateOf s l ≠ 2 → linkStateOf s l ≠ 3 → exec (.laneFailing n why) s = .next s) ∧
    (∀ l t, laneLink s n = some l → linkStateOf s l = 3 →
      t = raiseEv (wrBit (wrBit s (laneReg n 0) 31 false) (laneReg n 0) 20 true) (laneEvent n) →
      exec (.laneFailing n .lockLost) s = .next t) ∧
    (∀ l t, laneLink s n = some l → linkStateOf s l = 2 →
      t = raiseEv (wrBit (wrBit s (laneReg n 0) 31 false) (laneReg n 0) 20 true) (laneEvent n) →
      ownerHeld (laneOwner n) t = false → laneCovered t (laneOwner n) (laneLocal n) = false →
      laneOfOwner t (laneOwner n) (laneLocal n) = true →
      (∀ b, freeSpare t (laneOwner n) = some b →
        (spareAuto t (laneOwner n) = true → exec (.laneFailing n .lockLost) s =
          .next (startSwitch t (laneOwner n) b false (BitVec.ofNat 5 (laneLocal n)))) ∧
        (spareAuto t (laneOwner n) = false → exec (.laneFailing n .lockLost) s = .next t)) ∧
      (freeSpare t (laneOwner n) = none → exec (.laneFailing n .lockLost) s = .next (beyondSpares t (laneOwner n)))) ∧
    (∀ b, laneOfOwner s o lane.toNat = true → ownerActive s o = true → ownerHeld o s = false → freeSpare s o = some b →
      exec (.spareSubst o lane) s = .next (emit
        (setSw s (spareKey o b) (some ⟨lane, 1, false, false, false, false, false⟩)) (.link (.spareReq o lane b)))) ∧
    (laneOfOwner s o lane.toNat = false ∨ ownerActive s o = false ∨ ownerHeld o s = true ∨ freeSpare s o = none →
      exec (.spareSubst o lane) s = .next s) ∧
    (laneIsFailing s o lane.toNat = true ∨ ownerActive s o = false ∨ ownerHeld o s = true → exec (.spareRestore o lane) s = .next s) ∧
    (∀ b, o = .block b → spareState s o false = 2 → spareLane s o false = lane.toNat → laneIsFailing s o lane.toNat = false →
      ownerActive s o = true → ownerHeld o s = false → swOf s (spareKey o false) = none → exec (.spareRestore o lane) s = .next (emit
        (setSw s (spareKey o false) (some ⟨lane, 1, false, false, false, false, true⟩)) (.link (.restoreReq o lane false)))) ∧
    (∀ second, (spareState s o second = 1 → exec (.spareFailure o second) s =
        .next (setSpare (setSw s (spareKey o second) none) o second 3 0x1F)) ∧
      (spareState s o second = 2 → exec (.spareFailure o second) s = .next (beyondSpares s o)) ∧
      (spareState s o second ≠ 1 → spareState s o second ≠ 2 → exec (.spareFailure o second) s = .next s)) ∧
    (∀ t, t = setReg s (laneReg n 0x10) (writeBits (laneReg n 0x10) (getReg s (laneReg n 0x10)) val) →
      (forceable t n = false → exec (.lanePowerForce n val) s = .next t) ∧
      (forceable t n = true → rdBit t (laneReg n 0x10) 31 = true →
        ∀ v, v = wr (wr t (laneReg n 0) 24 23 (rd t (laneReg n 0x10) 3 2)) (laneReg n 0) 22 21 (rd t (laneReg n 0x10) 1 0) →
          (rd t (laneReg n 0x10) 1 0 ≠ 0 → exec (.lanePowerForce n val) s = .next v) ∧
          (rd t (laneReg n 0x10) 1 0 = 0 → exec (.lanePowerForce n val) s = .next (setReg v (laneReg n 8) 0)))) ∧
    (fld val 31 29 ≠ 0 → forceable s n = false → exec (.loopbackModeWrite n val) s = .next s) ∧
    (∀ t, fld val 31 29 = 0 ∨ forceable s n = true →
      t = setReg s (laneReg n 0x14) (writeBits (laneReg n 0x14) (getReg s (laneReg n 0x14)) val) →
      (bitAt val 24 = false ∨ rdBit s (laneReg n 0x14) 24 = true → exec (.loopbackModeWrite n val) s = .next t) ∧
      (bitAt val 24 = true → rdBit s (laneReg n 0x14) 24 = false → exec (.loopbackModeWrite n val) s =
        .next (setReg (wrBit t (laneReg n 0x14) 23 false) (laneReg n 0x18) 0))) ∧
    (rdBit s (laneReg n 0x14) 24 = true → Gives (.checkerLock n) s (fun t =>
      bitAt (getReg t (laneReg n 0x14)) 23 = true ∧ RegsBut [laneReg n 0x14] s t ∧ Frame [.regs, .settings] s t)) ∧
    (rdBit s (laneReg n 0x14) 24 = false → exec (.checkerLock n) s = .next s)

/-- Flits of an active own link. A DATA flit under the next sequence is accepted and an ACK is owed, and
the last one of a message on the twin link returns the slots of the message; under another it fails its
CRC, and the first failure asks for a replay with one NAK and discards until REPLAY. A NAK replays from its sequence as long
as fewer than REPLAY_MAX replays have freed no flit, and new flits follow; a timer of the replay buffer replays its oldest flit; an owed ACK is sent
when the idle time ends; COMP flits do nothing. -/
def Obligations.OwnLinkFlits : Prop :=
  ∀ (l : LinkId) (f : Flit) (o : OwnLink) (s : State),
    s.dev.fabReset = false → ownProtocol s l = true → linkStateOf s l = 2 → o = ownOf s l →
    (o.replayWait = true → exec (.dataFlit l f) s = .next s) ∧
    (o.replayWait = false → o.rxReplay = none → f.seq = o.rxNext → ∃ u, exec (.dataFlit l f) s = .next (takeFields u l f) ∧
      (ownOf u l).rxNext = o.rxNext + 1 ∧ (ownOf u l).ackOwed = true ∧ (ownOf u l).replayBuf = o.replayBuf ∧
      (∀ p, l = .port p → u.out = s.out) ∧
      (l = .twin → f.eop = false → u.out = s.out) ∧
      (∀ n, l = .twin → f.eop = true → f.sop = true → n = f.len.toNat →
        u.out = s.out ++ [.credit 128 f.vc.val ((n + 15) / 16)]) ∧ Frame [.links, .out] s u) ∧
    (o.replayWait = false → o.rxReplay = none → f.seq ≠ o.rxNext → exec (.dataFlit l f) s = exec (.flitCrcFail l) s) ∧
    (∀ u, o.replayWait = false → u = count s (linkReg l 0x10) 16 .once (linkEvent l) → ownOf u l = o →
      Gives (.flitCrcFail l) s (fun t => ownOf t l = { o with replayWait := true, rxReplay := none, ackOwed := false } ∧
        t.out = u.out ++ [.link (.nak l { xseq := o.rxNext, ackSeq := o.rxNext - 1 })] ∧ Frame [.links, .out] u t)) ∧
    exec (.ackFlit l f) s = .next (takeFields s l f) ∧
    (∀ t, t = doReplay (takeAck (takeCredits (takeAck s l f.ackSeq) l f) l (f.xseq - 1)) l f.xseq →
      exec (.nak l f) s = .next (pumpLink (setOwn t l { ownOf t l with nakFirst := false }) l)) ∧
    (∀ x, replayMax s l ≤ o.replays → doReplay s l x = enterRecovery s l false) ∧
    (∀ u, u = takeFields s l f → Gives (.replay l f) s (fun t => (ownOf t l).replayWait = false ∧
      ((ownOf u l).rxNext = f.xseq → (ownOf t l).rxReplay = none) ∧
      ((ownOf u l).rxNext ≠ f.xseq → (ownOf t l).rxReplay = some f.xseq) ∧ Frame [.links] u t)) ∧
    exec (.compFlit l) s = .next s ∧
    (o.ackOwed = true → Gives (.ackIdleExpiry l) s (fun t => (ownOf t l).ackOwed = false ∧
      t.out = s.out ++ [.link (.ackFlit l { ackSeq := o.rxNext - 1 })] ∧ Frame [.links, .out] s t)) ∧
    (o.ackOwed = false → exec (.ackIdleExpiry l) s = .next s) ∧
    (o.replayWait = true → exec (.nakResendTimeout l) s =
      .next (emit (setOwn s l { o with ackOwed := false }) (.link (.nak l { xseq := o.rxNext, ackSeq := o.rxNext - 1 })))) ∧
    (o.replayWait = false → exec (.nakResendTimeout l) s = .next s) ∧
    (∀ g t, o.replayBuf = g :: t → exec (.replayTimeout l) s = .next (doReplay s l g.seq)) ∧
    (o.replayBuf = [] → exec (.replayTimeout l) s = .next s)

/-- States of links. An own link that has not returned from RECOVERY in time goes down; a link that may not train stays as it
is, and an own link that no width of 4, 8 or 16 lanes qualifies for goes down; one that trains shows its status and starts, or
goes on from RECOVERY; RETRAIN takes an active own link into RECOVERY, marks one that is there for a full reset and starts one that is
down, and takes a standard link through a full link reset; a standard link in Recovery is counted and returns or is reset. -/
def Obligations.LinkStates : Prop :=
  ∀ (l : LinkId) (p : Fin 128) (tr : Trained) (s : State), s.dev.fabReset = false →
    (linkStateOf s (.port p) = 3 → ownProtocol s (.port p) = true →
      exec (.recoveryTimeout (.port p)) s = .next (settleUnits (loseLink s p 0))) ∧
    (linkStateOf s .twin = 3 → exec (.recoveryTimeout .twin) s = .next (twinDown s)) ∧
    (linkStateOf s l ≠ 3 → exec (.recoveryTimeout l) s = .next s) ∧
    (mayTrain s l = false → exec (.linkTrained l tr) s = .next s ∧ exec (.linkRetrain l) s = .next s) ∧
    (∀ w, mayTrain s l = true → w = statusWord s l tr → ownProtocol s l = true → fld w 25 23 < 2 →
      (l = .port p → exec (.linkTrained l tr) s = .next (settleUnits (loseLink s p 0))) ∧
      (l = .twin → exec (.linkTrained l tr) s = .next (settleUnits (twinDown s)))) ∧
    (∀ w t, mayTrain s l = true → w = statusWord s l tr → ownProtocol s l = false ∨ 2 ≤ fld w 25 23 →
      t = settleSpares (trainLanes (setReg s (linkReg l 0) w) l (fld w 28 26)) l true →
      (l = .port p → ownProtocol t l = false →
        (linkStateOf s l = 2 ∨ linkStateOf s l = 3 → exec (.linkTrained l tr) s = .next t) ∧
        (linkStateOf s l ≠ 2 → linkStateOf s l ≠ 3 → exec (.linkTrained l tr) s = .next (settleUnits (trainPort t p)))) ∧
      (l = .port p → ownProtocol t l = true →
        (linkStateOf s l = 3 → exec (.linkTrained l tr) s = .next (trainOwn t l true)) ∧
        (linkStateOf s l < 2 → exec (.linkTrained l tr) s = .next (settleUnits
          ((List.range 4).foldl (fun v c => advertise v p c) (trainOwn t l false))))) ∧
      (l = .twin → linkStateOf s l = 2 → exec (.linkTrained l tr) s = .next t) ∧
      (l = .twin → linkStateOf s l ≠ 2 → exec (.linkTrained l tr) s =
        .next (settleUnits (rejoinTry (txnLinkBack (trainOwn t l (linkStateOf s l == 3))))))) ∧
    (mayTrain s l = true → ownProtocol s l = true →
      (linkStateOf s l = 2 → exec (.linkRetrain l) s = .next (enterRecovery s l true)) ∧
      (linkStateOf s l = 3 → Gives (.linkRetrain l) s (fun t => (ownOf t l).fullReset = true ∧ Frame [.links] s t)) ∧
      (linkStateOf s l < 2 → Gives (.linkRetrain l) s (fun t => fld (getReg t (linkReg l 0)) 31 29 = 1 ∧
        RegsBut [linkReg l 0] s t ∧ Frame [.regs, .settings] s t))) ∧
    (mayTrain s (.port p) = true → ownProtocol s (.port p) = false →
      exec (.linkRetrain (.port p)) s = .next (settleUnits (loseLink s p 1))) ∧
    (portValid s p = true → exec (.linkDown p) s = .next (settleUnits (loseLink s p 0))) ∧
    (portValid s p = false → exec (.linkDown p) s = .next s) ∧
    (∀ back, ownProtocol s (.port p) = true ∨ linkActive s p = false → exec (.standardLinkRecovery p back) s = .next s) ∧
    (∀ t, ownProtocol s (.port p) = false → linkActive s p = true →
      t = count s (linkReg (.port p) 0x18) 0 .every (linkEv (p / 4)) →
      exec (.standardLinkRecovery p true) s = .next (wr t (linkReg (.port p) 0) 31 29 2) ∧
      exec (.standardLinkRecovery p false) s = .next (settleUnits (loseLink t p 1)))

/-- The switchover between spare and lane: a request finds a standby spare and is acknowledged, or is refused; of two requests
that cross the higher lane's gives way; an acknowledgement and DONE of the same lane are noted; a request is repeated up to
eight times and then abandoned; alignment after an acknowledgement sends DONE. -/
def Obligations.SpareSwitchovers : Prop :=
  ∀ (o : SpareOwner) (lane : BitVec 5) (second : Bool) (s : State), s.dev.fabReset = false →
    (ownerActive s o = false → exec (.spareReq o lane second) s = .next s ∧ exec (.restoreReq o lane second) s = .next s) ∧
    (ownerActive s o = true → swOf s (spareKey o second) = none →
      (spareState s o second = 1 → Gives (.spareReq o lane second) s (fun t =>
        swOf t (spareKey o second) = some ⟨lane, 0, true, false, false, false, false⟩ ∧
        t.out = s.out ++ [.link (.spareAck o lane second)] ∧ Frame [.links, .out] s t)) ∧
      (spareState s o second ≠ 1 → exec (.spareReq o lane second) s = .next (emit s (.link (.spareNak o lane second)))) ∧
      (spareState s o second = 2 → spareLane s o second = lane.toNat → Gives (.restoreReq o lane second) s (fun t =>
        swOf t (spareKey o second) = some ⟨lane, 0, true, false, false, false, true⟩ ∧
        t.out = s.out ++ [.link (.restoreAck o lane second)] ∧ Frame [.links, .out] s t))) ∧
    (swOf s (spareKey o second) = none → exec (.spareAck o lane second) s = .next s ∧
      exec (.spareNak o lane second) s = .next s ∧ exec (.spareDone o lane second) s = .next s ∧
      exec (.spareReqResend o second) s = .next s ∧ exec (.spareAligned o second) s = .next s ∧
      exec (.restoreAck o lane second) s = .next s) ∧
    (∀ w, swOf s (spareKey o second) = some w →
      (ownerActive s o = true → o ≠ .twin → w.lane.toNat < lane.toNat → exec (.spareReq o lane second) s = .next s) ∧
      (w.lane = lane → Gives (.spareAck o lane second) s (fun t =>
        swOf t (spareKey o second) = some { w with gotAck := true } ∧ Frame [.links] s t)) ∧
      (w.lane = lane → w.restore = true → Gives (.restoreAck o lane second) s (fun t =>
        swOf t (spareKey o second) = some { w with gotAck := true } ∧ Frame [.links] s t)) ∧
      (w.restore = true → Gives (.spareNak o lane second) s (fun t =>
        swOf t (spareKey o second) = none ∧ Frame [.links] s t)) ∧
      (w.lane = lane → w.restore = true → exec (.spareDone o lane second) s =
        .next (finishSwitch (setSw s (spareKey o second) (some { w with gotDone := true })) o second)) ∧
      (w.lane = lane → w.restore = false → exec (.spareDone o lane second) s = .next (finishSwitch
        (wr (setSw s (spareKey o second) (some { w with gotDone := true })) (laneReg (ownerLane o lane.toNat) 0) 24 23 0) o second)) ∧
      (0 < w.requests → w.gotAck = false →
        (w.requests < 8 → w.restore = false → Gives (.spareReqResend o second) s (fun t =>
          swOf t (spareKey o second) = some { w with requests := w.requests + 1 } ∧
          t.out = s.out ++ [.link (.spareReq o w.lane second)] ∧ Frame [.links, .out] s t)) ∧
        (w.requests = 8 → exec (.spareReqResend o second) s = .next (abandonSwitch s o second))) ∧
      (w.gotAck = true ∨ w.sentAck = true → exec (.spareAligned o second) s = .next (finishSwitch (emit
        (setSw s (spareKey o second) (some { w with sentDone := true })) (.link (.spareDone o w.lane second))) o second)))


/-! ### Functions and slots -/

/-- A configuration request on an active host port is answered: with retry status during start-up, with Unsupported Request from
an absent function, and else with success, a read from the function's words and a write after it has acted; a function inside a
function-level reset reads its reset values and takes no write. Bus Master Enable, the power state, VF Enable and a vector's
mask act on a present function outside such a reset, and not within one. -/
def Obligations.FunctionCommands : Prop :=
  ∀ (port : Fin 128) (f : FuncNo) (off : BitVec 12) (s : State), s.dev.fabReset = false →
    (∀ w, portRole s port ≠ 1 ∨ linkActive s port = false → exec (.configRequest port f off w) s = .next s) ∧
    (portRole s port = 1 → linkActive s port = true →
      (∀ w, retryStatus s port = true → exec (.configRequest port f off w) s = .next (emit s (.cfg port .retry 0))) ∧
      (∀ w, retryStatus s port = false → fnPresent s port f = false →
        exec (.configRequest port f off w) s = .next (emit s (.cfg port .unsupported 0))) ∧
      (retryStatus s port = false → fnPresent s port f = true →
        (inFlr s port f = true →
          exec (.configRequest port f off none) s =
            .next (emit (if cfgHeaderLog (off.toNat / 4 * 4) then usedFree s else s)
              (.cfg port .success (cfgRead (resetConfig s port f) port f (off.toNat / 4 * 4)))) ∧
          ∀ v, exec (.configRequest port f off (some v)) s = .next (emit s (.cfg port .success 0))) ∧
        (inFlr s port f = false →
          exec (.configRequest port f off none) s =
            .next (emit (if cfgHeaderLog (off.toNat / 4 * 4) then usedFree s else s)
              (.cfg port .success (cfgRead s port f (off.toNat / 4 * 4)))) ∧
          ∀ v, exec (.configRequest port f off (some v)) s = .next
            (settlePeers (fetchAll (emit (cfgWrite s port f (off.toNat / 4 * 4) v) (.cfg port .success 0))))))) ∧
    (fnPresent s port f = false ∨ inFlr s port f = true → ∀ v, exec (.busMasterEnableSet port f) s = .next s ∧
      exec (.powerStateWrite port f v) s = .next s ∧ (∀ k, exec (.msixUnmask port f k) s = .next s) ∧
      (f.val = 1 → exec (.vfEnableClear port) s = .next s)) ∧
    (fnPresent s port f = true → inFlr s port f = false →
      (∀ t, t = cfgPut s port f 1 (cfgGet s port f 1 ||| 4) →
        exec (.busMasterEnableSet port f) s = .next (fetchAll (flushVectors t port f))) ∧
      (f.val = 1 → ∀ t, t = cfgPut s port 1 (0x44 / 4) ((cfgGet s port 1 (0x44 / 4) &&& ~~~ 3) ||| 3) →
        exec (.powerStateWrite port f true) s = .next (fetchAll t)) ∧
      (f.val = 1 → ∀ t, t = cfgPut s port 1 (0x44 / 4) ((cfgGet s port 1 (0x44 / 4) &&& ~~~ 3) ||| 0) →
        exec (.powerStateWrite port f false) s =
          .next (fetchAll (forAll (1 :: presentVfs t port) t (fun u g => flushVectors u port g)))) ∧
      (f.val ≠ 1 → ∀ v, exec (.powerStateWrite port f v) s = .next s) ∧
      (f.val = 1 → vfEnable s port = false → exec (.vfEnableClear port) s = .next s) ∧
      (f.val = 1 → vfEnable s port = true → exec (.vfEnableClear port) s = .next (settlePeers (clearVfs s port))) ∧
      (∀ k : BitVec 11, 1 ≤ f.val → k.toNat < msixSize s port f →
        vectorPending s port f k.toNat = false → Gives (.msixUnmask port f k) s (fun t =>
          vectorMasked t port f k.toNat = false ∧ Frame [.fns] s t))) ∧
    (s.pair.clash = true → pairState s = 0 → portRole s port = 1 → port ∉ s.fns.retryEnded →
      Gives (.retryStatusTimeout port) s (fun t => retryStatus t port = false ∧ Frame [.fns] s t))

/-- A function-level reset of a service function starts its life anew: until it is complete the function is in reset, none of
its vectors is pending, and its TLPs that run no line are gone. It completes to reset values; TLPs of its next life wait for the
writes of the last one to end. A BAR access joins the function's TLPs. A TLP of the peer window is refused at a function that is
not there; one that no window holds is recorded as the port's violation and refused as unsupported; one that a window holds and
allows, to memory that the port reaches, is metered and checked at the window's address under its key. -/
def Obligations.FunctionResetsAndPeers : Prop :=
  ∀ (port : Fin 128) (f : FuncNo) (s : State), s.dev.fabReset = false →
    (fnPresent s port f = false ∨ inFlr s port f = true → exec (.flr port f) s = .next s) ∧
    (fnPresent s port f = true → inFlr s port f = false → exec (.flr port f) s = .next (settlePeers (flrOf s port f))) ∧
    (∀ t, 2 ≤ f.val → fnPresent s port f = true → inFlr s port f = false → t = flrOf s port f →
      inFlr t port f = true ∧ (∀ v, v < 2048 → vectorPending t port f v = false) ∧
      ∀ j ∈ t.hp.jobs, j.port = port.val → j.func = f.val → j.dropped = true ∧ j.todo = [] ∧ j.running ≠ []) ∧
    (inFlr s port f = false → exec (.flrComplete port f) s = .next s) ∧
    (inFlr s port f = true → exec (.flrComplete port f) s = .next (settlePeers (finishFlr s port f)) ∧
      (∀ i, i < 1024 → cfgGet (finishFlr s port f) port f i = cfgReset f i)) ∧
    (flrWaits s port f = false → exec (.flrPeerDrained port f) s = .next s) ∧
    (flrWaits s port f = true →
      (s.hp.jobs.any (fun j => j.port == port.val && j.func == f.val && j.dropped) = true →
        exec (.flrPeerDrained port f) s = .next s) ∧
      (s.hp.jobs.any (fun j => j.port == port.val && j.func == f.val && j.dropped) = false →
        exec (.flrPeerDrained port f) s =
          .next (settlePeers { s with fns := { s.fns with flr := sDel s.fns.flr (fnKey port f) } }))) ∧
    (∀ a, exec (.bar0Access a) s = .next (settlePeers (addJob s (emptyJob a.port a.func (.bar (.bar0Access a)))))) ∧
    (∀ (t : PeerTlp) d op a b, fnPresent s t.port t.func = false ∨ t.func.val = 0 →
      exec (.peerRead t) s = .next (settlePeers s) ∧ exec (.peerWrite t d) s = .next (settlePeers s) ∧
      exec (.peerAtomic t op a b) s = .next (settlePeers s)) ∧
    (∀ (t : PeerTlp) i j u, fnPresent s t.port t.func = true → t.func.val ≠ 0 → barClosed s t.port t.func = false →
      tenantOf s t.port t.func = some i → windowFor s i t.off t.bytes = none →
      (∀ d, j = { emptyJob t.port t.func (.write d) with
          id := s.hp.nextJob, tag := t.tag, bytes := t.bytes, epoch := epochBit s } →
        u = recordFirst (addJob s j) (ppuWindow t.port) ⟨0, peerKind (.write d), 1, i, t.off, t.bytes⟩ ⟨5, 0x7E, t.off⟩ 3
          (ppuEv (t.port / 4)) →
        exec (.peerWrite t d) s = .next (settlePeers (logUncorrectable (dropJob u j) t.port t.func 20))) ∧
      (j = { emptyJob t.port t.func .read with
          id := s.hp.nextJob, tag := t.tag, bytes := t.bytes, epoch := epochBit s } →
        u = recordFirst (addJob s j) (ppuWindow t.port) ⟨0, peerKind .read, 1, i, t.off, t.bytes⟩ ⟨5, 0x7E, t.off⟩ 3
          (ppuEv (t.port / 4)) →
        exec (.peerRead t) s = .next (settlePeers (putJob u { j with stage := .done, status := .unsupported })))) ∧
    (∀ (t : PeerTlp) i k w0 w2, fnPresent s t.port t.func = true → t.func.val ≠ 0 → barClosed s t.port t.func = false →
      tenantOf s t.port t.func = some i → windowFor s i t.off t.bytes = some k → w0 = liveWord s (R.STX_WIN_W0 i k) →
      w2 = liveWord s (R.STX_WIN_W2 i k) →
      ∀ a, a = fld w2 15 0 * 2 ^ 30 + (t.off - fld w0 15 0 * 2 ^ 30) → portReach (bankNow s) t.port a = true →
        ∀ j : PeerWork → PeerJob, (∀ w, j w = { emptyJob t.port t.func w with
            id := s.hp.nextJob, tag := t.tag, bytes := t.bytes, epoch := epochBit s, addr := a, key := fld w0 27 24
            tenant := i }) →
          (bitAt w0 28 = true → exec (.peerRead t) s = .next
            (settlePeers (peerCheck (peerMeter (addJob s (j .read)) (j .read)) s.hp.nextJob false))) ∧
          (∀ d, bitAt w0 29 = true → exec (.peerWrite t d) s = .next
            (settlePeers (peerCheck (peerMeter (addJob s (j (.write d))) (j (.write d))) s.hp.nextJob false))) ∧
          (∀ op x y o, bitAt w0 30 = true → t.bytes = 4 ∨ t.bytes = 8 →
            o = (⟨(match op with | .fetchAdd => 0 | .swap => 1 | .cas => 2), t.bytes == 8, BitVec.ofNat 6 (t.off % 64), x, y⟩ :
              AtomicOp) →
            exec (.peerAtomic t op x y) s = .next
              (settlePeers (peerCheck (peerMeter (addJob s (j (.atomic o))) (j (.atomic o))) s.hp.nextJob false))))

/-- The channel of a slot in RAMP, ON or BREAK that trips goes to RETRY, or to LATCHED where RETRY is 0, with the trip's cause,
SLOT_PWRGD deasserted and SLOT_PERST_N asserted, and the trip is counted; the active link of the port that loses its
power-good takes the link-loss rule; in another state, and by a cause that its state does not know, nothing happens. Power-good
ends RAMP in ON, and its loss in BREAK only deasserts it; the end of BREAK drives the new feed and counts the switch; the
reset pin is released only under power-good; a fitted feed that becomes good shows so. -/
def Obligations.SlotFaults : Prop :=
  ∀ (i : Fin 32) (s : State),
    (∃ trips : Nat → State,
      (slotState s i ∈ [1, 2, 3] → exec (.fastTrip i) s = .next (slotLinkDown s (trips 1) i)) ∧
      (slotState s i ∈ [1, 2] → exec (.circuitBreakerExpiry i) s = .next (slotLinkDown s (trips 2) i)) ∧
      (slotState s i = 1 → exec (.rampTimeout i) s = .next (trips 3)) ∧
      (slotState s i = 2 → exec (.powerGoodLoss i false) s = .next (slotLinkDown s (trips 4) i) ∧
        exec (.powerGoodLoss i true) s = .next (slotLinkDown s (trips 5) i)) ∧
      ∀ cause off lo t,
        (cause, off, lo) ∈ [(1, R.SLOT_CNT0 i, 16), (2, R.SLOT_CNT0 i, 0), (3, R.SLOT_CNT1 i, 0), (4, R.SLOT_CNT1 i, 0),
          (5, R.SLOT_CNT1 i, 0)] →
        slotState s i ∈ (if cause = 1 then [1, 2, 3] else if cause = 2 then [1, 2] else if cause = 3 then [1] else [2]) →
        t = trips cause →
        fld (getReg t (R.SLOT_STATUS i)) 31 29 = (if fld (liveWord s (R.SLOT_TIMING i)) 31 24 = 0 then 5 else 4) ∧
        fld (getReg t (R.SLOT_STATUS i)) 21 18 = cause ∧ bitAt (getReg t (R.SLOT_STATUS i)) 25 = false ∧
        bitAt (getReg t (R.SLOT_STATUS i)) 24 = true ∧ fld (getReg t off) (lo + 15) lo = satUp (rd s off (lo + 15) lo) ∧
        (∀ o, ¬ Background o → o ∉ [R.SLOT_STATUS i, off] → (∀ p, slotPort s i = some p → o ≠ slotCtrl p) →
          getReg t o = getReg s o) ∧ Frame (.settings :: .slots :: eventParts) s t) ∧
    (∀ t, (∀ p, slotPort s i = some p → slotPwrgd s i = false ∨ slotPwrgd t i = true ∨ linkActive t p = false) →
      slotLinkDown s t i = t) ∧
    (∀ t p, slotPort s i = some p → slotPwrgd s i = true → slotPwrgd t i = false → linkActive t p = true →
      t.dev.fabReset = false → slotLinkDown s t i = settleUnits (loseLink t p 0)) ∧
    (slotState s i ∉ [1, 2, 3] → exec (.fastTrip i) s = .next s) ∧
    (slotState s i ∉ [1, 2] → exec (.circuitBreakerExpiry i) s = .next s ∧ exec (.powerGoodAssert i) s = .next s) ∧
    (slotState s i ≠ 1 → exec (.rampTimeout i) s = .next s) ∧
    (slotState s i ∉ [2, 3] → ∀ b, exec (.powerGoodLoss i b) s = .next s) ∧
    (slotState s i = 3 → ∀ b, exec (.powerGoodLoss i b) s = .next (slotLinkDown s
      (wrBit (wrBit s (R.SLOT_STATUS i) 25 false) (R.SLOT_STATUS i) 24 true) i)) ∧
    (slotState s i = 1 ∨ slotState s i = 2 → Gives (.powerGoodAssert i) s (fun t =>
      fld (getReg t (R.SLOT_STATUS i)) 31 29 = 2 ∧ bitAt (getReg t (R.SLOT_STATUS i)) 25 = true ∧
      Frame (.settings :: eventParts) s t)) ∧
    (slotState s i = 3 → Gives (.breakElapsed i) s (fun t =>
      fld (getReg t (R.SLOT_STATUS i)) 31 29 = 2 ∧
      (∀ x, x < 2 → sGet s.slots.breakTo i 0 = x → fld (getReg t (R.SLOT_STATUS i)) 28 28 = x) ∧
      fld (getReg t (R.SLOT_CNT1 i)) 31 16 = satUp (rd s (R.SLOT_CNT1 i) 31 16) ∧
      Frame (.settings :: eventParts) s t)) ∧
    (slotState s i ≠ 3 → exec (.breakElapsed i) s = .next s) ∧
    (slotPwrgd s i = false → exec (.perstDlyExpiry i) s = .next s) ∧
    (slotPwrgd s i = true → Gives (.perstDlyExpiry i) s (fun t => bitAt (getReg t (R.SLOT_STATUS i)) 24 = false ∧
      RegsBut [R.SLOT_STATUS i] s t ∧ Frame [.regs, .settings] s t)) ∧
    (∀ x, slotFitted s i (feedNo x) = false → exec (.feedGood i x) s = .next s) ∧
    (∀ x t, slotFitted s i (feedNo x) = true → t = wrBit s (R.SLOT_STATUS i) (27 - feedNo x) true →
      exec (.feedGood i x) s =
        .next (retryRamp (if feedOk t i (slotFeed t i) then t else feedInUseLost t i) i) ∧
      (slotState s i ≠ 2 → slotState s i ≠ 4 → exec (.feedGood i x) s = .next t))

/-- Feeds and presence of a slot. The feed in use that is lost in ON starts a break to the other feed where it is good; a lost
feed shows not good. A debounced board shows PRESENT once, with its event; the loss of presence takes the channel to OFF
without history and advances LINK_GEN; insertion is taken once debounced. The power and indicator commands of a port that no
channel serves only write their fields, and one of a served port that changes them waits to be completed. A scan with a wrong
check word is bad, and the second in a row sets FAULT; a good scan while FAULT is 0 reads the buttons. -/
def Obligations.SlotPresenceAndCommands : Prop :=
  ∀ (i : Fin 32) (p : Fin 128) (x : Feed) (s : State),
    (∀ t, t = wrBit s (R.SLOT_STATUS i) (27 - feedNo x) false →
      exec (.feedLost i x) s = .next (if slotFeed s i = feedNo x then feedInUseLost t i else t)) ∧
    exec (.reverseCurrent i) s = .next (feedInUseLost s i) ∧
    (slotState s i ≠ 2 ∨ feedOk s i (1 - slotFeed s i) = false → feedInUseLost s i = s) ∧
    (slotState s i = 2 → feedOk s i (1 - slotFeed s i) = true →
      fld (getReg (feedInUseLost s i) (R.SLOT_STATUS i)) 31 29 = 3 ∧ sGet (feedInUseLost s i).slots.breakTo i 0 = 1 - slotFeed s i) ∧
    (slotState s i = 2 → slotFeed s i ≠ slotPrefer s i → feedOk s i (slotPrefer s i) = true →
      (fld (liveWord s (R.SLOT_FEED i)) 22 16 = 0 → exec (.feedReturnExpiry i) s = .next s) ∧
      (fld (liveWord s (R.SLOT_FEED i)) 22 16 ≠ 0 → Gives (.feedReturnExpiry i) s (fun t => fld (getReg t (R.SLOT_STATUS i)) 31 29 = 3 ∧
        sGet t.slots.breakTo i 0 = slotPrefer s i ∧ Frame (.settings :: .slots :: eventParts) s t))) ∧
    (∀ q t, slotPort s i = some q → slotState s i = 4 → t = setRetryDue s i true →
      (rdBit s (slotCtrl q) 10 = false → exec (.retryElapsed i) s = .next (slotStartRamp t i)) ∧
      (rdBit s (slotCtrl q) 10 = true → exec (.retryElapsed i) s = .next t)) ∧
    (slotState s i ≠ 4 → exec (.retryElapsed i) s = .next s) ∧
    (slotPresent s i = true → exec (.presenceDebounced i) s = .next s) ∧
    (slotPresent s i = false → exec (.presenceLost i) s = .next s ∧ Gives (.presenceDebounced i) s (fun t =>
      bitAt (getReg t (R.SLOT_STATUS i)) 22 = true ∧ i.val ∈ t.slots.debounced ∧
      Frame (.settings :: .slots :: eventParts) s t)) ∧
    (slotPresent s i = true → ∃ t, exec (.presenceLost i) s = .next (slotLinkDown s t i) ∧
      fld (getReg t (R.SLOT_STATUS i)) 31 29 = 0 ∧ fld (getReg t (R.SLOT_STATUS i)) 21 18 = 0 ∧
      bitAt (getReg t (R.SLOT_STATUS i)) 25 = false ∧ bitAt (getReg t (R.SLOT_STATUS i)) 24 = true ∧
      bitAt (getReg t (R.SLOT_STATUS i)) 22 = false ∧ (∀ q, slotPort s i = some q → bitAt (getReg t (slotCtrl q)) 19 = true) ∧
      fld (getReg t (R.SLOT_STATUS i)) 7 0 = (rd s (R.SLOT_STATUS i) 7 0 + 1) % 256 ∧ i.val ∉ t.slots.debounced ∧
      i.val ∉ t.slots.inserted ∧ Frame (.settings :: .slots :: eventParts) s t) ∧
    (i.val ∉ s.slots.debounced → exec (.boardInserted i) s = .next s) ∧
    (i.val ∈ s.slots.debounced → bitAt (liveWord s (R.SLOT_MAP i)) 8 = false → Gives (.boardInserted i) s (fun t =>
      i.val ∈ t.slots.inserted ∧ i.val ∉ t.slots.debounced ∧
      Frame (.settings :: .slots :: eventParts) s t)) ∧
    (s.dev.fabReset = false →
      (portSlot s p = none → exec (.slotPowerOn p) s = .next (wrBit s (slotCtrl p) 10 false) ∧
        exec (.slotPowerOff p) s = .next (wrBit s (slotCtrl p) 10 true) ∧
        ∀ a b : BitVec 2, exec (.slotIndicator p a b) s = .next (wr (wr s (slotCtrl p) 9 8 a.toNat) (slotCtrl p) 7 6 b.toNat)) ∧
      (∀ k, portSlot s p = some k →
        (rdBit s (slotCtrl p) 10 = true → exec (.slotPowerOff p) s = .next s ∧
          exec (.slotPowerOn p) s = .next (slotPowerUp (addCommand (wrBit s (slotCtrl p) 10 false) p) k)) ∧
        (rdBit s (slotCtrl p) 10 = false → exec (.slotPowerOn p) s = .next s ∧
          exec (.slotPowerOff p) s = .next (slotLinkDown s (slotPowerDown (addCommand (wrBit s (slotCtrl p) 10 true) p) k) k))) ∧
      (∀ k (a b : BitVec 2), portSlot s p = some k → ∀ t, t = wr (wr s (slotCtrl p) 9 8 a.toNat) (slotCtrl p) 7 6 b.toNat →
        (rd s (slotCtrl p) 9 8 = a.toNat → rd s (slotCtrl p) 7 6 = b.toNat → exec (.slotIndicator p a b) s = .next t) ∧
        (rd s (slotCtrl p) 9 8 ≠ a.toNat ∨ rd s (slotCtrl p) 7 6 ≠ b.toNat →
          exec (.slotIndicator p a b) s = .next (addCommand t p))) ∧
      (sGet s.slots.ccPending p 0 = 0 → exec (.slotCommandCompleted p) s = .next s) ∧
      (∀ n, sGet s.slots.ccPending p 0 = n + 1 → Gives (.slotCommandCompleted p) s (fun t =>
        sGet t.slots.ccPending p 0 = n ∧ bitAt (getReg t (slotCtrl p)) 20 = true ∧
        Frame (.settings :: .slots :: eventParts) s t))) ∧
    (∀ b c, bitAt (liveWord s R.SLOT_SB) 31 = false → exec (.sidebandScan b c) s = .next s) ∧
    (∀ b t, bitAt (liveWord s R.SLOT_SB) 31 = true → rdBit s R.SLOT_SB 30 = false →
      t = emit { s with slots := { s.slots with badScans := 0, goodScans := 0 } }
        (.sideband ((List.range (chainLength s)).map (chainByte s))) →
      exec (.sidebandScan b chainCheck) s =
        .next ((List.range (chainLength s)).foldl (fun u k => buttonRead u k (b.getLsbD k)) t)) ∧
    (∀ b c, bitAt (liveWord s R.SLOT_SB) 31 = true → c ≠ chainCheck → Gives (.sidebandScan b c) s (fun t =>
      t.slots.badScans = min (s.slots.badScans + 1) 2 ∧ t.slots.goodScans = 0 ∧
      (1 ≤ s.slots.badScans → bitAt (getReg t R.SLOT_SB) 30 = true) ∧
      Frame (.settings :: .slots :: eventParts) s t))


/-! ### Transactions -/

/-- Who may do what in a transaction. BEGIN is BUSY unless the twin is IDLE, no rejoin runs and the keeper runs; else it opens a
transaction under the next serial, whose handle names this twin and the initiator, with the initiator as owner. COMMIT, ROLLBACK
and PERSIST out of place end with their code. A rollback closes the transaction with its shadows and no live word changes. A
structural write that the guard refuses is recorded; one outside the owner's open transaction is stray; no structural write
changes a live word. -/
def Obligations.TransactionOwnership : Prop :=
  ∀ (i : FabInit) (off : Offset) (v : Word) (s : State),
    (txnState s ≠ 0 ∨ rejoining s = true ∨ s.dev.keeperRun = false → exec (.txnBegin i) s = .next (txnCode s 1)) ∧
    (∀ h, txnState s = 0 → rejoining s = false → s.dev.keeperRun = true → h = mkHandle (nextSerial s.txn.serial) s.dev.pid i →
      Gives (.txnBegin i) s (fun t =>
        fld (getReg t R.STX_TXN_STATUS) 31 29 = 1 ∧ bitAt (getReg t R.STX_TXN_STATUS) 28 = true ∧ fld (getReg t R.STX_TXN_STATUS) 23 20 = FabInit.code i ∧ fld (getReg t R.STX_TXN_STATUS) 7 0 = 0 ∧
        getReg t R.STX_TXN_HANDLE = h ∧ t.txn.handle = h ∧ t.txn.owner = some i ∧ t.txn.serial = nextSerial s.txn.serial ∧
        RegsBut [R.STX_TXN_STATUS, R.STX_TXN_HANDLE] s t ∧ Frame [.regs, .settings, .txn] s t)) ∧
    (∀ c ∈ [Instr.txnCommit i, .txnRollback i],
      (txnState s = 2 ∨ txnState s = 3 → exec c s = .next (txnCode s 1)) ∧
      (txnState s = 0 → exec c s = .next (txnCode s 2)) ∧
      (txnState s = 1 → s.txn.owner ≠ some i → exec c s = .next (txnCode s 3)) ∧
      (txnState s = 1 → s.txn.owner = some i → getReg s R.STX_TXN_HANDLE ≠ s.txn.handle →
        exec c s = .next (txnCode s 2))) ∧
    (txnState s = 2 ∨ txnState s = 3 → exec (.txnPersist i) s = .next (txnCode s 1)) ∧
    (txnState s = 1 → exec (.txnPersist i) s = .next (txnCode s (if s.txn.owner = some i then 2 else 3))) ∧
    (txnState s = 0 → supplyTrouble s = true → exec (.txnPersist i) s = .next (countFailed (nvDeferred (txnCode s 8)))) ∧
    (txnState s = 0 → supplyTrouble s = false → Gives (.txnPersist i) s (fun t => fld (getReg t R.STX_TXN_STATUS) 31 29 = 3 ∧
      t.txn.image.isSome = true ∧ bitAt (getReg t R.RST_SUP_STATUS) 27 = true ∧ Frame [.regs, .settings, .txn, .store] s t)) ∧
    (txnState s = 1 → s.txn.owner = some i → getReg s R.STX_TXN_HANDLE = s.txn.handle → Gives (.txnRollback i) s (fun t =>
      fld (getReg t R.STX_TXN_STATUS) 31 29 = 0 ∧ fld (getReg t R.STX_TXN_STATUS) 7 0 = 0 ∧ t.banks = { s.banks with shadow := [] } ∧ t.txn.owner = none ∧
      t.txn.handle = 0 ∧ Frame (.settings :: .banks :: .txn :: linkParts) s t)) ∧
    (txnState s = 1 → isCoord s = true → rd s R.STX_TXN_CFG 15 0 ≠ 0 → exec .txnIdleTimeout s = .next (txnEnd s 7)) ∧
    (txnState s ≠ 1 ∨ isCoord s = false ∨ rd s R.STX_TXN_CFG 15 0 = 0 → exec .txnIdleTimeout s = .next s) ∧
    (txnState s = 1 → isCoord s = false → getReg s R.STX_TXN_HANDLE = s.txn.handle → s.txn.owner = none →
      Gives (.txnJoin i) s (fun t => t.txn.owner = some i ∧ fld (getReg t R.STX_TXN_STATUS) 7 0 = 0 ∧
        fld (getReg t R.STX_TXN_STATUS) 23 20 = FabInit.code i ∧ RegsBut [R.STX_TXN_STATUS] s t ∧ Frame [.regs, .settings, .txn] s t)) ∧
    (∀ j, txnState s = 1 → s.txn.owner = some j →
      (j ≠ i → exec (.txnJoin i) s = .next (txnCode s 3)) ∧
      (j = i → isCoord s = true → exec (.txnJoin i) s = .next (txnCode s 2))) ∧
    (structMask off.toNat = 0 → exec (.structuralWrite i off v) s = .next s) ∧
    (structMask off.toNat ≠ 0 →
      (∀ d, fabricGuard s i off.toNat true = some d →
        exec (.structuralWrite i off v) s = .next (recordFabric s i off.toNat true d)) ∧
      (fabricGuard s i off.toNat true = none →
        (txnState s ≠ 1 ∨ s.txn.owner ≠ some i → exec (.structuralWrite i off v) s =
          .next (countStray (if isLocked s off.toNat then recordLocked s i off.toNat else s))) ∧
        (txnState s = 1 → s.txn.owner = some i → isLocked s off.toNat = true →
          exec (.structuralWrite i off v) s = .next (recordLocked s i off.toNat)) ∧
        (txnState s = 1 → s.txn.owner = some i → isLocked s off.toNat = false → exec (.structuralWrite i off v) s = .next (ownerWrite s off v)))) ∧
    Gives (.structuralWrite i off v) s (fun t => t.banks.live = s.banks.live ∧
      Frame (.settings :: .banks :: .txn :: eventParts) s t)

/-- A commit. The coordinator waits for its mirrored writes, validates, and prepares the partner where it takes part; the other
twin validates and answers REFUSED, or takes PREPARE and answers PREPARED when its accesses under the old epoch have drained. The
coordinator switches once both have drained, and the other twin on SWITCH; an image of the structure becomes live and the epoch
advances. SWITCHED ends the commit with DONE, its absence with UNCONFIRMED, and ABORT discards it before the switch. Messages
of another transaction change nothing. -/
def Obligations.TransactionCommit : Prop :=
  ∀ (i : FabInit) (h : Handle) (off : Offset) (e o : BitVec 32) (v : Word) (item : BitVec 4) (code : BitVec 8) (s : State),
    s.dev.fabReset = false →
    (txnState s = 1 → s.txn.owner = some i → getReg s R.STX_TXN_HANDLE = s.txn.handle →
      (isCoord s = false → exec (.txnCommit i) s = .next (txnCode s 2)) ∧
      (isCoord s = true → rdBit s R.STX_TXN_STATUS 27 = true → exec (.txnCommit i) s = .next (commitFails s 4)) ∧
      (∀ t, isCoord s = true → rdBit s R.STX_TXN_STATUS 27 = false → t = wr s R.STX_TXN_STATUS 31 29 2 →
        (s.txn.unacked ≠ [] → exec (.txnCommit i) s = .next t) ∧
        (∀ f, s.txn.unacked = [] → validateAll t (resultBank t) = some f →
          exec (.txnCommit i) s = .next (commitFails (reportFailure t t.dev.pid f) f.code)) ∧
        (s.txn.unacked = [] → validateAll t (resultBank t) = none → exec (.txnCommit i) s = .next (commitPrepare t)))) ∧
    (∀ b, epochSwitch s b = raiseEv (perfHit (afterSwitch s
      (setReg { s with banks := { s.banks with live := b, old := s.banks.live } } R.STX_EPOCH (epochOf s + 1))) 0 0x43 0 1 1) 5) ∧
    (txnState s = 1 → isCoord s = false → s.txn.handle = h →
      (∀ f, validateAll s (resultBank s) = some f → exec (.prepare h e) s =
        .next (txnCode (txnClose (pairSend s (.refused h (BitVec.ofNat 32 f.off) (BitVec.ofNat 4 f.item)
          (BitVec.ofNat 8 f.code)))) 0x1A)) ∧
      (validateAll s (resultBank s) = none → Gives (.prepare h e) s (fun t => fld (getReg t R.STX_TXN_STATUS) 31 29 = 2 ∧ t.txn.gotPrepare = true ∧
        t.txn.newEpoch = e ∧ t.banks = s.banks ∧ Frame [.regs, .settings, .txn] s t))) ∧
    (txnState s ≠ 2 → exec .epochDrainDone s = .next s ∧ exec (.prepared h) s = .next s ∧
      exec (.refused h o item code) s = .next s ∧ exec (.switch h e) s = .next s) ∧
    (txnState s = 2 → s.txn.gotPrepare = true → s.txn.sentPrepared = false → exec .epochDrainDone s =
      .next (pairSend (fillInactive { s with txn := { s.txn with sentPrepared := true } }) (.prepared s.txn.handle))) ∧
    (∀ t, txnState s = 2 → s.txn.gotPrepare = false → s.txn.validated = true → s.txn.drained = false →
      s.txn.sentSwitch = false → t = fillInactive { s with txn := { s.txn with drained := true } } →
      (s.txn.gotPrepared = true ∨ s.txn.sentPrepare = false → exec .epochDrainDone s = .next (commitSwitch t)) ∧
      (s.txn.gotPrepared = false → s.txn.sentPrepare = true → exec .epochDrainDone s = .next t)) ∧
    (txnState s = 2 → isCoord s = true → s.txn.handle = h → s.txn.sentPrepare = true → s.txn.sentSwitch = false →
      (s.txn.drained = true →
        exec (.prepared h) s = .next (commitSwitch { s with txn := { s.txn with gotPrepared := true } })) ∧
      (s.txn.drained = false → exec (.prepared h) s = .next { s with txn := { s.txn with gotPrepared := true } })) ∧
    (txnState s = 2 → isCoord s = true → s.txn.handle = h → s.txn.sentSwitch = false →
      exec (.refused h o item code) s = .next (countFailed (txnCode
        (txnClose (reportFailure s (! s.dev.pid) ⟨code.toNat, item.toNat, o.toNat⟩)) code.toNat))) ∧
    (txnState s = 2 → s.txn.handle = h → s.txn.sentPrepared = true → s.txn.newEpoch = e →
      exec (.switch h e) s = .next (txnCode (txnClose (pairSend (epochSwitch s (resultBank s)) (.switched h))) 0)) ∧
    (s.txn.sentSwitch = true → s.txn.handle = h → Gives (.switched h) s (fun t => fld (getReg t R.STX_TXN_STATUS) 31 29 = 0 ∧
      fld (getReg t R.STX_TXN_STATUS) 7 0 = 0 ∧ t.banks = { s.banks with shadow := [] } ∧
      RegsBut [R.STX_TXN_STATUS, R.STX_TXN_CHANGES] s t ∧ Frame [.regs, .settings, .banks, .txn] s t)) ∧
    (s.txn.sentSwitch = false ∨ s.txn.handle ≠ h → exec (.switched h) s = .next s) ∧
    (s.txn.sentSwitch = true → exec (.abort h) s = .next s ∧ exec .switchedTimeout s =
      .next (countFailed (raiseEv (txnCode (txnClose s) 0x0A) 5))) ∧
    (s.txn.sentSwitch = false → exec .switchedTimeout s = .next s) ∧
    (txnState s = 1 ∨ txnState s = 2 → s.txn.handle = h → s.txn.sentSwitch = false →
      exec (.abort h) s = .next (txnCode (txnClose s) 0)) ∧
    (s.txn.handle ≠ h → exec (.shadowAck h off) s = .next s ∧ exec (.abort h) s = .next s) ∧
    (txnState s = 1 → isCoord s = false → s.txn.handle = h → h ≠ 0 → pairWide off.toNat ≠ 0 → exec (.shadowWr h off v) s =
      .next (pairSend (putShadow s off.toNat ((shadowWord s off.toNat &&& ~~~ pairWide off.toNat) |||
        (v &&& pairWide off.toNat))) (.shadowAck h off))) ∧
    (∀ u, txnState s = 1 → isCoord s = true → s.txn.handle = h → h ≠ 0 → pairWide off.toNat ≠ 0 →
      u = putShadow s off.toNat ((shadowWord s off.toNat &&& ~~~ pairWide off.toNat) ||| (v &&& pairWide off.toNat)) →
      exec (.shadowWr h off v) s = .next (pairSend { u with txn := { u.txn with unacked := u.txn.unacked ++ [off] } }
        (.shadowWr h off (v &&& pairWide off.toNat)))) ∧
    (s.txn.handle = h → txnState s = 1 → Gives (.shadowAck h off) s (fun t => t.txn.unacked = s.txn.unacked.erase off ∧
      Frame [.txn] s t))

/-- A structure image. PERSIST_DONE writes the image and ends with DONE, or leaves the slot without a header. IMG_LOAD takes SLOT
and PAGE, and refuses the booted slot and supply trouble with their codes; it runs until IMG_LOAD_DONE gives its code. -/
def Obligations.ImageWrites : Prop :=
  ∀ (slot : Bool) (page : BitVec 10) (s t : State),
    (s.txn.image = none → ∀ e, exec (.persistDone e) s = .next s) ∧
    (∀ img, s.txn.image = some img →
      t = wrBit (wr { s with txn := { s.txn with image := none } } R.STX_TXN_STATUS 31 29 0) R.RST_SUP_STATUS 27 false →
      exec (.persistDone .done) s = .next (txnCode (storeWrite t (slotBase (! bootedSlot s)) img) 0) ∧
      exec (.persistDone .supplyLow) s =
        .next (countFailed (nvDeferred (txnCode (garbleBody t (slotBase (! bootedSlot s)) img.length) 8))) ∧
      exec (.persistDone .storeError) s =
        .next (countFailed (txnCode (garbleBody t (slotBase (! bootedSlot s)) img.length) 9))) ∧
    (rdBit s R.STX_IMG_LOAD 30 = true → exec (.imgLoad slot page) s = .next s) ∧
    (rdBit s R.STX_IMG_LOAD 30 = false → t = wr (wrBit s R.STX_IMG_LOAD 29 slot) R.STX_IMG_LOAD 9 0 page.toNat →
      (s.dev.stuck = false → slot = bootedSlot s → exec (.imgLoad slot page) s = .next (wr t R.STX_IMG_LOAD 23 16 1)) ∧
      (s.dev.stuck = true ∨ slot ≠ bootedSlot s → supplyTrouble s = true →
        exec (.imgLoad slot page) s = .next (nvDeferred (wr t R.STX_IMG_LOAD 23 16 2))) ∧
      (s.dev.stuck = true ∨ slot ≠ bootedSlot s → supplyTrouble s = false → Gives (.imgLoad slot page) s (fun u =>
        bitAt (getReg u R.STX_IMG_LOAD) 30 = true ∧ bitAt (getReg u R.STX_IMG_LOAD) 29 = slot ∧ fld (getReg u R.STX_IMG_LOAD) 9 0 = page.toNat ∧
        u.txn.loading = some (imgBufBytes s) ∧ (page = 0 → u.store = s.store) ∧
        (page ≠ 0 → u.store = sDrop s.store (fun k => k / 4096 == slotBase slot / 4096)) ∧
        RegsBut [R.STX_IMG_LOAD, R.RST_SUP_STATUS] s u ∧ Frame [.regs, .settings, .txn, .store] s u))) ∧
    (s.txn.loading = none → ∀ e, exec (.imgLoadDone e) s = .next s) ∧
    (∀ bs, s.txn.loading = some bs → Gives (.imgLoadDone .done) s (fun u =>
      bitAt (getReg u R.STX_IMG_LOAD) 30 = false ∧ fld (getReg u R.STX_IMG_LOAD) 23 16 = 0 ∧ u.txn.loading = none ∧
      u.store = (storeWrite s (slotBase (rdBit s R.STX_IMG_LOAD 29) + rd s R.STX_IMG_LOAD 9 0 * 0x10000) bs).store ∧
      RegsBut [R.STX_IMG_LOAD, R.RST_SUP_STATUS] s u ∧ Frame [.regs, .settings, .txn, .store] s u))


/-! ### The pair -/

/-- Beacons and takeover. A beacon goes out on the active twin link and on the wire in use, under the next number. A beacon on an
unused path is ignored; one of this twin's own identity or of another pair sets its flag, and holds a starting twin; a window
without a beacon is counted and missed windows add up to eight, at which the path is down. A takeover starts on a PAIRED twin
alone and only under its cause, records it, and has its quiet period; its end leaves the twin ALONE. -/
def Obligations.BeaconsAndTakeover : Prop :=
  ∀ (b : Beacon) (path : BeaconPath) (seg : BitVec 16) (s : State), s.dev.fabReset = false →
    (twinState s ≠ 2 → bitAt (liveWord s R.TWIN_PAIR_CFG) 31 = false → Gives .beaconSend s (fun t =>
      t.pair = { s.pair with bseq := s.pair.bseq + 1 } ∧ Frame [.pair] s t)) ∧
    (twinState s ≠ 2 → bitAt (liveWord s R.TWIN_PAIR_CFG) 31 = true → Gives .beaconSend s (fun t =>
      t.pair = { s.pair with bseq := s.pair.bseq + 1 } ∧ t.out = s.out ++ [.wire (ownBeacon s)] ∧ Frame [.pair, .out] s t)) ∧
    (twinState s = 2 → Gives .beaconSend s (fun t => t.pair.bseq = s.pair.bseq + 1 ∧
      Frame (.settings :: .pair :: linkParts) s t)) ∧
    (pathUsed s path = false → exec (.beacon path b) s = .next s ∧ exec (.beaconWindowMiss path) s = .next s) ∧
    (pathUsed s path = true →
      (b.pid = s.dev.pid → Gives (.beacon path b) s (fun t => rdBit t R.TWIN_PAIR_STATUS 25 = true ∧
        (pairState s = 0 → t.pair.clash = true) ∧ t.pair.last = s.pair.last ∧
        Frame (.pair :: eventParts) s t)) ∧
      (b.pid ≠ s.dev.pid → b.pairTag ≠ liveWord s R.TWIN_PAIR_TAG → Gives (.beacon path b) s (fun t =>
        rdBit t R.TWIN_PAIR_STATUS 24 = true ∧ (pairState s = 0 → t.pair.clash = true) ∧ t.pair.last = s.pair.last ∧
        Frame (.pair :: eventParts) s t)) ∧
      (∀ t, b.pid ≠ s.dev.pid → b.pairTag = liveWord s R.TWIN_PAIR_TAG →
        t = ((List.range 16).filter (fun n => ! b.regions.getLsbD n)).foldl
          (fun u n => regionAnswered u (Fin.ofNat 16 n) b.pid) (setPath s path 0) →
        exec (.beacon path b) s = .next (goodBeacon (wr (withPair t { t.pair with last := some b }) R.TWIN_PAIR_STATUS 15 0
          b.regions.toNat) b)) ∧
      (path = .link → Gives (.beaconWindowMiss path) s (fun t => t.pair.missLink.val = min 8 (s.pair.missLink.val + 1) ∧
        t.pair.missWire = s.pair.missWire ∧ fld (getReg t R.TWIN_CNT0) 15 0 = satUp (rd s R.TWIN_CNT0 15 0))) ∧
      (path = .wire → Gives (.beaconWindowMiss path) s (fun t => t.pair.missWire.val = min 8 (s.pair.missWire.val + 1) ∧
        t.pair.missLink = s.pair.missLink ∧ fld (getReg t R.TWIN_CNT0) 31 16 = satUp (rd s R.TWIN_CNT0 31 16)))) ∧
    (pairState s ≠ 2 ∨ s.pair.takeoverStep ≠ 0 → (∀ c, exec (.takeover c) s = .next s) ∧ exec .handoverDone s = .next s ∧
      exec .handoverWrite s = .next s) ∧
    (pairState s = 2 → s.pair.takeoverStep = 0 →
      (linkPathLost s = true → wireLost s = true → twinState s ≠ 2 →
        exec (.takeover .pathsLost) s = .next (startTakeover s .pathsLost)) ∧
      (linkPathLost s = false ∨ wireLost s = false ∨ twinState s = 2 → exec (.takeover .pathsLost) s = .next s) ∧
      ((s.pair.last.map (·.state)) = some .stoodDown →
        exec (.takeover .partnerStoodDown) s = .next (startTakeover s .partnerStoodDown)) ∧
      exec .handoverDone s = .next (endTakeover (settleUnits (quietEnd (startTakeover s .handoverDone))))) ∧
    (s.pair.takeoverStep = 3 → exec .takeoverQuietEnd s = .next (settleUnits (quietEnd s))) ∧
    (s.pair.takeoverStep ≠ 3 → exec .takeoverQuietEnd s = .next s) ∧
    (s.pair.takeoverStep = 4 → exec .takeoverComplete s = .next (endTakeover s)) ∧
    (s.pair.takeoverStep ≠ 4 → exec .takeoverComplete s = .next s) ∧
    (seg.toNat ∉ s.pair.recovery → exec (.recoverySweepDone seg) s = .next s) ∧
    (∀ (hit : CLine → Bool) dirty t u w, seg.toNat ∈ s.pair.recovery →
      hit = (fun c => lineSeg c.line == seg.toNat && ! s.pair.recovered.contains (recKey (lineSlice c.line) c.line)) →
      dirty = s.co.cache.flatMap (fun e => (e.2.filter (fun c => hit c && c.dirty)).map (fun c => (e.1 / 64, c))) →
      t = withCo (emit s (.poisonFill seg.toNat)) { s.co with
        cache := (s.co.cache.map (fun e => (e.1, e.2.filter (fun c => ! hit c)))).filter (fun e => ! e.2.isEmpty) } →
      u = forAll dirty t (fun v c => dpWrite v (portFor v (houseOf c.1) (lineAddr c.2.line)) c.2.line
        { htwin := ! v.dev.pid, laddr := c.2.line } c.2.data fullMask false) →
      w = withPair u { u.pair with
        recovery := u.pair.recovery.filter (· != seg.toNat)
        recovered := u.pair.recovered.filter (fun (k : Nat) => lineSeg (BitVec.ofNat 40 (k % 2 ^ 40)) != seg.toNat) } →
      exec (.recoverySweepDone seg) s = .next (settleUnits (raiseEv w 13)))

/-- Handover, homing and rejoin. The leaving twin is HANDING and drains every slice, and stands down once it is quiet; the staying
twin notes it. A starting twin that finds no partner is ALONE. A slice is repaired unless its region is in reset; its homing moves
to the partner and back, with an end for each; a rejoin synchronises each slice once. A recalled set has the region's coaches
write back the lines of that slice and set, and leaves them every other line. -/
def Obligations.HandoverAndHoming : Prop :=
  ∀ (x : Fin 32) (n : Fin 16) (set : Fin 8192) (s : State), s.dev.fabReset = false →
    (pairState s = 2 → s.pair.takeoverStep = 0 →
      ∀ t, t = pairSend (setPairState (withPair s { s.pair with handoverStep := 1 }) 5) .handover →
      exec .handoverWrite s =
        .next (settleUnits ((List.range 32).foldl (fun (u : State) (k : Nat) => wrBit u (R.DIR_CTRL k) 0 true) t))) ∧
    (pairState s = 2 → Gives .handover s (fun t => t.pair = { s.pair with handoverStep := 1 } ∧ Frame [.pair] s t)) ∧
    (pairState s ≠ 2 → exec .handover s = .next s) ∧
    (pairState s = 5 → handoverQuiet s = true → exec .handoverDrained s = .next (leaveTwin s)) ∧
    (pairState s ≠ 5 ∨ handoverQuiet s = false → exec .handoverDrained s = .next s) ∧
    (pairState s = 0 → s.pair.looking = true → s.pair.clash = false → exec .joinWaitExpiry s = .next (enterAlone s)) ∧
    (pairState s ≠ 0 ∨ s.pair.looking = false ∨ s.pair.clash = true → exec .joinWaitExpiry s = .next s) ∧
    (parentDown s (.slice x) = true → exec (.directorySliceRepair x) s = .next s) ∧
    (parentDown s (.slice x) = false → exec (.directorySliceRepair x) s = .next (settleUnits (startHandOver s x false))) ∧
    (partnerServes s = true → slicedAway s x = false → sGet s.pair.repair x 0 = 0 →
      sGet (startHandOver s x false).pair.repair x 0 = 1 ∧ bitAt (getReg (startHandOver s x false) (R.DIR_CTRL x)) 0 = true) ∧
    exec (.homing x true) s = .next (settleUnits (takeOverSlice s x)) ∧
    (sliceActing s x = true → (∀ g ∈ s.pair.homing, g.slice ≠ x) →
      exec (.homing x false) s = .next (settleUnits (startReturn s x))) ∧
    (sliceActing s x = false → exec (.homing x false) s = .next s) ∧
    (2 ≤ sGet s.pair.repair x 0 → exec (.homingDone x true) s = .next (settleUnits (handedOver s x))) ∧
    (sGet s.pair.repair x 0 < 2 → exec (.homingDone x true) s = .next s) ∧
    (slicedAway s x = false → exec (.homingDone x false) s = .next s) ∧
    (slicedAway s x = true →
      (joinInvalid s = true → exec (.homingDone x false) s = .next (standDown (raiseEv s 13))) ∧
      (joinInvalid s = false → exec (.homingDone x false) s = .next (settleUnits (takenBack s x)))) ∧
    (pairState s = 1 ∨ s.pair.rejoinSource = true → x ∉ s.pair.syncGot → exec (.syncDone x) s =
      .next (settleUnits (checkSynced (withPair s { s.pair with syncGot := s.pair.syncGot ++ [x] })))) ∧
    (pairState s ≠ 1 → s.pair.rejoinSource = false → exec (.syncDone x) s = .next s) ∧
    (∀ u hit, Arrives s (.setrecall n x set) u →
      hit = (fun (c : CLine) => lineSlice c.line == x.val && lineSet c.line == set.val) →
      exec (.setrecall n x set) s = .next (settleUnits ((coachesOf n).foldl (fun v k =>
        (((v.co.cache.filter (fun e => e.1 / 64 == k)).flatMap (·.2)).filter hit).foldl (fun w c => writeBack w k c)
          (withCo v { v.co with cache := (v.co.cache.map (fun e =>
            if e.1 / 64 = k then (e.1, e.2.filter (fun c => ! hit c)) else e)).filter (fun e => ! e.2.isEmpty) })) u)) ∧
      ((∀ e ∈ u.co.cache, ∀ c ∈ e.2, hit c = false) → (∀ e ∈ u.co.cache, e.2 ≠ []) →
        exec (.setrecall n x set) s = .next (settleUnits u)))

/-! ### Events, the trouble journal and snapshots -/

/-- An event that is raised is pending afterwards, and one that is pending already is delivered no more. The partner's event sets its
bit once and interrupts the keeper; a write of ones clears the bits it names and no others. A journal period starts a page,
whose end shows its number or STORE_ERR. A capture is missed while a record is being written and dropped where it has no place;
setting EN starts the ring anew. A counter's overflow wraps it to 0, sets its OVF bit and raises its event, or carries. -/
def Obligations.EventsAndSnapshots : Prop :=
  ∀ (e : Fin 512) (pid : Bool) (w : Fin 16) (k : Fin 320) (v : Word) (s : State),
    (evPending s e = true → raiseEv s e = s) ∧ evPending (raiseEv s e) e = true ∧
    (evPending s e = false → raiseEv s e =
      deliverTwin (deliverHost (deliverKeeper (wrBit s (R.EVT_PEND (e.val / 32)) (e.val % 32) true) e) e) e) ∧
    (pid = s.dev.pid ∨ rdBit s (R.EVT_TWIN_PEND (e.val / 32)) (e.val % 32) = true → exec (.evtfwd e pid) s = .next s) ∧
    (pid ≠ s.dev.pid → rdBit s (R.EVT_TWIN_PEND (e.val / 32)) (e.val % 32) = false → Gives (.evtfwd e pid) s (fun t =>
      bitAt (getReg t (R.EVT_TWIN_PEND (e.val / 32))) (e.val % 32) = true ∧ bitAt (getReg t R.EVT_SUMMARY) 16 = true ∧
      Sent s t (.keeperIrq e.val) ∧ RegsBut [R.EVT_TWIN_PEND (e.val / 32), R.EVT_SUMMARY] s t ∧
      Frame [.regs, .settings, .out] s t)) ∧
    Gives (.evtPendClear w v) s (fun t => getReg t (R.EVT_PEND w) = getReg s (R.EVT_PEND w) &&& ~~~ v ∧
      RegsBut [R.EVT_PEND w, R.EVT_SUMMARY] s t ∧ Frame [.regs] s t) ∧
    (rdBit s R.EVT_PERSIST_CFG 31 = false ∨ s.dev.keeperRun = false ∨ s.dev.jpage ≠ none →
      exec .troubleJournalPeriod s = .next s) ∧
    (rdBit s R.EVT_PERSIST_CFG 31 = true → s.dev.keeperRun = true → s.dev.jpage = none →
      (supplyTrouble s = true →
        exec .troubleJournalPeriod s = .next (nvDeferred (wrBit s R.EVT_PERSIST_STATUS 30 true))) ∧
      (supplyTrouble s = false → Gives .troubleJournalPeriod s (fun t =>
        t.dev = { s.dev with jseq := s.dev.jseq + 1, jpage := some (journalPage s (s.dev.jseq + 1).toNat) } ∧
        bitAt (getReg t R.EVT_PERSIST_STATUS) 30 = false ∧ bitAt (getReg t R.RST_SUP_STATUS) 27 = true ∧
        RegsBut [R.EVT_PERSIST_STATUS, R.RST_SUP_STATUS] s t ∧ Frame [.regs, .settings, .dev] s t))) ∧
    (s.dev.jpage = none → ∀ ok, exec (.troubleJournalWriteDone ok) s = .next s) ∧
    (∀ page, s.dev.jpage = some page → Gives (.troubleJournalWriteDone true) s (fun t =>
      fld (getReg t R.EVT_PERSIST_STATUS) 15 0 = s.dev.jseq.toNat % 65536 ∧ bitAt (getReg t R.RST_SUP_STATUS) 27 = false ∧
      t.dev = { s.dev with jpage := none } ∧
      t.store = (storeWrite s (journalBase + s.dev.jseq.toNat % 8192 * 0x1000) page).store ∧
      RegsBut [R.EVT_PERSIST_STATUS, R.RST_SUP_STATUS] s t ∧ Frame [.regs, .settings, .dev, .store] s t)) ∧
    (∀ page t, s.dev.jpage = some page → t = wrBit { s with dev := { s.dev with jpage := none } } R.RST_SUP_STATUS 27 false →
      exec (.troubleJournalWriteDone false) s = .next (raiseEv (wrBit (storeGarble t
        (journalBase + s.dev.jseq.toNat % 8192 * 0x1000) 4096) R.EVT_PERSIST_STATUS 29 true) 67)) ∧
    (bitAt v 31 = true → rdBit s R.PERF_SNAP_CTRL 31 = false → Gives (.perfSnapEnable v) s (fun t =>
      getReg t R.PERF_SNAP_WRITE = 0 ∧ getReg t R.PERF_SNAP_CTRL = writeBits R.PERF_SNAP_CTRL (getReg s R.PERF_SNAP_CTRL) v ∧
      t.snap.seq = 1 ∧
      RegsBut [R.PERF_SNAP_CTRL, R.PERF_SNAP_WRITE] s t ∧ Frame [.regs, .settings, .snap] s t)) ∧
    (bitAt v 31 = false ∨ rdBit s R.PERF_SNAP_CTRL 31 = true → Gives (.perfSnapEnable v) s (fun t =>
      getReg t R.PERF_SNAP_CTRL = writeBits R.PERF_SNAP_CTRL (getReg s R.PERF_SNAP_CTRL) v ∧
      RegsBut [R.PERF_SNAP_CTRL] s t ∧ Frame [.regs, .settings] s t)) ∧
    (s.dev.fabReset = false →
      (rdBit s R.PERF_SNAP_CTRL 31 = false → exec .snapshotCapture s = .next s) ∧
      (rdBit s R.PERF_SNAP_CTRL 31 = true → s.snap.record.isSome = true → Gives .snapshotCapture s (fun t =>
        t.snap.lost = true ∧ t.snap.record = s.snap.record ∧ Frame (.settings :: eventParts) s t ∧ fld (getReg t R.PERF_SNAP_CNT) 15 0 = satUp (rd s R.PERF_SNAP_CNT 15 0))) ∧
      (rdBit s R.PERF_SNAP_CTRL 31 = true → s.snap.record = none → ringPlaced s = false ∨
          (rdBit s R.PERF_SNAP_CTRL 30 = false ∧ nextSlot s (ringWrite s) = rd s R.PERF_SNAP_READ 17 0) →
        Gives .snapshotCapture s (fun t => t.snap.lost = true ∧ t.snap.record = none ∧
          Frame (.settings :: eventParts) s t ∧ fld (getReg t R.PERF_SNAP_CNT) 31 16 = satUp (rd s R.PERF_SNAP_CNT 31 16))) ∧
      (rdBit s R.PERF_SNAP_CTRL 31 = true → s.snap.record = none → ringPlaced s = true →
        rdBit s R.PERF_SNAP_CTRL 30 = true → exec .snapshotCapture s = .next
          (((List.range 40).map (· + 1)).foldl (fun (t : State) (i : Nat) => writeLine t (snapRecord s) i)
            (withSnap s { s.snap with record := some (snapRecord s), lost := false }))) ∧
      (s.snap.record = none → exec .snapshotRecordDone s = .next s) ∧
      (∀ r, s.snap.record = some r → bodyOut s = true → exec .snapshotRecordDone s = .next s) ∧
      (∀ r t u n, s.snap.record = some r → bodyOut s = false → t = writeLine s r 0 → n = nextSlot s (ringWrite s) →
        u = setReg (withSnap t { t.snap with record := none, seq := t.snap.seq + 1 }) R.PERF_SNAP_WRITE (BitVec.ofNat 32 n) →
        (nextSlot s n ≠ rd s R.PERF_SNAP_READ 17 0 → exec .snapshotRecordDone s = .next u) ∧
        (nextSlot s n = rd s R.PERF_SNAP_READ 17 0 → exec .snapshotRecordDone s = .next (raiseEv u 20))) ∧
      (k.val ∉ s.snap.due → rdBit s (perfBase k) 31 = false → exec (.perfCounterOverflow k) s = .next s) ∧
      (k.val ∈ s.snap.due → exec (.perfCounterOverflow k) s = .next (s.snap.due.foldl (fun u n => raiseEv u (perfEv n))
        { s with snap := { s.snap with due := [] } })) ∧
      (∀ t, rdBit s (perfBase k) 31 = true → s.snap.due = [] → t = wr64 s (perfBase k + 8) 0 →
        (rdBit t (perfBase k) 30 = false ∨ perfLast k = true → exec (.perfCounterOverflow k) s =
          .next (raiseEv (wrBit t (perfBase k + 0x14) 0 true) (perfEv k))) ∧
        (rdBit t (perfBase k) 30 = true → perfLast k = false → rdBit t (perfBase (k + 1)) 31 = false →
          exec (.perfCounterOverflow k) s = .next t)))


/-! ### Resets and start-up -/

/-- Reset sources. A pulse on a reset pin that the filter passes is its source, and a glitch is counted; while a package-level reset
is held neither is seen. A source acts at its effective level, which is never below its factory default. The keeper watchdog
restarts the cores once, and resets the chip where they stay silent. A software reset of a paired twin waits for its handover. A
fault of the fabric supply, and a sensor at 115 °C, take the fabric die's power away. PERST resets the cells of a host port alone
and stands until it is released, which lets them go unless another reset holds them. A slice is reset by its own source, its banks one by one. -/
def Obligations.ResetSources : Prop :=
  ∀ (ns : Nat) (h : Bool) (lvl : BitVec 3) (target : BitVec 7) (n : Fin 16) (deg : BitVec 8) (p : Fin 128) (x : Fin 32)
    (s : State),
    (∀ src, factoryDefault src ≤ effLevel s src ∧
      (effLevel s src = 4 → raiseSource s src 0 = packageReset s src 0) ∧
      (effLevel s src ≠ 4 → raiseSource s src 0 = chipReset s src 0)) ∧
    (s.dev.pkgReset = true → exec (.resetPin ns h) s = .next s ∧ exec (.twinRstIn ns h) s = .next s ∧
      exec (.rstSw lvl target) s = .next s) ∧
    (s.dev.pkgReset = false →
      (10000 ≤ ns ∨ (2000 ≤ ns ∧ h = true) → exec (.resetPin ns h) s = .next (raiseSource s 1 0) ∧
        exec (.twinRstIn ns h) s = .next (raiseSource s 8 0)) ∧
      (ns < 2000 ∨ (ns < 10000 ∧ h = false) → Gives (.resetPin ns h) s (fun t =>
          fld (getReg t R.RST_GLITCH_CNT) 15 0 = satUp (rd s R.RST_GLITCH_CNT 15 0) ∧
          Frame (.settings :: eventParts) s t) ∧
        Gives (.twinRstIn ns h) s (fun t => fld (getReg t R.RST_GLITCH_CNT) 31 16 = satUp (rd s R.RST_GLITCH_CNT 31 16) ∧
          Frame (.settings :: eventParts) s t)) ∧
      (swTarget lvl.toNat target.toNat = none → exec (.rstSw lvl target) s = .next s) ∧
      (∀ u, swTarget lvl.toNat target.toNat = some u →
        (effLevel s (3 + lvl.toNat) < 3 → exec (.rstSw lvl target) s = .next (raiseUnit s (3 + lvl.toNat) u 0)) ∧
        (3 ≤ effLevel s (3 + lvl.toNat) → s.dev.fabReset = false → pairState s = 2 → s.pair.takeoverStep = 0 →
          exec (.rstSw lvl target) s = .next (startHandover { s with dev := { s.dev with swDeferred := some lvl } })) ∧
        (3 ≤ effLevel s (3 + lvl.toNat) → s.dev.fabReset = true ∨ pairState s ≠ 2 ∨ s.pair.takeoverStep ≠ 0 →
          exec (.rstSw lvl target) s = .next (raiseSource s (3 + lvl.toNat) 0)))) ∧
    (s.dev.keeperRun = false → exec .keeperWatchdogRestart s = .next s ∧ exec .rstTwinOrder s = .next s) ∧
    (s.dev.keeperRun = true → (s.pair.last.map (·.state)) = some .stoodDown →
      exec .rstTwinOrder s = .next (emit s .twinRst)) ∧
    (s.dev.keeperRun = true → linkPathLost s = true → wireLost s = true → exec .rstTwinOrder s = .next (emit s .twinRst)) ∧
    ((s.pair.last.map (·.state)) ≠ some .stoodDown → linkPathLost s = false ∨ wireLost s = false →
      exec .rstTwinOrder s = .next s) ∧
    (∀ t, s.dev.keeperRun = true → t = raiseEv (txnKeeperRestart s) 65 → exec .keeperWatchdogRestart s =
      .next { t with dev := { t.dev with keeperRun := false, wdRestarted := true } }) ∧
    (s.dev.wdRestarted = true → exec .keeperWatchdogReset s = .next (raiseSource s 2 0)) ∧
    (s.dev.wdRestarted = false → exec .keeperWatchdogReset s = .next s) ∧
    (∀ e, exec (.stateParityError e) s = .next (raiseSource s (paritySource e) 0)) ∧
    exec .keeperSupplyFault s = .next (raiseSource s 20 0) ∧
    exec .debugReset s = .next (raiseSource s 23 0) ∧
    (rdBit s R.RST_SUP_STATUS 28 = true → s.dev.pkgReset = false →
      exec .fabricSupplyFault s = .next (fabricOff (raiseSource s 19 0))) ∧
    (rdBit s R.RST_SUP_STATUS 28 = false ∨ s.dev.pkgReset = true → exec .fabricSupplyFault s = .next s) ∧
    (portRole s p ≠ 1 ∨ s.dev.fabReset = true → Gives (.portPerstAssert p) s (fun t => p ∈ t.dev.perst ∧
        t.dev.held = s.dev.held ∧ Frame [.dev] s t) ∧
      Gives (.portPerstDeassert p) s (fun t => t.dev.perst = s.dev.perst.erase p ∧ Frame [.dev] s t)) ∧
    (∀ t, s.dev.fabReset = false → portRole s p = 1 → p ∉ s.dev.perst →
      t = { s with dev := { s.dev with perst := s.dev.perst ++ [p] } } → exec (.portPerstAssert p) s =
        .next ((perstCells t p).foldl (fun (u : State) (c : Nat) => raiseUnit u 22 (.cell (Fin.ofNat 128 c)) p) t)) ∧
    (∀ t cs u, s.dev.fabReset = false → portRole s p = 1 → p ∈ s.dev.perst →
      t = { s with dev := { s.dev with perst := s.dev.perst.erase p } } → cs = perstCells t p →
      u = letGo t (fun r => cs.any (fun c => decide (r = widen (.cell (Fin.ofNat 128 c)) (min 1 (effLevel s 22))))) →
      (cs.any (fun c => ! u.dev.held.contains (.cell (Fin.ofNat 128 c)) && ! absorbed u (.cell (Fin.ofNat 128 c))) = true →
        exec (.portPerstDeassert p) s = .next (settleUnits (heldFences (cs.foldl unfenceCell u)))) ∧
      (cs.any (fun c => ! u.dev.held.contains (.cell (Fin.ofNat 128 c)) && ! absorbed u (.cell (Fin.ofNat 128 c))) = false →
        exec (.portPerstDeassert p) s = .next u)) ∧
    (s.dev.fabReset = false →
      (115 ≤ deg.toNat → exec (.thermal n deg) s = .next (fabricOff (raiseSource s 21 0))) ∧
      (deg.toNat < 115 → Gives (.thermal n deg) s (fun t => fld (getReg t R.RST_TEMP) 7 0 = deg.toNat ∧ fld (getReg t R.RST_TEMP) 11 8 = n ∧
        RegsBut [R.RST_TEMP] s t ∧ Frame [.regs, .settings] s t)) ∧
      exec (.sliceReset x) s = .next (sliceSource s x) ∧
      (∀ b, exec (.bankReset x b) s = .next (banksSource s x b)) ∧
      exec (.bankReset x 0) s = .next s ∧
      ((∀ u ∈ s.dev.held, u ≠ .slice x ∧ ∀ b : Fin 128, u = .bank b → b.val / 4 ≠ x.val) →
        ∀ ok, exec (.sliceResetDone x ok) s = .next s) ∧
      (RUnit.slice x ∈ s.dev.held → sGet s.pair.repair x 0 ≠ 4 → ∀ t,
        t = withDir { s with dev := { s.dev with held := s.dev.held.filter (fun u => ! (match u with
            | .slice y => y == x
            | .bank b => b.val / 4 == x.val
            | _ => false)) } }
          { s.dir with
            testing := s.dir.testing.filter (fun b => b / 4 != x.val), decayZero := sPut s.dir.decayZero x 0 (now s) } →
        exec (.sliceResetDone x true) s = .next (settleUnits (wrBit (withPair t t.pair) (R.DIR_STATUS x) 17 false))))

/-- Start-up. The release of a package-level reset samples the pins, loads the fuses and leaves the fabric die in reset at step 1;
the keeper boots, chooses an image and powers the fabric die; the release of the chip-level reset needs power, clock and
image, lets every unit go and starts RST_TIME; the self-test, the structure load and the pair's state lead to fabric ready. Below
chip level a release lets go units whose release is no self-test's and no pin's. Supply trouble begins below 3.05 V or with PFAIL_N
and ends at 3.15 V; a fuse entry is programmed once and never below its factory default. -/
def Obligations.StartUp : Prop :=
  ∀ (pid spi : Bool) (mv : BitVec 16) (src : BitVec 5) (lvl : BitVec 3) (failed : BitVec 16) (p : Fin 128) (s : State),
    (s.dev.pkgReset = false → exec (.powerOnRelease pid spi) s = .next s) ∧
    (s.dev.pkgReset = true → exec (.powerOnRelease pid spi) s =
        .next (recordCause (packageRelease (loadStored s) pid spi) 0 4 0) ∧
      Gives .resetRelease s (fun t => t.dev = { s.dev with pkgReset := false, held := [.chip], otpShadow := s.dev.otp } ∧
        fld (getReg t R.RST_BRINGUP) 3 0 = 1 ∧ fld (getReg t R.RST_CLK_STATUS) 3 0 = (if s.dev.clkBad then 0 else 5) ∧
        RegsBut [R.RST_BRINGUP, R.RST_CLK_STATUS] s t ∧ Frame [.regs, .settings, .dev] s t)) ∧
    (s.dev.pkgReset = false → s.dev.fabReset = true → s.dev.stopDue = false →
      (mayRelease s = false → exec .resetRelease s = .next s) ∧
      (mayRelease s = true → Gives .resetRelease s (fun t => t.dev = { s.dev with fabReset := false, held := [] } ∧
        fld (getReg t R.RST_BRINGUP) 3 0 = 3 ∧ getReg t R.RST_TIME = 0 ∧ getReg t (R.RST_TIME + 4) = 0 ∧
        RegsBut [R.RST_BRINGUP, R.RST_CLK_STATUS, R.RST_TIME, R.RST_TIME + 4] s t ∧ Frame [.regs, .settings, .dev] s t))) ∧
    (s.dev.pkgReset = false → s.dev.fabReset = true → s.dev.stopDue = true → exec .resetRelease s = .next (raiseEv
      (wrBit { s with dev := { s.dev with stopDue := false, stuck := true } } R.RST_BRINGUP 30 true) 1)) ∧
    (s.dev.pkgReset = false → s.dev.fabReset = false →
      exec .resetRelease s = .next (heldFences (letGo s (mayLetGo s)))) ∧
    (s.dev.pkgReset = true ∨ s.dev.spiMode = true → exec .keeperBoot s = .next s) ∧
    (s.dev.pkgReset = false → s.dev.spiMode = false → s.dev.fabReset = false →
      (s.dev.keeperRun = true → exec .keeperBoot s = .next s) ∧
      (s.dev.keeperRun = false → exec .keeperBoot s = .next (keeperUp s))) ∧
    (s.dev.pkgReset = false → s.dev.spiMode = false → s.dev.fabReset = true → s.dev.stuck = false → s.dev.stopDue = false →
      rd s R.RST_BRINGUP 3 0 = 1 →
      exec .keeperBoot s = .next (match chooseSlot s with
        | none => setReg { s with dev := { s.dev with stuck := true } } R.STX_IMG_STATUS (BitVec.ofNat 32
            ((imageValid s (slotBase false)).toNat * 2 ^ 29 + (imageValid s (slotBase true)).toNat * 2 ^ 28))
        | some k => enableFabric (setStep { imageStatus s k with
            dev := { (imageStatus s k).dev with keeperRun := true, wdRestarted := false } } 2))) ∧
    (rdBit s R.RST_SUP_STATUS 28 = true → Gives .fabricPowerGood s (fun t => bitAt (getReg t R.RST_SUP_STATUS) 29 = true ∧
      RegsBut [R.RST_SUP_STATUS] s t ∧ Frame [.regs, .settings] s t)) ∧
    (rdBit s R.RST_SUP_STATUS 28 = false → exec .fabricPowerGood s = .next s) ∧
    (s.dev.fabReset = false →
      (rd s R.RST_BRINGUP 3 0 ≠ 3 → ∀ b, exec (.regionSelfTestDone failed b) s = .next s) ∧
      (rd s R.RST_BRINGUP 3 0 = 3 → exec (.regionSelfTestDone failed true) s = .next (raiseSource s 18 0) ∧
        exec (.regionSelfTestDone failed false) s = .next (setStep (((List.range 16).filter (fun n => failed.getLsbD n)).foldl
          (fun (u : State) (n : Nat) => failRegion u n) s) 4)) ∧
      (rd s R.RST_BRINGUP 3 0 ≠ 4 → exec .structureLoad s = .next s) ∧
      (rd s R.RST_BRINGUP 3 0 = 4 → ∀ base, base = slotBase (bootedSlot s) →
        ∀ u, u = setReg { s with banks := ⟨loadedBank s base, [], []⟩ } R.STX_EPOCH (BitVec.ofNat 32 (imageEpoch s base)) →
          exec .structureLoad s = .next (if imageLoads s base = true
            then settleUnits (afterLoad (adoptLevels u (if s.dev.afterPackage then 4 else 3)))
            else raiseSource { s with dev := { s.dev with
              failedA := s.dev.failedA || ! bootedSlot s, failedB := s.dev.failedB || bootedSlot s } } 9 0)) ∧
      (∀ g : Fin 8, exec (.slotGroupPower g) s = .next ((List.range 4).foldl (fun (u : State) (k : Nat) =>
        match slotPort u (4 * g.val + k) with
        | some q =>
          if bitAt (liveWord u (R.SLOT_MAP (4 * g.val + k))) 8 = true ∧ slotInserted u (4 * g.val + k) = true then
            slotPowerUp (wrBit u (slotCtrl q) 10 false) (4 * g.val + k)
          else u
        | none => u) s)) ∧
      (pairState s = 2 ∨ pairState s = 3 → rdBit s R.RST_BRINGUP 31 = false →
        ∀ t, t = wr (setStep (wrBit s R.RST_BRINGUP 31 true) 10) R.RST_BRINGUP 25 24 0 → exec .fabricReady s = .next
          (raiseEv ((List.range 128).foldl (fun (u : State) (q : Nat) => offerAll u q) t) 0)) ∧
      (pairState s ≠ 2 → pairState s ≠ 3 → exec .fabricReady s = .next s) ∧
      (portRole s p = 2 → linkActive s p = false →
        exec (.devicePortTrainTimeout p) s = .next (raiseEv s (linkEv (p / 4)))) ∧
      (portRole s p ≠ 2 ∨ linkActive s p = true → exec (.devicePortTrainTimeout p) s = .next s)) ∧
    (∀ b, Gives (.supplyTroubleStart mv b) s (fun t => fld (getReg t R.RST_SUP_STATUS) 15 0 = mv.toNat ∧
      bitAt (getReg t R.RST_SUP_STATUS) 30 = b ∧ (mv.toNat < 3050 ∨ b = true → supplyTrouble t = true) ∧
      Frame (.settings :: eventParts) s t)) ∧
    (supplyTrouble s = false ∨ mv.toNat < 3150 → exec (.supplyTroubleEnd mv) s = .next s) ∧
    (∀ t, supplyTrouble s = true → 3150 ≤ mv.toNat → s.dev.causeDeferred = false →
      t = wr (wr s R.RST_SUP_STATUS 31 30 0) R.RST_SUP_STATUS 15 0 mv.toNat →
      exec (.supplyTroubleEnd mv) s = .next (if rdBit t R.EVT_PERSIST_STATUS 30 then journalStart t else t)) ∧
    (s.dev.pkgReset = true ∨ rdBit s R.RST_OTP_CTRL 30 = true → exec (.rstOtpProgram src lvl) s = .next s) ∧
    (s.dev.pkgReset = false → rdBit s R.RST_OTP_CTRL 30 = false → ∀ t,
      t = wr (wr s R.RST_OTP_CTRL 12 8 src.toNat) R.RST_OTP_CTRL 2 0 lvl.toNat →
      (24 ≤ src.toNat ∨ 4 < lvl.toNat ∨ lvl.toNat ≤ factoryDefault src.toNat →
        exec (.rstOtpProgram src lvl) s = .next (wr t R.RST_OTP_CTRL 23 16 2)) ∧
      (src.toNat < 24 → lvl.toNat ≤ 4 → factoryDefault src.toNat < lvl.toNat →
        ((sFind s.dev.otp src.toNat).isSome = true →
          exec (.rstOtpProgram src lvl) s = .next (wr t R.RST_OTP_CTRL 23 16 1)) ∧
        (sFind s.dev.otp src.toNat = none → supplyTrouble s = true →
          exec (.rstOtpProgram src lvl) s = .next (nvDeferred (wr t R.RST_OTP_CTRL 23 16 3))) ∧
        (sFind s.dev.otp src.toNat = none → supplyTrouble s = false →
          exec (.rstOtpProgram src lvl) s = .next (wrBit t R.RST_OTP_CTRL 30 true)))) ∧
    (rdBit s R.RST_OTP_CTRL 30 = false → ∀ ok, exec (.rstOtpDone ok) s = .next s) ∧
    (rdBit s R.RST_OTP_CTRL 30 = true →
      Gives (.rstOtpDone true) s (fun t => bitAt (getReg t R.RST_OTP_CTRL) 30 = false ∧ fld (getReg t R.RST_OTP_CTRL) 23 16 = 0 ∧
        sGet t.dev.otp (rd s R.RST_OTP_CTRL 12 8) 7 = BitVec.ofNat 3 (rd s R.RST_OTP_CTRL 2 0) ∧
        RegsBut [R.RST_OTP_CTRL] s t ∧ Frame [.regs, .settings, .dev] s t) ∧
      Gives (.rstOtpDone false) s (fun t => bitAt (getReg t R.RST_OTP_CTRL) 30 = false ∧ fld (getReg t R.RST_OTP_CTRL) 23 16 = 4 ∧
        RegsBut [R.RST_OTP_CTRL] s t ∧ Frame [.regs, .settings] s t))
end

