-- ==== Sys2Proof/Laws/Sparse.lean ====
section
/-! SUPPORT. The laws of sparse arrays: reading after writing, and the canonical form. -/

set_option Elab.async false

namespace Sys2Proof.Laws

open Sys2Proof.Machine

theorem sFind_sIns_same {α : Type} (m : SMap α) (k : Nat) (v : α) : sFind (sIns m k v) k = some v := by
  induction m with
  | nil => simp [sIns, sFind]
  | cons p t ih =>
    obtain ⟨k', v'⟩ := p
    by_cases h : k < k'
    · simp [sIns, sFind, h]
    · by_cases h2 : k = k'
      · simp [sIns, sFind, h2]
      · simp [sIns, sFind, h, h2, Ne.symm h2, ih]

theorem sFind_sIns_other {α : Type} (m : SMap α) {j k : Nat} (v : α) (h : j ≠ k) :
    sFind (sIns m k v) j = sFind m j := by
  induction m with
  | nil => simp [sIns, sFind, Ne.symm h]
  | cons p t ih =>
    obtain ⟨k', v'⟩ := p
    by_cases h1 : k < k'
    · simp [sIns, sFind, h1, Ne.symm h]
    · by_cases h2 : k = k'
      · subst h2; simp [sIns, sFind, Ne.symm h]
      · simp [sIns, sFind, h1, h2, ih]

theorem sFind_filter {α : Type} (m : SMap α) (p : Nat → Bool) (j : Nat) :
    sFind (m.filter (fun q => p q.1)) j = if p j then sFind m j else none := by
  induction m with
  | nil => simp [sFind]
  | cons q t ih =>
    obtain ⟨k, v⟩ := q
    by_cases hk : p k
    · by_cases hj : k = j
      · subst hj; simp [sFind, hk]
      · simp [sFind, hk, hj, ih]
    · by_cases hj : k = j
      · subst hj; simp [hk, ih]
      · simp [sFind, hk, hj, ih]

theorem sFind_sDel_same {α : Type} (m : SMap α) (k : Nat) : sFind (sDel m k) k = none := by
  simp [sDel, sFind_filter m (fun j => j != k) k]

theorem sFind_sDel_other {α : Type} (m : SMap α) {j k : Nat} (h : j ≠ k) : sFind (sDel m k) j = sFind m j := by
  simp [sDel, sFind_filter m (fun i => i != k) j, h]

@[simp] theorem sGet_sPut_same {α : Type} [DecidableEq α] (m : SMap α) (k : Nat) (d v : α) :
    sGet (sPut m k d v) k d = v := by
  by_cases h : v = d
  · simp [sPut, h, sGet, sFind_sDel_same]
  · simp [sPut, h, sGet, sFind_sIns_same]

theorem sFind_sPut_other {α : Type} [DecidableEq α] (m : SMap α) {j k : Nat} (d v : α) (h : j ≠ k) :
    sFind (sPut m k d v) j = sFind m j := by
  by_cases hv : v = d
  · simp [sPut, hv, sFind_sDel_other m h]
  · simp [sPut, hv, sFind_sIns_other m v h]

theorem sGet_sPut_other {α : Type} [DecidableEq α] (m : SMap α) {j k : Nat} (d e v : α) (h : j ≠ k) :
    sGet (sPut m k d v) j e = sGet m j e := by
  simp [sGet, sFind_sPut_other m d v h]

/-- Every listed index of `m` is above `k`. -/
def above {α : Type} (k : Nat) (m : SMap α) : Prop := ∀ p ∈ m, k < p.1

theorem sWf_cons {α : Type} [DecidableEq α] (k : Nat) (v : α) (t : SMap α) (d : Nat → α) :
    sWf ((k, v) :: t) d = true ↔ above k t ∧ v ≠ d k ∧ sWf t d = true := by
  induction t generalizing k v with
  | nil => simp [sWf, above]
  | cons p t ih =>
    obtain ⟨k', v'⟩ := p
    have e : sWf ((k, v) :: (k', v') :: t) d = (decide (k < k') && decide (v ≠ d k) && sWf ((k', v') :: t) d) := rfl
    rw [e, Bool.and_eq_true, Bool.and_eq_true, decide_eq_true_eq, decide_eq_true_eq]
    constructor
    · rintro ⟨⟨h1, h2⟩, h3⟩
      refine ⟨?_, h2, h3⟩
      intro p hp
      rcases List.mem_cons.1 hp with rfl | hp
      · exact h1
      · exact lt_trans h1 (((ih k' v').1 h3).1 p hp)
    · rintro ⟨h1, h2, h3⟩
      exact ⟨⟨h1 (k', v') (by simp), h2⟩, h3⟩

theorem above_filter {α : Type} {k : Nat} {m : SMap α} (p : Nat × α → Bool) (h : above k m) :
    above k (m.filter p) := fun q hq => h q (List.mem_filter.1 hq).1

/-- Unlisting keeps the canonical form. -/
theorem sWf_filter {α : Type} [DecidableEq α] (m : SMap α) (d : Nat → α) (p : Nat × α → Bool) (h : sWf m d = true) :
    sWf (m.filter p) d = true := by
  induction m with
  | nil => simpa using h
  | cons q t ih =>
    obtain ⟨k, v⟩ := q
    obtain ⟨h1, h2, h3⟩ := (sWf_cons k v t d).1 h
    by_cases hp : p (k, v)
    · rw [List.filter_cons_of_pos hp]
      exact (sWf_cons _ _ _ _).2 ⟨above_filter p h1, h2, ih h3⟩
    · rw [List.filter_cons_of_neg hp]
      exact ih h3

theorem sWf_sDrop {α : Type} [DecidableEq α] (m : SMap α) (d : Nat → α) (p : Nat → Bool) (h : sWf m d = true) :
    sWf (sDrop m p) d = true := sWf_filter m d _ h

theorem above_sIns {α : Type} {j k : Nat} {m : SMap α} (v : α) (h : above j m) (hk : j < k) : above j (sIns m k v) := by
  induction m with
  | nil => intro p hp; simp [sIns] at hp; subst hp; exact hk
  | cons q t ih =>
    obtain ⟨k', v'⟩ := q
    have ht : above j t := fun p hp => h p (by simp [hp])
    have hq : j < k' := h (k', v') (by simp)
    intro p hp
    simp only [sIns] at hp
    split at hp
    · rcases List.mem_cons.1 hp with rfl | hp
      · exact hk
      · exact h p hp
    · split at hp
      · rcases List.mem_cons.1 hp with rfl | hp
        · exact hk
        · exact ht p hp
      · rcases List.mem_cons.1 hp with rfl | hp
        · exact hq
        · exact ih ht p hp

theorem sWf_sIns {α : Type} [DecidableEq α] (m : SMap α) (d : Nat → α) (k : Nat) (v : α) (h : sWf m d = true)
    (hv : v ≠ d k) : sWf (sIns m k v) d = true := by
  induction m with
  | nil => simp [sIns, sWf, hv]
  | cons q t ih =>
    obtain ⟨k', v'⟩ := q
    obtain ⟨h1, h2, h3⟩ := (sWf_cons k' v' t d).1 h
    by_cases hlt : k < k'
    · simp only [sIns, hlt, if_true]
      refine (sWf_cons _ _ _ _).2 ⟨?_, hv, h⟩
      intro p hp
      rcases List.mem_cons.1 hp with rfl | hp
      · exact hlt
      · exact lt_trans hlt (h1 p hp)
    · by_cases he : k = k'
      · subst he
        simp only [sIns, lt_irrefl, if_false, if_true]
        exact (sWf_cons _ _ _ _).2 ⟨h1, hv, h3⟩
      · simp only [sIns, hlt, he, if_false]
        exact (sWf_cons _ _ _ _).2 ⟨above_sIns v h1 (by omega), h2, ih h3⟩

/-- Writing keeps the canonical form. -/
theorem sWf_sPut {α : Type} [DecidableEq α] (m : SMap α) (d : Nat → α) (k : Nat) (v : α) (h : sWf m d = true) :
    sWf (sPut m k (d k) v) d = true := by
  unfold sPut
  split
  · exact sWf_filter m d _ h
  · exact sWf_sIns m d k v h (by assumption)

/-- A canonical array lists nothing that reads as its default. -/
theorem sFind_ne_default {α : Type} [DecidableEq α] (m : SMap α) (d : Nat → α) (k : Nat) (h : sWf m d = true) :
    sFind m k ≠ some (d k) := by
  induction m with
  | nil => simp [sFind]
  | cons q t ih =>
    obtain ⟨k', v⟩ := q
    obtain ⟨_, h2, h3⟩ := (sWf_cons k' v t d).1 h
    by_cases hk : k' = k
    · subst hk; simpa [sFind] using h2
    · simpa [sFind, hk] using ih h3

/-- A filter that also rewrites entries keeps the canonical form where its results differ from the default. -/
theorem sWf_filterMap {α : Type} [DecidableEq α] (m : SMap α) (d : Nat → α) (f : Nat × α → Option (Nat × α))
    (hf : ∀ p q, p.2 ≠ d p.1 → f p = some q → q.1 = p.1 ∧ q.2 ≠ d q.1) (h : sWf m d = true) :
    sWf (m.filterMap f) d = true := by
  have key : ∀ p q, f p = some q → p ∈ m → q.1 = p.1 ∧ q.2 ≠ d q.1 := by
    intro p q e hp
    refine hf p q ?_ e
    clear hf e
    induction m with
    | nil => cases hp
    | cons a t ih =>
      obtain ⟨_, h2, h3⟩ := (sWf_cons a.1 a.2 t d).1 h
      rcases List.mem_cons.1 hp with rfl | hp
      · exact h2
      · exact ih h3 hp
  clear hf
  induction m with
  | nil => simpa using h
  | cons q t ih =>
    obtain ⟨k, v⟩ := q
    obtain ⟨h1, _, h3⟩ := (sWf_cons k v t d).1 h
    have ht := ih h3 (fun p q e hp => key p q e (by simp [hp]))
    rw [List.filterMap_cons]
    cases hq : f (k, v) with
    | none => exact ht
    | some r =>
      obtain ⟨k', v'⟩ := r
      obtain ⟨e, n⟩ := key _ _ hq (by simp)
      simp only at e; subst e
      refine (sWf_cons _ _ _ _).2 ⟨?_, n, ht⟩
      intro p hp
      obtain ⟨a, ha, hb⟩ := List.mem_filterMap.1 hp
      rw [(key _ _ hb (by simp [ha])).1]
      exact h1 a ha

end Sys2Proof.Laws
end

