-- ==== Sys2Proof/Laws/State.lean ====
section
/-! SUPPORT. What each elementary update leaves in each field of the state: one lemma a field, true by unfolding; and the
reading of a register word after a write of it. -/

set_option Elab.async false

namespace Sys2Proof.Laws

open Sys2Proof.Machine

/-! ### `setReg` -/

@[simp] theorem setReg_cap (s : State) (o : Nat) (w : Word) : (setReg s o w).cap = s.cap := rfl
@[simp] theorem setReg_banks (s : State) (o : Nat) (w : Word) : (setReg s o w).banks = s.banks := rfl
@[simp] theorem setReg_dev (s : State) (o : Nat) (w : Word) : (setReg s o w).dev = s.dev := rfl
@[simp] theorem setReg_txn (s : State) (o : Nat) (w : Word) : (setReg s o w).txn = s.txn := rfl
@[simp] theorem setReg_pair (s : State) (o : Nat) (w : Word) : (setReg s o w).pair = s.pair := rfl
@[simp] theorem setReg_links (s : State) (o : Nat) (w : Word) : (setReg s o w).links = s.links := rfl
@[simp] theorem setReg_fns (s : State) (o : Nat) (w : Word) : (setReg s o w).fns = s.fns := rfl
@[simp] theorem setReg_slots (s : State) (o : Nat) (w : Word) : (setReg s o w).slots = s.slots := rfl
@[simp] theorem setReg_snap (s : State) (o : Nat) (w : Word) : (setReg s o w).snap = s.snap := rfl
@[simp] theorem setReg_pool (s : State) (o : Nat) (w : Word) : (setReg s o w).pool = s.pool := rfl
@[simp] theorem setReg_store (s : State) (o : Nat) (w : Word) : (setReg s o w).store = s.store := rfl
@[simp] theorem setReg_noc (s : State) (o : Nat) (w : Word) : (setReg s o w).noc = s.noc := rfl
@[simp] theorem setReg_buf (s : State) (o : Nat) (w : Word) : (setReg s o w).buf = s.buf := rfl
@[simp] theorem setReg_dir (s : State) (o : Nat) (w : Word) : (setReg s o w).dir = s.dir := rfl
@[simp] theorem setReg_dp (s : State) (o : Nat) (w : Word) : (setReg s o w).dp = s.dp := rfl
@[simp] theorem setReg_hp (s : State) (o : Nat) (w : Word) : (setReg s o w).hp = s.hp := rfl
@[simp] theorem setReg_co (s : State) (o : Nat) (w : Word) : (setReg s o w).co = s.co := rfl
@[simp] theorem setReg_flight (s : State) (o : Nat) (w : Word) : (setReg s o w).flight = s.flight := rfl
@[simp] theorem setReg_out (s : State) (o : Nat) (w : Word) : (setReg s o w).out = s.out := rfl
@[simp] theorem setReg_fresh (s : State) (o : Nat) (w : Word) : (setReg s o w).fresh = s.fresh := rfl
@[simp] theorem setReg_pending (s : State) (o : Nat) (w : Word) : (setReg s o w).pending = s.pending := rfl
@[simp] theorem setReg_liveWord (s : State) (o : Nat) (w : Word) (i : Nat) : liveWord (setReg s o w) i = liveWord s i := rfl

/-! ### `wr` -/

@[simp] theorem wr_cap (s : State) (o hi lo v : Nat) : (wr s o hi lo v).cap = s.cap := rfl
@[simp] theorem wr_banks (s : State) (o hi lo v : Nat) : (wr s o hi lo v).banks = s.banks := rfl
@[simp] theorem wr_dev (s : State) (o hi lo v : Nat) : (wr s o hi lo v).dev = s.dev := rfl
@[simp] theorem wr_txn (s : State) (o hi lo v : Nat) : (wr s o hi lo v).txn = s.txn := rfl
@[simp] theorem wr_pair (s : State) (o hi lo v : Nat) : (wr s o hi lo v).pair = s.pair := rfl
@[simp] theorem wr_links (s : State) (o hi lo v : Nat) : (wr s o hi lo v).links = s.links := rfl
@[simp] theorem wr_fns (s : State) (o hi lo v : Nat) : (wr s o hi lo v).fns = s.fns := rfl
@[simp] theorem wr_slots (s : State) (o hi lo v : Nat) : (wr s o hi lo v).slots = s.slots := rfl
@[simp] theorem wr_snap (s : State) (o hi lo v : Nat) : (wr s o hi lo v).snap = s.snap := rfl
@[simp] theorem wr_pool (s : State) (o hi lo v : Nat) : (wr s o hi lo v).pool = s.pool := rfl
@[simp] theorem wr_store (s : State) (o hi lo v : Nat) : (wr s o hi lo v).store = s.store := rfl
@[simp] theorem wr_noc (s : State) (o hi lo v : Nat) : (wr s o hi lo v).noc = s.noc := rfl
@[simp] theorem wr_buf (s : State) (o hi lo v : Nat) : (wr s o hi lo v).buf = s.buf := rfl
@[simp] theorem wr_dir (s : State) (o hi lo v : Nat) : (wr s o hi lo v).dir = s.dir := rfl
@[simp] theorem wr_dp (s : State) (o hi lo v : Nat) : (wr s o hi lo v).dp = s.dp := rfl
@[simp] theorem wr_hp (s : State) (o hi lo v : Nat) : (wr s o hi lo v).hp = s.hp := rfl
@[simp] theorem wr_co (s : State) (o hi lo v : Nat) : (wr s o hi lo v).co = s.co := rfl
@[simp] theorem wr_flight (s : State) (o hi lo v : Nat) : (wr s o hi lo v).flight = s.flight := rfl
@[simp] theorem wr_out (s : State) (o hi lo v : Nat) : (wr s o hi lo v).out = s.out := rfl
@[simp] theorem wr_fresh (s : State) (o hi lo v : Nat) : (wr s o hi lo v).fresh = s.fresh := rfl
@[simp] theorem wr_pending (s : State) (o hi lo v : Nat) : (wr s o hi lo v).pending = s.pending := rfl
@[simp] theorem wr_liveWord (s : State) (o hi lo v : Nat) (i : Nat) : liveWord (wr s o hi lo v) i = liveWord s i := rfl

/-! ### `wrBit` -/

@[simp] theorem wrBit_cap (s : State) (o k : Nat) (b : Bool) : (wrBit s o k b).cap = s.cap := rfl
@[simp] theorem wrBit_banks (s : State) (o k : Nat) (b : Bool) : (wrBit s o k b).banks = s.banks := rfl
@[simp] theorem wrBit_dev (s : State) (o k : Nat) (b : Bool) : (wrBit s o k b).dev = s.dev := rfl
@[simp] theorem wrBit_txn (s : State) (o k : Nat) (b : Bool) : (wrBit s o k b).txn = s.txn := rfl
@[simp] theorem wrBit_pair (s : State) (o k : Nat) (b : Bool) : (wrBit s o k b).pair = s.pair := rfl
@[simp] theorem wrBit_links (s : State) (o k : Nat) (b : Bool) : (wrBit s o k b).links = s.links := rfl
@[simp] theorem wrBit_fns (s : State) (o k : Nat) (b : Bool) : (wrBit s o k b).fns = s.fns := rfl
@[simp] theorem wrBit_slots (s : State) (o k : Nat) (b : Bool) : (wrBit s o k b).slots = s.slots := rfl
@[simp] theorem wrBit_snap (s : State) (o k : Nat) (b : Bool) : (wrBit s o k b).snap = s.snap := rfl
@[simp] theorem wrBit_pool (s : State) (o k : Nat) (b : Bool) : (wrBit s o k b).pool = s.pool := rfl
@[simp] theorem wrBit_store (s : State) (o k : Nat) (b : Bool) : (wrBit s o k b).store = s.store := rfl
@[simp] theorem wrBit_noc (s : State) (o k : Nat) (b : Bool) : (wrBit s o k b).noc = s.noc := rfl
@[simp] theorem wrBit_buf (s : State) (o k : Nat) (b : Bool) : (wrBit s o k b).buf = s.buf := rfl
@[simp] theorem wrBit_dir (s : State) (o k : Nat) (b : Bool) : (wrBit s o k b).dir = s.dir := rfl
@[simp] theorem wrBit_dp (s : State) (o k : Nat) (b : Bool) : (wrBit s o k b).dp = s.dp := rfl
@[simp] theorem wrBit_hp (s : State) (o k : Nat) (b : Bool) : (wrBit s o k b).hp = s.hp := rfl
@[simp] theorem wrBit_co (s : State) (o k : Nat) (b : Bool) : (wrBit s o k b).co = s.co := rfl
@[simp] theorem wrBit_flight (s : State) (o k : Nat) (b : Bool) : (wrBit s o k b).flight = s.flight := rfl
@[simp] theorem wrBit_out (s : State) (o k : Nat) (b : Bool) : (wrBit s o k b).out = s.out := rfl
@[simp] theorem wrBit_fresh (s : State) (o k : Nat) (b : Bool) : (wrBit s o k b).fresh = s.fresh := rfl
@[simp] theorem wrBit_pending (s : State) (o k : Nat) (b : Bool) : (wrBit s o k b).pending = s.pending := rfl
@[simp] theorem wrBit_liveWord (s : State) (o k : Nat) (b : Bool) (i : Nat) : liveWord (wrBit s o k b) i = liveWord s i := rfl

/-! ### `wr64` -/

@[simp] theorem wr64_cap (s : State) (o : Nat) (v : BitVec 64) : (wr64 s o v).cap = s.cap := rfl
@[simp] theorem wr64_banks (s : State) (o : Nat) (v : BitVec 64) : (wr64 s o v).banks = s.banks := rfl
@[simp] theorem wr64_dev (s : State) (o : Nat) (v : BitVec 64) : (wr64 s o v).dev = s.dev := rfl
@[simp] theorem wr64_txn (s : State) (o : Nat) (v : BitVec 64) : (wr64 s o v).txn = s.txn := rfl
@[simp] theorem wr64_pair (s : State) (o : Nat) (v : BitVec 64) : (wr64 s o v).pair = s.pair := rfl
@[simp] theorem wr64_links (s : State) (o : Nat) (v : BitVec 64) : (wr64 s o v).links = s.links := rfl
@[simp] theorem wr64_fns (s : State) (o : Nat) (v : BitVec 64) : (wr64 s o v).fns = s.fns := rfl
@[simp] theorem wr64_slots (s : State) (o : Nat) (v : BitVec 64) : (wr64 s o v).slots = s.slots := rfl
@[simp] theorem wr64_snap (s : State) (o : Nat) (v : BitVec 64) : (wr64 s o v).snap = s.snap := rfl
@[simp] theorem wr64_pool (s : State) (o : Nat) (v : BitVec 64) : (wr64 s o v).pool = s.pool := rfl
@[simp] theorem wr64_store (s : State) (o : Nat) (v : BitVec 64) : (wr64 s o v).store = s.store := rfl
@[simp] theorem wr64_noc (s : State) (o : Nat) (v : BitVec 64) : (wr64 s o v).noc = s.noc := rfl
@[simp] theorem wr64_buf (s : State) (o : Nat) (v : BitVec 64) : (wr64 s o v).buf = s.buf := rfl
@[simp] theorem wr64_dir (s : State) (o : Nat) (v : BitVec 64) : (wr64 s o v).dir = s.dir := rfl
@[simp] theorem wr64_dp (s : State) (o : Nat) (v : BitVec 64) : (wr64 s o v).dp = s.dp := rfl
@[simp] theorem wr64_hp (s : State) (o : Nat) (v : BitVec 64) : (wr64 s o v).hp = s.hp := rfl
@[simp] theorem wr64_co (s : State) (o : Nat) (v : BitVec 64) : (wr64 s o v).co = s.co := rfl
@[simp] theorem wr64_flight (s : State) (o : Nat) (v : BitVec 64) : (wr64 s o v).flight = s.flight := rfl
@[simp] theorem wr64_out (s : State) (o : Nat) (v : BitVec 64) : (wr64 s o v).out = s.out := rfl
@[simp] theorem wr64_fresh (s : State) (o : Nat) (v : BitVec 64) : (wr64 s o v).fresh = s.fresh := rfl
@[simp] theorem wr64_pending (s : State) (o : Nat) (v : BitVec 64) : (wr64 s o v).pending = s.pending := rfl
@[simp] theorem wr64_liveWord (s : State) (o : Nat) (v : BitVec 64) (i : Nat) : liveWord (wr64 s o v) i = liveWord s i := rfl

/-! ### `clearRegs` -/

@[simp] theorem clearRegs_banks (s : State) (p : Nat → Bool) : (clearRegs s p).banks = s.banks := rfl
@[simp] theorem clearRegs_dev (s : State) (p : Nat → Bool) : (clearRegs s p).dev = s.dev := rfl
@[simp] theorem clearRegs_txn (s : State) (p : Nat → Bool) : (clearRegs s p).txn = s.txn := rfl
@[simp] theorem clearRegs_pair (s : State) (p : Nat → Bool) : (clearRegs s p).pair = s.pair := rfl
@[simp] theorem clearRegs_links (s : State) (p : Nat → Bool) : (clearRegs s p).links = s.links := rfl
@[simp] theorem clearRegs_fns (s : State) (p : Nat → Bool) : (clearRegs s p).fns = s.fns := rfl
@[simp] theorem clearRegs_slots (s : State) (p : Nat → Bool) : (clearRegs s p).slots = s.slots := rfl
@[simp] theorem clearRegs_snap (s : State) (p : Nat → Bool) : (clearRegs s p).snap = s.snap := rfl
@[simp] theorem clearRegs_pool (s : State) (p : Nat → Bool) : (clearRegs s p).pool = s.pool := rfl
@[simp] theorem clearRegs_store (s : State) (p : Nat → Bool) : (clearRegs s p).store = s.store := rfl
@[simp] theorem clearRegs_noc (s : State) (p : Nat → Bool) : (clearRegs s p).noc = s.noc := rfl
@[simp] theorem clearRegs_buf (s : State) (p : Nat → Bool) : (clearRegs s p).buf = s.buf := rfl
@[simp] theorem clearRegs_dir (s : State) (p : Nat → Bool) : (clearRegs s p).dir = s.dir := rfl
@[simp] theorem clearRegs_dp (s : State) (p : Nat → Bool) : (clearRegs s p).dp = s.dp := rfl
@[simp] theorem clearRegs_hp (s : State) (p : Nat → Bool) : (clearRegs s p).hp = s.hp := rfl
@[simp] theorem clearRegs_co (s : State) (p : Nat → Bool) : (clearRegs s p).co = s.co := rfl
@[simp] theorem clearRegs_flight (s : State) (p : Nat → Bool) : (clearRegs s p).flight = s.flight := rfl
@[simp] theorem clearRegs_out (s : State) (p : Nat → Bool) : (clearRegs s p).out = s.out := rfl
@[simp] theorem clearRegs_fresh (s : State) (p : Nat → Bool) : (clearRegs s p).fresh = s.fresh := rfl
@[simp] theorem clearRegs_pending (s : State) (p : Nat → Bool) : (clearRegs s p).pending = s.pending := rfl
@[simp] theorem clearRegs_liveWord (s : State) (p : Nat → Bool) (i : Nat) : liveWord (clearRegs s p) i = liveWord s i := rfl

/-! ### `emit` -/

@[simp] theorem emit_regs (s : State) (x : Out) : (emit s x).regs = s.regs := rfl
@[simp] theorem emit_cap (s : State) (x : Out) : (emit s x).cap = s.cap := rfl
@[simp] theorem emit_banks (s : State) (x : Out) : (emit s x).banks = s.banks := rfl
@[simp] theorem emit_dev (s : State) (x : Out) : (emit s x).dev = s.dev := rfl
@[simp] theorem emit_txn (s : State) (x : Out) : (emit s x).txn = s.txn := rfl
@[simp] theorem emit_pair (s : State) (x : Out) : (emit s x).pair = s.pair := rfl
@[simp] theorem emit_links (s : State) (x : Out) : (emit s x).links = s.links := rfl
@[simp] theorem emit_fns (s : State) (x : Out) : (emit s x).fns = s.fns := rfl
@[simp] theorem emit_slots (s : State) (x : Out) : (emit s x).slots = s.slots := rfl
@[simp] theorem emit_snap (s : State) (x : Out) : (emit s x).snap = s.snap := rfl
@[simp] theorem emit_pool (s : State) (x : Out) : (emit s x).pool = s.pool := rfl
@[simp] theorem emit_store (s : State) (x : Out) : (emit s x).store = s.store := rfl
@[simp] theorem emit_noc (s : State) (x : Out) : (emit s x).noc = s.noc := rfl
@[simp] theorem emit_buf (s : State) (x : Out) : (emit s x).buf = s.buf := rfl
@[simp] theorem emit_dir (s : State) (x : Out) : (emit s x).dir = s.dir := rfl
@[simp] theorem emit_dp (s : State) (x : Out) : (emit s x).dp = s.dp := rfl
@[simp] theorem emit_hp (s : State) (x : Out) : (emit s x).hp = s.hp := rfl
@[simp] theorem emit_co (s : State) (x : Out) : (emit s x).co = s.co := rfl
@[simp] theorem emit_flight (s : State) (x : Out) : (emit s x).flight = s.flight := rfl
@[simp] theorem emit_fresh (s : State) (x : Out) : (emit s x).fresh = s.fresh := rfl
@[simp] theorem emit_pending (s : State) (x : Out) : (emit s x).pending = s.pending := rfl
@[simp] theorem emit_getReg (s : State) (x : Out) (i : Nat) : getReg (emit s x) i = getReg s i := rfl
@[simp] theorem emit_liveWord (s : State) (x : Out) (i : Nat) : liveWord (emit s x) i = liveWord s i := rfl
@[simp] theorem emit_rd (s : State) (x : Out) (i top low : Nat) : rd (emit s x) i top low = rd s i top low := rfl
@[simp] theorem emit_rdBit (s : State) (x : Out) (i bit : Nat) : rdBit (emit s x) i bit = rdBit s i bit := rfl

/-! ### `usedFree` -/

@[simp] theorem usedFree_regs (s : State) : (usedFree s).regs = s.regs := rfl
@[simp] theorem usedFree_cap (s : State) : (usedFree s).cap = s.cap := rfl
@[simp] theorem usedFree_banks (s : State) : (usedFree s).banks = s.banks := rfl
@[simp] theorem usedFree_dev (s : State) : (usedFree s).dev = s.dev := rfl
@[simp] theorem usedFree_txn (s : State) : (usedFree s).txn = s.txn := rfl
@[simp] theorem usedFree_pair (s : State) : (usedFree s).pair = s.pair := rfl
@[simp] theorem usedFree_links (s : State) : (usedFree s).links = s.links := rfl
@[simp] theorem usedFree_fns (s : State) : (usedFree s).fns = s.fns := rfl
@[simp] theorem usedFree_slots (s : State) : (usedFree s).slots = s.slots := rfl
@[simp] theorem usedFree_snap (s : State) : (usedFree s).snap = s.snap := rfl
@[simp] theorem usedFree_pool (s : State) : (usedFree s).pool = s.pool := rfl
@[simp] theorem usedFree_store (s : State) : (usedFree s).store = s.store := rfl
@[simp] theorem usedFree_noc (s : State) : (usedFree s).noc = s.noc := rfl
@[simp] theorem usedFree_buf (s : State) : (usedFree s).buf = s.buf := rfl
@[simp] theorem usedFree_dir (s : State) : (usedFree s).dir = s.dir := rfl
@[simp] theorem usedFree_dp (s : State) : (usedFree s).dp = s.dp := rfl
@[simp] theorem usedFree_hp (s : State) : (usedFree s).hp = s.hp := rfl
@[simp] theorem usedFree_co (s : State) : (usedFree s).co = s.co := rfl
@[simp] theorem usedFree_flight (s : State) : (usedFree s).flight = s.flight := rfl
@[simp] theorem usedFree_out (s : State) : (usedFree s).out = s.out := rfl
@[simp] theorem usedFree_pending (s : State) : (usedFree s).pending = s.pending := rfl
@[simp] theorem usedFree_getReg (s : State) (i : Nat) : getReg (usedFree s) i = getReg s i := rfl
@[simp] theorem usedFree_liveWord (s : State) (i : Nat) : liveWord (usedFree s) i = liveWord s i := rfl
@[simp] theorem usedFree_rd (s : State) (i top low : Nat) : rd (usedFree s) i top low = rd s i top low := rfl
@[simp] theorem usedFree_rdBit (s : State) (i bit : Nat) : rdBit (usedFree s) i bit = rdBit s i bit := rfl

/-! ### `cfgPut` -/

@[simp] theorem cfgPut_regs (s : State) (p f k : Nat) (v : Word) : (cfgPut s p f k v).regs = s.regs := rfl
@[simp] theorem cfgPut_cap (s : State) (p f k : Nat) (v : Word) : (cfgPut s p f k v).cap = s.cap := rfl
@[simp] theorem cfgPut_banks (s : State) (p f k : Nat) (v : Word) : (cfgPut s p f k v).banks = s.banks := rfl
@[simp] theorem cfgPut_dev (s : State) (p f k : Nat) (v : Word) : (cfgPut s p f k v).dev = s.dev := rfl
@[simp] theorem cfgPut_txn (s : State) (p f k : Nat) (v : Word) : (cfgPut s p f k v).txn = s.txn := rfl
@[simp] theorem cfgPut_pair (s : State) (p f k : Nat) (v : Word) : (cfgPut s p f k v).pair = s.pair := rfl
@[simp] theorem cfgPut_links (s : State) (p f k : Nat) (v : Word) : (cfgPut s p f k v).links = s.links := rfl
@[simp] theorem cfgPut_slots (s : State) (p f k : Nat) (v : Word) : (cfgPut s p f k v).slots = s.slots := rfl
@[simp] theorem cfgPut_snap (s : State) (p f k : Nat) (v : Word) : (cfgPut s p f k v).snap = s.snap := rfl
@[simp] theorem cfgPut_pool (s : State) (p f k : Nat) (v : Word) : (cfgPut s p f k v).pool = s.pool := rfl
@[simp] theorem cfgPut_store (s : State) (p f k : Nat) (v : Word) : (cfgPut s p f k v).store = s.store := rfl
@[simp] theorem cfgPut_noc (s : State) (p f k : Nat) (v : Word) : (cfgPut s p f k v).noc = s.noc := rfl
@[simp] theorem cfgPut_buf (s : State) (p f k : Nat) (v : Word) : (cfgPut s p f k v).buf = s.buf := rfl
@[simp] theorem cfgPut_dir (s : State) (p f k : Nat) (v : Word) : (cfgPut s p f k v).dir = s.dir := rfl
@[simp] theorem cfgPut_dp (s : State) (p f k : Nat) (v : Word) : (cfgPut s p f k v).dp = s.dp := rfl
@[simp] theorem cfgPut_hp (s : State) (p f k : Nat) (v : Word) : (cfgPut s p f k v).hp = s.hp := rfl
@[simp] theorem cfgPut_co (s : State) (p f k : Nat) (v : Word) : (cfgPut s p f k v).co = s.co := rfl
@[simp] theorem cfgPut_flight (s : State) (p f k : Nat) (v : Word) : (cfgPut s p f k v).flight = s.flight := rfl
@[simp] theorem cfgPut_out (s : State) (p f k : Nat) (v : Word) : (cfgPut s p f k v).out = s.out := rfl
@[simp] theorem cfgPut_fresh (s : State) (p f k : Nat) (v : Word) : (cfgPut s p f k v).fresh = s.fresh := rfl
@[simp] theorem cfgPut_pending (s : State) (p f k : Nat) (v : Word) : (cfgPut s p f k v).pending = s.pending := rfl
@[simp] theorem cfgPut_getReg (s : State) (p f k : Nat) (v : Word) (i : Nat) : getReg (cfgPut s p f k v) i = getReg s i := rfl
@[simp] theorem cfgPut_liveWord (s : State) (p f k : Nat) (v : Word) (i : Nat) : liveWord (cfgPut s p f k v) i = liveWord s i := rfl
@[simp] theorem cfgPut_rd (s : State) (p f k : Nat) (v : Word) (i top low : Nat) : rd (cfgPut s p f k v) i top low = rd s i top low := rfl
@[simp] theorem cfgPut_rdBit (s : State) (p f k : Nat) (v : Word) (i bit : Nat) : rdBit (cfgPut s p f k v) i bit = rdBit s i bit := rfl

/-! ### `setPending` -/

@[simp] theorem setPending_regs (s : State) (p f v : Nat) (b : Bool) : (setPending s p f v b).regs = s.regs := rfl
@[simp] theorem setPending_cap (s : State) (p f v : Nat) (b : Bool) : (setPending s p f v b).cap = s.cap := rfl
@[simp] theorem setPending_banks (s : State) (p f v : Nat) (b : Bool) : (setPending s p f v b).banks = s.banks := rfl
@[simp] theorem setPending_dev (s : State) (p f v : Nat) (b : Bool) : (setPending s p f v b).dev = s.dev := rfl
@[simp] theorem setPending_txn (s : State) (p f v : Nat) (b : Bool) : (setPending s p f v b).txn = s.txn := rfl
@[simp] theorem setPending_pair (s : State) (p f v : Nat) (b : Bool) : (setPending s p f v b).pair = s.pair := rfl
@[simp] theorem setPending_links (s : State) (p f v : Nat) (b : Bool) : (setPending s p f v b).links = s.links := rfl
@[simp] theorem setPending_slots (s : State) (p f v : Nat) (b : Bool) : (setPending s p f v b).slots = s.slots := rfl
@[simp] theorem setPending_snap (s : State) (p f v : Nat) (b : Bool) : (setPending s p f v b).snap = s.snap := rfl
@[simp] theorem setPending_pool (s : State) (p f v : Nat) (b : Bool) : (setPending s p f v b).pool = s.pool := rfl
@[simp] theorem setPending_store (s : State) (p f v : Nat) (b : Bool) : (setPending s p f v b).store = s.store := rfl
@[simp] theorem setPending_noc (s : State) (p f v : Nat) (b : Bool) : (setPending s p f v b).noc = s.noc := rfl
@[simp] theorem setPending_buf (s : State) (p f v : Nat) (b : Bool) : (setPending s p f v b).buf = s.buf := rfl
@[simp] theorem setPending_dir (s : State) (p f v : Nat) (b : Bool) : (setPending s p f v b).dir = s.dir := rfl
@[simp] theorem setPending_dp (s : State) (p f v : Nat) (b : Bool) : (setPending s p f v b).dp = s.dp := rfl
@[simp] theorem setPending_hp (s : State) (p f v : Nat) (b : Bool) : (setPending s p f v b).hp = s.hp := rfl
@[simp] theorem setPending_co (s : State) (p f v : Nat) (b : Bool) : (setPending s p f v b).co = s.co := rfl
@[simp] theorem setPending_flight (s : State) (p f v : Nat) (b : Bool) : (setPending s p f v b).flight = s.flight := rfl
@[simp] theorem setPending_out (s : State) (p f v : Nat) (b : Bool) : (setPending s p f v b).out = s.out := rfl
@[simp] theorem setPending_fresh (s : State) (p f v : Nat) (b : Bool) : (setPending s p f v b).fresh = s.fresh := rfl
@[simp] theorem setPending_pending (s : State) (p f v : Nat) (b : Bool) : (setPending s p f v b).pending = s.pending := rfl
@[simp] theorem setPending_getReg (s : State) (p f v : Nat) (b : Bool) (i : Nat) : getReg (setPending s p f v b) i = getReg s i := rfl
@[simp] theorem setPending_liveWord (s : State) (p f v : Nat) (b : Bool) (i : Nat) : liveWord (setPending s p f v b) i = liveWord s i := rfl
@[simp] theorem setPending_rd (s : State) (p f v : Nat) (b : Bool) (i top low : Nat) : rd (setPending s p f v b) i top low = rd s i top low := rfl
@[simp] theorem setPending_rdBit (s : State) (p f v : Nat) (b : Bool) (i bit : Nat) : rdBit (setPending s p f v b) i bit = rdBit s i bit := rfl

/-! ### `setOwn` -/

@[simp] theorem setOwn_regs (s : State) (l : LinkId) (o : OwnLink) : (setOwn s l o).regs = s.regs := rfl
@[simp] theorem setOwn_cap (s : State) (l : LinkId) (o : OwnLink) : (setOwn s l o).cap = s.cap := rfl
@[simp] theorem setOwn_banks (s : State) (l : LinkId) (o : OwnLink) : (setOwn s l o).banks = s.banks := rfl
@[simp] theorem setOwn_dev (s : State) (l : LinkId) (o : OwnLink) : (setOwn s l o).dev = s.dev := rfl
@[simp] theorem setOwn_txn (s : State) (l : LinkId) (o : OwnLink) : (setOwn s l o).txn = s.txn := rfl
@[simp] theorem setOwn_pair (s : State) (l : LinkId) (o : OwnLink) : (setOwn s l o).pair = s.pair := rfl
@[simp] theorem setOwn_fns (s : State) (l : LinkId) (o : OwnLink) : (setOwn s l o).fns = s.fns := rfl
@[simp] theorem setOwn_slots (s : State) (l : LinkId) (o : OwnLink) : (setOwn s l o).slots = s.slots := rfl
@[simp] theorem setOwn_snap (s : State) (l : LinkId) (o : OwnLink) : (setOwn s l o).snap = s.snap := rfl
@[simp] theorem setOwn_pool (s : State) (l : LinkId) (o : OwnLink) : (setOwn s l o).pool = s.pool := rfl
@[simp] theorem setOwn_store (s : State) (l : LinkId) (o : OwnLink) : (setOwn s l o).store = s.store := rfl
@[simp] theorem setOwn_noc (s : State) (l : LinkId) (o : OwnLink) : (setOwn s l o).noc = s.noc := rfl
@[simp] theorem setOwn_buf (s : State) (l : LinkId) (o : OwnLink) : (setOwn s l o).buf = s.buf := rfl
@[simp] theorem setOwn_dir (s : State) (l : LinkId) (o : OwnLink) : (setOwn s l o).dir = s.dir := rfl
@[simp] theorem setOwn_dp (s : State) (l : LinkId) (o : OwnLink) : (setOwn s l o).dp = s.dp := rfl
@[simp] theorem setOwn_hp (s : State) (l : LinkId) (o : OwnLink) : (setOwn s l o).hp = s.hp := rfl
@[simp] theorem setOwn_co (s : State) (l : LinkId) (o : OwnLink) : (setOwn s l o).co = s.co := rfl
@[simp] theorem setOwn_flight (s : State) (l : LinkId) (o : OwnLink) : (setOwn s l o).flight = s.flight := rfl
@[simp] theorem setOwn_out (s : State) (l : LinkId) (o : OwnLink) : (setOwn s l o).out = s.out := rfl
@[simp] theorem setOwn_fresh (s : State) (l : LinkId) (o : OwnLink) : (setOwn s l o).fresh = s.fresh := rfl
@[simp] theorem setOwn_pending (s : State) (l : LinkId) (o : OwnLink) : (setOwn s l o).pending = s.pending := rfl
@[simp] theorem setOwn_getReg (s : State) (l : LinkId) (o : OwnLink) (i : Nat) : getReg (setOwn s l o) i = getReg s i := rfl
@[simp] theorem setOwn_liveWord (s : State) (l : LinkId) (o : OwnLink) (i : Nat) : liveWord (setOwn s l o) i = liveWord s i := rfl
@[simp] theorem setOwn_rd (s : State) (l : LinkId) (o : OwnLink) (i top low : Nat) : rd (setOwn s l o) i top low = rd s i top low := rfl
@[simp] theorem setOwn_rdBit (s : State) (l : LinkId) (o : OwnLink) (i bit : Nat) : rdBit (setOwn s l o) i bit = rdBit s i bit := rfl

/-! ### `storePut` -/

@[simp] theorem storePut_regs (s : State) (a : Nat) (b : Byte) : (storePut s a b).regs = s.regs := rfl
@[simp] theorem storePut_cap (s : State) (a : Nat) (b : Byte) : (storePut s a b).cap = s.cap := rfl
@[simp] theorem storePut_banks (s : State) (a : Nat) (b : Byte) : (storePut s a b).banks = s.banks := rfl
@[simp] theorem storePut_dev (s : State) (a : Nat) (b : Byte) : (storePut s a b).dev = s.dev := rfl
@[simp] theorem storePut_txn (s : State) (a : Nat) (b : Byte) : (storePut s a b).txn = s.txn := rfl
@[simp] theorem storePut_pair (s : State) (a : Nat) (b : Byte) : (storePut s a b).pair = s.pair := rfl
@[simp] theorem storePut_links (s : State) (a : Nat) (b : Byte) : (storePut s a b).links = s.links := rfl
@[simp] theorem storePut_fns (s : State) (a : Nat) (b : Byte) : (storePut s a b).fns = s.fns := rfl
@[simp] theorem storePut_slots (s : State) (a : Nat) (b : Byte) : (storePut s a b).slots = s.slots := rfl
@[simp] theorem storePut_snap (s : State) (a : Nat) (b : Byte) : (storePut s a b).snap = s.snap := rfl
@[simp] theorem storePut_pool (s : State) (a : Nat) (b : Byte) : (storePut s a b).pool = s.pool := rfl
@[simp] theorem storePut_noc (s : State) (a : Nat) (b : Byte) : (storePut s a b).noc = s.noc := rfl
@[simp] theorem storePut_buf (s : State) (a : Nat) (b : Byte) : (storePut s a b).buf = s.buf := rfl
@[simp] theorem storePut_dir (s : State) (a : Nat) (b : Byte) : (storePut s a b).dir = s.dir := rfl
@[simp] theorem storePut_dp (s : State) (a : Nat) (b : Byte) : (storePut s a b).dp = s.dp := rfl
@[simp] theorem storePut_hp (s : State) (a : Nat) (b : Byte) : (storePut s a b).hp = s.hp := rfl
@[simp] theorem storePut_co (s : State) (a : Nat) (b : Byte) : (storePut s a b).co = s.co := rfl
@[simp] theorem storePut_flight (s : State) (a : Nat) (b : Byte) : (storePut s a b).flight = s.flight := rfl
@[simp] theorem storePut_out (s : State) (a : Nat) (b : Byte) : (storePut s a b).out = s.out := rfl
@[simp] theorem storePut_fresh (s : State) (a : Nat) (b : Byte) : (storePut s a b).fresh = s.fresh := rfl
@[simp] theorem storePut_pending (s : State) (a : Nat) (b : Byte) : (storePut s a b).pending = s.pending := rfl
@[simp] theorem storePut_getReg (s : State) (a : Nat) (b : Byte) (i : Nat) : getReg (storePut s a b) i = getReg s i := rfl
@[simp] theorem storePut_liveWord (s : State) (a : Nat) (b : Byte) (i : Nat) : liveWord (storePut s a b) i = liveWord s i := rfl
@[simp] theorem storePut_rd (s : State) (a : Nat) (b : Byte) (i top low : Nat) : rd (storePut s a b) i top low = rd s i top low := rfl
@[simp] theorem storePut_rdBit (s : State) (a : Nat) (b : Byte) (i bit : Nat) : rdBit (storePut s a b) i bit = rdBit s i bit := rfl

/-! ### `storeErasePage` -/

@[simp] theorem storeErasePage_regs (s : State) (a : Nat) : (storeErasePage s a).regs = s.regs := rfl
@[simp] theorem storeErasePage_cap (s : State) (a : Nat) : (storeErasePage s a).cap = s.cap := rfl
@[simp] theorem storeErasePage_banks (s : State) (a : Nat) : (storeErasePage s a).banks = s.banks := rfl
@[simp] theorem storeErasePage_dev (s : State) (a : Nat) : (storeErasePage s a).dev = s.dev := rfl
@[simp] theorem storeErasePage_txn (s : State) (a : Nat) : (storeErasePage s a).txn = s.txn := rfl
@[simp] theorem storeErasePage_pair (s : State) (a : Nat) : (storeErasePage s a).pair = s.pair := rfl
@[simp] theorem storeErasePage_links (s : State) (a : Nat) : (storeErasePage s a).links = s.links := rfl
@[simp] theorem storeErasePage_fns (s : State) (a : Nat) : (storeErasePage s a).fns = s.fns := rfl
@[simp] theorem storeErasePage_slots (s : State) (a : Nat) : (storeErasePage s a).slots = s.slots := rfl
@[simp] theorem storeErasePage_snap (s : State) (a : Nat) : (storeErasePage s a).snap = s.snap := rfl
@[simp] theorem storeErasePage_pool (s : State) (a : Nat) : (storeErasePage s a).pool = s.pool := rfl
@[simp] theorem storeErasePage_noc (s : State) (a : Nat) : (storeErasePage s a).noc = s.noc := rfl
@[simp] theorem storeErasePage_buf (s : State) (a : Nat) : (storeErasePage s a).buf = s.buf := rfl
@[simp] theorem storeErasePage_dir (s : State) (a : Nat) : (storeErasePage s a).dir = s.dir := rfl
@[simp] theorem storeErasePage_dp (s : State) (a : Nat) : (storeErasePage s a).dp = s.dp := rfl
@[simp] theorem storeErasePage_hp (s : State) (a : Nat) : (storeErasePage s a).hp = s.hp := rfl
@[simp] theorem storeErasePage_co (s : State) (a : Nat) : (storeErasePage s a).co = s.co := rfl
@[simp] theorem storeErasePage_flight (s : State) (a : Nat) : (storeErasePage s a).flight = s.flight := rfl
@[simp] theorem storeErasePage_out (s : State) (a : Nat) : (storeErasePage s a).out = s.out := rfl
@[simp] theorem storeErasePage_fresh (s : State) (a : Nat) : (storeErasePage s a).fresh = s.fresh := rfl
@[simp] theorem storeErasePage_pending (s : State) (a : Nat) : (storeErasePage s a).pending = s.pending := rfl
@[simp] theorem storeErasePage_getReg (s : State) (a : Nat) (i : Nat) : getReg (storeErasePage s a) i = getReg s i := rfl
@[simp] theorem storeErasePage_liveWord (s : State) (a : Nat) (i : Nat) : liveWord (storeErasePage s a) i = liveWord s i := rfl
@[simp] theorem storeErasePage_rd (s : State) (a : Nat) (i top low : Nat) : rd (storeErasePage s a) i top low = rd s i top low := rfl
@[simp] theorem storeErasePage_rdBit (s : State) (a : Nat) (i bit : Nat) : rdBit (storeErasePage s a) i bit = rdBit s i bit := rfl

/-! ### `withPair` -/

@[simp] theorem withPair_regs (s : State) (x : Pair) : (withPair s x).regs = s.regs := rfl
@[simp] theorem withPair_cap (s : State) (x : Pair) : (withPair s x).cap = s.cap := rfl
@[simp] theorem withPair_banks (s : State) (x : Pair) : (withPair s x).banks = s.banks := rfl
@[simp] theorem withPair_dev (s : State) (x : Pair) : (withPair s x).dev = s.dev := rfl
@[simp] theorem withPair_txn (s : State) (x : Pair) : (withPair s x).txn = s.txn := rfl
@[simp] theorem withPair_links (s : State) (x : Pair) : (withPair s x).links = s.links := rfl
@[simp] theorem withPair_fns (s : State) (x : Pair) : (withPair s x).fns = s.fns := rfl
@[simp] theorem withPair_slots (s : State) (x : Pair) : (withPair s x).slots = s.slots := rfl
@[simp] theorem withPair_snap (s : State) (x : Pair) : (withPair s x).snap = s.snap := rfl
@[simp] theorem withPair_pool (s : State) (x : Pair) : (withPair s x).pool = s.pool := rfl
@[simp] theorem withPair_store (s : State) (x : Pair) : (withPair s x).store = s.store := rfl
@[simp] theorem withPair_noc (s : State) (x : Pair) : (withPair s x).noc = s.noc := rfl
@[simp] theorem withPair_buf (s : State) (x : Pair) : (withPair s x).buf = s.buf := rfl
@[simp] theorem withPair_dir (s : State) (x : Pair) : (withPair s x).dir = s.dir := rfl
@[simp] theorem withPair_dp (s : State) (x : Pair) : (withPair s x).dp = s.dp := rfl
@[simp] theorem withPair_hp (s : State) (x : Pair) : (withPair s x).hp = s.hp := rfl
@[simp] theorem withPair_co (s : State) (x : Pair) : (withPair s x).co = s.co := rfl
@[simp] theorem withPair_flight (s : State) (x : Pair) : (withPair s x).flight = s.flight := rfl
@[simp] theorem withPair_out (s : State) (x : Pair) : (withPair s x).out = s.out := rfl
@[simp] theorem withPair_fresh (s : State) (x : Pair) : (withPair s x).fresh = s.fresh := rfl
@[simp] theorem withPair_pending (s : State) (x : Pair) : (withPair s x).pending = s.pending := rfl
@[simp] theorem withPair_getReg (s : State) (x : Pair) (i : Nat) : getReg (withPair s x) i = getReg s i := rfl
@[simp] theorem withPair_liveWord (s : State) (x : Pair) (i : Nat) : liveWord (withPair s x) i = liveWord s i := rfl
@[simp] theorem withPair_rd (s : State) (x : Pair) (i top low : Nat) : rd (withPair s x) i top low = rd s i top low := rfl
@[simp] theorem withPair_rdBit (s : State) (x : Pair) (i bit : Nat) : rdBit (withPair s x) i bit = rdBit s i bit := rfl

/-! ### `withNoc` -/

@[simp] theorem withNoc_regs (s : State) (x : Noc) : (withNoc s x).regs = s.regs := rfl
@[simp] theorem withNoc_cap (s : State) (x : Noc) : (withNoc s x).cap = s.cap := rfl
@[simp] theorem withNoc_banks (s : State) (x : Noc) : (withNoc s x).banks = s.banks := rfl
@[simp] theorem withNoc_dev (s : State) (x : Noc) : (withNoc s x).dev = s.dev := rfl
@[simp] theorem withNoc_txn (s : State) (x : Noc) : (withNoc s x).txn = s.txn := rfl
@[simp] theorem withNoc_pair (s : State) (x : Noc) : (withNoc s x).pair = s.pair := rfl
@[simp] theorem withNoc_links (s : State) (x : Noc) : (withNoc s x).links = s.links := rfl
@[simp] theorem withNoc_fns (s : State) (x : Noc) : (withNoc s x).fns = s.fns := rfl
@[simp] theorem withNoc_slots (s : State) (x : Noc) : (withNoc s x).slots = s.slots := rfl
@[simp] theorem withNoc_snap (s : State) (x : Noc) : (withNoc s x).snap = s.snap := rfl
@[simp] theorem withNoc_pool (s : State) (x : Noc) : (withNoc s x).pool = s.pool := rfl
@[simp] theorem withNoc_store (s : State) (x : Noc) : (withNoc s x).store = s.store := rfl
@[simp] theorem withNoc_buf (s : State) (x : Noc) : (withNoc s x).buf = s.buf := rfl
@[simp] theorem withNoc_dir (s : State) (x : Noc) : (withNoc s x).dir = s.dir := rfl
@[simp] theorem withNoc_dp (s : State) (x : Noc) : (withNoc s x).dp = s.dp := rfl
@[simp] theorem withNoc_hp (s : State) (x : Noc) : (withNoc s x).hp = s.hp := rfl
@[simp] theorem withNoc_co (s : State) (x : Noc) : (withNoc s x).co = s.co := rfl
@[simp] theorem withNoc_flight (s : State) (x : Noc) : (withNoc s x).flight = s.flight := rfl
@[simp] theorem withNoc_out (s : State) (x : Noc) : (withNoc s x).out = s.out := rfl
@[simp] theorem withNoc_fresh (s : State) (x : Noc) : (withNoc s x).fresh = s.fresh := rfl
@[simp] theorem withNoc_pending (s : State) (x : Noc) : (withNoc s x).pending = s.pending := rfl
@[simp] theorem withNoc_getReg (s : State) (x : Noc) (i : Nat) : getReg (withNoc s x) i = getReg s i := rfl
@[simp] theorem withNoc_liveWord (s : State) (x : Noc) (i : Nat) : liveWord (withNoc s x) i = liveWord s i := rfl
@[simp] theorem withNoc_rd (s : State) (x : Noc) (i top low : Nat) : rd (withNoc s x) i top low = rd s i top low := rfl
@[simp] theorem withNoc_rdBit (s : State) (x : Noc) (i bit : Nat) : rdBit (withNoc s x) i bit = rdBit s i bit := rfl

/-! ### `withBuf` -/

@[simp] theorem withBuf_regs (s : State) (x : Buf) : (withBuf s x).regs = s.regs := rfl
@[simp] theorem withBuf_cap (s : State) (x : Buf) : (withBuf s x).cap = s.cap := rfl
@[simp] theorem withBuf_banks (s : State) (x : Buf) : (withBuf s x).banks = s.banks := rfl
@[simp] theorem withBuf_dev (s : State) (x : Buf) : (withBuf s x).dev = s.dev := rfl
@[simp] theorem withBuf_txn (s : State) (x : Buf) : (withBuf s x).txn = s.txn := rfl
@[simp] theorem withBuf_pair (s : State) (x : Buf) : (withBuf s x).pair = s.pair := rfl
@[simp] theorem withBuf_links (s : State) (x : Buf) : (withBuf s x).links = s.links := rfl
@[simp] theorem withBuf_fns (s : State) (x : Buf) : (withBuf s x).fns = s.fns := rfl
@[simp] theorem withBuf_slots (s : State) (x : Buf) : (withBuf s x).slots = s.slots := rfl
@[simp] theorem withBuf_snap (s : State) (x : Buf) : (withBuf s x).snap = s.snap := rfl
@[simp] theorem withBuf_pool (s : State) (x : Buf) : (withBuf s x).pool = s.pool := rfl
@[simp] theorem withBuf_store (s : State) (x : Buf) : (withBuf s x).store = s.store := rfl
@[simp] theorem withBuf_noc (s : State) (x : Buf) : (withBuf s x).noc = s.noc := rfl
@[simp] theorem withBuf_dir (s : State) (x : Buf) : (withBuf s x).dir = s.dir := rfl
@[simp] theorem withBuf_dp (s : State) (x : Buf) : (withBuf s x).dp = s.dp := rfl
@[simp] theorem withBuf_hp (s : State) (x : Buf) : (withBuf s x).hp = s.hp := rfl
@[simp] theorem withBuf_co (s : State) (x : Buf) : (withBuf s x).co = s.co := rfl
@[simp] theorem withBuf_flight (s : State) (x : Buf) : (withBuf s x).flight = s.flight := rfl
@[simp] theorem withBuf_out (s : State) (x : Buf) : (withBuf s x).out = s.out := rfl
@[simp] theorem withBuf_fresh (s : State) (x : Buf) : (withBuf s x).fresh = s.fresh := rfl
@[simp] theorem withBuf_pending (s : State) (x : Buf) : (withBuf s x).pending = s.pending := rfl
@[simp] theorem withBuf_getReg (s : State) (x : Buf) (i : Nat) : getReg (withBuf s x) i = getReg s i := rfl
@[simp] theorem withBuf_liveWord (s : State) (x : Buf) (i : Nat) : liveWord (withBuf s x) i = liveWord s i := rfl
@[simp] theorem withBuf_rd (s : State) (x : Buf) (i top low : Nat) : rd (withBuf s x) i top low = rd s i top low := rfl
@[simp] theorem withBuf_rdBit (s : State) (x : Buf) (i bit : Nat) : rdBit (withBuf s x) i bit = rdBit s i bit := rfl

/-! ### `withDir` -/

@[simp] theorem withDir_regs (s : State) (x : Dir) : (withDir s x).regs = s.regs := rfl
@[simp] theorem withDir_cap (s : State) (x : Dir) : (withDir s x).cap = s.cap := rfl
@[simp] theorem withDir_banks (s : State) (x : Dir) : (withDir s x).banks = s.banks := rfl
@[simp] theorem withDir_dev (s : State) (x : Dir) : (withDir s x).dev = s.dev := rfl
@[simp] theorem withDir_txn (s : State) (x : Dir) : (withDir s x).txn = s.txn := rfl
@[simp] theorem withDir_pair (s : State) (x : Dir) : (withDir s x).pair = s.pair := rfl
@[simp] theorem withDir_links (s : State) (x : Dir) : (withDir s x).links = s.links := rfl
@[simp] theorem withDir_fns (s : State) (x : Dir) : (withDir s x).fns = s.fns := rfl
@[simp] theorem withDir_slots (s : State) (x : Dir) : (withDir s x).slots = s.slots := rfl
@[simp] theorem withDir_snap (s : State) (x : Dir) : (withDir s x).snap = s.snap := rfl
@[simp] theorem withDir_pool (s : State) (x : Dir) : (withDir s x).pool = s.pool := rfl
@[simp] theorem withDir_store (s : State) (x : Dir) : (withDir s x).store = s.store := rfl
@[simp] theorem withDir_noc (s : State) (x : Dir) : (withDir s x).noc = s.noc := rfl
@[simp] theorem withDir_buf (s : State) (x : Dir) : (withDir s x).buf = s.buf := rfl
@[simp] theorem withDir_dp (s : State) (x : Dir) : (withDir s x).dp = s.dp := rfl
@[simp] theorem withDir_hp (s : State) (x : Dir) : (withDir s x).hp = s.hp := rfl
@[simp] theorem withDir_co (s : State) (x : Dir) : (withDir s x).co = s.co := rfl
@[simp] theorem withDir_flight (s : State) (x : Dir) : (withDir s x).flight = s.flight := rfl
@[simp] theorem withDir_out (s : State) (x : Dir) : (withDir s x).out = s.out := rfl
@[simp] theorem withDir_fresh (s : State) (x : Dir) : (withDir s x).fresh = s.fresh := rfl
@[simp] theorem withDir_pending (s : State) (x : Dir) : (withDir s x).pending = s.pending := rfl
@[simp] theorem withDir_getReg (s : State) (x : Dir) (i : Nat) : getReg (withDir s x) i = getReg s i := rfl
@[simp] theorem withDir_liveWord (s : State) (x : Dir) (i : Nat) : liveWord (withDir s x) i = liveWord s i := rfl
@[simp] theorem withDir_rd (s : State) (x : Dir) (i top low : Nat) : rd (withDir s x) i top low = rd s i top low := rfl
@[simp] theorem withDir_rdBit (s : State) (x : Dir) (i bit : Nat) : rdBit (withDir s x) i bit = rdBit s i bit := rfl

/-! ### `withDp` -/

@[simp] theorem withDp_regs (s : State) (x : DevPorts) : (withDp s x).regs = s.regs := rfl
@[simp] theorem withDp_cap (s : State) (x : DevPorts) : (withDp s x).cap = s.cap := rfl
@[simp] theorem withDp_banks (s : State) (x : DevPorts) : (withDp s x).banks = s.banks := rfl
@[simp] theorem withDp_dev (s : State) (x : DevPorts) : (withDp s x).dev = s.dev := rfl
@[simp] theorem withDp_txn (s : State) (x : DevPorts) : (withDp s x).txn = s.txn := rfl
@[simp] theorem withDp_pair (s : State) (x : DevPorts) : (withDp s x).pair = s.pair := rfl
@[simp] theorem withDp_links (s : State) (x : DevPorts) : (withDp s x).links = s.links := rfl
@[simp] theorem withDp_fns (s : State) (x : DevPorts) : (withDp s x).fns = s.fns := rfl
@[simp] theorem withDp_slots (s : State) (x : DevPorts) : (withDp s x).slots = s.slots := rfl
@[simp] theorem withDp_snap (s : State) (x : DevPorts) : (withDp s x).snap = s.snap := rfl
@[simp] theorem withDp_pool (s : State) (x : DevPorts) : (withDp s x).pool = s.pool := rfl
@[simp] theorem withDp_store (s : State) (x : DevPorts) : (withDp s x).store = s.store := rfl
@[simp] theorem withDp_noc (s : State) (x : DevPorts) : (withDp s x).noc = s.noc := rfl
@[simp] theorem withDp_buf (s : State) (x : DevPorts) : (withDp s x).buf = s.buf := rfl
@[simp] theorem withDp_dir (s : State) (x : DevPorts) : (withDp s x).dir = s.dir := rfl
@[simp] theorem withDp_hp (s : State) (x : DevPorts) : (withDp s x).hp = s.hp := rfl
@[simp] theorem withDp_co (s : State) (x : DevPorts) : (withDp s x).co = s.co := rfl
@[simp] theorem withDp_flight (s : State) (x : DevPorts) : (withDp s x).flight = s.flight := rfl
@[simp] theorem withDp_out (s : State) (x : DevPorts) : (withDp s x).out = s.out := rfl
@[simp] theorem withDp_fresh (s : State) (x : DevPorts) : (withDp s x).fresh = s.fresh := rfl
@[simp] theorem withDp_pending (s : State) (x : DevPorts) : (withDp s x).pending = s.pending := rfl
@[simp] theorem withDp_getReg (s : State) (x : DevPorts) (i : Nat) : getReg (withDp s x) i = getReg s i := rfl
@[simp] theorem withDp_liveWord (s : State) (x : DevPorts) (i : Nat) : liveWord (withDp s x) i = liveWord s i := rfl
@[simp] theorem withDp_rd (s : State) (x : DevPorts) (i top low : Nat) : rd (withDp s x) i top low = rd s i top low := rfl
@[simp] theorem withDp_rdBit (s : State) (x : DevPorts) (i bit : Nat) : rdBit (withDp s x) i bit = rdBit s i bit := rfl

/-! ### `withHp` -/

@[simp] theorem withHp_regs (s : State) (x : HostPorts) : (withHp s x).regs = s.regs := rfl
@[simp] theorem withHp_cap (s : State) (x : HostPorts) : (withHp s x).cap = s.cap := rfl
@[simp] theorem withHp_banks (s : State) (x : HostPorts) : (withHp s x).banks = s.banks := rfl
@[simp] theorem withHp_dev (s : State) (x : HostPorts) : (withHp s x).dev = s.dev := rfl
@[simp] theorem withHp_txn (s : State) (x : HostPorts) : (withHp s x).txn = s.txn := rfl
@[simp] theorem withHp_pair (s : State) (x : HostPorts) : (withHp s x).pair = s.pair := rfl
@[simp] theorem withHp_links (s : State) (x : HostPorts) : (withHp s x).links = s.links := rfl
@[simp] theorem withHp_fns (s : State) (x : HostPorts) : (withHp s x).fns = s.fns := rfl
@[simp] theorem withHp_slots (s : State) (x : HostPorts) : (withHp s x).slots = s.slots := rfl
@[simp] theorem withHp_snap (s : State) (x : HostPorts) : (withHp s x).snap = s.snap := rfl
@[simp] theorem withHp_pool (s : State) (x : HostPorts) : (withHp s x).pool = s.pool := rfl
@[simp] theorem withHp_store (s : State) (x : HostPorts) : (withHp s x).store = s.store := rfl
@[simp] theorem withHp_noc (s : State) (x : HostPorts) : (withHp s x).noc = s.noc := rfl
@[simp] theorem withHp_buf (s : State) (x : HostPorts) : (withHp s x).buf = s.buf := rfl
@[simp] theorem withHp_dir (s : State) (x : HostPorts) : (withHp s x).dir = s.dir := rfl
@[simp] theorem withHp_dp (s : State) (x : HostPorts) : (withHp s x).dp = s.dp := rfl
@[simp] theorem withHp_co (s : State) (x : HostPorts) : (withHp s x).co = s.co := rfl
@[simp] theorem withHp_flight (s : State) (x : HostPorts) : (withHp s x).flight = s.flight := rfl
@[simp] theorem withHp_out (s : State) (x : HostPorts) : (withHp s x).out = s.out := rfl
@[simp] theorem withHp_fresh (s : State) (x : HostPorts) : (withHp s x).fresh = s.fresh := rfl
@[simp] theorem withHp_pending (s : State) (x : HostPorts) : (withHp s x).pending = s.pending := rfl
@[simp] theorem withHp_getReg (s : State) (x : HostPorts) (i : Nat) : getReg (withHp s x) i = getReg s i := rfl
@[simp] theorem withHp_liveWord (s : State) (x : HostPorts) (i : Nat) : liveWord (withHp s x) i = liveWord s i := rfl
@[simp] theorem withHp_rd (s : State) (x : HostPorts) (i top low : Nat) : rd (withHp s x) i top low = rd s i top low := rfl
@[simp] theorem withHp_rdBit (s : State) (x : HostPorts) (i bit : Nat) : rdBit (withHp s x) i bit = rdBit s i bit := rfl

/-! ### `withCo` -/

@[simp] theorem withCo_regs (s : State) (x : Coaches) : (withCo s x).regs = s.regs := rfl
@[simp] theorem withCo_cap (s : State) (x : Coaches) : (withCo s x).cap = s.cap := rfl
@[simp] theorem withCo_banks (s : State) (x : Coaches) : (withCo s x).banks = s.banks := rfl
@[simp] theorem withCo_dev (s : State) (x : Coaches) : (withCo s x).dev = s.dev := rfl
@[simp] theorem withCo_txn (s : State) (x : Coaches) : (withCo s x).txn = s.txn := rfl
@[simp] theorem withCo_pair (s : State) (x : Coaches) : (withCo s x).pair = s.pair := rfl
@[simp] theorem withCo_links (s : State) (x : Coaches) : (withCo s x).links = s.links := rfl
@[simp] theorem withCo_fns (s : State) (x : Coaches) : (withCo s x).fns = s.fns := rfl
@[simp] theorem withCo_slots (s : State) (x : Coaches) : (withCo s x).slots = s.slots := rfl
@[simp] theorem withCo_snap (s : State) (x : Coaches) : (withCo s x).snap = s.snap := rfl
@[simp] theorem withCo_pool (s : State) (x : Coaches) : (withCo s x).pool = s.pool := rfl
@[simp] theorem withCo_store (s : State) (x : Coaches) : (withCo s x).store = s.store := rfl
@[simp] theorem withCo_noc (s : State) (x : Coaches) : (withCo s x).noc = s.noc := rfl
@[simp] theorem withCo_buf (s : State) (x : Coaches) : (withCo s x).buf = s.buf := rfl
@[simp] theorem withCo_dir (s : State) (x : Coaches) : (withCo s x).dir = s.dir := rfl
@[simp] theorem withCo_dp (s : State) (x : Coaches) : (withCo s x).dp = s.dp := rfl
@[simp] theorem withCo_hp (s : State) (x : Coaches) : (withCo s x).hp = s.hp := rfl
@[simp] theorem withCo_flight (s : State) (x : Coaches) : (withCo s x).flight = s.flight := rfl
@[simp] theorem withCo_out (s : State) (x : Coaches) : (withCo s x).out = s.out := rfl
@[simp] theorem withCo_fresh (s : State) (x : Coaches) : (withCo s x).fresh = s.fresh := rfl
@[simp] theorem withCo_pending (s : State) (x : Coaches) : (withCo s x).pending = s.pending := rfl
@[simp] theorem withCo_getReg (s : State) (x : Coaches) (i : Nat) : getReg (withCo s x) i = getReg s i := rfl
@[simp] theorem withCo_liveWord (s : State) (x : Coaches) (i : Nat) : liveWord (withCo s x) i = liveWord s i := rfl
@[simp] theorem withCo_rd (s : State) (x : Coaches) (i top low : Nat) : rd (withCo s x) i top low = rd s i top low := rfl
@[simp] theorem withCo_rdBit (s : State) (x : Coaches) (i bit : Nat) : rdBit (withCo s x) i bit = rdBit s i bit := rfl

/-! ### `withSnap` -/

@[simp] theorem withSnap_regs (s : State) (x : Snap) : (withSnap s x).regs = s.regs := rfl
@[simp] theorem withSnap_cap (s : State) (x : Snap) : (withSnap s x).cap = s.cap := rfl
@[simp] theorem withSnap_banks (s : State) (x : Snap) : (withSnap s x).banks = s.banks := rfl
@[simp] theorem withSnap_dev (s : State) (x : Snap) : (withSnap s x).dev = s.dev := rfl
@[simp] theorem withSnap_txn (s : State) (x : Snap) : (withSnap s x).txn = s.txn := rfl
@[simp] theorem withSnap_pair (s : State) (x : Snap) : (withSnap s x).pair = s.pair := rfl
@[simp] theorem withSnap_links (s : State) (x : Snap) : (withSnap s x).links = s.links := rfl
@[simp] theorem withSnap_fns (s : State) (x : Snap) : (withSnap s x).fns = s.fns := rfl
@[simp] theorem withSnap_slots (s : State) (x : Snap) : (withSnap s x).slots = s.slots := rfl
@[simp] theorem withSnap_pool (s : State) (x : Snap) : (withSnap s x).pool = s.pool := rfl
@[simp] theorem withSnap_store (s : State) (x : Snap) : (withSnap s x).store = s.store := rfl
@[simp] theorem withSnap_noc (s : State) (x : Snap) : (withSnap s x).noc = s.noc := rfl
@[simp] theorem withSnap_buf (s : State) (x : Snap) : (withSnap s x).buf = s.buf := rfl
@[simp] theorem withSnap_dir (s : State) (x : Snap) : (withSnap s x).dir = s.dir := rfl
@[simp] theorem withSnap_dp (s : State) (x : Snap) : (withSnap s x).dp = s.dp := rfl
@[simp] theorem withSnap_hp (s : State) (x : Snap) : (withSnap s x).hp = s.hp := rfl
@[simp] theorem withSnap_co (s : State) (x : Snap) : (withSnap s x).co = s.co := rfl
@[simp] theorem withSnap_flight (s : State) (x : Snap) : (withSnap s x).flight = s.flight := rfl
@[simp] theorem withSnap_out (s : State) (x : Snap) : (withSnap s x).out = s.out := rfl
@[simp] theorem withSnap_fresh (s : State) (x : Snap) : (withSnap s x).fresh = s.fresh := rfl
@[simp] theorem withSnap_pending (s : State) (x : Snap) : (withSnap s x).pending = s.pending := rfl
@[simp] theorem withSnap_getReg (s : State) (x : Snap) (i : Nat) : getReg (withSnap s x) i = getReg s i := rfl
@[simp] theorem withSnap_liveWord (s : State) (x : Snap) (i : Nat) : liveWord (withSnap s x) i = liveWord s i := rfl
@[simp] theorem withSnap_rd (s : State) (x : Snap) (i top low : Nat) : rd (withSnap s x) i top low = rd s i top low := rfl
@[simp] theorem withSnap_rdBit (s : State) (x : Snap) (i bit : Nat) : rdBit (withSnap s x) i bit = rdBit s i bit := rfl

/-! ### `withKq` -/

@[simp] theorem withKq_regs (s : State) (l : List KAcc) : (withKq s l).regs = s.regs := rfl
@[simp] theorem withKq_cap (s : State) (l : List KAcc) : (withKq s l).cap = s.cap := rfl
@[simp] theorem withKq_banks (s : State) (l : List KAcc) : (withKq s l).banks = s.banks := rfl
@[simp] theorem withKq_txn (s : State) (l : List KAcc) : (withKq s l).txn = s.txn := rfl
@[simp] theorem withKq_pair (s : State) (l : List KAcc) : (withKq s l).pair = s.pair := rfl
@[simp] theorem withKq_links (s : State) (l : List KAcc) : (withKq s l).links = s.links := rfl
@[simp] theorem withKq_fns (s : State) (l : List KAcc) : (withKq s l).fns = s.fns := rfl
@[simp] theorem withKq_slots (s : State) (l : List KAcc) : (withKq s l).slots = s.slots := rfl
@[simp] theorem withKq_snap (s : State) (l : List KAcc) : (withKq s l).snap = s.snap := rfl
@[simp] theorem withKq_pool (s : State) (l : List KAcc) : (withKq s l).pool = s.pool := rfl
@[simp] theorem withKq_store (s : State) (l : List KAcc) : (withKq s l).store = s.store := rfl
@[simp] theorem withKq_noc (s : State) (l : List KAcc) : (withKq s l).noc = s.noc := rfl
@[simp] theorem withKq_buf (s : State) (l : List KAcc) : (withKq s l).buf = s.buf := rfl
@[simp] theorem withKq_dir (s : State) (l : List KAcc) : (withKq s l).dir = s.dir := rfl
@[simp] theorem withKq_dp (s : State) (l : List KAcc) : (withKq s l).dp = s.dp := rfl
@[simp] theorem withKq_hp (s : State) (l : List KAcc) : (withKq s l).hp = s.hp := rfl
@[simp] theorem withKq_co (s : State) (l : List KAcc) : (withKq s l).co = s.co := rfl
@[simp] theorem withKq_flight (s : State) (l : List KAcc) : (withKq s l).flight = s.flight := rfl
@[simp] theorem withKq_out (s : State) (l : List KAcc) : (withKq s l).out = s.out := rfl
@[simp] theorem withKq_fresh (s : State) (l : List KAcc) : (withKq s l).fresh = s.fresh := rfl
@[simp] theorem withKq_pending (s : State) (l : List KAcc) : (withKq s l).pending = s.pending := rfl
@[simp] theorem withKq_getReg (s : State) (l : List KAcc) (i : Nat) : getReg (withKq s l) i = getReg s i := rfl
@[simp] theorem withKq_liveWord (s : State) (l : List KAcc) (i : Nat) : liveWord (withKq s l) i = liveWord s i := rfl
@[simp] theorem withKq_rd (s : State) (l : List KAcc) (i top low : Nat) : rd (withKq s l) i top low = rd s i top low := rfl
@[simp] theorem withKq_rdBit (s : State) (l : List KAcc) (i bit : Nat) : rdBit (withKq s l) i bit = rdBit s i bit := rfl
/-! ### Register words -/

@[simp] theorem getReg_setReg_same (s : State) (o : Nat) (w : Word) : getReg (setReg s o w) o = w := by
  simp [getReg, setReg]

theorem getReg_setReg_other (s : State) {o i : Nat} (h : i ≠ o) (w : Word) : getReg (setReg s o w) i = getReg s i := by
  simp [getReg, setReg, sGet_sPut_other s.regs _ _ _ h]

theorem getReg_setReg (s : State) (o i : Nat) (w : Word) :
    getReg (setReg s o w) i = if i = o then w else getReg s i := by
  split
  · subst i; exact getReg_setReg_same s o w
  · exact getReg_setReg_other s (by assumption) w

@[simp] theorem getReg_wr_same (s : State) (o hi lo v : Nat) :
    getReg (wr s o hi lo v) o = putFld (getReg s o) hi lo v := getReg_setReg_same s o _

theorem getReg_wr_other (s : State) {o i : Nat} (h : i ≠ o) (hi lo v : Nat) :
    getReg (wr s o hi lo v) i = getReg s i := getReg_setReg_other s h _

@[simp] theorem getReg_wrBit_same (s : State) (o k : Nat) (b : Bool) :
    getReg (wrBit s o k b) o = putFld (getReg s o) k k b.toNat := getReg_setReg_same s o _

theorem getReg_wrBit_other (s : State) {o i : Nat} (h : i ≠ o) (k : Nat) (b : Bool) :
    getReg (wrBit s o k b) i = getReg s i := getReg_setReg_other s h _

theorem regsBut_refl (l : List Nat) (s : State) : RegsBut l s s := fun _ _ => rfl

theorem regsBut_setReg {l : List Nat} {s t : State} (h : RegsBut l s t) {o : Nat} (ho : o ∈ l) (w : Word) :
    RegsBut l s (setReg t o w) := by
  intro i hi
  have hn : i ≠ o := fun e => hi (e ▸ ho)
  rw [getReg_setReg_other t hn]; exact h i hi

theorem regsBut_wr {l : List Nat} {s t : State} (h : RegsBut l s t) {o : Nat} (ho : o ∈ l) (hi lo v : Nat) :
    RegsBut l s (wr t o hi lo v) := regsBut_setReg h ho _

theorem regsBut_wrBit {l : List Nat} {s t : State} (h : RegsBut l s t) {o : Nat} (ho : o ∈ l) (k : Nat) (b : Bool) :
    RegsBut l s (wrBit t o k b) := regsBut_setReg h ho _

/-! ### Fields of a word -/

theorem maskBits_bit (hi lo i : Nat) (h : hi < 32) :
    (maskBits hi lo).getLsbD i = (decide (lo ≤ i) && decide (i ≤ hi)) := by
  unfold maskBits
  rw [BitVec.getLsbD_ofNat]
  by_cases hl : lo ≤ i
  · rw [Nat.testBit_mul_two_pow, Nat.testBit_two_pow_sub_one]
    by_cases hh : i ≤ hi
    · simp [hl, hh, show i < 32 by omega, show i - lo < hi + 1 - lo by omega]
    · simp [hl, hh, show ¬ i - lo < hi + 1 - lo by omega]
  · rw [Nat.testBit_mul_two_pow]; simp [hl]

theorem putFld_bit (w : Word) (hi lo v i : Nat) (h : hi < 32) (hl : lo ≤ hi) :
    (putFld w hi lo v).getLsbD i =
      if lo ≤ i ∧ i ≤ hi then v.testBit (i - lo) else w.getLsbD i := by
  unfold putFld
  rw [BitVec.getLsbD_or, BitVec.getLsbD_and, BitVec.getLsbD_not, maskBits_bit hi lo i h, BitVec.getLsbD_ofNat,
    Nat.testBit_mul_two_pow, Nat.testBit_mod_two_pow]
  by_cases h1 : lo ≤ i <;> by_cases h2 : i ≤ hi
  · simp [h1, h2, show i < 32 by omega, show i - lo < hi + 1 - lo by omega]
  · by_cases h3 : i < 32
    · simp [h1, h2, h3, show ¬ i - lo < hi + 1 - lo by omega]
    · simp [h1, h2, h3, BitVec.getLsbD_of_ge w i (by omega)]
  · simp [h1, h2, show i < 32 by omega]
  · omega

/-- A field reads as it was last set, modulo its size. -/
theorem fld_putFld (w : Word) (hi lo v : Nat) (h : hi < 32) (hl : lo ≤ hi) :
    fld (putFld w hi lo v) hi lo = v % 2 ^ (hi + 1 - lo) := by
  apply Nat.eq_of_testBit_eq
  intro i
  unfold fld
  rw [Nat.testBit_mod_two_pow, Nat.testBit_mod_two_pow, Nat.testBit_div_two_pow]
  by_cases hi' : i < hi + 1 - lo
  · have := putFld_bit w hi lo v (i + lo) h hl
    rw [BitVec.getLsbD] at this
    rw [this]
    simp [hi', show lo ≤ i + lo by omega, show i + lo ≤ hi by omega]
  · simp [hi']

/-- Setting one field leaves a field beside it as it was. -/
theorem fld_putFld_other (w : Word) (hi lo v hi2 lo2 : Nat) (h : hi < 32) (hl : lo ≤ hi) (hd : hi < lo2 ∨ hi2 < lo) :
    fld (putFld w hi lo v) hi2 lo2 = fld w hi2 lo2 := by
  apply Nat.eq_of_testBit_eq
  intro i
  unfold fld
  rw [Nat.testBit_mod_two_pow, Nat.testBit_mod_two_pow, Nat.testBit_div_two_pow, Nat.testBit_div_two_pow]
  by_cases hi' : i < hi2 + 1 - lo2
  · have := putFld_bit w hi lo v (i + lo2) h hl
    rw [BitVec.getLsbD] at this
    rw [this, BitVec.getLsbD, if_neg (by omega)]
  · simp [hi']

@[simp] theorem bitAt_putFld_same (w : Word) (i : Nat) (b : Bool) (h : i < 32) :
    bitAt (putFld w i i b.toNat) i = b := by
  unfold bitAt
  rw [putFld_bit w i i _ i h (Nat.le_refl _)]
  cases b <;> simp

theorem bitAt_putFld_other (w : Word) (hi lo v i : Nat) (h : hi < 32) (hl : lo ≤ hi) (hd : hi < i ∨ i < lo) :
    bitAt (putFld w hi lo v) i = bitAt w i := by
  unfold bitAt
  rw [putFld_bit w hi lo v i h hl, if_neg (by omega)]

end Sys2Proof.Laws
end

