-- ==== Sys2Proof/Laws/Steady.lean ====
section
/-! SUPPORT. What an operation of the model may do to the state. No operation takes a waiting command away, takes back
what has been sent, uses a free value twice, or breaks the canonical form of the register words or of the store; and each
leaves alone every part of the state that it does not name. One relation says so, with one lemma for each operation;
the claims about `exec` follow from it. -/

set_option Elab.async false

namespace Sys2Proof.Laws

open Sys2Proof.Machine

/-- From `s` to `t` the queue is untouched, the output has grown, free values are fresh, the canonical forms are kept, and
every part that `p` names is as it was. -/
structure Steady (p : Part → Bool) (s t : State) : Prop where
  pending : t.pending = s.pending
  grows : s.out <+: t.out
  fresher : s.fresh ≤ t.fresh
  regsWf : sWf s.regs resetWord = true → sWf t.regs resetWord = true
  storeWf : Memory.wf s.store = true → Memory.wf t.store = true
  regs : p .regs = true → t.regs = s.regs
  settings : p .settings = true → ∀ o, ¬ Background o → getReg t o = getReg s o
  cap : p .cap = true → t.cap = s.cap
  banks : p .banks = true → t.banks = s.banks
  dev : p .dev = true → t.dev = s.dev
  txn : p .txn = true → t.txn = s.txn
  pair : p .pair = true → t.pair = s.pair
  links : p .links = true → t.links = s.links
  fns : p .fns = true → t.fns = s.fns
  slots : p .slots = true → t.slots = s.slots
  snap : p .snap = true → t.snap = s.snap
  pool : p .pool = true → t.pool = s.pool
  store : p .store = true → t.store = s.store
  noc : p .noc = true → t.noc = s.noc
  buf : p .buf = true → t.buf = s.buf
  dir : p .dir = true → t.dir = s.dir
  dp : p .dp = true → t.dp = s.dp
  hp : p .hp = true → t.hp = s.hp
  co : p .co = true → t.co = s.co
  flight : p .flight = true → t.flight = s.flight
  out : p .out = true → t.out = s.out
  fresh : p .fresh = true → t.fresh = s.fresh

theorem Steady.refl (p : Part → Bool) (s : State) : Steady p s s := by
  constructor <;> first | exact fun _ => rfl | exact fun _ _ _ => rfl | exact id | exact rfl | exact List.prefix_refl _ | exact Nat.le_refl _

theorem Steady.trans {p : Part → Bool} {a s t : State} (h : Steady p a s) (k : Steady p s t) : Steady p a t where
  pending := k.pending.trans h.pending
  grows := h.grows.trans k.grows
  fresher := h.fresher.trans k.fresher
  regsWf w := k.regsWf (h.regsWf w)
  storeWf w := k.storeWf (h.storeWf w)
  regs c := (k.regs c).trans (h.regs c)
  settings c o b := (k.settings c o b).trans (h.settings c o b)
  cap c := (k.cap c).trans (h.cap c)
  banks c := (k.banks c).trans (h.banks c)
  dev c := (k.dev c).trans (h.dev c)
  txn c := (k.txn c).trans (h.txn c)
  pair c := (k.pair c).trans (h.pair c)
  links c := (k.links c).trans (h.links c)
  fns c := (k.fns c).trans (h.fns c)
  slots c := (k.slots c).trans (h.slots c)
  snap c := (k.snap c).trans (h.snap c)
  pool c := (k.pool c).trans (h.pool c)
  store c := (k.store c).trans (h.store c)
  noc c := (k.noc c).trans (h.noc c)
  buf c := (k.buf c).trans (h.buf c)
  dir c := (k.dir c).trans (h.dir c)
  dp c := (k.dp c).trans (h.dp c)
  hp c := (k.hp c).trans (h.hp c)
  co c := (k.co c).trans (h.co c)
  flight c := (k.flight c).trans (h.flight c)
  out c := (k.out c).trans (h.out c)
  fresh c := (k.fresh c).trans (h.fresh c)

/-- A condition that does not arise. -/
theorem skip {b : Bool} {P : Prop} (c : b = false := by assumption) : b = true → P := by
  intro h; rw [c] at h; cases h

variable {p : Part → Bool} {a s t : State}

/-- An update of parts that `p` does not name, other than the register words, the store, the output, the counter of free
values and the queue. -/
theorem Steady.upd (h : Steady p a s) {cap banks dev txn pair links fns slots snap pool noc buf dir dp hp co flight}
    (h1 : p .cap = true → cap = s.cap) (h2 : p .banks = true → banks = s.banks) (h3 : p .dev = true → dev = s.dev)
    (h4 : p .txn = true → txn = s.txn) (h5 : p .pair = true → pair = s.pair) (h6 : p .links = true → links = s.links)
    (h7 : p .fns = true → fns = s.fns) (h8 : p .slots = true → slots = s.slots) (h9 : p .snap = true → snap = s.snap)
    (h10 : p .pool = true → pool = s.pool) (h11 : p .noc = true → noc = s.noc) (h12 : p .buf = true → buf = s.buf)
    (h13 : p .dir = true → dir = s.dir) (h14 : p .dp = true → dp = s.dp) (h15 : p .hp = true → hp = s.hp)
    (h16 : p .co = true → co = s.co) (h17 : p .flight = true → flight = s.flight) :
    Steady p a ⟨s.regs, cap, banks, dev, txn, pair, links, fns, slots, snap, pool, s.store, noc, buf, dir, dp, hp, co,
      flight, s.out, s.fresh, s.pending⟩ where
  pending := h.pending
  grows := h.grows
  fresher := h.fresher
  regsWf := h.regsWf
  storeWf := h.storeWf
  regs := h.regs
  settings := h.settings
  store := h.store
  out := h.out
  fresh := h.fresh
  cap c := (h1 c).trans (h.cap c)
  banks c := (h2 c).trans (h.banks c)
  dev c := (h3 c).trans (h.dev c)
  txn c := (h4 c).trans (h.txn c)
  pair c := (h5 c).trans (h.pair c)
  links c := (h6 c).trans (h.links c)
  fns c := (h7 c).trans (h.fns c)
  slots c := (h8 c).trans (h.slots c)
  snap c := (h9 c).trans (h.snap c)
  pool c := (h10 c).trans (h.pool c)
  noc c := (h11 c).trans (h.noc c)
  buf c := (h12 c).trans (h.buf c)
  dir c := (h13 c).trans (h.dir c)
  dp c := (h14 c).trans (h.dp c)
  hp c := (h15 c).trans (h.hp c)
  co c := (h16 c).trans (h.co c)
  flight c := (h17 c).trans (h.flight c)

/-- An update of the register words, the store, the output or the counter of free values. -/
theorem Steady.edit (h : Steady p a s) {regs store out fresh} (h1 : s.out <+: out) (h2 : s.fresh ≤ fresh)
    (h3 : sWf s.regs resetWord = true → sWf regs resetWord = true)
    (h4 : Memory.wf s.store = true → Memory.wf store = true) (h5 : p .regs = true → regs = s.regs)
    (h6 : p .store = true → store = s.store) (h7 : p .out = true → out = s.out)
    (h8 : p .fresh = true → fresh = s.fresh)
    (h9 : p .settings = true → ∀ o, ¬ Background o → sGet regs o (resetWord o) = getReg s o) :
    Steady p a { s with regs := regs, store := store, out := out, fresh := fresh } :=
  { h with
    grows := h.grows.trans h1
    fresher := h.fresher.trans h2
    regsWf := fun w => h3 (h.regsWf w)
    storeWf := fun w => h4 (h.storeWf w)
    regs := fun c => (h5 c).trans (h.regs c)
    settings := fun c o b => (h9 c o b).trans (h.settings c o b)
    store := fun c => (h6 c).trans (h.store c)
    out := fun c => (h7 c).trans (h.out c)
    fresh := fun c => (h8 c).trans (h.fresh c) }

theorem Steady.ite {c : Prop} [Decidable c] (h : Steady p a s) (k : Steady p a t) : Steady p a (if c then s else t) := by
  split <;> assumption

theorem Steady.foldl {α : Type} (h : Steady p a s) (l : List α) {f : State → α → State}
    (hf : ∀ t x, Steady p a t → Steady p a (f t x)) : Steady p a (l.foldl f s) := by
  induction l generalizing s with
  | nil => exact h
  | cons x l ih => exact ih (hf s x h)

theorem emit_st {o : Out} (h : Steady p a s) (c : p .out = false := by assumption) : Steady p a (emit s o) :=
  h.edit (List.prefix_append _ _) (Nat.le_refl _) id id (fun _ => rfl) (fun _ => rfl) skip (fun _ => rfl)
    (fun _ _ _ => rfl)

theorem setReg_st {o : Nat} {w : Word} (h : Steady p a s) (c : p .regs = false := by assumption)
    (d : p .settings = false := by assumption) : Steady p a (setReg s o w) :=
  h.edit (List.prefix_refl _) (Nat.le_refl _) (sWf_sPut s.regs resetWord o w) id skip (fun _ => rfl) (fun _ => rfl)
    (fun _ => rfl) skip

theorem setReg_bg {o : Nat} {w : Word} (h : Steady p a s) (b : Background o) (c : p .regs = false := by assumption) :
    Steady p a (setReg s o w) :=
  h.edit (List.prefix_refl _) (Nat.le_refl _) (sWf_sPut s.regs resetWord o w) id skip (fun _ => rfl) (fun _ => rfl)
    (fun _ => rfl) (fun _ q hq => sGet_sPut_other s.regs _ _ _ (fun e : q = o => hq (e ▸ b)))

theorem wr_bg {o hi lo v : Nat} (h : Steady p a s) (b : Background o) (c : p .regs = false := by assumption) :
    Steady p a (wr s o hi lo v) := setReg_bg h b

theorem wrBit_bg {o i : Nat} {v : Bool} (h : Steady p a s) (b : Background o)
    (c : p .regs = false := by assumption) : Steady p a (wrBit s o i v) := setReg_bg h b

theorem wr64_bg {o : Nat} {v : BitVec 64} (h : Steady p a s) (b : Background o) (b4 : Background (o + 4))
    (c : p .regs = false := by assumption) : Steady p a (wr64 s o v) := setReg_bg (setReg_bg h b) b4

/-- Changing the captures alone. -/
theorem capOnly_st {x : SMap Word} (h : Steady p a s) (e : p .cap = false := by assumption) :
    Steady p a { s with cap := x } :=
  { h with cap := fun c => absurd (e.symm.trans c) (by decide) }

theorem keptWord_ne (p q : Nat × Word) (hp : p.2 ≠ resetWord p.1) (h : keptWord p = some q) :
    q.1 = p.1 ∧ q.2 ≠ resetWord q.1 := by
  unfold keptWord at h
  split at h
  · cases h; exact ⟨rfl, hp⟩
  · dsimp only at h
    split at h
    · cases h
    · obtain rfl := Option.some.inj h
      exact ⟨rfl, by assumption⟩

theorem clearRegs_wf {l : SMap Word} {q : Nat → Bool} (h : sWf l resetWord = true) :
    sWf (l.filterMap (fun x => if q x.1 then keptWord x else some x)) resetWord = true := by
  refine sWf_filterMap l resetWord _ (fun x y hx e => ?_) h
  split at e
  · exact keptWord_ne x y hx e
  · cases e; exact ⟨rfl, hx⟩

theorem clearRegs_st {q : Nat → Bool} (h : Steady p a s) (c : p .regs = false := by assumption)
    (d : p .cap = false := by assumption) (e : p .settings = false := by assumption) :
    Steady p a (clearRegs s q) :=
  capOnly_st (s := { s with regs := s.regs.filterMap (fun x => if q x.1 then keptWord x else some x) })
    (h.edit (List.prefix_refl _) (Nat.le_refl _) clearRegs_wf id skip (fun _ => rfl) (fun _ => rfl)
      (fun _ => rfl) skip)

theorem usedFree_st (h : Steady p a s) (c : p .fresh = false := by assumption) : Steady p a (usedFree s) :=
  h.edit (List.prefix_refl _) (Nat.le_succ _) id id (fun _ => rfl) (fun _ => rfl) (fun _ => rfl) skip (fun _ _ _ => rfl)

theorem storePut_st {i : Nat} {b : Byte} (h : Steady p a s) (c : p .store = false := by assumption) :
    Steady p a (storePut s i b) :=
  h.edit (List.prefix_refl _) (Nat.le_refl _) id (sWf_sPut s.store (fun _ => storeDefault) i b) (fun _ => rfl) skip
    (fun _ => rfl) (fun _ => rfl) (fun _ _ _ => rfl)

theorem storeErasePage_st {i : Nat} (h : Steady p a s) (c : p .store = false := by assumption) :
    Steady p a (storeErasePage s i) :=
  h.edit (List.prefix_refl _) (Nat.le_refl _) id
    (sWf_sDrop s.store (fun _ => storeDefault) (fun j => j / 4096 == i / 4096)) (fun _ => rfl) skip (fun _ => rfl)
    (fun _ => rfl) (fun _ _ _ => rfl)

/-- What is done under the bank of an access's epoch leaves the bank in force as it was. -/
theorem restore_st {e : Option Bool} (h : Steady p a s) (k : Steady p (atBank s e) t) : Steady p a (restoreBank s t) :=
  Steady.trans h
    { k with banks := fun c => (congrArg (fun b => Banks.mk s.banks.live (Banks.old b) (Banks.shadow b)) (k.banks c)).trans rfl }

theorem forAll_st {α : Type} {l : List α} {f : State → α → State} (h : Steady p a s)
    (hf : ∀ t x, Steady p a t → Steady p a (f t x)) : Steady p a (forAll l s f) := Steady.foldl h l hf

/-- The next state of an outcome, if it has one, is steady. -/
def OkOutcome (p : Part → Bool) (a : State) (o : Host.Outcome State Fault Refusal) : Prop :=
  match o with
  | .next t => Steady p a t
  | _ => True

theorem next_ok (h : Steady p a t) : OkOutcome p a (.next t) := h

theorem fault_ok {f : Fault} : OkOutcome p a (.fault f) := trivial

theorem ite_ok {c : Prop} [Decidable c] {o q : Host.Outcome State Fault Refusal} (ho : OkOutcome p a o)
    (hq : OkOutcome p a q) : OkOutcome p a (if c then o else q) := by
  split <;> assumption

theorem findSome_st {α : Type} {l : List α} {F : α → Option State} (e : l.findSome? F = some t)
    (hF : ∀ x u, F x = some u → Steady p a u) : Steady p a t := by
  obtain ⟨x, _, hx⟩ := List.exists_of_findSome?_eq_some e
  exact hF x t hx

theorem fst_st {α : Type} {x : α} {q : State × α} (e : q = (t, x)) (h : Steady p a q.1) : Steady p a t := by
  rw [e] at h; exact h

theorem someFst_st {α : Type} {x : α} {o : Option (State × α)} (e : o = some (t, x))
    (h : ∀ q, o = some q → Steady p a q.1) : Steady p a t := h (t, x) e

theorem elim_st {α : Type} {o : Option α} {d : State} {f : α → State} (hd : Steady p a d) (hf : ∀ x, Steady p a (f x)) :
    Steady p a (o.elim d f) := by
  cases o with
  | none => exact hd
  | some x => exact hf x

theorem foldPair_st {α β : Type} (l : List β) {f : State × α → β → State × α} {x : State × α} (h : Steady p a x.1)
    (hf : ∀ y b, Steady p a y.1 → Steady p a (f y b).1) : Steady p a (l.foldl f x).1 := by
  induction l generalizing x with
  | nil => exact h
  | cons b l ih => exact ih (hf x b h)

theorem of_ite_some {α : Type} {c : Prop} [Decidable c] {o : Option α} {x : α} (h : (if c then o else none) = some x) :
    o = some x := by
  split at h
  · exact h
  · cases h

theorem getD_st {d : State} {o : Option State} (h : ∀ u, o = some u → Steady p a u) (hd : Steady p a d) :
    Steady p a (o.getD d) := by
  cases o with
  | none => exact hd
  | some u => exact h u rfl

/-! ### Frames -/

/-- The parts that a frame keeps. -/
def keep (l : List Part) (p : Part) : Bool := ! l.contains p

theorem Steady.frame {l : List Part} (h : Steady (keep l) s t) : Frame l s t := by
  refine ⟨h.pending, fun p hp => ?_⟩
  have hk : keep l p = true := by simp [keep, hp]
  cases p
  · exact h.regs hk
  · exact h.settings hk
  · exact h.cap hk
  · exact h.banks hk
  · exact h.dev hk
  · exact h.txn hk
  · exact h.pair hk
  · exact h.links hk
  · exact h.fns hk
  · exact h.slots hk
  · exact h.snap hk
  · exact h.pool hk
  · exact h.store hk
  · exact h.noc hk
  · exact h.buf hk
  · exact h.dir hk
  · exact h.dp hk
  · exact h.hp hk
  · exact h.co hk
  · exact h.flight hk
  · exact h.out hk
  · exact h.fresh hk

theorem frame_of {l : List Part} {o : Host.Outcome State Fault Refusal} (h : OkOutcome (keep l) s o)
    (e : o = .next t) : Frame l s t := by
  subst e; exact Steady.frame h

end Sys2Proof.Laws
end

