-- ==== Sys2Proof/Laws/SteadyBase.lean ====
section
/-! SUPPORT. Every operation of Machine/Base.lean is steady. -/

set_option Elab.async false
set_option linter.unusedTactic false
set_option linter.unreachableTactic false

namespace Sys2Proof.Laws

open Sys2Proof.Machine

variable {q0 : Part → Bool} {z0 : State}

theorem wr_st {s : State} {off : ℕ} {hi : ℕ} {lo : ℕ} {v : ℕ} (hs : Steady q0 z0 s) (c0 : q0 .regs = false := by assumption) (c1 : q0 .settings = false := by assumption) :
    Steady q0 z0 (wr s off hi lo v) := by
  unfold wr; try (dsimp only)
  with_reducible repeat' (first | assumption | intro _ | apply Steady.ite | apply setReg_st | split)

theorem wrBit_st {s : State} {off : ℕ} {i : ℕ} {b : Bool} (hs : Steady q0 z0 s) (c0 : q0 .regs = false := by assumption) (c1 : q0 .settings = false := by assumption) :
    Steady q0 z0 (wrBit s off i b) := by
  unfold wrBit; try (dsimp only)
  with_reducible repeat' (first | assumption | intro _ | apply Steady.ite | apply wr_st | split)

theorem wr64_st {s : State} {off : ℕ} {v : BitVec 64} (hs : Steady q0 z0 s) (c0 : q0 .regs = false := by assumption) (c1 : q0 .settings = false := by assumption) :
    Steady q0 z0 (wr64 s off v) := by
  unfold wr64; try (dsimp only)
  with_reducible repeat' (first | assumption | intro _ | apply Steady.ite | apply setReg_st | split)

theorem clearRange_st {s : State} {lo : ℕ} {n : ℕ} {p : RegLevel → Bool} (hs : Steady q0 z0 s) (c0 : q0 .regs = false := by assumption) (c1 : q0 .settings = false := by assumption) (c2 : q0 .cap = false := by assumption) :
    Steady q0 z0 (clearRange s lo n p) := by
  unfold clearRange; try (dsimp only)
  with_reducible repeat' (first | assumption | intro _ | apply Steady.ite | apply clearRegs_st | split)

theorem onFabric_st {s t : State} (hs : Steady q0 z0 s) (ht : Steady q0 z0 t) :
    Steady q0 z0 (onFabric s t) := by
  unfold onFabric; try (dsimp only)
  with_reducible repeat' (first | assumption | intro _ | apply Steady.ite | split)

theorem perfWrap_st {s : State} {k fuel : Nat} (hs : Steady q0 z0 s) (c0 : q0 .regs = false := by assumption) (c10 : q0 .snap = false := by assumption) : Steady q0 z0 (perfWrap s k fuel) := by
  induction fuel generalizing s k with
  | zero => exact hs
  | succ m ih =>
    rw [perfWrap]
    split
    · dsimp only
      split
      · exact hs
      split
      · exact wr64_bg hs (.perfLow _) (.perfHigh _)
      · exact ih (wr64_bg hs (.perfLow _) (.perfHigh _))
    · have ht := wrBit_bg (i := 0) (v := true) hs (.perfOverflow k)
      apply Steady.upd ht <;> first | exact fun _ => rfl | exact skip

theorem perfAdd_st {s : State} {k v : Nat} (hs : Steady q0 z0 s) (c0 : q0 .regs = false := by assumption) (c10 : q0 .snap = false := by assumption) : Steady q0 z0 (perfAdd s k v) :=
  Steady.ite hs (Steady.ite (wr64_bg hs (.perfLow _) (.perfHigh _)) (perfWrap_st (wr64_bg hs (.perfLow _) (.perfHigh _))))

theorem perfHit_st {s : State} {n : ℕ} {code : ℕ} {inst : ℕ} {v : ℕ} {times : ℕ} (hs : Steady q0 z0 s) (c0 : q0 .regs = false := by assumption) (c10 : q0 .snap = false := by assumption) :
    Steady q0 z0 (perfHit s n code inst v times) := by
  unfold perfHit; try (dsimp only)
  with_reducible repeat' (first | assumption | intro _ | apply Steady.ite | apply perfAdd_st | apply forAll_st | split)

theorem cfgPut_st {s : State} {p : ℕ} {f : ℕ} {w : ℕ} {v : Word} (hs : Steady q0 z0 s) (c8 : q0 .fns = false := by assumption) :
    Steady q0 z0 (cfgPut s p f w v) := by
  unfold cfgPut; try (dsimp only)
  with_reducible repeat' (first | exact fun _ => rfl | exact skip | assumption | intro _ | apply Steady.ite | split | apply Steady.upd)

theorem setPending_st {s : State} {p : ℕ} {f : ℕ} {v : ℕ} {b : Bool} (hs : Steady q0 z0 s) (c8 : q0 .fns = false := by assumption) :
    Steady q0 z0 (setPending s p f v b) := by
  unfold setPending; try (dsimp only)
  with_reducible repeat' (first | exact fun _ => rfl | exact skip | assumption | intro _ | apply Steady.ite | split | apply Steady.upd)

theorem sendVector_st {s : State} {p : ℕ} {f : ℕ} {v : ℕ} (hs : Steady q0 z0 s) (c20 : q0 .out = false := by assumption) :
    Steady q0 z0 (sendVector s p f v) := by
  unfold sendVector; try (dsimp only)
  with_reducible repeat' (first | assumption | intro _ | apply Steady.ite | apply emit_st | split)

theorem raiseVector_st {s : State} {p : ℕ} {f : ℕ} {v : ℕ} (hs : Steady q0 z0 s) (c8 : q0 .fns = false := by assumption) (c20 : q0 .out = false := by assumption) :
    Steady q0 z0 (raiseVector s p f v) := by
  unfold raiseVector; try (dsimp only)
  with_reducible repeat' (first | assumption | intro _ | apply Steady.ite | apply sendVector_st | apply setPending_st | split)

theorem flushVectors_st {s : State} {p : ℕ} {f : ℕ} (hs : Steady q0 z0 s) (c8 : q0 .fns = false := by assumption) (c20 : q0 .out = false := by assumption) :
    Steady q0 z0 (flushVectors s p f) := by
  unfold flushVectors; try (dsimp only)
  with_reducible repeat' (first | assumption | intro _ | apply Steady.ite | apply sendVector_st | apply setPending_st | apply forAll_st | split)

theorem logUncorrectable_st {s : State} {p : ℕ} {f : ℕ} {bit : ℕ} (hs : Steady q0 z0 s) (c8 : q0 .fns = false := by assumption) (c20 : q0 .out = false := by assumption) :
    Steady q0 z0 (logUncorrectable s p f bit) := by
  unfold logUncorrectable; try (dsimp only)
  with_reducible repeat' (first | assumption | intro _ | apply Steady.ite | apply cfgPut_st | apply emit_st | split)

theorem logCorrectable_st {s : State} {p : ℕ} {f : ℕ} {bit : ℕ} (hs : Steady q0 z0 s) (c8 : q0 .fns = false := by assumption) (c20 : q0 .out = false := by assumption) :
    Steady q0 z0 (logCorrectable s p f bit) := by
  unfold logCorrectable; try (dsimp only)
  with_reducible repeat' (first | assumption | intro _ | apply Steady.ite | apply cfgPut_st | apply emit_st | split)

theorem internalDetail_st {s : State} {p : ℕ} {f : ℕ} {ev : ℕ} {unc : Bool} (hs : Steady q0 z0 s) (c8 : q0 .fns = false := by assumption) :
    Steady q0 z0 (internalDetail s p f ev unc) := by
  unfold internalDetail; try (dsimp only)
  with_reducible repeat' (first | assumption | intro _ | apply Steady.ite | apply cfgPut_st | split)

theorem setOwn_st {s : State} {l : LinkId} {o : OwnLink} (hs : Steady q0 z0 s) (c7 : q0 .links = false := by assumption) :
    Steady q0 z0 (setOwn s l o) := by
  unfold setOwn; try (dsimp only)
  with_reducible repeat' (first | exact fun _ => rfl | exact skip | assumption | intro _ | apply Steady.ite | split | apply Steady.upd)

theorem noteFlit_st {s : State} {l : LinkId} (hs : Steady q0 z0 s) (c0 : q0 .regs = false := by assumption) (c10 : q0 .snap = false := by assumption) :
    Steady q0 z0 (noteFlit s l) := by
  unfold noteFlit; try (dsimp only)
  with_reducible repeat' (first | assumption | intro _ | apply Steady.ite | apply perfHit_st | split)

theorem sendFlits_st {s : State} {l : LinkId} {fs : List Flit} (hs : Steady q0 z0 s) (c0 : q0 .regs = false := by assumption) (c7 : q0 .links = false := by assumption) (c10 : q0 .snap = false := by assumption) (c20 : q0 .out = false := by assumption) :
    Steady q0 z0 (sendFlits s l fs) := by
  fun_induction sendFlits s l fs
  all_goals (try (dsimp only))
  all_goals with_reducible repeat' (first | assumption | apply_assumption | assumption | intro _ | apply Steady.ite | apply noteFlit_st | apply setOwn_st | apply emit_st | split)

theorem leave_st {s : State} {l : LinkId} {q : TxPacket} (hs : Steady q0 z0 s) (c0 : q0 .regs = false := by assumption) (c7 : q0 .links = false := by assumption) (c10 : q0 .snap = false := by assumption) (c20 : q0 .out = false := by assumption) :
    Steady q0 z0 (leave s l q) := by
  unfold leave; try (dsimp only)
  with_reducible repeat' (first | assumption | intro _ | apply Steady.ite | apply sendFlits_st | apply setOwn_st | apply emit_st | split)

theorem pump_st {s : State} {l : LinkId} {qs : List TxPacket} {blocked : List ℕ} {kept : List TxPacket} (hs : Steady q0 z0 s) (c0 : q0 .regs = false := by assumption) (c7 : q0 .links = false := by assumption) (c10 : q0 .snap = false := by assumption) (c20 : q0 .out = false := by assumption) :
    Steady q0 z0 (pump s l qs blocked kept) := by
  fun_induction pump s l qs blocked kept
  all_goals (try (dsimp only))
  all_goals with_reducible repeat' (first | assumption | apply_assumption | assumption | intro _ | apply Steady.ite | apply leave_st | apply setOwn_st | split)

theorem pumpLink_st {s : State} {l : LinkId} (hs : Steady q0 z0 s) (c0 : q0 .regs = false := by assumption) (c7 : q0 .links = false := by assumption) (c10 : q0 .snap = false := by assumption) (c20 : q0 .out = false := by assumption) :
    Steady q0 z0 (pumpLink s l) := by
  unfold pumpLink; try (dsimp only)
  with_reducible repeat' (first | assumption | intro _ | apply Steady.ite | apply pump_st | split)

theorem linkSend_st {s : State} {l : LinkId} {q : TxPacket} (hs : Steady q0 z0 s) (c0 : q0 .regs = false := by assumption) (c7 : q0 .links = false := by assumption) (c10 : q0 .snap = false := by assumption) (c20 : q0 .out = false := by assumption) :
    Steady q0 z0 (linkSend s l q) := by
  unfold linkSend; try (dsimp only)
  with_reducible repeat' (first | assumption | intro _ | apply Steady.ite | apply pumpLink_st | apply setOwn_st | split)

theorem twinSend_st {s : State} {vc : ℕ} {flits : ℕ} {c : Instr} (hs : Steady q0 z0 s) (c0 : q0 .regs = false := by assumption) (c7 : q0 .links = false := by assumption) (c10 : q0 .snap = false := by assumption) (c20 : q0 .out = false := by assumption) :
    Steady q0 z0 (twinSend s vc flits c) := by
  unfold twinSend; try (dsimp only)
  with_reducible repeat' (first | assumption | intro _ | apply Steady.ite | apply linkSend_st | split)

theorem pairSend_st {s : State} {c : Instr} (hs : Steady q0 z0 s) (c0 : q0 .regs = false := by assumption) (c7 : q0 .links = false := by assumption) (c10 : q0 .snap = false := by assumption) (c20 : q0 .out = false := by assumption) :
    Steady q0 z0 (pairSend s c) := by
  unfold pairSend; try (dsimp only)
  with_reducible repeat' (first | assumption | intro _ | apply Steady.ite | apply twinSend_st | split)

theorem deliverHost_st {s : State} {e : ℕ} (hs : Steady q0 z0 s) (c8 : q0 .fns = false := by assumption) (c20 : q0 .out = false := by assumption) :
    Steady q0 z0 (deliverHost s e) := by
  unfold deliverHost; try (dsimp only)
  with_reducible repeat' (first | assumption | intro _ | apply Steady.ite | apply internalDetail_st | apply logCorrectable_st | apply logUncorrectable_st | apply raiseVector_st | split)

theorem mgmtVector_st {s : State} {v : ℕ} (hs : Steady q0 z0 s) (c20 : q0 .out = false := by assumption) :
    Steady q0 z0 (mgmtVector s v) := by
  unfold mgmtVector; try (dsimp only)
  with_reducible repeat' (first | assumption | intro _ | apply Steady.ite | apply emit_st | split)

theorem deliverKeeper_st {s : State} {e : ℕ} (hs : Steady q0 z0 s) (c0 : q0 .regs = false := by assumption) (c20 : q0 .out = false := by assumption) :
    Steady q0 z0 (deliverKeeper s e) := by
  unfold deliverKeeper; try (dsimp only)
  with_reducible repeat' (first | assumption | intro _ | apply Steady.ite | apply mgmtVector_st | apply emit_st | refine wrBit_bg ?_ (by constructor) | split)

end Sys2Proof.Laws
end

