-- ==== Sys2Proof/Laws/SteadyNet.lean ====
section
/-! SUPPORT. Every operation of Machine/Net.lean is steady. -/

set_option Elab.async false
set_option linter.unusedTactic false
set_option linter.unreachableTactic false

namespace Sys2Proof.Laws

open Sys2Proof.Machine

variable {q0 : Part → Bool} {z0 : State}

theorem putStat_st {s : State} {i : Nat} {n : Net} {flits msgs sum mx : Nat} (hs : Steady q0 z0 s) (c0 : q0 .regs = false := by assumption) :
    Steady q0 z0 (putStat s i n flits msgs sum mx) := by
  unfold putStat
  exact setReg_bg (setReg_bg (setReg_bg (setReg_bg hs (.nocStat _ _ 0 (by decide))) (.nocStat _ _ 4 (by decide)))
    (.nocStat _ _ 8 (by decide))) (.nocStat _ _ 12 (by decide))

theorem countFlits_st {s : State} {i : ℕ} {n : Net} {f : ℕ} (hs : Steady q0 z0 s) (c0 : q0 .regs = false := by assumption) (c10 : q0 .snap = false := by assumption) :
    Steady q0 z0 (countFlits s i n f) := by
  unfold countFlits; try (dsimp only)
  with_reducible repeat' (first | assumption | intro _ | apply Steady.ite | apply putStat_st | apply perfHit_st | split)

theorem countLatency_st {s : State} {i : ℕ} {n : Net} {k : ℕ} {sum : ℕ} {mx : ℕ} (hs : Steady q0 z0 s) (c0 : q0 .regs = false := by assumption) :
    Steady q0 z0 (countLatency s i n k sum mx) := by
  unfold countLatency; try (dsimp only)
  with_reducible repeat' (first | assumption | intro _ | apply Steady.ite | apply putStat_st | split)

theorem withNoc_st {s : State} {n : Noc} (hs : Steady q0 z0 s) (c13 : q0 .noc = false := by assumption) :
    Steady q0 z0 (withNoc s n) := by
  unfold withNoc; try (dsimp only)
  with_reducible repeat' (first | exact fun _ => rfl | exact skip | assumption | intro _ | apply Steady.ite | split | apply Steady.upd)

theorem regTake_st {s : State} {i : ℕ} {n : Net} {f : ℕ} (hs : Steady q0 z0 s) (c13 : q0 .noc = false := by assumption) :
    Steady q0 z0 (regTake s i n f) := by
  unfold regTake; try (dsimp only)
  with_reducible repeat' (first | assumption | intro _ | apply Steady.ite | apply withNoc_st | split)

theorem reserve_st {s : State} {r : Resv} (hs : Steady q0 z0 s) (c13 : q0 .noc = false := by assumption) :
    Steady q0 z0 (reserve s r) := by
  unfold reserve; try (dsimp only)
  with_reducible repeat' (first | assumption | intro _ | apply Steady.ite | apply withNoc_st | split)

theorem unreserve_st {s : State} {r : ResvFor} (hs : Steady q0 z0 s) (c13 : q0 .noc = false := by assumption) :
    Steady q0 z0 (unreserve s r) := by
  unfold unreserve; try (dsimp only)
  with_reducible repeat' (first | assumption | intro _ | apply Steady.ite | apply withNoc_st | split)

theorem unreserveReq_st {s : State} {a : Agent} {rtag : BitVec 10} (hs : Steady q0 z0 s) (c13 : q0 .noc = false := by assumption) :
    Steady q0 z0 (unreserveReq s a rtag) := by
  unfold unreserveReq; try (dsimp only)
  with_reducible repeat' (first | assumption | intro _ | apply Steady.ite | apply unreserve_st | split)

theorem putBy_st {s : State} {g : Msg} {w : Word} (hs : Steady q0 z0 s) (c0 : q0 .regs = false := by assumption) (c10 : q0 .snap = false := by assumption) (c13 : q0 .noc = false := by assumption) (c19 : q0 .flight = false := by assumption) :
    Steady q0 z0 (putBy s g w) := by
  unfold putBy; try (dsimp only)
  with_reducible repeat' (first | exact fun _ => rfl | exact skip | assumption | intro _ | apply Steady.ite | apply regTake_st | apply countFlits_st | split | apply Steady.upd)

theorem putPlain_st {s : State} {g : Msg} (hs : Steady q0 z0 s) (c0 : q0 .regs = false := by assumption) (c10 : q0 .snap = false := by assumption) (c13 : q0 .noc = false := by assumption) (c19 : q0 .flight = false := by assumption) :
    Steady q0 z0 (putPlain s g) := by
  unfold putPlain; try (dsimp only)
  with_reducible repeat' (first | assumption | intro _ | apply Steady.ite | apply putBy_st | split)

theorem noteNoRoute_st {s : State} {r : ℕ} (hs : Steady q0 z0 s) (c0 : q0 .regs = false := by assumption) (c8 : q0 .fns = false := by assumption) (c13 : q0 .noc = false := by assumption) (c20 : q0 .out = false := by assumption) :
    Steady q0 z0 (noteNoRoute s r) := by
  unfold noteNoRoute; try (dsimp only)
  with_reducible repeat' (first | assumption | intro _ | apply Steady.ite | apply withNoc_st | apply deliverKeeper_st | apply deliverHost_st | refine wrBit_bg ?_ (by constructor) | refine wr_bg ?_ (by constructor) | split)

theorem returnCredits_st {s : State} {g : Msg} {k : ℕ} {measured : Bool} (hs : Steady q0 z0 s) (c0 : q0 .regs = false := by assumption) (c8 : q0 .fns = false := by assumption) (c10 : q0 .snap = false := by assumption) (c13 : q0 .noc = false := by assumption) (c19 : q0 .flight = false := by assumption) (c20 : q0 .out = false := by assumption) :
    Steady q0 z0 (returnCredits s g k measured) := by
  unfold returnCredits; try (dsimp only)
  with_reducible repeat' (first | assumption | intro _ | apply Steady.ite | apply noteNoRoute_st | apply putPlain_st | apply withNoc_st | split)

theorem crossTwin_st {s : State} {g : Msg} (hs : Steady q0 z0 s) (c0 : q0 .regs = false := by assumption) (c7 : q0 .links = false := by assumption) (c8 : q0 .fns = false := by assumption) (c10 : q0 .snap = false := by assumption) (c13 : q0 .noc = false := by assumption) (c19 : q0 .flight = false := by assumption) (c20 : q0 .out = false := by assumption) :
    Steady q0 z0 (crossTwin s g) := by
  unfold crossTwin; try (dsimp only)
  with_reducible repeat' (first | exact fun _ => rfl | exact skip | assumption | intro _ | apply Steady.ite | apply returnCredits_st | apply putPlain_st | apply withNoc_st | apply twinSend_st | split | apply Steady.upd)

theorem putMsg_st {s : State} {g : Msg} (hs : Steady q0 z0 s) (c0 : q0 .regs = false := by assumption) (c7 : q0 .links = false := by assumption) (c8 : q0 .fns = false := by assumption) (c10 : q0 .snap = false := by assumption) (c13 : q0 .noc = false := by assumption) (c19 : q0 .flight = false := by assumption) (c20 : q0 .out = false := by assumption) :
    Steady q0 z0 (putMsg s g) := by
  unfold putMsg; try (dsimp only)
  with_reducible repeat' (first | assumption | intro _ | apply Steady.ite | apply crossTwin_st | apply putPlain_st | split)

theorem drainQueue_st {s : State} {l : List Msg} {kept : List Msg} (hs : Steady q0 z0 s) (c0 : q0 .regs = false := by assumption) (c7 : q0 .links = false := by assumption) (c8 : q0 .fns = false := by assumption) (c10 : q0 .snap = false := by assumption) (c13 : q0 .noc = false := by assumption) (c19 : q0 .flight = false := by assumption) (c20 : q0 .out = false := by assumption) :
    Steady q0 z0 (drainQueue s l kept) := by
  fun_induction drainQueue s l kept
  all_goals (try (dsimp only))
  all_goals with_reducible repeat' (first | assumption | apply_assumption | assumption | intro _ | apply Steady.ite | apply putMsg_st | apply withNoc_st | split)

theorem settleNoc_st {s : State} (hs : Steady q0 z0 s) (c0 : q0 .regs = false := by assumption) (c7 : q0 .links = false := by assumption) (c8 : q0 .fns = false := by assumption) (c10 : q0 .snap = false := by assumption) (c13 : q0 .noc = false := by assumption) (c19 : q0 .flight = false := by assumption) (c20 : q0 .out = false := by assumption) :
    Steady q0 z0 (settleNoc s) := by
  unfold settleNoc; try (dsimp only)
  with_reducible repeat' (first | assumption | intro _ | apply Steady.ite | apply drainQueue_st | apply withNoc_st | split)

theorem inject_st {s : State} {i : MsgInfo} {r : Option ResvFor} {c : Instr} (hs : Steady q0 z0 s) (c0 : q0 .regs = false := by assumption) (c7 : q0 .links = false := by assumption) (c8 : q0 .fns = false := by assumption) (c10 : q0 .snap = false := by assumption) (c13 : q0 .noc = false := by assumption) (c19 : q0 .flight = false := by assumption) (c20 : q0 .out = false := by assumption) :
    Steady q0 z0 (inject s i r c) := by
  unfold inject; try (dsimp only)
  with_reducible repeat' (first | assumption | intro _ | apply Steady.ite | apply putMsg_st | apply noteNoRoute_st | apply reserve_st | apply withNoc_st | split)

theorem send_st {s : State} {c : Instr} (hs : Steady q0 z0 s) (c0 : q0 .regs = false := by assumption) (c7 : q0 .links = false := by assumption) (c8 : q0 .fns = false := by assumption) (c10 : q0 .snap = false := by assumption) (c13 : q0 .noc = false := by assumption) (c19 : q0 .flight = false := by assumption) (c20 : q0 .out = false := by assumption) :
    Steady q0 z0 (send s c) := by
  unfold send; try (dsimp only)
  with_reducible repeat' (first | exact fun _ => rfl | exact skip | assumption | intro _ | apply Steady.ite | apply inject_st | split | apply Steady.upd)

theorem sendFrom_st {s : State} {e : ℕ} {c : Instr} (hs : Steady q0 z0 s) (c0 : q0 .regs = false := by assumption) (c7 : q0 .links = false := by assumption) (c8 : q0 .fns = false := by assumption) (c10 : q0 .snap = false := by assumption) (c13 : q0 .noc = false := by assumption) (c19 : q0 .flight = false := by assumption) (c20 : q0 .out = false := by assumption) :
    Steady q0 z0 (sendFrom s e c) := by
  unfold sendFrom; try (dsimp only)
  with_reducible repeat' (first | assumption | intro _ | apply Steady.ite | apply inject_st | split)

theorem sendTwin_st {s : State} {e : ℕ} {c : Instr} (hs : Steady q0 z0 s) (c0 : q0 .regs = false := by assumption) (c7 : q0 .links = false := by assumption) (c8 : q0 .fns = false := by assumption) (c10 : q0 .snap = false := by assumption) (c13 : q0 .noc = false := by assumption) (c19 : q0 .flight = false := by assumption) (c20 : q0 .out = false := by assumption) :
    Steady q0 z0 (sendTwin s e c) := by
  unfold sendTwin; try (dsimp only)
  with_reducible repeat' (first | assumption | intro _ | apply Steady.ite | apply inject_st | split)

end Sys2Proof.Laws
end

