-- ==== Sys2Proof/Laws/SteadyOps.lean ====
section
/-! SUPPORT. Every operation of Machine/Ops.lean is steady. -/

set_option Elab.async false
set_option linter.unusedTactic false
set_option linter.unreachableTactic false

namespace Sys2Proof.Laws

open Sys2Proof.Machine

variable {q0 : Part → Bool} {z0 : State}

theorem deliverTwin_st {s : State} {e : ℕ} (hs : Steady q0 z0 s) (c0 : q0 .regs = false := by assumption) (c7 : q0 .links = false := by assumption) (c8 : q0 .fns = false := by assumption) (c10 : q0 .snap = false := by assumption) (c13 : q0 .noc = false := by assumption) (c19 : q0 .flight = false := by assumption) (c20 : q0 .out = false := by assumption) :
    Steady q0 z0 (deliverTwin s e) := by
  unfold deliverTwin; try (dsimp only)
  with_reducible repeat' (first | assumption | intro _ | apply Steady.ite | apply inject_st | split)

theorem raiseEv_st {s : State} {e : ℕ} (hs : Steady q0 z0 s) (c0 : q0 .regs = false := by assumption) (c7 : q0 .links = false := by assumption) (c8 : q0 .fns = false := by assumption) (c10 : q0 .snap = false := by assumption) (c13 : q0 .noc = false := by assumption) (c19 : q0 .flight = false := by assumption) (c20 : q0 .out = false := by assumption) :
    Steady q0 z0 (raiseEv s e) := by
  unfold raiseEv; try (dsimp only)
  with_reducible repeat' (first | assumption | intro _ | apply Steady.ite | apply deliverTwin_st | apply deliverKeeper_st | apply deliverHost_st | refine wrBit_bg ?_ (by constructor) | split)

theorem settleSummary_st {s : State} {w : ℕ} (hs : Steady q0 z0 s) (c0 : q0 .regs = false := by assumption) (c1 : q0 .settings = false := by assumption) :
    Steady q0 z0 (settleSummary s w) := by
  unfold settleSummary; try (dsimp only)
  with_reducible repeat' (first | assumption | intro _ | apply Steady.ite | apply wrBit_st | split)

theorem count_st {s : State} {off : ℕ} {lo : ℕ} {rule : CntRule} {e : ℕ} (hs : Steady q0 z0 s) (c0 : q0 .regs = false := by assumption) (c1 : q0 .settings = false := by assumption) (c7 : q0 .links = false := by assumption) (c8 : q0 .fns = false := by assumption) (c10 : q0 .snap = false := by assumption) (c13 : q0 .noc = false := by assumption) (c19 : q0 .flight = false := by assumption) (c20 : q0 .out = false := by assumption) :
    Steady q0 z0 (count s off lo rule e) := by
  unfold count; try (dsimp only)
  with_reducible repeat' (first | assumption | intro _ | apply Steady.ite | apply raiseEv_st | apply wr_st | split)

theorem clearCnt_st {s : State} {off : ℕ} {lo : ℕ} (hs : Steady q0 z0 s) (c0 : q0 .regs = false := by assumption) (c1 : q0 .settings = false := by assumption) :
    Steady q0 z0 (clearCnt s off lo) := by
  unfold clearCnt; try (dsimp only)
  with_reducible repeat' (first | assumption | intro _ | apply Steady.ite | apply wr_st | split)

theorem count_bg {s : State} {off lo : Nat} {rule : CntRule} {e : Nat} (hs : Steady q0 z0 s) (b : Background off) (c0 : q0 .regs = false := by assumption) (c7 : q0 .links = false := by assumption) (c8 : q0 .fns = false := by assumption) (c10 : q0 .snap = false := by assumption) (c13 : q0 .noc = false := by assumption) (c19 : q0 .flight = false := by assumption) (c20 : q0 .out = false := by assumption) :
    Steady q0 z0 (count s off lo rule e) := by
  unfold count
  exact Steady.ite (raiseEv_st (wr_bg hs b)) (wr_bg hs b)

theorem countViol_st {s : State} {w : ℕ} {e : ℕ} (hs : Steady q0 z0 s) (c0 : q0 .regs = false := by assumption) (c1 : q0 .settings = false := by assumption) (c7 : q0 .links = false := by assumption) (c8 : q0 .fns = false := by assumption) (c10 : q0 .snap = false := by assumption) (c13 : q0 .noc = false := by assumption) (c19 : q0 .flight = false := by assumption) (c20 : q0 .out = false := by assumption) :
    Steady q0 z0 (countViol s w e) := by
  unfold countViol; try (dsimp only)
  with_reducible repeat' (first | assumption | intro _ | apply Steady.ite | apply count_st | split)

theorem recordFirst_st {s : State} {w : ℕ} {x : Access} {d : Denied} {space : ℕ} {e : ℕ} (hs : Steady q0 z0 s) (c0 : q0 .regs = false := by assumption) (c1 : q0 .settings = false := by assumption) (c7 : q0 .links = false := by assumption) (c8 : q0 .fns = false := by assumption) (c10 : q0 .snap = false := by assumption) (c13 : q0 .noc = false := by assumption) (c19 : q0 .flight = false := by assumption) (c20 : q0 .out = false := by assumption) :
    Steady q0 z0 (recordFirst s w x d space e) := by
  unfold recordFirst; try (dsimp only)
  with_reducible repeat' (first | assumption | intro _ | apply Steady.ite | apply countViol_st | apply raiseEv_st | apply wr64_st | apply setReg_st | split)

theorem recordLog_st {s : State} {w : ℕ} {x : Access} {d : Denied} {space : ℕ} {e : ℕ} (hs : Steady q0 z0 s) (c0 : q0 .regs = false := by assumption) (c1 : q0 .settings = false := by assumption) (c7 : q0 .links = false := by assumption) (c8 : q0 .fns = false := by assumption) (c10 : q0 .snap = false := by assumption) (c13 : q0 .noc = false := by assumption) (c19 : q0 .flight = false := by assumption) (c20 : q0 .out = false := by assumption) :
    Steady q0 z0 (recordLog s w x d space e) := by
  unfold recordLog; try (dsimp only)
  with_reducible repeat' (first | assumption | intro _ | apply Steady.ite | apply countViol_st | apply count_st | apply raiseEv_st | apply wr64_st | apply wr_st | apply setReg_st | split)

theorem record_bg {w k : Nat} (hw : RecordWindow w) (h1 : 0xC10 ≤ k := by omega) (h2 : k < 0xE00 := by omega) :
    Background (w + k) := .record hw k h1 h2

theorem recordFirst_bg {s : State} {w : Nat} {x : Access} {d : Denied} {space e : Nat} (hs : Steady q0 z0 s)
    (hw : RecordWindow w) (c0 : q0 .regs = false := by assumption) (c7 : q0 .links = false := by assumption) (c8 : q0 .fns = false := by assumption) (c10 : q0 .snap = false := by assumption) (c13 : q0 .noc = false := by assumption) (c19 : q0 .flight = false := by assumption) (c20 : q0 .out = false := by assumption) : Steady q0 z0 (recordFirst s w x d space e) := by
  unfold recordFirst
  have ht : Steady q0 z0 (countViol s w e) := count_bg hs (record_bg hw)
  exact Steady.ite ht (raiseEv_st (wr64_bg (setReg_bg (setReg_bg ht (record_bg hw)) (record_bg hw)) (record_bg hw)
    (by rw [Nat.add_assoc]; exact record_bg hw)))

theorem recordLog_bg {s : State} {w : Nat} {x : Access} {d : Denied} {space e : Nat} (hs : Steady q0 z0 s)
    (hw : RecordWindow w) (c0 : q0 .regs = false := by assumption) (c7 : q0 .links = false := by assumption) (c8 : q0 .fns = false := by assumption) (c10 : q0 .snap = false := by assumption) (c13 : q0 .noc = false := by assumption) (c19 : q0 .flight = false := by assumption) (c20 : q0 .out = false := by assumption) : Steady q0 z0 (recordLog s w x d space e) := by
  unfold recordLog
  extract_lets t k b t1 full t2 t3
  have hk : k < 8 := Nat.mod_lt _ (by decide)
  have hb : ∀ i, i < 0x20 → Background (b + i) := fun i hi => by
    have e : b + i = w + (0xD00 + k * 0x20 + i) := by omega
    rw [e]; exact record_bg hw
  have ht : Steady q0 z0 t := count_bg hs (record_bg hw)
  have h1 : Steady q0 z0 t1 := wr64_bg (wr64_bg (setReg_bg (setReg_bg ht (hb 0 (by omega))) (hb 4 (by omega))) (hb 8 (by omega))
    (hb 12 (by omega))) (hb 16 (by omega)) (hb 20 (by omega))
  have h2 : Steady q0 z0 t2 := Steady.ite (count_bg h1 (record_bg hw)) h1
  exact raiseEv_st (wr_bg (wr_bg h2 (record_bg hw)) (record_bg hw))

theorem recordFabric_st {s : State} {i : FabInit} {off : ℕ} {write : Bool} {d : Denied} (hs : Steady q0 z0 s) (c0 : q0 .regs = false := by assumption) (c1 : q0 .settings = false := by assumption) (c7 : q0 .links = false := by assumption) (c8 : q0 .fns = false := by assumption) (c10 : q0 .snap = false := by assumption) (c13 : q0 .noc = false := by assumption) (c19 : q0 .flight = false := by assumption) (c20 : q0 .out = false := by assumption) :
    Steady q0 z0 (recordFabric s i off write d) := by
  unfold recordFabric; try (dsimp only)
  with_reducible repeat' (first | assumption | intro _ | apply Steady.ite | apply recordLog_st | split)

end Sys2Proof.Laws
end

