-- ==== Sys2Proof/Laws/Counters.lean ====
section
/-! SUPPORT. What events, trouble counters and violation records do to register words: each changes its own words and the
background alone. -/

set_option Elab.async false

namespace Sys2Proof.Laws

open Sys2Proof.Machine

/-- Raising an event changes background words alone. -/
theorem raiseEv_getReg (s : State) (e : Nat) {o : Nat} (h : ¬ Background o) : getReg (raiseEv s e) o = getReg s o :=
  (raiseEv_st (q0 := fun p => p == .settings) (Steady.refl _ s) rfl rfl rfl rfl rfl rfl rfl).settings rfl o h

/-- Counting changes the counter's word and the background alone. -/
theorem count_getReg (s : State) (off lo : Nat) (rule : CntRule) (e : Nat) {o : Nat} (h : ¬ Background o) (hn : o ≠ off) :
    getReg (count s off lo rule e) o = getReg s o := by
  unfold count
  dsimp only
  split
  · rw [raiseEv_getReg _ _ h, getReg_wr_other _ hn]
  · rw [getReg_wr_other _ hn]

/-- A record of a privileged guard changes the words of its log and the background alone. -/
theorem recordLog_getReg (s : State) (w : Nat) (x : Access) (d : Denied) (space e : Nat) {o : Nat} (h : ¬ Background o)
    (hw : o < w + 0xC10 ∨ w + 0xE00 ≤ o) : getReg (recordLog s w x d space e) o = getReg s o := by
  unfold recordLog
  extract_lets t k b t1 full t2 t3
  have hk : k < 8 := Nat.mod_lt _ (by decide)
  have hb : ∀ i, i < 0x20 → o ≠ b + i := fun i hi => by omega
  have ht : getReg t o = getReg s o := count_getReg _ _ _ _ _ h (by omega)
  have h1 : getReg t1 o = getReg t o := by
    simp only [t1, wr64]
    rw [getReg_setReg_other _ (hb 20 (by decide)), getReg_setReg_other _ (hb 16 (by decide)),
      getReg_setReg_other _ (hb 12 (by decide)), getReg_setReg_other _ (hb 8 (by decide)),
      getReg_setReg_other _ (hb 4 (by decide)), getReg_setReg_other _ (show o ≠ b from hb 0 (by decide))]
  have h2 : getReg t2 o = getReg t1 o := by
    simp only [t2]
    split
    · exact count_getReg _ _ _ _ _ h (by omega)
    · rfl
  rw [raiseEv_getReg _ _ h, getReg_wr_other _ (by omega), getReg_wr_other _ (by omega), h2, h1, ht]

/-- Clearing a counter leaves a zero field of any word zero. -/
theorem clearCnt_zero (s : State) (off lo o hi l : Nat) (hlo : lo < 17) (h : fld (getReg s o) hi l = 0) :
    fld (getReg (clearCnt s off lo) o) hi l = 0 := by
  unfold clearCnt
  by_cases e : o = off
  · subst e
    rw [getReg_wr_same]
    apply Nat.eq_of_testBit_eq
    intro i
    have hz := congrArg (fun n => n.testBit i) h
    unfold fld at hz ⊢
    simp only [Nat.testBit_mod_two_pow, Nat.testBit_div_two_pow, Nat.zero_testBit] at hz ⊢
    have hp := putFld_bit (getReg s o) (lo + 15) lo 0 (i + l) (by omega) (by omega)
    rw [BitVec.getLsbD] at hp
    rw [hp]
    split
    · simp
    · rw [BitVec.getLsbD]; exact hz
  · rw [getReg_wr_other _ e]; exact h

end Sys2Proof.Laws
end

