-- ==== Sys2Proof/Laws/SteadyStore.lean ====
section
/-! SUPPORT. Every operation of Machine/Store.lean is steady. -/

set_option Elab.async false
set_option linter.unusedTactic false
set_option linter.unreachableTactic false

namespace Sys2Proof.Laws

open Sys2Proof.Machine

variable {q0 : Part → Bool} {z0 : State}

theorem storeWrite_st {s : State} {a : ℕ} {bs : List Byte} (hs : Steady q0 z0 s) (c12 : q0 .store = false := by assumption) :
    Steady q0 z0 (storeWrite s a bs) := by
  fun_induction storeWrite s a bs
  all_goals (try (dsimp only))
  all_goals with_reducible repeat' (first | assumption | apply_assumption | assumption | intro _ | apply Steady.ite | apply storePut_st | split)

theorem onSpi_st {s t : State} (hs : Steady q0 z0 s) (ht : Steady q0 z0 t) :
    Steady q0 z0 (onSpi s t) := by
  unfold onSpi; try (dsimp only)
  with_reducible repeat' (first | assumption | intro _ | apply Steady.ite | split)

theorem execSpiReadId_ok {s : State} (hs : Steady q0 z0 s) (c20 : q0 .out = false := by first | assumption | rfl) :
    OkOutcome q0 z0 (execSpiReadId s) := by
  unfold execSpiReadId; try (dsimp only)
  with_reducible repeat' (first | intro _ | apply next_ok | apply ite_ok | assumption | intro _ | apply Steady.ite | apply onSpi_st | apply emit_st | split)

theorem execSpiReadStatus_ok {s : State} (hs : Steady q0 z0 s) (c20 : q0 .out = false := by first | assumption | rfl) :
    OkOutcome q0 z0 (execSpiReadStatus s) := by
  unfold execSpiReadStatus; try (dsimp only)
  with_reducible repeat' (first | intro _ | apply next_ok | apply ite_ok | assumption | intro _ | apply Steady.ite | apply onSpi_st | apply emit_st | split)

theorem execSpiWriteEnable_ok {s : State} (hs : Steady q0 z0 s) (c4 : q0 .dev = false := by first | assumption | rfl) :
    OkOutcome q0 z0 (execSpiWriteEnable s) := by
  unfold execSpiWriteEnable; try (dsimp only)
  with_reducible repeat' (first | exact fun _ => rfl | exact skip | intro _ | apply next_ok | apply ite_ok | assumption | intro _ | apply Steady.ite | apply onSpi_st | split | apply Steady.upd)

theorem execSpiRead_ok {s : State} {off : BitVec 32} {len : ℕ} (hs : Steady q0 z0 s) (c20 : q0 .out = false := by first | assumption | rfl) :
    OkOutcome q0 z0 (execSpiRead off len s) := by
  unfold execSpiRead; try (dsimp only)
  with_reducible repeat' (first | intro _ | apply next_ok | apply ite_ok | exact fault_ok | assumption | intro _ | apply Steady.ite | apply onSpi_st | apply emit_st | split)

theorem spiStart_st {s : State} {off : BitVec 32} {op : SpiOp} {fits : Bool} (hs : Steady q0 z0 s) (c0 : q0 .regs = false := by assumption) (c1 : q0 .settings = false := by assumption) (c4 : q0 .dev = false := by assumption) :
    Steady q0 z0 (spiStart s off op fits) := by
  unfold spiStart; try (dsimp only)
  with_reducible repeat' (first | exact fun _ => rfl | exact skip | assumption | intro _ | apply Steady.ite | apply wrBit_st | split | apply Steady.upd)

theorem execSpiProgram_ok {s : State} {off : BitVec 32} {data : List Byte} (hs : Steady q0 z0 s) (c0 : q0 .regs = false := by first | assumption | rfl) (c1 : q0 .settings = false := by first | assumption | rfl) (c4 : q0 .dev = false := by first | assumption | rfl) :
    OkOutcome q0 z0 (execSpiProgram off data s) := by
  unfold execSpiProgram; try (dsimp only)
  with_reducible repeat' (first | intro _ | apply next_ok | apply ite_ok | exact fault_ok | assumption | intro _ | apply Steady.ite | apply spiStart_st | apply onSpi_st | split)

theorem execSpiErasePage_ok {s : State} {off : BitVec 32} (hs : Steady q0 z0 s) (c0 : q0 .regs = false := by first | assumption | rfl) (c1 : q0 .settings = false := by first | assumption | rfl) (c4 : q0 .dev = false := by first | assumption | rfl) :
    OkOutcome q0 z0 (execSpiErasePage off s) := by
  unfold execSpiErasePage; try (dsimp only)
  with_reducible repeat' (first | intro _ | apply next_ok | apply ite_ok | exact fault_ok | assumption | intro _ | apply Steady.ite | apply spiStart_st | apply onSpi_st | split)

theorem storeGarble_st {s : State} {a : ℕ} {n : ℕ} (hs : Steady q0 z0 s) (c12 : q0 .store = false := by assumption) (c21 : q0 .fresh = false := by assumption) :
    Steady q0 z0 (storeGarble s a n) := by
  unfold storeGarble; try (dsimp only)
  with_reducible repeat' (first | assumption | intro _ | apply Steady.ite | apply storeWrite_st | apply usedFree_st | split)

theorem execSpiOperationDone_ok {s : State} {failed : Bool} (hs : Steady q0 z0 s) (c0 : q0 .regs = false := by first | assumption | rfl) (c1 : q0 .settings = false := by first | assumption | rfl) (c4 : q0 .dev = false := by first | assumption | rfl) (c12 : q0 .store = false := by first | assumption | rfl) (c21 : q0 .fresh = false := by first | assumption | rfl) :
    OkOutcome q0 z0 (execSpiOperationDone failed s) := by
  unfold execSpiOperationDone; try (dsimp only)
  with_reducible repeat' (first | exact fun _ => rfl | exact skip | intro _ | apply next_ok | apply ite_ok | assumption | intro _ | apply Steady.ite | apply storeGarble_st | apply onSpi_st | apply storeErasePage_st | apply storeWrite_st | apply wrBit_st | split | apply Steady.upd)

end Sys2Proof.Laws
end

