-- ==== Sys2Proof/Laws/SteadyTxnBase.lean ====
section
/-! SUPPORT. Every operation of Machine/TxnBase.lean is steady. -/

set_option Elab.async false
set_option linter.unusedTactic false
set_option linter.unreachableTactic false

namespace Sys2Proof.Laws

open Sys2Proof.Machine

variable {q0 : Part → Bool} {z0 : State}

theorem txnCode_st {s : State} {c : ℕ} (hs : Steady q0 z0 s) (c0 : q0 .regs = false := by assumption) (c1 : q0 .settings = false := by assumption) :
    Steady q0 z0 (txnCode s c) := by
  unfold txnCode; try (dsimp only)
  with_reducible repeat' (first | assumption | intro _ | apply Steady.ite | apply wr_st | split)

theorem txnClose_st {s : State} (hs : Steady q0 z0 s) (c0 : q0 .regs = false := by assumption) (c1 : q0 .settings = false := by assumption) (c3 : q0 .banks = false := by assumption) (c5 : q0 .txn = false := by assumption) :
    Steady q0 z0 (txnClose s) := by
  unfold txnClose; try (dsimp only)
  with_reducible repeat' (first | exact fun _ => rfl | exact skip | assumption | intro _ | apply Steady.ite | apply setReg_st | split | apply Steady.upd)

theorem sendAbort_st {s : State} (hs : Steady q0 z0 s) (c0 : q0 .regs = false := by assumption) (c5 : q0 .txn = false := by assumption) (c7 : q0 .links = false := by assumption) (c10 : q0 .snap = false := by assumption) (c20 : q0 .out = false := by assumption) :
    Steady q0 z0 (sendAbort s) := by
  unfold sendAbort; try (dsimp only)
  with_reducible repeat' (first | exact fun _ => rfl | exact skip | assumption | intro _ | apply Steady.ite | apply pairSend_st | split | apply Steady.upd)

theorem txnEnd_st {s : State} {code : ℕ} (hs : Steady q0 z0 s) (c0 : q0 .regs = false := by assumption) (c1 : q0 .settings = false := by assumption) (c3 : q0 .banks = false := by assumption) (c5 : q0 .txn = false := by assumption) (c7 : q0 .links = false := by assumption) (c10 : q0 .snap = false := by assumption) (c20 : q0 .out = false := by assumption) :
    Steady q0 z0 (txnEnd s code) := by
  unfold txnEnd; try (dsimp only)
  with_reducible repeat' (first | assumption | intro _ | apply Steady.ite | apply sendAbort_st | apply txnClose_st | apply txnCode_st | split)

theorem countFailed_st {s : State} (hs : Steady q0 z0 s) (c0 : q0 .regs = false := by assumption) (c1 : q0 .settings = false := by assumption) (c7 : q0 .links = false := by assumption) (c8 : q0 .fns = false := by assumption) (c10 : q0 .snap = false := by assumption) (c13 : q0 .noc = false := by assumption) (c19 : q0 .flight = false := by assumption) (c20 : q0 .out = false := by assumption) :
    Steady q0 z0 (countFailed s) := by
  unfold countFailed; try (dsimp only)
  with_reducible repeat' (first | assumption | intro _ | apply Steady.ite | apply count_st | split)

theorem commitFails_st {s : State} {code : ℕ} (hs : Steady q0 z0 s) (c0 : q0 .regs = false := by assumption) (c1 : q0 .settings = false := by assumption) (c3 : q0 .banks = false := by assumption) (c5 : q0 .txn = false := by assumption) (c7 : q0 .links = false := by assumption) (c8 : q0 .fns = false := by assumption) (c10 : q0 .snap = false := by assumption) (c13 : q0 .noc = false := by assumption) (c19 : q0 .flight = false := by assumption) (c20 : q0 .out = false := by assumption) :
    Steady q0 z0 (commitFails s code) := by
  unfold commitFails; try (dsimp only)
  with_reducible repeat' (first | assumption | intro _ | apply Steady.ite | apply countFailed_st | apply txnEnd_st | split)

theorem countStray_st {s : State} (hs : Steady q0 z0 s) (c0 : q0 .regs = false := by assumption) (c1 : q0 .settings = false := by assumption) (c7 : q0 .links = false := by assumption) (c8 : q0 .fns = false := by assumption) (c10 : q0 .snap = false := by assumption) (c13 : q0 .noc = false := by assumption) (c19 : q0 .flight = false := by assumption) (c20 : q0 .out = false := by assumption) :
    Steady q0 z0 (countStray s) := by
  unfold countStray; try (dsimp only)
  with_reducible repeat' (first | assumption | intro _ | apply Steady.ite | apply count_st | split)

theorem txnLinkLost_st {s : State} (hs : Steady q0 z0 s) (c0 : q0 .regs = false := by assumption) (c1 : q0 .settings = false := by assumption) (c3 : q0 .banks = false := by assumption) (c5 : q0 .txn = false := by assumption) (c7 : q0 .links = false := by assumption) (c8 : q0 .fns = false := by assumption) (c10 : q0 .snap = false := by assumption) (c13 : q0 .noc = false := by assumption) (c19 : q0 .flight = false := by assumption) (c20 : q0 .out = false := by assumption) :
    Steady q0 z0 (txnLinkLost s) := by
  unfold txnLinkLost; try (dsimp only)
  with_reducible repeat' (first | assumption | intro _ | apply Steady.ite | apply commitFails_st | split)

theorem txnLinkBack_st {s : State} (hs : Steady q0 z0 s) (c0 : q0 .regs = false := by assumption) (c5 : q0 .txn = false := by assumption) (c7 : q0 .links = false := by assumption) (c10 : q0 .snap = false := by assumption) (c20 : q0 .out = false := by assumption) :
    Steady q0 z0 (txnLinkBack s) := by
  unfold txnLinkBack; try (dsimp only)
  with_reducible repeat' (first | exact fun _ => rfl | exact skip | assumption | intro _ | apply Steady.ite | apply pairSend_st | split | apply Steady.upd)

end Sys2Proof.Laws
end

