-- ==== Sys2Proof/Laws/SteadyNoc.lean ====
section
/-! SUPPORT. Every operation of Machine/Noc.lean is steady. -/

set_option Elab.async false
set_option linter.unusedTactic false
set_option linter.unreachableTactic false

namespace Sys2Proof.Laws

open Sys2Proof.Machine

variable {q0 : Part → Bool} {z0 : State}

theorem seqGap_st {s : State} {g : Msg} (hs : Steady q0 z0 s) (c0 : q0 .regs = false := by assumption) (c7 : q0 .links = false := by assumption) (c8 : q0 .fns = false := by assumption) (c10 : q0 .snap = false := by assumption) (c13 : q0 .noc = false := by assumption) (c19 : q0 .flight = false := by assumption) (c20 : q0 .out = false := by assumption) :
    Steady q0 z0 (seqGap s g) := by
  unfold seqGap; try (dsimp only)
  with_reducible repeat' (first | assumption | intro _ | apply Steady.ite | refine count_bg ?_ (by constructor) | apply returnCredits_st | apply withNoc_st | apply forAll_st | split)

theorem takeOff_st {s : State} {g : Msg} (hs : Steady q0 z0 s) (c0 : q0 .regs = false := by assumption) (c7 : q0 .links = false := by assumption) (c8 : q0 .fns = false := by assumption) (c10 : q0 .snap = false := by assumption) (c13 : q0 .noc = false := by assumption) (c19 : q0 .flight = false := by assumption) (c20 : q0 .out = false := by assumption) :
    Steady q0 z0 (takeOff s g) := by
  unfold takeOff; try (dsimp only)
  with_reducible repeat' (first | exact fun _ => rfl | exact skip | assumption | intro _ | apply Steady.ite | apply seqGap_st | apply returnCredits_st | split | apply Steady.upd)

theorem eject_st {s : State} {c : Instr} (hs : Steady q0 z0 s) (c0 : q0 .regs = false := by assumption) (c7 : q0 .links = false := by assumption) (c8 : q0 .fns = false := by assumption) (c10 : q0 .snap = false := by assumption) (c13 : q0 .noc = false := by assumption) (c19 : q0 .flight = false := by assumption) (c20 : q0 .out = false := by assumption) :
    Steady q0 z0 (eject s c).1 := by
  unfold eject; try (dsimp only)
  with_reducible repeat' (first | assumption | intro _ | apply Steady.ite | apply takeOff_st | apply inject_st | split)

theorem receive_st {s : State} {c : Instr} {k : State → State} (hs : Steady q0 z0 s) (hk : ∀ x0, Steady q0 z0 x0 → Steady q0 z0 (k x0)) (c0 : q0 .regs = false := by assumption) (c7 : q0 .links = false := by assumption) (c8 : q0 .fns = false := by assumption) (c10 : q0 .snap = false := by assumption) (c13 : q0 .noc = false := by assumption) (c19 : q0 .flight = false := by assumption) (c20 : q0 .out = false := by assumption) :
    Steady q0 z0 (receive s c k) := by
  unfold receive; try (dsimp only)
  with_reducible repeat' (first | assumption | intro _ | apply Steady.ite | apply hk | apply eject_st | refine count_bg ?_ (by constructor) | refine elim_st ?_ (fun _ => ?_) | split)

theorem releaseUnit_st {s : State} {u : FenceUnit} (hs : Steady q0 z0 s) (c13 : q0 .noc = false := by assumption) :
    Steady q0 z0 (releaseUnit s u) := by
  unfold releaseUnit; try (dsimp only)
  with_reducible repeat' (first | assumption | intro _ | apply Steady.ite | apply withNoc_st | split)

theorem silence_st {s : State} {u : FenceUnit} (hs : Steady q0 z0 s) (c13 : q0 .noc = false := by assumption) :
    Steady q0 z0 (silence s u) := by
  unfold silence; try (dsimp only)
  with_reducible repeat' (first | assumption | intro _ | apply Steady.ite | apply releaseUnit_st | apply withNoc_st | split)

theorem enterBuffer_st {s : State} {g : Msg} {g' : Msg} {node : ℕ} {port : ℕ} (hs : Steady q0 z0 s) (c13 : q0 .noc = false := by assumption) (c19 : q0 .flight = false := by assumption) :
    Steady q0 z0 (enterBuffer s g g' node port) := by
  unfold enterBuffer; try (dsimp only)
  with_reducible repeat' (first | exact fun _ => rfl | exact skip | assumption | intro _ | apply Steady.ite | split | apply Steady.upd)

theorem hopMsg_st {s : State} {g : Msg} {r : ℕ} {z1} (e : (hopMsg s g r) = some z1) (hs : Steady q0 z0 s) (c13 : q0 .noc = false := by assumption) (c19 : q0 .flight = false := by assumption) :
    Steady q0 z0 z1 := by
  unfold hopMsg at e; try (dsimp only at e)
  repeat' (split at e)
  all_goals (first | obtain ⟨w, hw, rfl⟩ := Option.map_eq_some_iff.1 e | cases e | skip)
  all_goals with_reducible repeat' (first | assumption | intro _ | apply Steady.ite | apply enterBuffer_st | apply withNoc_st | split)

theorem checkHeader_st {s : State} {r : ℕ} {hit : Option Msg} {net : Net} {dest : ℕ} {hdrEcc : Ecc} {payload : Ecc} (hs : Steady q0 z0 s) (c0 : q0 .regs = false := by assumption) (c7 : q0 .links = false := by assumption) (c8 : q0 .fns = false := by assumption) (c10 : q0 .snap = false := by assumption) (c13 : q0 .noc = false := by assumption) (c19 : q0 .flight = false := by assumption) (c20 : q0 .out = false := by assumption) :
    Steady q0 z0 (checkHeader s r hit net dest hdrEcc payload) := by
  unfold checkHeader; try (dsimp only)
  with_reducible repeat' (first | exact fun _ => rfl | exact skip | assumption | intro _ | apply Steady.ite | refine count_bg ?_ (by constructor) | split | apply Steady.upd)

theorem execRouterFlitArrival_ok {s : State} {router : Fin 18} {net : Net} {init : Fin 98} {dest : Fin 98} {seq : BitVec 8} {credited : Bool} {hdrEcc : Ecc} {payload : Ecc} (hs : Steady q0 z0 s) (c0 : q0 .regs = false := by first | assumption | rfl) (c7 : q0 .links = false := by first | assumption | rfl) (c8 : q0 .fns = false := by first | assumption | rfl) (c10 : q0 .snap = false := by first | assumption | rfl) (c13 : q0 .noc = false := by first | assumption | rfl) (c19 : q0 .flight = false := by first | assumption | rfl) (c20 : q0 .out = false := by first | assumption | rfl) :
    OkOutcome q0 z0 (execRouterFlitArrival router net init dest seq credited hdrEcc payload s) := by
  unfold execRouterFlitArrival; try (dsimp only)
  with_reducible repeat' (first | intro _ | apply next_ok | apply ite_ok | assumption | intro _ | apply Steady.ite | apply checkHeader_st | refine hopMsg_st (by assumption) ?_ | apply onFabric_st | refine findSome_st (by assumption) ?_ | split)

theorem execCreditret_ok {s : State} {endpoint : Fin 98} {net : Net} {src : Fin 98} {cnt : BitVec 3} {latMax : BitVec 16} {latSum : BitVec 18} (hs : Steady q0 z0 s) (c0 : q0 .regs = false := by first | assumption | rfl) (c7 : q0 .links = false := by first | assumption | rfl) (c8 : q0 .fns = false := by first | assumption | rfl) (c10 : q0 .snap = false := by first | assumption | rfl) (c13 : q0 .noc = false := by first | assumption | rfl) (c19 : q0 .flight = false := by first | assumption | rfl) (c20 : q0 .out = false := by first | assumption | rfl) :
    OkOutcome q0 z0 (execCreditret endpoint net src cnt latMax latSum s) := by
  unfold execCreditret; try (dsimp only)
  with_reducible repeat' (first | intro _ | apply next_ok | apply ite_ok | assumption | intro _ | apply Steady.ite | apply receive_st | apply settleNoc_st | apply withNoc_st | apply countLatency_st | apply onFabric_st | split)

theorem execDrainmark_ok {s : State} {endpoint : Fin 98} {net : Net} {init : Fin 98} (hs : Steady q0 z0 s) (c0 : q0 .regs = false := by first | assumption | rfl) (c7 : q0 .links = false := by first | assumption | rfl) (c8 : q0 .fns = false := by first | assumption | rfl) (c10 : q0 .snap = false := by first | assumption | rfl) (c13 : q0 .noc = false := by first | assumption | rfl) (c19 : q0 .flight = false := by first | assumption | rfl) (c20 : q0 .out = false := by first | assumption | rfl) :
    OkOutcome q0 z0 (execDrainmark endpoint net init s) := by
  unfold execDrainmark; try (dsimp only)
  with_reducible repeat' (first | intro _ | apply next_ok | apply ite_ok | assumption | intro _ | apply Steady.ite | apply receive_st | apply send_st | apply onFabric_st | split)

theorem execDrainecho_ok {s : State} {endpoint : Fin 98} {net : Net} {node : Fin 18} (hs : Steady q0 z0 s) (c0 : q0 .regs = false := by first | assumption | rfl) (c7 : q0 .links = false := by first | assumption | rfl) (c8 : q0 .fns = false := by first | assumption | rfl) (c10 : q0 .snap = false := by first | assumption | rfl) (c13 : q0 .noc = false := by first | assumption | rfl) (c19 : q0 .flight = false := by first | assumption | rfl) (c20 : q0 .out = false := by first | assumption | rfl) :
    OkOutcome q0 z0 (execDrainecho endpoint net node s) := by
  unfold execDrainecho; try (dsimp only)
  with_reducible repeat' (first | intro _ | apply next_ok | apply ite_ok | assumption | intro _ | apply Steady.ite | apply receive_st | apply settleNoc_st | apply withNoc_st | apply onFabric_st | split)

theorem execRegulatedInjection_ok {s : State} {_init : Fin 98} {_net : Net} (hs : Steady q0 z0 s) (c0 : q0 .regs = false := by first | assumption | rfl) (c7 : q0 .links = false := by first | assumption | rfl) (c8 : q0 .fns = false := by first | assumption | rfl) (c10 : q0 .snap = false := by first | assumption | rfl) (c13 : q0 .noc = false := by first | assumption | rfl) (c19 : q0 .flight = false := by first | assumption | rfl) (c20 : q0 .out = false := by first | assumption | rfl) :
    OkOutcome q0 z0 (execRegulatedInjection _init _net s) := by
  unfold execRegulatedInjection; try (dsimp only)
  with_reducible repeat' (first | intro _ | apply next_ok | apply ite_ok | assumption | intro _ | apply Steady.ite | apply settleNoc_st | apply onFabric_st | split)

theorem routerParity_st {s : State} {r : ℕ} (hs : Steady q0 z0 s) (c0 : q0 .regs = false := by assumption) (c7 : q0 .links = false := by assumption) (c8 : q0 .fns = false := by assumption) (c10 : q0 .snap = false := by assumption) (c13 : q0 .noc = false := by assumption) (c19 : q0 .flight = false := by assumption) (c20 : q0 .out = false := by assumption) :
    Steady q0 z0 (routerParity s r) := by
  unfold routerParity; try (dsimp only)
  with_reducible repeat' (first | assumption | intro _ | apply Steady.ite | apply raiseEv_st | split)

end Sys2Proof.Laws
end

