-- ==== Sys2Proof/Laws/SteadyBuf.lean ====
section
/-! SUPPORT. Every operation of Machine/Buf.lean is steady. -/

set_option Elab.async false
set_option linter.unusedTactic false
set_option linter.unreachableTactic false

namespace Sys2Proof.Laws

open Sys2Proof.Machine

variable {q0 : Part → Bool} {z0 : State}

theorem withBuf_st {s : State} {b : Buf} (hs : Steady q0 z0 s) (c14 : q0 .buf = false := by assumption) :
    Steady q0 z0 (withBuf s b) := by
  unfold withBuf; try (dsimp only)
  with_reducible repeat' (first | exact fun _ => rfl | exact skip | assumption | intro _ | apply Steady.ite | split | apply Steady.upd)

theorem takeMin_st {s : State} {n : ℕ} {j : ℕ} {c : ℕ} {k : ℕ} (hs : Steady q0 z0 s) (c0 : q0 .regs = false := by assumption) :
    Steady q0 z0 (takeMin s n j c k) := by
  unfold takeMin; try (dsimp only)
  with_reducible repeat' (first | assumption | intro _ | apply Steady.ite | refine wr_bg ?_ (by constructor) | split)

theorem freeMin_st {s : State} {n : ℕ} {j : ℕ} {c : ℕ} {k : ℕ} (hs : Steady q0 z0 s) (c0 : q0 .regs = false := by assumption) :
    Steady q0 z0 (freeMin s n j c k) := by
  unfold freeMin; try (dsimp only)
  with_reducible repeat' (first | assumption | intro _ | apply Steady.ite | refine wr_bg ?_ (by constructor) | split)

theorem takeShared_st {s : State} {n : ℕ} {j : ℕ} {c : ℕ} {k : ℕ} (hs : Steady q0 z0 s) (c0 : q0 .regs = false := by assumption) :
    Steady q0 z0 (takeShared s n j c k) := by
  unfold takeShared; try (dsimp only)
  with_reducible repeat' (first | assumption | intro _ | apply Steady.ite | refine wr_bg ?_ (by constructor) | split)

theorem freeShared_st {s : State} {n : ℕ} {j : ℕ} {c : ℕ} {k : ℕ} (hs : Steady q0 z0 s) (c0 : q0 .regs = false := by assumption) :
    Steady q0 z0 (freeShared s n j c k) := by
  unfold freeShared; try (dsimp only)
  with_reducible repeat' (first | assumption | intro _ | apply Steady.ite | refine wr_bg ?_ (by constructor) | split)

theorem advertise_st {s : State} {p : ℕ} {c : ℕ} (hs : Steady q0 z0 s) (c0 : q0 .regs = false := by assumption) (c14 : q0 .buf = false := by assumption) (c20 : q0 .out = false := by assumption) :
    Steady q0 z0 (advertise s p c) := by
  unfold advertise; try (dsimp only)
  with_reducible repeat' (first | assumption | intro _ | apply Steady.ite | apply takeMin_st | apply withBuf_st | apply emit_st | split)

theorem unback_st {s : State} {p : ℕ} {c : ℕ} {k : ℕ} (hs : Steady q0 z0 s) (c0 : q0 .regs = false := by assumption) (c14 : q0 .buf = false := by assumption) :
    Steady q0 z0 (unback s p c k) := by
  unfold unback; try (dsimp only)
  with_reducible repeat' (first | assumption | intro _ | apply Steady.ite | apply freeMin_st | apply withBuf_st | split)

theorem freeCellsOf_st {s : State} {n : ℕ} {j : ℕ} {c : ℕ} {k : ℕ} {shared : Bool} (hs : Steady q0 z0 s) (c0 : q0 .regs = false := by assumption) (c14 : q0 .buf = false := by assumption) (c20 : q0 .out = false := by assumption) :
    Steady q0 z0 (freeCellsOf s n j c k shared) := by
  unfold freeCellsOf; try (dsimp only)
  with_reducible repeat' (first | assumption | intro _ | apply Steady.ite | apply advertise_st | apply freeShared_st | apply freeMin_st | split)

theorem reserveCell_st {s : State} {p : ℕ} {d : Option Dest} {z1} (e : (reserveCell s p d) = some z1) (hs : Steady q0 z0 s) (c0 : q0 .regs = false := by assumption) :
    Steady q0 z0 z1.1 := by
  unfold reserveCell at e; try (dsimp only at e)
  repeat' (split at e)
  all_goals (first | obtain ⟨w, hw, rfl⟩ := Option.map_eq_some_iff.1 e | cases e | skip)
  all_goals with_reducible repeat' (first | assumption | intro _ | apply Steady.ite | apply takeShared_st | apply takeMin_st | refine elim_st ?_ (fun _ => ?_) | split)

theorem setMeter_st {s : State} {n : ℕ} {i : ℕ} {b : Bucket × Bucket} (hs : Steady q0 z0 s) (c14 : q0 .buf = false := by assumption) :
    Steady q0 z0 (setMeter s n i b) := by
  unfold setMeter; try (dsimp only)
  with_reducible repeat' (first | assumption | intro _ | apply Steady.ite | apply withBuf_st | split)

theorem settleHeld_st {s : State} {n : ℕ} {i : ℕ} (hs : Steady q0 z0 s) (c0 : q0 .regs = false := by assumption) :
    Steady q0 z0 (settleHeld s n i) := by
  unfold settleHeld; try (dsimp only)
  with_reducible repeat' (first | assumption | intro _ | apply Steady.ite | refine wr_bg ?_ (by constructor) | split)

theorem joinFlow_st {s : State} {n : ℕ} {j : ℕ} {c : ℕ} {f : ℕ} {k : ℕ} (hs : Steady q0 z0 s) (c14 : q0 .buf = false := by assumption) :
    Steady q0 z0 (joinFlow s n j c f k).1 := by
  unfold joinFlow; try (dsimp only)
  with_reducible repeat' (first | assumption | intro _ | apply Steady.ite | apply withBuf_st | split)

theorem admitPkt_st {s : State} {id : ℕ} (hs : Steady q0 z0 s) (c14 : q0 .buf = false := by assumption) :
    Steady q0 z0 (admitPkt s id) := by
  unfold admitPkt; try (dsimp only)
  with_reducible repeat' (first | assumption | intro _ | apply Steady.ite | apply withBuf_st | split)

theorem admitLoop_st {s : State} {k : ℕ} {n : ℕ} {j : ℕ} {c : ℕ} (hs : Steady q0 z0 s) (c14 : q0 .buf = false := by assumption) :
    Steady q0 z0 (admitLoop k s n j c) := by
  fun_induction admitLoop k s n j c
  all_goals (try (dsimp only))
  all_goals with_reducible repeat' (first | assumption | apply_assumption | assumption | intro _ | apply Steady.ite | apply admitPkt_st | split)

theorem admitHeads_st {s : State} {n : ℕ} {j : ℕ} {c : ℕ} (hs : Steady q0 z0 s) (c14 : q0 .buf = false := by assumption) :
    Steady q0 z0 (admitHeads s n j c) := by
  unfold admitHeads; try (dsimp only)
  with_reducible repeat' (first | assumption | intro _ | apply Steady.ite | apply admitLoop_st | split)

theorem joinPkt_st {s : State} {x : Pkt} (hs : Steady q0 z0 s) (c14 : q0 .buf = false := by assumption) :
    Steady q0 z0 (joinPkt s x) := by
  unfold joinPkt; try (dsimp only)
  with_reducible repeat' (first | assumption | intro _ | apply Steady.ite | apply admitHeads_st | apply joinFlow_st | apply withBuf_st | split)

theorem noteAdmitted_st {s : State} {n : ℕ} {j : ℕ} {cells : ℕ} {l : Load} (hs : Steady q0 z0 s) (c0 : q0 .regs = false := by assumption) (c10 : q0 .snap = false := by assumption) :
    Steady q0 z0 (noteAdmitted s n j cells l) := by
  unfold noteAdmitted; try (dsimp only)
  with_reducible repeat' (first | assumption | intro _ | apply Steady.ite | apply perfHit_st | apply forAll_st | split)

theorem newPkt_st {s : State} {n : ℕ} {j : ℕ} {c : ℕ} {d : Dest} {typ : PktType} {cells : ℕ} {level : ℕ} {shared : Bool} {flow : ℕ} {l : Load} (hs : Steady q0 z0 s) (c0 : q0 .regs = false := by assumption) (c10 : q0 .snap = false := by assumption) (c14 : q0 .buf = false := by assumption) :
    Steady q0 z0 (newPkt s n j c d typ cells level shared flow l).1 := by
  unfold newPkt; try (dsimp only)
  with_reducible repeat' (first | assumption | intro _ | apply Steady.ite | apply noteAdmitted_st | apply withBuf_st | split)

theorem enqueueData_st {s : State} {n : ℕ} {j : ℕ} {c : ℕ} {d : Dest} {shared : Bool} {l : Load} (hs : Steady q0 z0 s) (c0 : q0 .regs = false := by assumption) (c10 : q0 .snap = false := by assumption) (c14 : q0 .buf = false := by assumption) :
    Steady q0 z0 (enqueueData s n j c d shared l) := by
  unfold enqueueData; try (dsimp only)
  with_reducible repeat' (first | assumption | intro _ | apply Steady.ite | apply newPkt_st | apply joinPkt_st | split)

theorem placeGreen_st {s : State} {x : Pkt} (hs : Steady q0 z0 s) (c0 : q0 .regs = false := by assumption) (c14 : q0 .buf = false := by assumption) (c20 : q0 .out = false := by assumption) :
    Steady q0 z0 (placeGreen s x).1 := by
  unfold placeGreen; try (dsimp only)
  with_reducible repeat' (first | assumption | intro _ | apply Steady.ite | apply freeCellsOf_st | apply takeShared_st | split)

theorem acceptPacket_st {s : State} {p : RxPacket} (hs : Steady q0 z0 s) (c0 : q0 .regs = false := by assumption) (c10 : q0 .snap = false := by assumption) (c14 : q0 .buf = false := by assumption) (c20 : q0 .out = false := by assumption) :
    Steady q0 z0 (acceptPacket s p) := by
  unfold acceptPacket; try (dsimp only)
  with_reducible repeat' (first | assumption | intro _ | apply Steady.ite | apply placeGreen_st | apply newPkt_st | apply joinPkt_st | apply settleHeld_st | apply setMeter_st | apply unback_st | apply advertise_st | apply takeMin_st | apply withBuf_st | split)

theorem execPacketReceived_ok {s : State} {p : RxPacket} (hs : Steady q0 z0 s) (c0 : q0 .regs = false := by first | assumption | rfl) (c7 : q0 .links = false := by first | assumption | rfl) (c8 : q0 .fns = false := by first | assumption | rfl) (c10 : q0 .snap = false := by first | assumption | rfl) (c13 : q0 .noc = false := by first | assumption | rfl) (c14 : q0 .buf = false := by first | assumption | rfl) (c19 : q0 .flight = false := by first | assumption | rfl) (c20 : q0 .out = false := by first | assumption | rfl) :
    OkOutcome q0 z0 (execPacketReceived p s) := by
  unfold execPacketReceived; try (dsimp only)
  with_reducible repeat' (first | intro _ | apply next_ok | apply ite_ok | assumption | intro _ | apply Steady.ite | apply acceptPacket_st | apply unback_st | apply advertise_st | refine recordFirst_bg ?_ (by constructor) | apply onFabric_st | apply emit_st | split)

theorem execFlowTagRefresh_ok {s : State} {region : Fin 16} {j : Fin 9} {c : Fin 4} (hs : Steady q0 z0 s) (c14 : q0 .buf = false := by first | assumption | rfl) :
    OkOutcome q0 z0 (execFlowTagRefresh region j c s) := by
  unfold execFlowTagRefresh; try (dsimp only)
  with_reducible repeat' (first | intro _ | apply next_ok | apply ite_ok | assumption | intro _ | apply Steady.ite | apply withBuf_st | apply onFabric_st | apply Steady.foldl | refine foldPair_st _ ?_ (fun _ _ _ => ?_) | split)

theorem addEgress_st {s : State} {k : ℕ} {n : ℕ} (hs : Steady q0 z0 s) (c14 : q0 .buf = false := by assumption) :
    Steady q0 z0 (addEgress s k n) := by
  unfold addEgress; try (dsimp only)
  with_reducible repeat' (first | assumption | intro _ | apply Steady.ite | apply withBuf_st | split)

theorem takeEgress_st {s : State} {k : ℕ} {n : ℕ} (hs : Steady q0 z0 s) (c14 : q0 .buf = false := by assumption) :
    Steady q0 z0 (takeEgress s k n) := by
  unfold takeEgress; try (dsimp only)
  with_reducible repeat' (first | assumption | intro _ | apply Steady.ite | apply withBuf_st | split)

theorem execFlowControlUpdate_ok {s : State} {port : Fin 128} {c : Fin 4} {typ : PktType} {credits : LinkCredits} (hs : Steady q0 z0 s) (c14 : q0 .buf = false := by first | assumption | rfl) :
    OkOutcome q0 z0 (execFlowControlUpdate port c typ credits s) := by
  unfold execFlowControlUpdate; try (dsimp only)
  with_reducible repeat' (first | intro _ | apply next_ok | apply ite_ok | assumption | intro _ | apply Steady.ite | apply addEgress_st | apply onFabric_st | split)

theorem flushPkt_st {s : State} {x : Pkt} (hs : Steady q0 z0 s) (c0 : q0 .regs = false := by assumption) (c1 : q0 .settings = false := by assumption) (c7 : q0 .links = false := by assumption) (c8 : q0 .fns = false := by assumption) (c10 : q0 .snap = false := by assumption) (c13 : q0 .noc = false := by assumption) (c14 : q0 .buf = false := by assumption) (c19 : q0 .flight = false := by assumption) (c20 : q0 .out = false := by assumption) :
    Steady q0 z0 (flushPkt s x) := by
  unfold flushPkt; try (dsimp only)
  with_reducible repeat' (first | assumption | intro _ | apply Steady.ite | apply settleHeld_st | apply freeCellsOf_st | apply withBuf_st | apply count_st | apply emit_st | split)

theorem flushPort_st {s : State} {p : ℕ} (hs : Steady q0 z0 s) (c0 : q0 .regs = false := by assumption) (c1 : q0 .settings = false := by assumption) (c7 : q0 .links = false := by assumption) (c8 : q0 .fns = false := by assumption) (c10 : q0 .snap = false := by assumption) (c13 : q0 .noc = false := by assumption) (c14 : q0 .buf = false := by assumption) (c19 : q0 .flight = false := by assumption) (c20 : q0 .out = false := by assumption) :
    Steady q0 z0 (flushPort s p) := by
  unfold flushPort; try (dsimp only)
  with_reducible repeat' (first | assumption | intro _ | apply Steady.ite | apply flushPkt_st | apply withBuf_st | apply forAll_st | split)

theorem dropCredits_st {s : State} {p : ℕ} (hs : Steady q0 z0 s) (c0 : q0 .regs = false := by assumption) (c14 : q0 .buf = false := by assumption) :
    Steady q0 z0 (dropCredits s p) := by
  unfold dropCredits; try (dsimp only)
  with_reducible repeat' (first | assumption | intro _ | apply Steady.ite | apply unback_st | apply forAll_st | split)

theorem execAuditSweepStart_ok {s : State} {region : Fin 16} (hs : Steady q0 z0 s) (c0 : q0 .regs = false := by first | assumption | rfl) (c1 : q0 .settings = false := by first | assumption | rfl) (c14 : q0 .buf = false := by first | assumption | rfl) :
    OkOutcome q0 z0 (execAuditSweepStart region s) := by
  unfold execAuditSweepStart; try (dsimp only)
  with_reducible repeat' (first | intro _ | apply next_ok | apply ite_ok | assumption | intro _ | apply Steady.ite | apply withBuf_st | apply onFabric_st | apply wrBit_st | split)

theorem auditFinding_st {s : State} {n : ℕ} {f : AuditFinding} (hs : Steady q0 z0 s) (c0 : q0 .regs = false := by assumption) (c1 : q0 .settings = false := by assumption) (c7 : q0 .links = false := by assumption) (c8 : q0 .fns = false := by assumption) (c10 : q0 .snap = false := by assumption) (c13 : q0 .noc = false := by assumption) (c14 : q0 .buf = false := by assumption) (c19 : q0 .flight = false := by assumption) (c20 : q0 .out = false := by assumption) :
    Steady q0 z0 (auditFinding s n f) := by
  unfold auditFinding; try (dsimp only)
  with_reducible repeat' (first | assumption | intro _ | apply Steady.ite | apply freeCellsOf_st | apply withBuf_st | apply count_st | apply raiseEv_st | apply wrBit_st | apply setReg_st | split)

theorem execAuditSweepEnd_ok {s : State} {region : Fin 16} {found : List AuditFinding} (hs : Steady q0 z0 s) (c0 : q0 .regs = false := by first | assumption | rfl) (c1 : q0 .settings = false := by first | assumption | rfl) (c7 : q0 .links = false := by first | assumption | rfl) (c8 : q0 .fns = false := by first | assumption | rfl) (c10 : q0 .snap = false := by first | assumption | rfl) (c13 : q0 .noc = false := by first | assumption | rfl) (c14 : q0 .buf = false := by first | assumption | rfl) (c19 : q0 .flight = false := by first | assumption | rfl) (c20 : q0 .out = false := by first | assumption | rfl) :
    OkOutcome q0 z0 (execAuditSweepEnd region found s) := by
  unfold execAuditSweepEnd; try (dsimp only)
  with_reducible repeat' (first | intro _ | apply next_ok | apply ite_ok | assumption | intro _ | apply Steady.ite | apply auditFinding_st | apply onFabric_st | apply wrBit_st | apply wr_st | apply Steady.foldl | refine foldPair_st _ ?_ (fun _ _ _ => ?_) | split)

end Sys2Proof.Laws
end

