-- ==== Sys2Proof/Laws/SteadySlot.lean ====
section
/-! SUPPORT. Every operation of Machine/Slot.lean is steady. -/

set_option Elab.async false
set_option linter.unusedTactic false
set_option linter.unreachableTactic false

namespace Sys2Proof.Laws

open Sys2Proof.Machine

variable {q0 : Part → Bool} {z0 : State}

theorem setSlotBit_st {s : State} {p : ℕ} {b : ℕ} {en : ℕ} (hs : Steady q0 z0 s) (c0 : q0 .regs = false := by assumption) (c1 : q0 .settings = false := by assumption) (c7 : q0 .links = false := by assumption) (c8 : q0 .fns = false := by assumption) (c10 : q0 .snap = false := by assumption) (c13 : q0 .noc = false := by assumption) (c19 : q0 .flight = false := by assumption) (c20 : q0 .out = false := by assumption) :
    Steady q0 z0 (setSlotBit s p b en) := by
  unfold setSlotBit; try (dsimp only)
  with_reducible repeat' (first | assumption | intro _ | apply Steady.ite | apply raiseEv_st | apply wrBit_st | split)

theorem slotTo_st {s : State} {i : ℕ} {st : ℕ} (hs : Steady q0 z0 s) (c0 : q0 .regs = false := by assumption) (c1 : q0 .settings = false := by assumption) (c7 : q0 .links = false := by assumption) (c8 : q0 .fns = false := by assumption) (c10 : q0 .snap = false := by assumption) (c13 : q0 .noc = false := by assumption) (c19 : q0 .flight = false := by assumption) (c20 : q0 .out = false := by assumption) :
    Steady q0 z0 (slotTo s i st) := by
  unfold slotTo; try (dsimp only)
  with_reducible repeat' (first | assumption | intro _ | apply Steady.ite | apply raiseEv_st | apply wr_st | split)

theorem slotPgOff_st {s : State} {i : ℕ} (hs : Steady q0 z0 s) (c0 : q0 .regs = false := by assumption) (c1 : q0 .settings = false := by assumption) :
    Steady q0 z0 (slotPgOff s i) := by
  unfold slotPgOff; try (dsimp only)
  with_reducible repeat' (first | assumption | intro _ | apply Steady.ite | apply wrBit_st | split)

theorem slotPresence_st {s : State} {i : ℕ} {b : Bool} (hs : Steady q0 z0 s) (c0 : q0 .regs = false := by assumption) (c1 : q0 .settings = false := by assumption) (c7 : q0 .links = false := by assumption) (c8 : q0 .fns = false := by assumption) (c9 : q0 .slots = false := by assumption) (c10 : q0 .snap = false := by assumption) (c13 : q0 .noc = false := by assumption) (c19 : q0 .flight = false := by assumption) (c20 : q0 .out = false := by assumption) :
    Steady q0 z0 (slotPresence s i b) := by
  unfold slotPresence; try (dsimp only)
  with_reducible repeat' (first | exact fun _ => rfl | exact skip | assumption | intro _ | apply Steady.ite | apply setSlotBit_st | split | apply Steady.upd)

theorem setRetryDue_st {s : State} {i : ℕ} {b : Bool} (hs : Steady q0 z0 s) (c9 : q0 .slots = false := by assumption) :
    Steady q0 z0 (setRetryDue s i b) := by
  unfold setRetryDue; try (dsimp only)
  with_reducible repeat' (first | exact fun _ => rfl | exact skip | assumption | intro _ | apply Steady.ite | split | apply Steady.upd)

theorem slotFault_st {s : State} {i : ℕ} {cause : ℕ} (hs : Steady q0 z0 s) (c0 : q0 .regs = false := by assumption) (c1 : q0 .settings = false := by assumption) (c7 : q0 .links = false := by assumption) (c8 : q0 .fns = false := by assumption) (c9 : q0 .slots = false := by assumption) (c10 : q0 .snap = false := by assumption) (c13 : q0 .noc = false := by assumption) (c19 : q0 .flight = false := by assumption) (c20 : q0 .out = false := by assumption) :
    Steady q0 z0 (slotFault s i cause) := by
  unfold slotFault; try (dsimp only)
  with_reducible repeat' (first | assumption | intro _ | apply Steady.ite | apply setRetryDue_st | apply slotPgOff_st | apply slotTo_st | apply setSlotBit_st | apply wr_st | split)

theorem slotStartRamp_st {s : State} {i : ℕ} (hs : Steady q0 z0 s) (c0 : q0 .regs = false := by assumption) (c1 : q0 .settings = false := by assumption) (c7 : q0 .links = false := by assumption) (c8 : q0 .fns = false := by assumption) (c10 : q0 .snap = false := by assumption) (c13 : q0 .noc = false := by assumption) (c19 : q0 .flight = false := by assumption) (c20 : q0 .out = false := by assumption) :
    Steady q0 z0 (slotStartRamp s i) := by
  unfold slotStartRamp; try (dsimp only)
  with_reducible repeat' (first | assumption | intro _ | apply Steady.ite | apply slotTo_st | apply wr_st | split)

theorem slotPowerUp_st {s : State} {i : ℕ} (hs : Steady q0 z0 s) (c0 : q0 .regs = false := by assumption) (c1 : q0 .settings = false := by assumption) (c7 : q0 .links = false := by assumption) (c8 : q0 .fns = false := by assumption) (c10 : q0 .snap = false := by assumption) (c13 : q0 .noc = false := by assumption) (c19 : q0 .flight = false := by assumption) (c20 : q0 .out = false := by assumption) :
    Steady q0 z0 (slotPowerUp s i) := by
  unfold slotPowerUp; try (dsimp only)
  with_reducible repeat' (first | assumption | intro _ | apply Steady.ite | apply slotStartRamp_st | split)

theorem slotStartBreak_st {s : State} {i : ℕ} {y : ℕ} (hs : Steady q0 z0 s) (c0 : q0 .regs = false := by assumption) (c1 : q0 .settings = false := by assumption) (c7 : q0 .links = false := by assumption) (c8 : q0 .fns = false := by assumption) (c9 : q0 .slots = false := by assumption) (c10 : q0 .snap = false := by assumption) (c13 : q0 .noc = false := by assumption) (c19 : q0 .flight = false := by assumption) (c20 : q0 .out = false := by assumption) :
    Steady q0 z0 (slotStartBreak s i y) := by
  unfold slotStartBreak; try (dsimp only)
  with_reducible repeat' (first | exact fun _ => rfl | exact skip | assumption | intro _ | apply Steady.ite | apply slotTo_st | split | apply Steady.upd)

theorem feedInUseLost_st {s : State} {i : ℕ} (hs : Steady q0 z0 s) (c0 : q0 .regs = false := by assumption) (c1 : q0 .settings = false := by assumption) (c7 : q0 .links = false := by assumption) (c8 : q0 .fns = false := by assumption) (c9 : q0 .slots = false := by assumption) (c10 : q0 .snap = false := by assumption) (c13 : q0 .noc = false := by assumption) (c19 : q0 .flight = false := by assumption) (c20 : q0 .out = false := by assumption) :
    Steady q0 z0 (feedInUseLost s i) := by
  unfold feedInUseLost; try (dsimp only)
  with_reducible repeat' (first | assumption | intro _ | apply Steady.ite | apply slotStartBreak_st | split)

theorem loseFeed_st {s : State} {i : ℕ} {x : ℕ} (hs : Steady q0 z0 s) (c0 : q0 .regs = false := by assumption) (c1 : q0 .settings = false := by assumption) (c7 : q0 .links = false := by assumption) (c8 : q0 .fns = false := by assumption) (c9 : q0 .slots = false := by assumption) (c10 : q0 .snap = false := by assumption) (c13 : q0 .noc = false := by assumption) (c19 : q0 .flight = false := by assumption) (c20 : q0 .out = false := by assumption) :
    Steady q0 z0 (loseFeed s i x) := by
  unfold loseFeed; try (dsimp only)
  with_reducible repeat' (first | assumption | intro _ | apply Steady.ite | apply feedInUseLost_st | apply wrBit_st | split)

theorem slotSettle_st {s : State} (hs : Steady q0 z0 s) (c0 : q0 .regs = false := by assumption) (c1 : q0 .settings = false := by assumption) (c7 : q0 .links = false := by assumption) (c8 : q0 .fns = false := by assumption) (c9 : q0 .slots = false := by assumption) (c10 : q0 .snap = false := by assumption) (c13 : q0 .noc = false := by assumption) (c19 : q0 .flight = false := by assumption) (c20 : q0 .out = false := by assumption) :
    Steady q0 z0 (slotSettle s) := by
  unfold slotSettle; try (dsimp only)
  with_reducible repeat' (first | assumption | intro _ | apply Steady.ite | apply loseFeed_st | apply slotPgOff_st | apply slotTo_st | apply forAll_st | split)

theorem addCommand_st {s : State} {p : ℕ} (hs : Steady q0 z0 s) (c9 : q0 .slots = false := by assumption) :
    Steady q0 z0 (addCommand s p) := by
  unfold addCommand; try (dsimp only)
  with_reducible repeat' (first | exact fun _ => rfl | exact skip | assumption | intro _ | apply Steady.ite | split | apply Steady.upd)

theorem execSlotPowerOn_ok {s : State} {port : Fin 128} (hs : Steady q0 z0 s) (c0 : q0 .regs = false := by first | assumption | rfl) (c1 : q0 .settings = false := by first | assumption | rfl) (c7 : q0 .links = false := by first | assumption | rfl) (c8 : q0 .fns = false := by first | assumption | rfl) (c9 : q0 .slots = false := by first | assumption | rfl) (c10 : q0 .snap = false := by first | assumption | rfl) (c13 : q0 .noc = false := by first | assumption | rfl) (c19 : q0 .flight = false := by first | assumption | rfl) (c20 : q0 .out = false := by first | assumption | rfl) :
    OkOutcome q0 z0 (execSlotPowerOn port s) := by
  unfold execSlotPowerOn; try (dsimp only)
  with_reducible repeat' (first | intro _ | apply next_ok | apply ite_ok | assumption | intro _ | apply Steady.ite | apply addCommand_st | apply slotPowerUp_st | apply onFabric_st | apply wrBit_st | split)

theorem slotPowerDown_st {s : State} {i : ℕ} (hs : Steady q0 z0 s) (c0 : q0 .regs = false := by assumption) (c1 : q0 .settings = false := by assumption) (c7 : q0 .links = false := by assumption) (c8 : q0 .fns = false := by assumption) (c10 : q0 .snap = false := by assumption) (c13 : q0 .noc = false := by assumption) (c19 : q0 .flight = false := by assumption) (c20 : q0 .out = false := by assumption) :
    Steady q0 z0 (slotPowerDown s i) := by
  unfold slotPowerDown; try (dsimp only)
  with_reducible repeat' (first | assumption | intro _ | apply Steady.ite | apply slotPgOff_st | apply slotTo_st | split)

theorem execSlotIndicator_ok {s : State} {port : Fin 128} {pic : BitVec 2} {aic : BitVec 2} (hs : Steady q0 z0 s) (c0 : q0 .regs = false := by first | assumption | rfl) (c1 : q0 .settings = false := by first | assumption | rfl) (c9 : q0 .slots = false := by first | assumption | rfl) :
    OkOutcome q0 z0 (execSlotIndicator port pic aic s) := by
  unfold execSlotIndicator; try (dsimp only)
  with_reducible repeat' (first | intro _ | apply next_ok | apply ite_ok | assumption | intro _ | apply Steady.ite | apply addCommand_st | apply onFabric_st | apply wr_st | split)

theorem execSlotCommandCompleted_ok {s : State} {port : Fin 128} (hs : Steady q0 z0 s) (c0 : q0 .regs = false := by first | assumption | rfl) (c1 : q0 .settings = false := by first | assumption | rfl) (c7 : q0 .links = false := by first | assumption | rfl) (c8 : q0 .fns = false := by first | assumption | rfl) (c9 : q0 .slots = false := by first | assumption | rfl) (c10 : q0 .snap = false := by first | assumption | rfl) (c13 : q0 .noc = false := by first | assumption | rfl) (c19 : q0 .flight = false := by first | assumption | rfl) (c20 : q0 .out = false := by first | assumption | rfl) :
    OkOutcome q0 z0 (execSlotCommandCompleted port s) := by
  unfold execSlotCommandCompleted; try (dsimp only)
  with_reducible repeat' (first | exact fun _ => rfl | exact skip | intro _ | apply next_ok | apply ite_ok | assumption | intro _ | apply Steady.ite | apply setSlotBit_st | apply onFabric_st | split | apply Steady.upd)

theorem execPresenceDebounced_ok {s : State} {chan : Fin 32} (hs : Steady q0 z0 s) (c0 : q0 .regs = false := by first | assumption | rfl) (c1 : q0 .settings = false := by first | assumption | rfl) (c7 : q0 .links = false := by first | assumption | rfl) (c8 : q0 .fns = false := by first | assumption | rfl) (c9 : q0 .slots = false := by first | assumption | rfl) (c10 : q0 .snap = false := by first | assumption | rfl) (c13 : q0 .noc = false := by first | assumption | rfl) (c19 : q0 .flight = false := by first | assumption | rfl) (c20 : q0 .out = false := by first | assumption | rfl) :
    OkOutcome q0 z0 (execPresenceDebounced chan s) := by
  unfold execPresenceDebounced; try (dsimp only)
  with_reducible repeat' (first | exact fun _ => rfl | exact skip | intro _ | apply next_ok | apply ite_ok | assumption | intro _ | apply Steady.ite | apply raiseEv_st | apply wrBit_st | split | apply Steady.upd)

theorem execBoardInserted_ok {s : State} {chan : Fin 32} (hs : Steady q0 z0 s) (c0 : q0 .regs = false := by first | assumption | rfl) (c1 : q0 .settings = false := by first | assumption | rfl) (c7 : q0 .links = false := by first | assumption | rfl) (c8 : q0 .fns = false := by first | assumption | rfl) (c9 : q0 .slots = false := by first | assumption | rfl) (c10 : q0 .snap = false := by first | assumption | rfl) (c13 : q0 .noc = false := by first | assumption | rfl) (c19 : q0 .flight = false := by first | assumption | rfl) (c20 : q0 .out = false := by first | assumption | rfl) :
    OkOutcome q0 z0 (execBoardInserted chan s) := by
  unfold execBoardInserted; try (dsimp only)
  with_reducible repeat' (first | exact fun _ => rfl | exact skip | intro _ | apply next_ok | apply ite_ok | assumption | intro _ | apply Steady.ite | apply slotPowerUp_st | apply slotPresence_st | apply wrBit_st | split | apply Steady.upd)

theorem execRampTimeout_ok {s : State} {chan : Fin 32} (hs : Steady q0 z0 s) (c0 : q0 .regs = false := by first | assumption | rfl) (c1 : q0 .settings = false := by first | assumption | rfl) (c7 : q0 .links = false := by first | assumption | rfl) (c8 : q0 .fns = false := by first | assumption | rfl) (c9 : q0 .slots = false := by first | assumption | rfl) (c10 : q0 .snap = false := by first | assumption | rfl) (c13 : q0 .noc = false := by first | assumption | rfl) (c19 : q0 .flight = false := by first | assumption | rfl) (c20 : q0 .out = false := by first | assumption | rfl) :
    OkOutcome q0 z0 (execRampTimeout chan s) := by
  unfold execRampTimeout; try (dsimp only)
  with_reducible repeat' (first | intro _ | apply next_ok | apply ite_ok | assumption | intro _ | apply Steady.ite | apply slotFault_st | apply count_st | split)

theorem execPowerGoodAssert_ok {s : State} {chan : Fin 32} (hs : Steady q0 z0 s) (c0 : q0 .regs = false := by first | assumption | rfl) (c1 : q0 .settings = false := by first | assumption | rfl) (c7 : q0 .links = false := by first | assumption | rfl) (c8 : q0 .fns = false := by first | assumption | rfl) (c10 : q0 .snap = false := by first | assumption | rfl) (c13 : q0 .noc = false := by first | assumption | rfl) (c19 : q0 .flight = false := by first | assumption | rfl) (c20 : q0 .out = false := by first | assumption | rfl) :
    OkOutcome q0 z0 (execPowerGoodAssert chan s) := by
  unfold execPowerGoodAssert; try (dsimp only)
  with_reducible repeat' (first | intro _ | apply next_ok | apply ite_ok | assumption | intro _ | apply Steady.ite | apply slotTo_st | apply wrBit_st | split)

theorem execPerstDlyExpiry_ok {s : State} {chan : Fin 32} (hs : Steady q0 z0 s) (c0 : q0 .regs = false := by first | assumption | rfl) (c1 : q0 .settings = false := by first | assumption | rfl) :
    OkOutcome q0 z0 (execPerstDlyExpiry chan s) := by
  unfold execPerstDlyExpiry; try (dsimp only)
  with_reducible repeat' (first | intro _ | apply next_ok | apply ite_ok | assumption | intro _ | apply Steady.ite | apply wrBit_st | split)

theorem retryRamp_st {s : State} {i : ℕ} (hs : Steady q0 z0 s) (c0 : q0 .regs = false := by assumption) (c1 : q0 .settings = false := by assumption) (c7 : q0 .links = false := by assumption) (c8 : q0 .fns = false := by assumption) (c10 : q0 .snap = false := by assumption) (c13 : q0 .noc = false := by assumption) (c19 : q0 .flight = false := by assumption) (c20 : q0 .out = false := by assumption) :
    Steady q0 z0 (retryRamp s i) := by
  unfold retryRamp; try (dsimp only)
  with_reducible repeat' (first | assumption | intro _ | apply Steady.ite | apply slotStartRamp_st | split)

theorem execFeedGood_ok {s : State} {chan : Fin 32} {f : Feed} (hs : Steady q0 z0 s) (c0 : q0 .regs = false := by first | assumption | rfl) (c1 : q0 .settings = false := by first | assumption | rfl) (c7 : q0 .links = false := by first | assumption | rfl) (c8 : q0 .fns = false := by first | assumption | rfl) (c9 : q0 .slots = false := by first | assumption | rfl) (c10 : q0 .snap = false := by first | assumption | rfl) (c13 : q0 .noc = false := by first | assumption | rfl) (c19 : q0 .flight = false := by first | assumption | rfl) (c20 : q0 .out = false := by first | assumption | rfl) :
    OkOutcome q0 z0 (execFeedGood chan f s) := by
  unfold execFeedGood; try (dsimp only)
  with_reducible repeat' (first | intro _ | apply next_ok | apply ite_ok | assumption | intro _ | apply Steady.ite | apply retryRamp_st | apply feedInUseLost_st | apply wrBit_st | split)

theorem execFeedLost_ok {s : State} {chan : Fin 32} {f : Feed} (hs : Steady q0 z0 s) (c0 : q0 .regs = false := by first | assumption | rfl) (c1 : q0 .settings = false := by first | assumption | rfl) (c7 : q0 .links = false := by first | assumption | rfl) (c8 : q0 .fns = false := by first | assumption | rfl) (c9 : q0 .slots = false := by first | assumption | rfl) (c10 : q0 .snap = false := by first | assumption | rfl) (c13 : q0 .noc = false := by first | assumption | rfl) (c19 : q0 .flight = false := by first | assumption | rfl) (c20 : q0 .out = false := by first | assumption | rfl) :
    OkOutcome q0 z0 (execFeedLost chan f s) := by
  unfold execFeedLost; try (dsimp only)
  with_reducible repeat' (first | intro _ | apply next_ok | apply ite_ok | assumption | intro _ | apply Steady.ite | apply loseFeed_st | split)

theorem execReverseCurrent_ok {s : State} {chan : Fin 32} (hs : Steady q0 z0 s) (c0 : q0 .regs = false := by first | assumption | rfl) (c1 : q0 .settings = false := by first | assumption | rfl) (c7 : q0 .links = false := by first | assumption | rfl) (c8 : q0 .fns = false := by first | assumption | rfl) (c9 : q0 .slots = false := by first | assumption | rfl) (c10 : q0 .snap = false := by first | assumption | rfl) (c13 : q0 .noc = false := by first | assumption | rfl) (c19 : q0 .flight = false := by first | assumption | rfl) (c20 : q0 .out = false := by first | assumption | rfl) :
    OkOutcome q0 z0 (execReverseCurrent chan s) := by
  unfold execReverseCurrent; try (dsimp only)
  with_reducible repeat' (first | intro _ | apply next_ok | apply ite_ok | assumption | intro _ | apply Steady.ite | apply feedInUseLost_st | split)

theorem execBreakElapsed_ok {s : State} {chan : Fin 32} (hs : Steady q0 z0 s) (c0 : q0 .regs = false := by first | assumption | rfl) (c1 : q0 .settings = false := by first | assumption | rfl) (c7 : q0 .links = false := by first | assumption | rfl) (c8 : q0 .fns = false := by first | assumption | rfl) (c10 : q0 .snap = false := by first | assumption | rfl) (c13 : q0 .noc = false := by first | assumption | rfl) (c19 : q0 .flight = false := by first | assumption | rfl) (c20 : q0 .out = false := by first | assumption | rfl) :
    OkOutcome q0 z0 (execBreakElapsed chan s) := by
  unfold execBreakElapsed; try (dsimp only)
  with_reducible repeat' (first | intro _ | apply next_ok | apply ite_ok | assumption | intro _ | apply Steady.ite | apply slotTo_st | apply count_st | apply wr_st | split)

theorem execFeedReturnExpiry_ok {s : State} {chan : Fin 32} (hs : Steady q0 z0 s) (c0 : q0 .regs = false := by first | assumption | rfl) (c1 : q0 .settings = false := by first | assumption | rfl) (c7 : q0 .links = false := by first | assumption | rfl) (c8 : q0 .fns = false := by first | assumption | rfl) (c9 : q0 .slots = false := by first | assumption | rfl) (c10 : q0 .snap = false := by first | assumption | rfl) (c13 : q0 .noc = false := by first | assumption | rfl) (c19 : q0 .flight = false := by first | assumption | rfl) (c20 : q0 .out = false := by first | assumption | rfl) :
    OkOutcome q0 z0 (execFeedReturnExpiry chan s) := by
  unfold execFeedReturnExpiry; try (dsimp only)
  with_reducible repeat' (first | intro _ | apply next_ok | apply ite_ok | assumption | intro _ | apply Steady.ite | apply slotStartBreak_st | split)

theorem execRetryElapsed_ok {s : State} {chan : Fin 32} (hs : Steady q0 z0 s) (c0 : q0 .regs = false := by first | assumption | rfl) (c1 : q0 .settings = false := by first | assumption | rfl) (c7 : q0 .links = false := by first | assumption | rfl) (c8 : q0 .fns = false := by first | assumption | rfl) (c9 : q0 .slots = false := by first | assumption | rfl) (c10 : q0 .snap = false := by first | assumption | rfl) (c13 : q0 .noc = false := by first | assumption | rfl) (c19 : q0 .flight = false := by first | assumption | rfl) (c20 : q0 .out = false := by first | assumption | rfl) :
    OkOutcome q0 z0 (execRetryElapsed chan s) := by
  unfold execRetryElapsed; try (dsimp only)
  with_reducible repeat' (first | intro _ | apply next_ok | apply ite_ok | assumption | intro _ | apply Steady.ite | apply retryRamp_st | apply setRetryDue_st | split)

theorem execSlotGroupPower_ok {s : State} {g : Fin 8} (hs : Steady q0 z0 s) (c0 : q0 .regs = false := by first | assumption | rfl) (c1 : q0 .settings = false := by first | assumption | rfl) (c7 : q0 .links = false := by first | assumption | rfl) (c8 : q0 .fns = false := by first | assumption | rfl) (c10 : q0 .snap = false := by first | assumption | rfl) (c13 : q0 .noc = false := by first | assumption | rfl) (c19 : q0 .flight = false := by first | assumption | rfl) (c20 : q0 .out = false := by first | assumption | rfl) :
    OkOutcome q0 z0 (execSlotGroupPower g s) := by
  unfold execSlotGroupPower; try (dsimp only)
  with_reducible repeat' (first | intro _ | apply next_ok | apply ite_ok | assumption | intro _ | apply Steady.ite | apply slotPowerUp_st | apply onFabric_st | apply forAll_st | apply wrBit_st | split)

theorem buttonRead_st {s : State} {i : ℕ} {pressed : Bool} (hs : Steady q0 z0 s) (c0 : q0 .regs = false := by assumption) (c1 : q0 .settings = false := by assumption) (c7 : q0 .links = false := by assumption) (c8 : q0 .fns = false := by assumption) (c9 : q0 .slots = false := by assumption) (c10 : q0 .snap = false := by assumption) (c13 : q0 .noc = false := by assumption) (c19 : q0 .flight = false := by assumption) (c20 : q0 .out = false := by assumption) :
    Steady q0 z0 (buttonRead s i pressed) := by
  unfold buttonRead; try (dsimp only)
  with_reducible repeat' (first | exact fun _ => rfl | exact skip | assumption | intro _ | apply Steady.ite | apply setSlotBit_st | split | apply Steady.upd)

theorem setChainFault_st {s : State} {b : Bool} (hs : Steady q0 z0 s) (c0 : q0 .regs = false := by assumption) (c1 : q0 .settings = false := by assumption) (c7 : q0 .links = false := by assumption) (c8 : q0 .fns = false := by assumption) (c10 : q0 .snap = false := by assumption) (c13 : q0 .noc = false := by assumption) (c19 : q0 .flight = false := by assumption) (c20 : q0 .out = false := by assumption) :
    Steady q0 z0 (setChainFault s b) := by
  unfold setChainFault; try (dsimp only)
  with_reducible repeat' (first | assumption | intro _ | apply Steady.ite | apply raiseEv_st | apply wrBit_st | split)

theorem execSidebandScan_ok {s : State} {buttons : BitVec 32} {check : BitVec 16} (hs : Steady q0 z0 s) (c0 : q0 .regs = false := by first | assumption | rfl) (c1 : q0 .settings = false := by first | assumption | rfl) (c7 : q0 .links = false := by first | assumption | rfl) (c8 : q0 .fns = false := by first | assumption | rfl) (c9 : q0 .slots = false := by first | assumption | rfl) (c10 : q0 .snap = false := by first | assumption | rfl) (c13 : q0 .noc = false := by first | assumption | rfl) (c19 : q0 .flight = false := by first | assumption | rfl) (c20 : q0 .out = false := by first | assumption | rfl) :
    OkOutcome q0 z0 (execSidebandScan buttons check s) := by
  unfold execSidebandScan; try (dsimp only)
  with_reducible repeat' (first | exact fun _ => rfl | exact skip | intro _ | apply next_ok | apply ite_ok | assumption | intro _ | apply Steady.ite | apply setChainFault_st | apply buttonRead_st | apply forAll_st | apply emit_st | split | apply Steady.upd)

end Sys2Proof.Laws
end

