-- ==== Sys2Proof/Laws/SteadyPool.lean ====
section
/-! SUPPORT. Every operation of Machine/Pool.lean is steady. -/

set_option Elab.async false
set_option linter.unusedTactic false
set_option linter.unreachableTactic false

namespace Sys2Proof.Laws

open Sys2Proof.Machine

variable {q0 : Part → Bool} {z0 : State}

theorem deviceBind_st {s : State} {p : ℕ} {g : ℕ} {st : ℕ} (hs : Steady q0 z0 s) (c3 : q0 .banks = false := by assumption) :
    Steady q0 z0 (deviceBind s p g st) := by
  unfold deviceBind; try (dsimp only)
  with_reducible repeat' (first | exact fun _ => rfl | exact skip | assumption | intro _ | apply Steady.ite | split | apply Steady.upd)

theorem setTagSet_st {s : State} {n : ℕ} {l : LAddr} {v : List (LAddr × LineData)} (hs : Steady q0 z0 s) (c11 : q0 .pool = false := by assumption) :
    Steady q0 z0 (setTagSet s n l v) := by
  unfold setTagSet; try (dsimp only)
  with_reducible repeat' (first | exact fun _ => rfl | exact skip | assumption | intro _ | apply Steady.ite | split | apply Steady.upd)

theorem tagTouch_st {s : State} {n : ℕ} {l : LAddr} (hs : Steady q0 z0 s) (c11 : q0 .pool = false := by assumption) :
    Steady q0 z0 (tagTouch s n l) := by
  unfold tagTouch; try (dsimp only)
  with_reducible repeat' (first | assumption | intro _ | apply Steady.ite | apply setTagSet_st | split)

theorem tagInstall_st {s : State} {n : ℕ} {l : LAddr} {d : LineData} (hs : Steady q0 z0 s) (c11 : q0 .pool = false := by assumption) :
    Steady q0 z0 (tagInstall s n l d) := by
  unfold tagInstall; try (dsimp only)
  with_reducible repeat' (first | assumption | intro _ | apply Steady.ite | apply setTagSet_st | split)

theorem tagStale_st {s : State} {p : TagWait → Bool} (hs : Steady q0 z0 s) (c11 : q0 .pool = false := by assumption) :
    Steady q0 z0 (tagStale s p) := by
  unfold tagStale; try (dsimp only)
  with_reducible repeat' (first | exact fun _ => rfl | exact skip | assumption | intro _ | apply Steady.ite | split | apply Steady.upd)

theorem tagDropLine_st {s : State} {n : ℕ} {l : LAddr} (hs : Steady q0 z0 s) (c11 : q0 .pool = false := by assumption) :
    Steady q0 z0 (tagDropLine s n l) := by
  unfold tagDropLine; try (dsimp only)
  with_reducible repeat' (first | assumption | intro _ | apply Steady.ite | apply tagStale_st | apply setTagSet_st | split)

theorem tagDropAll_st {s : State} {n : ℕ} (hs : Steady q0 z0 s) (c11 : q0 .pool = false := by assumption) :
    Steady q0 z0 (tagDropAll s n) := by
  unfold tagDropAll; try (dsimp only)
  with_reducible repeat' (first | exact fun _ => rfl | exact skip | assumption | intro _ | apply Steady.ite | apply tagStale_st | split | apply Steady.upd)

theorem execTagInvalidate_ok {s : State} {region : Fin 16} (hs : Steady q0 z0 s) (c0 : q0 .regs = false := by first | assumption | rfl) (c1 : q0 .settings = false := by first | assumption | rfl) (c11 : q0 .pool = false := by first | assumption | rfl) :
    OkOutcome q0 z0 (execTagInvalidate region s) := by
  unfold execTagInvalidate; try (dsimp only)
  with_reducible repeat' (first | intro _ | apply next_ok | apply ite_ok | assumption | intro _ | apply Steady.ite | apply tagDropAll_st | apply onFabric_st | apply wrBit_st | split)

theorem execTagInvalidateDone_ok {s : State} {region : Fin 16} (hs : Steady q0 z0 s) (c0 : q0 .regs = false := by first | assumption | rfl) (c1 : q0 .settings = false := by first | assumption | rfl) :
    OkOutcome q0 z0 (execTagInvalidateDone region s) := by
  unfold execTagInvalidateDone; try (dsimp only)
  with_reducible repeat' (first | intro _ | apply next_ok | apply ite_ok | assumption | intro _ | apply Steady.ite | apply onFabric_st | apply wrBit_st | split)

theorem onMailbox_st {s t : State} {p : ℕ} (hs : Steady q0 z0 s) (ht : Steady q0 z0 t) :
    Steady q0 z0 (onMailbox s p t) := by
  unfold onMailbox; try (dsimp only)
  with_reducible repeat' (first | assumption | intro _ | apply Steady.ite | split)

theorem execGetDynamicCapacityConfiguration_ok {s : State} {port : Fin 128} (hs : Steady q0 z0 s) (c20 : q0 .out = false := by first | assumption | rfl) :
    OkOutcome q0 z0 (execGetDynamicCapacityConfiguration port s) := by
  unfold execGetDynamicCapacityConfiguration; try (dsimp only)
  with_reducible repeat' (first | intro _ | apply next_ok | apply ite_ok | assumption | intro _ | apply Steady.ite | apply onMailbox_st | apply emit_st | split)

theorem execGetDynamicCapacityExtentList_ok {s : State} {port : Fin 128} {first : ℕ} {count : ℕ} (hs : Steady q0 z0 s) (c20 : q0 .out = false := by first | assumption | rfl) :
    OkOutcome q0 z0 (execGetDynamicCapacityExtentList port first count s) := by
  unfold execGetDynamicCapacityExtentList; try (dsimp only)
  with_reducible repeat' (first | intro _ | apply next_ok | apply ite_ok | assumption | intro _ | apply Steady.ite | apply onMailbox_st | apply emit_st | split)

theorem execGetEventRecords_ok {s : State} {port : Fin 128} (hs : Steady q0 z0 s) (c20 : q0 .out = false := by first | assumption | rfl) :
    OkOutcome q0 z0 (execGetEventRecords port s) := by
  unfold execGetEventRecords; try (dsimp only)
  with_reducible repeat' (first | intro _ | apply next_ok | apply ite_ok | assumption | intro _ | apply Steady.ite | apply onMailbox_st | apply emit_st | split)

theorem execClearEventRecords_ok {s : State} {port : Fin 128} {handles : Option (List ℕ)} (hs : Steady q0 z0 s) (c11 : q0 .pool = false := by first | assumption | rfl) (c20 : q0 .out = false := by first | assumption | rfl) :
    OkOutcome q0 z0 (execClearEventRecords port handles s) := by
  unfold execClearEventRecords; try (dsimp only)
  with_reducible repeat' (first | exact fun _ => rfl | exact skip | intro _ | apply next_ok | apply ite_ok | assumption | intro _ | apply Steady.ite | apply onMailbox_st | apply emit_st | split | apply Steady.upd)

theorem raiseDc_st {s : State} {p : ℕ} {k : DcKind} {g : ℕ} {n : ℕ} (hs : Steady q0 z0 s) (c11 : q0 .pool = false := by assumption) (c20 : q0 .out = false := by assumption) :
    Steady q0 z0 (raiseDc s p k g n) := by
  unfold raiseDc; try (dsimp only)
  with_reducible repeat' (first | exact fun _ => rfl | exact skip | assumption | intro _ | apply Steady.ite | apply emit_st | split | apply Steady.upd)

theorem raiseRuns_st {s : State} {p : ℕ} {k : DcKind} {l : List ℕ} (hs : Steady q0 z0 s) (c11 : q0 .pool = false := by assumption) (c20 : q0 .out = false := by assumption) :
    Steady q0 z0 (raiseRuns s p k l) := by
  unfold raiseRuns; try (dsimp only)
  with_reducible repeat' (first | assumption | intro _ | apply Steady.ite | apply raiseDc_st | apply forAll_st | split)

theorem addExtents_st {s : State} {p : ℕ} {l : List ℕ} (hs : Steady q0 z0 s) (c11 : q0 .pool = false := by assumption) :
    Steady q0 z0 (addExtents s p l) := by
  unfold addExtents; try (dsimp only)
  with_reducible repeat' (first | exact fun _ => rfl | exact skip | assumption | intro _ | apply Steady.ite | apply Steady.foldl | refine foldPair_st _ ?_ (fun _ _ _ => ?_) | split | apply Steady.upd)

theorem dropExtents_st {s : State} {p : ℕ} {l : List ℕ} (hs : Steady q0 z0 s) (c11 : q0 .pool = false := by assumption) :
    Steady q0 z0 (dropExtents s p l) := by
  unfold dropExtents; try (dsimp only)
  with_reducible repeat' (first | exact fun _ => rfl | exact skip | assumption | intro _ | apply Steady.ite | split | apply Steady.upd)

theorem mboxRefuse_st {s : State} {p : ℕ} {counted : Bool} (hs : Steady q0 z0 s) (c0 : q0 .regs = false := by assumption) (c7 : q0 .links = false := by assumption) (c8 : q0 .fns = false := by assumption) (c10 : q0 .snap = false := by assumption) (c13 : q0 .noc = false := by assumption) (c19 : q0 .flight = false := by assumption) (c20 : q0 .out = false := by assumption) :
    Steady q0 z0 (mboxRefuse s p counted) := by
  unfold mboxRefuse; try (dsimp only)
  with_reducible repeat' (first | assumption | intro _ | apply Steady.ite | refine count_bg ?_ (by constructor) | apply emit_st | split)

theorem execAddDynamicCapacityResponse_ok {s : State} {port : Fin 128} {extents : List Extent} (hs : Steady q0 z0 s) (c0 : q0 .regs = false := by first | assumption | rfl) (c3 : q0 .banks = false := by first | assumption | rfl) (c7 : q0 .links = false := by first | assumption | rfl) (c8 : q0 .fns = false := by first | assumption | rfl) (c10 : q0 .snap = false := by first | assumption | rfl) (c11 : q0 .pool = false := by first | assumption | rfl) (c13 : q0 .noc = false := by first | assumption | rfl) (c19 : q0 .flight = false := by first | assumption | rfl) (c20 : q0 .out = false := by first | assumption | rfl) :
    OkOutcome q0 z0 (execAddDynamicCapacityResponse port extents s) := by
  unfold execAddDynamicCapacityResponse; try (dsimp only)
  with_reducible repeat' (first | exact fun _ => rfl | exact skip | intro _ | apply next_ok | apply ite_ok | assumption | intro _ | apply Steady.ite | apply mboxRefuse_st | apply addExtents_st | apply onMailbox_st | apply deviceBind_st | apply pairSend_st | apply forAll_st | apply emit_st | split | apply Steady.upd)

theorem settleMbox_st {s : State} (hs : Steady q0 z0 s) (c3 : q0 .banks = false := by assumption) (c11 : q0 .pool = false := by assumption) (c20 : q0 .out = false := by assumption) :
    Steady q0 z0 (settleMbox s) := by
  unfold settleMbox; try (dsimp only)
  with_reducible repeat' (first | exact fun _ => rfl | exact skip | assumption | intro _ | apply Steady.ite | apply dropExtents_st | apply deviceBind_st | apply forAll_st | apply emit_st | split | apply Steady.upd)

theorem execBindAck_ok {s : State} {port : Fin 128} {_st : BindState} {seg : BitVec 16} (hs : Steady q0 z0 s) (c3 : q0 .banks = false := by first | assumption | rfl) (c11 : q0 .pool = false := by first | assumption | rfl) (c20 : q0 .out = false := by first | assumption | rfl) :
    OkOutcome q0 z0 (execBindAck port _st seg s) := by
  unfold execBindAck; try (dsimp only)
  with_reducible repeat' (first | exact fun _ => rfl | exact skip | intro _ | apply next_ok | apply ite_ok | assumption | intro _ | apply Steady.ite | apply settleMbox_st | apply onFabric_st | split | apply Steady.upd)

theorem dropBindAcks_st {s : State} (hs : Steady q0 z0 s) (c3 : q0 .banks = false := by assumption) (c11 : q0 .pool = false := by assumption) (c20 : q0 .out = false := by assumption) :
    Steady q0 z0 (dropBindAcks s) := by
  unfold dropBindAcks; try (dsimp only)
  with_reducible repeat' (first | exact fun _ => rfl | exact skip | assumption | intro _ | apply Steady.ite | apply settleMbox_st | split | apply Steady.upd)

theorem offerRuns_st {s : State} {p : ℕ} {l : List ℕ} (hs : Steady q0 z0 s) (c11 : q0 .pool = false := by assumption) (c20 : q0 .out = false := by assumption) :
    Steady q0 z0 (offerRuns s p l) := by
  unfold offerRuns; try (dsimp only)
  with_reducible repeat' (first | assumption | intro _ | apply Steady.ite | apply raiseRuns_st | split)

theorem execColourInitDone_ok {s : State} (hs : Steady q0 z0 s) (c11 : q0 .pool = false := by first | assumption | rfl) (c20 : q0 .out = false := by first | assumption | rfl) :
    OkOutcome q0 z0 (execColourInitDone s) := by
  unfold execColourInitDone; try (dsimp only)
  with_reducible repeat' (first | exact fun _ => rfl | exact skip | intro _ | apply next_ok | apply ite_ok | assumption | intro _ | apply Steady.ite | apply offerRuns_st | apply onFabric_st | apply forAll_st | split | apply Steady.upd)

end Sys2Proof.Laws
end

