-- ==== Sys2Proof/Laws/SteadyDevPort.lean ====
section
/-! SUPPORT. Every operation of Machine/DevPort.lean is steady. -/

set_option Elab.async false
set_option linter.unusedTactic false
set_option linter.unreachableTactic false

namespace Sys2Proof.Laws

open Sys2Proof.Machine

variable {q0 : Part → Bool} {z0 : State}

theorem withDp_st {s : State} {d : DevPorts} (hs : Steady q0 z0 s) (c16 : q0 .dp = false := by assumption) :
    Steady q0 z0 (withDp s d) := by
  unfold withDp; try (dsimp only)
  with_reducible repeat' (first | exact fun _ => rfl | exact skip | assumption | intro _ | apply Steady.ite | split | apply Steady.upd)

theorem setSlot_st {s : State} {n : ℕ} {i : ℕ} {v : MigSlot} (hs : Steady q0 z0 s) (c16 : q0 .dp = false := by assumption) :
    Steady q0 z0 (setSlot s n i v) := by
  unfold setSlot; try (dsimp only)
  with_reducible repeat' (first | assumption | intro _ | apply Steady.ite | apply withDp_st | split)

theorem deliverRead_st {s : State} {p : ℕ} {m : Hdr} {d : LineData} {shared : Bool} {cls : ℕ} (hs : Steady q0 z0 s) (c0 : q0 .regs = false := by assumption) (c7 : q0 .links = false := by assumption) (c8 : q0 .fns = false := by assumption) (c10 : q0 .snap = false := by assumption) (c13 : q0 .noc = false := by assumption) (c14 : q0 .buf = false := by assumption) (c19 : q0 .flight = false := by assumption) (c20 : q0 .out = false := by assumption) :
    Steady q0 z0 (deliverRead s p m d shared cls) := by
  unfold deliverRead; try (dsimp only)
  with_reducible repeat' (first | assumption | intro _ | apply Steady.ite | apply enqueueData_st | apply freeCellsOf_st | apply send_st | split)

theorem sendMemCmp_st {s : State} {m : Hdr} {status : BitVec 4} (hs : Steady q0 z0 s) (c0 : q0 .regs = false := by assumption) (c6 : q0 .pair = false := by assumption) (c7 : q0 .links = false := by assumption) (c8 : q0 .fns = false := by assumption) (c10 : q0 .snap = false := by assumption) (c13 : q0 .noc = false := by assumption) (c19 : q0 .flight = false := by assumption) (c20 : q0 .out = false := by assumption) :
    Steady q0 z0 (sendMemCmp s m status) := by
  unfold sendMemCmp; try (dsimp only)
  with_reducible repeat' (first | exact fun _ => rfl | exact skip | assumption | intro _ | apply Steady.ite | apply send_st | split | apply Steady.upd)

theorem sendAtomRes_st {s : State} {p : ℕ} {m : Hdr} {st : BitVec 4} {r : AtomicRes} (hs : Steady q0 z0 s) (c0 : q0 .regs = false := by assumption) (c7 : q0 .links = false := by assumption) (c8 : q0 .fns = false := by assumption) (c10 : q0 .snap = false := by assumption) (c13 : q0 .noc = false := by assumption) (c19 : q0 .flight = false := by assumption) (c20 : q0 .out = false := by assumption) :
    Steady q0 z0 (sendAtomRes s p m st r) := by
  unfold sendAtomRes; try (dsimp only)
  with_reducible repeat' (first | assumption | intro _ | apply Steady.ite | apply send_st | split)

theorem failRead_st {s : State} {p : ℕ} {r : RdFor} {shared : Bool} {cls : ℕ} {st : BitVec 4} (hs : Steady q0 z0 s) (c0 : q0 .regs = false := by assumption) (c6 : q0 .pair = false := by assumption) (c7 : q0 .links = false := by assumption) (c8 : q0 .fns = false := by assumption) (c10 : q0 .snap = false := by assumption) (c13 : q0 .noc = false := by assumption) (c14 : q0 .buf = false := by assumption) (c19 : q0 .flight = false := by assumption) (c20 : q0 .out = false := by assumption) :
    Steady q0 z0 (failRead s p r shared cls st) := by
  unfold failRead; try (dsimp only)
  with_reducible repeat' (first | assumption | intro _ | apply Steady.ite | apply sendAtomRes_st | apply sendMemCmp_st | apply deliverRead_st | apply sendFrom_st | split)

theorem failWrite_st {s : State} {p : ℕ} {w : WrFor} {st : BitVec 4} (hs : Steady q0 z0 s) (c0 : q0 .regs = false := by assumption) (c6 : q0 .pair = false := by assumption) (c7 : q0 .links = false := by assumption) (c8 : q0 .fns = false := by assumption) (c10 : q0 .snap = false := by assumption) (c13 : q0 .noc = false := by assumption) (c19 : q0 .flight = false := by assumption) (c20 : q0 .out = false := by assumption) :
    Steady q0 z0 (failWrite s p w st) := by
  unfold failWrite; try (dsimp only)
  with_reducible repeat' (first | assumption | intro _ | apply Steady.ite | apply sendAtomRes_st | apply sendMemCmp_st | split)

theorem addOut_st {s : State} {o : DpOut} (hs : Steady q0 z0 s) (c16 : q0 .dp = false := by assumption) :
    Steady q0 z0 (addOut s o) := by
  unfold addOut; try (dsimp only)
  with_reducible repeat' (first | assumption | intro _ | apply Steady.ite | apply withDp_st | split)

theorem issueWrite_st {s : State} {p : ℕ} {l : LAddr} {e : Option Bool} {w : WrFor} {d : LineData} {k : BitVec 64} {poison : Bool} (hs : Steady q0 z0 s) (c16 : q0 .dp = false := by assumption) (c20 : q0 .out = false := by assumption) :
    Steady q0 z0 (issueWrite s p l e w d k poison) := by
  unfold issueWrite; try (dsimp only)
  with_reducible repeat' (first | assumption | intro _ | apply Steady.ite | apply addOut_st | apply emit_st | split)

theorem issueRead_st {s : State} {p : ℕ} {l : LAddr} {e : Option Bool} {r : RdFor} {shared : Bool} {cls : ℕ} (hs : Steady q0 z0 s) (c16 : q0 .dp = false := by assumption) (c20 : q0 .out = false := by assumption) :
    Steady q0 z0 (issueRead s p l e r shared cls) := by
  unfold issueRead; try (dsimp only)
  with_reducible repeat' (first | assumption | intro _ | apply Steady.ite | apply addOut_st | apply emit_st | split)

theorem issueOp_st {s : State} {o : DpOp} {z1} (e : issueOp s o = some z1) (hs : Steady q0 z0 s) (c0 : q0 .regs = false := by assumption) (c6 : q0 .pair = false := by assumption) (c7 : q0 .links = false := by assumption) (c8 : q0 .fns = false := by assumption) (c10 : q0 .snap = false := by assumption) (c13 : q0 .noc = false := by assumption) (c14 : q0 .buf = false := by assumption) (c16 : q0 .dp = false := by assumption) (c19 : q0 .flight = false := by assumption) (c20 : q0 .out = false := by assumption) : Steady q0 z0 z1 := by
  unfold issueOp at e
  dsimp only at e
  split at e
  · obtain ⟨r, hr, rfl⟩ := Option.map_eq_some_iff.1 e
    have := reserveCell_st hr hs
    exact Steady.ite (issueRead_st this) (failRead_st this)
  · cases e
    exact Steady.ite (issueRead_st hs) (failRead_st hs)
  · split at e <;> cases e
    · exact Steady.ite (issueWrite_st hs) (raiseEv_st (failWrite_st hs))
    · exact hs

theorem leaveOp_st {s : State} {o : DpOp} {q : ℕ} {z1} (e : (leaveOp s o q) = some z1) (hs : Steady q0 z0 s) (c0 : q0 .regs = false := by assumption) (c10 : q0 .snap = false := by assumption) (c14 : q0 .buf = false := by assumption) :
    Steady q0 z0 z1 := by
  unfold leaveOp at e; try (dsimp only at e)
  repeat' (split at e)
  all_goals (first | obtain ⟨w, hw, rfl⟩ := Option.map_eq_some_iff.1 e | cases e | skip)
  all_goals with_reducible repeat' (first | assumption | intro _ | apply Steady.ite | apply enqueueData_st | refine reserveCell_st (by assumption) ?_ | refine someFst_st (by assumption) ?_ | split)

theorem advanceOp_st {s : State} {o : DpOp} {ahead : List DpOp} {z1} (e : (advanceOp s o ahead) = some z1) (hs : Steady q0 z0 s) (c0 : q0 .regs = false := by assumption) (c6 : q0 .pair = false := by assumption) (c7 : q0 .links = false := by assumption) (c8 : q0 .fns = false := by assumption) (c10 : q0 .snap = false := by assumption) (c13 : q0 .noc = false := by assumption) (c14 : q0 .buf = false := by assumption) (c16 : q0 .dp = false := by assumption) (c19 : q0 .flight = false := by assumption) (c20 : q0 .out = false := by assumption) :
    Steady q0 z0 z1 := by
  unfold advanceOp at e; try (dsimp only at e)
  repeat' (split at e)
  all_goals (first | obtain ⟨w, hw, rfl⟩ := Option.map_eq_some_iff.1 e | cases e | skip)
  all_goals with_reducible repeat' (first | assumption | intro _ | apply Steady.ite | refine leaveOp_st (by assumption) ?_ | refine issueOp_st (by assumption) ?_ | split)

theorem pumpOps_st {s : State} {p : ℕ} {l : List DpOp} {kept : List DpOp} (hs : Steady q0 z0 s) (c0 : q0 .regs = false := by assumption) (c6 : q0 .pair = false := by assumption) (c7 : q0 .links = false := by assumption) (c8 : q0 .fns = false := by assumption) (c10 : q0 .snap = false := by assumption) (c13 : q0 .noc = false := by assumption) (c14 : q0 .buf = false := by assumption) (c16 : q0 .dp = false := by assumption) (c19 : q0 .flight = false := by assumption) (c20 : q0 .out = false := by assumption) :
    Steady q0 z0 (pumpOps s p l kept) := by
  fun_induction pumpOps s p l kept
  all_goals (try (dsimp only))
  all_goals with_reducible repeat' (first | assumption | apply_assumption | assumption | intro _ | apply Steady.ite | refine advanceOp_st (by assumption) ?_ | apply withDp_st | refine advanceOp_st (of_ite_some (by assumption)) ?_ | split)

theorem pumpPort_st {s : State} {p : ℕ} (hs : Steady q0 z0 s) (c0 : q0 .regs = false := by assumption) (c6 : q0 .pair = false := by assumption) (c7 : q0 .links = false := by assumption) (c8 : q0 .fns = false := by assumption) (c10 : q0 .snap = false := by assumption) (c13 : q0 .noc = false := by assumption) (c14 : q0 .buf = false := by assumption) (c16 : q0 .dp = false := by assumption) (c19 : q0 .flight = false := by assumption) (c20 : q0 .out = false := by assumption) :
    Steady q0 z0 (pumpPort s p) := by
  unfold pumpPort; try (dsimp only)
  with_reducible repeat' (first | assumption | intro _ | apply Steady.ite | apply pumpOps_st | split)

theorem dpArrive_st {s : State} {o : DpOp} (hs : Steady q0 z0 s) (c0 : q0 .regs = false := by assumption) (c6 : q0 .pair = false := by assumption) (c7 : q0 .links = false := by assumption) (c8 : q0 .fns = false := by assumption) (c10 : q0 .snap = false := by assumption) (c13 : q0 .noc = false := by assumption) (c14 : q0 .buf = false := by assumption) (c16 : q0 .dp = false := by assumption) (c19 : q0 .flight = false := by assumption) (c20 : q0 .out = false := by assumption) :
    Steady q0 z0 (dpArrive s o) := by
  unfold dpArrive; try (dsimp only)
  with_reducible repeat' (first | assumption | intro _ | apply Steady.ite | apply pumpPort_st | apply withDp_st | split)

theorem dpRead_st {s : State} {p : ℕ} {l : LAddr} {who : Agent} {e : Option Bool} {r : RdFor} (hs : Steady q0 z0 s) (c0 : q0 .regs = false := by assumption) (c6 : q0 .pair = false := by assumption) (c7 : q0 .links = false := by assumption) (c8 : q0 .fns = false := by assumption) (c10 : q0 .snap = false := by assumption) (c13 : q0 .noc = false := by assumption) (c14 : q0 .buf = false := by assumption) (c16 : q0 .dp = false := by assumption) (c19 : q0 .flight = false := by assumption) (c20 : q0 .out = false := by assumption) :
    Steady q0 z0 (dpRead s p l who e r) := by
  unfold dpRead; try (dsimp only)
  with_reducible repeat' (first | assumption | intro _ | apply Steady.ite | apply dpArrive_st | split)

theorem dpWrite_st {s : State} {p : ℕ} {l : LAddr} {m : Hdr} {d : LineData} {k : BitVec 64} {poison : Bool} (hs : Steady q0 z0 s) (c0 : q0 .regs = false := by assumption) (c6 : q0 .pair = false := by assumption) (c7 : q0 .links = false := by assumption) (c8 : q0 .fns = false := by assumption) (c10 : q0 .snap = false := by assumption) (c13 : q0 .noc = false := by assumption) (c14 : q0 .buf = false := by assumption) (c16 : q0 .dp = false := by assumption) (c19 : q0 .flight = false := by assumption) (c20 : q0 .out = false := by assumption) :
    Steady q0 z0 (dpWrite s p l m d k poison) := by
  unfold dpWrite; try (dsimp only)
  with_reducible repeat' (first | assumption | intro _ | apply Steady.ite | apply dpArrive_st | split)

theorem execMemrd_ok {s : State} {m : Hdr} (hs : Steady q0 z0 s) (c0 : q0 .regs = false := by first | assumption | rfl) (c6 : q0 .pair = false := by first | assumption | rfl) (c7 : q0 .links = false := by first | assumption | rfl) (c8 : q0 .fns = false := by first | assumption | rfl) (c10 : q0 .snap = false := by first | assumption | rfl) (c13 : q0 .noc = false := by first | assumption | rfl) (c14 : q0 .buf = false := by first | assumption | rfl) (c16 : q0 .dp = false := by first | assumption | rfl) (c19 : q0 .flight = false := by first | assumption | rfl) (c20 : q0 .out = false := by first | assumption | rfl) :
    OkOutcome q0 z0 (execMemrd m s) := by
  unfold execMemrd; try (dsimp only)
  with_reducible repeat' (first | intro _ | apply next_ok | apply ite_ok | assumption | intro _ | apply Steady.ite | apply dpRead_st | apply receive_st | apply onFabric_st | split)

theorem execMemrdIssue_ok {s : State} {port : Fin 128} (hs : Steady q0 z0 s) (c0 : q0 .regs = false := by first | assumption | rfl) (c6 : q0 .pair = false := by first | assumption | rfl) (c7 : q0 .links = false := by first | assumption | rfl) (c8 : q0 .fns = false := by first | assumption | rfl) (c10 : q0 .snap = false := by first | assumption | rfl) (c13 : q0 .noc = false := by first | assumption | rfl) (c14 : q0 .buf = false := by first | assumption | rfl) (c16 : q0 .dp = false := by first | assumption | rfl) (c19 : q0 .flight = false := by first | assumption | rfl) (c20 : q0 .out = false := by first | assumption | rfl) :
    OkOutcome q0 z0 (execMemrdIssue port s) := by
  unfold execMemrdIssue; try (dsimp only)
  with_reducible repeat' (first | intro _ | apply next_ok | apply ite_ok | assumption | intro _ | apply Steady.ite | apply pumpPort_st | apply onFabric_st | split)

theorem execWbdata_ok {s : State} {m : Hdr} {data : LineData} {mask : BitVec 64} (hs : Steady q0 z0 s) (c0 : q0 .regs = false := by first | assumption | rfl) (c6 : q0 .pair = false := by first | assumption | rfl) (c7 : q0 .links = false := by first | assumption | rfl) (c8 : q0 .fns = false := by first | assumption | rfl) (c10 : q0 .snap = false := by first | assumption | rfl) (c13 : q0 .noc = false := by first | assumption | rfl) (c14 : q0 .buf = false := by first | assumption | rfl) (c16 : q0 .dp = false := by first | assumption | rfl) (c19 : q0 .flight = false := by first | assumption | rfl) (c20 : q0 .out = false := by first | assumption | rfl) :
    OkOutcome q0 z0 (execWbdata m data mask s) := by
  unfold execWbdata; try (dsimp only)
  with_reducible repeat' (first | intro _ | apply next_ok | apply ite_ok | assumption | intro _ | apply Steady.ite | apply dpWrite_st | apply receive_st | apply onFabric_st | split)

theorem unexpected_st {s : State} {p : ℕ} (hs : Steady q0 z0 s) (c0 : q0 .regs = false := by assumption) (c7 : q0 .links = false := by assumption) (c8 : q0 .fns = false := by assumption) (c10 : q0 .snap = false := by assumption) (c13 : q0 .noc = false := by assumption) (c19 : q0 .flight = false := by assumption) (c20 : q0 .out = false := by assumption) :
    Steady q0 z0 (unexpected s p) := by
  unfold unexpected; try (dsimp only)
  with_reducible repeat' (first | assumption | intro _ | apply Steady.ite | refine count_bg ?_ (by constructor) | split)

theorem discardResponse_st {s : State} {p : ℕ} {tag : BitVec 14} (hs : Steady q0 z0 s) (c0 : q0 .regs = false := by assumption) (c7 : q0 .links = false := by assumption) (c8 : q0 .fns = false := by assumption) (c10 : q0 .snap = false := by assumption) (c13 : q0 .noc = false := by assumption) (c16 : q0 .dp = false := by assumption) (c19 : q0 .flight = false := by assumption) (c20 : q0 .out = false := by assumption) :
    Steady q0 z0 (discardResponse s p tag) := by
  unfold discardResponse; try (dsimp only)
  with_reducible repeat' (first | assumption | intro _ | apply Steady.ite | apply unexpected_st | apply withDp_st | split)

theorem dropOut_st {s : State} {o : DpOut} (hs : Steady q0 z0 s) (c16 : q0 .dp = false := by assumption) :
    Steady q0 z0 (dropOut s o) := by
  unfold dropOut; try (dsimp only)
  with_reducible repeat' (first | assumption | intro _ | apply Steady.ite | apply withDp_st | split)

theorem afterRead_st {s : State} {o : DpOut} {r : RdFor} {d : LineData} {poison : Bool} (hs : Steady q0 z0 s) (c0 : q0 .regs = false := by assumption) (c7 : q0 .links = false := by assumption) (c8 : q0 .fns = false := by assumption) (c10 : q0 .snap = false := by assumption) (c13 : q0 .noc = false := by assumption) (c14 : q0 .buf = false := by assumption) (c16 : q0 .dp = false := by assumption) (c19 : q0 .flight = false := by assumption) (c20 : q0 .out = false := by assumption) :
    Steady q0 z0 (afterRead s o r d poison) := by
  unfold afterRead; try (dsimp only)
  with_reducible repeat' (first | assumption | intro _ | apply Steady.ite | apply issueWrite_st | apply sendAtomRes_st | apply deliverRead_st | apply sendFrom_st | split)

theorem execExpanderReadData_ok {s : State} {port : Fin 128} {tag : BitVec 14} {data : LineData} {poison : Bool} {linkGen : BitVec 8} (hs : Steady q0 z0 s) (c0 : q0 .regs = false := by first | assumption | rfl) (c6 : q0 .pair = false := by first | assumption | rfl) (c7 : q0 .links = false := by first | assumption | rfl) (c8 : q0 .fns = false := by first | assumption | rfl) (c10 : q0 .snap = false := by first | assumption | rfl) (c13 : q0 .noc = false := by first | assumption | rfl) (c14 : q0 .buf = false := by first | assumption | rfl) (c16 : q0 .dp = false := by first | assumption | rfl) (c19 : q0 .flight = false := by first | assumption | rfl) (c20 : q0 .out = false := by first | assumption | rfl) :
    OkOutcome q0 z0 (execExpanderReadData port tag data poison linkGen s) := by
  unfold execExpanderReadData; try (dsimp only)
  with_reducible repeat' (first | intro _ | apply next_ok | apply ite_ok | assumption | intro _ | apply Steady.ite | apply afterRead_st | apply dropOut_st | apply discardResponse_st | apply pumpPort_st | apply onFabric_st | split)

theorem execExpanderWriteCompletion_ok {s : State} {port : Fin 128} {tag : BitVec 14} {linkGen : BitVec 8} (hs : Steady q0 z0 s) (c0 : q0 .regs = false := by first | assumption | rfl) (c6 : q0 .pair = false := by first | assumption | rfl) (c7 : q0 .links = false := by first | assumption | rfl) (c8 : q0 .fns = false := by first | assumption | rfl) (c10 : q0 .snap = false := by first | assumption | rfl) (c13 : q0 .noc = false := by first | assumption | rfl) (c14 : q0 .buf = false := by first | assumption | rfl) (c16 : q0 .dp = false := by first | assumption | rfl) (c19 : q0 .flight = false := by first | assumption | rfl) (c20 : q0 .out = false := by first | assumption | rfl) :
    OkOutcome q0 z0 (execExpanderWriteCompletion port tag linkGen s) := by
  unfold execExpanderWriteCompletion; try (dsimp only)
  with_reducible repeat' (first | intro _ | apply next_ok | apply ite_ok | assumption | intro _ | apply Steady.ite | apply dropOut_st | apply discardResponse_st | apply pumpPort_st | apply sendAtomRes_st | apply sendMemCmp_st | apply onFabric_st | split)

theorem execMemrdTimeout_ok {s : State} {port : Fin 128} {tag : BitVec 14} (hs : Steady q0 z0 s) (c0 : q0 .regs = false := by first | assumption | rfl) (c6 : q0 .pair = false := by first | assumption | rfl) (c7 : q0 .links = false := by first | assumption | rfl) (c8 : q0 .fns = false := by first | assumption | rfl) (c10 : q0 .snap = false := by first | assumption | rfl) (c13 : q0 .noc = false := by first | assumption | rfl) (c14 : q0 .buf = false := by first | assumption | rfl) (c16 : q0 .dp = false := by first | assumption | rfl) (c19 : q0 .flight = false := by first | assumption | rfl) (c20 : q0 .out = false := by first | assumption | rfl) :
    OkOutcome q0 z0 (execMemrdTimeout port tag s) := by
  unfold execMemrdTimeout; try (dsimp only)
  with_reducible repeat' (first | intro _ | apply next_ok | apply ite_ok | assumption | intro _ | apply Steady.ite | apply dropOut_st | apply pumpPort_st | apply failRead_st | apply withDp_st | apply onFabric_st | split)

theorem devPortLost_st {s : State} {p : ℕ} (hs : Steady q0 z0 s) (c0 : q0 .regs = false := by assumption) (c6 : q0 .pair = false := by assumption) (c7 : q0 .links = false := by assumption) (c8 : q0 .fns = false := by assumption) (c10 : q0 .snap = false := by assumption) (c13 : q0 .noc = false := by assumption) (c14 : q0 .buf = false := by assumption) (c16 : q0 .dp = false := by assumption) (c19 : q0 .flight = false := by assumption) (c20 : q0 .out = false := by assumption) :
    Steady q0 z0 (devPortLost s p) := by
  unfold devPortLost; try (dsimp only)
  with_reducible repeat' (first | assumption | intro _ | apply Steady.ite | apply pumpPort_st | apply failWrite_st | apply failRead_st | apply withDp_st | apply raiseEv_st | apply forAll_st | split)

end Sys2Proof.Laws
end

