-- ==== Sys2Proof/Laws/SteadyHome.lean ====
section
/-! SUPPORT. Every operation of Machine/Home.lean is steady. -/

set_option Elab.async false
set_option linter.unusedTactic false
set_option linter.unreachableTactic false

namespace Sys2Proof.Laws

open Sys2Proof.Machine

variable {q0 : Part → Bool} {z0 : State}

theorem withDir_st {s : State} {d : Dir} (hs : Steady q0 z0 s) (c15 : q0 .dir = false := by assumption) :
    Steady q0 z0 (withDir s d) := by
  unfold withDir; try (dsimp only)
  with_reducible repeat' (first | exact fun _ => rfl | exact skip | assumption | intro _ | apply Steady.ite | split | apply Steady.upd)

theorem setEnt_st {s : State} {x : ℕ} {set : ℕ} {w : ℕ} {e : Entry} (hs : Steady q0 z0 s) (c15 : q0 .dir = false := by assumption) :
    Steady q0 z0 (setEnt s x set w e) := by
  unfold setEnt; try (dsimp only)
  with_reducible repeat' (first | assumption | intro _ | apply Steady.ite | apply withDir_st | split)

theorem plruTouch_st {s : State} {x : ℕ} {set : ℕ} {w : ℕ} (hs : Steady q0 z0 s) (c15 : q0 .dir = false := by assumption) :
    Steady q0 z0 (plruTouch s x set w) := by
  unfold plruTouch; try (dsimp only)
  with_reducible repeat' (first | assumption | intro _ | apply Steady.ite | apply withDir_st | apply Steady.foldl | refine foldPair_st _ ?_ (fun _ _ _ => ?_) | split)

theorem setTrk_st {s : State} {x : ℕ} {t : ℕ} {k : Tracker} (hs : Steady q0 z0 s) (c15 : q0 .dir = false := by assumption) :
    Steady q0 z0 (setTrk s x t k) := by
  unfold setTrk; try (dsimp only)
  with_reducible repeat' (first | assumption | intro _ | apply Steady.ite | apply withDir_st | split)

theorem delTrk_st {s : State} {x : ℕ} {t : ℕ} (hs : Steady q0 z0 s) (c15 : q0 .dir = false := by assumption) :
    Steady q0 z0 (delTrk s x t) := by
  unfold delTrk; try (dsimp only)
  with_reducible repeat' (first | assumption | intro _ | apply Steady.ite | apply withDir_st | split)

theorem setJrn_st {s : State} {x : ℕ} {j : Jrn} (hs : Steady q0 z0 s) (c15 : q0 .dir = false := by assumption) :
    Steady q0 z0 (setJrn s x j) := by
  unfold setJrn; try (dsimp only)
  with_reducible repeat' (first | assumption | intro _ | apply Steady.ite | apply withDir_st | split)

theorem sendBatch_st {s : State} {x : ℕ} (hs : Steady q0 z0 s) (c0 : q0 .regs = false := by assumption) (c7 : q0 .links = false := by assumption) (c8 : q0 .fns = false := by assumption) (c10 : q0 .snap = false := by assumption) (c13 : q0 .noc = false := by assumption) (c15 : q0 .dir = false := by assumption) (c19 : q0 .flight = false := by assumption) (c20 : q0 .out = false := by assumption) :
    Steady q0 z0 (sendBatch s x) := by
  unfold sendBatch; try (dsimp only)
  with_reducible repeat' (first | assumption | intro _ | apply Steady.ite | apply setJrn_st | apply sendTwin_st | split)

theorem journal_st {s : State} {x : ℕ} {r : JrnRec} (hs : Steady q0 z0 s) (c0 : q0 .regs = false := by assumption) (c7 : q0 .links = false := by assumption) (c8 : q0 .fns = false := by assumption) (c10 : q0 .snap = false := by assumption) (c13 : q0 .noc = false := by assumption) (c15 : q0 .dir = false := by assumption) (c19 : q0 .flight = false := by assumption) (c20 : q0 .out = false := by assumption) :
    Steady q0 z0 (journal s x r).1 := by
  unfold journal; try (dsimp only)
  with_reducible repeat' (first | assumption | intro _ | apply Steady.ite | apply sendBatch_st | apply setJrn_st | split)

theorem journalChange_st {s : State} {x : ℕ} {l : LAddr} {a : Entry} {b : Entry} (hs : Steady q0 z0 s) (c0 : q0 .regs = false := by assumption) (c7 : q0 .links = false := by assumption) (c8 : q0 .fns = false := by assumption) (c10 : q0 .snap = false := by assumption) (c13 : q0 .noc = false := by assumption) (c15 : q0 .dir = false := by assumption) (c19 : q0 .flight = false := by assumption) (c20 : q0 .out = false := by assumption) :
    Steady q0 z0 (journalChange s x l a b).1 := by
  unfold journalChange; try (dsimp only)
  with_reducible repeat' (first | assumption | intro _ | apply Steady.ite | apply journal_st | split)

theorem sendMemRd_st {s : State} {x : ℕ} {t : ℕ} {l : LAddr} {r : Req} (hs : Steady q0 z0 s) (c0 : q0 .regs = false := by assumption) (c7 : q0 .links = false := by assumption) (c8 : q0 .fns = false := by assumption) (c10 : q0 .snap = false := by assumption) (c13 : q0 .noc = false := by assumption) (c19 : q0 .flight = false := by assumption) (c20 : q0 .out = false := by assumption) :
    Steady q0 z0 (sendMemRd s x t l r) := by
  unfold sendMemRd; try (dsimp only)
  with_reducible repeat' (first | assumption | intro _ | apply Steady.ite | apply send_st | split)

theorem sendDataGo_st {s : State} {x : ℕ} {t : ℕ} {l : LAddr} {a : Agent} {rtag : BitVec 10} {e : Option Bool} (hs : Steady q0 z0 s) (c0 : q0 .regs = false := by assumption) (c7 : q0 .links = false := by assumption) (c8 : q0 .fns = false := by assumption) (c10 : q0 .snap = false := by assumption) (c13 : q0 .noc = false := by assumption) (c19 : q0 .flight = false := by assumption) (c20 : q0 .out = false := by assumption) :
    Steady q0 z0 (sendDataGo s x t l a rtag e) := by
  unfold sendDataGo; try (dsimp only)
  with_reducible repeat' (first | assumption | intro _ | apply Steady.ite | apply send_st | split)

theorem sendErr_st {s : State} {x : ℕ} {t : ℕ} {r : Req} {st : BitVec 4} (hs : Steady q0 z0 s) (c0 : q0 .regs = false := by assumption) (c7 : q0 .links = false := by assumption) (c8 : q0 .fns = false := by assumption) (c10 : q0 .snap = false := by assumption) (c13 : q0 .noc = false := by assumption) (c19 : q0 .flight = false := by assumption) (c20 : q0 .out = false := by assumption) :
    Steady q0 z0 (sendErr s x t r st) := by
  unfold sendErr; try (dsimp only)
  with_reducible repeat' (first | assumption | intro _ | apply Steady.ite | apply send_st | split)

theorem poisonWrite_st {s : State} {x : ℕ} {t : ℕ} {k : Tracker} (hs : Steady q0 z0 s) (c0 : q0 .regs = false := by assumption) (c7 : q0 .links = false := by assumption) (c8 : q0 .fns = false := by assumption) (c10 : q0 .snap = false := by assumption) (c13 : q0 .noc = false := by assumption) (c19 : q0 .flight = false := by assumption) (c20 : q0 .out = false := by assumption) :
    Steady q0 z0 (poisonWrite s x t k).1 := by
  unfold poisonWrite; try (dsimp only)
  with_reducible repeat' (first | assumption | intro _ | apply Steady.ite | refine count_bg ?_ (by constructor) | apply send_st | split)

theorem noticeLoss_st {s : State} {e : ℕ} {a : Agent} (hs : Steady q0 z0 s) (c0 : q0 .regs = false := by assumption) (c7 : q0 .links = false := by assumption) (c8 : q0 .fns = false := by assumption) (c10 : q0 .snap = false := by assumption) (c13 : q0 .noc = false := by assumption) (c19 : q0 .flight = false := by assumption) (c20 : q0 .out = false := by assumption) :
    Steady q0 z0 (noticeLoss s e a) := by
  unfold noticeLoss; try (dsimp only)
  with_reducible repeat' (first | assumption | intro _ | apply Steady.ite | apply sendTwin_st | apply sendFrom_st | apply forAll_st | split)

theorem orderOut_st {s : State} {a : Agent} (hs : Steady q0 z0 s) (c0 : q0 .regs = false := by assumption) (c7 : q0 .links = false := by assumption) (c8 : q0 .fns = false := by assumption) (c10 : q0 .snap = false := by assumption) (c13 : q0 .noc = false := by assumption) (c19 : q0 .flight = false := by assumption) (c20 : q0 .out = false := by assumption) :
    Steady q0 z0 (orderOut s a) := by
  unfold orderOut; try (dsimp only)
  with_reducible repeat' (first | assumption | intro _ | apply Steady.ite | apply send_st | split)

theorem declareLost_st {s : State} {e : ℕ} {a : Agent} (hs : Steady q0 z0 s) (c0 : q0 .regs = false := by assumption) (c7 : q0 .links = false := by assumption) (c8 : q0 .fns = false := by assumption) (c10 : q0 .snap = false := by assumption) (c13 : q0 .noc = false := by assumption) (c19 : q0 .flight = false := by assumption) (c20 : q0 .out = false := by assumption) :
    Steady q0 z0 (declareLost s e a) := by
  unfold declareLost; try (dsimp only)
  with_reducible repeat' (first | assumption | intro _ | apply Steady.ite | apply orderOut_st | apply noticeLoss_st | split)

theorem predUpdate_st {s : State} {x : ℕ} {r : Req} {f : Found} (hs : Steady q0 z0 s) (c15 : q0 .dir = false := by assumption) :
    Steady q0 z0 (predUpdate s x r f) := by
  unfold predUpdate; try (dsimp only)
  with_reducible repeat' (first | assumption | intro _ | apply Steady.ite | apply withDir_st | split)

theorem closeTrk_st {s : State} {x : ℕ} {t : ℕ} {k : Tracker} (hs : Steady q0 z0 s) (c0 : q0 .regs = false := by assumption) (c7 : q0 .links = false := by assumption) (c8 : q0 .fns = false := by assumption) (c10 : q0 .snap = false := by assumption) (c13 : q0 .noc = false := by assumption) (c15 : q0 .dir = false := by assumption) (c19 : q0 .flight = false := by assumption) (c20 : q0 .out = false := by assumption) :
    Steady q0 z0 (closeTrk s x t k) := by
  unfold closeTrk; try (dsimp only)
  with_reducible repeat' (first | assumption | intro _ | apply Steady.ite | apply poisonWrite_st | apply journalChange_st | apply setTrk_st | apply setEnt_st | split)

theorem afterJournal_st {s : State} {x : ℕ} {t : ℕ} {k : Tracker} (hs : Steady q0 z0 s) (c0 : q0 .regs = false := by assumption) (c7 : q0 .links = false := by assumption) (c8 : q0 .fns = false := by assumption) (c10 : q0 .snap = false := by assumption) (c13 : q0 .noc = false := by assumption) (c15 : q0 .dir = false := by assumption) (c19 : q0 .flight = false := by assumption) (c20 : q0 .out = false := by assumption) :
    Steady q0 z0 (afterJournal s x t k) := by
  unfold afterJournal; try (dsimp only)
  with_reducible repeat' (first | assumption | intro _ | apply Steady.ite | apply closeTrk_st | apply setTrk_st | apply send_st | split)

theorem toJournal_st {s : State} {x : ℕ} {t : ℕ} {k : Tracker} (hs : Steady q0 z0 s) (c0 : q0 .regs = false := by assumption) (c7 : q0 .links = false := by assumption) (c8 : q0 .fns = false := by assumption) (c10 : q0 .snap = false := by assumption) (c13 : q0 .noc = false := by assumption) (c15 : q0 .dir = false := by assumption) (c19 : q0 .flight = false := by assumption) (c20 : q0 .out = false := by assumption) :
    Steady q0 z0 (toJournal s x t k) := by
  unfold toJournal; try (dsimp only)
  with_reducible repeat' (first | assumption | intro _ | apply Steady.ite | apply afterJournal_st | apply journalChange_st | apply setTrk_st | apply setEnt_st | split)

theorem afterSnoop_st {s : State} {x : ℕ} {t : ℕ} {k : Tracker} (hs : Steady q0 z0 s) (c0 : q0 .regs = false := by assumption) (c7 : q0 .links = false := by assumption) (c8 : q0 .fns = false := by assumption) (c10 : q0 .snap = false := by assumption) (c13 : q0 .noc = false := by assumption) (c15 : q0 .dir = false := by assumption) (c19 : q0 .flight = false := by assumption) (c20 : q0 .out = false := by assumption) :
    Steady q0 z0 (afterSnoop s x t k) := by
  unfold afterSnoop; try (dsimp only)
  with_reducible repeat' (first | assumption | intro _ | apply Steady.ite | apply toJournal_st | apply poisonWrite_st | apply sendDataGo_st | apply sendMemRd_st | apply setTrk_st | apply send_st | split)

theorem advance_st {s : State} {x : ℕ} {t : ℕ} (hs : Steady q0 z0 s) (c0 : q0 .regs = false := by assumption) (c7 : q0 .links = false := by assumption) (c8 : q0 .fns = false := by assumption) (c10 : q0 .snap = false := by assumption) (c13 : q0 .noc = false := by assumption) (c15 : q0 .dir = false := by assumption) (c19 : q0 .flight = false := by assumption) (c20 : q0 .out = false := by assumption) :
    Steady q0 z0 (advance s x t) := by
  unfold advance; try (dsimp only)
  with_reducible repeat' (first | assumption | intro _ | apply Steady.ite | apply afterSnoop_st | apply toJournal_st | apply afterJournal_st | split)

theorem lostAnswer_st {s : State} {x : ℕ} {t : ℕ} {a : Agent} (hs : Steady q0 z0 s) (c0 : q0 .regs = false := by assumption) (c7 : q0 .links = false := by assumption) (c8 : q0 .fns = false := by assumption) (c10 : q0 .snap = false := by assumption) (c13 : q0 .noc = false := by assumption) (c15 : q0 .dir = false := by assumption) (c19 : q0 .flight = false := by assumption) (c20 : q0 .out = false := by assumption) :
    Steady q0 z0 (lostAnswer s x t a) := by
  unfold lostAnswer; try (dsimp only)
  with_reducible repeat' (first | assumption | intro _ | apply Steady.ite | apply poisonWrite_st | apply setTrk_st | refine fst_st (by assumption) ?_ | split)

theorem runTrk_st {s : State} {x : ℕ} {t : ℕ} {k : Tracker} (hs : Steady q0 z0 s) (c0 : q0 .regs = false := by assumption) (c7 : q0 .links = false := by assumption) (c8 : q0 .fns = false := by assumption) (c10 : q0 .snap = false := by assumption) (c13 : q0 .noc = false := by assumption) (c15 : q0 .dir = false := by assumption) (c19 : q0 .flight = false := by assumption) (c20 : q0 .out = false := by assumption) :
    Steady q0 z0 (runTrk s x t k) := by
  unfold runTrk; try (dsimp only)
  with_reducible repeat' (first | assumption | intro _ | apply Steady.ite | apply lostAnswer_st | apply advance_st | apply setTrk_st | apply setEnt_st | apply sendTwin_st | apply send_st | apply forAll_st | split)

theorem runPlan_st {s : State} {x : ℕ} {t : ℕ} {r : Req} {p : Plan} {w : Option ℕ} {e : Entry} (hs : Steady q0 z0 s) (c0 : q0 .regs = false := by assumption) (c7 : q0 .links = false := by assumption) (c8 : q0 .fns = false := by assumption) (c10 : q0 .snap = false := by assumption) (c13 : q0 .noc = false := by assumption) (c15 : q0 .dir = false := by assumption) (c19 : q0 .flight = false := by assumption) (c20 : q0 .out = false := by assumption) :
    Steady q0 z0 (runPlan s x t r p w e) := by
  unfold runPlan; try (dsimp only)
  with_reducible repeat' (first | assumption | intro _ | apply Steady.ite | apply runTrk_st | apply plruTouch_st | split)

theorem park_st {s : State} {x : ℕ} {t : ℕ} {k : Tracker} (hs : Steady q0 z0 s) (c0 : q0 .regs = false := by assumption) (c7 : q0 .links = false := by assumption) (c8 : q0 .fns = false := by assumption) (c10 : q0 .snap = false := by assumption) (c13 : q0 .noc = false := by assumption) (c15 : q0 .dir = false := by assumption) (c19 : q0 .flight = false := by assumption) (c20 : q0 .out = false := by assumption) :
    Steady q0 z0 (park s x t k) := by
  unfold park; try (dsimp only)
  with_reducible repeat' (first | assumption | intro _ | apply Steady.ite | apply setTrk_st | apply withDir_st | refine count_bg ?_ (by constructor) | split)

theorem startEvict_st {s : State} {x : ℕ} {t : ℕ} {set : ℕ} {w : ℕ} {f : Option ℕ} {forRec : Bool} (hs : Steady q0 z0 s) (c0 : q0 .regs = false := by assumption) (c7 : q0 .links = false := by assumption) (c8 : q0 .fns = false := by assumption) (c10 : q0 .snap = false := by assumption) (c13 : q0 .noc = false := by assumption) (c15 : q0 .dir = false := by assumption) (c19 : q0 .flight = false := by assumption) (c20 : q0 .out = false := by assumption) :
    Steady q0 z0 (startEvict s x t set w f forRec) := by
  unfold startEvict; try (dsimp only)
  with_reducible repeat' (first | assumption | intro _ | apply Steady.ite | apply runTrk_st | split)

theorem findRoom_st {s : State} {x : ℕ} {t : ℕ} {r : Req} {p : Plan} {e : Entry} {strict : Bool} {z1} (e : (findRoom s x t r p e strict) = some z1) (hs : Steady q0 z0 s) (c0 : q0 .regs = false := by assumption) (c7 : q0 .links = false := by assumption) (c8 : q0 .fns = false := by assumption) (c10 : q0 .snap = false := by assumption) (c13 : q0 .noc = false := by assumption) (c15 : q0 .dir = false := by assumption) (c19 : q0 .flight = false := by assumption) (c20 : q0 .out = false := by assumption) :
    Steady q0 z0 z1 := by
  unfold findRoom at e; try (dsimp only at e)
  repeat' (split at e)
  all_goals (first | obtain ⟨w, hw, rfl⟩ := Option.map_eq_some_iff.1 e | cases e | skip)
  all_goals with_reducible repeat' (first | assumption | intro _ | apply Steady.ite | apply startEvict_st | apply park_st | apply runPlan_st | apply setTrk_st | apply withDir_st | split)

theorem startReq_st {s : State} {x : ℕ} {t : ℕ} {r : Req} {first : Bool} {z1} (e : (startReq s x t r first) = some z1) (hs : Steady q0 z0 s) (c0 : q0 .regs = false := by assumption) (c7 : q0 .links = false := by assumption) (c8 : q0 .fns = false := by assumption) (c10 : q0 .snap = false := by assumption) (c13 : q0 .noc = false := by assumption) (c15 : q0 .dir = false := by assumption) (c19 : q0 .flight = false := by assumption) (c20 : q0 .out = false := by assumption) :
    Steady q0 z0 z1 := by
  unfold startReq at e; try (dsimp only at e)
  repeat' (split at e)
  all_goals (first | obtain ⟨w, hw, rfl⟩ := Option.map_eq_some_iff.1 e | cases e | skip)
  all_goals with_reducible repeat' (first | assumption | intro _ | apply Steady.ite | refine findRoom_st (by assumption) ?_ | apply runPlan_st | apply predUpdate_st | apply perfHit_st | split)

theorem takeWrite_st {s : State} {x : ℕ} {t : ℕ} {k : Tracker} {r : Req} (hs : Steady q0 z0 s) (c0 : q0 .regs = false := by assumption) (c7 : q0 .links = false := by assumption) (c8 : q0 .fns = false := by assumption) (c10 : q0 .snap = false := by assumption) (c13 : q0 .noc = false := by assumption) (c15 : q0 .dir = false := by assumption) (c19 : q0 .flight = false := by assumption) (c20 : q0 .out = false := by assumption) :
    Steady q0 z0 (takeWrite s x t k r) := by
  unfold takeWrite; try (dsimp only)
  with_reducible repeat' (first | assumption | intro _ | apply Steady.ite | apply sendDataGo_st | apply setTrk_st | split)

theorem joinWaits_st {s : State} {x : ℕ} {r : Req} {f : Found} {z1} (e : (joinWaits s x r f) = some z1) (hs : Steady q0 z0 s) (c15 : q0 .dir = false := by assumption) :
    Steady q0 z0 z1 := by
  unfold joinWaits at e; try (dsimp only at e)
  repeat' (split at e)
  all_goals (first | obtain ⟨w, hw, rfl⟩ := Option.map_eq_some_iff.1 e | cases e | skip)
  all_goals with_reducible repeat' (first | assumption | intro _ | apply Steady.ite | apply predUpdate_st | apply withDir_st | split)

theorem startRecover_st {s : State} {x : ℕ} {t : ℕ} {l : LAddr} (hs : Steady q0 z0 s) (c0 : q0 .regs = false := by assumption) (c6 : q0 .pair = false := by assumption) (c7 : q0 .links = false := by assumption) (c8 : q0 .fns = false := by assumption) (c10 : q0 .snap = false := by assumption) (c13 : q0 .noc = false := by assumption) (c15 : q0 .dir = false := by assumption) (c19 : q0 .flight = false := by assumption) (c20 : q0 .out = false := by assumption) :
    Steady q0 z0 (startRecover s x t l) := by
  unfold startRecover; try (dsimp only)
  with_reducible repeat' (first | exact fun _ => rfl | exact skip | assumption | intro _ | apply Steady.ite | apply runTrk_st | split | apply Steady.upd)

theorem acceptReq_st {s : State} {x : Nat} {r : Req} {z1} (e : acceptReq s x r = some z1) (hs : Steady q0 z0 s) (c0 : q0 .regs = false := by assumption) (c6 : q0 .pair = false := by assumption) (c7 : q0 .links = false := by assumption) (c8 : q0 .fns = false := by assumption) (c10 : q0 .snap = false := by assumption) (c13 : q0 .noc = false := by assumption) (c15 : q0 .dir = false := by assumption) (c19 : q0 .flight = false := by assumption) (c20 : q0 .out = false := by assumption) :
    Steady q0 z0 z1 := by
  unfold acceptReq at e
  dsimp only at e
  split at e
  · cases e; exact sendErr_st hs
  split at e
  · cases e
  split at e
  · cases e; exact takeWrite_st hs
  split at e
  · cases e
  split at e
  · exact joinWaits_st e hs
  split at e
  · exact joinWaits_st e hs
  split at e
  · cases e
  split at e
  · split at e
    · obtain ⟨u, hu, rfl⟩ := Option.map_eq_some_iff.1 e
      exact startRecover_st (joinWaits_st hu hs)
    · cases e
  · exact startReq_st e hs

theorem takeArrived_st {s : State} {x : Nat} {l ahead : List InReq} {z1}
    (e : takeArrived s x l ahead = some z1) (hs : Steady q0 z0 s) (c0 : q0 .regs = false := by assumption) (c6 : q0 .pair = false := by assumption) (c7 : q0 .links = false := by assumption) (c8 : q0 .fns = false := by assumption) (c10 : q0 .snap = false := by assumption) (c13 : q0 .noc = false := by assumption) (c15 : q0 .dir = false := by assumption) (c19 : q0 .flight = false := by assumption) (c20 : q0 .out = false := by assumption) : Steady q0 z0 z1 := by
  induction l generalizing ahead with
  | nil => cases e
  | cons i t ih =>
    rw [takeArrived] at e
    split at e
    · exact ih e
    · split at e
      · cases e
        exact withDir_st (acceptReq_st (by assumption) hs)
      · exact ih e

theorem takeHead_st {s : State} {x : ℕ} {q : ℕ} {z1} (e : (takeHead s x q) = some z1) (hs : Steady q0 z0 s) (c0 : q0 .regs = false := by assumption) (c6 : q0 .pair = false := by assumption) (c7 : q0 .links = false := by assumption) (c8 : q0 .fns = false := by assumption) (c10 : q0 .snap = false := by assumption) (c13 : q0 .noc = false := by assumption) (c15 : q0 .dir = false := by assumption) (c19 : q0 .flight = false := by assumption) (c20 : q0 .out = false := by assumption) :
    Steady q0 z0 z1 := by
  unfold takeHead at e; try (dsimp only at e)
  repeat' (split at e)
  all_goals (first | obtain ⟨w, hw, rfl⟩ := Option.map_eq_some_iff.1 e | cases e | skip)
  all_goals with_reducible repeat' (first | assumption | intro _ | apply Steady.ite | refine acceptReq_st (by assumption) ?_ | apply withDir_st | split)

theorem inputCycle_st {s : State} {x : Nat} {z1} (e : inputCycle s x = some z1) (hs : Steady q0 z0 s) (c0 : q0 .regs = false := by assumption) (c6 : q0 .pair = false := by assumption) (c7 : q0 .links = false := by assumption) (c8 : q0 .fns = false := by assumption) (c10 : q0 .snap = false := by assumption) (c13 : q0 .noc = false := by assumption) (c15 : q0 .dir = false := by assumption) (c19 : q0 .flight = false := by assumption) (c20 : q0 .out = false := by assumption) : Steady q0 z0 z1 := by
  have key : ∀ (l : List Nat) (a : State × Bool), Steady q0 z0 a.1 → Steady q0 z0 (l.foldl
      (fun (acc : State × Bool) q =>
        match takeHead acc.1 x q with
        | some u => (u, true)
        | none => acc) a).1 := by
    intro l
    induction l with
    | nil => exact fun _ h => h
    | cons q t ih =>
      intro a ha
      rw [List.foldl_cons]
      refine ih _ ?_
      split
      · exact takeHead_st (by assumption) ha
      · exact ha
  unfold inputCycle at e
  extract_lets r at e
  have hr : Steady q0 z0 r.1 := key _ _ hs
  clear_value r
  split at e
  · cases e; exact withDir_st hr
  · cases e

theorem takeInput_st {s : State} {x : Nat} {z1} (e : takeInput s x = some z1) (hs : Steady q0 z0 s) (c0 : q0 .regs = false := by assumption) (c6 : q0 .pair = false := by assumption) (c7 : q0 .links = false := by assumption) (c8 : q0 .fns = false := by assumption) (c10 : q0 .snap = false := by assumption) (c13 : q0 .noc = false := by assumption) (c15 : q0 .dir = false := by assumption) (c19 : q0 .flight = false := by assumption) (c20 : q0 .out = false := by assumption) : Steady q0 z0 z1 := by
  unfold takeInput at e
  split at e
  · cases e; exact takeArrived_st (by assumption) hs
  · exact inputCycle_st e hs

theorem releaseWay_st {s : State} {x : ℕ} {set : ℕ} {w : Option ℕ} (hs : Steady q0 z0 s) (c15 : q0 .dir = false := by assumption) :
    Steady q0 z0 (releaseWay s x set w) := by
  unfold releaseWay; try (dsimp only)
  with_reducible repeat' (first | assumption | intro _ | apply Steady.ite | apply setEnt_st | split)

theorem giveVictim_st {s : State} {x : ℕ} {t : ℕ} {f : ℕ} {k : Tracker} (hs : Steady q0 z0 s) (c0 : q0 .regs = false := by assumption) (c7 : q0 .links = false := by assumption) (c8 : q0 .fns = false := by assumption) (c10 : q0 .snap = false := by assumption) (c13 : q0 .noc = false := by assumption) (c15 : q0 .dir = false := by assumption) (c19 : q0 .flight = false := by assumption) (c20 : q0 .out = false := by assumption) :
    Steady q0 z0 (giveVictim s x t f k) := by
  unfold giveVictim; try (dsimp only)
  with_reducible repeat' (first | assumption | intro _ | apply Steady.ite | apply releaseWay_st | apply runPlan_st | apply withDir_st | split)

theorem applyRec_st {s : State} {x : ℕ} {r : JrnRec} {z1} (e : (applyRec s x r) = some z1) (hs : Steady q0 z0 s) (c15 : q0 .dir = false := by assumption) :
    Steady q0 z0 z1 := by
  unfold applyRec at e; try (dsimp only at e)
  repeat' (split at e)
  all_goals (first | obtain ⟨w, hw, rfl⟩ := Option.map_eq_some_iff.1 e | cases e | skip)
  all_goals with_reducible repeat' (first | assumption | intro _ | apply Steady.ite | apply plruTouch_st | apply setEnt_st | apply withDir_st | split)

theorem applyNext_st {s : State} {x : ℕ} {z1} (e : (applyNext s x) = some z1) (hs : Steady q0 z0 s) (c0 : q0 .regs = false := by assumption) (c7 : q0 .links = false := by assumption) (c8 : q0 .fns = false := by assumption) (c10 : q0 .snap = false := by assumption) (c13 : q0 .noc = false := by assumption) (c15 : q0 .dir = false := by assumption) (c19 : q0 .flight = false := by assumption) (c20 : q0 .out = false := by assumption) :
    Steady q0 z0 z1 := by
  unfold applyNext at e; try (dsimp only at e)
  repeat' (split at e)
  all_goals (first | obtain ⟨w, hw, rfl⟩ := Option.map_eq_some_iff.1 e | cases e | skip)
  all_goals with_reducible repeat' (first | assumption | intro _ | apply Steady.ite | refine applyRec_st (by assumption) ?_ | apply setJrn_st | apply sendTwin_st | split)

theorem evictForRecord_st {s : State} {x : ℕ} {z1} (e : (evictForRecord s x) = some z1) (hs : Steady q0 z0 s) (c0 : q0 .regs = false := by assumption) (c7 : q0 .links = false := by assumption) (c8 : q0 .fns = false := by assumption) (c10 : q0 .snap = false := by assumption) (c13 : q0 .noc = false := by assumption) (c15 : q0 .dir = false := by assumption) (c19 : q0 .flight = false := by assumption) (c20 : q0 .out = false := by assumption) :
    Steady q0 z0 z1 := by
  unfold evictForRecord at e; try (dsimp only at e)
  repeat' (split at e)
  all_goals (first | obtain ⟨w, hw, rfl⟩ := Option.map_eq_some_iff.1 e | cases e | skip)
  all_goals with_reducible repeat' (first | assumption | intro _ | apply Steady.ite | apply startEvict_st | split)

theorem passOn_st {s : State} {x : ℕ} {t : ℕ} {k : Tracker} (hs : Steady q0 z0 s) (c0 : q0 .regs = false := by assumption) (c7 : q0 .links = false := by assumption) (c8 : q0 .fns = false := by assumption) (c10 : q0 .snap = false := by assumption) (c13 : q0 .noc = false := by assumption) (c15 : q0 .dir = false := by assumption) (c19 : q0 .flight = false := by assumption) (c20 : q0 .out = false := by assumption) :
    Steady q0 z0 (passOn s x t k) := by
  unfold passOn; try (dsimp only)
  with_reducible repeat' (first | assumption | intro _ | apply Steady.ite | refine applyNext_st (by assumption) ?_ | apply giveVictim_st | apply releaseWay_st | refine startReq_st (by assumption) ?_ | apply startEvict_st | apply delTrk_st | apply setTrk_st | apply withDir_st | refine getD_st (fun _ _ => ?_) ?_ | split)

theorem giveWay_st {s : State} {x : ℕ} {t : ℕ} {z1} (e : (giveWay s x t) = some z1) (hs : Steady q0 z0 s) (c0 : q0 .regs = false := by assumption) (c7 : q0 .links = false := by assumption) (c8 : q0 .fns = false := by assumption) (c10 : q0 .snap = false := by assumption) (c13 : q0 .noc = false := by assumption) (c15 : q0 .dir = false := by assumption) (c19 : q0 .flight = false := by assumption) (c20 : q0 .out = false := by assumption) :
    Steady q0 z0 z1 := by
  unfold giveWay at e; try (dsimp only at e)
  repeat' (split at e)
  all_goals (first | obtain ⟨w, hw, rfl⟩ := Option.map_eq_some_iff.1 e | cases e | skip)
  all_goals with_reducible repeat' (first | assumption | intro _ | apply Steady.ite | apply runPlan_st | apply withDir_st | split)

theorem reclaimSet_st {s : State} {x : ℕ} {t : ℕ} {z1} (e : (reclaimSet s x t) = some z1) (hs : Steady q0 z0 s) (c0 : q0 .regs = false := by assumption) (c7 : q0 .links = false := by assumption) (c8 : q0 .fns = false := by assumption) (c10 : q0 .snap = false := by assumption) (c13 : q0 .noc = false := by assumption) (c15 : q0 .dir = false := by assumption) (c19 : q0 .flight = false := by assumption) (c20 : q0 .out = false := by assumption) :
    Steady q0 z0 z1 := by
  unfold reclaimSet at e; try (dsimp only at e)
  repeat' (split at e)
  all_goals (first | obtain ⟨w, hw, rfl⟩ := Option.map_eq_some_iff.1 e | cases e | skip)
  all_goals with_reducible repeat' (first | assumption | intro _ | apply Steady.ite | apply withDir_st | apply sendTwin_st | split)

theorem startWork_st {s : State} {x : ℕ} {w : Work} {z1} (e : (startWork s x w) = some z1) (hs : Steady q0 z0 s) (c0 : q0 .regs = false := by assumption) (c6 : q0 .pair = false := by assumption) (c7 : q0 .links = false := by assumption) (c8 : q0 .fns = false := by assumption) (c10 : q0 .snap = false := by assumption) (c13 : q0 .noc = false := by assumption) (c15 : q0 .dir = false := by assumption) (c19 : q0 .flight = false := by assumption) (c20 : q0 .out = false := by assumption) :
    Steady q0 z0 z1 := by
  unfold startWork at e; try (dsimp only at e)
  repeat' (split at e)
  all_goals (first | obtain ⟨w, hw, rfl⟩ := Option.map_eq_some_iff.1 e | cases e | skip)
  all_goals with_reducible repeat' (first | assumption | intro _ | apply Steady.ite | apply startRecover_st | apply startEvict_st | apply runTrk_st | apply poisonWrite_st | apply setTrk_st | apply setEnt_st | apply withDir_st | refine fst_st (by assumption) ?_ | split)

theorem pick_st {s : State} {x : Nat} {z1} (e : pick s x = some z1) (hs : Steady q0 z0 s) (c0 : q0 .regs = false := by assumption) (c6 : q0 .pair = false := by assumption) (c7 : q0 .links = false := by assumption) (c8 : q0 .fns = false := by assumption) (c10 : q0 .snap = false := by assumption) (c13 : q0 .noc = false := by assumption) (c15 : q0 .dir = false := by assumption) (c19 : q0 .flight = false := by assumption) (c20 : q0 .out = false := by assumption) : Steady q0 z0 z1 := by
  unfold pick at e
  extract_lets parkedHere wanting needing src ready at e
  have hw : ∀ u, wanting.bind (fun q => (getTrk s x q.2).map (fun k => park s x q.2 k)) = some u → Steady q0 z0 u := by
    intro u hu
    obtain ⟨q, _, hq⟩ := Option.bind_eq_some_iff.1 hu
    obtain ⟨k, _, rfl⟩ := Option.map_eq_some_iff.1 hq
    exact park_st hs
  have hn : ∀ u, needing = some u → Steady q0 z0 u := by
    intro u hu
    refine findSome_st hu (fun q v h => ?_)
    dsimp only at h
    split at h
    · split at h
      · split at h
        · exact findRoom_st h (delTrk_st hs)
        · cases h
      · cases h
    · cases h
  have hr : ∀ u, ready = some u → Steady q0 z0 u := by
    intro u hu
    refine findSome_st hu (fun q v h => ?_)
    split at h
    · split at h
      · exact startReq_st h (withDir_st hs)
      · cases h
    · cases h
  clear_value parkedHere wanting needing ready src
  split at e
  · cases e; exact passOn_st hs
  cases h1 : (applyNext s x).orElse (fun _ => evictForRecord s x) with
  | some u =>
    rw [h1] at e; cases e
    cases h0 : applyNext s x with
    | some v => rw [h0] at h1; cases h1; exact applyNext_st h0 hs
    | none => rw [h0] at h1; exact evictForRecord_st h1 hs
  | none =>
    rw [h1] at e; dsimp only at e
    cases h2 : parkedHere.findSome? (fun q => giveWay s x q.2) with
    | some u => rw [h2] at e; cases e; exact findSome_st h2 (fun q u h => giveWay_st h hs)
    | none =>
      rw [h2] at e; dsimp only at e
      cases h3 : parkedHere.findSome? (fun q => reclaimSet s x q.2) with
      | some u => rw [h3] at e; cases e; exact findSome_st h3 (fun q u h => reclaimSet_st h hs)
      | none =>
        rw [h3] at e; dsimp only at e
        cases h4 : wanting.bind (fun q => (getTrk s x q.2).map (fun k => park s x q.2 k)) with
        | some u => rw [h4] at e; cases e; exact hw _ h4
        | none =>
          rw [h4] at e; dsimp only at e
          cases needing with
          | some u => cases e; exact hn _ rfl
          | none =>
            dsimp only at e
            cases h5 : (s.dir.work.filter (fun w => w.slice == x)).findSome? (fun w => startWork s x w) with
            | some u => rw [h5] at e; cases e; exact findSome_st h5 (fun q u h => startWork_st h hs)
            | none =>
              rw [h5] at e; dsimp only at e
              split at e
              · cases e
              · cases ready with
                | some u => cases e; exact hr _ rfl
                | none => exact takeInput_st e hs

theorem settleN_st {s : State} {n : ℕ} {x : ℕ} (hs : Steady q0 z0 s) (c0 : q0 .regs = false := by assumption) (c6 : q0 .pair = false := by assumption) (c7 : q0 .links = false := by assumption) (c8 : q0 .fns = false := by assumption) (c10 : q0 .snap = false := by assumption) (c13 : q0 .noc = false := by assumption) (c15 : q0 .dir = false := by assumption) (c19 : q0 .flight = false := by assumption) (c20 : q0 .out = false := by assumption) :
    Steady q0 z0 (settleN n s x) := by
  fun_induction settleN n s x
  all_goals (try (dsimp only))
  all_goals with_reducible repeat' (first | assumption | apply_assumption | assumption | intro _ | apply Steady.ite | refine pick_st (by assumption) ?_ | split)

theorem forwardReq_st {s : State} {e : ℕ} {first : Bool} {r : Req} (hs : Steady q0 z0 s) (c0 : q0 .regs = false := by assumption) (c6 : q0 .pair = false := by assumption) (c7 : q0 .links = false := by assumption) (c8 : q0 .fns = false := by assumption) (c10 : q0 .snap = false := by assumption) (c13 : q0 .noc = false := by assumption) (c19 : q0 .flight = false := by assumption) (c20 : q0 .out = false := by assumption) :
    Steady q0 z0 (forwardReq s e first r) := by
  unfold forwardReq; try (dsimp only)
  with_reducible repeat' (first | exact fun _ => rfl | exact skip | assumption | intro _ | apply Steady.ite | apply inject_st | split | apply Steady.upd)

theorem dropFwd_st {s : State} {src : Agent} {rtag : BitVec 10} (hs : Steady q0 z0 s) (c6 : q0 .pair = false := by assumption) :
    Steady q0 z0 (dropFwd s src rtag) := by
  unfold dropFwd; try (dsimp only)
  with_reducible repeat' (first | exact fun _ => rfl | exact skip | assumption | intro _ | apply Steady.ite | split | apply Steady.upd)

theorem redirect_st {s : State} {r : Req} (hs : Steady q0 z0 s) (c0 : q0 .regs = false := by assumption) (c6 : q0 .pair = false := by assumption) (c7 : q0 .links = false := by assumption) (c8 : q0 .fns = false := by assumption) (c10 : q0 .snap = false := by assumption) (c13 : q0 .noc = false := by assumption) (c19 : q0 .flight = false := by assumption) (c20 : q0 .out = false := by assumption) :
    Steady q0 z0 (redirect s r) := by
  unfold redirect; try (dsimp only)
  with_reducible repeat' (first | assumption | intro _ | apply Steady.ite | apply forwardReq_st | apply sendTwin_st | split)

theorem redirectAll_st {s : State} {x : ℕ} (hs : Steady q0 z0 s) (c0 : q0 .regs = false := by assumption) (c6 : q0 .pair = false := by assumption) (c7 : q0 .links = false := by assumption) (c8 : q0 .fns = false := by assumption) (c10 : q0 .snap = false := by assumption) (c13 : q0 .noc = false := by assumption) (c15 : q0 .dir = false := by assumption) (c19 : q0 .flight = false := by assumption) (c20 : q0 .out = false := by assumption) :
    Steady q0 z0 (redirectAll s x) := by
  unfold redirectAll; try (dsimp only)
  with_reducible repeat' (first | assumption | intro _ | apply Steady.ite | apply redirect_st | apply withDir_st | apply forAll_st | split)

theorem markShadows_st {s : State} {x : ℕ} {pid : Bool} {b : Bool} (hs : Steady q0 z0 s) (c15 : q0 .dir = false := by assumption) :
    Steady q0 z0 (markShadows s x pid b) := by
  unfold markShadows; try (dsimp only)
  with_reducible repeat' (first | assumption | intro _ | apply Steady.ite | apply withDir_st | split)

theorem queueEvicts_st {s : State} {x : ℕ} {pid : Bool} (hs : Steady q0 z0 s) (c15 : q0 .dir = false := by assumption) :
    Steady q0 z0 (queueEvicts s x pid) := by
  unfold queueEvicts; try (dsimp only)
  with_reducible repeat' (first | assumption | intro _ | apply Steady.ite | apply withDir_st | split)

theorem setRecall_st {s : State} {x : ℕ} {set : ℕ} (hs : Steady q0 z0 s) (c0 : q0 .regs = false := by assumption) (c7 : q0 .links = false := by assumption) (c8 : q0 .fns = false := by assumption) (c10 : q0 .snap = false := by assumption) (c13 : q0 .noc = false := by assumption) (c19 : q0 .flight = false := by assumption) (c20 : q0 .out = false := by assumption) :
    Steady q0 z0 (setRecall s x set) := by
  unfold setRecall; try (dsimp only)
  with_reducible repeat' (first | assumption | intro _ | apply Steady.ite | apply sendTwin_st | apply send_st | apply forAll_st | split)

theorem setPairState_st {s : State} {n : ℕ} (hs : Steady q0 z0 s) (c0 : q0 .regs = false := by assumption) (c7 : q0 .links = false := by assumption) (c8 : q0 .fns = false := by assumption) (c10 : q0 .snap = false := by assumption) (c13 : q0 .noc = false := by assumption) (c19 : q0 .flight = false := by assumption) (c20 : q0 .out = false := by assumption) :
    Steady q0 z0 (setPairState s n) := by
  unfold setPairState; try (dsimp only)
  with_reducible repeat' (first | assumption | intro _ | apply Steady.ite | apply raiseEv_st | refine wr_bg ?_ (by constructor) | split)

theorem checkSynced_st {s : State} (hs : Steady q0 z0 s) (c0 : q0 .regs = false := by assumption) (c6 : q0 .pair = false := by assumption) (c7 : q0 .links = false := by assumption) (c8 : q0 .fns = false := by assumption) (c10 : q0 .snap = false := by assumption) (c13 : q0 .noc = false := by assumption) (c19 : q0 .flight = false := by assumption) (c20 : q0 .out = false := by assumption) :
    Steady q0 z0 (checkSynced s) := by
  unfold checkSynced; try (dsimp only)
  with_reducible repeat' (first | exact fun _ => rfl | exact skip | assumption | intro _ | apply Steady.ite | apply setPairState_st | split | apply Steady.upd)

theorem sendSync_st {s : State} {x : ℕ} (hs : Steady q0 z0 s) (c0 : q0 .regs = false := by assumption) (c6 : q0 .pair = false := by assumption) (c7 : q0 .links = false := by assumption) (c8 : q0 .fns = false := by assumption) (c10 : q0 .snap = false := by assumption) (c13 : q0 .noc = false := by assumption) (c19 : q0 .flight = false := by assumption) (c20 : q0 .out = false := by assumption) :
    Steady q0 z0 (sendSync s x) := by
  unfold sendSync; try (dsimp only)
  with_reducible repeat' (first | exact fun _ => rfl | exact skip | assumption | intro _ | apply Steady.ite | apply checkSynced_st | apply pairSend_st | split | apply Steady.upd)

theorem startReturn_st {s : State} {x : ℕ} (hs : Steady q0 z0 s) (c0 : q0 .regs = false := by assumption) (c1 : q0 .settings = false := by assumption) (c6 : q0 .pair = false := by assumption) (c7 : q0 .links = false := by assumption) (c8 : q0 .fns = false := by assumption) (c10 : q0 .snap = false := by assumption) (c13 : q0 .noc = false := by assumption) (c15 : q0 .dir = false := by assumption) (c19 : q0 .flight = false := by assumption) (c20 : q0 .out = false := by assumption) :
    Steady q0 z0 (startReturn s x) := by
  unfold startReturn; try (dsimp only)
  with_reducible repeat' (first | exact fun _ => rfl | exact skip | assumption | intro _ | apply Steady.ite | apply queueEvicts_st | apply journal_st | apply setJrn_st | apply forAll_st | apply wrBit_st | split | apply Steady.upd)

theorem endReturn_st {s : State} {x : ℕ} (hs : Steady q0 z0 s) (c0 : q0 .regs = false := by assumption) (c6 : q0 .pair = false := by assumption) (c7 : q0 .links = false := by assumption) (c8 : q0 .fns = false := by assumption) (c10 : q0 .snap = false := by assumption) (c13 : q0 .noc = false := by assumption) (c15 : q0 .dir = false := by assumption) (c19 : q0 .flight = false := by assumption) (c20 : q0 .out = false := by assumption) :
    Steady q0 z0 (endReturn s x) := by
  unfold endReturn; try (dsimp only)
  with_reducible repeat' (first | exact fun _ => rfl | exact skip | assumption | intro _ | apply Steady.ite | apply sendSync_st | apply markShadows_st | apply redirectAll_st | apply sendBatch_st | apply pairSend_st | refine wrBit_bg ?_ (by constructor) | split | apply Steady.upd)

theorem homingStep_st {s : State} {x : ℕ} (hs : Steady q0 z0 s) (c0 : q0 .regs = false := by assumption) (c6 : q0 .pair = false := by assumption) (c7 : q0 .links = false := by assumption) (c8 : q0 .fns = false := by assumption) (c10 : q0 .snap = false := by assumption) (c13 : q0 .noc = false := by assumption) (c15 : q0 .dir = false := by assumption) (c19 : q0 .flight = false := by assumption) (c20 : q0 .out = false := by assumption) :
    Steady q0 z0 (homingStep s x) := by
  unfold homingStep; try (dsimp only)
  with_reducible repeat' (first | exact fun _ => rfl | exact skip | assumption | intro _ | apply Steady.ite | apply endReturn_st | apply setRecall_st | apply queueEvicts_st | apply pairSend_st | apply forAll_st | refine wrBit_bg ?_ (by constructor) | split | apply Steady.upd)

theorem settleRounds_st {s : State} {n : ℕ} {x : ℕ} (hs : Steady q0 z0 s) (c0 : q0 .regs = false := by assumption) (c6 : q0 .pair = false := by assumption) (c7 : q0 .links = false := by assumption) (c8 : q0 .fns = false := by assumption) (c10 : q0 .snap = false := by assumption) (c13 : q0 .noc = false := by assumption) (c15 : q0 .dir = false := by assumption) (c19 : q0 .flight = false := by assumption) (c20 : q0 .out = false := by assumption) :
    Steady q0 z0 (settleRounds n s x) := by
  fun_induction settleRounds n s x
  all_goals (try (dsimp only))
  all_goals with_reducible repeat' (first | assumption | apply_assumption | assumption | intro _ | apply Steady.ite | apply homingStep_st | apply settleN_st | split)

theorem settleSlice_st {s : State} {x : ℕ} (hs : Steady q0 z0 s) (c0 : q0 .regs = false := by assumption) (c6 : q0 .pair = false := by assumption) (c7 : q0 .links = false := by assumption) (c8 : q0 .fns = false := by assumption) (c10 : q0 .snap = false := by assumption) (c13 : q0 .noc = false := by assumption) (c15 : q0 .dir = false := by assumption) (c19 : q0 .flight = false := by assumption) (c20 : q0 .out = false := by assumption) :
    Steady q0 z0 (settleSlice s x) := by
  unfold settleSlice; try (dsimp only)
  with_reducible repeat' (first | assumption | intro _ | apply Steady.ite | apply settleRounds_st | apply settleN_st | split)

theorem settleSlices_st {s : State} (hs : Steady q0 z0 s) (c0 : q0 .regs = false := by assumption) (c6 : q0 .pair = false := by assumption) (c7 : q0 .links = false := by assumption) (c8 : q0 .fns = false := by assumption) (c10 : q0 .snap = false := by assumption) (c13 : q0 .noc = false := by assumption) (c15 : q0 .dir = false := by assumption) (c19 : q0 .flight = false := by assumption) (c20 : q0 .out = false := by assumption) :
    Steady q0 z0 (settleSlices s) := by
  unfold settleSlices; try (dsimp only)
  with_reducible repeat' (first | assumption | intro _ | apply Steady.ite | apply settleSlice_st | apply forAll_st | split)

theorem sendReq_st {s : State} {r : Req} (hs : Steady q0 z0 s) (c0 : q0 .regs = false := by assumption) (c6 : q0 .pair = false := by assumption) (c7 : q0 .links = false := by assumption) (c8 : q0 .fns = false := by assumption) (c10 : q0 .snap = false := by assumption) (c13 : q0 .noc = false := by assumption) (c19 : q0 .flight = false := by assumption) (c20 : q0 .out = false := by assumption) :
    Steady q0 z0 (sendReq s r) := by
  unfold sendReq; try (dsimp only)
  with_reducible repeat' (first | assumption | intro _ | apply Steady.ite | apply forwardReq_st | apply send_st | split)

theorem atSlice_st {s : State} {x : Fin 32} {q : Fin 5} {r : Req} {ecc : Ecc} (hs : Steady q0 z0 s) (c0 : q0 .regs = false := by assumption) (c6 : q0 .pair = false := by assumption) (c7 : q0 .links = false := by assumption) (c8 : q0 .fns = false := by assumption) (c10 : q0 .snap = false := by assumption) (c13 : q0 .noc = false := by assumption) (c15 : q0 .dir = false := by assumption) (c19 : q0 .flight = false := by assumption) (c20 : q0 .out = false := by assumption) :
    Steady q0 z0 (atSlice s x q r ecc) := by
  unfold atSlice
  dsimp only
  split
  · rename_i t ht
    split at ht
    · split at ht
      · obtain ⟨d, _, rfl⟩ := Option.map_eq_some_iff.1 ht
        exact recordLog_bg hs .twin
      · cases ht
    · cases ht
  · refine Steady.ite (redirect_st hs) (settleSlice_st ?_)
    cases ecc
    · exact withDir_st (dropFwd_st hs)
    · exact wr_bg (withDir_st (dropFwd_st hs)) (.dirEcc _)
    · exact raiseEv_st (withDir_st (wr_bg (wrBit_bg (withDir_st (dropFwd_st hs)) (.dirStatus _)) (.dirUncorr _)))

theorem atEpoch_st {s : State} {x : Fin 32} {q : Fin 5} {r : Req} {ecc : Ecc} (hs : Steady q0 z0 s) (c0 : q0 .regs = false := by assumption) (c6 : q0 .pair = false := by assumption) (c7 : q0 .links = false := by assumption) (c8 : q0 .fns = false := by assumption) (c10 : q0 .snap = false := by assumption) (c13 : q0 .noc = false := by assumption) (c15 : q0 .dir = false := by assumption) (c19 : q0 .flight = false := by assumption) (c20 : q0 .out = false := by assumption) :
    Steady q0 z0 (atEpoch s x q r ecc) := by
  unfold atEpoch
  refine Steady.ite (atSlice_st hs) (Steady.ite ?_ (restore_st hs (atSlice_st (Steady.refl _ _))))
  apply Steady.upd hs <;> first | exact fun _ => rfl | exact skip

theorem homeReq_ok {s : State} {x : Fin 32} {q : Fin 5} {r : Req} {ecc : Ecc} (hs : Steady q0 z0 s) (c0 : q0 .regs = false := by assumption) (c6 : q0 .pair = false := by assumption) (c7 : q0 .links = false := by assumption) (c8 : q0 .fns = false := by assumption) (c10 : q0 .snap = false := by assumption) (c13 : q0 .noc = false := by assumption) (c15 : q0 .dir = false := by assumption) (c19 : q0 .flight = false := by assumption) (c20 : q0 .out = false := by assumption) :
    OkOutcome q0 z0 (homeReq x q r ecc s) := by
  unfold homeReq; try (dsimp only)
  with_reducible repeat' (first | intro _ | apply next_ok | apply ite_ok | assumption | intro _ | apply Steady.ite | apply atEpoch_st | apply receive_st | apply onFabric_st | split)

theorem execRdshared_ok {s : State} {x : Fin 32} {q : Fin 5} {m : Hdr} {ecc : Ecc} (hs : Steady q0 z0 s) (c0 : q0 .regs = false := by first | assumption | rfl) (c6 : q0 .pair = false := by first | assumption | rfl) (c7 : q0 .links = false := by first | assumption | rfl) (c8 : q0 .fns = false := by first | assumption | rfl) (c10 : q0 .snap = false := by first | assumption | rfl) (c13 : q0 .noc = false := by first | assumption | rfl) (c15 : q0 .dir = false := by first | assumption | rfl) (c19 : q0 .flight = false := by first | assumption | rfl) (c20 : q0 .out = false := by first | assumption | rfl) :
    OkOutcome q0 z0 (execRdshared x q m ecc s) := by
  unfold execRdshared; try (dsimp only)
  with_reducible repeat' (first | intro _ | apply next_ok | apply ite_ok | assumption | intro _ | apply Steady.ite | apply homeReq_ok | split)

theorem execRdown_ok {s : State} {x : Fin 32} {q : Fin 5} {m : Hdr} {ecc : Ecc} (hs : Steady q0 z0 s) (c0 : q0 .regs = false := by first | assumption | rfl) (c6 : q0 .pair = false := by first | assumption | rfl) (c7 : q0 .links = false := by first | assumption | rfl) (c8 : q0 .fns = false := by first | assumption | rfl) (c10 : q0 .snap = false := by first | assumption | rfl) (c13 : q0 .noc = false := by first | assumption | rfl) (c15 : q0 .dir = false := by first | assumption | rfl) (c19 : q0 .flight = false := by first | assumption | rfl) (c20 : q0 .out = false := by first | assumption | rfl) :
    OkOutcome q0 z0 (execRdown x q m ecc s) := by
  unfold execRdown; try (dsimp only)
  with_reducible repeat' (first | intro _ | apply next_ok | apply ite_ok | assumption | intro _ | apply Steady.ite | apply homeReq_ok | split)

theorem execUpgrade_ok {s : State} {x : Fin 32} {q : Fin 5} {m : Hdr} {ecc : Ecc} (hs : Steady q0 z0 s) (c0 : q0 .regs = false := by first | assumption | rfl) (c6 : q0 .pair = false := by first | assumption | rfl) (c7 : q0 .links = false := by first | assumption | rfl) (c8 : q0 .fns = false := by first | assumption | rfl) (c10 : q0 .snap = false := by first | assumption | rfl) (c13 : q0 .noc = false := by first | assumption | rfl) (c15 : q0 .dir = false := by first | assumption | rfl) (c19 : q0 .flight = false := by first | assumption | rfl) (c20 : q0 .out = false := by first | assumption | rfl) :
    OkOutcome q0 z0 (execUpgrade x q m ecc s) := by
  unfold execUpgrade; try (dsimp only)
  with_reducible repeat' (first | intro _ | apply next_ok | apply ite_ok | assumption | intro _ | apply Steady.ite | apply homeReq_ok | split)

theorem execRdcur_ok {s : State} {x : Fin 32} {q : Fin 5} {m : Hdr} {ecc : Ecc} (hs : Steady q0 z0 s) (c0 : q0 .regs = false := by first | assumption | rfl) (c6 : q0 .pair = false := by first | assumption | rfl) (c7 : q0 .links = false := by first | assumption | rfl) (c8 : q0 .fns = false := by first | assumption | rfl) (c10 : q0 .snap = false := by first | assumption | rfl) (c13 : q0 .noc = false := by first | assumption | rfl) (c15 : q0 .dir = false := by first | assumption | rfl) (c19 : q0 .flight = false := by first | assumption | rfl) (c20 : q0 .out = false := by first | assumption | rfl) :
    OkOutcome q0 z0 (execRdcur x q m ecc s) := by
  unfold execRdcur; try (dsimp only)
  with_reducible repeat' (first | intro _ | apply next_ok | apply ite_ok | assumption | intro _ | apply Steady.ite | apply homeReq_ok | split)

theorem execWrline_ok {s : State} {x : Fin 32} {q : Fin 5} {m : Hdr} {ecc : Ecc} (hs : Steady q0 z0 s) (c0 : q0 .regs = false := by first | assumption | rfl) (c6 : q0 .pair = false := by first | assumption | rfl) (c7 : q0 .links = false := by first | assumption | rfl) (c8 : q0 .fns = false := by first | assumption | rfl) (c10 : q0 .snap = false := by first | assumption | rfl) (c13 : q0 .noc = false := by first | assumption | rfl) (c15 : q0 .dir = false := by first | assumption | rfl) (c19 : q0 .flight = false := by first | assumption | rfl) (c20 : q0 .out = false := by first | assumption | rfl) :
    OkOutcome q0 z0 (execWrline x q m ecc s) := by
  unfold execWrline; try (dsimp only)
  with_reducible repeat' (first | intro _ | apply next_ok | apply ite_ok | assumption | intro _ | apply Steady.ite | apply homeReq_ok | split)

theorem execWrpart_ok {s : State} {x : Fin 32} {q : Fin 5} {m : Hdr} {ecc : Ecc} (hs : Steady q0 z0 s) (c0 : q0 .regs = false := by first | assumption | rfl) (c6 : q0 .pair = false := by first | assumption | rfl) (c7 : q0 .links = false := by first | assumption | rfl) (c8 : q0 .fns = false := by first | assumption | rfl) (c10 : q0 .snap = false := by first | assumption | rfl) (c13 : q0 .noc = false := by first | assumption | rfl) (c15 : q0 .dir = false := by first | assumption | rfl) (c19 : q0 .flight = false := by first | assumption | rfl) (c20 : q0 .out = false := by first | assumption | rfl) :
    OkOutcome q0 z0 (execWrpart x q m ecc s) := by
  unfold execWrpart; try (dsimp only)
  with_reducible repeat' (first | intro _ | apply next_ok | apply ite_ok | assumption | intro _ | apply Steady.ite | apply homeReq_ok | split)

theorem execWbdirty_ok {s : State} {x : Fin 32} {q : Fin 5} {m : Hdr} {ecc : Ecc} (hs : Steady q0 z0 s) (c0 : q0 .regs = false := by first | assumption | rfl) (c6 : q0 .pair = false := by first | assumption | rfl) (c7 : q0 .links = false := by first | assumption | rfl) (c8 : q0 .fns = false := by first | assumption | rfl) (c10 : q0 .snap = false := by first | assumption | rfl) (c13 : q0 .noc = false := by first | assumption | rfl) (c15 : q0 .dir = false := by first | assumption | rfl) (c19 : q0 .flight = false := by first | assumption | rfl) (c20 : q0 .out = false := by first | assumption | rfl) :
    OkOutcome q0 z0 (execWbdirty x q m ecc s) := by
  unfold execWbdirty; try (dsimp only)
  with_reducible repeat' (first | intro _ | apply next_ok | apply ite_ok | assumption | intro _ | apply Steady.ite | apply homeReq_ok | split)

theorem execEvict_ok {s : State} {x : Fin 32} {q : Fin 5} {m : Hdr} {ecc : Ecc} (hs : Steady q0 z0 s) (c0 : q0 .regs = false := by first | assumption | rfl) (c6 : q0 .pair = false := by first | assumption | rfl) (c7 : q0 .links = false := by first | assumption | rfl) (c8 : q0 .fns = false := by first | assumption | rfl) (c10 : q0 .snap = false := by first | assumption | rfl) (c13 : q0 .noc = false := by first | assumption | rfl) (c15 : q0 .dir = false := by first | assumption | rfl) (c19 : q0 .flight = false := by first | assumption | rfl) (c20 : q0 .out = false := by first | assumption | rfl) :
    OkOutcome q0 z0 (execEvict x q m ecc s) := by
  unfold execEvict; try (dsimp only)
  with_reducible repeat' (first | intro _ | apply next_ok | apply ite_ok | assumption | intro _ | apply Steady.ite | apply homeReq_ok | split)

theorem execAtomicfar_ok {s : State} {x : Fin 32} {q : Fin 5} {m : Hdr} {a : AtomicOp} {ecc : Ecc} (hs : Steady q0 z0 s) (c0 : q0 .regs = false := by first | assumption | rfl) (c6 : q0 .pair = false := by first | assumption | rfl) (c7 : q0 .links = false := by first | assumption | rfl) (c8 : q0 .fns = false := by first | assumption | rfl) (c10 : q0 .snap = false := by first | assumption | rfl) (c13 : q0 .noc = false := by first | assumption | rfl) (c15 : q0 .dir = false := by first | assumption | rfl) (c19 : q0 .flight = false := by first | assumption | rfl) (c20 : q0 .out = false := by first | assumption | rfl) :
    OkOutcome q0 z0 (execAtomicfar x q m a ecc s) := by
  unfold execAtomicfar; try (dsimp only)
  with_reducible repeat' (first | intro _ | apply next_ok | apply ite_ok | assumption | intro _ | apply Steady.ite | apply homeReq_ok | split)

theorem lateResponse_st {s : State} {x : ℕ} (hs : Steady q0 z0 s) (c0 : q0 .regs = false := by assumption) (c7 : q0 .links = false := by assumption) (c8 : q0 .fns = false := by assumption) (c10 : q0 .snap = false := by assumption) (c13 : q0 .noc = false := by assumption) (c19 : q0 .flight = false := by assumption) (c20 : q0 .out = false := by assumption) :
    Steady q0 z0 (lateResponse s x) := by
  unfold lateResponse; try (dsimp only)
  with_reducible repeat' (first | assumption | intro _ | apply Steady.ite | refine count_bg ?_ (by constructor) | split)

theorem takeBiack_st {s : State} {x : ℕ} {t : ℕ} {k : Tracker} {m : Hdr} (hs : Steady q0 z0 s) (c0 : q0 .regs = false := by assumption) (c7 : q0 .links = false := by assumption) (c8 : q0 .fns = false := by assumption) (c10 : q0 .snap = false := by assumption) (c13 : q0 .noc = false := by assumption) (c15 : q0 .dir = false := by assumption) (c19 : q0 .flight = false := by assumption) (c20 : q0 .out = false := by assumption) :
    Steady q0 z0 (takeBiack s x t k m) := by
  unfold takeBiack; try (dsimp only)
  with_reducible repeat' (first | assumption | intro _ | apply Steady.ite | apply takeWrite_st | apply sendDataGo_st | apply setTrk_st | apply withDir_st | split)

theorem homeBiack_st {s : State} {m : Hdr} (hs : Steady q0 z0 s) (c0 : q0 .regs = false := by assumption) (c6 : q0 .pair = false := by assumption) (c7 : q0 .links = false := by assumption) (c8 : q0 .fns = false := by assumption) (c10 : q0 .snap = false := by assumption) (c13 : q0 .noc = false := by assumption) (c15 : q0 .dir = false := by assumption) (c19 : q0 .flight = false := by assumption) (c20 : q0 .out = false := by assumption) :
    Steady q0 z0 (homeBiack s m) := by
  unfold homeBiack; try (dsimp only)
  with_reducible repeat' (first | assumption | intro _ | apply Steady.ite | apply takeBiack_st | apply lateResponse_st | apply settleSlice_st | apply advance_st | split)

theorem execBiackagg_ok {s : State} {region : Fin 16} {pid : Bool} {m : Hdr} (hs : Steady q0 z0 s) (c0 : q0 .regs = false := by first | assumption | rfl) (c6 : q0 .pair = false := by first | assumption | rfl) (c7 : q0 .links = false := by first | assumption | rfl) (c8 : q0 .fns = false := by first | assumption | rfl) (c10 : q0 .snap = false := by first | assumption | rfl) (c13 : q0 .noc = false := by first | assumption | rfl) (c15 : q0 .dir = false := by first | assumption | rfl) (c19 : q0 .flight = false := by first | assumption | rfl) (c20 : q0 .out = false := by first | assumption | rfl) :
    OkOutcome q0 z0 (execBiackagg region pid m s) := by
  unfold execBiackagg; try (dsimp only)
  with_reducible repeat' (first | intro _ | apply next_ok | apply ite_ok | assumption | intro _ | apply Steady.ite | apply lateResponse_st | apply settleSlice_st | apply advance_st | apply setTrk_st | apply receive_st | apply onFabric_st | split)

theorem endFailed_st {s : State} {x : ℕ} {t : ℕ} {k : Tracker} {st : BitVec 4} (hs : Steady q0 z0 s) (c0 : q0 .regs = false := by assumption) (c7 : q0 .links = false := by assumption) (c8 : q0 .fns = false := by assumption) (c10 : q0 .snap = false := by assumption) (c13 : q0 .noc = false := by assumption) (c15 : q0 .dir = false := by assumption) (c19 : q0 .flight = false := by assumption) (c20 : q0 .out = false := by assumption) :
    Steady q0 z0 (endFailed s x t k st) := by
  unfold endFailed; try (dsimp only)
  with_reducible repeat' (first | assumption | intro _ | apply Steady.ite | apply closeTrk_st | apply sendErr_st | apply journalChange_st | apply forAll_st | split)

theorem homeMemcmp_st {s : State} {m : Hdr} (hs : Steady q0 z0 s) (c0 : q0 .regs = false := by assumption) (c6 : q0 .pair = false := by assumption) (c7 : q0 .links = false := by assumption) (c8 : q0 .fns = false := by assumption) (c10 : q0 .snap = false := by assumption) (c13 : q0 .noc = false := by assumption) (c15 : q0 .dir = false := by assumption) (c19 : q0 .flight = false := by assumption) (c20 : q0 .out = false := by assumption) :
    Steady q0 z0 (homeMemcmp s m) := by
  unfold homeMemcmp; try (dsimp only)
  with_reducible repeat' (first | assumption | intro _ | apply Steady.ite | apply endFailed_st | apply lateResponse_st | apply settleSlice_st | apply advance_st | apply setTrk_st | apply raiseEv_st | apply send_st | split)

theorem homeAck_st {s : State} {m : Hdr} (hs : Steady q0 z0 s) (c0 : q0 .regs = false := by assumption) (c6 : q0 .pair = false := by assumption) (c7 : q0 .links = false := by assumption) (c8 : q0 .fns = false := by assumption) (c10 : q0 .snap = false := by assumption) (c13 : q0 .noc = false := by assumption) (c15 : q0 .dir = false := by assumption) (c19 : q0 .flight = false := by assumption) (c20 : q0 .out = false := by assumption) :
    Steady q0 z0 (homeAck s m) := by
  unfold homeAck; try (dsimp only)
  with_reducible repeat' (first | assumption | intro _ | apply Steady.ite | apply lateResponse_st | apply settleSlice_st | apply closeTrk_st | split)

theorem execAck_ok {s : State} {m : Hdr} (hs : Steady q0 z0 s) (c0 : q0 .regs = false := by first | assumption | rfl) (c6 : q0 .pair = false := by first | assumption | rfl) (c7 : q0 .links = false := by first | assumption | rfl) (c8 : q0 .fns = false := by first | assumption | rfl) (c10 : q0 .snap = false := by first | assumption | rfl) (c13 : q0 .noc = false := by first | assumption | rfl) (c15 : q0 .dir = false := by first | assumption | rfl) (c19 : q0 .flight = false := by first | assumption | rfl) (c20 : q0 .out = false := by first | assumption | rfl) : OkOutcome q0 z0 (execAck m s) :=
  next_ok (onFabric_st hs (receive_st hs (fun _ hu => Steady.ite (homeAck_st hu) hu)))

theorem homeFill_st {s : State} {m : Hdr} {d : LineData} (hs : Steady q0 z0 s) (c0 : q0 .regs = false := by assumption) (c6 : q0 .pair = false := by assumption) (c7 : q0 .links = false := by assumption) (c8 : q0 .fns = false := by assumption) (c10 : q0 .snap = false := by assumption) (c13 : q0 .noc = false := by assumption) (c15 : q0 .dir = false := by assumption) (c19 : q0 .flight = false := by assumption) (c20 : q0 .out = false := by assumption) :
    Steady q0 z0 (homeFill s m d) := by
  unfold homeFill; try (dsimp only)
  with_reducible repeat' (first | assumption | intro _ | apply Steady.ite | apply lateResponse_st | apply settleSlice_st | apply toJournal_st | apply setTrk_st | apply send_st | split)

theorem recordExpiry_st {s : State} {x : ℕ} {l : LAddr} {cause : ℕ} {who : ℕ} (hs : Steady q0 z0 s) (c0 : q0 .regs = false := by assumption) (c7 : q0 .links = false := by assumption) (c8 : q0 .fns = false := by assumption) (c10 : q0 .snap = false := by assumption) (c13 : q0 .noc = false := by assumption) (c19 : q0 .flight = false := by assumption) (c20 : q0 .out = false := by assumption) :
    Steady q0 z0 (recordExpiry s x l cause who) := by
  unfold recordExpiry; try (dsimp only)
  with_reducible repeat' (first | assumption | intro _ | apply Steady.ite | refine count_bg ?_ (by constructor) | refine wr64_bg ?_ (by constructor) (by constructor) | split)

theorem recordAwaited_st {s : State} {x : ℕ} {k : Tracker} (hs : Steady q0 z0 s) (c0 : q0 .regs = false := by assumption) (c7 : q0 .links = false := by assumption) (c8 : q0 .fns = false := by assumption) (c10 : q0 .snap = false := by assumption) (c13 : q0 .noc = false := by assumption) (c19 : q0 .flight = false := by assumption) (c20 : q0 .out = false := by assumption) :
    Steady q0 z0 (recordAwaited s x k) := by
  unfold recordAwaited; try (dsimp only)
  with_reducible repeat' (first | assumption | intro _ | apply Steady.ite | apply recordExpiry_st | split)

theorem execHomeTimeout_ok {s : State} {slice : Fin 32} {txn : Fin 256} (hs : Steady q0 z0 s) (c0 : q0 .regs = false := by first | assumption | rfl) (c6 : q0 .pair = false := by first | assumption | rfl) (c7 : q0 .links = false := by first | assumption | rfl) (c8 : q0 .fns = false := by first | assumption | rfl) (c10 : q0 .snap = false := by first | assumption | rfl) (c13 : q0 .noc = false := by first | assumption | rfl) (c15 : q0 .dir = false := by first | assumption | rfl) (c19 : q0 .flight = false := by first | assumption | rfl) (c20 : q0 .out = false := by first | assumption | rfl) :
    OkOutcome q0 z0 (execHomeTimeout slice txn s) := by
  unfold execHomeTimeout; try (dsimp only)
  with_reducible repeat' (first | intro _ | apply next_ok | apply ite_ok | assumption | intro _ | apply Steady.ite | apply recordAwaited_st | apply endFailed_st | apply settleSlice_st | apply lostAnswer_st | apply advance_st | apply closeTrk_st | apply declareLost_st | apply sendErr_st | apply journalChange_st | apply setTrk_st | apply onFabric_st | apply forAll_st | refine fst_st (by assumption) ?_ | split)

theorem ackAll_st {s : State} {x : ℕ} (hs : Steady q0 z0 s) (c0 : q0 .regs = false := by assumption) (c6 : q0 .pair = false := by assumption) (c7 : q0 .links = false := by assumption) (c8 : q0 .fns = false := by assumption) (c10 : q0 .snap = false := by assumption) (c13 : q0 .noc = false := by assumption) (c15 : q0 .dir = false := by assumption) (c19 : q0 .flight = false := by assumption) (c20 : q0 .out = false := by assumption) :
    Steady q0 z0 (ackAll s x) := by
  unfold ackAll; try (dsimp only)
  with_reducible repeat' (first | assumption | intro _ | apply Steady.ite | apply settleSlice_st | apply advance_st | apply setJrn_st | apply perfHit_st | apply forAll_st | split)

theorem execJournalStall_ok {s : State} {slice : Fin 32} {txn : Fin 256} (hs : Steady q0 z0 s) (c0 : q0 .regs = false := by first | assumption | rfl) (c6 : q0 .pair = false := by first | assumption | rfl) (c7 : q0 .links = false := by first | assumption | rfl) (c8 : q0 .fns = false := by first | assumption | rfl) (c10 : q0 .snap = false := by first | assumption | rfl) (c13 : q0 .noc = false := by first | assumption | rfl) (c15 : q0 .dir = false := by first | assumption | rfl) (c19 : q0 .flight = false := by first | assumption | rfl) (c20 : q0 .out = false := by first | assumption | rfl) :
    OkOutcome q0 z0 (execJournalStall slice txn s) := by
  unfold execJournalStall; try (dsimp only)
  with_reducible repeat' (first | intro _ | apply next_ok | apply ite_ok | assumption | intro _ | apply Steady.ite | apply ackAll_st | refine count_bg ?_ (by constructor) | apply onFabric_st | refine wrBit_bg ?_ (by constructor) | split)

theorem execJournalBatchTimeout_ok {s : State} {slice : Fin 32} (hs : Steady q0 z0 s) (c0 : q0 .regs = false := by first | assumption | rfl) (c7 : q0 .links = false := by first | assumption | rfl) (c8 : q0 .fns = false := by first | assumption | rfl) (c10 : q0 .snap = false := by first | assumption | rfl) (c13 : q0 .noc = false := by first | assumption | rfl) (c15 : q0 .dir = false := by first | assumption | rfl) (c19 : q0 .flight = false := by first | assumption | rfl) (c20 : q0 .out = false := by first | assumption | rfl) :
    OkOutcome q0 z0 (execJournalBatchTimeout slice s) := by
  unfold execJournalBatchTimeout; try (dsimp only)
  with_reducible repeat' (first | intro _ | apply next_ok | apply ite_ok | assumption | intro _ | apply Steady.ite | apply sendBatch_st | apply onFabric_st | split)

theorem execJrnbatch_ok {s : State} {slice : Fin 32} {recs : List JrnRec} (hs : Steady q0 z0 s) (c0 : q0 .regs = false := by first | assumption | rfl) (c6 : q0 .pair = false := by first | assumption | rfl) (c7 : q0 .links = false := by first | assumption | rfl) (c8 : q0 .fns = false := by first | assumption | rfl) (c10 : q0 .snap = false := by first | assumption | rfl) (c13 : q0 .noc = false := by first | assumption | rfl) (c15 : q0 .dir = false := by first | assumption | rfl) (c19 : q0 .flight = false := by first | assumption | rfl) (c20 : q0 .out = false := by first | assumption | rfl) :
    OkOutcome q0 z0 (execJrnbatch slice recs s) := by
  unfold execJrnbatch; try (dsimp only)
  with_reducible repeat' (first | intro _ | apply next_ok | apply ite_ok | assumption | intro _ | apply Steady.ite | apply settleSlice_st | apply setJrn_st | apply receive_st | apply onFabric_st | split)

theorem releaseJournal_st {s : State} {x : ℕ} {q : BitVec 16} (hs : Steady q0 z0 s) (c13 : q0 .noc = false := by assumption) :
    Steady q0 z0 (releaseJournal s x q) := by
  unfold releaseJournal; try (dsimp only)
  with_reducible repeat' (first | assumption | intro _ | apply Steady.ite | apply withNoc_st | split)

theorem execJrnack_ok {s : State} {slice : Fin 32} {ackJseq : BitVec 16} (hs : Steady q0 z0 s) (c0 : q0 .regs = false := by first | assumption | rfl) (c6 : q0 .pair = false := by first | assumption | rfl) (c7 : q0 .links = false := by first | assumption | rfl) (c8 : q0 .fns = false := by first | assumption | rfl) (c10 : q0 .snap = false := by first | assumption | rfl) (c13 : q0 .noc = false := by first | assumption | rfl) (c15 : q0 .dir = false := by first | assumption | rfl) (c19 : q0 .flight = false := by first | assumption | rfl) (c20 : q0 .out = false := by first | assumption | rfl) :
    OkOutcome q0 z0 (execJrnack slice ackJseq s) := by
  refine next_ok (onFabric_st hs (receive_st hs (fun t ht => ?_)))
  have hu := releaseJournal_st (x := slice.val) (q := ackJseq) ht
  exact Steady.ite (settleSlice_st (forAll_st (perfHit_st (setJrn_st hu)) (fun v e hv => advance_st hv))) hu

theorem lossInTrk_st {s : State} {x : ℕ} {a : Agent} {t : ℕ} (hs : Steady q0 z0 s) (c0 : q0 .regs = false := by assumption) (c7 : q0 .links = false := by assumption) (c8 : q0 .fns = false := by assumption) (c10 : q0 .snap = false := by assumption) (c13 : q0 .noc = false := by assumption) (c15 : q0 .dir = false := by assumption) (c19 : q0 .flight = false := by assumption) (c20 : q0 .out = false := by assumption) :
    Steady q0 z0 (lossInTrk s x a t) := by
  unfold lossInTrk; try (dsimp only)
  with_reducible repeat' (first | assumption | intro _ | apply Steady.ite | apply endFailed_st | apply lostAnswer_st | apply advance_st | apply closeTrk_st | apply setTrk_st | apply withDir_st | split)

theorem takeNotice_st {s : State} {x : ℕ} {agent : Agent} (hs : Steady q0 z0 s) (c0 : q0 .regs = false := by assumption) (c6 : q0 .pair = false := by assumption) (c7 : q0 .links = false := by assumption) (c8 : q0 .fns = false := by assumption) (c10 : q0 .snap = false := by assumption) (c13 : q0 .noc = false := by assumption) (c15 : q0 .dir = false := by assumption) (c19 : q0 .flight = false := by assumption) (c20 : q0 .out = false := by assumption) :
    Steady q0 z0 (takeNotice s x agent) := by
  unfold takeNotice; try (dsimp only)
  with_reducible repeat' (first | assumption | intro _ | apply Steady.ite | apply lossInTrk_st | apply settleSlice_st | apply withDir_st | apply forAll_st | refine wrBit_bg ?_ (by constructor) | split)

theorem execLossNotice_ok {s : State} {slice : Fin 32} {agent : Agent} (hs : Steady q0 z0 s) (c0 : q0 .regs = false := by first | assumption | rfl) (c6 : q0 .pair = false := by first | assumption | rfl) (c7 : q0 .links = false := by first | assumption | rfl) (c8 : q0 .fns = false := by first | assumption | rfl) (c10 : q0 .snap = false := by first | assumption | rfl) (c13 : q0 .noc = false := by first | assumption | rfl) (c15 : q0 .dir = false := by first | assumption | rfl) (c19 : q0 .flight = false := by first | assumption | rfl) (c20 : q0 .out = false := by first | assumption | rfl) :
    OkOutcome q0 z0 (execLossNotice slice agent s) := by
  unfold execLossNotice; try (dsimp only)
  with_reducible repeat' (first | exact fun _ => rfl | exact skip | intro _ | apply next_ok | apply ite_ok | assumption | intro _ | apply Steady.ite | apply takeNotice_st | apply orderOut_st | apply receive_st | apply onFabric_st | split | apply Steady.upd)

theorem scanEntry_st {s : State} {x : ℕ} {kv : ℕ × Entry} (hs : Steady q0 z0 s) (c0 : q0 .regs = false := by assumption) (c7 : q0 .links = false := by assumption) (c8 : q0 .fns = false := by assumption) (c10 : q0 .snap = false := by assumption) (c13 : q0 .noc = false := by assumption) (c15 : q0 .dir = false := by assumption) (c19 : q0 .flight = false := by assumption) (c20 : q0 .out = false := by assumption) :
    Steady q0 z0 (scanEntry s x kv) := by
  unfold scanEntry; try (dsimp only)
  with_reducible repeat' (first | assumption | intro _ | apply Steady.ite | apply journalChange_st | apply setEnt_st | apply withDir_st | split)

theorem execPurgeScanDone_ok {s : State} {slice : Fin 32} (hs : Steady q0 z0 s) (c0 : q0 .regs = false := by first | assumption | rfl) (c6 : q0 .pair = false := by first | assumption | rfl) (c7 : q0 .links = false := by first | assumption | rfl) (c8 : q0 .fns = false := by first | assumption | rfl) (c10 : q0 .snap = false := by first | assumption | rfl) (c13 : q0 .noc = false := by first | assumption | rfl) (c15 : q0 .dir = false := by first | assumption | rfl) (c19 : q0 .flight = false := by first | assumption | rfl) (c20 : q0 .out = false := by first | assumption | rfl) :
    OkOutcome q0 z0 (execPurgeScanDone slice s) := by
  unfold execPurgeScanDone; try (dsimp only)
  with_reducible repeat' (first | intro _ | apply next_ok | apply ite_ok | assumption | intro _ | apply Steady.ite | apply scanEntry_st | apply settleSlice_st | apply withDir_st | apply onFabric_st | apply forAll_st | refine wrBit_bg ?_ (by constructor) | split)

theorem execDirPurge_ok {s : State} {slice : Fin 32} {val : Word} (hs : Steady q0 z0 s) (c0 : q0 .regs = false := by first | assumption | rfl) (c1 : q0 .settings = false := by first | assumption | rfl) (c7 : q0 .links = false := by first | assumption | rfl) (c8 : q0 .fns = false := by first | assumption | rfl) (c10 : q0 .snap = false := by first | assumption | rfl) (c13 : q0 .noc = false := by first | assumption | rfl) (c19 : q0 .flight = false := by first | assumption | rfl) (c20 : q0 .out = false := by first | assumption | rfl) :
    OkOutcome q0 z0 (execDirPurge slice val s) := by
  unfold execDirPurge; try (dsimp only)
  with_reducible repeat' (first | intro _ | apply next_ok | apply ite_ok | assumption | intro _ | apply Steady.ite | apply noticeLoss_st | apply onFabric_st | apply wr_st | split)

theorem execDecayWalk_ok {s : State} {slice : Fin 32} (hs : Steady q0 z0 s) (c15 : q0 .dir = false := by first | assumption | rfl) :
    OkOutcome q0 z0 (execDecayWalk slice s) := by
  unfold execDecayWalk; try (dsimp only)
  with_reducible repeat' (first | intro _ | apply next_ok | apply ite_ok | assumption | intro _ | apply Steady.ite | apply withDir_st | apply onFabric_st | split)

theorem execDirAtomCfgWrite_ok {s : State} {slice : Fin 32} {val : Word} (hs : Steady q0 z0 s) (c0 : q0 .regs = false := by first | assumption | rfl) (c1 : q0 .settings = false := by first | assumption | rfl) (c15 : q0 .dir = false := by first | assumption | rfl) :
    OkOutcome q0 z0 (execDirAtomCfgWrite slice val s) := by
  unfold execDirAtomCfgWrite; try (dsimp only)
  with_reducible repeat' (first | intro _ | apply next_ok | apply ite_ok | assumption | intro _ | apply Steady.ite | apply withDir_st | apply onFabric_st | apply setReg_st | split)

theorem execDirDrain_ok {s : State} {slice : Fin 32} {on : Bool} (hs : Steady q0 z0 s) (c0 : q0 .regs = false := by first | assumption | rfl) (c1 : q0 .settings = false := by first | assumption | rfl) (c6 : q0 .pair = false := by first | assumption | rfl) (c7 : q0 .links = false := by first | assumption | rfl) (c8 : q0 .fns = false := by first | assumption | rfl) (c10 : q0 .snap = false := by first | assumption | rfl) (c13 : q0 .noc = false := by first | assumption | rfl) (c15 : q0 .dir = false := by first | assumption | rfl) (c19 : q0 .flight = false := by first | assumption | rfl) (c20 : q0 .out = false := by first | assumption | rfl) :
    OkOutcome q0 z0 (execDirDrain slice on s) := by
  unfold execDirDrain; try (dsimp only)
  with_reducible repeat' (first | intro _ | apply next_ok | apply ite_ok | assumption | intro _ | apply Steady.ite | apply settleSlice_st | apply onFabric_st | apply wrBit_st | split)

theorem execDirPeek_ok {s : State} {slice : Fin 32} {set : Fin 8192} {way : Fin 16} (hs : Steady q0 z0 s) (c0 : q0 .regs = false := by first | assumption | rfl) (c1 : q0 .settings = false := by first | assumption | rfl) :
    OkOutcome q0 z0 (execDirPeek slice set way s) := by
  unfold execDirPeek; try (dsimp only)
  with_reducible repeat' (first | intro _ | apply next_ok | apply ite_ok | assumption | intro _ | apply Steady.ite | apply onFabric_st | apply wr64_st | apply wrBit_st | apply wr_st | split)

theorem settleAgg_st {s : State} {g : Agg} (hs : Steady q0 z0 s) (c0 : q0 .regs = false := by assumption) (c7 : q0 .links = false := by assumption) (c8 : q0 .fns = false := by assumption) (c10 : q0 .snap = false := by assumption) (c13 : q0 .noc = false := by assumption) (c15 : q0 .dir = false := by assumption) (c19 : q0 .flight = false := by assumption) (c20 : q0 .out = false := by assumption) :
    Steady q0 z0 (settleAgg s g) := by
  unfold settleAgg; try (dsimp only)
  with_reducible repeat' (first | assumption | intro _ | apply Steady.ite | apply withDir_st | apply send_st | split)

theorem execBroadcastAggTimeout_ok {s : State} {region : Fin 16} {m : Hdr} (hs : Steady q0 z0 s) (c0 : q0 .regs = false := by first | assumption | rfl) (c7 : q0 .links = false := by first | assumption | rfl) (c8 : q0 .fns = false := by first | assumption | rfl) (c10 : q0 .snap = false := by first | assumption | rfl) (c13 : q0 .noc = false := by first | assumption | rfl) (c15 : q0 .dir = false := by first | assumption | rfl) (c19 : q0 .flight = false := by first | assumption | rfl) (c20 : q0 .out = false := by first | assumption | rfl) :
    OkOutcome q0 z0 (execBroadcastAggTimeout region m s) := by
  unfold execBroadcastAggTimeout; try (dsimp only)
  with_reducible repeat' (first | intro _ | apply next_ok | apply ite_ok | assumption | intro _ | apply Steady.ite | apply settleAgg_st | apply declareLost_st | apply onFabric_st | apply forAll_st | split)

end Sys2Proof.Laws
end

