-- ==== Sys2Proof/Laws/SteadyReach.lean ====
section
/-! SUPPORT. Every operation of Machine/Reach.lean is steady. -/

set_option Elab.async false
set_option linter.unusedTactic false
set_option linter.unreachableTactic false

namespace Sys2Proof.Laws

open Sys2Proof.Machine

variable {q0 : Part → Bool} {z0 : State}

theorem countUnbound_st {s : State} (hs : Steady q0 z0 s) (c0 : q0 .regs = false := by assumption) (c7 : q0 .links = false := by assumption) (c8 : q0 .fns = false := by assumption) (c10 : q0 .snap = false := by assumption) (c13 : q0 .noc = false := by assumption) (c19 : q0 .flight = false := by assumption) (c20 : q0 .out = false := by assumption) :
    Steady q0 z0 (countUnbound s) := by
  unfold countUnbound; try (dsimp only)
  with_reducible repeat' (first | assumption | intro _ | apply Steady.ite | refine count_bg ?_ (by constructor) | split)

theorem colourTouch_st {s : State} {n : ℕ} {a : ℕ} (hs : Steady q0 z0 s) (c11 : q0 .pool = false := by assumption) :
    Steady q0 z0 (colourTouch s n a) := by
  unfold colourTouch; try (dsimp only)
  with_reducible repeat' (first | assumption | intro _ | apply Steady.ite | apply tagTouch_st | split)

theorem tagNeed_st {s : State} {n : ℕ} {l : LAddr} {u : TagUser} (hs : Steady q0 z0 s) (c0 : q0 .regs = false := by assumption) (c6 : q0 .pair = false := by assumption) (c7 : q0 .links = false := by assumption) (c8 : q0 .fns = false := by assumption) (c10 : q0 .snap = false := by assumption) (c11 : q0 .pool = false := by assumption) (c13 : q0 .noc = false := by assumption) (c14 : q0 .buf = false := by assumption) (c16 : q0 .dp = false := by assumption) (c19 : q0 .flight = false := by assumption) (c20 : q0 .out = false := by assumption) :
    Steady q0 z0 (tagNeed s n l u) := by
  unfold tagNeed; try (dsimp only)
  with_reducible repeat' (first | exact fun _ => rfl | exact skip | assumption | intro _ | apply Steady.ite | apply dpRead_st | apply perfHit_st | split | apply Steady.upd)

end Sys2Proof.Laws
end

