-- ==== Sys2Proof/Laws/SteadyHostPort.lean ====
section
/-! SUPPORT. Every operation of Machine/HostPort.lean is steady. -/

set_option Elab.async false
set_option linter.unusedTactic false
set_option linter.unreachableTactic false

namespace Sys2Proof.Laws

open Sys2Proof.Machine

variable {q0 : Part → Bool} {z0 : State}

theorem withHp_st {s : State} {h : HostPorts} (hs : Steady q0 z0 s) (c17 : q0 .hp = false := by assumption) :
    Steady q0 z0 (withHp s h) := by
  unfold withHp; try (dsimp only)
  with_reducible repeat' (first | exact fun _ => rfl | exact skip | assumption | intro _ | apply Steady.ite | split | apply Steady.upd)

theorem s2m_st {s : State} {p : ℕ} {tag : BitVec 16} {m : S2M} (hs : Steady q0 z0 s) (c20 : q0 .out = false := by assumption) :
    Steady q0 z0 (s2m s p tag m) := by
  unfold s2m; try (dsimp only)
  with_reducible repeat' (first | assumption | intro _ | apply Steady.ite | apply emit_st | split)

theorem answerFailed_st {s : State} {p : ℕ} {tag : BitVec 16} {k : ReqKind} (hs : Steady q0 z0 s) (c20 : q0 .out = false := by assumption) :
    Steady q0 z0 (answerFailed s p tag k) := by
  unfold answerFailed; try (dsimp only)
  with_reducible repeat' (first | assumption | intro _ | apply Steady.ite | apply s2m_st | split)

theorem addReq_st {s : State} {r : HostReq} (hs : Steady q0 z0 s) (c17 : q0 .hp = false := by assumption) :
    Steady q0 z0 (addReq s r) := by
  unfold addReq; try (dsimp only)
  with_reducible repeat' (first | assumption | intro _ | apply Steady.ite | apply withHp_st | split)

theorem putReq_st {s : State} {r : HostReq} (hs : Steady q0 z0 s) (c17 : q0 .hp = false := by assumption) :
    Steady q0 z0 (putReq s r) := by
  unfold putReq; try (dsimp only)
  with_reducible repeat' (first | assumption | intro _ | apply Steady.ite | apply withHp_st | split)

theorem delReq_st {s : State} {r : HostReq} (hs : Steady q0 z0 s) (c17 : q0 .hp = false := by assumption) :
    Steady q0 z0 (delReq s r) := by
  unfold delReq; try (dsimp only)
  with_reducible repeat' (first | assumption | intro _ | apply Steady.ite | apply withHp_st | split)

theorem freeHeld_st {s : State} {r : HostReq} (hs : Steady q0 z0 s) (c0 : q0 .regs = false := by assumption) (c14 : q0 .buf = false := by assumption) (c20 : q0 .out = false := by assumption) :
    Steady q0 z0 (freeHeld s r) := by
  unfold freeHeld; try (dsimp only)
  with_reducible repeat' (first | assumption | intro _ | apply Steady.ite | apply freeCellsOf_st | split)

theorem startHost_st {s : State} {r : HostReq} {a : AtomicOp} {e : Bool} (hs : Steady q0 z0 s) (c0 : q0 .regs = false := by assumption) (c6 : q0 .pair = false := by assumption) (c7 : q0 .links = false := by assumption) (c8 : q0 .fns = false := by assumption) (c10 : q0 .snap = false := by assumption) (c13 : q0 .noc = false := by assumption) (c14 : q0 .buf = false := by assumption) (c16 : q0 .dp = false := by assumption) (c17 : q0 .hp = false := by assumption) (c19 : q0 .flight = false := by assumption) (c20 : q0 .out = false := by assumption) :
    Steady q0 z0 (startHost s r a e) := by
  unfold startHost; try (dsimp only)
  with_reducible repeat' (first | assumption | intro _ | apply Steady.ite | apply addReq_st | apply sendReq_st | apply dpArrive_st | apply enqueueData_st | apply send_st | refine getD_st (fun _ _ => ?_) ?_ | split)

theorem dropData_st {s : State} {c : HostCmd} {cls : ℕ} (hs : Steady q0 z0 s) (c0 : q0 .regs = false := by assumption) (c14 : q0 .buf = false := by assumption) (c20 : q0 .out = false := by assumption) :
    Steady q0 z0 (dropData s c cls) := by
  unfold dropData; try (dsimp only)
  with_reducible repeat' (first | assumption | intro _ | apply Steady.ite | apply freeCellsOf_st | split)

theorem refuseUnbound_st {s : State} {c : HostCmd} {cls : ℕ} (hs : Steady q0 z0 s) (c0 : q0 .regs = false := by assumption) (c7 : q0 .links = false := by assumption) (c8 : q0 .fns = false := by assumption) (c10 : q0 .snap = false := by assumption) (c13 : q0 .noc = false := by assumption) (c14 : q0 .buf = false := by assumption) (c19 : q0 .flight = false := by assumption) (c20 : q0 .out = false := by assumption) :
    Steady q0 z0 (refuseUnbound s c cls) := by
  unfold refuseUnbound; try (dsimp only)
  with_reducible repeat' (first | assumption | intro _ | apply Steady.ite | apply dropData_st | apply answerFailed_st | apply countUnbound_st | split)

theorem refuseKept_st {s : State} {r : HostReq} (hs : Steady q0 z0 s) (c0 : q0 .regs = false := by assumption) (c14 : q0 .buf = false := by assumption) (c17 : q0 .hp = false := by assumption) (c20 : q0 .out = false := by assumption) :
    Steady q0 z0 (refuseKept s r) := by
  unfold refuseKept; try (dsimp only)
  with_reducible repeat' (first | assumption | intro _ | apply Steady.ite | apply freeHeld_st | apply putReq_st | apply answerFailed_st | split)

/-- What an access check leaves is steady. -/
def OkVerdict (q0 : Part → Bool) (z0 : State) (v : Verdict) : Prop :=
  match v with
  | .pass t => Steady q0 z0 t
  | .need _ => True
  | .refuse t _ => Steady q0 z0 t

theorem pass_st {t : State} {v : Verdict} (e : v = .pass t) (h : OkVerdict q0 z0 v) : Steady q0 z0 t := by
  subst e; exact h

theorem refuse_st {t : State} {v : Verdict} {b : Bool} (e : v = .refuse t b) (h : OkVerdict q0 z0 v) : Steady q0 z0 t := by
  subst e; exact h

theorem protect_ok {s : State} {u : Unit10} {x : Access} {key : Option Nat} {err : Bool} (hw : RecordWindow u.window)
    (hs : Steady q0 z0 s) (c0 : q0 .regs = false := by assumption) (c7 : q0 .links = false := by assumption) (c8 : q0 .fns = false := by assumption) (c10 : q0 .snap = false := by assumption) (c11 : q0 .pool = false := by assumption) (c13 : q0 .noc = false := by assumption) (c19 : q0 .flight = false := by assumption) (c20 : q0 .out = false := by assumption) : OkVerdict q0 z0 (protect s u x key err) := by
  unfold protect
  dsimp only
  split
  · exact recordFirst_bg hs hw
  split
  · exact hs
  split
  · exact colourTouch_st hs
  · trivial
  · exact recordFirst_bg (Steady.ite (count_bg hs .segTagErr) hs) hw

theorem hostVerdict_ok {s : State} {h : HostCmd} {e err : Bool} (hs : Steady q0 z0 s) (c0 : q0 .regs = false := by assumption) (c7 : q0 .links = false := by assumption) (c8 : q0 .fns = false := by assumption) (c10 : q0 .snap = false := by assumption) (c11 : q0 .pool = false := by assumption) (c13 : q0 .noc = false := by assumption) (c19 : q0 .flight = false := by assumption) (c20 : q0 .out = false := by assumption) :
    OkVerdict q0 z0 (hostVerdict s h e err) := by
  unfold hostVerdict
  dsimp only
  split
  · exact hs
  · have hp : ∀ (u : Unit10) (x : Access) (k : Option Nat) (hw : RecordWindow u.window),
        OkVerdict q0 (atBank s (some e)) (protect (atBank s (some e)) u x k err) :=
      fun u x k hw => protect_ok hw (Steady.refl _ _)
    split
    · exact restore_st hs (pass_st (by assumption) (hp _ _ _ (.port _)))
    · trivial
    · exact restore_st hs (refuse_st (by assumption) (hp _ _ _ (.port _)))

theorem hostRun_st {s : State} {c : Instr} {e err : Bool} (hs : Steady q0 z0 s) (c0 : q0 .regs = false := by assumption) (c6 : q0 .pair = false := by assumption) (c7 : q0 .links = false := by assumption) (c8 : q0 .fns = false := by assumption) (c10 : q0 .snap = false := by assumption) (c11 : q0 .pool = false := by assumption) (c13 : q0 .noc = false := by assumption) (c14 : q0 .buf = false := by assumption) (c16 : q0 .dp = false := by assumption) (c17 : q0 .hp = false := by assumption) (c19 : q0 .flight = false := by assumption) (c20 : q0 .out = false := by assumption) : Steady q0 z0 (hostRun s c e err) := by
  unfold hostRun
  dsimp only
  split
  · exact hs
  split
  · exact refuseUnbound_st hs
  split
  · exact raiseEv_st (refuseUnbound_st hs)
  split
  · exact tagNeed_st hs
  · have ht := refuse_st (by assumption) (hostVerdict_ok hs)
    split
    · exact refuseKept_st (Steady.ite (logUncorrectable_st ht) ht)
    · exact answerFailed_st (dropData_st (Steady.ite (logUncorrectable_st ht) ht))
  · have ht := pass_st (by assumption) (hostVerdict_ok hs)
    split
    · exact putReq_st ht
    split
    · exact s2m_st ht
    split
    · exact s2m_st ht
    split
    · exact addReq_st ht
    split
    · exact startHost_st ht
    · exact withHp_st ht

theorem pumpHost_st {s : State} {p : ℕ} (hs : Steady q0 z0 s) (c0 : q0 .regs = false := by assumption) (c6 : q0 .pair = false := by assumption) (c7 : q0 .links = false := by assumption) (c8 : q0 .fns = false := by assumption) (c10 : q0 .snap = false := by assumption) (c11 : q0 .pool = false := by assumption) (c13 : q0 .noc = false := by assumption) (c14 : q0 .buf = false := by assumption) (c16 : q0 .dp = false := by assumption) (c17 : q0 .hp = false := by assumption) (c19 : q0 .flight = false := by assumption) (c20 : q0 .out = false := by assumption) :
    Steady q0 z0 (pumpHost s p) := by
  unfold pumpHost; try (dsimp only)
  with_reducible repeat' (first | assumption | intro _ | apply Steady.ite | apply hostRun_st | apply withHp_st | apply forAll_st | refine elim_st ?_ (fun _ => ?_) | split)

theorem sendSnp_st {s : State} {q : HostSnp} (hs : Steady q0 z0 s) (c17 : q0 .hp = false := by assumption) (c20 : q0 .out = false := by assumption) :
    Steady q0 z0 (sendSnp s q) := by
  unfold sendSnp; try (dsimp only)
  with_reducible repeat' (first | assumption | intro _ | apply Steady.ite | apply s2m_st | apply withHp_st | split)

theorem flushSnps_st {s : State} {p : ℕ} (hs : Steady q0 z0 s) (c17 : q0 .hp = false := by assumption) (c20 : q0 .out = false := by assumption) :
    Steady q0 z0 (flushSnps s p) := by
  unfold flushSnps; try (dsimp only)
  with_reducible repeat' (first | assumption | intro _ | apply Steady.ite | apply sendSnp_st | apply withHp_st | apply forAll_st | split)

theorem flushConfs_st {s : State} {p : ℕ} (hs : Steady q0 z0 s) (c17 : q0 .hp = false := by assumption) (c20 : q0 .out = false := by assumption) :
    Steady q0 z0 (flushConfs s p) := by
  unfold flushConfs; try (dsimp only)
  with_reducible repeat' (first | assumption | intro _ | apply Steady.ite | apply s2m_st | apply withHp_st | apply forAll_st | split)

theorem finishReq_st {s : State} {r : HostReq} (hs : Steady q0 z0 s) (c0 : q0 .regs = false := by assumption) (c6 : q0 .pair = false := by assumption) (c7 : q0 .links = false := by assumption) (c8 : q0 .fns = false := by assumption) (c10 : q0 .snap = false := by assumption) (c11 : q0 .pool = false := by assumption) (c13 : q0 .noc = false := by assumption) (c14 : q0 .buf = false := by assumption) (c16 : q0 .dp = false := by assumption) (c17 : q0 .hp = false := by assumption) (c19 : q0 .flight = false := by assumption) (c20 : q0 .out = false := by assumption) :
    Steady q0 z0 (finishReq s r) := by
  unfold finishReq; try (dsimp only)
  with_reducible repeat' (first | assumption | intro _ | apply Steady.ite | apply flushConfs_st | apply flushSnps_st | apply pumpHost_st | apply delReq_st | apply unreserveReq_st | split)

theorem putJob_st {s : State} {j : PeerJob} (hs : Steady q0 z0 s) (c17 : q0 .hp = false := by assumption) :
    Steady q0 z0 (putJob s j) := by
  unfold putJob; try (dsimp only)
  with_reducible repeat' (first | assumption | intro _ | apply Steady.ite | apply withHp_st | split)

theorem jobLine_st {s : State} {id : ℕ} {l : LAddr} {e : LineEnd} (hs : Steady q0 z0 s) (c17 : q0 .hp = false := by assumption) :
    Steady q0 z0 (jobLine s id l e) := by
  unfold jobLine; try (dsimp only)
  with_reducible repeat' (first | assumption | intro _ | apply Steady.ite | apply putJob_st | split)

theorem sendAck_st {s : State} {g : Hdr} {a : Agent} (hs : Steady q0 z0 s) (c0 : q0 .regs = false := by assumption) (c6 : q0 .pair = false := by assumption) (c7 : q0 .links = false := by assumption) (c8 : q0 .fns = false := by assumption) (c10 : q0 .snap = false := by assumption) (c13 : q0 .noc = false := by assumption) (c19 : q0 .flight = false := by assumption) (c20 : q0 .out = false := by assumption) :
    Steady q0 z0 (sendAck s g a) := by
  unfold sendAck; try (dsimp only)
  with_reducible repeat' (first | assumption | intro _ | apply Steady.ite | apply dropFwd_st | apply send_st | split)

theorem lateHost_st {s : State} {p : ℕ} (hs : Steady q0 z0 s) (c0 : q0 .regs = false := by assumption) (c7 : q0 .links = false := by assumption) (c8 : q0 .fns = false := by assumption) (c10 : q0 .snap = false := by assumption) (c13 : q0 .noc = false := by assumption) (c19 : q0 .flight = false := by assumption) (c20 : q0 .out = false := by assumption) :
    Steady q0 z0 (lateHost s p) := by
  unfold lateHost; try (dsimp only)
  with_reducible repeat' (first | assumption | intro _ | apply Steady.ite | refine count_bg ?_ (by constructor) | split)

theorem countCxlTmo_st {s : State} {p : ℕ} (hs : Steady q0 z0 s) (c0 : q0 .regs = false := by assumption) (c7 : q0 .links = false := by assumption) (c8 : q0 .fns = false := by assumption) (c10 : q0 .snap = false := by assumption) (c13 : q0 .noc = false := by assumption) (c19 : q0 .flight = false := by assumption) (c20 : q0 .out = false := by assumption) :
    Steady q0 z0 (countCxlTmo s p) := by
  unfold countCxlTmo; try (dsimp only)
  with_reducible repeat' (first | assumption | intro _ | apply Steady.ite | refine count_bg ?_ (by constructor) | apply logUncorrectable_st | split)

theorem endClient_st {s : State} {r : HostReq} (hs : Steady q0 z0 s) (c0 : q0 .regs = false := by assumption) (c7 : q0 .links = false := by assumption) (c8 : q0 .fns = false := by assumption) (c10 : q0 .snap = false := by assumption) (c13 : q0 .noc = false := by assumption) (c14 : q0 .buf = false := by assumption) (c17 : q0 .hp = false := by assumption) (c19 : q0 .flight = false := by assumption) (c20 : q0 .out = false := by assumption) :
    Steady q0 z0 (endClient s r) := by
  unfold endClient; try (dsimp only)
  with_reducible repeat' (first | assumption | intro _ | apply Steady.ite | apply countCxlTmo_st | apply jobLine_st | apply freeHeld_st | apply answerFailed_st | split)

theorem settleRead_st {s : State} {r : HostReq} (hs : Steady q0 z0 s) (c0 : q0 .regs = false := by assumption) (c6 : q0 .pair = false := by assumption) (c7 : q0 .links = false := by assumption) (c8 : q0 .fns = false := by assumption) (c10 : q0 .snap = false := by assumption) (c11 : q0 .pool = false := by assumption) (c13 : q0 .noc = false := by assumption) (c14 : q0 .buf = false := by assumption) (c16 : q0 .dp = false := by assumption) (c17 : q0 .hp = false := by assumption) (c19 : q0 .flight = false := by assumption) (c20 : q0 .out = false := by assumption) :
    Steady q0 z0 (settleRead s r) := by
  unfold settleRead; try (dsimp only)
  with_reducible repeat' (first | assumption | intro _ | apply Steady.ite | apply sendAck_st | apply jobLine_st | apply finishReq_st | apply putReq_st | apply s2m_st | refine getD_st (fun _ _ => ?_) ?_ | refine elim_st ?_ (fun _ => ?_) | split)

theorem hostGrant_st {s : State} {p : ℕ} {m : Hdr} {ndr : ℕ} {res : AtomicRes} (hs : Steady q0 z0 s) (c0 : q0 .regs = false := by assumption) (c6 : q0 .pair = false := by assumption) (c7 : q0 .links = false := by assumption) (c8 : q0 .fns = false := by assumption) (c10 : q0 .snap = false := by assumption) (c11 : q0 .pool = false := by assumption) (c13 : q0 .noc = false := by assumption) (c14 : q0 .buf = false := by assumption) (c16 : q0 .dp = false := by assumption) (c17 : q0 .hp = false := by assumption) (c19 : q0 .flight = false := by assumption) (c20 : q0 .out = false := by assumption) :
    Steady q0 z0 (hostGrant s p m ndr res) := by
  unfold hostGrant; try (dsimp only)
  with_reducible repeat' (first | assumption | intro _ | apply Steady.ite | apply settleRead_st | apply lateHost_st | apply jobLine_st | apply finishReq_st | apply freeHeld_st | apply s2m_st | split)

theorem hostErr_st {s : State} {p : ℕ} {m : Hdr} (hs : Steady q0 z0 s) (c0 : q0 .regs = false := by assumption) (c6 : q0 .pair = false := by assumption) (c7 : q0 .links = false := by assumption) (c8 : q0 .fns = false := by assumption) (c10 : q0 .snap = false := by assumption) (c11 : q0 .pool = false := by assumption) (c13 : q0 .noc = false := by assumption) (c14 : q0 .buf = false := by assumption) (c16 : q0 .dp = false := by assumption) (c17 : q0 .hp = false := by assumption) (c19 : q0 .flight = false := by assumption) (c20 : q0 .out = false := by assumption) :
    Steady q0 z0 (hostErr s p m) := by
  unfold hostErr; try (dsimp only)
  with_reducible repeat' (first | assumption | intro _ | apply Steady.ite | apply endClient_st | apply lateHost_st | apply finishReq_st | split)

theorem hostData_st {s : State} {p : ℕ} {m : Hdr} {d : LineData} (hs : Steady q0 z0 s) (c0 : q0 .regs = false := by assumption) (c6 : q0 .pair = false := by assumption) (c7 : q0 .links = false := by assumption) (c8 : q0 .fns = false := by assumption) (c10 : q0 .snap = false := by assumption) (c11 : q0 .pool = false := by assumption) (c13 : q0 .noc = false := by assumption) (c14 : q0 .buf = false := by assumption) (c16 : q0 .dp = false := by assumption) (c17 : q0 .hp = false := by assumption) (c19 : q0 .flight = false := by assumption) (c20 : q0 .out = false := by assumption) :
    Steady q0 z0 (hostData s p m d) := by
  unfold hostData; try (dsimp only)
  with_reducible repeat' (first | assumption | intro _ | apply Steady.ite | apply settleRead_st | apply endClient_st | apply lateHost_st | apply jobLine_st | apply finishReq_st | apply s2m_st | split)

theorem hostDirect_st {s : State} {p : ℕ} {m : Hdr} {e : LineEnd} (hs : Steady q0 z0 s) (c0 : q0 .regs = false := by assumption) (c6 : q0 .pair = false := by assumption) (c7 : q0 .links = false := by assumption) (c8 : q0 .fns = false := by assumption) (c10 : q0 .snap = false := by assumption) (c11 : q0 .pool = false := by assumption) (c13 : q0 .noc = false := by assumption) (c14 : q0 .buf = false := by assumption) (c16 : q0 .dp = false := by assumption) (c17 : q0 .hp = false := by assumption) (c19 : q0 .flight = false := by assumption) (c20 : q0 .out = false := by assumption) :
    Steady q0 z0 (hostDirect s p m e) := by
  unfold hostDirect; try (dsimp only)
  with_reducible repeat' (first | assumption | intro _ | apply Steady.ite | apply endClient_st | apply lateHost_st | apply jobLine_st | apply finishReq_st | apply s2m_st | split)

theorem datagoWaits_st {s : State} {m : Hdr} (hs : Steady q0 z0 s) (c19 : q0 .flight = false := by assumption) :
    Steady q0 z0 (datagoWaits s m) := by
  unfold datagoWaits; try (dsimp only)
  with_reducible repeat' (first | exact fun _ => rfl | exact skip | assumption | intro _ | apply Steady.ite | split | apply Steady.upd)

theorem poisonGo_st {s : State} {p : ℕ} {m : Hdr} (hs : Steady q0 z0 s) (c0 : q0 .regs = false := by assumption) (c10 : q0 .snap = false := by assumption) (c14 : q0 .buf = false := by assumption) (c19 : q0 .flight = false := by assumption) :
    Steady q0 z0 (poisonGo s p m) := by
  unfold poisonGo; try (dsimp only)
  with_reducible repeat' (first | assumption | intro _ | apply Steady.ite | apply datagoWaits_st | apply enqueueData_st | refine reserveCell_st (by assumption) ?_ | refine someFst_st (by assumption) ?_ | split)

theorem hostDatago_st {s : State} {p : ℕ} {m : Hdr} (hs : Steady q0 z0 s) (c0 : q0 .regs = false := by assumption) (c6 : q0 .pair = false := by assumption) (c7 : q0 .links = false := by assumption) (c8 : q0 .fns = false := by assumption) (c10 : q0 .snap = false := by assumption) (c11 : q0 .pool = false := by assumption) (c13 : q0 .noc = false := by assumption) (c14 : q0 .buf = false := by assumption) (c16 : q0 .dp = false := by assumption) (c17 : q0 .hp = false := by assumption) (c19 : q0 .flight = false := by assumption) (c20 : q0 .out = false := by assumption) :
    Steady q0 z0 (hostDatago s p m) := by
  unfold hostDatago; try (dsimp only)
  with_reducible repeat' (first | assumption | intro _ | apply Steady.ite | apply poisonGo_st | apply datagoWaits_st | apply pumpHost_st | apply freeHeld_st | apply putReq_st | apply s2m_st | apply withHp_st | apply enqueueData_st | apply forAll_st | refine getD_st (fun _ _ => ?_) ?_ | split)

theorem aggAnswer_st {s : State} {n : ℕ} {m : Hdr} {a : Agent} {dirty : Bool} {wb : Bool} {t : BitVec 10} (hs : Steady q0 z0 s) (c0 : q0 .regs = false := by assumption) (c7 : q0 .links = false := by assumption) (c8 : q0 .fns = false := by assumption) (c10 : q0 .snap = false := by assumption) (c13 : q0 .noc = false := by assumption) (c15 : q0 .dir = false := by assumption) (c19 : q0 .flight = false := by assumption) (c20 : q0 .out = false := by assumption) :
    Steady q0 z0 (aggAnswer s n m a dirty wb t) := by
  unfold aggAnswer; try (dsimp only)
  with_reducible repeat' (first | assumption | intro _ | apply Steady.ite | apply settleAgg_st | apply send_st | split)

theorem answerSnoop_st {s : State} {n : ℕ} {m : Hdr} {agg : Bool} {a : Agent} {dirty : Bool} {wb : Bool} {t : BitVec 10} (hs : Steady q0 z0 s) (c0 : q0 .regs = false := by assumption) (c7 : q0 .links = false := by assumption) (c8 : q0 .fns = false := by assumption) (c10 : q0 .snap = false := by assumption) (c13 : q0 .noc = false := by assumption) (c15 : q0 .dir = false := by assumption) (c19 : q0 .flight = false := by assumption) (c20 : q0 .out = false := by assumption) :
    Steady q0 z0 (answerSnoop s n m agg a dirty wb t) := by
  unfold answerSnoop; try (dsimp only)
  with_reducible repeat' (first | assumption | intro _ | apply Steady.ite | apply aggAnswer_st | apply send_st | split)

theorem hostSnoop_st {s : State} {p : ℕ} {m : Hdr} {down : Bool} {agg : Bool} (hs : Steady q0 z0 s) (c0 : q0 .regs = false := by assumption) (c7 : q0 .links = false := by assumption) (c8 : q0 .fns = false := by assumption) (c10 : q0 .snap = false := by assumption) (c13 : q0 .noc = false := by assumption) (c15 : q0 .dir = false := by assumption) (c17 : q0 .hp = false := by assumption) (c19 : q0 .flight = false := by assumption) (c20 : q0 .out = false := by assumption) :
    Steady q0 z0 (hostSnoop s p m down agg) := by
  unfold hostSnoop; try (dsimp only)
  with_reducible repeat' (first | assumption | intro _ | apply Steady.ite | apply answerSnoop_st | apply sendSnp_st | apply withHp_st | split)

theorem keepWrite_st {s : State} {x : Instr × Bool} (hs : Steady q0 z0 s) (c17 : q0 .hp = false := by assumption) :
    Steady q0 z0 (keepWrite s x) := by
  unfold keepWrite; try (dsimp only)
  with_reducible repeat' (first | assumption | intro _ | apply Steady.ite | apply addReq_st | apply withHp_st | split)

theorem execM2sBirsp_ok {s : State} {port : Fin 128} {_toShared : Bool} {tag : BitVec 16} (hs : Steady q0 z0 s) (c0 : q0 .regs = false := by first | assumption | rfl) (c7 : q0 .links = false := by first | assumption | rfl) (c8 : q0 .fns = false := by first | assumption | rfl) (c10 : q0 .snap = false := by first | assumption | rfl) (c13 : q0 .noc = false := by first | assumption | rfl) (c15 : q0 .dir = false := by first | assumption | rfl) (c17 : q0 .hp = false := by first | assumption | rfl) (c19 : q0 .flight = false := by first | assumption | rfl) (c20 : q0 .out = false := by first | assumption | rfl) :
    OkOutcome q0 z0 (execM2sBirsp port _toShared tag s) := by
  unfold execM2sBirsp; try (dsimp only)
  with_reducible repeat' (first | intro _ | apply next_ok | apply ite_ok | assumption | intro _ | apply Steady.ite | apply keepWrite_st | apply answerSnoop_st | apply withHp_st | apply onFabric_st | apply forAll_st | split)

theorem execM2sBiconflict_ok {s : State} {port : Fin 128} {addr : BitVec 64} {tag : BitVec 16} (hs : Steady q0 z0 s) (c17 : q0 .hp = false := by first | assumption | rfl) (c20 : q0 .out = false := by first | assumption | rfl) :
    OkOutcome q0 z0 (execM2sBiconflict port addr tag s) := by
  unfold execM2sBiconflict; try (dsimp only)
  with_reducible repeat' (first | intro _ | apply next_ok | apply ite_ok | assumption | intro _ | apply Steady.ite | apply flushConfs_st | apply withHp_st | apply onFabric_st | split)

theorem hostReq_st {s : State} {p : ℕ} {c : Instr} (hs : Steady q0 z0 s) (c0 : q0 .regs = false := by assumption) (c6 : q0 .pair = false := by assumption) (c7 : q0 .links = false := by assumption) (c8 : q0 .fns = false := by assumption) (c10 : q0 .snap = false := by assumption) (c11 : q0 .pool = false := by assumption) (c13 : q0 .noc = false := by assumption) (c14 : q0 .buf = false := by assumption) (c16 : q0 .dp = false := by assumption) (c17 : q0 .hp = false := by assumption) (c19 : q0 .flight = false := by assumption) (c20 : q0 .out = false := by assumption) :
    Steady q0 z0 (hostReq s p c) := by
  unfold hostReq; try (dsimp only)
  with_reducible repeat' (first | assumption | intro _ | apply Steady.ite | apply hostRun_st | apply onFabric_st | split)

theorem hostWrite_st {s : State} {p : ℕ} {c : Instr} (hs : Steady q0 z0 s) (c0 : q0 .regs = false := by assumption) (c6 : q0 .pair = false := by assumption) (c7 : q0 .links = false := by assumption) (c8 : q0 .fns = false := by assumption) (c10 : q0 .snap = false := by assumption) (c11 : q0 .pool = false := by assumption) (c13 : q0 .noc = false := by assumption) (c14 : q0 .buf = false := by assumption) (c16 : q0 .dp = false := by assumption) (c17 : q0 .hp = false := by assumption) (c19 : q0 .flight = false := by assumption) (c20 : q0 .out = false := by assumption) :
    Steady q0 z0 (hostWrite s p c) := by
  unfold hostWrite; try (dsimp only)
  with_reducible repeat' (first | assumption | intro _ | apply Steady.ite | apply hostRun_st | apply unback_st | apply advertise_st | apply takeMin_st | apply onFabric_st | split)

theorem execM2sMemrd_ok {s : State} {port : Fin 128} {mv : MetaVal} {addr : BitVec 64} {tag : BitVec 16} (hs : Steady q0 z0 s) (c0 : q0 .regs = false := by first | assumption | rfl) (c6 : q0 .pair = false := by first | assumption | rfl) (c7 : q0 .links = false := by first | assumption | rfl) (c8 : q0 .fns = false := by first | assumption | rfl) (c10 : q0 .snap = false := by first | assumption | rfl) (c11 : q0 .pool = false := by first | assumption | rfl) (c13 : q0 .noc = false := by first | assumption | rfl) (c14 : q0 .buf = false := by first | assumption | rfl) (c16 : q0 .dp = false := by first | assumption | rfl) (c17 : q0 .hp = false := by first | assumption | rfl) (c19 : q0 .flight = false := by first | assumption | rfl) (c20 : q0 .out = false := by first | assumption | rfl) :
    OkOutcome q0 z0 (execM2sMemrd port mv addr tag s) := by
  unfold execM2sMemrd; try (dsimp only)
  with_reducible repeat' (first | intro _ | apply next_ok | apply ite_ok | assumption | intro _ | apply Steady.ite | apply hostReq_st | split)

theorem execM2sMemrddata_ok {s : State} {port : Fin 128} {addr : BitVec 64} {tag : BitVec 16} (hs : Steady q0 z0 s) (c0 : q0 .regs = false := by first | assumption | rfl) (c6 : q0 .pair = false := by first | assumption | rfl) (c7 : q0 .links = false := by first | assumption | rfl) (c8 : q0 .fns = false := by first | assumption | rfl) (c10 : q0 .snap = false := by first | assumption | rfl) (c11 : q0 .pool = false := by first | assumption | rfl) (c13 : q0 .noc = false := by first | assumption | rfl) (c14 : q0 .buf = false := by first | assumption | rfl) (c16 : q0 .dp = false := by first | assumption | rfl) (c17 : q0 .hp = false := by first | assumption | rfl) (c19 : q0 .flight = false := by first | assumption | rfl) (c20 : q0 .out = false := by first | assumption | rfl) :
    OkOutcome q0 z0 (execM2sMemrddata port addr tag s) := by
  unfold execM2sMemrddata; try (dsimp only)
  with_reducible repeat' (first | intro _ | apply next_ok | apply ite_ok | assumption | intro _ | apply Steady.ite | apply hostReq_st | split)

theorem execM2sMeminv_ok {s : State} {port : Fin 128} {nt : Bool} {mv : MetaVal} {addr : BitVec 64} {tag : BitVec 16} (hs : Steady q0 z0 s) (c0 : q0 .regs = false := by first | assumption | rfl) (c6 : q0 .pair = false := by first | assumption | rfl) (c7 : q0 .links = false := by first | assumption | rfl) (c8 : q0 .fns = false := by first | assumption | rfl) (c10 : q0 .snap = false := by first | assumption | rfl) (c11 : q0 .pool = false := by first | assumption | rfl) (c13 : q0 .noc = false := by first | assumption | rfl) (c14 : q0 .buf = false := by first | assumption | rfl) (c16 : q0 .dp = false := by first | assumption | rfl) (c17 : q0 .hp = false := by first | assumption | rfl) (c19 : q0 .flight = false := by first | assumption | rfl) (c20 : q0 .out = false := by first | assumption | rfl) :
    OkOutcome q0 z0 (execM2sMeminv port nt mv addr tag s) := by
  unfold execM2sMeminv; try (dsimp only)
  with_reducible repeat' (first | intro _ | apply next_ok | apply ite_ok | assumption | intro _ | apply Steady.ite | apply hostReq_st | apply s2m_st | apply onFabric_st | split)

theorem execM2sMemspecrd_ok {s : State} {_port : Fin 128} {_addr : BitVec 64} {_tag : BitVec 16} (hs : Steady q0 z0 s) :
    OkOutcome q0 z0 (execM2sMemspecrd _port _addr _tag s) := by
  unfold execM2sMemspecrd; try (dsimp only)
  with_reducible repeat' (first | intro _ | apply next_ok | apply ite_ok | assumption | intro _ | apply Steady.ite | split)

theorem execM2sMemclnevct_ok {s : State} {port : Fin 128} {addr : BitVec 64} {tag : BitVec 16} (hs : Steady q0 z0 s) (c0 : q0 .regs = false := by first | assumption | rfl) (c6 : q0 .pair = false := by first | assumption | rfl) (c7 : q0 .links = false := by first | assumption | rfl) (c8 : q0 .fns = false := by first | assumption | rfl) (c10 : q0 .snap = false := by first | assumption | rfl) (c11 : q0 .pool = false := by first | assumption | rfl) (c13 : q0 .noc = false := by first | assumption | rfl) (c14 : q0 .buf = false := by first | assumption | rfl) (c16 : q0 .dp = false := by first | assumption | rfl) (c17 : q0 .hp = false := by first | assumption | rfl) (c19 : q0 .flight = false := by first | assumption | rfl) (c20 : q0 .out = false := by first | assumption | rfl) :
    OkOutcome q0 z0 (execM2sMemclnevct port addr tag s) := by
  unfold execM2sMemclnevct; try (dsimp only)
  with_reducible repeat' (first | intro _ | apply next_ok | apply ite_ok | assumption | intro _ | apply Steady.ite | apply hostReq_st | split)

theorem execM2sMemwr_ok {s : State} {port : Fin 128} {addr : BitVec 64} {tag : BitVec 16} {data : LineData} {poison : Bool} (hs : Steady q0 z0 s) (c0 : q0 .regs = false := by first | assumption | rfl) (c6 : q0 .pair = false := by first | assumption | rfl) (c7 : q0 .links = false := by first | assumption | rfl) (c8 : q0 .fns = false := by first | assumption | rfl) (c10 : q0 .snap = false := by first | assumption | rfl) (c11 : q0 .pool = false := by first | assumption | rfl) (c13 : q0 .noc = false := by first | assumption | rfl) (c14 : q0 .buf = false := by first | assumption | rfl) (c16 : q0 .dp = false := by first | assumption | rfl) (c17 : q0 .hp = false := by first | assumption | rfl) (c19 : q0 .flight = false := by first | assumption | rfl) (c20 : q0 .out = false := by first | assumption | rfl) :
    OkOutcome q0 z0 (execM2sMemwr port addr tag data poison s) := by
  unfold execM2sMemwr; try (dsimp only)
  with_reducible repeat' (first | intro _ | apply next_ok | apply ite_ok | assumption | intro _ | apply Steady.ite | apply hostWrite_st | split)

theorem execM2sMemwrptl_ok {s : State} {port : Fin 128} {addr : BitVec 64} {tag : BitVec 16} {data : LineData} {mask : BitVec 64} {poison : Bool} (hs : Steady q0 z0 s) (c0 : q0 .regs = false := by first | assumption | rfl) (c6 : q0 .pair = false := by first | assumption | rfl) (c7 : q0 .links = false := by first | assumption | rfl) (c8 : q0 .fns = false := by first | assumption | rfl) (c10 : q0 .snap = false := by first | assumption | rfl) (c11 : q0 .pool = false := by first | assumption | rfl) (c13 : q0 .noc = false := by first | assumption | rfl) (c14 : q0 .buf = false := by first | assumption | rfl) (c16 : q0 .dp = false := by first | assumption | rfl) (c17 : q0 .hp = false := by first | assumption | rfl) (c19 : q0 .flight = false := by first | assumption | rfl) (c20 : q0 .out = false := by first | assumption | rfl) :
    OkOutcome q0 z0 (execM2sMemwrptl port addr tag data mask poison s) := by
  unfold execM2sMemwrptl; try (dsimp only)
  with_reducible repeat' (first | intro _ | apply next_ok | apply ite_ok | assumption | intro _ | apply Steady.ite | apply hostWrite_st | split)

theorem hostTimeout_st {s : State} {p : Nat} {t : BitVec 10} (hs : Steady q0 z0 s) (c0 : q0 .regs = false := by assumption) (c7 : q0 .links = false := by assumption) (c8 : q0 .fns = false := by assumption) (c10 : q0 .snap = false := by assumption) (c13 : q0 .noc = false := by assumption) (c14 : q0 .buf = false := by assumption) (c17 : q0 .hp = false := by assumption) (c19 : q0 .flight = false := by assumption) (c20 : q0 .out = false := by assumption) : Steady q0 z0 (hostTimeout s p t) := by
  unfold hostTimeout
  split
  · exact Steady.ite hs (flushSnps_st (flushConfs_st (putReq_st (endClient_st hs))))
  · exact hs

theorem hostExpire_st {s : State} {p : ℕ} {t : BitVec 10} (hs : Steady q0 z0 s) (c0 : q0 .regs = false := by assumption) (c6 : q0 .pair = false := by assumption) (c7 : q0 .links = false := by assumption) (c8 : q0 .fns = false := by assumption) (c10 : q0 .snap = false := by assumption) (c11 : q0 .pool = false := by assumption) (c13 : q0 .noc = false := by assumption) (c14 : q0 .buf = false := by assumption) (c16 : q0 .dp = false := by assumption) (c17 : q0 .hp = false := by assumption) (c19 : q0 .flight = false := by assumption) (c20 : q0 .out = false := by assumption) :
    Steady q0 z0 (hostExpire s p t) := by
  unfold hostExpire; try (dsimp only)
  with_reducible repeat' (first | assumption | intro _ | apply Steady.ite | apply endClient_st | apply finishReq_st | split)

theorem hostLost_st {s : State} {p : Nat} (hs : Steady q0 z0 s) (c0 : q0 .regs = false := by assumption) (c11 : q0 .pool = false := by assumption) (c14 : q0 .buf = false := by assumption) (c17 : q0 .hp = false := by assumption) (c20 : q0 .out = false := by assumption) : Steady q0 z0 (hostLost s p) := by
  unfold hostLost
  extract_lets mine held other l v src t
  have hv : Steady q0 z0 v := by
    refine forAll_st (forAll_st hs (fun u r hu => freeHeld_st hu)) (fun u x hu => ?_)
    cases hostCmd x.1 with
    | none => exact hu
    | some h => exact dropData_st hu
  clear_value v
  refine withHp_st ?_
  apply Steady.upd hv <;> first | exact fun _ => rfl | exact skip

end Sys2Proof.Laws
end

