-- ==== Sys2Proof/Laws/SteadyCoach.lean ====
section
/-! SUPPORT. Every operation of Machine/Coach.lean is steady. -/

set_option Elab.async false
set_option linter.unusedTactic false
set_option linter.unreachableTactic false

namespace Sys2Proof.Laws

open Sys2Proof.Machine

variable {q0 : Part → Bool} {z0 : State}

theorem withCo_st {s : State} {c : Coaches} (hs : Steady q0 z0 s) (c18 : q0 .co = false := by assumption) :
    Steady q0 z0 (withCo s c) := by
  unfold withCo; try (dsimp only)
  with_reducible repeat' (first | exact fun _ => rfl | exact skip | assumption | intro _ | apply Steady.ite | split | apply Steady.upd)

theorem setCoachState_st {s : State} {k : ℕ} {v : ℕ} (hs : Steady q0 z0 s) (c0 : q0 .regs = false := by assumption) (c1 : q0 .settings = false := by assumption) :
    Steady q0 z0 (setCoachState s k v) := by
  unfold setCoachState; try (dsimp only)
  with_reducible repeat' (first | assumption | intro _ | apply Steady.ite | apply wr_st | split)

theorem setChan_st {s : State} {i : ℕ} {c : Chan} (hs : Steady q0 z0 s) (c18 : q0 .co = false := by assumption) :
    Steady q0 z0 (setChan s i c) := by
  unfold setChan; try (dsimp only)
  with_reducible repeat' (first | assumption | intro _ | apply Steady.ite | apply withCo_st | split)

theorem putUnit_st {s : State} {u : UnitRun} (hs : Steady q0 z0 s) (c18 : q0 .co = false := by assumption) :
    Steady q0 z0 (putUnit s u) := by
  unfold putUnit; try (dsimp only)
  with_reducible repeat' (first | assumption | intro _ | apply Steady.ite | apply withCo_st | split)

theorem dropUnit_st {s : State} {u : UnitRun} (hs : Steady q0 z0 s) (c18 : q0 .co = false := by assumption) :
    Steady q0 z0 (dropUnit s u) := by
  unfold dropUnit; try (dsimp only)
  with_reducible repeat' (first | assumption | intro _ | apply Steady.ite | apply withCo_st | split)

theorem addCreq_st {s : State} {r : CoachReq} (hs : Steady q0 z0 s) (c18 : q0 .co = false := by assumption) :
    Steady q0 z0 (addCreq s r) := by
  unfold addCreq; try (dsimp only)
  with_reducible repeat' (first | assumption | intro _ | apply Steady.ite | apply withCo_st | split)

theorem putCreq_st {s : State} {r : CoachReq} (hs : Steady q0 z0 s) (c18 : q0 .co = false := by assumption) :
    Steady q0 z0 (putCreq s r) := by
  unfold putCreq; try (dsimp only)
  with_reducible repeat' (first | assumption | intro _ | apply Steady.ite | apply withCo_st | split)

theorem delCreq_st {s : State} {r : CoachReq} (hs : Steady q0 z0 s) (c13 : q0 .noc = false := by assumption) (c18 : q0 .co = false := by assumption) :
    Steady q0 z0 (delCreq s r) := by
  unfold delCreq; try (dsimp only)
  with_reducible repeat' (first | assumption | intro _ | apply Steady.ite | apply withCo_st | apply unreserveReq_st | split)

theorem askHome_st {s : State} {r : CoachReq} (hs : Steady q0 z0 s) (c0 : q0 .regs = false := by assumption) (c6 : q0 .pair = false := by assumption) (c7 : q0 .links = false := by assumption) (c8 : q0 .fns = false := by assumption) (c10 : q0 .snap = false := by assumption) (c13 : q0 .noc = false := by assumption) (c18 : q0 .co = false := by assumption) (c19 : q0 .flight = false := by assumption) (c20 : q0 .out = false := by assumption) :
    Steady q0 z0 (askHome s r) := by
  unfold askHome; try (dsimp only)
  with_reducible repeat' (first | assumption | intro _ | apply Steady.ite | apply addCreq_st | apply sendReq_st | split)

theorem readDirect_st {s : State} {r : CoachReq} {p : ℕ} (hs : Steady q0 z0 s) (c0 : q0 .regs = false := by assumption) (c7 : q0 .links = false := by assumption) (c8 : q0 .fns = false := by assumption) (c10 : q0 .snap = false := by assumption) (c13 : q0 .noc = false := by assumption) (c18 : q0 .co = false := by assumption) (c19 : q0 .flight = false := by assumption) (c20 : q0 .out = false := by assumption) :
    Steady q0 z0 (readDirect s r p) := by
  unfold readDirect; try (dsimp only)
  with_reducible repeat' (first | assumption | intro _ | apply Steady.ite | apply addCreq_st | apply send_st | split)

theorem writeDirect_st {s : State} {r : CoachReq} {p : ℕ} (hs : Steady q0 z0 s) (c0 : q0 .regs = false := by assumption) (c10 : q0 .snap = false := by assumption) (c14 : q0 .buf = false := by assumption) (c18 : q0 .co = false := by assumption) :
    Steady q0 z0 (writeDirect s r p) := by
  unfold writeDirect; try (dsimp only)
  with_reducible repeat' (first | assumption | intro _ | apply Steady.ite | apply addCreq_st | apply enqueueData_st | refine getD_st (fun _ _ => ?_) ?_ | split)

theorem operateDirect_st {s : State} {r : CoachReq} {p : ℕ} {f : Hdr → RdFor} (hs : Steady q0 z0 s) (c0 : q0 .regs = false := by assumption) (c6 : q0 .pair = false := by assumption) (c7 : q0 .links = false := by assumption) (c8 : q0 .fns = false := by assumption) (c10 : q0 .snap = false := by assumption) (c13 : q0 .noc = false := by assumption) (c14 : q0 .buf = false := by assumption) (c16 : q0 .dp = false := by assumption) (c18 : q0 .co = false := by assumption) (c19 : q0 .flight = false := by assumption) (c20 : q0 .out = false := by assumption) :
    Steady q0 z0 (operateDirect s r p f) := by
  unfold operateDirect; try (dsimp only)
  with_reducible repeat' (first | assumption | intro _ | apply Steady.ite | apply addCreq_st | apply dpArrive_st | split)

theorem colourDirect_st {s : State} {r : CoachReq} {p : ℕ} {d : LineData} {k : BitVec 64} (hs : Steady q0 z0 s) (c0 : q0 .regs = false := by assumption) (c6 : q0 .pair = false := by assumption) (c7 : q0 .links = false := by assumption) (c8 : q0 .fns = false := by assumption) (c10 : q0 .snap = false := by assumption) (c13 : q0 .noc = false := by assumption) (c14 : q0 .buf = false := by assumption) (c16 : q0 .dp = false := by assumption) (c18 : q0 .co = false := by assumption) (c19 : q0 .flight = false := by assumption) (c20 : q0 .out = false := by assumption) :
    Steady q0 z0 (colourDirect s r p d k) := by
  unfold colourDirect; try (dsimp only)
  with_reducible repeat' (first | assumption | intro _ | apply Steady.ite | apply addCreq_st | apply dpArrive_st | split)

theorem setCacheSet_st {s : State} {k : ℕ} {l : LAddr} {v : List CLine} (hs : Steady q0 z0 s) (c18 : q0 .co = false := by assumption) :
    Steady q0 z0 (setCacheSet s k l v) := by
  unfold setCacheSet; try (dsimp only)
  with_reducible repeat' (first | assumption | intro _ | apply Steady.ite | apply withCo_st | split)

theorem dropVictim_st {s : State} {k : ℕ} {l : LAddr} (hs : Steady q0 z0 s) (c18 : q0 .co = false := by assumption) :
    Steady q0 z0 (dropVictim s k l) := by
  unfold dropVictim; try (dsimp only)
  with_reducible repeat' (first | assumption | intro _ | apply Steady.ite | apply withCo_st | split)

theorem uncache_st {s : State} {k : ℕ} {l : LAddr} (hs : Steady q0 z0 s) (c18 : q0 .co = false := by assumption) :
    Steady q0 z0 (uncache s k l) := by
  unfold uncache; try (dsimp only)
  with_reducible repeat' (first | assumption | intro _ | apply Steady.ite | apply dropVictim_st | apply setCacheSet_st | split)

theorem cleanCopy_st {s : State} {k : ℕ} {l : LAddr} (hs : Steady q0 z0 s) (c18 : q0 .co = false := by assumption) :
    Steady q0 z0 (cleanCopy s k l) := by
  unfold cleanCopy; try (dsimp only)
  with_reducible repeat' (first | assumption | intro _ | apply Steady.ite | apply setCacheSet_st | apply withCo_st | split)

theorem writeBack_st {s : State} {k : ℕ} {c : CLine} (hs : Steady q0 z0 s) (c0 : q0 .regs = false := by assumption) (c6 : q0 .pair = false := by assumption) (c7 : q0 .links = false := by assumption) (c8 : q0 .fns = false := by assumption) (c10 : q0 .snap = false := by assumption) (c13 : q0 .noc = false := by assumption) (c18 : q0 .co = false := by assumption) (c19 : q0 .flight = false := by assumption) (c20 : q0 .out = false := by assumption) :
    Steady q0 z0 (writeBack s k c) := by
  unfold writeBack; try (dsimp only)
  with_reducible repeat' (first | assumption | intro _ | apply Steady.ite | apply askHome_st | apply withCo_st | split)

theorem nextVictim_st {s : State} {k : ℕ} (hs : Steady q0 z0 s) (c0 : q0 .regs = false := by assumption) (c6 : q0 .pair = false := by assumption) (c7 : q0 .links = false := by assumption) (c8 : q0 .fns = false := by assumption) (c10 : q0 .snap = false := by assumption) (c13 : q0 .noc = false := by assumption) (c18 : q0 .co = false := by assumption) (c19 : q0 .flight = false := by assumption) (c20 : q0 .out = false := by assumption) :
    Steady q0 z0 (nextVictim s k) := by
  unfold nextVictim; try (dsimp only)
  with_reducible repeat' (first | assumption | intro _ | apply Steady.ite | apply writeBack_st | apply withCo_st | split)

theorem install_st {s : State} {k : ℕ} {c : CLine} (hs : Steady q0 z0 s) (c0 : q0 .regs = false := by assumption) (c6 : q0 .pair = false := by assumption) (c7 : q0 .links = false := by assumption) (c8 : q0 .fns = false := by assumption) (c10 : q0 .snap = false := by assumption) (c13 : q0 .noc = false := by assumption) (c18 : q0 .co = false := by assumption) (c19 : q0 .flight = false := by assumption) (c20 : q0 .out = false := by assumption) :
    Steady q0 z0 (install s k c) := by
  unfold install; try (dsimp only)
  with_reducible repeat' (first | assumption | intro _ | apply Steady.ite | apply writeBack_st | apply dropVictim_st | apply setCacheSet_st | split)

theorem flushCache_st {s : State} {k : ℕ} (hs : Steady q0 z0 s) (c0 : q0 .regs = false := by assumption) (c6 : q0 .pair = false := by assumption) (c7 : q0 .links = false := by assumption) (c8 : q0 .fns = false := by assumption) (c10 : q0 .snap = false := by assumption) (c13 : q0 .noc = false := by assumption) (c18 : q0 .co = false := by assumption) (c19 : q0 .flight = false := by assumption) (c20 : q0 .out = false := by assumption) :
    Steady q0 z0 (flushCache s k) := by
  unfold flushCache; try (dsimp only)
  with_reducible repeat' (first | assumption | intro _ | apply Steady.ite | apply writeBack_st | apply uncache_st | apply forAll_st | split)

theorem coachSnoop_st {s : State} {k : ℕ} {m : Hdr} {down : Bool} {agg : Bool} (hs : Steady q0 z0 s) (c0 : q0 .regs = false := by assumption) (c7 : q0 .links = false := by assumption) (c8 : q0 .fns = false := by assumption) (c10 : q0 .snap = false := by assumption) (c13 : q0 .noc = false := by assumption) (c15 : q0 .dir = false := by assumption) (c18 : q0 .co = false := by assumption) (c19 : q0 .flight = false := by assumption) (c20 : q0 .out = false := by assumption) :
    Steady q0 z0 (coachSnoop s k m down agg) := by
  unfold coachSnoop; try (dsimp only)
  with_reducible repeat' (first | assumption | intro _ | apply Steady.ite | apply cleanCopy_st | apply uncache_st | apply withCo_st | apply answerSnoop_st | split)

theorem coachDatago_st {s : State} {k : ℕ} {m : Hdr} (hs : Steady q0 z0 s) (c0 : q0 .regs = false := by assumption) (c6 : q0 .pair = false := by assumption) (c7 : q0 .links = false := by assumption) (c8 : q0 .fns = false := by assumption) (c10 : q0 .snap = false := by assumption) (c13 : q0 .noc = false := by assumption) (c14 : q0 .buf = false := by assumption) (c18 : q0 .co = false := by assumption) (c19 : q0 .flight = false := by assumption) (c20 : q0 .out = false := by assumption) :
    Steady q0 z0 (coachDatago s k m) := by
  unfold coachDatago; try (dsimp only)
  with_reducible repeat' (first | assumption | intro _ | apply Steady.ite | apply nextVictim_st | apply uncache_st | apply putCreq_st | apply withCo_st | apply enqueueData_st | apply send_st | split)

theorem lateCoach_st {s : State} {k : ℕ} (hs : Steady q0 z0 s) (c0 : q0 .regs = false := by assumption) (c7 : q0 .links = false := by assumption) (c8 : q0 .fns = false := by assumption) (c10 : q0 .snap = false := by assumption) (c13 : q0 .noc = false := by assumption) (c19 : q0 .flight = false := by assumption) (c20 : q0 .out = false := by assumption) :
    Steady q0 z0 (lateCoach s k) := by
  unfold lateCoach; try (dsimp only)
  with_reducible repeat' (first | assumption | intro _ | apply Steady.ite | refine count_bg ?_ (by constructor) | split)

end Sys2Proof.Laws
end

