-- ==== Sys2Proof/Laws/SteadyUnits.lean ====
section
/-! SUPPORT. Every operation of Machine/Units.lean is steady. -/

set_option Elab.async false
set_option linter.unusedTactic false
set_option linter.unreachableTactic false

namespace Sys2Proof.Laws

open Sys2Proof.Machine

variable {q0 : Part → Bool} {z0 : State}

theorem putDesc_st {s : State} {d : Desc} (hs : Steady q0 z0 s) (c18 : q0 .co = false := by assumption) :
    Steady q0 z0 (putDesc s d) := by
  unfold putDesc; try (dsimp only)
  with_reducible repeat' (first | assumption | intro _ | apply Steady.ite | apply withCo_st | split)

theorem discardItem_st {s : State} {c : ℕ} (hs : Steady q0 z0 s) (c0 : q0 .regs = false := by assumption) :
    Steady q0 z0 (discardItem s c) := by
  unfold discardItem; try (dsimp only)
  with_reducible repeat' (first | assumption | intro _ | apply Steady.ite | refine wr_bg ?_ (by constructor) | split)

theorem recordFor_st {s : State} {d : Desc} {status : ℕ} {err : ℕ} (hs : Steady q0 z0 s) (c21 : q0 .fresh = false := by assumption) :
    Steady q0 z0 (recordFor s d status err).1 := by
  unfold recordFor; try (dsimp only)
  with_reducible repeat' (first | assumption | intro _ | apply Steady.ite | apply usedFree_st | split)

theorem retire_st {s : State} {d : Desc} (hs : Steady q0 z0 s) (c0 : q0 .regs = false := by assumption) (c10 : q0 .snap = false := by assumption) (c18 : q0 .co = false := by assumption) (c21 : q0 .fresh = false := by assumption) :
    Steady q0 z0 (retire s d) := by
  unfold retire; try (dsimp only)
  with_reducible repeat' (first | assumption | intro _ | apply Steady.ite | apply recordFor_st | apply putDesc_st | apply perfHit_st | refine elim_st ?_ (fun _ => ?_) | split)

theorem settleDesc_st {s : State} {d : Desc} (hs : Steady q0 z0 s) (c0 : q0 .regs = false := by assumption) (c10 : q0 .snap = false := by assumption) (c18 : q0 .co = false := by assumption) (c21 : q0 .fresh = false := by assumption) :
    Steady q0 z0 (settleDesc s d) := by
  unfold settleDesc; try (dsimp only)
  with_reducible repeat' (first | assumption | intro _ | apply Steady.ite | apply retire_st | apply putDesc_st | split)

theorem stopSlot_st {s : State} {i : ℕ} (hs : Steady q0 z0 s) (c16 : q0 .dp = false := by assumption) :
    Steady q0 z0 (stopSlot s i) := by
  unfold stopSlot; try (dsimp only)
  with_reducible repeat' (first | assumption | intro _ | apply Steady.ite | apply setSlot_st | apply forAll_st | split)

theorem stopAccepted_st {s : State} {house : ℕ} {d : BitVec 512} (hs : Steady q0 z0 s) (c16 : q0 .dp = false := by assumption) :
    Steady q0 z0 (stopAccepted s house d).1 := by
  unfold stopAccepted; try (dsimp only)
  with_reducible repeat' (first | assumption | intro _ | apply Steady.ite | apply stopSlot_st | split)

theorem dropRanges_st {s : State} {c : ℕ} {g : BitVec 12} {e : ℕ} (hs : Steady q0 z0 s) (c18 : q0 .co = false := by assumption) :
    Steady q0 z0 (dropRanges s c g e).1 := by
  unfold dropRanges; try (dsimp only)
  with_reducible repeat' (first | assumption | intro _ | apply Steady.ite | apply withCo_st | apply Steady.foldl | refine foldPair_st _ ?_ (fun _ _ _ => ?_) | split)

theorem stopDesc_st {s : State} {d : Desc} (hs : Steady q0 z0 s) (c16 : q0 .dp = false := by assumption) (c18 : q0 .co = false := by assumption) :
    Steady q0 z0 (stopDesc s d).1 := by
  unfold stopDesc; try (dsimp only)
  with_reducible repeat' (first | assumption | intro _ | apply Steady.ite | apply dropRanges_st | apply stopAccepted_st | split)

theorem advanceGen_st {s : State} {c : ℕ} (hs : Steady q0 z0 s) (c0 : q0 .regs = false := by assumption) (c14 : q0 .buf = false := by assumption) (c18 : q0 .co = false := by assumption) :
    Steady q0 z0 (advanceGen s c) := by
  unfold advanceGen; try (dsimp only)
  with_reducible repeat' (first | exact fun _ => rfl | exact skip | assumption | intro _ | apply Steady.ite | apply setChan_st | refine wr_bg ?_ (by constructor) | split | apply Steady.upd)

theorem settleGen_st {s : State} {c : ℕ} (hs : Steady q0 z0 s) (c0 : q0 .regs = false := by assumption) (c14 : q0 .buf = false := by assumption) (c18 : q0 .co = false := by assumption) :
    Steady q0 z0 (settleGen s c) := by
  unfold settleGen; try (dsimp only)
  with_reducible repeat' (first | assumption | intro _ | apply Steady.ite | apply advanceGen_st | split)

theorem unitEnded_st {s : State} {c : ℕ} {g : BitVec 12} {e : ℕ} {x : UnitErr} {res : BitVec 64 × BitVec 64} (hs : Steady q0 z0 s) (c0 : q0 .regs = false := by assumption) (c10 : q0 .snap = false := by assumption) (c16 : q0 .dp = false := by assumption) (c18 : q0 .co = false := by assumption) (c21 : q0 .fresh = false := by assumption) :
    Steady q0 z0 (unitEnded s c g e x res) := by
  unfold unitEnded; try (dsimp only)
  with_reducible repeat' (first | assumption | intro _ | apply Steady.ite | apply stopDesc_st | apply settleDesc_st | apply discardItem_st | split)

theorem freeLanding_st {s : State} {u : UnitRun} (hs : Steady q0 z0 s) (c0 : q0 .regs = false := by assumption) (c14 : q0 .buf = false := by assumption) (c20 : q0 .out = false := by assumption) :
    Steady q0 z0 (freeLanding s u) := by
  unfold freeLanding; try (dsimp only)
  with_reducible repeat' (first | exact fun _ => rfl | exact skip | assumption | intro _ | apply Steady.ite | apply freeCellsOf_st | split | apply Steady.upd)

theorem endUnit_st {s : State} {u : UnitRun} {res : BitVec 64 × BitVec 64} (hs : Steady q0 z0 s) (c0 : q0 .regs = false := by assumption) (c7 : q0 .links = false := by assumption) (c8 : q0 .fns = false := by assumption) (c10 : q0 .snap = false := by assumption) (c13 : q0 .noc = false := by assumption) (c14 : q0 .buf = false := by assumption) (c16 : q0 .dp = false := by assumption) (c18 : q0 .co = false := by assumption) (c19 : q0 .flight = false := by assumption) (c20 : q0 .out = false := by assumption) (c21 : q0 .fresh = false := by assumption) :
    Steady q0 z0 (endUnit s u res) := by
  unfold endUnit; try (dsimp only)
  with_reducible repeat' (first | assumption | intro _ | apply Steady.ite | apply freeLanding_st | apply unitEnded_st | apply settleGen_st | apply dropUnit_st | refine count_bg ?_ (by constructor) | apply send_st | split)

theorem broadcast_st {s : State} {house : ℕ} {c : Fin 16 → Instr} (hs : Steady q0 z0 s) (c0 : q0 .regs = false := by assumption) (c7 : q0 .links = false := by assumption) (c8 : q0 .fns = false := by assumption) (c10 : q0 .snap = false := by assumption) (c13 : q0 .noc = false := by assumption) (c19 : q0 .flight = false := by assumption) (c20 : q0 .out = false := by assumption) :
    Steady q0 z0 (broadcast s house c) := by
  unfold broadcast; try (dsimp only)
  with_reducible repeat' (first | assumption | intro _ | apply Steady.ite | apply sendTwin_st | apply sendFrom_st | apply forAll_st | split)

theorem migCast_st {s : State} {u : UnitRun} {p : UnitPhase} {w : ℕ} (hs : Steady q0 z0 s) (c0 : q0 .regs = false := by assumption) (c7 : q0 .links = false := by assumption) (c8 : q0 .fns = false := by assumption) (c10 : q0 .snap = false := by assumption) (c13 : q0 .noc = false := by assumption) (c18 : q0 .co = false := by assumption) (c19 : q0 .flight = false := by assumption) (c20 : q0 .out = false := by assumption) :
    Steady q0 z0 (migCast s u p w) := by
  unfold migCast; try (dsimp only)
  with_reducible repeat' (first | assumption | intro _ | apply Steady.ite | apply broadcast_st | apply putUnit_st | split)

theorem consumeLine_st {s : State} {u : UnitRun} {x : Bool} (hs : Steady q0 z0 s) (c0 : q0 .regs = false := by assumption) (c14 : q0 .buf = false := by assumption) (c20 : q0 .out = false := by assumption) :
    Steady q0 z0 (consumeLine s u x).1 := by
  unfold consumeLine; try (dsimp only)
  with_reducible repeat' (first | assumption | intro _ | apply Steady.ite | apply freeCellsOf_st | split)

theorem takeLine_st {s : State} {u : UnitRun} {l : LAddr} {d : LineData} {x : Bool} (hs : Steady q0 z0 s) (c0 : q0 .regs = false := by assumption) (c14 : q0 .buf = false := by assumption) (c18 : q0 .co = false := by assumption) (c20 : q0 .out = false := by assumption) :
    Steady q0 z0 (takeLine s u l d x) := by
  unfold takeLine; try (dsimp only)
  with_reducible repeat' (first | assumption | intro _ | apply Steady.ite | apply consumeLine_st | apply putUnit_st | split)

theorem coachCheck_ok {s : State} {u : UnitRun} {k a n : Nat} {bad : Option LAddr} (hs : Steady q0 z0 s) (c0 : q0 .regs = false := by assumption) (c7 : q0 .links = false := by assumption) (c8 : q0 .fns = false := by assumption) (c10 : q0 .snap = false := by assumption) (c11 : q0 .pool = false := by assumption) (c13 : q0 .noc = false := by assumption) (c19 : q0 .flight = false := by assumption) (c20 : q0 .out = false := by assumption) :
    OkVerdict q0 z0 (coachCheck s u k a n bad) := protect_ok (.house _) hs

/-- What a unit issues is steady. -/
def OkIssue (q0 : Part → Bool) (z0 : State) (v : Issue) : Prop :=
  match v with
  | .go t _ => Steady q0 z0 t
  | .stall t => Steady q0 z0 t

theorem go_ok {s : State} {u : UnitRun} (h : Steady q0 z0 s) : OkIssue q0 z0 (.go s u) := h
theorem stall_ok {s : State} (h : Steady q0 z0 s) : OkIssue q0 z0 (.stall s) := h

theorem denyLine_ok {s : State} {u : UnitRun} {l : LAddr} {w c : Bool} (hs : Steady q0 z0 s) (c0 : q0 .regs = false := by assumption) (c7 : q0 .links = false := by assumption) (c8 : q0 .fns = false := by assumption) (c10 : q0 .snap = false := by assumption) (c13 : q0 .noc = false := by assumption) (c19 : q0 .flight = false := by assumption) (c20 : q0 .out = false := by assumption) :
    OkIssue q0 z0 (denyLine s u l w c) := Steady.ite (countUnbound_st hs) hs

theorem withLine_ok {s : State} {u : UnitRun} {kinds a n : Nat} {l : LAddr} {bad : Option LAddr} {k : State → Issue}
    (hs : Steady q0 z0 s) (hk : ∀ t, Steady q0 z0 t → OkIssue q0 z0 (k t)) (c0 : q0 .regs = false := by assumption) (c6 : q0 .pair = false := by assumption) (c7 : q0 .links = false := by assumption) (c8 : q0 .fns = false := by assumption) (c10 : q0 .snap = false := by assumption) (c11 : q0 .pool = false := by assumption) (c13 : q0 .noc = false := by assumption) (c14 : q0 .buf = false := by assumption) (c16 : q0 .dp = false := by assumption) (c19 : q0 .flight = false := by assumption) (c20 : q0 .out = false := by assumption) : OkIssue q0 z0 (withLine s u kinds a n l bad k) := by
  unfold withLine
  split
  · exact denyLine_ok hs
  split
  · exact stall_ok (tagNeed_st hs)
  · exact denyLine_ok (refuse_st (by assumption) (coachCheck_ok hs))
  · exact hk _ (pass_st (by assumption) (coachCheck_ok hs))

theorem takeLanding_st {s : State} {u : UnitRun} {z1} (e : (takeLanding s u) = some z1) (hs : Steady q0 z0 s) (c0 : q0 .regs = false := by assumption) :
    Steady q0 z0 z1.1 := by
  unfold takeLanding at e; try (dsimp only at e)
  repeat' (split at e)
  all_goals (first | obtain ⟨w, hw, rfl⟩ := Option.map_eq_some_iff.1 e | cases e | skip)
  all_goals with_reducible repeat' (first | assumption | intro _ | apply Steady.ite | apply takeShared_st | apply takeMin_st | split)

theorem atomHere_st {s : State} {u : UnitRun} {l : LAddr} {d : LineData} (hs : Steady q0 z0 s) (c0 : q0 .regs = false := by assumption) (c6 : q0 .pair = false := by assumption) (c7 : q0 .links = false := by assumption) (c8 : q0 .fns = false := by assumption) (c10 : q0 .snap = false := by assumption) (c13 : q0 .noc = false := by assumption) (c18 : q0 .co = false := by assumption) (c19 : q0 .flight = false := by assumption) (c20 : q0 .out = false := by assumption) :
    Steady q0 z0 (atomHere s u l d).1 := by
  unfold atomHere; try (dsimp only)
  with_reducible repeat' (first | assumption | intro _ | apply Steady.ite | apply install_st | split)

theorem issueBulkRead_ok {s : State} {u : UnitRun} {l : LAddr} {t : List LAddr} {bad : Option LAddr}
    (hs : Steady q0 z0 s) (c0 : q0 .regs = false := by assumption) (c6 : q0 .pair = false := by assumption) (c7 : q0 .links = false := by assumption) (c8 : q0 .fns = false := by assumption) (c10 : q0 .snap = false := by assumption) (c11 : q0 .pool = false := by assumption) (c13 : q0 .noc = false := by assumption) (c14 : q0 .buf = false := by assumption) (c16 : q0 .dp = false := by assumption) (c18 : q0 .co = false := by assumption) (c19 : q0 .flight = false := by assumption) (c20 : q0 .out = false := by assumption) : OkIssue q0 z0 (issueBulkRead s u l t bad) := by
  refine withLine_ok hs (fun s1 h1 => ?_)
  dsimp only
  split
  · exact go_ok (consumeLine_st h1)
  · split
    · exact stall_ok h1
    · split
      · exact stall_ok h1
      · exact go_ok (Steady.ite (askHome_st h1) (readDirect_st h1))

theorem issueBulkWrite_ok {s : State} {u : UnitRun} {l : LAddr} {bad : Option LAddr} (hs : Steady q0 z0 s) (c0 : q0 .regs = false := by assumption) (c6 : q0 .pair = false := by assumption) (c7 : q0 .links = false := by assumption) (c8 : q0 .fns = false := by assumption) (c10 : q0 .snap = false := by assumption) (c11 : q0 .pool = false := by assumption) (c13 : q0 .noc = false := by assumption) (c14 : q0 .buf = false := by assumption) (c16 : q0 .dp = false := by assumption) (c18 : q0 .co = false := by assumption) (c19 : q0 .flight = false := by assumption) (c20 : q0 .out = false := by assumption) :
    OkIssue q0 z0 (issueBulkWrite s u l bad) := by
  refine withLine_ok hs (fun s1 h1 => ?_)
  dsimp only
  split
  · have h2 := someFst_st (by assumption) (fun q h => takeLanding_st h h1)
    split
    · exact stall_ok h1
    split
    · exact go_ok (writeDirect_st h2)
    · exact go_ok (Steady.ite (askHome_st h2) (writeDirect_st h2))
  · exact stall_ok h1

theorem issueAtomic_ok {s : State} {u : UnitRun} {l : LAddr} {bad : Option LAddr} (hs : Steady q0 z0 s) (c0 : q0 .regs = false := by assumption) (c6 : q0 .pair = false := by assumption) (c7 : q0 .links = false := by assumption) (c8 : q0 .fns = false := by assumption) (c10 : q0 .snap = false := by assumption) (c11 : q0 .pool = false := by assumption) (c13 : q0 .noc = false := by assumption) (c14 : q0 .buf = false := by assumption) (c16 : q0 .dp = false := by assumption) (c18 : q0 .co = false := by assumption) (c19 : q0 .flight = false := by assumption) (c20 : q0 .out = false := by assumption) :
    OkIssue q0 z0 (issueAtomic s u l bad) := by
  refine withLine_ok hs (fun s1 h1 => ?_)
  dsimp only
  split
  · exact go_ok (atomHere_st h1)
  · split
    · exact stall_ok h1
    · exact go_ok (Steady.ite (askHome_st h1) (operateDirect_st h1))

theorem issueColour_ok {s : State} {u : UnitRun} {l : LAddr} (hs : Steady q0 z0 s) (c0 : q0 .regs = false := by assumption) (c6 : q0 .pair = false := by assumption) (c7 : q0 .links = false := by assumption) (c8 : q0 .fns = false := by assumption) (c10 : q0 .snap = false := by assumption) (c11 : q0 .pool = false := by assumption) (c13 : q0 .noc = false := by assumption) (c14 : q0 .buf = false := by assumption) (c16 : q0 .dp = false := by assumption) (c18 : q0 .co = false := by assumption) (c19 : q0 .flight = false := by assumption) (c20 : q0 .out = false := by assumption) :
    OkIssue q0 z0 (issueColour s u l) := by
  refine withLine_ok hs (fun s1 h1 => ?_)
  dsimp only
  split
  · exact denyLine_ok h1
  · split
    · exact stall_ok h1
    · split
      · exact go_ok (colourDirect_st h1)
      · exact go_ok (operateDirect_st h1)

theorem castTagInv_st {s : State} {u : UnitRun} (hs : Steady q0 z0 s) (c0 : q0 .regs = false := by assumption) (c7 : q0 .links = false := by assumption) (c8 : q0 .fns = false := by assumption) (c10 : q0 .snap = false := by assumption) (c13 : q0 .noc = false := by assumption) (c18 : q0 .co = false := by assumption) (c19 : q0 .flight = false := by assumption) (c20 : q0 .out = false := by assumption) :
    Steady q0 z0 (castTagInv s u) := by
  unfold castTagInv; try (dsimp only)
  with_reducible repeat' (first | assumption | intro _ | apply Steady.ite | apply broadcast_st | apply putUnit_st | split)

theorem askLanding_st {s : State} {u : UnitRun} (hs : Steady q0 z0 s) (c14 : q0 .buf = false := by assumption) (c18 : q0 .co = false := by assumption) :
    Steady q0 z0 (askLanding s u) := by
  unfold askLanding; try (dsimp only)
  with_reducible repeat' (first | assumption | intro _ | apply Steady.ite | apply putUnit_st | apply joinFlow_st | apply withBuf_st | split)

theorem unitStep_ok {s : State} {u : UnitRun} {bad : Option LAddr} (hs : Steady q0 z0 s) (c0 : q0 .regs = false := by assumption) (c6 : q0 .pair = false := by assumption) (c7 : q0 .links = false := by assumption) (c8 : q0 .fns = false := by assumption) (c10 : q0 .snap = false := by assumption) (c11 : q0 .pool = false := by assumption) (c13 : q0 .noc = false := by assumption) (c14 : q0 .buf = false := by assumption) (c16 : q0 .dp = false := by assumption) (c18 : q0 .co = false := by assumption) (c19 : q0 .flight = false := by assumption) (c20 : q0 .out = false := by assumption) :
    OkIssue q0 z0 (unitStep s u bad).1 := by
  unfold unitStep
  dsimp only
  repeat' split
  all_goals first
    | exact go_ok hs
    | exact stall_ok hs
    | exact issueColour_ok hs
    | exact issueAtomic_ok hs
    | exact issueBulkRead_ok hs
    | exact issueBulkWrite_ok hs
    | exact stall_ok (castTagInv_st hs)
    | exact stall_ok (askLanding_st hs)
    | exact stall_ok (migCast_st hs)
    | exact stall_ok (migCast_st (freeLanding_st hs))

theorem pumpUnitN_st {s : State} {n k pipe : Nat} {bad : Option LAddr} (hs : Steady q0 z0 s) (c0 : q0 .regs = false := by assumption) (c6 : q0 .pair = false := by assumption) (c7 : q0 .links = false := by assumption) (c8 : q0 .fns = false := by assumption) (c10 : q0 .snap = false := by assumption) (c11 : q0 .pool = false := by assumption) (c13 : q0 .noc = false := by assumption) (c14 : q0 .buf = false := by assumption) (c16 : q0 .dp = false := by assumption) (c18 : q0 .co = false := by assumption) (c19 : q0 .flight = false := by assumption) (c20 : q0 .out = false := by assumption) (c21 : q0 .fresh = false := by assumption) :
    Steady q0 z0 (pumpUnitN n s k pipe bad) := by
  induction n generalizing s with
  | zero => exact hs
  | succ m ih =>
    rw [pumpUnitN]
    split
    · exact hs
    rename_i u _
    have h1 := unitStep_ok (u := u) (bad := bad) hs
    split
    · rename_i h2
      rw [h2] at h1
      refine endUnit_st ?_
      split
      · exact stopSlot_st h1
      · exact h1
    · rename_i h2
      rw [h2] at h1
      exact ih (putUnit_st h1)
    · rename_i h2
      rw [h2] at h1
      exact h1

theorem pumpUnit_st {s : State} {k : ℕ} {pipe : ℕ} {bad : Option LAddr} (hs : Steady q0 z0 s) (c0 : q0 .regs = false := by assumption) (c6 : q0 .pair = false := by assumption) (c7 : q0 .links = false := by assumption) (c8 : q0 .fns = false := by assumption) (c10 : q0 .snap = false := by assumption) (c11 : q0 .pool = false := by assumption) (c13 : q0 .noc = false := by assumption) (c14 : q0 .buf = false := by assumption) (c16 : q0 .dp = false := by assumption) (c18 : q0 .co = false := by assumption) (c19 : q0 .flight = false := by assumption) (c20 : q0 .out = false := by assumption) (c21 : q0 .fresh = false := by assumption) :
    Steady q0 z0 (pumpUnit s k pipe bad) := by
  unfold pumpUnit; try (dsimp only)
  with_reducible repeat' (first | assumption | intro _ | apply Steady.ite | apply pumpUnitN_st | split)

theorem pumpCoach_st {s : State} {k : ℕ} {bad : Option LAddr} (hs : Steady q0 z0 s) (c0 : q0 .regs = false := by assumption) (c6 : q0 .pair = false := by assumption) (c7 : q0 .links = false := by assumption) (c8 : q0 .fns = false := by assumption) (c10 : q0 .snap = false := by assumption) (c11 : q0 .pool = false := by assumption) (c13 : q0 .noc = false := by assumption) (c14 : q0 .buf = false := by assumption) (c16 : q0 .dp = false := by assumption) (c18 : q0 .co = false := by assumption) (c19 : q0 .flight = false := by assumption) (c20 : q0 .out = false := by assumption) (c21 : q0 .fresh = false := by assumption) :
    Steady q0 z0 (pumpCoach s k bad) := by
  unfold pumpCoach; try (dsimp only)
  with_reducible repeat' (first | assumption | intro _ | apply Steady.ite | apply pumpUnit_st | split)

theorem onUnit_st {s : State} {r : CoachReq} {f : UnitRun → UnitRun} (hs : Steady q0 z0 s) (c18 : q0 .co = false := by assumption) :
    Steady q0 z0 (onUnit s r f) := by
  unfold onUnit; try (dsimp only)
  with_reducible repeat' (first | assumption | intro _ | apply Steady.ite | apply putUnit_st | split)

theorem finishCreq_st {s : State} {r : CoachReq} (hs : Steady q0 z0 s) (c0 : q0 .regs = false := by assumption) (c6 : q0 .pair = false := by assumption) (c7 : q0 .links = false := by assumption) (c8 : q0 .fns = false := by assumption) (c10 : q0 .snap = false := by assumption) (c11 : q0 .pool = false := by assumption) (c13 : q0 .noc = false := by assumption) (c14 : q0 .buf = false := by assumption) (c16 : q0 .dp = false := by assumption) (c18 : q0 .co = false := by assumption) (c19 : q0 .flight = false := by assumption) (c20 : q0 .out = false := by assumption) (c21 : q0 .fresh = false := by assumption) :
    Steady q0 z0 (finishCreq s r) := by
  unfold finishCreq; try (dsimp only)
  with_reducible repeat' (first | assumption | intro _ | apply Steady.ite | apply pumpCoach_st | apply flushCache_st | apply nextVictim_st | apply delCreq_st | split)

theorem readUnit_st {s : State} {r : CoachReq} {d : LineData} {x : Bool} (hs : Steady q0 z0 s) (c0 : q0 .regs = false := by assumption) (c14 : q0 .buf = false := by assumption) (c18 : q0 .co = false := by assumption) (c20 : q0 .out = false := by assumption) :
    Steady q0 z0 (readUnit s r d x) := by
  unfold readUnit; try (dsimp only)
  with_reducible repeat' (first | assumption | intro _ | apply Steady.ite | apply takeLine_st | split)

theorem settleCreq_st {s : State} {r : CoachReq} (hs : Steady q0 z0 s) (c0 : q0 .regs = false := by assumption) (c6 : q0 .pair = false := by assumption) (c7 : q0 .links = false := by assumption) (c8 : q0 .fns = false := by assumption) (c10 : q0 .snap = false := by assumption) (c11 : q0 .pool = false := by assumption) (c13 : q0 .noc = false := by assumption) (c14 : q0 .buf = false := by assumption) (c16 : q0 .dp = false := by assumption) (c18 : q0 .co = false := by assumption) (c19 : q0 .flight = false := by assumption) (c20 : q0 .out = false := by assumption) (c21 : q0 .fresh = false := by assumption) :
    Steady q0 z0 (settleCreq s r) := by
  unfold settleCreq; try (dsimp only)
  with_reducible repeat' (first | assumption | intro _ | apply Steady.ite | apply readUnit_st | apply finishCreq_st | apply atomHere_st | apply putCreq_st | apply putUnit_st | apply sendAck_st | refine getD_st (fun _ _ => ?_) ?_ | split)

theorem coachGrant_st {s : State} {k : ℕ} {m : Hdr} {ndr : ℕ} {res : AtomicRes} (hs : Steady q0 z0 s) (c0 : q0 .regs = false := by assumption) (c6 : q0 .pair = false := by assumption) (c7 : q0 .links = false := by assumption) (c8 : q0 .fns = false := by assumption) (c10 : q0 .snap = false := by assumption) (c11 : q0 .pool = false := by assumption) (c13 : q0 .noc = false := by assumption) (c14 : q0 .buf = false := by assumption) (c16 : q0 .dp = false := by assumption) (c18 : q0 .co = false := by assumption) (c19 : q0 .flight = false := by assumption) (c20 : q0 .out = false := by assumption) (c21 : q0 .fresh = false := by assumption) :
    Steady q0 z0 (coachGrant s k m ndr res) := by
  unfold coachGrant; try (dsimp only)
  with_reducible repeat' (first | assumption | intro _ | apply Steady.ite | apply settleCreq_st | apply finishCreq_st | apply onUnit_st | apply lateCoach_st | split)

theorem coachErr_st {s : State} {k : ℕ} {m : Hdr} (hs : Steady q0 z0 s) (c0 : q0 .regs = false := by assumption) (c6 : q0 .pair = false := by assumption) (c7 : q0 .links = false := by assumption) (c8 : q0 .fns = false := by assumption) (c10 : q0 .snap = false := by assumption) (c11 : q0 .pool = false := by assumption) (c13 : q0 .noc = false := by assumption) (c14 : q0 .buf = false := by assumption) (c16 : q0 .dp = false := by assumption) (c18 : q0 .co = false := by assumption) (c19 : q0 .flight = false := by assumption) (c20 : q0 .out = false := by assumption) (c21 : q0 .fresh = false := by assumption) :
    Steady q0 z0 (coachErr s k m) := by
  unfold coachErr; try (dsimp only)
  with_reducible repeat' (first | assumption | intro _ | apply Steady.ite | apply finishCreq_st | apply onUnit_st | apply lateCoach_st | split)

theorem coachData_st {s : State} {k : ℕ} {m : Hdr} {d : LineData} (hs : Steady q0 z0 s) (c0 : q0 .regs = false := by assumption) (c6 : q0 .pair = false := by assumption) (c7 : q0 .links = false := by assumption) (c8 : q0 .fns = false := by assumption) (c10 : q0 .snap = false := by assumption) (c11 : q0 .pool = false := by assumption) (c13 : q0 .noc = false := by assumption) (c14 : q0 .buf = false := by assumption) (c16 : q0 .dp = false := by assumption) (c18 : q0 .co = false := by assumption) (c19 : q0 .flight = false := by assumption) (c20 : q0 .out = false := by assumption) (c21 : q0 .fresh = false := by assumption) :
    Steady q0 z0 (coachData s k m d) := by
  unfold coachData; try (dsimp only)
  with_reducible repeat' (first | assumption | intro _ | apply Steady.ite | apply settleCreq_st | apply readUnit_st | apply finishCreq_st | apply onUnit_st | apply lateCoach_st | split)

theorem coachDirect_st {s : State} {k : ℕ} {m : Hdr} {res : AtomicRes} (hs : Steady q0 z0 s) (c0 : q0 .regs = false := by assumption) (c6 : q0 .pair = false := by assumption) (c7 : q0 .links = false := by assumption) (c8 : q0 .fns = false := by assumption) (c10 : q0 .snap = false := by assumption) (c11 : q0 .pool = false := by assumption) (c13 : q0 .noc = false := by assumption) (c14 : q0 .buf = false := by assumption) (c16 : q0 .dp = false := by assumption) (c18 : q0 .co = false := by assumption) (c19 : q0 .flight = false := by assumption) (c20 : q0 .out = false := by assumption) (c21 : q0 .fresh = false := by assumption) :
    Steady q0 z0 (coachDirect s k m res) := by
  unfold coachDirect; try (dsimp only)
  with_reducible repeat' (first | assumption | intro _ | apply Steady.ite | apply finishCreq_st | apply onUnit_st | apply lateCoach_st | split)

theorem coachTimeout_st {s : State} {k : ℕ} {t : BitVec 10} (hs : Steady q0 z0 s) (c0 : q0 .regs = false := by assumption) (c6 : q0 .pair = false := by assumption) (c7 : q0 .links = false := by assumption) (c8 : q0 .fns = false := by assumption) (c10 : q0 .snap = false := by assumption) (c11 : q0 .pool = false := by assumption) (c13 : q0 .noc = false := by assumption) (c14 : q0 .buf = false := by assumption) (c16 : q0 .dp = false := by assumption) (c18 : q0 .co = false := by assumption) (c19 : q0 .flight = false := by assumption) (c20 : q0 .out = false := by assumption) (c21 : q0 .fresh = false := by assumption) :
    Steady q0 z0 (coachTimeout s k t) := by
  unfold coachTimeout; try (dsimp only)
  with_reducible repeat' (first | assumption | intro _ | apply Steady.ite | apply onUnit_st | apply pumpCoach_st | apply putCreq_st | apply freeCellsOf_st | split)

theorem coachExpire_st {s : State} {k : ℕ} {t : BitVec 10} (hs : Steady q0 z0 s) (c0 : q0 .regs = false := by assumption) (c6 : q0 .pair = false := by assumption) (c7 : q0 .links = false := by assumption) (c8 : q0 .fns = false := by assumption) (c10 : q0 .snap = false := by assumption) (c11 : q0 .pool = false := by assumption) (c13 : q0 .noc = false := by assumption) (c14 : q0 .buf = false := by assumption) (c16 : q0 .dp = false := by assumption) (c18 : q0 .co = false := by assumption) (c19 : q0 .flight = false := by assumption) (c20 : q0 .out = false := by assumption) (c21 : q0 .fresh = false := by assumption) :
    Steady q0 z0 (coachExpire s k t) := by
  unfold coachExpire; try (dsimp only)
  with_reducible repeat' (first | assumption | intro _ | apply Steady.ite | apply finishCreq_st | apply onUnit_st | split)

end Sys2Proof.Laws
end

