-- ==== Sys2Proof/Laws/SteadyHouse.lean ====
section
/-! SUPPORT. Every operation of Machine/House.lean is steady. -/

set_option Elab.async false
set_option linter.unusedTactic false
set_option linter.unreachableTactic false

namespace Sys2Proof.Laws

open Sys2Proof.Machine

variable {q0 : Part → Bool} {z0 : State}

theorem putRange_st {s : State} {r : UnitRange} (hs : Steady q0 z0 s) (c18 : q0 .co = false := by assumption) :
    Steady q0 z0 (putRange s r) := by
  unfold putRange; try (dsimp only)
  with_reducible repeat' (first | assumption | intro _ | apply Steady.ite | apply withCo_st | split)

theorem shrinkRange_st {s : State} {r : UnitRange} {v : UnitRange} (hs : Steady q0 z0 s) (c18 : q0 .co = false := by assumption) :
    Steady q0 z0 (shrinkRange s r v) := by
  unfold shrinkRange; try (dsimp only)
  with_reducible repeat' (first | assumption | intro _ | apply Steady.ite | apply withCo_st | split)

theorem noteChosen_st {s : State} {k : ℕ} (hs : Steady q0 z0 s) (c18 : q0 .co = false := by assumption) :
    Steady q0 z0 (noteChosen s k) := by
  unfold noteChosen; try (dsimp only)
  with_reducible repeat' (first | assumption | intro _ | apply Steady.ite | apply withCo_st | split)

theorem markRunning_st {s : State} {g : ℕ} {a : Agent} (hs : Steady q0 z0 s) (c16 : q0 .dp = false := by assumption) :
    Steady q0 z0 (markRunning s g a) := by
  unfold markRunning; try (dsimp only)
  with_reducible repeat' (first | assumption | intro _ | apply Steady.ite | apply setSlot_st | apply forAll_st | split)

theorem assignDesc_st {s : State} {d : Desc} {z1} (e : (assignDesc s d) = some z1) (hs : Steady q0 z0 s) (c18 : q0 .co = false := by assumption) :
    Steady q0 z0 z1 := by
  unfold assignDesc at e; try (dsimp only at e)
  repeat' (split at e)
  all_goals (first | obtain ⟨w, hw, rfl⟩ := Option.map_eq_some_iff.1 e | cases e | skip)
  all_goals with_reducible repeat' (first | assumption | intro _ | apply Steady.ite | apply noteChosen_st | apply putRange_st | apply putDesc_st | split)

theorem startDesc_st {s : State} {d : Desc} {z1} (e : startDesc s d = some z1) (hs : Steady q0 z0 s) (c0 : q0 .regs = false := by assumption) (c10 : q0 .snap = false := by assumption) (c16 : q0 .dp = false := by assumption) (c18 : q0 .co = false := by assumption) (c21 : q0 .fresh = false := by assumption) :
    Steady q0 z0 z1 := by
  unfold startDesc at e
  extract_lets before drop refuse g st at e
  have hd : Steady q0 z0 drop := dropRanges_st hs
  have hr : ∀ st, Steady q0 z0 (refuse st) := fun st => putDesc_st (perfHit_st (recordFor_st hd))
  clear_value before drop refuse st
  split at e
  · cases e
  split at e
  · cases e; exact retire_st hd
  split at e
  · split at e
    · cases e
    · split at e
      · cases e; exact hr _
      · cases e; exact Steady.ite (markRunning_st (putDesc_st hs)) (putDesc_st hs)
  · cases e; exact hr _

theorem startDescsN_st {s : State} {n : Nat} (hs : Steady q0 z0 s) (c0 : q0 .regs = false := by assumption) (c10 : q0 .snap = false := by assumption) (c16 : q0 .dp = false := by assumption) (c18 : q0 .co = false := by assumption) (c21 : q0 .fresh = false := by assumption) : Steady q0 z0 (startDescsN n s) := by
  induction n generalizing s with
  | zero => exact hs
  | succ m ih =>
    rw [startDescsN]
    split
    · rename_i h
      refine ih ?_
      rcases Option.or_eq_some_iff.1 h with h | ⟨_, h⟩
      · exact findSome_st h (fun d u hu => assignDesc_st hu hs)
      · exact findSome_st h (fun d u hu => startDesc_st hu hs)
    · exact hs

theorem startDescs_st {s : State} (hs : Steady q0 z0 s) (c0 : q0 .regs = false := by assumption) (c10 : q0 .snap = false := by assumption) (c16 : q0 .dp = false := by assumption) (c18 : q0 .co = false := by assumption) (c21 : q0 .fresh = false := by assumption) :
    Steady q0 z0 (startDescs s) := by
  unfold startDescs; try (dsimp only)
  with_reducible repeat' (first | assumption | intro _ | apply Steady.ite | apply startDescsN_st | split)

theorem chargeMeters_st {s : State} {n bytes : Nat} {l : List Nat} {yellow : Bool} {z1}
    (e : chargeMeters s n bytes l yellow = some z1) (hs : Steady q0 z0 s) (c14 : q0 .buf = false := by assumption) : Steady q0 z0 z1.1 := by
  induction l generalizing s yellow with
  | nil => cases e; exact hs
  | cons i t ih =>
    rw [chargeMeters] at e
    split at e
    · cases e
    · exact ih e (setMeter_st hs)

theorem chargeShaper_st {s : State} {c : ℕ} {d : BitVec 512} {bytes : ℕ} {z1} (e : (chargeShaper s c d bytes) = some z1) (hs : Steady q0 z0 s) (c14 : q0 .buf = false := by assumption) :
    Steady q0 z0 z1 := by
  unfold chargeShaper at e; try (dsimp only at e)
  repeat' (split at e)
  all_goals (first | obtain ⟨w, hw, rfl⟩ := Option.map_eq_some_iff.1 e | cases e | skip)
  all_goals with_reducible repeat' (first | assumption | intro _ | apply Steady.ite | apply withBuf_st | split)

theorem release_st {s : State} {c : Nat} {d : BitVec 512} {i : Nat} {z1} (e : release s c d i = some z1)
    (hs : Steady q0 z0 s) (c14 : q0 .buf = false := by assumption) : Steady q0 z0 z1.1 := by
  unfold release at e
  dsimp only at e
  split at e
  · cases e
  split at e
  · cases e
  · obtain ⟨r, hr, rfl⟩ := Option.map_eq_some_iff.1 e
    exact chargeMeters_st hr (chargeShaper_st (by assumption) hs)

theorem releaseNext_st {s : State} {r : UnitRange} {z1} (e : (releaseNext s r) = some z1) (hs : Steady q0 z0 s) (c14 : q0 .buf = false := by assumption) :
    Steady q0 z0 z1.1 := by
  unfold releaseNext at e; try (dsimp only at e)
  repeat' (split at e)
  all_goals (first | obtain ⟨w, hw, rfl⟩ := Option.map_eq_some_iff.1 e | cases e | skip)
  all_goals with_reducible repeat' (first | assumption | intro _ | apply Steady.ite | refine release_st (by assumption) ?_ | refine someFst_st (by assumption) ?_ | split)

theorem startUnit_st {s : State} {k : ℕ} {pipe : ℕ} {r : UnitRange} {level : ℕ} {flow : ℕ} (hs : Steady q0 z0 s) (c0 : q0 .regs = false := by assumption) (c6 : q0 .pair = false := by assumption) (c7 : q0 .links = false := by assumption) (c8 : q0 .fns = false := by assumption) (c10 : q0 .snap = false := by assumption) (c11 : q0 .pool = false := by assumption) (c13 : q0 .noc = false := by assumption) (c14 : q0 .buf = false := by assumption) (c16 : q0 .dp = false := by assumption) (c18 : q0 .co = false := by assumption) (c19 : q0 .flight = false := by assumption) (c20 : q0 .out = false := by assumption) (c21 : q0 .fresh = false := by assumption) :
    Steady q0 z0 (startUnit s k pipe r level flow) := by
  unfold startUnit; try (dsimp only)
  with_reducible repeat' (first | assumption | intro _ | apply Steady.ite | apply pumpUnit_st | apply askLanding_st | apply migCast_st | apply putDesc_st | apply putUnit_st | apply withCo_st | split)

theorem takeUnit_st {s : State} {k pipe : Nat} {r : UnitRange} {z1} (e : takeUnit s k pipe r = some z1)
    (hs : Steady q0 z0 s) (c0 : q0 .regs = false := by assumption) (c6 : q0 .pair = false := by assumption) (c7 : q0 .links = false := by assumption) (c8 : q0 .fns = false := by assumption) (c10 : q0 .snap = false := by assumption) (c11 : q0 .pool = false := by assumption) (c13 : q0 .noc = false := by assumption) (c14 : q0 .buf = false := by assumption) (c16 : q0 .dp = false := by assumption) (c18 : q0 .co = false := by assumption) (c19 : q0 .flight = false := by assumption) (c20 : q0 .out = false := by assumption) (c21 : q0 .fresh = false := by assumption) : Steady q0 z0 z1 := by
  obtain ⟨v, hv, rfl⟩ := Option.map_eq_some_iff.1 e
  exact startUnit_st (shrinkRange_st (releaseNext_st hv hs))

theorem takeOwn_st {s : State} {k : ℕ} {pipe : ℕ} {z1} (e : (takeOwn s k pipe) = some z1) (hs : Steady q0 z0 s) (c0 : q0 .regs = false := by assumption) (c6 : q0 .pair = false := by assumption) (c7 : q0 .links = false := by assumption) (c8 : q0 .fns = false := by assumption) (c10 : q0 .snap = false := by assumption) (c11 : q0 .pool = false := by assumption) (c13 : q0 .noc = false := by assumption) (c14 : q0 .buf = false := by assumption) (c16 : q0 .dp = false := by assumption) (c18 : q0 .co = false := by assumption) (c19 : q0 .flight = false := by assumption) (c20 : q0 .out = false := by assumption) (c21 : q0 .fresh = false := by assumption) :
    Steady q0 z0 z1 := by
  unfold takeOwn at e; try (dsimp only at e)
  repeat' (split at e)
  all_goals (first | obtain ⟨w, hw, rfl⟩ := Option.map_eq_some_iff.1 e | cases e | skip)
  all_goals with_reducible repeat' (first | assumption | intro _ | apply Steady.ite | refine takeUnit_st (by assumption) ?_ | refine findSome_st (by assumption) ?_ | split)

theorem stealRange_st {s : State} {k v : Nat} {z1} (e : stealRange s k v = some z1) (hs : Steady q0 z0 s) (c0 : q0 .regs = false := by assumption) (c10 : q0 .snap = false := by assumption) (c18 : q0 .co = false := by assumption) : Steady q0 z0 z1.1 := by
  obtain ⟨r, _, hr⟩ := Option.bind_eq_some_iff.1 e
  dsimp only at hr
  split at hr
  · cases hr; exact putRange_st (shrinkRange_st (perfHit_st hs))
  · cases hr

theorem stealLocal_st {s : State} {k : ℕ} {pipe : ℕ} {l : List ℕ} (hs : Steady q0 z0 s) (c0 : q0 .regs = false := by assumption) (c6 : q0 .pair = false := by assumption) (c7 : q0 .links = false := by assumption) (c8 : q0 .fns = false := by assumption) (c10 : q0 .snap = false := by assumption) (c11 : q0 .pool = false := by assumption) (c13 : q0 .noc = false := by assumption) (c14 : q0 .buf = false := by assumption) (c16 : q0 .dp = false := by assumption) (c18 : q0 .co = false := by assumption) (c19 : q0 .flight = false := by assumption) (c20 : q0 .out = false := by assumption) (c21 : q0 .fresh = false := by assumption) :
    Steady q0 z0 (stealLocal s k pipe l).1 := by
  fun_induction stealLocal s k pipe l
  all_goals (try (dsimp only))
  all_goals with_reducible repeat' (first | assumption | apply_assumption | assumption | intro _ | apply Steady.ite | refine stealRange_st (by assumption) ?_ | refine takeUnit_st (by assumption) ?_ | refine someFst_st (by assumption) ?_ | split)

theorem setStealing_st {s : State} {k : ℕ} {l : List ℕ} (hs : Steady q0 z0 s) (c18 : q0 .co = false := by assumption) :
    Steady q0 z0 (setStealing s k l) := by
  unfold setStealing; try (dsimp only)
  with_reducible repeat' (first | assumption | intro _ | apply Steady.ite | apply withCo_st | split)

theorem askHouse_st {s : State} {k : ℕ} {l : List ℕ} (hs : Steady q0 z0 s) (c0 : q0 .regs = false := by assumption) (c7 : q0 .links = false := by assumption) (c8 : q0 .fns = false := by assumption) (c10 : q0 .snap = false := by assumption) (c13 : q0 .noc = false := by assumption) (c18 : q0 .co = false := by assumption) (c19 : q0 .flight = false := by assumption) (c20 : q0 .out = false := by assumption) :
    Steady q0 z0 (askHouse s k l) := by
  unfold askHouse; try (dsimp only)
  with_reducible repeat' (first | assumption | intro _ | apply Steady.ite | apply setStealing_st | apply send_st | split)

theorem adoptRangesN_st {s : State} {n : ℕ} {k : ℕ} (hs : Steady q0 z0 s) (c18 : q0 .co = false := by assumption) :
    Steady q0 z0 (adoptRangesN n s k) := by
  fun_induction adoptRangesN n s k
  all_goals (try (dsimp only))
  all_goals with_reducible repeat' (first | assumption | apply_assumption | assumption | intro _ | apply Steady.ite | apply withCo_st | split)

theorem adoptRanges_st {s : State} {k : ℕ} (hs : Steady q0 z0 s) (c18 : q0 .co = false := by assumption) :
    Steady q0 z0 (adoptRanges s k) := by
  unfold adoptRanges; try (dsimp only)
  with_reducible repeat' (first | assumption | intro _ | apply Steady.ite | apply adoptRangesN_st | split)

theorem execCoachTakeUnit_ok {s : State} {coach : Fin 256} (hs : Steady q0 z0 s) (c0 : q0 .regs = false := by first | assumption | rfl) (c6 : q0 .pair = false := by first | assumption | rfl) (c7 : q0 .links = false := by first | assumption | rfl) (c8 : q0 .fns = false := by first | assumption | rfl) (c10 : q0 .snap = false := by first | assumption | rfl) (c11 : q0 .pool = false := by first | assumption | rfl) (c13 : q0 .noc = false := by first | assumption | rfl) (c14 : q0 .buf = false := by first | assumption | rfl) (c16 : q0 .dp = false := by first | assumption | rfl) (c18 : q0 .co = false := by first | assumption | rfl) (c19 : q0 .flight = false := by first | assumption | rfl) (c20 : q0 .out = false := by first | assumption | rfl) (c21 : q0 .fresh = false := by first | assumption | rfl) :
    OkOutcome q0 z0 (execCoachTakeUnit coach s) := by
  refine next_ok (onFabric_st hs ?_)
  dsimp only
  have ha : Steady q0 z0 (adoptRanges s coach) := adoptRanges_st hs
  generalize adoptRanges s coach = a at ha ⊢
  split
  · exact ha
  split
  · exact takeOwn_st (by assumption) ha
  · rename_i p _ _ _
    have hr : Steady q0 z0 (if localEn a (houseOf coach) then stealLocal a coach p (victims a coach) else (a, false)).1 := by
      split
      · exact stealLocal_st ha
      · exact ha
    exact Steady.ite (askHouse_st hr) hr

theorem chargeUnits_st {s : State} {r : UnitRange} {i n done : Nat} {lv : Option (Nat × Nat)} (hs : Steady q0 z0 s) (c14 : q0 .buf = false := by assumption) :
    Steady q0 z0 (chargeUnits s r i n done lv).1 := by
  induction n generalizing s i done lv with
  | zero => exact hs
  | succ m ih =>
    rw [chargeUnits]
    dsimp only
    split
    · exact hs
    split
    · exact hs
    split
    · exact ih (release_st (by assumption) hs)
    · split
      · exact ih (release_st (by assumption) hs)
      · exact hs

theorem execStealreq_ok {s : State} {house : Fin 16} {m : StealMsg} (hs : Steady q0 z0 s) (c0 : q0 .regs = false := by first | assumption | rfl) (c7 : q0 .links = false := by first | assumption | rfl) (c8 : q0 .fns = false := by first | assumption | rfl) (c10 : q0 .snap = false := by first | assumption | rfl) (c13 : q0 .noc = false := by first | assumption | rfl) (c14 : q0 .buf = false := by first | assumption | rfl) (c18 : q0 .co = false := by first | assumption | rfl) (c19 : q0 .flight = false := by first | assumption | rfl) (c20 : q0 .out = false := by first | assumption | rfl) :
    OkOutcome q0 z0 (execStealreq house m s) := by
  unfold execStealreq; try (dsimp only)
  with_reducible repeat' (first | intro _ | apply next_ok | apply ite_ok | assumption | intro _ | apply Steady.ite | apply chargeUnits_st | apply shrinkRange_st | apply putRange_st | apply withCo_st | apply receive_st | apply sendFrom_st | apply perfHit_st | apply onFabric_st | split)

theorem passRange_st {s : State} {r : UnitRange} {k : ℕ} (hs : Steady q0 z0 s) (c18 : q0 .co = false := by assumption) :
    Steady q0 z0 (passRange s r k) := by
  unfold passRange; try (dsimp only)
  with_reducible repeat' (first | assumption | intro _ | apply Steady.ite | apply withCo_st | split)

theorem passDeque_st {s : State} {k : ℕ} (hs : Steady q0 z0 s) (c18 : q0 .co = false := by assumption) :
    Steady q0 z0 (passDeque s k) := by
  unfold passDeque; try (dsimp only)
  with_reducible repeat' (first | assumption | intro _ | apply Steady.ite | apply passRange_st | apply forAll_st | split)

theorem passDescs_st {s : State} {k : ℕ} (hs : Steady q0 z0 s) (c18 : q0 .co = false := by assumption) :
    Steady q0 z0 (passDescs s k) := by
  unfold passDescs; try (dsimp only)
  with_reducible repeat' (first | assumption | intro _ | apply Steady.ite | apply noteChosen_st | apply putDesc_st | apply forAll_st | split)

theorem execStealrep_ok {s : State} {m : StealMsg} (hs : Steady q0 z0 s) (c0 : q0 .regs = false := by first | assumption | rfl) (c6 : q0 .pair = false := by first | assumption | rfl) (c7 : q0 .links = false := by first | assumption | rfl) (c8 : q0 .fns = false := by first | assumption | rfl) (c10 : q0 .snap = false := by first | assumption | rfl) (c11 : q0 .pool = false := by first | assumption | rfl) (c13 : q0 .noc = false := by first | assumption | rfl) (c14 : q0 .buf = false := by first | assumption | rfl) (c16 : q0 .dp = false := by first | assumption | rfl) (c18 : q0 .co = false := by first | assumption | rfl) (c19 : q0 .flight = false := by first | assumption | rfl) (c20 : q0 .out = false := by first | assumption | rfl) (c21 : q0 .fresh = false := by first | assumption | rfl) :
    OkOutcome q0 z0 (execStealrep m s) := by
  unfold execStealrep; try (dsimp only)
  with_reducible repeat' (first | intro _ | apply next_ok | apply ite_ok | assumption | intro _ | apply Steady.ite | apply passRange_st | apply askHouse_st | apply setStealing_st | refine takeUnit_st (by assumption) ?_ | apply putRange_st | apply withCo_st | apply receive_st | apply unreserve_st | apply onFabric_st | refine getD_st (fun _ _ => ?_) ?_ | refine elim_st ?_ (fun _ => ?_) | split)

theorem execUnitend_ok {s : State} {m : StealMsg} (hs : Steady q0 z0 s) (c0 : q0 .regs = false := by first | assumption | rfl) (c7 : q0 .links = false := by first | assumption | rfl) (c8 : q0 .fns = false := by first | assumption | rfl) (c10 : q0 .snap = false := by first | assumption | rfl) (c13 : q0 .noc = false := by first | assumption | rfl) (c16 : q0 .dp = false := by first | assumption | rfl) (c18 : q0 .co = false := by first | assumption | rfl) (c19 : q0 .flight = false := by first | assumption | rfl) (c20 : q0 .out = false := by first | assumption | rfl) (c21 : q0 .fresh = false := by first | assumption | rfl) :
    OkOutcome q0 z0 (execUnitend m s) := by
  unfold execUnitend; try (dsimp only)
  with_reducible repeat' (first | intro _ | apply next_ok | apply ite_ok | assumption | intro _ | apply Steady.ite | apply startDescs_st | apply unitEnded_st | apply receive_st | apply onFabric_st | split)

theorem execLandingGrant_ok {s : State} {coach : Fin 256} {pipe : Fin 2} (hs : Steady q0 z0 s) (c0 : q0 .regs = false := by first | assumption | rfl) (c6 : q0 .pair = false := by first | assumption | rfl) (c7 : q0 .links = false := by first | assumption | rfl) (c8 : q0 .fns = false := by first | assumption | rfl) (c10 : q0 .snap = false := by first | assumption | rfl) (c11 : q0 .pool = false := by first | assumption | rfl) (c13 : q0 .noc = false := by first | assumption | rfl) (c14 : q0 .buf = false := by first | assumption | rfl) (c16 : q0 .dp = false := by first | assumption | rfl) (c18 : q0 .co = false := by first | assumption | rfl) (c19 : q0 .flight = false := by first | assumption | rfl) (c20 : q0 .out = false := by first | assumption | rfl) (c21 : q0 .fresh = false := by first | assumption | rfl) :
    OkOutcome q0 z0 (execLandingGrant coach pipe s) := by
  unfold execLandingGrant; try (dsimp only)
  with_reducible repeat' (first | intro _ | apply next_ok | apply ite_ok | assumption | intro _ | apply Steady.ite | apply pumpUnit_st | apply putUnit_st | apply admitHeads_st | apply takeShared_st | apply takeMin_st | apply withBuf_st | apply onFabric_st | split)

theorem redirectHeld_st {s : State} {n : ℕ} {i : ℕ} (hs : Steady q0 z0 s) (c16 : q0 .dp = false := by assumption) :
    Steady q0 z0 (redirectHeld s n i) := by
  unfold redirectHeld; try (dsimp only)
  with_reducible repeat' (first | assumption | intro _ | apply Steady.ite | apply withDp_st | split)

theorem pumpSlot_st {s : State} {i : ℕ} {n : ℕ} (hs : Steady q0 z0 s) (c0 : q0 .regs = false := by assumption) (c6 : q0 .pair = false := by assumption) (c7 : q0 .links = false := by assumption) (c8 : q0 .fns = false := by assumption) (c10 : q0 .snap = false := by assumption) (c13 : q0 .noc = false := by assumption) (c14 : q0 .buf = false := by assumption) (c16 : q0 .dp = false := by assumption) (c19 : q0 .flight = false := by assumption) (c20 : q0 .out = false := by assumption) :
    Steady q0 z0 (pumpSlot s i n) := by
  unfold pumpSlot; try (dsimp only)
  with_reducible repeat' (first | assumption | intro _ | apply Steady.ite | apply pumpPort_st | split)

theorem execMigmark_ok {s : State} {region : Fin 16} {m : MigMsg} (hs : Steady q0 z0 s) (c0 : q0 .regs = false := by first | assumption | rfl) (c7 : q0 .links = false := by first | assumption | rfl) (c8 : q0 .fns = false := by first | assumption | rfl) (c10 : q0 .snap = false := by first | assumption | rfl) (c13 : q0 .noc = false := by first | assumption | rfl) (c16 : q0 .dp = false := by first | assumption | rfl) (c19 : q0 .flight = false := by first | assumption | rfl) (c20 : q0 .out = false := by first | assumption | rfl) :
    OkOutcome q0 z0 (execMigmark region m s) := by
  unfold execMigmark; try (dsimp only)
  with_reducible repeat' (first | intro _ | apply next_ok | apply ite_ok | assumption | intro _ | apply Steady.ite | apply setSlot_st | apply receive_st | apply send_st | apply onFabric_st | split)

theorem execMigadvance_ok {s : State} {region : Fin 16} {m : MigMsg} (hs : Steady q0 z0 s) (c0 : q0 .regs = false := by first | assumption | rfl) (c6 : q0 .pair = false := by first | assumption | rfl) (c7 : q0 .links = false := by first | assumption | rfl) (c8 : q0 .fns = false := by first | assumption | rfl) (c10 : q0 .snap = false := by first | assumption | rfl) (c13 : q0 .noc = false := by first | assumption | rfl) (c14 : q0 .buf = false := by first | assumption | rfl) (c16 : q0 .dp = false := by first | assumption | rfl) (c19 : q0 .flight = false := by first | assumption | rfl) (c20 : q0 .out = false := by first | assumption | rfl) :
    OkOutcome q0 z0 (execMigadvance region m s) := by
  unfold execMigadvance; try (dsimp only)
  with_reducible repeat' (first | intro _ | apply next_ok | apply ite_ok | assumption | intro _ | apply Steady.ite | apply pumpSlot_st | apply redirectHeld_st | apply setSlot_st | apply receive_st | apply send_st | apply onFabric_st | split)

theorem execMigunmark_ok {s : State} {region : Fin 16} {m : MigMsg} (hs : Steady q0 z0 s) (c0 : q0 .regs = false := by first | assumption | rfl) (c6 : q0 .pair = false := by first | assumption | rfl) (c7 : q0 .links = false := by first | assumption | rfl) (c8 : q0 .fns = false := by first | assumption | rfl) (c10 : q0 .snap = false := by first | assumption | rfl) (c13 : q0 .noc = false := by first | assumption | rfl) (c14 : q0 .buf = false := by first | assumption | rfl) (c16 : q0 .dp = false := by first | assumption | rfl) (c19 : q0 .flight = false := by first | assumption | rfl) (c20 : q0 .out = false := by first | assumption | rfl) :
    OkOutcome q0 z0 (execMigunmark region m s) := by
  unfold execMigunmark; try (dsimp only)
  with_reducible repeat' (first | intro _ | apply next_ok | apply ite_ok | assumption | intro _ | apply Steady.ite | apply pumpSlot_st | apply setSlot_st | apply receive_st | apply send_st | apply onFabric_st | split)

theorem ackSpace_st {s : State} {left : List ℕ} {region : Fin 16} {pid : Bool} {r : ℕ → ResvFor} (hs : Steady q0 z0 s) (c13 : q0 .noc = false := by assumption) :
    Steady q0 z0 (ackSpace s left region pid r) := by
  unfold ackSpace; try (dsimp only)
  with_reducible repeat' (first | assumption | intro _ | apply Steady.ite | apply unreserve_st | split)

theorem answerFrom_st {s : State} {u : UnitRun} {region : Fin 16} {pid : Bool} (hs : Steady q0 z0 s) (c0 : q0 .regs = false := by assumption) (c6 : q0 .pair = false := by assumption) (c7 : q0 .links = false := by assumption) (c8 : q0 .fns = false := by assumption) (c10 : q0 .snap = false := by assumption) (c11 : q0 .pool = false := by assumption) (c13 : q0 .noc = false := by assumption) (c14 : q0 .buf = false := by assumption) (c16 : q0 .dp = false := by assumption) (c18 : q0 .co = false := by assumption) (c19 : q0 .flight = false := by assumption) (c20 : q0 .out = false := by assumption) (c21 : q0 .fresh = false := by assumption) :
    Steady q0 z0 (answerFrom s u region pid) := by
  unfold answerFrom; try (dsimp only)
  with_reducible repeat' (first | assumption | intro _ | apply Steady.ite | apply ackSpace_st | apply startDescs_st | apply pumpUnit_st | apply putUnit_st | refine elim_st ?_ (fun _ => ?_) | split)

theorem regionAnswered_st {s : State} {region : Fin 16} {pid : Bool} (hs : Steady q0 z0 s) (c0 : q0 .regs = false := by assumption) (c6 : q0 .pair = false := by assumption) (c7 : q0 .links = false := by assumption) (c8 : q0 .fns = false := by assumption) (c10 : q0 .snap = false := by assumption) (c11 : q0 .pool = false := by assumption) (c13 : q0 .noc = false := by assumption) (c14 : q0 .buf = false := by assumption) (c16 : q0 .dp = false := by assumption) (c18 : q0 .co = false := by assumption) (c19 : q0 .flight = false := by assumption) (c20 : q0 .out = false := by assumption) (c21 : q0 .fresh = false := by assumption) :
    Steady q0 z0 (regionAnswered s region pid) := by
  unfold regionAnswered; try (dsimp only)
  with_reducible repeat' (first | assumption | intro _ | apply Steady.ite | apply answerFrom_st | apply forAll_st | split)

theorem execMigack_ok {s : State} {slot : Fin 16} {kind : MigKind} {region : Fin 16} {pid : Bool} (hs : Steady q0 z0 s) (c0 : q0 .regs = false := by first | assumption | rfl) (c6 : q0 .pair = false := by first | assumption | rfl) (c7 : q0 .links = false := by first | assumption | rfl) (c8 : q0 .fns = false := by first | assumption | rfl) (c10 : q0 .snap = false := by first | assumption | rfl) (c11 : q0 .pool = false := by first | assumption | rfl) (c13 : q0 .noc = false := by first | assumption | rfl) (c14 : q0 .buf = false := by first | assumption | rfl) (c16 : q0 .dp = false := by first | assumption | rfl) (c18 : q0 .co = false := by first | assumption | rfl) (c19 : q0 .flight = false := by first | assumption | rfl) (c20 : q0 .out = false := by first | assumption | rfl) (c21 : q0 .fresh = false := by first | assumption | rfl) :
    OkOutcome q0 z0 (execMigack slot kind region pid s) := by
  unfold execMigack; try (dsimp only)
  with_reducible repeat' (first | intro _ | apply next_ok | apply ite_ok | assumption | intro _ | apply Steady.ite | apply answerFrom_st | apply receive_st | apply onFabric_st | split)

theorem execMigStepTimeout_ok {s : State} {slot : Fin 16} (hs : Steady q0 z0 s) (c0 : q0 .regs = false := by first | assumption | rfl) (c6 : q0 .pair = false := by first | assumption | rfl) (c7 : q0 .links = false := by first | assumption | rfl) (c8 : q0 .fns = false := by first | assumption | rfl) (c10 : q0 .snap = false := by first | assumption | rfl) (c11 : q0 .pool = false := by first | assumption | rfl) (c13 : q0 .noc = false := by first | assumption | rfl) (c14 : q0 .buf = false := by first | assumption | rfl) (c16 : q0 .dp = false := by first | assumption | rfl) (c18 : q0 .co = false := by first | assumption | rfl) (c19 : q0 .flight = false := by first | assumption | rfl) (c20 : q0 .out = false := by first | assumption | rfl) (c21 : q0 .fresh = false := by first | assumption | rfl) :
    OkOutcome q0 z0 (execMigStepTimeout slot s) := by
  unfold execMigStepTimeout; try (dsimp only)
  with_reducible repeat' (first | intro _ | apply next_ok | apply ite_ok | assumption | intro _ | apply Steady.ite | apply pumpUnit_st | apply migCast_st | apply freeLanding_st | apply withCo_st | apply onFabric_st | split)

theorem execTaginv_ok {s : State} {region : Fin 16} {house : Fin 16} {pid : Bool} {line : LAddr} (hs : Steady q0 z0 s) (c0 : q0 .regs = false := by first | assumption | rfl) (c7 : q0 .links = false := by first | assumption | rfl) (c8 : q0 .fns = false := by first | assumption | rfl) (c10 : q0 .snap = false := by first | assumption | rfl) (c11 : q0 .pool = false := by first | assumption | rfl) (c13 : q0 .noc = false := by first | assumption | rfl) (c19 : q0 .flight = false := by first | assumption | rfl) (c20 : q0 .out = false := by first | assumption | rfl) :
    OkOutcome q0 z0 (execTaginv region house pid line s) := by
  unfold execTaginv; try (dsimp only)
  with_reducible repeat' (first | intro _ | apply next_ok | apply ite_ok | assumption | intro _ | apply Steady.ite | apply tagDropLine_st | apply receive_st | apply sendTwin_st | apply send_st | apply onFabric_st | split)

theorem execTagack_ok {s : State} {house : Fin 16} {line : LAddr} {region : Fin 16} {pid : Bool} (hs : Steady q0 z0 s) (c0 : q0 .regs = false := by first | assumption | rfl) (c6 : q0 .pair = false := by first | assumption | rfl) (c7 : q0 .links = false := by first | assumption | rfl) (c8 : q0 .fns = false := by first | assumption | rfl) (c10 : q0 .snap = false := by first | assumption | rfl) (c11 : q0 .pool = false := by first | assumption | rfl) (c13 : q0 .noc = false := by first | assumption | rfl) (c14 : q0 .buf = false := by first | assumption | rfl) (c16 : q0 .dp = false := by first | assumption | rfl) (c18 : q0 .co = false := by first | assumption | rfl) (c19 : q0 .flight = false := by first | assumption | rfl) (c20 : q0 .out = false := by first | assumption | rfl) (c21 : q0 .fresh = false := by first | assumption | rfl) :
    OkOutcome q0 z0 (execTagack house line region pid s) := by
  unfold execTagack; try (dsimp only)
  with_reducible repeat' (first | intro _ | apply next_ok | apply ite_ok | assumption | intro _ | apply Steady.ite | apply answerFrom_st | apply receive_st | apply onFabric_st | split)

theorem reExecute_st {s : State} {u : UnitRun} (hs : Steady q0 z0 s) (c0 : q0 .regs = false := by assumption) (c7 : q0 .links = false := by assumption) (c8 : q0 .fns = false := by assumption) (c10 : q0 .snap = false := by assumption) (c13 : q0 .noc = false := by assumption) (c14 : q0 .buf = false := by assumption) (c16 : q0 .dp = false := by assumption) (c18 : q0 .co = false := by assumption) (c19 : q0 .flight = false := by assumption) (c20 : q0 .out = false := by assumption) (c21 : q0 .fresh = false := by assumption) :
    Steady q0 z0 (reExecute s u) := by
  unfold reExecute; try (dsimp only)
  with_reducible repeat' (first | assumption | intro _ | apply Steady.ite | apply migCast_st | apply endUnit_st | apply freeLanding_st | apply dropUnit_st | apply withCo_st | split)

theorem addFence_st {s : State} {u : FenceUnit} (hs : Steady q0 z0 s) (c0 : q0 .regs = false := by assumption) (c4 : q0 .dev = false := by assumption) (c6 : q0 .pair = false := by assumption) (c7 : q0 .links = false := by assumption) (c8 : q0 .fns = false := by assumption) (c10 : q0 .snap = false := by assumption) (c11 : q0 .pool = false := by assumption) (c13 : q0 .noc = false := by assumption) (c14 : q0 .buf = false := by assumption) (c16 : q0 .dp = false := by assumption) (c18 : q0 .co = false := by assumption) (c19 : q0 .flight = false := by assumption) (c20 : q0 .out = false := by assumption) (c21 : q0 .fresh = false := by assumption) :
    Steady q0 z0 (addFence s u) := by
  unfold addFence; try (dsimp only)
  with_reducible repeat' (first | exact fun _ => rfl | exact skip | assumption | intro _ | apply Steady.ite | apply regionAnswered_st | apply releaseUnit_st | split | apply Steady.upd)

theorem execCoachFault_ok {s : State} {coach : Fin 256} {cause : CoachCause} (hs : Steady q0 z0 s) (c0 : q0 .regs = false := by first | assumption | rfl) (c1 : q0 .settings = false := by first | assumption | rfl) (c4 : q0 .dev = false := by first | assumption | rfl) (c6 : q0 .pair = false := by first | assumption | rfl) (c7 : q0 .links = false := by first | assumption | rfl) (c8 : q0 .fns = false := by first | assumption | rfl) (c10 : q0 .snap = false := by first | assumption | rfl) (c11 : q0 .pool = false := by first | assumption | rfl) (c13 : q0 .noc = false := by first | assumption | rfl) (c14 : q0 .buf = false := by first | assumption | rfl) (c16 : q0 .dp = false := by first | assumption | rfl) (c18 : q0 .co = false := by first | assumption | rfl) (c19 : q0 .flight = false := by first | assumption | rfl) (c20 : q0 .out = false := by first | assumption | rfl) (c21 : q0 .fresh = false := by first | assumption | rfl) :
    OkOutcome q0 z0 (execCoachFault coach cause s) := by
  unfold execCoachFault; try (dsimp only)
  with_reducible repeat' (first | intro _ | apply next_ok | apply ite_ok | assumption | intro _ | apply Steady.ite | apply addFence_st | apply reExecute_st | apply passDescs_st | apply passDeque_st | apply startDescs_st | apply setCoachState_st | apply withCo_st | apply noticeLoss_st | apply receive_st | apply raiseEv_st | apply onFabric_st | apply forAll_st | apply wr_st | split)

theorem startRetire_st {s : State} {k : ℕ} (hs : Steady q0 z0 s) (c0 : q0 .regs = false := by assumption) (c1 : q0 .settings = false := by assumption) (c6 : q0 .pair = false := by assumption) (c7 : q0 .links = false := by assumption) (c8 : q0 .fns = false := by assumption) (c10 : q0 .snap = false := by assumption) (c13 : q0 .noc = false := by assumption) (c16 : q0 .dp = false := by assumption) (c18 : q0 .co = false := by assumption) (c19 : q0 .flight = false := by assumption) (c20 : q0 .out = false := by assumption) (c21 : q0 .fresh = false := by assumption) :
    Steady q0 z0 (startRetire s k) := by
  unfold startRetire; try (dsimp only)
  with_reducible repeat' (first | assumption | intro _ | apply Steady.ite | apply passDescs_st | apply passDeque_st | apply startDescs_st | apply flushCache_st | apply setCoachState_st | apply raiseEv_st | split)

theorem execCoachRetire_ok {s : State} {coach : Fin 256} (hs : Steady q0 z0 s) (c0 : q0 .regs = false := by first | assumption | rfl) (c1 : q0 .settings = false := by first | assumption | rfl) (c6 : q0 .pair = false := by first | assumption | rfl) (c7 : q0 .links = false := by first | assumption | rfl) (c8 : q0 .fns = false := by first | assumption | rfl) (c10 : q0 .snap = false := by first | assumption | rfl) (c13 : q0 .noc = false := by first | assumption | rfl) (c16 : q0 .dp = false := by first | assumption | rfl) (c18 : q0 .co = false := by first | assumption | rfl) (c19 : q0 .flight = false := by first | assumption | rfl) (c20 : q0 .out = false := by first | assumption | rfl) (c21 : q0 .fresh = false := by first | assumption | rfl) :
    OkOutcome q0 z0 (execCoachRetire coach s) := by
  unfold execCoachRetire; try (dsimp only)
  with_reducible repeat' (first | intro _ | apply next_ok | apply ite_ok | assumption | intro _ | apply Steady.ite | apply startRetire_st | apply onFabric_st | split)

theorem execCoachRetireDone_ok {s : State} {coach : Fin 256} (hs : Steady q0 z0 s) (c0 : q0 .regs = false := by first | assumption | rfl) (c1 : q0 .settings = false := by first | assumption | rfl) (c7 : q0 .links = false := by first | assumption | rfl) (c8 : q0 .fns = false := by first | assumption | rfl) (c10 : q0 .snap = false := by first | assumption | rfl) (c13 : q0 .noc = false := by first | assumption | rfl) (c19 : q0 .flight = false := by first | assumption | rfl) (c20 : q0 .out = false := by first | assumption | rfl) :
    OkOutcome q0 z0 (execCoachRetireDone coach s) := by
  unfold execCoachRetireDone; try (dsimp only)
  with_reducible repeat' (first | intro _ | apply next_ok | apply ite_ok | assumption | intro _ | apply Steady.ite | apply setCoachState_st | apply noticeLoss_st | apply onFabric_st | split)

theorem resetCoach_st {s : State} {coach : Fin 256} (hs : Steady q0 z0 s) (c0 : q0 .regs = false := by assumption) (c1 : q0 .settings = false := by assumption) (c2 : q0 .cap = false := by assumption) (c4 : q0 .dev = false := by assumption) (c18 : q0 .co = false := by assumption) : Steady q0 z0 (resetCoach s coach) := by
  unfold resetCoach
  refine Steady.ite hs ?_
  extract_lets st t u d
  have hu : Steady q0 z0 u := setCoachState_st (clearRegs_st hs)
  clear_value u
  refine withCo_st ?_
  apply Steady.upd hu <;> first | exact fun _ => rfl | exact skip

theorem execCoachSelfTestDone_ok {s : State} {coach : Fin 256} {pass : Bool} (hs : Steady q0 z0 s) (c0 : q0 .regs = false := by first | assumption | rfl) (c1 : q0 .settings = false := by first | assumption | rfl) (c4 : q0 .dev = false := by first | assumption | rfl) :
    OkOutcome q0 z0 (execCoachSelfTestDone coach pass s) := by
  unfold execCoachSelfTestDone; try (dsimp only)
  with_reducible repeat' (first | exact fun _ => rfl | exact skip | intro _ | apply next_ok | apply ite_ok | assumption | intro _ | apply Steady.ite | apply setCoachState_st | apply onFabric_st | apply wrBit_st | apply wr_st | split | apply Steady.upd)

theorem execCoachReinstate_ok {s : State} {coach : Fin 256} (hs : Steady q0 z0 s) (c0 : q0 .regs = false := by first | assumption | rfl) (c1 : q0 .settings = false := by first | assumption | rfl) (c10 : q0 .snap = false := by first | assumption | rfl) (c16 : q0 .dp = false := by first | assumption | rfl) (c18 : q0 .co = false := by first | assumption | rfl) (c21 : q0 .fresh = false := by first | assumption | rfl) :
    OkOutcome q0 z0 (execCoachReinstate coach s) := by
  unfold execCoachReinstate; try (dsimp only)
  with_reducible repeat' (first | intro _ | apply next_ok | apply ite_ok | assumption | intro _ | apply Steady.ite | apply startDescs_st | apply setCoachState_st | apply withCo_st | apply onFabric_st | apply wrBit_st | split)

theorem writeColours_st {s : State} {b : Byte} {l : LAddr} (hs : Steady q0 z0 s) (c0 : q0 .regs = false := by assumption) (c6 : q0 .pair = false := by assumption) (c7 : q0 .links = false := by assumption) (c8 : q0 .fns = false := by assumption) (c10 : q0 .snap = false := by assumption) (c13 : q0 .noc = false := by assumption) (c14 : q0 .buf = false := by assumption) (c16 : q0 .dp = false := by assumption) (c19 : q0 .flight = false := by assumption) (c20 : q0 .out = false := by assumption) :
    Steady q0 z0 (writeColours s b l) := by
  unfold writeColours; try (dsimp only)
  with_reducible repeat' (first | assumption | intro _ | apply Steady.ite | apply dpArrive_st | split)

theorem execColourInitStart_ok {s : State} (hs : Steady q0 z0 s) (c0 : q0 .regs = false := by first | assumption | rfl) (c6 : q0 .pair = false := by first | assumption | rfl) (c7 : q0 .links = false := by first | assumption | rfl) (c8 : q0 .fns = false := by first | assumption | rfl) (c10 : q0 .snap = false := by first | assumption | rfl) (c11 : q0 .pool = false := by first | assumption | rfl) (c13 : q0 .noc = false := by first | assumption | rfl) (c14 : q0 .buf = false := by first | assumption | rfl) (c16 : q0 .dp = false := by first | assumption | rfl) (c19 : q0 .flight = false := by first | assumption | rfl) (c20 : q0 .out = false := by first | assumption | rfl) :
    OkOutcome q0 z0 (execColourInitStart s) := by
  unfold execColourInitStart; try (dsimp only)
  with_reducible repeat' (first | exact fun _ => rfl | exact skip | intro _ | apply next_ok | apply ite_ok | assumption | intro _ | apply Steady.ite | apply writeColours_st | apply onFabric_st | apply forAll_st | split | apply Steady.upd)

theorem migTakeover_st {s : State} (hs : Steady q0 z0 s) (c0 : q0 .regs = false := by assumption) (c6 : q0 .pair = false := by assumption) (c7 : q0 .links = false := by assumption) (c8 : q0 .fns = false := by assumption) (c10 : q0 .snap = false := by assumption) (c11 : q0 .pool = false := by assumption) (c13 : q0 .noc = false := by assumption) (c14 : q0 .buf = false := by assumption) (c16 : q0 .dp = false := by assumption) (c18 : q0 .co = false := by assumption) (c19 : q0 .flight = false := by assumption) (c20 : q0 .out = false := by assumption) (c21 : q0 .fresh = false := by assumption) : Steady q0 z0 (migTakeover s) := by
  unfold migTakeover
  dsimp only
  refine forAll_st (withCo_st (withNoc_st ?_)) (fun v x hv => pumpUnit_st hv)
  refine forAll_st hs (fun u i hu => ?_)
  split
  · exact forAll_st hu (fun v n hv => pumpSlot_st (setSlot_st hv))
  · exact hu

end Sys2Proof.Laws
end

