-- ==== Sys2Proof/Laws/SteadyFunc.lean ====
section
/-! SUPPORT. Every operation of Machine/Func.lean is steady. -/

set_option Elab.async false
set_option linter.unusedTactic false
set_option linter.unreachableTactic false

namespace Sys2Proof.Laws

open Sys2Proof.Machine

variable {q0 : Part → Bool} {z0 : State}

theorem setBusMaster_st {s : State} {p : ℕ} {f : ℕ} (hs : Steady q0 z0 s) (c8 : q0 .fns = false := by assumption) (c20 : q0 .out = false := by assumption) :
    Steady q0 z0 (setBusMaster s p f) := by
  unfold setBusMaster; try (dsimp only)
  with_reducible repeat' (first | assumption | intro _ | apply Steady.ite | apply flushVectors_st | apply cfgPut_st | split)

theorem setPower_st {s : State} {p : ℕ} {d3 : Bool} (hs : Steady q0 z0 s) (c8 : q0 .fns = false := by assumption) (c20 : q0 .out = false := by assumption) :
    Steady q0 z0 (setPower s p d3) := by
  unfold setPower; try (dsimp only)
  with_reducible repeat' (first | assumption | intro _ | apply Steady.ite | apply flushVectors_st | apply cfgPut_st | apply forAll_st | split)

theorem unmaskVector_st {s : State} {p : ℕ} {f : ℕ} {v : ℕ} (hs : Steady q0 z0 s) (c8 : q0 .fns = false := by assumption) (c20 : q0 .out = false := by assumption) :
    Steady q0 z0 (unmaskVector s p f v) := by
  unfold unmaskVector; try (dsimp only)
  with_reducible repeat' (first | exact fun _ => rfl | exact skip | assumption | intro _ | apply Steady.ite | apply sendVector_st | apply setPending_st | split | apply Steady.upd)

theorem execMsixUnmask_ok {s : State} {port : Fin 128} {func : FuncNo} {vector : BitVec 11} (hs : Steady q0 z0 s) (c8 : q0 .fns = false := by first | assumption | rfl) (c20 : q0 .out = false := by first | assumption | rfl) :
    OkOutcome q0 z0 (execMsixUnmask port func vector s) := by
  unfold execMsixUnmask; try (dsimp only)
  with_reducible repeat' (first | intro _ | apply next_ok | apply ite_ok | assumption | intro _ | apply Steady.ite | apply unmaskVector_st | apply onFabric_st | split)

theorem msixTableWrite_st {s : State} {p : ℕ} {f : ℕ} {i : ℕ} {v : Word} (hs : Steady q0 z0 s) (c8 : q0 .fns = false := by assumption) (c20 : q0 .out = false := by assumption) :
    Steady q0 z0 (msixTableWrite s p f i v) := by
  unfold msixTableWrite; try (dsimp only)
  with_reducible repeat' (first | exact fun _ => rfl | exact skip | assumption | intro _ | apply Steady.ite | apply unmaskVector_st | split | apply Steady.upd)

theorem execRetryStatusTimeout_ok {s : State} {port : Fin 128} (hs : Steady q0 z0 s) (c8 : q0 .fns = false := by first | assumption | rfl) :
    OkOutcome q0 z0 (execRetryStatusTimeout port s) := by
  unfold execRetryStatusTimeout; try (dsimp only)
  with_reducible repeat' (first | exact fun _ => rfl | exact skip | intro _ | apply next_ok | apply ite_ok | assumption | intro _ | apply Steady.ite | apply onFabric_st | split | apply Steady.upd)

end Sys2Proof.Laws
end

