-- ==== Sys2Proof/Laws/SteadyLanes.lean ====
section
/-! SUPPORT. Every operation of Machine/Lanes.lean is steady. -/

set_option Elab.async false
set_option linter.unusedTactic false
set_option linter.unreachableTactic false

namespace Sys2Proof.Laws

open Sys2Proof.Machine

variable {q0 : Part → Bool} {z0 : State}

theorem takeAck_st {s : State} {l : LinkId} {a : BitVec 12} (hs : Steady q0 z0 s) (c7 : q0 .links = false := by assumption) :
    Steady q0 z0 (takeAck s l a) := by
  unfold takeAck; try (dsimp only)
  with_reducible repeat' (first | assumption | intro _ | apply Steady.ite | apply setOwn_st | split)

theorem takeCredits_st {s : State} {l : LinkId} {f : Flit} (hs : Steady q0 z0 s) (c7 : q0 .links = false := by assumption) :
    Steady q0 z0 (takeCredits s l f) := by
  unfold takeCredits; try (dsimp only)
  with_reducible repeat' (first | assumption | intro _ | apply Steady.ite | apply setOwn_st | split)

theorem takeFields_st {s : State} {l : LinkId} {f : Flit} (hs : Steady q0 z0 s) (c0 : q0 .regs = false := by assumption) (c7 : q0 .links = false := by assumption) (c10 : q0 .snap = false := by assumption) (c20 : q0 .out = false := by assumption) :
    Steady q0 z0 (takeFields s l f) := by
  unfold takeFields; try (dsimp only)
  with_reducible repeat' (first | assumption | intro _ | apply Steady.ite | apply takeCredits_st | apply takeAck_st | apply pumpLink_st | split)

theorem setSw_st {s : State} {key : ℕ} {w : Option Switchover} (hs : Steady q0 z0 s) (c7 : q0 .links = false := by assumption) :
    Steady q0 z0 (setSw s key w) := by
  unfold setSw; try (dsimp only)
  with_reducible repeat' (first | exact fun _ => rfl | exact skip | assumption | intro _ | apply Steady.ite | split | apply Steady.upd)

theorem setSpare_st {s : State} {o : SpareOwner} {second : Bool} {st : ℕ} {lane : ℕ} (hs : Steady q0 z0 s) (c0 : q0 .regs = false := by assumption) (c1 : q0 .settings = false := by assumption) (c7 : q0 .links = false := by assumption) (c8 : q0 .fns = false := by assumption) (c10 : q0 .snap = false := by assumption) (c13 : q0 .noc = false := by assumption) (c19 : q0 .flight = false := by assumption) (c20 : q0 .out = false := by assumption) :
    Steady q0 z0 (setSpare s o second st lane) := by
  unfold setSpare; try (dsimp only)
  with_reducible repeat' (first | assumption | intro _ | apply Steady.ite | apply raiseEv_st | apply wr_st | split)

theorem laneTo_st {s : State} {n : ℕ} {tx : ℕ} {rx : ℕ} (hs : Steady q0 z0 s) (c0 : q0 .regs = false := by assumption) (c1 : q0 .settings = false := by assumption) :
    Steady q0 z0 (laneTo s n tx rx) := by
  unfold laneTo; try (dsimp only)
  with_reducible repeat' (first | assumption | intro _ | apply Steady.ite | apply wr_st | apply setReg_st | split)

theorem setLaneState_st {s : State} {n : ℕ} {st : ℕ} (hs : Steady q0 z0 s) (c0 : q0 .regs = false := by assumption) (c1 : q0 .settings = false := by assumption) :
    Steady q0 z0 (setLaneState s n st) := by
  unfold setLaneState; try (dsimp only)
  with_reducible repeat' (first | assumption | intro _ | apply Steady.ite | apply laneTo_st | split)

theorem settleSwitchover_st {s : State} {x : SpareOwner × Bool} (hs : Steady q0 z0 s) (c0 : q0 .regs = false := by assumption) (c1 : q0 .settings = false := by assumption) (c7 : q0 .links = false := by assumption) (c8 : q0 .fns = false := by assumption) (c10 : q0 .snap = false := by assumption) (c13 : q0 .noc = false := by assumption) (c19 : q0 .flight = false := by assumption) (c20 : q0 .out = false := by assumption) :
    Steady q0 z0 (settleSwitchover s x) := by
  unfold settleSwitchover; try (dsimp only)
  with_reducible repeat' (first | assumption | intro _ | apply Steady.ite | apply setLaneState_st | apply setSpare_st | apply setSw_st | split)

theorem enterRecovery_st {s : State} {l : LinkId} {full : Bool} (hs : Steady q0 z0 s) (c0 : q0 .regs = false := by assumption) (c1 : q0 .settings = false := by assumption) (c3 : q0 .banks = false := by assumption) (c5 : q0 .txn = false := by assumption) (c7 : q0 .links = false := by assumption) (c8 : q0 .fns = false := by assumption) (c10 : q0 .snap = false := by assumption) (c13 : q0 .noc = false := by assumption) (c19 : q0 .flight = false := by assumption) (c20 : q0 .out = false := by assumption) :
    Steady q0 z0 (enterRecovery s l full) := by
  unfold enterRecovery; try (dsimp only)
  with_reducible repeat' (first | assumption | intro _ | apply Steady.ite | apply settleSwitchover_st | apply txnLinkLost_st | apply count_st | apply setOwn_st | apply forAll_st | apply wr_st | split)

theorem doReplay_st {s : State} {l : LinkId} {x : BitVec 12} (hs : Steady q0 z0 s) (c0 : q0 .regs = false := by assumption) (c1 : q0 .settings = false := by assumption) (c3 : q0 .banks = false := by assumption) (c5 : q0 .txn = false := by assumption) (c7 : q0 .links = false := by assumption) (c8 : q0 .fns = false := by assumption) (c10 : q0 .snap = false := by assumption) (c13 : q0 .noc = false := by assumption) (c19 : q0 .flight = false := by assumption) (c20 : q0 .out = false := by assumption) :
    Steady q0 z0 (doReplay s l x) := by
  unfold doReplay; try (dsimp only)
  with_reducible repeat' (first | assumption | intro _ | apply Steady.ite | apply enterRecovery_st | apply count_st | apply noteFlit_st | apply setOwn_st | apply forAll_st | apply emit_st | split)

theorem crcFail_st {s : State} {l : LinkId} (hs : Steady q0 z0 s) (c0 : q0 .regs = false := by assumption) (c7 : q0 .links = false := by assumption) (c8 : q0 .fns = false := by assumption) (c10 : q0 .snap = false := by assumption) (c13 : q0 .noc = false := by assumption) (c19 : q0 .flight = false := by assumption) (c20 : q0 .out = false := by assumption) :
    Steady q0 z0 (crcFail s l) := by
  unfold crcFail; try (dsimp only)
  with_reducible repeat' (first | assumption | intro _ | apply Steady.ite | refine count_bg ?_ (by constructor) | apply setOwn_st | apply emit_st | split)

theorem onOwnLink_st {s t : State} {l : LinkId} (hs : Steady q0 z0 s) (ht : Steady q0 z0 t) :
    Steady q0 z0 (onOwnLink s l t) := by
  unfold onOwnLink; try (dsimp only)
  with_reducible repeat' (first | assumption | intro _ | apply Steady.ite | split)

theorem returnSlots_st {s : State} {got : Option (ℕ × ℕ)} (hs : Steady q0 z0 s) (c20 : q0 .out = false := by assumption) :
    Steady q0 z0 (returnSlots s got) := by
  unfold returnSlots; try (dsimp only)
  with_reducible repeat' (first | assumption | intro _ | apply Steady.ite | apply emit_st | split)

theorem acceptData_st {s : State} {l : LinkId} {f : Flit} (hs : Steady q0 z0 s) (c0 : q0 .regs = false := by assumption) (c7 : q0 .links = false := by assumption) (c8 : q0 .fns = false := by assumption) (c10 : q0 .snap = false := by assumption) (c13 : q0 .noc = false := by assumption) (c19 : q0 .flight = false := by assumption) (c20 : q0 .out = false := by assumption) :
    Steady q0 z0 (acceptData s l f) := by
  unfold acceptData; try (dsimp only)
  with_reducible repeat' (first | assumption | intro _ | apply Steady.ite | apply returnSlots_st | refine count_bg ?_ (by constructor) | apply setOwn_st | split)

theorem execDataFlit_ok {s : State} {l : LinkId} {f : Flit} (hs : Steady q0 z0 s) (c0 : q0 .regs = false := by first | assumption | rfl) (c7 : q0 .links = false := by first | assumption | rfl) (c8 : q0 .fns = false := by first | assumption | rfl) (c10 : q0 .snap = false := by first | assumption | rfl) (c13 : q0 .noc = false := by first | assumption | rfl) (c19 : q0 .flight = false := by first | assumption | rfl) (c20 : q0 .out = false := by first | assumption | rfl) :
    OkOutcome q0 z0 (execDataFlit l f s) := by
  unfold execDataFlit; try (dsimp only)
  with_reducible repeat' (first | intro _ | apply next_ok | apply ite_ok | assumption | intro _ | apply Steady.ite | apply acceptData_st | apply onOwnLink_st | apply crcFail_st | apply takeFields_st | split)

theorem execFlitCrcFail_ok {s : State} {l : LinkId} (hs : Steady q0 z0 s) (c0 : q0 .regs = false := by first | assumption | rfl) (c1 : q0 .settings = false := by first | assumption | rfl) (c7 : q0 .links = false := by first | assumption | rfl) (c8 : q0 .fns = false := by first | assumption | rfl) (c10 : q0 .snap = false := by first | assumption | rfl) (c13 : q0 .noc = false := by first | assumption | rfl) (c19 : q0 .flight = false := by first | assumption | rfl) (c20 : q0 .out = false := by first | assumption | rfl) :
    OkOutcome q0 z0 (execFlitCrcFail l s) := by
  unfold execFlitCrcFail; try (dsimp only)
  with_reducible repeat' (first | intro _ | apply next_ok | apply ite_ok | assumption | intro _ | apply Steady.ite | apply onOwnLink_st | apply crcFail_st | apply count_st | apply onFabric_st | split)

theorem execAckFlit_ok {s : State} {l : LinkId} {f : Flit} (hs : Steady q0 z0 s) (c0 : q0 .regs = false := by first | assumption | rfl) (c7 : q0 .links = false := by first | assumption | rfl) (c10 : q0 .snap = false := by first | assumption | rfl) (c20 : q0 .out = false := by first | assumption | rfl) :
    OkOutcome q0 z0 (execAckFlit l f s) := by
  unfold execAckFlit; try (dsimp only)
  with_reducible repeat' (first | intro _ | apply next_ok | apply ite_ok | assumption | intro _ | apply Steady.ite | apply onOwnLink_st | apply takeFields_st | split)

theorem execNak_ok {s : State} {l : LinkId} {f : Flit} (hs : Steady q0 z0 s) (c0 : q0 .regs = false := by first | assumption | rfl) (c1 : q0 .settings = false := by first | assumption | rfl) (c3 : q0 .banks = false := by first | assumption | rfl) (c5 : q0 .txn = false := by first | assumption | rfl) (c7 : q0 .links = false := by first | assumption | rfl) (c8 : q0 .fns = false := by first | assumption | rfl) (c10 : q0 .snap = false := by first | assumption | rfl) (c13 : q0 .noc = false := by first | assumption | rfl) (c19 : q0 .flight = false := by first | assumption | rfl) (c20 : q0 .out = false := by first | assumption | rfl) :
    OkOutcome q0 z0 (execNak l f s) := by
  unfold execNak; try (dsimp only)
  with_reducible repeat' (first | intro _ | apply next_ok | apply ite_ok | assumption | intro _ | apply Steady.ite | apply onOwnLink_st | apply doReplay_st | apply takeCredits_st | apply takeAck_st | apply pumpLink_st | apply setOwn_st | split)

theorem execReplay_ok {s : State} {l : LinkId} {f : Flit} (hs : Steady q0 z0 s) (c0 : q0 .regs = false := by first | assumption | rfl) (c7 : q0 .links = false := by first | assumption | rfl) (c10 : q0 .snap = false := by first | assumption | rfl) (c20 : q0 .out = false := by first | assumption | rfl) :
    OkOutcome q0 z0 (execReplay l f s) := by
  unfold execReplay; try (dsimp only)
  with_reducible repeat' (first | intro _ | apply next_ok | apply ite_ok | assumption | intro _ | apply Steady.ite | apply onOwnLink_st | apply takeFields_st | apply setOwn_st | split)

theorem execCompFlit_ok {s : State} {_l : LinkId} (hs : Steady q0 z0 s) :
    OkOutcome q0 z0 (execCompFlit _l s) := by
  unfold execCompFlit; try (dsimp only)
  with_reducible repeat' (first | intro _ | apply next_ok | apply ite_ok | assumption | intro _ | apply Steady.ite | split)

theorem execAckIdleExpiry_ok {s : State} {l : LinkId} (hs : Steady q0 z0 s) (c7 : q0 .links = false := by first | assumption | rfl) (c20 : q0 .out = false := by first | assumption | rfl) :
    OkOutcome q0 z0 (execAckIdleExpiry l s) := by
  unfold execAckIdleExpiry; try (dsimp only)
  with_reducible repeat' (first | intro _ | apply next_ok | apply ite_ok | assumption | intro _ | apply Steady.ite | apply onOwnLink_st | apply setOwn_st | apply emit_st | split)

theorem execNakResendTimeout_ok {s : State} {l : LinkId} (hs : Steady q0 z0 s) (c7 : q0 .links = false := by first | assumption | rfl) (c20 : q0 .out = false := by first | assumption | rfl) :
    OkOutcome q0 z0 (execNakResendTimeout l s) := by
  unfold execNakResendTimeout; try (dsimp only)
  with_reducible repeat' (first | intro _ | apply next_ok | apply ite_ok | assumption | intro _ | apply Steady.ite | apply onOwnLink_st | apply setOwn_st | apply emit_st | split)

theorem execReplayTimeout_ok {s : State} {l : LinkId} (hs : Steady q0 z0 s) (c0 : q0 .regs = false := by first | assumption | rfl) (c1 : q0 .settings = false := by first | assumption | rfl) (c3 : q0 .banks = false := by first | assumption | rfl) (c5 : q0 .txn = false := by first | assumption | rfl) (c7 : q0 .links = false := by first | assumption | rfl) (c8 : q0 .fns = false := by first | assumption | rfl) (c10 : q0 .snap = false := by first | assumption | rfl) (c13 : q0 .noc = false := by first | assumption | rfl) (c19 : q0 .flight = false := by first | assumption | rfl) (c20 : q0 .out = false := by first | assumption | rfl) :
    OkOutcome q0 z0 (execReplayTimeout l s) := by
  unfold execReplayTimeout; try (dsimp only)
  with_reducible repeat' (first | intro _ | apply next_ok | apply ite_ok | assumption | intro _ | apply Steady.ite | apply onOwnLink_st | apply doReplay_st | split)

theorem applyForce_st {s : State} {n : ℕ} (hs : Steady q0 z0 s) (c0 : q0 .regs = false := by assumption) (c1 : q0 .settings = false := by assumption) :
    Steady q0 z0 (applyForce s n) := by
  unfold applyForce; try (dsimp only)
  with_reducible repeat' (first | assumption | intro _ | apply Steady.ite | apply laneTo_st | split)

theorem execLanePowerForce_ok {s : State} {lane : Fin 562} {val : Word} (hs : Steady q0 z0 s) (c0 : q0 .regs = false := by first | assumption | rfl) (c1 : q0 .settings = false := by first | assumption | rfl) :
    OkOutcome q0 z0 (execLanePowerForce lane val s) := by
  unfold execLanePowerForce; try (dsimp only)
  with_reducible repeat' (first | intro _ | apply next_ok | apply ite_ok | assumption | intro _ | apply Steady.ite | apply applyForce_st | apply onFabric_st | apply setReg_st | split)

theorem execLoopbackModeWrite_ok {s : State} {lane : Fin 562} {val : Word} (hs : Steady q0 z0 s) (c0 : q0 .regs = false := by first | assumption | rfl) (c1 : q0 .settings = false := by first | assumption | rfl) :
    OkOutcome q0 z0 (execLoopbackModeWrite lane val s) := by
  unfold execLoopbackModeWrite; try (dsimp only)
  with_reducible repeat' (first | intro _ | apply next_ok | apply ite_ok | assumption | intro _ | apply Steady.ite | apply onFabric_st | apply wrBit_st | apply setReg_st | split)

theorem execCheckerLock_ok {s : State} {lane : Fin 562} (hs : Steady q0 z0 s) (c0 : q0 .regs = false := by first | assumption | rfl) (c1 : q0 .settings = false := by first | assumption | rfl) :
    OkOutcome q0 z0 (execCheckerLock lane s) := by
  unfold execCheckerLock; try (dsimp only)
  with_reducible repeat' (first | intro _ | apply next_ok | apply ite_ok | assumption | intro _ | apply Steady.ite | apply onFabric_st | apply wrBit_st | split)

theorem leaveLoopback_st {s : State} {n : ℕ} (hs : Steady q0 z0 s) (c0 : q0 .regs = false := by assumption) (c1 : q0 .settings = false := by assumption) :
    Steady q0 z0 (leaveLoopback s n) := by
  unfold leaveLoopback; try (dsimp only)
  with_reducible repeat' (first | assumption | intro _ | apply Steady.ite | apply wr_st | split)

theorem beyondSpares_st {s : State} {o : SpareOwner} (hs : Steady q0 z0 s) (c0 : q0 .regs = false := by assumption) (c1 : q0 .settings = false := by assumption) (c3 : q0 .banks = false := by assumption) (c5 : q0 .txn = false := by assumption) (c7 : q0 .links = false := by assumption) (c8 : q0 .fns = false := by assumption) (c10 : q0 .snap = false := by assumption) (c13 : q0 .noc = false := by assumption) (c19 : q0 .flight = false := by assumption) (c20 : q0 .out = false := by assumption) :
    Steady q0 z0 (beyondSpares s o) := by
  unfold beyondSpares; try (dsimp only)
  with_reducible repeat' (first | assumption | intro _ | apply Steady.ite | apply enterRecovery_st | split)

theorem startSwitch_st {s : State} {o : SpareOwner} {second : Bool} {restore : Bool} {l : BitVec 5} (hs : Steady q0 z0 s) (c7 : q0 .links = false := by assumption) (c20 : q0 .out = false := by assumption) :
    Steady q0 z0 (startSwitch s o second restore l) := by
  unfold startSwitch; try (dsimp only)
  with_reducible repeat' (first | assumption | intro _ | apply Steady.ite | apply setSw_st | apply emit_st | split)

theorem execSpareSubst_ok {s : State} {o : SpareOwner} {lane : BitVec 5} (hs : Steady q0 z0 s) (c7 : q0 .links = false := by first | assumption | rfl) (c20 : q0 .out = false := by first | assumption | rfl) :
    OkOutcome q0 z0 (execSpareSubst o lane s) := by
  unfold execSpareSubst; try (dsimp only)
  with_reducible repeat' (first | intro _ | apply next_ok | apply ite_ok | assumption | intro _ | apply Steady.ite | apply startSwitch_st | apply onFabric_st | split)

theorem execSpareRestore_ok {s : State} {o : SpareOwner} {lane : BitVec 5} (hs : Steady q0 z0 s) (c7 : q0 .links = false := by first | assumption | rfl) (c20 : q0 .out = false := by first | assumption | rfl) :
    OkOutcome q0 z0 (execSpareRestore o lane s) := by
  unfold execSpareRestore; try (dsimp only)
  with_reducible repeat' (first | intro _ | apply next_ok | apply ite_ok | assumption | intro _ | apply Steady.ite | apply startSwitch_st | apply onFabric_st | split)

theorem execSpareFailure_ok {s : State} {o : SpareOwner} {second : Bool} (hs : Steady q0 z0 s) (c0 : q0 .regs = false := by first | assumption | rfl) (c1 : q0 .settings = false := by first | assumption | rfl) (c3 : q0 .banks = false := by first | assumption | rfl) (c5 : q0 .txn = false := by first | assumption | rfl) (c7 : q0 .links = false := by first | assumption | rfl) (c8 : q0 .fns = false := by first | assumption | rfl) (c10 : q0 .snap = false := by first | assumption | rfl) (c13 : q0 .noc = false := by first | assumption | rfl) (c19 : q0 .flight = false := by first | assumption | rfl) (c20 : q0 .out = false := by first | assumption | rfl) :
    OkOutcome q0 z0 (execSpareFailure o second s) := by
  unfold execSpareFailure; try (dsimp only)
  with_reducible repeat' (first | intro _ | apply next_ok | apply ite_ok | assumption | intro _ | apply Steady.ite | apply beyondSpares_st | apply setSpare_st | apply setSw_st | apply onFabric_st | split)

theorem execLaneFailing_ok {s : State} {lane : Fin 562} {why : LaneWhy} (hs : Steady q0 z0 s) (c0 : q0 .regs = false := by first | assumption | rfl) (c1 : q0 .settings = false := by first | assumption | rfl) (c3 : q0 .banks = false := by first | assumption | rfl) (c5 : q0 .txn = false := by first | assumption | rfl) (c7 : q0 .links = false := by first | assumption | rfl) (c8 : q0 .fns = false := by first | assumption | rfl) (c10 : q0 .snap = false := by first | assumption | rfl) (c13 : q0 .noc = false := by first | assumption | rfl) (c19 : q0 .flight = false := by first | assumption | rfl) (c20 : q0 .out = false := by first | assumption | rfl) :
    OkOutcome q0 z0 (execLaneFailing lane why s) := by
  unfold execLaneFailing; try (dsimp only)
  with_reducible repeat' (first | intro _ | apply next_ok | apply ite_ok | assumption | intro _ | apply Steady.ite | apply startSwitch_st | apply beyondSpares_st | apply enterRecovery_st | apply raiseEv_st | apply onFabric_st | apply wrBit_st | split)

theorem finishSwitch_st {s : State} {o : SpareOwner} {second : Bool} (hs : Steady q0 z0 s) (c0 : q0 .regs = false := by assumption) (c1 : q0 .settings = false := by assumption) (c7 : q0 .links = false := by assumption) (c8 : q0 .fns = false := by assumption) (c10 : q0 .snap = false := by assumption) (c13 : q0 .noc = false := by assumption) (c19 : q0 .flight = false := by assumption) (c20 : q0 .out = false := by assumption) :
    Steady q0 z0 (finishSwitch s o second) := by
  unfold finishSwitch; try (dsimp only)
  with_reducible repeat' (first | assumption | intro _ | apply Steady.ite | apply applyForce_st | apply setLaneState_st | apply setSpare_st | apply setSw_st | split)

theorem abandonSwitch_st {s : State} {o : SpareOwner} {second : Bool} (hs : Steady q0 z0 s) (c0 : q0 .regs = false := by assumption) (c1 : q0 .settings = false := by assumption) (c3 : q0 .banks = false := by assumption) (c5 : q0 .txn = false := by assumption) (c7 : q0 .links = false := by assumption) (c8 : q0 .fns = false := by assumption) (c10 : q0 .snap = false := by assumption) (c13 : q0 .noc = false := by assumption) (c19 : q0 .flight = false := by assumption) (c20 : q0 .out = false := by assumption) :
    Steady q0 z0 (abandonSwitch s o second) := by
  unfold abandonSwitch; try (dsimp only)
  with_reducible repeat' (first | assumption | intro _ | apply Steady.ite | apply beyondSpares_st | apply setSw_st | split)

theorem ackSwitch_st {s : State} {o : SpareOwner} {second : Bool} {restore : Bool} {lane : BitVec 5} {mine : Option Switchover} (hs : Steady q0 z0 s) (c7 : q0 .links = false := by assumption) (c20 : q0 .out = false := by assumption) :
    Steady q0 z0 (ackSwitch s o second restore lane mine) := by
  unfold ackSwitch; try (dsimp only)
  with_reducible repeat' (first | assumption | intro _ | apply Steady.ite | apply setSw_st | apply emit_st | refine getD_st (fun _ _ => ?_) ?_ | split)

theorem execSpareReq_ok {s : State} {o : SpareOwner} {lane : BitVec 5} {second : Bool} (hs : Steady q0 z0 s) (c0 : q0 .regs = false := by first | assumption | rfl) (c1 : q0 .settings = false := by first | assumption | rfl) (c3 : q0 .banks = false := by first | assumption | rfl) (c5 : q0 .txn = false := by first | assumption | rfl) (c7 : q0 .links = false := by first | assumption | rfl) (c8 : q0 .fns = false := by first | assumption | rfl) (c10 : q0 .snap = false := by first | assumption | rfl) (c13 : q0 .noc = false := by first | assumption | rfl) (c19 : q0 .flight = false := by first | assumption | rfl) (c20 : q0 .out = false := by first | assumption | rfl) :
    OkOutcome q0 z0 (execSpareReq o lane second s) := by
  unfold execSpareReq; try (dsimp only)
  with_reducible repeat' (first | intro _ | apply next_ok | apply ite_ok | assumption | intro _ | apply Steady.ite | apply ackSwitch_st | apply beyondSpares_st | apply setSw_st | apply onFabric_st | apply emit_st | split)

theorem execSpareAck_ok {s : State} {o : SpareOwner} {lane : BitVec 5} {second : Bool} (hs : Steady q0 z0 s) (c7 : q0 .links = false := by first | assumption | rfl) :
    OkOutcome q0 z0 (execSpareAck o lane second s) := by
  unfold execSpareAck; try (dsimp only)
  with_reducible repeat' (first | intro _ | apply next_ok | apply ite_ok | assumption | intro _ | apply Steady.ite | apply setSw_st | apply onFabric_st | split)

theorem execSpareNak_ok {s : State} {o : SpareOwner} {_lane : BitVec 5} {second : Bool} (hs : Steady q0 z0 s) (c0 : q0 .regs = false := by first | assumption | rfl) (c1 : q0 .settings = false := by first | assumption | rfl) (c3 : q0 .banks = false := by first | assumption | rfl) (c5 : q0 .txn = false := by first | assumption | rfl) (c7 : q0 .links = false := by first | assumption | rfl) (c8 : q0 .fns = false := by first | assumption | rfl) (c10 : q0 .snap = false := by first | assumption | rfl) (c13 : q0 .noc = false := by first | assumption | rfl) (c19 : q0 .flight = false := by first | assumption | rfl) (c20 : q0 .out = false := by first | assumption | rfl) :
    OkOutcome q0 z0 (execSpareNak o _lane second s) := by
  unfold execSpareNak; try (dsimp only)
  with_reducible repeat' (first | intro _ | apply next_ok | apply ite_ok | assumption | intro _ | apply Steady.ite | apply abandonSwitch_st | apply onFabric_st | split)

theorem execSpareDone_ok {s : State} {o : SpareOwner} {lane : BitVec 5} {second : Bool} (hs : Steady q0 z0 s) (c0 : q0 .regs = false := by first | assumption | rfl) (c1 : q0 .settings = false := by first | assumption | rfl) (c7 : q0 .links = false := by first | assumption | rfl) (c8 : q0 .fns = false := by first | assumption | rfl) (c10 : q0 .snap = false := by first | assumption | rfl) (c13 : q0 .noc = false := by first | assumption | rfl) (c19 : q0 .flight = false := by first | assumption | rfl) (c20 : q0 .out = false := by first | assumption | rfl) :
    OkOutcome q0 z0 (execSpareDone o lane second s) := by
  unfold execSpareDone; try (dsimp only)
  with_reducible repeat' (first | intro _ | apply next_ok | apply ite_ok | assumption | intro _ | apply Steady.ite | apply finishSwitch_st | apply setSw_st | apply onFabric_st | apply wr_st | split)

theorem execSpareReqResend_ok {s : State} {o : SpareOwner} {second : Bool} (hs : Steady q0 z0 s) (c0 : q0 .regs = false := by first | assumption | rfl) (c1 : q0 .settings = false := by first | assumption | rfl) (c3 : q0 .banks = false := by first | assumption | rfl) (c5 : q0 .txn = false := by first | assumption | rfl) (c7 : q0 .links = false := by first | assumption | rfl) (c8 : q0 .fns = false := by first | assumption | rfl) (c10 : q0 .snap = false := by first | assumption | rfl) (c13 : q0 .noc = false := by first | assumption | rfl) (c19 : q0 .flight = false := by first | assumption | rfl) (c20 : q0 .out = false := by first | assumption | rfl) :
    OkOutcome q0 z0 (execSpareReqResend o second s) := by
  unfold execSpareReqResend; try (dsimp only)
  with_reducible repeat' (first | intro _ | apply next_ok | apply ite_ok | assumption | intro _ | apply Steady.ite | apply abandonSwitch_st | apply setSw_st | apply onFabric_st | apply emit_st | split)

theorem execSpareAligned_ok {s : State} {o : SpareOwner} {second : Bool} (hs : Steady q0 z0 s) (c0 : q0 .regs = false := by first | assumption | rfl) (c1 : q0 .settings = false := by first | assumption | rfl) (c7 : q0 .links = false := by first | assumption | rfl) (c8 : q0 .fns = false := by first | assumption | rfl) (c10 : q0 .snap = false := by first | assumption | rfl) (c13 : q0 .noc = false := by first | assumption | rfl) (c19 : q0 .flight = false := by first | assumption | rfl) (c20 : q0 .out = false := by first | assumption | rfl) :
    OkOutcome q0 z0 (execSpareAligned o second s) := by
  unfold execSpareAligned; try (dsimp only)
  with_reducible repeat' (first | intro _ | apply next_ok | apply ite_ok | assumption | intro _ | apply Steady.ite | apply finishSwitch_st | apply setSw_st | apply onFabric_st | apply emit_st | split)

theorem execRestoreReq_ok {s : State} {o : SpareOwner} {lane : BitVec 5} {second : Bool} (hs : Steady q0 z0 s) (c7 : q0 .links = false := by first | assumption | rfl) (c20 : q0 .out = false := by first | assumption | rfl) :
    OkOutcome q0 z0 (execRestoreReq o lane second s) := by
  unfold execRestoreReq; try (dsimp only)
  with_reducible repeat' (first | intro _ | apply next_ok | apply ite_ok | assumption | intro _ | apply Steady.ite | apply ackSwitch_st | apply onFabric_st | split)

theorem execRestoreAck_ok {s : State} {o : SpareOwner} {lane : BitVec 5} {second : Bool} (hs : Steady q0 z0 s) (c7 : q0 .links = false := by first | assumption | rfl) :
    OkOutcome q0 z0 (execRestoreAck o lane second s) := by
  unfold execRestoreAck; try (dsimp only)
  with_reducible repeat' (first | intro _ | apply next_ok | apply ite_ok | assumption | intro _ | apply Steady.ite | apply setSw_st | apply onFabric_st | split)

theorem settleSpares_st {s : State} {l : LinkId} {active : Bool} (hs : Steady q0 z0 s) (c0 : q0 .regs = false := by assumption) (c1 : q0 .settings = false := by assumption) (c7 : q0 .links = false := by assumption) (c8 : q0 .fns = false := by assumption) (c10 : q0 .snap = false := by assumption) (c13 : q0 .noc = false := by assumption) (c19 : q0 .flight = false := by assumption) (c20 : q0 .out = false := by assumption) :
    Steady q0 z0 (settleSpares s l active) := by
  unfold settleSpares; try (dsimp only)
  with_reducible repeat' (first | assumption | intro _ | apply Steady.ite | apply applyForce_st | apply setLaneState_st | apply setSpare_st | apply setSw_st | apply forAll_st | split)

theorem dropSpare_st {s : State} {o : SpareOwner} {second : Bool} (hs : Steady q0 z0 s) (c0 : q0 .regs = false := by assumption) (c1 : q0 .settings = false := by assumption) (c7 : q0 .links = false := by assumption) (c8 : q0 .fns = false := by assumption) (c10 : q0 .snap = false := by assumption) (c13 : q0 .noc = false := by assumption) (c19 : q0 .flight = false := by assumption) (c20 : q0 .out = false := by assumption) :
    Steady q0 z0 (dropSpare s o second) := by
  unfold dropSpare; try (dsimp only)
  with_reducible repeat' (first | assumption | intro _ | apply Steady.ite | apply setLaneState_st | apply setSpare_st | apply setSw_st | split)

theorem switchSpares_st {s : State} {a : SMap Word} {b : SMap Word} (hs : Steady q0 z0 s) (c0 : q0 .regs = false := by assumption) (c1 : q0 .settings = false := by assumption) (c7 : q0 .links = false := by assumption) (c8 : q0 .fns = false := by assumption) (c10 : q0 .snap = false := by assumption) (c13 : q0 .noc = false := by assumption) (c19 : q0 .flight = false := by assumption) (c20 : q0 .out = false := by assumption) :
    Steady q0 z0 (switchSpares s a b) := by
  unfold switchSpares; try (dsimp only)
  with_reducible repeat' (first | assumption | intro _ | apply Steady.ite | apply dropSpare_st | apply forAll_st | refine getD_st (fun _ _ => ?_) ?_ | split)

theorem adaptLane_st {s : State} {own : Bool} {n : ℕ} (hs : Steady q0 z0 s) (c0 : q0 .regs = false := by assumption) (c1 : q0 .settings = false := by assumption) (c21 : q0 .fresh = false := by assumption) :
    Steady q0 z0 (adaptLane s own n) := by
  unfold adaptLane; try (dsimp only)
  with_reducible repeat' (first | assumption | intro _ | apply Steady.ite | apply usedFree_st | apply wrBit_st | apply setReg_st | split)

theorem trainLanes_st {s : State} {l : LinkId} {rate : ℕ} (hs : Steady q0 z0 s) (c0 : q0 .regs = false := by assumption) (c1 : q0 .settings = false := by assumption) (c21 : q0 .fresh = false := by assumption) :
    Steady q0 z0 (trainLanes s l rate) := by
  unfold trainLanes; try (dsimp only)
  with_reducible repeat' (first | assumption | intro _ | apply Steady.ite | apply adaptLane_st | apply leaveLoopback_st | apply setLaneState_st | apply forAll_st | apply wrBit_st | apply wr_st | split)

end Sys2Proof.Laws
end

