-- ==== Sys2Proof/Laws/SteadyEvents.lean ====
section
/-! SUPPORT. Every operation of Machine/Events.lean is steady. -/

set_option Elab.async false
set_option linter.unusedTactic false
set_option linter.unreachableTactic false

namespace Sys2Proof.Laws

open Sys2Proof.Machine

variable {q0 : Part → Bool} {z0 : State}

theorem execEvtfwd_ok {s : State} {event : Fin 512} {pid : Bool} (hs : Steady q0 z0 s) (c0 : q0 .regs = false := by first | assumption | rfl) (c1 : q0 .settings = false := by first | assumption | rfl) (c20 : q0 .out = false := by first | assumption | rfl) :
    OkOutcome q0 z0 (execEvtfwd event pid s) := by
  unfold execEvtfwd; try (dsimp only)
  with_reducible repeat' (first | intro _ | apply next_ok | apply ite_ok | assumption | intro _ | apply Steady.ite | apply mgmtVector_st | apply emit_st | apply wrBit_st | split)

theorem execEvtPendClear_ok {s : State} {w : Fin 16} {val : Word} (hs : Steady q0 z0 s) (c0 : q0 .regs = false := by first | assumption | rfl) (c1 : q0 .settings = false := by first | assumption | rfl) :
    OkOutcome q0 z0 (execEvtPendClear w val s) := by
  unfold execEvtPendClear; try (dsimp only)
  with_reducible repeat' (first | intro _ | apply next_ok | apply ite_ok | assumption | intro _ | apply Steady.ite | apply settleSummary_st | apply setReg_st | split)

theorem twinPendClear_st {s : State} {w : ℕ} {val : Word} (hs : Steady q0 z0 s) (c0 : q0 .regs = false := by assumption) (c1 : q0 .settings = false := by assumption) :
    Steady q0 z0 (twinPendClear s w val) := by
  unfold twinPendClear; try (dsimp only)
  with_reducible repeat' (first | assumption | intro _ | apply Steady.ite | apply wrBit_st | apply setReg_st | split)

theorem nvDeferred_st {s : State} (hs : Steady q0 z0 s) (c0 : q0 .regs = false := by assumption) (c1 : q0 .settings = false := by assumption) (c7 : q0 .links = false := by assumption) (c8 : q0 .fns = false := by assumption) (c10 : q0 .snap = false := by assumption) (c13 : q0 .noc = false := by assumption) (c19 : q0 .flight = false := by assumption) (c20 : q0 .out = false := by assumption) :
    Steady q0 z0 (nvDeferred s) := by
  unfold nvDeferred; try (dsimp only)
  with_reducible repeat' (first | assumption | intro _ | apply Steady.ite | apply count_st | split)

theorem journalStart_st {s : State} (hs : Steady q0 z0 s) (c0 : q0 .regs = false := by assumption) (c1 : q0 .settings = false := by assumption) (c4 : q0 .dev = false := by assumption) (c7 : q0 .links = false := by assumption) (c8 : q0 .fns = false := by assumption) (c10 : q0 .snap = false := by assumption) (c13 : q0 .noc = false := by assumption) (c19 : q0 .flight = false := by assumption) (c20 : q0 .out = false := by assumption) :
    Steady q0 z0 (journalStart s) := by
  unfold journalStart; try (dsimp only)
  with_reducible repeat' (first | exact fun _ => rfl | exact skip | assumption | intro _ | apply Steady.ite | apply nvDeferred_st | apply wrBit_st | split | apply Steady.upd)

theorem execTroubleJournalPeriod_ok {s : State} (hs : Steady q0 z0 s) (c0 : q0 .regs = false := by first | assumption | rfl) (c1 : q0 .settings = false := by first | assumption | rfl) (c4 : q0 .dev = false := by first | assumption | rfl) (c7 : q0 .links = false := by first | assumption | rfl) (c8 : q0 .fns = false := by first | assumption | rfl) (c10 : q0 .snap = false := by first | assumption | rfl) (c13 : q0 .noc = false := by first | assumption | rfl) (c19 : q0 .flight = false := by first | assumption | rfl) (c20 : q0 .out = false := by first | assumption | rfl) :
    OkOutcome q0 z0 (execTroubleJournalPeriod s) := by
  unfold execTroubleJournalPeriod; try (dsimp only)
  with_reducible repeat' (first | intro _ | apply next_ok | apply ite_ok | assumption | intro _ | apply Steady.ite | apply journalStart_st | split)

theorem execTroubleJournalWriteDone_ok {s : State} {ok : Bool} (hs : Steady q0 z0 s) (c0 : q0 .regs = false := by first | assumption | rfl) (c1 : q0 .settings = false := by first | assumption | rfl) (c4 : q0 .dev = false := by first | assumption | rfl) (c7 : q0 .links = false := by first | assumption | rfl) (c8 : q0 .fns = false := by first | assumption | rfl) (c10 : q0 .snap = false := by first | assumption | rfl) (c12 : q0 .store = false := by first | assumption | rfl) (c13 : q0 .noc = false := by first | assumption | rfl) (c19 : q0 .flight = false := by first | assumption | rfl) (c20 : q0 .out = false := by first | assumption | rfl) (c21 : q0 .fresh = false := by first | assumption | rfl) :
    OkOutcome q0 z0 (execTroubleJournalWriteDone ok s) := by
  unfold execTroubleJournalWriteDone; try (dsimp only)
  with_reducible repeat' (first | exact fun _ => rfl | exact skip | intro _ | apply next_ok | apply ite_ok | assumption | intro _ | apply Steady.ite | apply storeGarble_st | apply storeWrite_st | apply raiseEv_st | apply wrBit_st | apply wr_st | split | apply Steady.upd)

theorem restorePage_st {s : State} {a : Nat} (hs : Steady q0 z0 s) (c0 : q0 .regs = false := by assumption) (c1 : q0 .settings = false := by assumption) : Steady q0 z0 (restorePage s a) := by
  refine forAll_st hs (fun t k ht => ?_)
  exact Steady.ite (setReg_st ht) ht

theorem restoreFrom_st {s : State} {o : Option (Nat × Nat)} (hs : Steady q0 z0 s) (c0 : q0 .regs = false := by assumption) (c1 : q0 .settings = false := by assumption) (c4 : q0 .dev = false := by assumption) : Steady q0 z0 (restoreFrom s o) := by
  cases o with
  | none => apply Steady.upd hs <;> first | exact fun _ => rfl | exact skip
  | some p => 
    refine wr_st (wrBit_st (restorePage_st ?_))
    apply Steady.upd hs <;> first | exact fun _ => rfl | exact skip

theorem journalRestore_st {s : State} (hs : Steady q0 z0 s) (c0 : q0 .regs = false := by assumption) (c1 : q0 .settings = false := by assumption) (c4 : q0 .dev = false := by assumption) :
    Steady q0 z0 (journalRestore s) := by
  unfold journalRestore; try (dsimp only)
  with_reducible repeat' (first | assumption | intro _ | apply Steady.ite | apply restoreFrom_st | split)

theorem perfAnnounce_st {s : State} (hs : Steady q0 z0 s) (c0 : q0 .regs = false := by assumption) (c7 : q0 .links = false := by assumption) (c8 : q0 .fns = false := by assumption) (c10 : q0 .snap = false := by assumption) (c13 : q0 .noc = false := by assumption) (c19 : q0 .flight = false := by assumption) (c20 : q0 .out = false := by assumption) :
    Steady q0 z0 (perfAnnounce s) := by
  unfold perfAnnounce; try (dsimp only)
  with_reducible repeat' (first | exact fun _ => rfl | exact skip | assumption | intro _ | apply Steady.ite | apply raiseEv_st | apply forAll_st | split | apply Steady.upd)

theorem execPerfCounterOverflow_ok {s : State} {k : Fin 320} (hs : Steady q0 z0 s) (c0 : q0 .regs = false := by first | assumption | rfl) (c1 : q0 .settings = false := by first | assumption | rfl) (c7 : q0 .links = false := by first | assumption | rfl) (c8 : q0 .fns = false := by first | assumption | rfl) (c10 : q0 .snap = false := by first | assumption | rfl) (c13 : q0 .noc = false := by first | assumption | rfl) (c19 : q0 .flight = false := by first | assumption | rfl) (c20 : q0 .out = false := by first | assumption | rfl) :
    OkOutcome q0 z0 (execPerfCounterOverflow k s) := by
  unfold execPerfCounterOverflow; try (dsimp only)
  with_reducible repeat' (first | intro _ | apply next_ok | apply ite_ok | assumption | intro _ | apply Steady.ite | apply perfAnnounce_st | apply perfWrap_st | apply onFabric_st | apply wr64_st | split)

end Sys2Proof.Laws
end

