-- ==== Sys2Proof/Laws/SteadyChan.lean ====
section
/-! SUPPORT. Every operation of Machine/Chan.lean is steady. -/

set_option Elab.async false
set_option linter.unusedTactic false
set_option linter.unreachableTactic false

namespace Sys2Proof.Laws

open Sys2Proof.Machine

variable {q0 : Part → Bool} {z0 : State}

theorem fetchN_st {s : State} {n c : Nat} (hs : Steady q0 z0 s) (c18 : q0 .co = false := by assumption) (c20 : q0 .out = false := by assumption) : Steady q0 z0 (fetchN n s c) := by
  induction n generalizing s with
  | zero => exact hs
  | succ m ih =>
    rw [fetchN]
    exact Steady.ite hs (ih (emit_st (withCo_st (setChan_st hs))))

theorem fetchChan_st {s : State} {c : ℕ} (hs : Steady q0 z0 s) (c18 : q0 .co = false := by assumption) (c20 : q0 .out = false := by assumption) :
    Steady q0 z0 (fetchChan s c) := by
  unfold fetchChan; try (dsimp only)
  with_reducible repeat' (first | assumption | intro _ | apply Steady.ite | apply fetchN_st | split)

theorem fetchAll_st {s : State} (hs : Steady q0 z0 s) (c18 : q0 .co = false := by assumption) (c20 : q0 .out = false := by assumption) :
    Steady q0 z0 (fetchAll s) := by
  unfold fetchAll; try (dsimp only)
  with_reducible repeat' (first | assumption | intro _ | apply Steady.ite | apply fetchChan_st | apply forAll_st | split)

theorem haltChan_st {s : State} {c : ℕ} {cause : ℕ} (hs : Steady q0 z0 s) (c0 : q0 .regs = false := by assumption) (c7 : q0 .links = false := by assumption) (c8 : q0 .fns = false := by assumption) (c10 : q0 .snap = false := by assumption) (c13 : q0 .noc = false := by assumption) (c18 : q0 .co = false := by assumption) (c19 : q0 .flight = false := by assumption) (c20 : q0 .out = false := by assumption) :
    Steady q0 z0 (haltChan s c cause) := by
  unfold haltChan; try (dsimp only)
  with_reducible repeat' (first | assumption | intro _ | apply Steady.ite | apply setChan_st | apply raiseEv_st | split)

theorem dropDesc_st {s : State} {d : Desc} (hs : Steady q0 z0 s) (c18 : q0 .co = false := by assumption) :
    Steady q0 z0 (dropDesc s d) := by
  unfold dropDesc; try (dsimp only)
  with_reducible repeat' (first | assumption | intro _ | apply Steady.ite | apply withCo_st | split)

theorem unexpectedAt_st {s : State} {p : ℕ} (hs : Steady q0 z0 s) (c0 : q0 .regs = false := by assumption) (c7 : q0 .links = false := by assumption) (c8 : q0 .fns = false := by assumption) (c10 : q0 .snap = false := by assumption) (c13 : q0 .noc = false := by assumption) (c19 : q0 .flight = false := by assumption) (c20 : q0 .out = false := by assumption) :
    Steady q0 z0 (unexpectedAt s p) := by
  unfold unexpectedAt; try (dsimp only)
  with_reducible repeat' (first | assumption | intro _ | apply Steady.ite | apply unexpected_st | split)

theorem execDescriptorFetchDone_ok {s : State} {chan : BitVec 16} {gen entry : BitVec 12} {r : FetchResult}
    (hs : Steady q0 z0 s) (c0 : q0 .regs = false := by first | assumption | rfl) (c7 : q0 .links = false := by first | assumption | rfl) (c8 : q0 .fns = false := by first | assumption | rfl) (c10 : q0 .snap = false := by first | assumption | rfl) (c13 : q0 .noc = false := by first | assumption | rfl) (c16 : q0 .dp = false := by first | assumption | rfl) (c18 : q0 .co = false := by first | assumption | rfl) (c19 : q0 .flight = false := by first | assumption | rfl) (c20 : q0 .out = false := by first | assumption | rfl) (c21 : q0 .fresh = false := by first | assumption | rfl) : OkOutcome q0 z0 (execDescriptorFetchDone chan gen entry r s) := by
  refine next_ok (onFabric_st hs ?_)
  dsimp only
  split
  · exact unexpectedAt_st hs
  split
  · split
    · exact logUncorrectable_st (unexpectedAt_st (Steady.ite hs (dropDesc_st hs)))
    · exact unexpectedAt_st (Steady.ite hs (dropDesc_st hs))
  · refine Steady.ite (fetchAll_st (discardItem_st (dropDesc_st ?_))) ?_
    · cases r <;> first | exact hs | exact logUncorrectable_st hs
    · cases r
      · exact fetchAll_st (startDescs_st (putDesc_st hs))
      · exact fetchAll_st (haltChan_st (putDesc_st hs))
      · exact fetchAll_st (haltChan_st (putDesc_st hs))
      · exact fetchAll_st (haltChan_st (putDesc_st (logUncorrectable_st hs)))

theorem endRead_st {s : State} {d : Desc} (hs : Steady q0 z0 s) (c0 : q0 .regs = false := by assumption) (c7 : q0 .links = false := by assumption) (c8 : q0 .fns = false := by assumption) (c10 : q0 .snap = false := by assumption) (c13 : q0 .noc = false := by assumption) (c18 : q0 .co = false := by assumption) (c19 : q0 .flight = false := by assumption) (c20 : q0 .out = false := by assumption) :
    Steady q0 z0 (endRead s d) := by
  unfold endRead; try (dsimp only)
  with_reducible repeat' (first | assumption | intro _ | apply Steady.ite | apply haltChan_st | apply putDesc_st | apply logUncorrectable_st | split)

theorem execDmaReadTimeout_ok {s : State} {chan : BitVec 16} {gen : BitVec 12} {entry : BitVec 12} (hs : Steady q0 z0 s) (c0 : q0 .regs = false := by first | assumption | rfl) (c7 : q0 .links = false := by first | assumption | rfl) (c8 : q0 .fns = false := by first | assumption | rfl) (c10 : q0 .snap = false := by first | assumption | rfl) (c13 : q0 .noc = false := by first | assumption | rfl) (c18 : q0 .co = false := by first | assumption | rfl) (c19 : q0 .flight = false := by first | assumption | rfl) (c20 : q0 .out = false := by first | assumption | rfl) :
    OkOutcome q0 z0 (execDmaReadTimeout chan gen entry s) := by
  unfold execDmaReadTimeout; try (dsimp only)
  with_reducible repeat' (first | intro _ | apply next_ok | apply ite_ok | assumption | intro _ | apply Steady.ite | apply endRead_st | apply fetchAll_st | apply onFabric_st | split)

theorem dbReject_st {s : State} {t : ℕ} (hs : Steady q0 z0 s) (c0 : q0 .regs = false := by assumption) :
    Steady q0 z0 (dbReject s t) := by
  unfold dbReject; try (dsimp only)
  with_reducible repeat' (first | assumption | intro _ | apply Steady.ite | refine wr_bg ?_ (by constructor) | split)

theorem doorbellNow_st {s : State} {p : ℕ} {f : ℕ} {off : ℕ} {size : ℕ} {v : BitVec 64} (hs : Steady q0 z0 s) (c0 : q0 .regs = false := by assumption) (c7 : q0 .links = false := by assumption) (c8 : q0 .fns = false := by assumption) (c10 : q0 .snap = false := by assumption) (c13 : q0 .noc = false := by assumption) (c18 : q0 .co = false := by assumption) (c19 : q0 .flight = false := by assumption) (c20 : q0 .out = false := by assumption) :
    Steady q0 z0 (doorbellNow s p f off size v) := by
  unfold doorbellNow; try (dsimp only)
  with_reducible repeat' (first | assumption | intro _ | apply Steady.ite | apply dbReject_st | apply haltChan_st | apply fetchChan_st | apply setChan_st | split)

theorem execRecordWrite_ok {s : State} {chan : BitVec 16} (hs : Steady q0 z0 s) (c0 : q0 .regs = false := by first | assumption | rfl) (c8 : q0 .fns = false := by first | assumption | rfl) (c10 : q0 .snap = false := by first | assumption | rfl) (c16 : q0 .dp = false := by first | assumption | rfl) (c18 : q0 .co = false := by first | assumption | rfl) (c20 : q0 .out = false := by first | assumption | rfl) (c21 : q0 .fresh = false := by first | assumption | rfl) :
    OkOutcome q0 z0 (execRecordWrite chan s) := by
  unfold execRecordWrite; try (dsimp only)
  with_reducible repeat' (first | intro _ | apply next_ok | apply ite_ok | assumption | intro _ | apply Steady.ite | apply dropDesc_st | apply fetchAll_st | apply startDescs_st | apply setChan_st | apply raiseVector_st | apply onFabric_st | apply emit_st | split)

theorem haltMigrate_st {s : State} {c : ℕ} {g : BitVec 12} {e : Option ℕ} (hs : Steady q0 z0 s) (c18 : q0 .co = false := by assumption) :
    Steady q0 z0 (haltMigrate s c g e) := by
  unfold haltMigrate; try (dsimp only)
  with_reducible repeat' (first | assumption | intro _ | apply Steady.ite | apply withCo_st | refine elim_st ?_ (fun _ => ?_) | split)

theorem abortResult_st {s : State} {c : ℕ} {e : ℕ} {r : ℕ} (hs : Steady q0 z0 s) (c18 : q0 .co = false := by assumption) :
    Steady q0 z0 (abortResult s c e r) := by
  unfold abortResult; try (dsimp only)
  with_reducible repeat' (first | assumption | intro _ | apply Steady.ite | apply setChan_st | split)

theorem abortEntry_st {s : State} {c : ℕ} {e : ℕ} (hs : Steady q0 z0 s) (c0 : q0 .regs = false := by assumption) (c10 : q0 .snap = false := by assumption) (c16 : q0 .dp = false := by assumption) (c18 : q0 .co = false := by assumption) (c21 : q0 .fresh = false := by assumption) :
    Steady q0 z0 (abortEntry s c e) := by
  unfold abortEntry; try (dsimp only)
  with_reducible repeat' (first | assumption | intro _ | apply Steady.ite | apply abortResult_st | apply haltMigrate_st | apply startDescs_st | apply stopDesc_st | apply settleDesc_st | apply putDesc_st | apply setChan_st | refine fst_st (by assumption) ?_ | split)

theorem execChCtrlAbort_ok {s : State} {chan : BitVec 16} {index : BitVec 12} (hs : Steady q0 z0 s) (c0 : q0 .regs = false := by first | assumption | rfl) (c10 : q0 .snap = false := by first | assumption | rfl) (c16 : q0 .dp = false := by first | assumption | rfl) (c18 : q0 .co = false := by first | assumption | rfl) (c21 : q0 .fresh = false := by first | assumption | rfl) :
    OkOutcome q0 z0 (execChCtrlAbort chan index s) := by
  unfold execChCtrlAbort; try (dsimp only)
  with_reducible repeat' (first | intro _ | apply next_ok | apply ite_ok | assumption | intro _ | apply Steady.ite | apply abortEntry_st | apply onFabric_st | split)

theorem endLife_st {s : State} {c : ℕ} {toFree : Bool} (hs : Steady q0 z0 s) (c0 : q0 .regs = false := by assumption) (c10 : q0 .snap = false := by assumption) (c14 : q0 .buf = false := by assumption) (c16 : q0 .dp = false := by assumption) (c18 : q0 .co = false := by assumption) (c21 : q0 .fresh = false := by assumption) :
    Steady q0 z0 (endLife s c toFree) := by
  unfold endLife; try (dsimp only)
  with_reducible repeat' (first | assumption | intro _ | apply Steady.ite | apply haltMigrate_st | apply startDescs_st | apply advanceGen_st | apply stopAccepted_st | apply discardItem_st | apply setChan_st | apply withCo_st | apply forAll_st | split)

theorem execChCtrlReset_ok {s : State} {chan : BitVec 16} (hs : Steady q0 z0 s) (c0 : q0 .regs = false := by first | assumption | rfl) (c10 : q0 .snap = false := by first | assumption | rfl) (c14 : q0 .buf = false := by first | assumption | rfl) (c16 : q0 .dp = false := by first | assumption | rfl) (c18 : q0 .co = false := by first | assumption | rfl) (c21 : q0 .fresh = false := by first | assumption | rfl) :
    OkOutcome q0 z0 (execChCtrlReset chan s) := by
  unfold execChCtrlReset; try (dsimp only)
  with_reducible repeat' (first | intro _ | apply next_ok | apply ite_ok | assumption | intro _ | apply Steady.ite | apply endLife_st | apply onFabric_st | split)

theorem endTenant_st {s : State} {t : ℕ} (hs : Steady q0 z0 s) (c0 : q0 .regs = false := by assumption) (c10 : q0 .snap = false := by assumption) (c14 : q0 .buf = false := by assumption) (c16 : q0 .dp = false := by assumption) (c18 : q0 .co = false := by assumption) (c21 : q0 .fresh = false := by assumption) :
    Steady q0 z0 (endTenant s t) := by
  unfold endTenant; try (dsimp only)
  with_reducible repeat' (first | assumption | intro _ | apply Steady.ite | apply endLife_st | apply withCo_st | apply forAll_st | split)

theorem chanCode_st {s : State} {code : ℕ} (hs : Steady q0 z0 s) (c0 : q0 .regs = false := by assumption) (c1 : q0 .settings = false := by assumption) :
    Steady q0 z0 (chanCode s code) := by
  unfold chanCode; try (dsimp only)
  with_reducible repeat' (first | assumption | intro _ | apply Steady.ite | apply wr_st | split)

theorem onChanCmd_st {s t : State} (hs : Steady q0 z0 s) (ht : Steady q0 z0 t) :
    Steady q0 z0 (onChanCmd s t) := by
  unfold onChanCmd; try (dsimp only)
  with_reducible repeat' (first | assumption | intro _ | apply Steady.ite | apply onFabric_st | split)

theorem execChanCreate_ok {s : State} (hs : Steady q0 z0 s) (c0 : q0 .regs = false := by first | assumption | rfl) (c1 : q0 .settings = false := by first | assumption | rfl) (c18 : q0 .co = false := by first | assumption | rfl) :
    OkOutcome q0 z0 (execChanCreate s) := by
  unfold execChanCreate; try (dsimp only)
  with_reducible repeat' (first | intro _ | apply next_ok | apply ite_ok | assumption | intro _ | apply Steady.ite | apply onChanCmd_st | apply chanCode_st | apply setChan_st | apply setReg_st | split)

theorem execChanDestroy_ok {s : State} (hs : Steady q0 z0 s) (c0 : q0 .regs = false := by first | assumption | rfl) (c1 : q0 .settings = false := by first | assumption | rfl) (c10 : q0 .snap = false := by first | assumption | rfl) (c14 : q0 .buf = false := by first | assumption | rfl) (c16 : q0 .dp = false := by first | assumption | rfl) (c18 : q0 .co = false := by first | assumption | rfl) (c21 : q0 .fresh = false := by first | assumption | rfl) :
    OkOutcome q0 z0 (execChanDestroy s) := by
  unfold execChanDestroy; try (dsimp only)
  with_reducible repeat' (first | intro _ | apply next_ok | apply ite_ok | assumption | intro _ | apply Steady.ite | apply onChanCmd_st | apply chanCode_st | apply endLife_st | apply wrBit_st | split)

theorem execChanReset_ok {s : State} (hs : Steady q0 z0 s) (c0 : q0 .regs = false := by first | assumption | rfl) (c1 : q0 .settings = false := by first | assumption | rfl) (c10 : q0 .snap = false := by first | assumption | rfl) (c14 : q0 .buf = false := by first | assumption | rfl) (c16 : q0 .dp = false := by first | assumption | rfl) (c18 : q0 .co = false := by first | assumption | rfl) (c21 : q0 .fresh = false := by first | assumption | rfl) :
    OkOutcome q0 z0 (execChanReset s) := by
  unfold execChanReset; try (dsimp only)
  with_reducible repeat' (first | intro _ | apply next_ok | apply ite_ok | assumption | intro _ | apply Steady.ite | apply onChanCmd_st | apply chanCode_st | apply endLife_st | split)

theorem execChanRehome_ok {s : State} (hs : Steady q0 z0 s) (c0 : q0 .regs = false := by first | assumption | rfl) (c1 : q0 .settings = false := by first | assumption | rfl) (c18 : q0 .co = false := by first | assumption | rfl) (c20 : q0 .out = false := by first | assumption | rfl) :
    OkOutcome q0 z0 (execChanRehome s) := by
  unfold execChanRehome; try (dsimp only)
  with_reducible repeat' (first | intro _ | apply next_ok | apply ite_ok | assumption | intro _ | apply Steady.ite | apply onChanCmd_st | apply chanCode_st | apply fetchChan_st | apply setChan_st | split)

end Sys2Proof.Laws
end

