-- ==== Sys2Proof/Laws/SteadyPeer.lean ====
section
/-! SUPPORT. Every operation of Machine/Peer.lean is steady. -/

set_option Elab.async false
set_option linter.unusedTactic false
set_option linter.unreachableTactic false

namespace Sys2Proof.Laws

open Sys2Proof.Machine

variable {q0 : Part → Bool} {z0 : State}

theorem barRefuse_st {s : State} {p : ℕ} {f : ℕ} {tag : ℕ} {nonPosted : Bool} (hs : Steady q0 z0 s) (c8 : q0 .fns = false := by assumption) (c20 : q0 .out = false := by assumption) :
    Steady q0 z0 (barRefuse s p f tag nonPosted) := by
  unfold barRefuse; try (dsimp only)
  with_reducible repeat' (first | assumption | intro _ | apply Steady.ite | apply logUncorrectable_st | apply emit_st | split)

theorem barData_st {s : State} {p : ℕ} {f : ℕ} {n : ℕ} {v : ℕ} (hs : Steady q0 z0 s) (c20 : q0 .out = false := by assumption) :
    Steady q0 z0 (barData s p f n v) := by
  unfold barData; try (dsimp only)
  with_reducible repeat' (first | assumption | intro _ | apply Steady.ite | apply emit_st | split)

theorem bar0Read4_st {s : State} {t : ℕ} {o : ℕ} (hs : Steady q0 z0 s) (c2 : q0 .cap = false := by assumption) :
    Steady q0 z0 (bar0Read4 s t o).1 := by
  unfold bar0Read4; try (dsimp only)
  with_reducible repeat' (first | exact fun _ => rfl | exact skip | assumption | intro _ | apply Steady.ite | split | apply Steady.upd)

theorem bar0Write4_st {s : State} {t : ℕ} {o : ℕ} {v : Word} (hs : Steady q0 z0 s) (c0 : q0 .regs = false := by assumption) (c10 : q0 .snap = false := by assumption) (c14 : q0 .buf = false := by assumption) (c16 : q0 .dp = false := by assumption) (c18 : q0 .co = false := by assumption) (c21 : q0 .fresh = false := by assumption) :
    Steady q0 z0 (bar0Write4 s t o v) := by
  unfold bar0Write4; try (dsimp only)
  with_reducible repeat' (first | assumption | intro _ | apply Steady.ite | apply endLife_st | apply abortEntry_st | split)

theorem barNow_st {s : State} {a : BarAccess} (hs : Steady q0 z0 s) (c0 : q0 .regs = false := by assumption) (c2 : q0 .cap = false := by assumption) (c7 : q0 .links = false := by assumption) (c8 : q0 .fns = false := by assumption) (c10 : q0 .snap = false := by assumption) (c13 : q0 .noc = false := by assumption) (c14 : q0 .buf = false := by assumption) (c16 : q0 .dp = false := by assumption) (c18 : q0 .co = false := by assumption) (c19 : q0 .flight = false := by assumption) (c20 : q0 .out = false := by assumption) (c21 : q0 .fresh = false := by assumption) :
    Steady q0 z0 (barNow s a) := by
  unfold barNow; try (dsimp only)
  with_reducible repeat' (first | assumption | intro _ | apply Steady.ite | apply bar0Write4_st | apply bar0Read4_st | apply barData_st | apply barRefuse_st | apply doorbellNow_st | apply msixTableWrite_st | split)

theorem startLine_st {s : State} {j : PeerJob} {l : LAddr} {z1} (e : startLine s j l = some z1) (hs : Steady q0 z0 s) (c0 : q0 .regs = false := by assumption) (c6 : q0 .pair = false := by assumption) (c7 : q0 .links = false := by assumption) (c8 : q0 .fns = false := by assumption) (c10 : q0 .snap = false := by assumption) (c13 : q0 .noc = false := by assumption) (c14 : q0 .buf = false := by assumption) (c16 : q0 .dp = false := by assumption) (c17 : q0 .hp = false := by assumption) (c19 : q0 .flight = false := by assumption) (c20 : q0 .out = false := by assumption) :
    Steady q0 z0 z1 := by
  unfold startLine at e
  dsimp only at e
  split at e
  · cases e
  split at e
  · cases e; exact startHost_st hs
  · cases e; exact startHost_st hs
  · obtain ⟨c, hc, rfl⟩ := Option.map_eq_some_iff.1 e
    exact startHost_st (reserveCell_st hc hs)
  · cases e

theorem startLines_st {s : State} {n : ℕ} {id : ℕ} (hs : Steady q0 z0 s) (c0 : q0 .regs = false := by assumption) (c6 : q0 .pair = false := by assumption) (c7 : q0 .links = false := by assumption) (c8 : q0 .fns = false := by assumption) (c10 : q0 .snap = false := by assumption) (c13 : q0 .noc = false := by assumption) (c14 : q0 .buf = false := by assumption) (c16 : q0 .dp = false := by assumption) (c17 : q0 .hp = false := by assumption) (c19 : q0 .flight = false := by assumption) (c20 : q0 .out = false := by assumption) :
    Steady q0 z0 (startLines n s id) := by
  fun_induction startLines n s id
  all_goals (try (dsimp only))
  all_goals with_reducible repeat' (first | assumption | apply_assumption | assumption | intro _ | apply Steady.ite | refine startLine_st (by assumption) ?_ | apply putJob_st | split)

theorem dropJob_st {s : State} {j : PeerJob} (hs : Steady q0 z0 s) (c17 : q0 .hp = false := by assumption) :
    Steady q0 z0 (dropJob s j) := by
  unfold dropJob; try (dsimp only)
  with_reducible repeat' (first | assumption | intro _ | apply Steady.ite | apply withHp_st | split)

theorem countPeerTmo_st {s : State} {p : ℕ} (hs : Steady q0 z0 s) (c0 : q0 .regs = false := by assumption) (c7 : q0 .links = false := by assumption) (c8 : q0 .fns = false := by assumption) (c10 : q0 .snap = false := by assumption) (c13 : q0 .noc = false := by assumption) (c19 : q0 .flight = false := by assumption) (c20 : q0 .out = false := by assumption) :
    Steady q0 z0 (countPeerTmo s p) := by
  unfold countPeerTmo; try (dsimp only)
  with_reducible repeat' (first | assumption | intro _ | apply Steady.ite | refine count_bg ?_ (by constructor) | split)

theorem endJob_st {s : State} {j : PeerJob} (hs : Steady q0 z0 s) (c0 : q0 .regs = false := by assumption) (c7 : q0 .links = false := by assumption) (c8 : q0 .fns = false := by assumption) (c10 : q0 .snap = false := by assumption) (c13 : q0 .noc = false := by assumption) (c17 : q0 .hp = false := by assumption) (c19 : q0 .flight = false := by assumption) (c20 : q0 .out = false := by assumption) :
    Steady q0 z0 (endJob s j) := by
  unfold endJob; try (dsimp only)
  with_reducible repeat' (first | assumption | intro _ | apply Steady.ite | apply countPeerTmo_st | apply dropJob_st | apply logUncorrectable_st | apply emit_st | split)

theorem barRun_st {t : State} {c : Instr} (ht : Steady q0 z0 t) (c0 : q0 .regs = false := by assumption) (c2 : q0 .cap = false := by assumption) (c7 : q0 .links = false := by assumption) (c8 : q0 .fns = false := by assumption) (c10 : q0 .snap = false := by assumption) (c13 : q0 .noc = false := by assumption) (c14 : q0 .buf = false := by assumption) (c16 : q0 .dp = false := by assumption) (c18 : q0 .co = false := by assumption) (c19 : q0 .flight = false := by assumption) (c20 : q0 .out = false := by assumption) (c21 : q0 .fresh = false := by assumption) : Steady q0 z0 (barRun t c) := by
  unfold barRun
  split
  · exact barNow_st ht
  · exact Steady.ite ht (Steady.ite (barRefuse_st ht) (doorbellNow_st ht))
  · exact ht

theorem jobStep_st {s : State} {j : PeerJob} {z1} (e : jobStep s j = some z1) (hs : Steady q0 z0 s) (c0 : q0 .regs = false := by assumption) (c2 : q0 .cap = false := by assumption) (c6 : q0 .pair = false := by assumption) (c7 : q0 .links = false := by assumption) (c8 : q0 .fns = false := by assumption) (c10 : q0 .snap = false := by assumption) (c13 : q0 .noc = false := by assumption) (c14 : q0 .buf = false := by assumption) (c16 : q0 .dp = false := by assumption) (c17 : q0 .hp = false := by assumption) (c18 : q0 .co = false := by assumption) (c19 : q0 .flight = false := by assumption) (c20 : q0 .out = false := by assumption) (c21 : q0 .fresh = false := by assumption) : Steady q0 z0 z1 := by
  unfold jobStep at e
  split at e
  · cases e
  · split at e
    · cases e
    · split at e
      · cases e; exact barRun_st (dropJob_st hs)
      · cases e; exact putJob_st hs
  · dsimp only at e
    split at e
    · cases e
    · cases e; exact startLines_st hs
  · split at e
    · cases e
    · cases e; exact endJob_st hs

theorem settlePeersN_st {s : State} {n : ℕ} (hs : Steady q0 z0 s) (c0 : q0 .regs = false := by assumption) (c2 : q0 .cap = false := by assumption) (c6 : q0 .pair = false := by assumption) (c7 : q0 .links = false := by assumption) (c8 : q0 .fns = false := by assumption) (c10 : q0 .snap = false := by assumption) (c13 : q0 .noc = false := by assumption) (c14 : q0 .buf = false := by assumption) (c16 : q0 .dp = false := by assumption) (c17 : q0 .hp = false := by assumption) (c18 : q0 .co = false := by assumption) (c19 : q0 .flight = false := by assumption) (c20 : q0 .out = false := by assumption) (c21 : q0 .fresh = false := by assumption) :
    Steady q0 z0 (settlePeersN n s) := by
  fun_induction settlePeersN n s
  all_goals (try (dsimp only))
  all_goals with_reducible repeat' (first | assumption | apply_assumption | assumption | intro _ | apply Steady.ite | refine jobStep_st (by assumption) ?_ | refine findSome_st (by assumption) ?_ | split)

theorem settlePeers_st {s : State} (hs : Steady q0 z0 s) (c0 : q0 .regs = false := by assumption) (c2 : q0 .cap = false := by assumption) (c6 : q0 .pair = false := by assumption) (c7 : q0 .links = false := by assumption) (c8 : q0 .fns = false := by assumption) (c10 : q0 .snap = false := by assumption) (c13 : q0 .noc = false := by assumption) (c14 : q0 .buf = false := by assumption) (c16 : q0 .dp = false := by assumption) (c17 : q0 .hp = false := by assumption) (c18 : q0 .co = false := by assumption) (c19 : q0 .flight = false := by assumption) (c20 : q0 .out = false := by assumption) (c21 : q0 .fresh = false := by assumption) :
    Steady q0 z0 (settlePeers s) := by
  unfold settlePeers; try (dsimp only)
  with_reducible repeat' (first | assumption | intro _ | apply Steady.ite | apply settlePeersN_st | split)

theorem addJob_st {s : State} {j : PeerJob} (hs : Steady q0 z0 s) (c17 : q0 .hp = false := by assumption) :
    Steady q0 z0 (addJob s j) := by
  unfold addJob; try (dsimp only)
  with_reducible repeat' (first | assumption | intro _ | apply Steady.ite | apply withHp_st | split)

theorem execBar0Access_ok {s : State} {a : BarAccess} (hs : Steady q0 z0 s) (c0 : q0 .regs = false := by first | assumption | rfl) (c2 : q0 .cap = false := by first | assumption | rfl) (c6 : q0 .pair = false := by first | assumption | rfl) (c7 : q0 .links = false := by first | assumption | rfl) (c8 : q0 .fns = false := by first | assumption | rfl) (c10 : q0 .snap = false := by first | assumption | rfl) (c13 : q0 .noc = false := by first | assumption | rfl) (c14 : q0 .buf = false := by first | assumption | rfl) (c16 : q0 .dp = false := by first | assumption | rfl) (c17 : q0 .hp = false := by first | assumption | rfl) (c18 : q0 .co = false := by first | assumption | rfl) (c19 : q0 .flight = false := by first | assumption | rfl) (c20 : q0 .out = false := by first | assumption | rfl) (c21 : q0 .fresh = false := by first | assumption | rfl) :
    OkOutcome q0 z0 (execBar0Access a s) := by
  unfold execBar0Access; try (dsimp only)
  with_reducible repeat' (first | intro _ | apply next_ok | apply ite_ok | assumption | intro _ | apply Steady.ite | apply addJob_st | apply settlePeers_st | apply onFabric_st | split)

theorem execDoorbell_ok {s : State} {port : Fin 128} {func : FuncNo} {off : ℕ} {size : ℕ} {val : BitVec 64} (hs : Steady q0 z0 s) (c0 : q0 .regs = false := by first | assumption | rfl) (c2 : q0 .cap = false := by first | assumption | rfl) (c6 : q0 .pair = false := by first | assumption | rfl) (c7 : q0 .links = false := by first | assumption | rfl) (c8 : q0 .fns = false := by first | assumption | rfl) (c10 : q0 .snap = false := by first | assumption | rfl) (c13 : q0 .noc = false := by first | assumption | rfl) (c14 : q0 .buf = false := by first | assumption | rfl) (c16 : q0 .dp = false := by first | assumption | rfl) (c17 : q0 .hp = false := by first | assumption | rfl) (c18 : q0 .co = false := by first | assumption | rfl) (c19 : q0 .flight = false := by first | assumption | rfl) (c20 : q0 .out = false := by first | assumption | rfl) (c21 : q0 .fresh = false := by first | assumption | rfl) :
    OkOutcome q0 z0 (execDoorbell port func off size val s) := by
  unfold execDoorbell; try (dsimp only)
  with_reducible repeat' (first | intro _ | apply next_ok | apply ite_ok | assumption | intro _ | apply Steady.ite | apply addJob_st | apply settlePeers_st | apply onFabric_st | split)

theorem peerRefuse_st {s : State} {j : PeerJob} {st : CplStatus} (hs : Steady q0 z0 s) (c8 : q0 .fns = false := by assumption) (c17 : q0 .hp = false := by assumption) (c20 : q0 .out = false := by assumption) :
    Steady q0 z0 (peerRefuse s j st) := by
  unfold peerRefuse; try (dsimp only)
  with_reducible repeat' (first | assumption | intro _ | apply Steady.ite | apply dropJob_st | apply putJob_st | apply logUncorrectable_st | split)

theorem peerCheck_st {s : State} {id : Nat} {bad : Bool} (hs : Steady q0 z0 s) (c0 : q0 .regs = false := by assumption) (c6 : q0 .pair = false := by assumption) (c7 : q0 .links = false := by assumption) (c8 : q0 .fns = false := by assumption) (c10 : q0 .snap = false := by assumption) (c11 : q0 .pool = false := by assumption) (c13 : q0 .noc = false := by assumption) (c14 : q0 .buf = false := by assumption) (c16 : q0 .dp = false := by assumption) (c17 : q0 .hp = false := by assumption) (c19 : q0 .flight = false := by assumption) (c20 : q0 .out = false := by assumption) : Steady q0 z0 (peerCheck s id bad) := by
  unfold peerCheck
  split
  · exact hs
  · rename_i j _
    have hp : ∀ (u : Unit10) (x : Access) (k : Option Nat) (hw : RecordWindow u.window),
        OkVerdict q0 (atBank s (some j.epoch)) (protect (atBank s (some j.epoch)) u x k bad) :=
      fun u x k hw => protect_ok hw (Steady.refl _ _)
    split
    · exact tagNeed_st (putJob_st hs)
    · have ht := restore_st hs (refuse_st (by assumption) (hp _ _ _ (.port _)))
      exact peerRefuse_st (Steady.ite (logUncorrectable_st ht) ht)
    · exact putJob_st (restore_st hs (pass_st (by assumption) (hp _ _ _ (.port _))))

theorem peerMeter_st {s : State} {j : PeerJob} (hs : Steady q0 z0 s) (c0 : q0 .regs = false := by assumption) (c10 : q0 .snap = false := by assumption) (c14 : q0 .buf = false := by assumption) :
    Steady q0 z0 (peerMeter s j) := by
  unfold peerMeter; try (dsimp only)
  with_reducible repeat' (first | assumption | intro _ | apply Steady.ite | apply newPkt_st | apply settleHeld_st | apply setMeter_st | apply withBuf_st | refine fst_st (by assumption) ?_ | split)

theorem peerArrive_st {s : State} {tlp : PeerTlp} {w : PeerWork} (hs : Steady q0 z0 s) (c0 : q0 .regs = false := by assumption) (c6 : q0 .pair = false := by assumption) (c7 : q0 .links = false := by assumption) (c8 : q0 .fns = false := by assumption) (c10 : q0 .snap = false := by assumption) (c11 : q0 .pool = false := by assumption) (c13 : q0 .noc = false := by assumption) (c14 : q0 .buf = false := by assumption) (c16 : q0 .dp = false := by assumption) (c17 : q0 .hp = false := by assumption) (c19 : q0 .flight = false := by assumption) (c20 : q0 .out = false := by assumption) (c21 : q0 .fresh = false := by assumption) :
    Steady q0 z0 (peerArrive s tlp w) := by
  unfold peerArrive; try (dsimp only)
  with_reducible repeat' (first | assumption | intro _ | apply Steady.ite | apply peerMeter_st | apply peerCheck_st | apply peerRefuse_st | apply addJob_st | apply barRefuse_st | apply countUnbound_st | refine recordFirst_bg ?_ (by constructor) | apply usedFree_st | split)

theorem execPeerRead_ok {s : State} {t : PeerTlp} (hs : Steady q0 z0 s) (c0 : q0 .regs = false := by first | assumption | rfl) (c2 : q0 .cap = false := by first | assumption | rfl) (c6 : q0 .pair = false := by first | assumption | rfl) (c7 : q0 .links = false := by first | assumption | rfl) (c8 : q0 .fns = false := by first | assumption | rfl) (c10 : q0 .snap = false := by first | assumption | rfl) (c11 : q0 .pool = false := by first | assumption | rfl) (c13 : q0 .noc = false := by first | assumption | rfl) (c14 : q0 .buf = false := by first | assumption | rfl) (c16 : q0 .dp = false := by first | assumption | rfl) (c17 : q0 .hp = false := by first | assumption | rfl) (c18 : q0 .co = false := by first | assumption | rfl) (c19 : q0 .flight = false := by first | assumption | rfl) (c20 : q0 .out = false := by first | assumption | rfl) (c21 : q0 .fresh = false := by first | assumption | rfl) :
    OkOutcome q0 z0 (execPeerRead t s) := by
  unfold execPeerRead; try (dsimp only)
  with_reducible repeat' (first | intro _ | apply next_ok | apply ite_ok | assumption | intro _ | apply Steady.ite | apply peerArrive_st | apply settlePeers_st | apply onFabric_st | split)

theorem execPeerWrite_ok {s : State} {t : PeerTlp} {data : List Byte} (hs : Steady q0 z0 s) (c0 : q0 .regs = false := by first | assumption | rfl) (c2 : q0 .cap = false := by first | assumption | rfl) (c6 : q0 .pair = false := by first | assumption | rfl) (c7 : q0 .links = false := by first | assumption | rfl) (c8 : q0 .fns = false := by first | assumption | rfl) (c10 : q0 .snap = false := by first | assumption | rfl) (c11 : q0 .pool = false := by first | assumption | rfl) (c13 : q0 .noc = false := by first | assumption | rfl) (c14 : q0 .buf = false := by first | assumption | rfl) (c16 : q0 .dp = false := by first | assumption | rfl) (c17 : q0 .hp = false := by first | assumption | rfl) (c18 : q0 .co = false := by first | assumption | rfl) (c19 : q0 .flight = false := by first | assumption | rfl) (c20 : q0 .out = false := by first | assumption | rfl) (c21 : q0 .fresh = false := by first | assumption | rfl) :
    OkOutcome q0 z0 (execPeerWrite t data s) := by
  unfold execPeerWrite; try (dsimp only)
  with_reducible repeat' (first | intro _ | apply next_ok | apply ite_ok | assumption | intro _ | apply Steady.ite | apply peerArrive_st | apply settlePeers_st | apply onFabric_st | split)

theorem execPeerAtomic_ok {s : State} {t : PeerTlp} {op : PeerOp} {opA : BitVec 64} {opB : BitVec 64} (hs : Steady q0 z0 s) (c0 : q0 .regs = false := by first | assumption | rfl) (c2 : q0 .cap = false := by first | assumption | rfl) (c6 : q0 .pair = false := by first | assumption | rfl) (c7 : q0 .links = false := by first | assumption | rfl) (c8 : q0 .fns = false := by first | assumption | rfl) (c10 : q0 .snap = false := by first | assumption | rfl) (c11 : q0 .pool = false := by first | assumption | rfl) (c13 : q0 .noc = false := by first | assumption | rfl) (c14 : q0 .buf = false := by first | assumption | rfl) (c16 : q0 .dp = false := by first | assumption | rfl) (c17 : q0 .hp = false := by first | assumption | rfl) (c18 : q0 .co = false := by first | assumption | rfl) (c19 : q0 .flight = false := by first | assumption | rfl) (c20 : q0 .out = false := by first | assumption | rfl) (c21 : q0 .fresh = false := by first | assumption | rfl) :
    OkOutcome q0 z0 (execPeerAtomic t op opA opB s) := by
  unfold execPeerAtomic; try (dsimp only)
  with_reducible repeat' (first | intro _ | apply next_ok | apply ite_ok | assumption | intro _ | apply Steady.ite | apply peerArrive_st | apply settlePeers_st | apply onFabric_st | split)

theorem execHoldListRelease_ok {s : State} {region : Fin 16} {meter : Fin 1024} (hs : Steady q0 z0 s) (c0 : q0 .regs = false := by first | assumption | rfl) (c2 : q0 .cap = false := by first | assumption | rfl) (c6 : q0 .pair = false := by first | assumption | rfl) (c7 : q0 .links = false := by first | assumption | rfl) (c8 : q0 .fns = false := by first | assumption | rfl) (c10 : q0 .snap = false := by first | assumption | rfl) (c13 : q0 .noc = false := by first | assumption | rfl) (c14 : q0 .buf = false := by first | assumption | rfl) (c16 : q0 .dp = false := by first | assumption | rfl) (c17 : q0 .hp = false := by first | assumption | rfl) (c18 : q0 .co = false := by first | assumption | rfl) (c19 : q0 .flight = false := by first | assumption | rfl) (c20 : q0 .out = false := by first | assumption | rfl) (c21 : q0 .fresh = false := by first | assumption | rfl) :
    OkOutcome q0 z0 (execHoldListRelease region meter s) := by
  unfold execHoldListRelease; try (dsimp only)
  with_reducible repeat' (first | intro _ | apply next_ok | apply ite_ok | assumption | intro _ | apply Steady.ite | apply settlePeers_st | apply joinPkt_st | apply settleHeld_st | apply setMeter_st | apply withBuf_st | apply onFabric_st | split)

theorem startFlr_st {s : State} {p : ℕ} {f : ℕ} (hs : Steady q0 z0 s) (c0 : q0 .regs = false := by assumption) (c8 : q0 .fns = false := by assumption) (c10 : q0 .snap = false := by assumption) (c14 : q0 .buf = false := by assumption) (c16 : q0 .dp = false := by assumption) (c17 : q0 .hp = false := by assumption) (c18 : q0 .co = false := by assumption) (c21 : q0 .fresh = false := by assumption) :
    Steady q0 z0 (startFlr s p f) := by
  unfold startFlr; try (dsimp only)
  with_reducible repeat' (first | exact fun _ => rfl | exact skip | assumption | intro _ | apply Steady.ite | apply endTenant_st | apply withHp_st | split | apply Steady.upd)

theorem resetConfig_st {s : State} {p : ℕ} {f : ℕ} (hs : Steady q0 z0 s) (c8 : q0 .fns = false := by assumption) :
    Steady q0 z0 (resetConfig s p f) := by
  unfold resetConfig; try (dsimp only)
  with_reducible repeat' (first | exact fun _ => rfl | exact skip | assumption | intro _ | apply Steady.ite | split | apply Steady.upd)

theorem clearVfs_st {s : State} {p : ℕ} (hs : Steady q0 z0 s) (c0 : q0 .regs = false := by assumption) (c8 : q0 .fns = false := by assumption) (c10 : q0 .snap = false := by assumption) (c14 : q0 .buf = false := by assumption) (c16 : q0 .dp = false := by assumption) (c17 : q0 .hp = false := by assumption) (c18 : q0 .co = false := by assumption) (c21 : q0 .fresh = false := by assumption) :
    Steady q0 z0 (clearVfs s p) := by
  unfold clearVfs; try (dsimp only)
  with_reducible repeat' (first | assumption | intro _ | apply Steady.ite | apply startFlr_st | apply cfgPut_st | apply forAll_st | split)

theorem flrOf_st {s : State} {p : ℕ} {f : ℕ} (hs : Steady q0 z0 s) (c0 : q0 .regs = false := by assumption) (c8 : q0 .fns = false := by assumption) (c10 : q0 .snap = false := by assumption) (c11 : q0 .pool = false := by assumption) (c14 : q0 .buf = false := by assumption) (c16 : q0 .dp = false := by assumption) (c17 : q0 .hp = false := by assumption) (c18 : q0 .co = false := by assumption) (c21 : q0 .fresh = false := by assumption) :
    Steady q0 z0 (flrOf s p f) := by
  unfold flrOf; try (dsimp only)
  with_reducible repeat' (first | exact fun _ => rfl | exact skip | assumption | intro _ | apply Steady.ite | apply clearVfs_st | apply resetConfig_st | apply startFlr_st | split | apply Steady.upd)

theorem execFlr_ok {s : State} {port : Fin 128} {func : FuncNo} (hs : Steady q0 z0 s) (c0 : q0 .regs = false := by first | assumption | rfl) (c2 : q0 .cap = false := by first | assumption | rfl) (c6 : q0 .pair = false := by first | assumption | rfl) (c7 : q0 .links = false := by first | assumption | rfl) (c8 : q0 .fns = false := by first | assumption | rfl) (c10 : q0 .snap = false := by first | assumption | rfl) (c11 : q0 .pool = false := by first | assumption | rfl) (c13 : q0 .noc = false := by first | assumption | rfl) (c14 : q0 .buf = false := by first | assumption | rfl) (c16 : q0 .dp = false := by first | assumption | rfl) (c17 : q0 .hp = false := by first | assumption | rfl) (c18 : q0 .co = false := by first | assumption | rfl) (c19 : q0 .flight = false := by first | assumption | rfl) (c20 : q0 .out = false := by first | assumption | rfl) (c21 : q0 .fresh = false := by first | assumption | rfl) :
    OkOutcome q0 z0 (execFlr port func s) := by
  unfold execFlr; try (dsimp only)
  with_reducible repeat' (first | intro _ | apply next_ok | apply ite_ok | assumption | intro _ | apply Steady.ite | apply flrOf_st | apply settlePeers_st | apply onFabric_st | split)

theorem finishFlr_st {s : State} {p : ℕ} {f : ℕ} (hs : Steady q0 z0 s) (c8 : q0 .fns = false := by assumption) :
    Steady q0 z0 (finishFlr s p f) := by
  unfold finishFlr; try (dsimp only)
  with_reducible repeat' (first | exact fun _ => rfl | exact skip | assumption | intro _ | apply Steady.ite | apply resetConfig_st | split | apply Steady.upd)

theorem execFlrComplete_ok {s : State} {port : Fin 128} {func : FuncNo} (hs : Steady q0 z0 s) (c0 : q0 .regs = false := by first | assumption | rfl) (c2 : q0 .cap = false := by first | assumption | rfl) (c6 : q0 .pair = false := by first | assumption | rfl) (c7 : q0 .links = false := by first | assumption | rfl) (c8 : q0 .fns = false := by first | assumption | rfl) (c10 : q0 .snap = false := by first | assumption | rfl) (c13 : q0 .noc = false := by first | assumption | rfl) (c14 : q0 .buf = false := by first | assumption | rfl) (c16 : q0 .dp = false := by first | assumption | rfl) (c17 : q0 .hp = false := by first | assumption | rfl) (c18 : q0 .co = false := by first | assumption | rfl) (c19 : q0 .flight = false := by first | assumption | rfl) (c20 : q0 .out = false := by first | assumption | rfl) (c21 : q0 .fresh = false := by first | assumption | rfl) :
    OkOutcome q0 z0 (execFlrComplete port func s) := by
  unfold execFlrComplete; try (dsimp only)
  with_reducible repeat' (first | intro _ | apply next_ok | apply ite_ok | assumption | intro _ | apply Steady.ite | apply finishFlr_st | apply settlePeers_st | apply onFabric_st | split)

theorem execFlrPeerDrained_ok {s : State} {port : Fin 128} {func : FuncNo} (hs : Steady q0 z0 s) (c0 : q0 .regs = false := by first | assumption | rfl) (c2 : q0 .cap = false := by first | assumption | rfl) (c6 : q0 .pair = false := by first | assumption | rfl) (c7 : q0 .links = false := by first | assumption | rfl) (c8 : q0 .fns = false := by first | assumption | rfl) (c10 : q0 .snap = false := by first | assumption | rfl) (c13 : q0 .noc = false := by first | assumption | rfl) (c14 : q0 .buf = false := by first | assumption | rfl) (c16 : q0 .dp = false := by first | assumption | rfl) (c17 : q0 .hp = false := by first | assumption | rfl) (c18 : q0 .co = false := by first | assumption | rfl) (c19 : q0 .flight = false := by first | assumption | rfl) (c20 : q0 .out = false := by first | assumption | rfl) (c21 : q0 .fresh = false := by first | assumption | rfl) :
    OkOutcome q0 z0 (execFlrPeerDrained port func s) := by
  unfold execFlrPeerDrained; try (dsimp only)
  with_reducible repeat' (first | exact fun _ => rfl | exact skip | intro _ | apply next_ok | apply ite_ok | assumption | intro _ | apply Steady.ite | apply settlePeers_st | apply onFabric_st | split | apply Steady.upd)

theorem execVfEnableClear_ok {s : State} {port : Fin 128} (hs : Steady q0 z0 s) (c0 : q0 .regs = false := by first | assumption | rfl) (c2 : q0 .cap = false := by first | assumption | rfl) (c6 : q0 .pair = false := by first | assumption | rfl) (c7 : q0 .links = false := by first | assumption | rfl) (c8 : q0 .fns = false := by first | assumption | rfl) (c10 : q0 .snap = false := by first | assumption | rfl) (c13 : q0 .noc = false := by first | assumption | rfl) (c14 : q0 .buf = false := by first | assumption | rfl) (c16 : q0 .dp = false := by first | assumption | rfl) (c17 : q0 .hp = false := by first | assumption | rfl) (c18 : q0 .co = false := by first | assumption | rfl) (c19 : q0 .flight = false := by first | assumption | rfl) (c20 : q0 .out = false := by first | assumption | rfl) (c21 : q0 .fresh = false := by first | assumption | rfl) :
    OkOutcome q0 z0 (execVfEnableClear port s) := by
  unfold execVfEnableClear; try (dsimp only)
  with_reducible repeat' (first | intro _ | apply next_ok | apply ite_ok | assumption | intro _ | apply Steady.ite | apply clearVfs_st | apply settlePeers_st | apply onFabric_st | split)

theorem execBusMasterEnableSet_ok {s : State} {port : Fin 128} {func : FuncNo} (hs : Steady q0 z0 s) (c8 : q0 .fns = false := by first | assumption | rfl) (c18 : q0 .co = false := by first | assumption | rfl) (c20 : q0 .out = false := by first | assumption | rfl) :
    OkOutcome q0 z0 (execBusMasterEnableSet port func s) := by
  unfold execBusMasterEnableSet; try (dsimp only)
  with_reducible repeat' (first | intro _ | apply next_ok | apply ite_ok | assumption | intro _ | apply Steady.ite | apply fetchAll_st | apply setBusMaster_st | apply onFabric_st | split)

theorem execPowerStateWrite_ok {s : State} {port : Fin 128} {func : FuncNo} {d3 : Bool} (hs : Steady q0 z0 s) (c8 : q0 .fns = false := by first | assumption | rfl) (c18 : q0 .co = false := by first | assumption | rfl) (c20 : q0 .out = false := by first | assumption | rfl) :
    OkOutcome q0 z0 (execPowerStateWrite port func d3 s) := by
  unfold execPowerStateWrite; try (dsimp only)
  with_reducible repeat' (first | intro _ | apply next_ok | apply ite_ok | assumption | intro _ | apply Steady.ite | apply fetchAll_st | apply setPower_st | apply onFabric_st | split)

theorem cfgWrite_st {s : State} {p : ℕ} {f : ℕ} {o : ℕ} {v : Word} (hs : Steady q0 z0 s) (c0 : q0 .regs = false := by assumption) (c8 : q0 .fns = false := by assumption) (c10 : q0 .snap = false := by assumption) (c11 : q0 .pool = false := by assumption) (c14 : q0 .buf = false := by assumption) (c16 : q0 .dp = false := by assumption) (c17 : q0 .hp = false := by assumption) (c18 : q0 .co = false := by assumption) (c20 : q0 .out = false := by assumption) (c21 : q0 .fresh = false := by assumption) :
    Steady q0 z0 (cfgWrite s p f o v) := by
  unfold cfgWrite; try (dsimp only)
  with_reducible repeat' (first | assumption | intro _ | apply Steady.ite | apply flrOf_st | apply clearVfs_st | apply setPower_st | apply flushVectors_st | apply cfgPut_st | split)

theorem execConfigRequest_ok {s : State} {port : Fin 128} {func : FuncNo} {off : BitVec 12} {write : Option Word} (hs : Steady q0 z0 s) (c0 : q0 .regs = false := by first | assumption | rfl) (c2 : q0 .cap = false := by first | assumption | rfl) (c6 : q0 .pair = false := by first | assumption | rfl) (c7 : q0 .links = false := by first | assumption | rfl) (c8 : q0 .fns = false := by first | assumption | rfl) (c10 : q0 .snap = false := by first | assumption | rfl) (c11 : q0 .pool = false := by first | assumption | rfl) (c13 : q0 .noc = false := by first | assumption | rfl) (c14 : q0 .buf = false := by first | assumption | rfl) (c16 : q0 .dp = false := by first | assumption | rfl) (c17 : q0 .hp = false := by first | assumption | rfl) (c18 : q0 .co = false := by first | assumption | rfl) (c19 : q0 .flight = false := by first | assumption | rfl) (c20 : q0 .out = false := by first | assumption | rfl) (c21 : q0 .fresh = false := by first | assumption | rfl) :
    OkOutcome q0 z0 (execConfigRequest port func off write s) := by
  unfold execConfigRequest; try (dsimp only)
  with_reducible repeat' (first | intro _ | apply next_ok | apply ite_ok | assumption | intro _ | apply Steady.ite | apply cfgWrite_st | apply resetConfig_st | apply settlePeers_st | apply fetchAll_st | apply onFabric_st | apply usedFree_st | apply emit_st | split)

end Sys2Proof.Laws
end

