-- ==== Sys2Proof/Laws/SteadyReply.lean ====
section
/-! SUPPORT. Every operation of Machine/Reply.lean is steady. -/

set_option Elab.async false
set_option linter.unusedTactic false
set_option linter.unreachableTactic false

namespace Sys2Proof.Laws

open Sys2Proof.Machine

variable {q0 : Part → Bool} {z0 : State}

theorem settleAll_st {s : State} (hs : Steady q0 z0 s) (c0 : q0 .regs = false := by assumption) (c2 : q0 .cap = false := by assumption) (c6 : q0 .pair = false := by assumption) (c7 : q0 .links = false := by assumption) (c8 : q0 .fns = false := by assumption) (c10 : q0 .snap = false := by assumption) (c13 : q0 .noc = false := by assumption) (c14 : q0 .buf = false := by assumption) (c16 : q0 .dp = false := by assumption) (c17 : q0 .hp = false := by assumption) (c18 : q0 .co = false := by assumption) (c19 : q0 .flight = false := by assumption) (c20 : q0 .out = false := by assumption) (c21 : q0 .fresh = false := by assumption) :
    Steady q0 z0 (settleAll s) := by
  unfold settleAll; try (dsimp only)
  with_reducible repeat' (first | assumption | intro _ | apply Steady.ite | apply settlePeers_st | apply startDescs_st | split)

theorem twinAnswer_st {s : State} {m : Hdr} {ends : Bool} (hs : Steady q0 z0 s) (c0 : q0 .regs = false := by assumption) (c6 : q0 .pair = false := by assumption) (c7 : q0 .links = false := by assumption) (c8 : q0 .fns = false := by assumption) (c10 : q0 .snap = false := by assumption) (c13 : q0 .noc = false := by assumption) (c19 : q0 .flight = false := by assumption) (c20 : q0 .out = false := by assumption) :
    Steady q0 z0 (twinAnswer s m ends) := by
  unfold twinAnswer; try (dsimp only)
  with_reducible repeat' (first | exact fun _ => rfl | exact skip | assumption | intro _ | apply Steady.ite | apply dropFwd_st | apply send_st | split | apply Steady.upd)

theorem toHostOrCoach_st {s : State} {m : Hdr} {h : State → ℕ → State} {c : State → ℕ → State} (hs : Steady q0 z0 s) (hh : ∀ x0 x1, Steady q0 z0 x0 → Steady q0 z0 (h x0 x1)) (hc : ∀ x0 x1, Steady q0 z0 x0 → Steady q0 z0 (c x0 x1)) :
    Steady q0 z0 (toHostOrCoach s m h c) := by
  unfold toHostOrCoach; try (dsimp only)
  with_reducible repeat' (first | assumption | intro _ | apply Steady.ite | apply hh | apply hc | split)

theorem grantTo_st {s : State} {m : Hdr} {ndr : ℕ} {res : AtomicRes} (hs : Steady q0 z0 s) (c0 : q0 .regs = false := by assumption) (c2 : q0 .cap = false := by assumption) (c6 : q0 .pair = false := by assumption) (c7 : q0 .links = false := by assumption) (c8 : q0 .fns = false := by assumption) (c10 : q0 .snap = false := by assumption) (c11 : q0 .pool = false := by assumption) (c13 : q0 .noc = false := by assumption) (c14 : q0 .buf = false := by assumption) (c16 : q0 .dp = false := by assumption) (c17 : q0 .hp = false := by assumption) (c18 : q0 .co = false := by assumption) (c19 : q0 .flight = false := by assumption) (c20 : q0 .out = false := by assumption) (c21 : q0 .fresh = false := by assumption) :
    Steady q0 z0 (grantTo s m ndr res) := by
  unfold grantTo; try (dsimp only)
  with_reducible repeat' (first | assumption | intro _ | apply Steady.ite | apply toHostOrCoach_st | apply twinAnswer_st | apply settleAll_st | apply coachGrant_st | apply hostGrant_st | split)

theorem execCmps_ok {s : State} {m : Hdr} (hs : Steady q0 z0 s) (c0 : q0 .regs = false := by first | assumption | rfl) (c2 : q0 .cap = false := by first | assumption | rfl) (c6 : q0 .pair = false := by first | assumption | rfl) (c7 : q0 .links = false := by first | assumption | rfl) (c8 : q0 .fns = false := by first | assumption | rfl) (c10 : q0 .snap = false := by first | assumption | rfl) (c11 : q0 .pool = false := by first | assumption | rfl) (c13 : q0 .noc = false := by first | assumption | rfl) (c14 : q0 .buf = false := by first | assumption | rfl) (c16 : q0 .dp = false := by first | assumption | rfl) (c17 : q0 .hp = false := by first | assumption | rfl) (c18 : q0 .co = false := by first | assumption | rfl) (c19 : q0 .flight = false := by first | assumption | rfl) (c20 : q0 .out = false := by first | assumption | rfl) (c21 : q0 .fresh = false := by first | assumption | rfl) :
    OkOutcome q0 z0 (execCmps m s) := by
  unfold execCmps; try (dsimp only)
  with_reducible repeat' (first | intro _ | apply next_ok | apply ite_ok | assumption | intro _ | apply Steady.ite | apply grantTo_st | apply receive_st | apply onFabric_st | split)

theorem execCmpo_ok {s : State} {m : Hdr} (hs : Steady q0 z0 s) (c0 : q0 .regs = false := by first | assumption | rfl) (c2 : q0 .cap = false := by first | assumption | rfl) (c6 : q0 .pair = false := by first | assumption | rfl) (c7 : q0 .links = false := by first | assumption | rfl) (c8 : q0 .fns = false := by first | assumption | rfl) (c10 : q0 .snap = false := by first | assumption | rfl) (c11 : q0 .pool = false := by first | assumption | rfl) (c13 : q0 .noc = false := by first | assumption | rfl) (c14 : q0 .buf = false := by first | assumption | rfl) (c16 : q0 .dp = false := by first | assumption | rfl) (c17 : q0 .hp = false := by first | assumption | rfl) (c18 : q0 .co = false := by first | assumption | rfl) (c19 : q0 .flight = false := by first | assumption | rfl) (c20 : q0 .out = false := by first | assumption | rfl) (c21 : q0 .fresh = false := by first | assumption | rfl) :
    OkOutcome q0 z0 (execCmpo m s) := by
  unfold execCmpo; try (dsimp only)
  with_reducible repeat' (first | intro _ | apply next_ok | apply ite_ok | assumption | intro _ | apply Steady.ite | apply grantTo_st | apply receive_st | apply onFabric_st | split)

theorem execCmp_ok {s : State} {m : Hdr} {res : AtomicRes} (hs : Steady q0 z0 s) (c0 : q0 .regs = false := by first | assumption | rfl) (c2 : q0 .cap = false := by first | assumption | rfl) (c6 : q0 .pair = false := by first | assumption | rfl) (c7 : q0 .links = false := by first | assumption | rfl) (c8 : q0 .fns = false := by first | assumption | rfl) (c10 : q0 .snap = false := by first | assumption | rfl) (c11 : q0 .pool = false := by first | assumption | rfl) (c13 : q0 .noc = false := by first | assumption | rfl) (c14 : q0 .buf = false := by first | assumption | rfl) (c16 : q0 .dp = false := by first | assumption | rfl) (c17 : q0 .hp = false := by first | assumption | rfl) (c18 : q0 .co = false := by first | assumption | rfl) (c19 : q0 .flight = false := by first | assumption | rfl) (c20 : q0 .out = false := by first | assumption | rfl) (c21 : q0 .fresh = false := by first | assumption | rfl) :
    OkOutcome q0 z0 (execCmp m res s) := by
  unfold execCmp; try (dsimp only)
  with_reducible repeat' (first | intro _ | apply next_ok | apply ite_ok | assumption | intro _ | apply Steady.ite | apply grantTo_st | apply toHostOrCoach_st | apply settleAll_st | apply coachDirect_st | apply hostDirect_st | apply receive_st | apply onFabric_st | split)

theorem execErr_ok {s : State} {m : Hdr} (hs : Steady q0 z0 s) (c0 : q0 .regs = false := by first | assumption | rfl) (c2 : q0 .cap = false := by first | assumption | rfl) (c6 : q0 .pair = false := by first | assumption | rfl) (c7 : q0 .links = false := by first | assumption | rfl) (c8 : q0 .fns = false := by first | assumption | rfl) (c10 : q0 .snap = false := by first | assumption | rfl) (c11 : q0 .pool = false := by first | assumption | rfl) (c13 : q0 .noc = false := by first | assumption | rfl) (c14 : q0 .buf = false := by first | assumption | rfl) (c16 : q0 .dp = false := by first | assumption | rfl) (c17 : q0 .hp = false := by first | assumption | rfl) (c18 : q0 .co = false := by first | assumption | rfl) (c19 : q0 .flight = false := by first | assumption | rfl) (c20 : q0 .out = false := by first | assumption | rfl) (c21 : q0 .fresh = false := by first | assumption | rfl) :
    OkOutcome q0 z0 (execErr m s) := by
  unfold execErr; try (dsimp only)
  with_reducible repeat' (first | intro _ | apply next_ok | apply ite_ok | assumption | intro _ | apply Steady.ite | apply toHostOrCoach_st | apply settleAll_st | apply coachErr_st | apply hostErr_st | apply dropFwd_st | apply receive_st | apply onFabric_st | split)

theorem execDatago_ok {s : State} {m : Hdr} (hs : Steady q0 z0 s) (c0 : q0 .regs = false := by first | assumption | rfl) (c2 : q0 .cap = false := by first | assumption | rfl) (c6 : q0 .pair = false := by first | assumption | rfl) (c7 : q0 .links = false := by first | assumption | rfl) (c8 : q0 .fns = false := by first | assumption | rfl) (c10 : q0 .snap = false := by first | assumption | rfl) (c11 : q0 .pool = false := by first | assumption | rfl) (c13 : q0 .noc = false := by first | assumption | rfl) (c14 : q0 .buf = false := by first | assumption | rfl) (c16 : q0 .dp = false := by first | assumption | rfl) (c17 : q0 .hp = false := by first | assumption | rfl) (c18 : q0 .co = false := by first | assumption | rfl) (c19 : q0 .flight = false := by first | assumption | rfl) (c20 : q0 .out = false := by first | assumption | rfl) (c21 : q0 .fresh = false := by first | assumption | rfl) :
    OkOutcome q0 z0 (execDatago m s) := by
  unfold execDatago; try (dsimp only)
  with_reducible repeat' (first | intro _ | apply next_ok | apply ite_ok | assumption | intro _ | apply Steady.ite | apply toHostOrCoach_st | apply twinAnswer_st | apply settleAll_st | apply coachDatago_st | apply hostDatago_st | apply dpWrite_st | apply receive_st | apply unreserve_st | apply onFabric_st | split)

theorem execFill_ok {s : State} {m : Hdr} {data : LineData} (hs : Steady q0 z0 s) (c0 : q0 .regs = false := by first | assumption | rfl) (c2 : q0 .cap = false := by first | assumption | rfl) (c6 : q0 .pair = false := by first | assumption | rfl) (c7 : q0 .links = false := by first | assumption | rfl) (c8 : q0 .fns = false := by first | assumption | rfl) (c10 : q0 .snap = false := by first | assumption | rfl) (c11 : q0 .pool = false := by first | assumption | rfl) (c13 : q0 .noc = false := by first | assumption | rfl) (c14 : q0 .buf = false := by first | assumption | rfl) (c15 : q0 .dir = false := by first | assumption | rfl) (c16 : q0 .dp = false := by first | assumption | rfl) (c17 : q0 .hp = false := by first | assumption | rfl) (c18 : q0 .co = false := by first | assumption | rfl) (c19 : q0 .flight = false := by first | assumption | rfl) (c20 : q0 .out = false := by first | assumption | rfl) (c21 : q0 .fresh = false := by first | assumption | rfl) :
    OkOutcome q0 z0 (execFill m data s) := by
  unfold execFill; try (dsimp only)
  with_reducible repeat' (first | intro _ | apply next_ok | apply ite_ok | assumption | intro _ | apply Steady.ite | apply toHostOrCoach_st | apply settleAll_st | apply coachData_st | apply homeFill_st | apply receive_st | apply onFabric_st | split)

theorem execMemcmp_ok {s : State} {m : Hdr} (hs : Steady q0 z0 s) (c0 : q0 .regs = false := by first | assumption | rfl) (c2 : q0 .cap = false := by first | assumption | rfl) (c6 : q0 .pair = false := by first | assumption | rfl) (c7 : q0 .links = false := by first | assumption | rfl) (c8 : q0 .fns = false := by first | assumption | rfl) (c10 : q0 .snap = false := by first | assumption | rfl) (c11 : q0 .pool = false := by first | assumption | rfl) (c13 : q0 .noc = false := by first | assumption | rfl) (c14 : q0 .buf = false := by first | assumption | rfl) (c15 : q0 .dir = false := by first | assumption | rfl) (c16 : q0 .dp = false := by first | assumption | rfl) (c17 : q0 .hp = false := by first | assumption | rfl) (c18 : q0 .co = false := by first | assumption | rfl) (c19 : q0 .flight = false := by first | assumption | rfl) (c20 : q0 .out = false := by first | assumption | rfl) (c21 : q0 .fresh = false := by first | assumption | rfl) :
    OkOutcome q0 z0 (execMemcmp m s) := by
  unfold execMemcmp; try (dsimp only)
  with_reducible repeat' (first | intro _ | apply next_ok | apply ite_ok | assumption | intro _ | apply Steady.ite | apply toHostOrCoach_st | apply settleAll_st | apply coachDirect_st | apply hostDirect_st | apply homeMemcmp_st | apply receive_st | apply onFabric_st | split)

theorem execBiack_ok {s : State} {m : Hdr} (hs : Steady q0 z0 s) (c0 : q0 .regs = false := by first | assumption | rfl) (c6 : q0 .pair = false := by first | assumption | rfl) (c7 : q0 .links = false := by first | assumption | rfl) (c8 : q0 .fns = false := by first | assumption | rfl) (c10 : q0 .snap = false := by first | assumption | rfl) (c13 : q0 .noc = false := by first | assumption | rfl) (c15 : q0 .dir = false := by first | assumption | rfl) (c19 : q0 .flight = false := by first | assumption | rfl) (c20 : q0 .out = false := by first | assumption | rfl) :
    OkOutcome q0 z0 (execBiack m s) := by
  unfold execBiack; try (dsimp only)
  with_reducible repeat' (first | intro _ | apply next_ok | apply ite_ok | assumption | intro _ | apply Steady.ite | apply homeBiack_st | apply receive_st | apply onFabric_st | split)

theorem snoopAgent_st {s : State} {m : Hdr} {down : Bool} (hs : Steady q0 z0 s) (c0 : q0 .regs = false := by assumption) (c7 : q0 .links = false := by assumption) (c8 : q0 .fns = false := by assumption) (c10 : q0 .snap = false := by assumption) (c13 : q0 .noc = false := by assumption) (c15 : q0 .dir = false := by assumption) (c17 : q0 .hp = false := by assumption) (c18 : q0 .co = false := by assumption) (c19 : q0 .flight = false := by assumption) (c20 : q0 .out = false := by assumption) :
    Steady q0 z0 (snoopAgent s m down) := by
  unfold snoopAgent; try (dsimp only)
  with_reducible repeat' (first | assumption | intro _ | apply Steady.ite | apply toHostOrCoach_st | apply coachSnoop_st | apply hostSnoop_st | split)

theorem execBackinv_ok {s : State} {m : Hdr} (hs : Steady q0 z0 s) (c0 : q0 .regs = false := by first | assumption | rfl) (c7 : q0 .links = false := by first | assumption | rfl) (c8 : q0 .fns = false := by first | assumption | rfl) (c10 : q0 .snap = false := by first | assumption | rfl) (c13 : q0 .noc = false := by first | assumption | rfl) (c15 : q0 .dir = false := by first | assumption | rfl) (c17 : q0 .hp = false := by first | assumption | rfl) (c18 : q0 .co = false := by first | assumption | rfl) (c19 : q0 .flight = false := by first | assumption | rfl) (c20 : q0 .out = false := by first | assumption | rfl) :
    OkOutcome q0 z0 (execBackinv m s) := by
  unfold execBackinv; try (dsimp only)
  with_reducible repeat' (first | intro _ | apply next_ok | apply ite_ok | assumption | intro _ | apply Steady.ite | apply snoopAgent_st | apply receive_st | apply onFabric_st | split)

theorem execBackdown_ok {s : State} {m : Hdr} (hs : Steady q0 z0 s) (c0 : q0 .regs = false := by first | assumption | rfl) (c7 : q0 .links = false := by first | assumption | rfl) (c8 : q0 .fns = false := by first | assumption | rfl) (c10 : q0 .snap = false := by first | assumption | rfl) (c13 : q0 .noc = false := by first | assumption | rfl) (c15 : q0 .dir = false := by first | assumption | rfl) (c17 : q0 .hp = false := by first | assumption | rfl) (c18 : q0 .co = false := by first | assumption | rfl) (c19 : q0 .flight = false := by first | assumption | rfl) (c20 : q0 .out = false := by first | assumption | rfl) :
    OkOutcome q0 z0 (execBackdown m s) := by
  unfold execBackdown; try (dsimp only)
  with_reducible repeat' (first | intro _ | apply next_ok | apply ite_ok | assumption | intro _ | apply Steady.ite | apply snoopAgent_st | apply receive_st | apply onFabric_st | split)

theorem execBackinvBroadcast_ok {s : State} {region : Fin 16} {m : Hdr} (hs : Steady q0 z0 s) (c0 : q0 .regs = false := by first | assumption | rfl) (c7 : q0 .links = false := by first | assumption | rfl) (c8 : q0 .fns = false := by first | assumption | rfl) (c10 : q0 .snap = false := by first | assumption | rfl) (c13 : q0 .noc = false := by first | assumption | rfl) (c15 : q0 .dir = false := by first | assumption | rfl) (c17 : q0 .hp = false := by first | assumption | rfl) (c18 : q0 .co = false := by first | assumption | rfl) (c19 : q0 .flight = false := by first | assumption | rfl) (c20 : q0 .out = false := by first | assumption | rfl) :
    OkOutcome q0 z0 (execBackinvBroadcast region m s) := by
  unfold execBackinvBroadcast; try (dsimp only)
  with_reducible repeat' (first | intro _ | apply next_ok | apply ite_ok | assumption | intro _ | apply Steady.ite | apply coachSnoop_st | apply hostSnoop_st | apply settleAgg_st | apply withDir_st | apply receive_st | apply onFabric_st | apply forAll_st | split)

theorem execRequestTimeout_ok {s : State} {agent : Agent} {rtag : BitVec 10} (hs : Steady q0 z0 s) (c0 : q0 .regs = false := by first | assumption | rfl) (c2 : q0 .cap = false := by first | assumption | rfl) (c6 : q0 .pair = false := by first | assumption | rfl) (c7 : q0 .links = false := by first | assumption | rfl) (c8 : q0 .fns = false := by first | assumption | rfl) (c10 : q0 .snap = false := by first | assumption | rfl) (c11 : q0 .pool = false := by first | assumption | rfl) (c13 : q0 .noc = false := by first | assumption | rfl) (c14 : q0 .buf = false := by first | assumption | rfl) (c16 : q0 .dp = false := by first | assumption | rfl) (c17 : q0 .hp = false := by first | assumption | rfl) (c18 : q0 .co = false := by first | assumption | rfl) (c19 : q0 .flight = false := by first | assumption | rfl) (c20 : q0 .out = false := by first | assumption | rfl) (c21 : q0 .fresh = false := by first | assumption | rfl) :
    OkOutcome q0 z0 (execRequestTimeout agent rtag s) := by
  unfold execRequestTimeout; try (dsimp only)
  with_reducible repeat' (first | intro _ | apply next_ok | apply ite_ok | assumption | intro _ | apply Steady.ite | apply settleAll_st | apply coachTimeout_st | apply hostTimeout_st | apply onFabric_st | split)

theorem tagUser_st {s : State} {l : LAddr} {err : Bool} {u : TagUser} (hs : Steady q0 z0 s) (c0 : q0 .regs = false := by assumption) (c6 : q0 .pair = false := by assumption) (c7 : q0 .links = false := by assumption) (c8 : q0 .fns = false := by assumption) (c10 : q0 .snap = false := by assumption) (c11 : q0 .pool = false := by assumption) (c13 : q0 .noc = false := by assumption) (c14 : q0 .buf = false := by assumption) (c16 : q0 .dp = false := by assumption) (c17 : q0 .hp = false := by assumption) (c18 : q0 .co = false := by assumption) (c19 : q0 .flight = false := by assumption) (c20 : q0 .out = false := by assumption) (c21 : q0 .fresh = false := by assumption) :
    Steady q0 z0 (tagUser s l err u) := by
  unfold tagUser; try (dsimp only)
  with_reducible repeat' (first | assumption | intro _ | apply Steady.ite | apply peerCheck_st | apply pumpCoach_st | apply hostRun_st | refine elim_st ?_ (fun _ => ?_) | split)

theorem execTagLineFill_ok {s : State} {region : Fin 16} {line : LAddr} {data : LineData} {ecc : Ecc} (hs : Steady q0 z0 s) (c0 : q0 .regs = false := by first | assumption | rfl) (c2 : q0 .cap = false := by first | assumption | rfl) (c6 : q0 .pair = false := by first | assumption | rfl) (c7 : q0 .links = false := by first | assumption | rfl) (c8 : q0 .fns = false := by first | assumption | rfl) (c10 : q0 .snap = false := by first | assumption | rfl) (c11 : q0 .pool = false := by first | assumption | rfl) (c13 : q0 .noc = false := by first | assumption | rfl) (c14 : q0 .buf = false := by first | assumption | rfl) (c16 : q0 .dp = false := by first | assumption | rfl) (c17 : q0 .hp = false := by first | assumption | rfl) (c18 : q0 .co = false := by first | assumption | rfl) (c19 : q0 .flight = false := by first | assumption | rfl) (c20 : q0 .out = false := by first | assumption | rfl) (c21 : q0 .fresh = false := by first | assumption | rfl) :
    OkOutcome q0 z0 (execTagLineFill region line data ecc s) := by
  unfold execTagLineFill; try (dsimp only)
  with_reducible repeat' (first | exact fun _ => rfl | exact skip | intro _ | apply next_ok | apply ite_ok | assumption | intro _ | apply Steady.ite | apply tagUser_st | apply settleAll_st | apply dpRead_st | apply tagInstall_st | apply receive_st | refine count_bg ?_ (by constructor) | apply logCorrectable_st | apply onFabric_st | apply forAll_st | split | apply Steady.upd)

theorem startSweep_st {s : State} {p : ℕ} {g : ℕ} (hs : Steady q0 z0 s) (c11 : q0 .pool = false := by assumption) (c15 : q0 .dir = false := by assumption) :
    Steady q0 z0 (startSweep s p g) := by
  unfold startSweep; try (dsimp only)
  with_reducible repeat' (first | exact fun _ => rfl | exact skip | assumption | intro _ | apply Steady.ite | apply withDir_st | split | apply Steady.upd)

theorem execReleaseDynamicCapacity_ok {s : State} {port : Fin 128} {extents : List Extent} (hs : Steady q0 z0 s) (c0 : q0 .regs = false := by first | assumption | rfl) (c3 : q0 .banks = false := by first | assumption | rfl) (c6 : q0 .pair = false := by first | assumption | rfl) (c7 : q0 .links = false := by first | assumption | rfl) (c8 : q0 .fns = false := by first | assumption | rfl) (c10 : q0 .snap = false := by first | assumption | rfl) (c11 : q0 .pool = false := by first | assumption | rfl) (c13 : q0 .noc = false := by first | assumption | rfl) (c15 : q0 .dir = false := by first | assumption | rfl) (c19 : q0 .flight = false := by first | assumption | rfl) (c20 : q0 .out = false := by first | assumption | rfl) :
    OkOutcome q0 z0 (execReleaseDynamicCapacity port extents s) := by
  unfold execReleaseDynamicCapacity; try (dsimp only)
  with_reducible repeat' (first | exact fun _ => rfl | exact skip | intro _ | apply next_ok | apply ite_ok | assumption | intro _ | apply Steady.ite | apply startSweep_st | apply settleSlices_st | apply settleMbox_st | apply mboxRefuse_st | apply dropExtents_st | apply onMailbox_st | apply deviceBind_st | apply raiseEv_st | apply pairSend_st | apply forAll_st | split | apply Steady.upd)

theorem execBind_ok {s : State} {port : Fin 128} {st : BindState} {seg : BitVec 16} (hs : Steady q0 z0 s) (c0 : q0 .regs = false := by first | assumption | rfl) (c3 : q0 .banks = false := by first | assumption | rfl) (c6 : q0 .pair = false := by first | assumption | rfl) (c7 : q0 .links = false := by first | assumption | rfl) (c8 : q0 .fns = false := by first | assumption | rfl) (c10 : q0 .snap = false := by first | assumption | rfl) (c11 : q0 .pool = false := by first | assumption | rfl) (c13 : q0 .noc = false := by first | assumption | rfl) (c15 : q0 .dir = false := by first | assumption | rfl) (c19 : q0 .flight = false := by first | assumption | rfl) (c20 : q0 .out = false := by first | assumption | rfl) :
    OkOutcome q0 z0 (execBind port st seg s) := by
  unfold execBind; try (dsimp only)
  with_reducible repeat' (first | exact fun _ => rfl | exact skip | intro _ | apply next_ok | apply ite_ok | assumption | intro _ | apply Steady.ite | apply startSweep_st | apply settleSlices_st | apply dropExtents_st | apply addExtents_st | apply deviceBind_st | apply pairSend_st | apply onFabric_st | split | apply Steady.upd)

theorem execPurgeSweepDone_ok {s : State} {port : Fin 128} (hs : Steady q0 z0 s) (c0 : q0 .regs = false := by first | assumption | rfl) (c3 : q0 .banks = false := by first | assumption | rfl) (c7 : q0 .links = false := by first | assumption | rfl) (c10 : q0 .snap = false := by first | assumption | rfl) (c11 : q0 .pool = false := by first | assumption | rfl) (c20 : q0 .out = false := by first | assumption | rfl) :
    OkOutcome q0 z0 (execPurgeSweepDone port s) := by
  unfold execPurgeSweepDone; try (dsimp only)
  with_reducible repeat' (first | exact fun _ => rfl | exact skip | intro _ | apply next_ok | apply ite_ok | assumption | intro _ | apply Steady.ite | apply settleMbox_st | apply dropExtents_st | apply deviceBind_st | apply pairSend_st | apply onFabric_st | apply forAll_st | split | apply Steady.upd)

end Sys2Proof.Laws
end

