-- ==== Sys2Proof/Laws/SteadyXbar.lean ====
section
/-! SUPPORT. Every operation of Machine/Xbar.lean is steady. -/

set_option Elab.async false
set_option linter.unusedTactic false
set_option linter.unreachableTactic false

namespace Sys2Proof.Laws

open Sys2Proof.Machine

variable {q0 : Part → Bool} {z0 : State}

theorem setClassPtr_st {s : State} {e : ℕ} {v : ℕ × ℕ} (hs : Steady q0 z0 s) (c14 : q0 .buf = false := by assumption) :
    Steady q0 z0 (setClassPtr s e v) := by
  unfold setClassPtr; try (dsimp only)
  with_reducible repeat' (first | assumption | intro _ | apply Steady.ite | apply withBuf_st | split)

theorem classPick_st {s : State} {e : ℕ} {has : ℕ → Bool} (hs : Steady q0 z0 s) (c14 : q0 .buf = false := by assumption) :
    Steady q0 z0 (classPick s e has).1 := by
  unfold classPick; try (dsimp only)
  with_reducible repeat' (first | assumption | intro _ | apply Steady.ite | apply setClassPtr_st | split)

theorem offersOf_st {s : State} {cands : List Cand} {done : List Pairing} {outs : List Nat} {l : List Offer}
    (hs : Steady q0 z0 s) (c14 : q0 .buf = false := by assumption) : Steady q0 z0 (offersOf s cands done outs l).1 := by
  induction outs generalizing s l with
  | nil => exact hs
  | cons e t ih =>
    rw [offersOf]
    dsimp only
    split
    · exact ih hs
    · split
      · exact ih (classPick_st hs)
      · exact ih (classPick_st hs)

theorem acceptsOf_st {s : State} {first : Bool} {l : List Offer} {ins : List ℕ} {done : List Pairing} (hs : Steady q0 z0 s) (c14 : q0 .buf = false := by assumption) :
    Steady q0 z0 (acceptsOf s first l ins done).1 := by
  fun_induction acceptsOf s first l ins done
  all_goals (try (dsimp only))
  all_goals with_reducible repeat' (first | assumption | apply_assumption | assumption | intro _ | apply Steady.ite | apply withBuf_st | split)

theorem takeLinkCredits_st {s : State} {p : ℕ} {x : Pkt} {back : Bool} (hs : Steady q0 z0 s) (c7 : q0 .links = false := by assumption) (c14 : q0 .buf = false := by assumption) :
    Steady q0 z0 (takeLinkCredits s p x back) := by
  unfold takeLinkCredits; try (dsimp only)
  with_reducible repeat' (first | assumption | intro _ | apply Steady.ite | apply withBuf_st | apply setOwn_st | split)

theorem reserveOut_st {s : State} {x : Pkt} {e : ℕ} (hs : Steady q0 z0 s) (c7 : q0 .links = false := by assumption) (c14 : q0 .buf = false := by assumption) :
    Steady q0 z0 (reserveOut s x e) := by
  unfold reserveOut; try (dsimp only)
  with_reducible repeat' (first | assumption | intro _ | apply Steady.ite | apply takeLinkCredits_st | apply withBuf_st | split)

theorem startPkts_st {s : State} {l : List Pairing} (hs : Steady q0 z0 s) (c7 : q0 .links = false := by assumption) (c14 : q0 .buf = false := by assumption) :
    Steady q0 z0 (startPkts s l) := by
  unfold startPkts; try (dsimp only)
  with_reducible repeat' (first | assumption | intro _ | apply Steady.ite | apply reserveOut_st | apply withBuf_st | apply forAll_st | split)

theorem matchIter_st {s : State} {n : ℕ} {first : Bool} {cands : List Cand} {done : List Pairing} (hs : Steady q0 z0 s) (c7 : q0 .links = false := by assumption) (c14 : q0 .buf = false := by assumption) :
    Steady q0 z0 (matchIter n s first cands done).1 := by
  fun_induction matchIter n s first cands done
  all_goals (try (dsimp only))
  all_goals with_reducible repeat' (first | assumption | apply_assumption | assumption | intro _ | apply Steady.ite | apply startPkts_st | apply acceptsOf_st | apply offersOf_st | split)

theorem transmit_st {s : State} {x : Pkt} {p : ℕ} (hs : Steady q0 z0 s) (c0 : q0 .regs = false := by assumption) (c7 : q0 .links = false := by assumption) (c10 : q0 .snap = false := by assumption) (c20 : q0 .out = false := by assumption) :
    Steady q0 z0 (transmit s x p) := by
  unfold transmit; try (dsimp only)
  with_reducible repeat' (first | assumption | intro _ | apply Steady.ite | apply linkSend_st | apply emit_st | split)

theorem dropPkt_st {s : State} {x : Pkt} (hs : Steady q0 z0 s) (c14 : q0 .buf = false := by assumption) :
    Steady q0 z0 (dropPkt s x) := by
  unfold dropPkt; try (dsimp only)
  with_reducible repeat' (first | assumption | intro _ | apply Steady.ite | apply withBuf_st | split)

theorem transmitStaged_st {s : State} {k : ℕ} {p : ℕ} (hs : Steady q0 z0 s) (c0 : q0 .regs = false := by assumption) (c7 : q0 .links = false := by assumption) (c10 : q0 .snap = false := by assumption) (c14 : q0 .buf = false := by assumption) (c20 : q0 .out = false := by assumption) :
    Steady q0 z0 (transmitStaged k s p) := by
  fun_induction transmitStaged k s p
  all_goals (try (dsimp only))
  all_goals with_reducible repeat' (first | assumption | apply_assumption | assumption | intro _ | apply Steady.ite | apply dropPkt_st | apply transmit_st | split)

theorem arrive_st {s : State} {x : Pkt} (hs : Steady q0 z0 s) (c0 : q0 .regs = false := by assumption) (c6 : q0 .pair = false := by assumption) (c7 : q0 .links = false := by assumption) (c8 : q0 .fns = false := by assumption) (c10 : q0 .snap = false := by assumption) (c11 : q0 .pool = false := by assumption) (c13 : q0 .noc = false := by assumption) (c14 : q0 .buf = false := by assumption) (c16 : q0 .dp = false := by assumption) (c17 : q0 .hp = false := by assumption) (c18 : q0 .co = false := by assumption) (c19 : q0 .flight = false := by assumption) (c20 : q0 .out = false := by assumption) (c21 : q0 .fresh = false := by assumption) :
    Steady q0 z0 (arrive s x) := by
  unfold arrive; try (dsimp only)
  with_reducible repeat' (first | assumption | intro _ | apply Steady.ite | apply coachData_st | apply hostData_st | apply dpWrite_st | apply dpArrive_st | split)

theorem classCell_st {s : State} {e : ℕ} {c : ℕ} (hs : Steady q0 z0 s) (c14 : q0 .buf = false := by assumption) :
    Steady q0 z0 (classCell s e c) := by
  unfold classCell; try (dsimp only)
  with_reducible repeat' (first | assumption | intro _ | apply Steady.ite | apply setClassPtr_st | split)

theorem logPacket_st {s : State} {p : ℕ} {unc : Bool} (hs : Steady q0 z0 s) (c8 : q0 .fns = false := by assumption) (c20 : q0 .out = false := by assumption) :
    Steady q0 z0 (logPacket s p unc) := by
  unfold logPacket; try (dsimp only)
  with_reducible repeat' (first | assumption | intro _ | apply Steady.ite | apply logCorrectable_st | apply logUncorrectable_st | split)

theorem headerCheck_st {s : State} {x : Pkt} (hs : Steady q0 z0 s) (c0 : q0 .regs = false := by assumption) (c7 : q0 .links = false := by assumption) (c8 : q0 .fns = false := by assumption) (c10 : q0 .snap = false := by assumption) (c13 : q0 .noc = false := by assumption) (c19 : q0 .flight = false := by assumption) (c20 : q0 .out = false := by assumption) :
    Steady q0 z0 (headerCheck s x).1 := by
  unfold headerCheck; try (dsimp only)
  with_reducible repeat' (first | assumption | intro _ | apply Steady.ite | apply logPacket_st | refine count_bg ?_ (by constructor) | split)

theorem discardPkt_st {s : State} {x : Pkt} (hs : Steady q0 z0 s) (c0 : q0 .regs = false := by assumption) (c7 : q0 .links = false := by assumption) (c14 : q0 .buf = false := by assumption) (c20 : q0 .out = false := by assumption) :
    Steady q0 z0 (discardPkt s x) := by
  unfold discardPkt; try (dsimp only)
  with_reducible repeat' (first | assumption | intro _ | apply Steady.ite | apply dropPkt_st | apply takeLinkCredits_st | apply freeCellsOf_st | apply emit_st | split)

theorem logPktPort_st {s : State} {x : Pkt} {unc : Bool} (hs : Steady q0 z0 s) (c8 : q0 .fns = false := by assumption) (c20 : q0 .out = false := by assumption) :
    Steady q0 z0 (logPktPort s x unc) := by
  unfold logPktPort; try (dsimp only)
  with_reducible repeat' (first | assumption | intro _ | apply Steady.ite | apply logPacket_st | split)

theorem cellCorrects_st {s : State} {x : Pkt} (hs : Steady q0 z0 s) (c0 : q0 .regs = false := by assumption) (c7 : q0 .links = false := by assumption) (c8 : q0 .fns = false := by assumption) (c10 : q0 .snap = false := by assumption) (c13 : q0 .noc = false := by assumption) (c19 : q0 .flight = false := by assumption) (c20 : q0 .out = false := by assumption) :
    Steady q0 z0 (cellCorrects s x) := by
  unfold cellCorrects; try (dsimp only)
  with_reducible repeat' (first | assumption | intro _ | apply Steady.ite | apply logPktPort_st | refine count_bg ?_ (by constructor) | split)

theorem cellPoisons_st {s : State} {x : Pkt} (hs : Steady q0 z0 s) (c14 : q0 .buf = false := by assumption) :
    Steady q0 z0 (cellPoisons s x) := by
  unfold cellPoisons; try (dsimp only)
  with_reducible repeat' (first | assumption | intro _ | apply Steady.ite | apply withBuf_st | split)

theorem cellLost_st {s : State} {x : Pkt} (hs : Steady q0 z0 s) (c0 : q0 .regs = false := by assumption) (c7 : q0 .links = false := by assumption) (c8 : q0 .fns = false := by assumption) (c10 : q0 .snap = false := by assumption) (c13 : q0 .noc = false := by assumption) (c14 : q0 .buf = false := by assumption) (c19 : q0 .flight = false := by assumption) (c20 : q0 .out = false := by assumption) :
    Steady q0 z0 (cellLost s x) := by
  unfold cellLost; try (dsimp only)
  with_reducible repeat' (first | assumption | intro _ | apply Steady.ite | apply logPktPort_st | apply discardPkt_st | refine count_bg ?_ (by constructor) | split)

theorem firstCell_st {s : State} {x : Pkt} (hs : Steady q0 z0 s) (c0 : q0 .regs = false := by assumption) (c7 : q0 .links = false := by assumption) (c10 : q0 .snap = false := by assumption) (c14 : q0 .buf = false := by assumption) (c20 : q0 .out = false := by assumption) :
    Steady q0 z0 (firstCell s x).1 := by
  unfold firstCell; try (dsimp only)
  with_reducible repeat' (first | assumption | intro _ | apply Steady.ite | apply transmit_st | apply withBuf_st | split)

theorem noteLeaving_st {s : State} {x : Pkt} (hs : Steady q0 z0 s) (c0 : q0 .regs = false := by assumption) (c10 : q0 .snap = false := by assumption) :
    Steady q0 z0 (noteLeaving s x) := by
  unfold noteLeaving; try (dsimp only)
  with_reducible repeat' (first | assumption | intro _ | apply Steady.ite | apply perfHit_st | split)

theorem sendCell_st {s : State} {id : ℕ} (hs : Steady q0 z0 s) (c0 : q0 .regs = false := by assumption) (c7 : q0 .links = false := by assumption) (c8 : q0 .fns = false := by assumption) (c10 : q0 .snap = false := by assumption) (c13 : q0 .noc = false := by assumption) (c14 : q0 .buf = false := by assumption) (c19 : q0 .flight = false := by assumption) (c20 : q0 .out = false := by assumption) :
    Steady q0 z0 (sendCell s id).1 := by
  unfold sendCell; try (dsimp only)
  with_reducible repeat' (first | assumption | intro _ | apply Steady.ite | apply noteLeaving_st | apply firstCell_st | apply discardPkt_st | apply headerCheck_st | apply classCell_st | apply transmitStaged_st | apply dropPkt_st | apply freeCellsOf_st | apply withBuf_st | split)

theorem sendCells_st {s : State} {l : List Pairing} (hs : Steady q0 z0 s) (c0 : q0 .regs = false := by assumption) (c7 : q0 .links = false := by assumption) (c8 : q0 .fns = false := by assumption) (c10 : q0 .snap = false := by assumption) (c13 : q0 .noc = false := by assumption) (c14 : q0 .buf = false := by assumption) (c19 : q0 .flight = false := by assumption) (c20 : q0 .out = false := by assumption) :
    Steady q0 z0 (sendCells s l).1 := by
  unfold sendCells; try (dsimp only)
  with_reducible repeat' (first | assumption | intro _ | apply Steady.ite | apply sendCell_st | apply Steady.foldl | refine foldPair_st _ ?_ (fun _ _ _ => ?_) | split)

theorem execCrossbarCellTime_ok {s : State} (hs : Steady q0 z0 s) (c0 : q0 .regs = false := by first | assumption | rfl) (c2 : q0 .cap = false := by first | assumption | rfl) (c6 : q0 .pair = false := by first | assumption | rfl) (c7 : q0 .links = false := by first | assumption | rfl) (c8 : q0 .fns = false := by first | assumption | rfl) (c10 : q0 .snap = false := by first | assumption | rfl) (c11 : q0 .pool = false := by first | assumption | rfl) (c13 : q0 .noc = false := by first | assumption | rfl) (c14 : q0 .buf = false := by first | assumption | rfl) (c16 : q0 .dp = false := by first | assumption | rfl) (c17 : q0 .hp = false := by first | assumption | rfl) (c18 : q0 .co = false := by first | assumption | rfl) (c19 : q0 .flight = false := by first | assumption | rfl) (c20 : q0 .out = false := by first | assumption | rfl) (c21 : q0 .fresh = false := by first | assumption | rfl) :
    OkOutcome q0 z0 (execCrossbarCellTime s) := by
  unfold execCrossbarCellTime; try (dsimp only)
  with_reducible repeat' (first | intro _ | apply next_ok | apply ite_ok | assumption | intro _ | apply Steady.ite | apply sendCells_st | apply arrive_st | apply matchIter_st | apply settleAll_st | apply pumpUnit_st | apply pumpPort_st | apply withNoc_st | apply perfHit_st | apply onFabric_st | apply forAll_st | split)

end Sys2Proof.Laws
end

