-- ==== Sys2Proof/Laws/SteadySwitch.lean ====
section
/-! SUPPORT. Every operation of Machine/Switch.lean is steady. -/

set_option Elab.async false
set_option linter.unusedTactic false
set_option linter.unreachableTactic false

namespace Sys2Proof.Laws

open Sys2Proof.Machine

variable {q0 : Part → Bool} {z0 : State}

theorem switchColours_st {s : State} {a b : SMap Word} (hs : Steady q0 z0 s) (c11 : q0 .pool = false := by assumption) : Steady q0 z0 (switchColours s a b) := by
  unfold switchColours
  extract_lets new t
  have ht : Steady q0 z0 t := forAll_st hs (fun u n hu => tagDropAll_st hu)
  clear_value t
  refine Steady.ite hs ?_
  apply Steady.upd ht <;> first | exact fun _ => rfl | exact skip

theorem switchBindings_st {s : State} {a b : SMap Word} (hs : Steady q0 z0 s) (c11 : q0 .pool = false := by assumption) (c15 : q0 .dir = false := by assumption) (c20 : q0 .out = false := by assumption) : Steady q0 z0 (switchBindings s a b) := by
  unfold switchBindings
  extract_lets offered asked forced s1 s2
  have h1 : Steady q0 z0 s1 := forAll_st hs (fun t p ht => offerRuns_st ht)
  clear_value s1
  have h2 : Steady q0 z0 s2 := forAll_st h1 (fun t p ht => Steady.ite (raiseRuns_st ht) ht)
  clear_value s2
  refine forAll_st h2 (fun t p ht => forAll_st (dropExtents_st ?_) (fun v g hv => startSweep_st hv))
  exact Steady.ite (raiseRuns_st ht) ht

theorem drainRoute_st {s : State} {a : SMap Word} {o : ℕ} (hs : Steady q0 z0 s) (c0 : q0 .regs = false := by assumption) (c10 : q0 .snap = false := by assumption) (c13 : q0 .noc = false := by assumption) (c19 : q0 .flight = false := by assumption) :
    Steady q0 z0 (drainRoute a s o) := by
  unfold drainRoute; try (dsimp only)
  with_reducible repeat' (first | assumption | intro _ | apply Steady.ite | apply putBy_st | apply withNoc_st | apply forAll_st | split)

theorem switchRoutes_st {s : State} {a : SMap Word} {b : SMap Word} (hs : Steady q0 z0 s) (c0 : q0 .regs = false := by assumption) (c10 : q0 .snap = false := by assumption) (c13 : q0 .noc = false := by assumption) (c19 : q0 .flight = false := by assumption) :
    Steady q0 z0 (switchRoutes s a b) := by
  unfold switchRoutes; try (dsimp only)
  with_reducible repeat' (first | assumption | intro _ | apply Steady.ite | apply drainRoute_st | apply forAll_st | split)

theorem switchRegs_st {s : State} {a : SMap Word} {b : SMap Word} (hs : Steady q0 z0 s) (c13 : q0 .noc = false := by assumption) :
    Steady q0 z0 (switchRegs s a b) := by
  unfold switchRegs; try (dsimp only)
  with_reducible repeat' (first | assumption | intro _ | apply Steady.ite | apply withNoc_st | apply forAll_st | split)

theorem switchMeters_st {s : State} {a : SMap Word} {b : SMap Word} (hs : Steady q0 z0 s) (c14 : q0 .buf = false := by assumption) :
    Steady q0 z0 (switchMeters s a b) := by
  unfold switchMeters; try (dsimp only)
  with_reducible repeat' (first | assumption | intro _ | apply Steady.ite | apply setMeter_st | apply withBuf_st | apply forAll_st | split)

theorem setSlots_st {s : State} {i : ℕ} {v : MigSlot} (hs : Steady q0 z0 s) (c16 : q0 .dp = false := by assumption) :
    Steady q0 z0 (setSlots s i v) := by
  unfold setSlots; try (dsimp only)
  with_reducible repeat' (first | assumption | intro _ | apply Steady.ite | apply setSlot_st | apply forAll_st | split)

theorem switchSlots_st {s : State} {a : SMap Word} {b : SMap Word} (hs : Steady q0 z0 s) (c3 : q0 .banks = false := by assumption) (c16 : q0 .dp = false := by assumption) :
    Steady q0 z0 (switchSlots s a b) := by
  unfold switchSlots; try (dsimp only)
  with_reducible repeat' (first | exact fun _ => rfl | exact skip | assumption | intro _ | apply Steady.ite | apply setSlots_st | apply forAll_st | split | apply Steady.upd)

theorem afterSwitch_st {before after : State} (hbefore : Steady q0 z0 before) (hafter : Steady q0 z0 after) (c0 : q0 .regs = false := by assumption) (c1 : q0 .settings = false := by assumption) (c2 : q0 .cap = false := by assumption) (c3 : q0 .banks = false := by assumption) (c6 : q0 .pair = false := by assumption) (c7 : q0 .links = false := by assumption) (c8 : q0 .fns = false := by assumption) (c9 : q0 .slots = false := by assumption) (c10 : q0 .snap = false := by assumption) (c11 : q0 .pool = false := by assumption) (c13 : q0 .noc = false := by assumption) (c14 : q0 .buf = false := by assumption) (c15 : q0 .dir = false := by assumption) (c16 : q0 .dp = false := by assumption) (c17 : q0 .hp = false := by assumption) (c18 : q0 .co = false := by assumption) (c19 : q0 .flight = false := by assumption) (c20 : q0 .out = false := by assumption) (c21 : q0 .fresh = false := by assumption) :
    Steady q0 z0 (afterSwitch before after) := by
  unfold afterSwitch; try (dsimp only)
  with_reducible repeat' (first | exact fun _ => rfl | exact skip | assumption | intro _ | apply Steady.ite | apply switchSlots_st | apply switchMeters_st | apply switchRegs_st | apply switchRoutes_st | apply switchBindings_st | apply switchColours_st | apply settleAll_st | apply fetchAll_st | apply switchSpares_st | apply settleSpares_st | apply applyForce_st | apply atSlice_st | apply settleSlices_st | apply slotSettle_st | apply settleSummary_st | apply settleNoc_st | apply forAll_st | split | apply Steady.upd)

end Sys2Proof.Laws
end

