-- ==== Sys2Proof/Laws/SteadyTxn.lean ====
section
/-! SUPPORT. Every operation of Machine/Txn.lean is steady. -/

set_option Elab.async false
set_option linter.unusedTactic false
set_option linter.unreachableTactic false

namespace Sys2Proof.Laws

open Sys2Proof.Machine

variable {q0 : Part → Bool} {z0 : State}

theorem execTxnBegin_ok {s : State} {init : FabInit} (hs : Steady q0 z0 s) (c0 : q0 .regs = false := by first | assumption | rfl) (c1 : q0 .settings = false := by first | assumption | rfl) (c5 : q0 .txn = false := by first | assumption | rfl) :
    OkOutcome q0 z0 (execTxnBegin init s) := by
  unfold execTxnBegin; try (dsimp only)
  with_reducible repeat' (first | exact fun _ => rfl | exact skip | intro _ | apply next_ok | apply ite_ok | assumption | intro _ | apply Steady.ite | apply txnCode_st | apply setReg_st | split | apply Steady.upd)

theorem adopt_st {s : State} {h : Handle} (hs : Steady q0 z0 s) (c0 : q0 .regs = false := by assumption) (c1 : q0 .settings = false := by assumption) (c5 : q0 .txn = false := by assumption) :
    Steady q0 z0 (adopt s h) := by
  unfold adopt; try (dsimp only)
  with_reducible repeat' (first | exact fun _ => rfl | exact skip | assumption | intro _ | apply Steady.ite | apply setReg_st | split | apply Steady.upd)

theorem execTxnJoin_ok {s : State} {init : FabInit} (hs : Steady q0 z0 s) (c0 : q0 .regs = false := by first | assumption | rfl) (c1 : q0 .settings = false := by first | assumption | rfl) (c5 : q0 .txn = false := by first | assumption | rfl) :
    OkOutcome q0 z0 (execTxnJoin init s) := by
  unfold execTxnJoin; try (dsimp only)
  with_reducible repeat' (first | exact fun _ => rfl | exact skip | intro _ | apply next_ok | apply ite_ok | assumption | intro _ | apply Steady.ite | apply adopt_st | apply txnCode_st | apply wr_st | split | apply Steady.upd)

theorem execTxnRollback_ok {s : State} {init : FabInit} (hs : Steady q0 z0 s) (c0 : q0 .regs = false := by first | assumption | rfl) (c1 : q0 .settings = false := by first | assumption | rfl) (c3 : q0 .banks = false := by first | assumption | rfl) (c5 : q0 .txn = false := by first | assumption | rfl) (c7 : q0 .links = false := by first | assumption | rfl) (c10 : q0 .snap = false := by first | assumption | rfl) (c20 : q0 .out = false := by first | assumption | rfl) :
    OkOutcome q0 z0 (execTxnRollback init s) := by
  unfold execTxnRollback; try (dsimp only)
  with_reducible repeat' (first | intro _ | apply next_ok | apply ite_ok | assumption | intro _ | apply Steady.ite | apply txnEnd_st | apply txnCode_st | split)

theorem epochSwitch_st {s : State} {b : SMap Word} (hs : Steady q0 z0 s) (c0 : q0 .regs = false := by assumption) (c1 : q0 .settings = false := by assumption) (c2 : q0 .cap = false := by assumption) (c3 : q0 .banks = false := by assumption) (c6 : q0 .pair = false := by assumption) (c7 : q0 .links = false := by assumption) (c8 : q0 .fns = false := by assumption) (c9 : q0 .slots = false := by assumption) (c10 : q0 .snap = false := by assumption) (c11 : q0 .pool = false := by assumption) (c13 : q0 .noc = false := by assumption) (c14 : q0 .buf = false := by assumption) (c15 : q0 .dir = false := by assumption) (c16 : q0 .dp = false := by assumption) (c17 : q0 .hp = false := by assumption) (c18 : q0 .co = false := by assumption) (c19 : q0 .flight = false := by assumption) (c20 : q0 .out = false := by assumption) (c21 : q0 .fresh = false := by assumption) :
    Steady q0 z0 (epochSwitch s b) := by
  unfold epochSwitch; try (dsimp only)
  with_reducible repeat' (first | exact fun _ => rfl | exact skip | assumption | intro _ | apply Steady.ite | apply afterSwitch_st | apply raiseEv_st | apply perfHit_st | apply setReg_st | split | apply Steady.upd)

theorem commitPrepare_st {s : State} (hs : Steady q0 z0 s) (c0 : q0 .regs = false := by assumption) (c5 : q0 .txn = false := by assumption) (c7 : q0 .links = false := by assumption) (c10 : q0 .snap = false := by assumption) (c20 : q0 .out = false := by assumption) :
    Steady q0 z0 (commitPrepare s) := by
  unfold commitPrepare; try (dsimp only)
  with_reducible repeat' (first | exact fun _ => rfl | exact skip | assumption | intro _ | apply Steady.ite | apply pairSend_st | split | apply Steady.upd)

theorem reportFailure_st {s : State} {pid : Bool} {f : Failure} (hs : Steady q0 z0 s) (c0 : q0 .regs = false := by assumption) (c1 : q0 .settings = false := by assumption) :
    Steady q0 z0 (reportFailure s pid f) := by
  unfold reportFailure; try (dsimp only)
  with_reducible repeat' (first | assumption | intro _ | apply Steady.ite | apply setReg_st | split)

theorem commitStart_st {s : State} (hs : Steady q0 z0 s) (c0 : q0 .regs = false := by assumption) (c1 : q0 .settings = false := by assumption) (c3 : q0 .banks = false := by assumption) (c5 : q0 .txn = false := by assumption) (c7 : q0 .links = false := by assumption) (c8 : q0 .fns = false := by assumption) (c10 : q0 .snap = false := by assumption) (c13 : q0 .noc = false := by assumption) (c19 : q0 .flight = false := by assumption) (c20 : q0 .out = false := by assumption) :
    Steady q0 z0 (commitStart s) := by
  unfold commitStart; try (dsimp only)
  with_reducible repeat' (first | assumption | intro _ | apply Steady.ite | apply reportFailure_st | apply commitPrepare_st | apply commitFails_st | split)

theorem execTxnCommit_ok {s : State} {init : FabInit} (hs : Steady q0 z0 s) (c0 : q0 .regs = false := by first | assumption | rfl) (c1 : q0 .settings = false := by first | assumption | rfl) (c3 : q0 .banks = false := by first | assumption | rfl) (c5 : q0 .txn = false := by first | assumption | rfl) (c7 : q0 .links = false := by first | assumption | rfl) (c8 : q0 .fns = false := by first | assumption | rfl) (c10 : q0 .snap = false := by first | assumption | rfl) (c13 : q0 .noc = false := by first | assumption | rfl) (c19 : q0 .flight = false := by first | assumption | rfl) (c20 : q0 .out = false := by first | assumption | rfl) :
    OkOutcome q0 z0 (execTxnCommit init s) := by
  unfold execTxnCommit; try (dsimp only)
  with_reducible repeat' (first | intro _ | apply next_ok | apply ite_ok | assumption | intro _ | apply Steady.ite | apply commitStart_st | apply commitFails_st | apply txnCode_st | apply wr_st | split)

theorem putShadow_st {s : State} {off : ℕ} {v : Word} (hs : Steady q0 z0 s) (c0 : q0 .regs = false := by assumption) (c1 : q0 .settings = false := by assumption) (c3 : q0 .banks = false := by assumption) (c5 : q0 .txn = false := by assumption) :
    Steady q0 z0 (putShadow s off v) := by
  unfold putShadow; try (dsimp only)
  with_reducible repeat' (first | exact fun _ => rfl | exact skip | assumption | intro _ | apply Steady.ite | apply wrBit_st | apply setReg_st | split | apply Steady.upd)

theorem ownerWrite_st {s : State} {off : Offset} {val : Word} (hs : Steady q0 z0 s) (c0 : q0 .regs = false := by assumption) (c1 : q0 .settings = false := by assumption) (c3 : q0 .banks = false := by assumption) (c5 : q0 .txn = false := by assumption) (c7 : q0 .links = false := by assumption) (c10 : q0 .snap = false := by assumption) (c20 : q0 .out = false := by assumption) :
    Steady q0 z0 (ownerWrite s off val) := by
  unfold ownerWrite; try (dsimp only)
  with_reducible repeat' (first | exact fun _ => rfl | exact skip | assumption | intro _ | apply Steady.ite | apply putShadow_st | apply pairSend_st | split | apply Steady.upd)

theorem recordLocked_st {s : State} {init : FabInit} {off : ℕ} (hs : Steady q0 z0 s) (c0 : q0 .regs = false := by assumption) (c1 : q0 .settings = false := by assumption) (c7 : q0 .links = false := by assumption) (c8 : q0 .fns = false := by assumption) (c10 : q0 .snap = false := by assumption) (c13 : q0 .noc = false := by assumption) (c19 : q0 .flight = false := by assumption) (c20 : q0 .out = false := by assumption) :
    Steady q0 z0 (recordLocked s init off) := by
  unfold recordLocked; try (dsimp only)
  with_reducible repeat' (first | assumption | intro _ | apply Steady.ite | apply recordLog_st | split)

theorem structuralEffect_st {s : State} {init : FabInit} {off : Offset} {val : Word} (hs : Steady q0 z0 s) (c0 : q0 .regs = false := by assumption) (c1 : q0 .settings = false := by assumption) (c3 : q0 .banks = false := by assumption) (c5 : q0 .txn = false := by assumption) (c7 : q0 .links = false := by assumption) (c8 : q0 .fns = false := by assumption) (c10 : q0 .snap = false := by assumption) (c13 : q0 .noc = false := by assumption) (c19 : q0 .flight = false := by assumption) (c20 : q0 .out = false := by assumption) :
    Steady q0 z0 (structuralEffect init off val s) := by
  unfold structuralEffect; try (dsimp only)
  with_reducible repeat' (first | assumption | intro _ | apply Steady.ite | apply recordLocked_st | apply ownerWrite_st | apply countStray_st | split)

theorem execStructuralWrite_ok {s : State} {init : FabInit} {off : Offset} {val : Word} (hs : Steady q0 z0 s) (c0 : q0 .regs = false := by first | assumption | rfl) (c1 : q0 .settings = false := by first | assumption | rfl) (c3 : q0 .banks = false := by first | assumption | rfl) (c5 : q0 .txn = false := by first | assumption | rfl) (c7 : q0 .links = false := by first | assumption | rfl) (c8 : q0 .fns = false := by first | assumption | rfl) (c10 : q0 .snap = false := by first | assumption | rfl) (c13 : q0 .noc = false := by first | assumption | rfl) (c19 : q0 .flight = false := by first | assumption | rfl) (c20 : q0 .out = false := by first | assumption | rfl) :
    OkOutcome q0 z0 (execStructuralWrite init off val s) := by
  unfold execStructuralWrite; try (dsimp only)
  with_reducible repeat' (first | intro _ | apply next_ok | apply ite_ok | assumption | intro _ | apply Steady.ite | apply structuralEffect_st | apply recordFabric_st | split)

theorem joinSlot_st {s : State} {i : ℕ} {high : Bool} {v : Word} (hs : Steady q0 z0 s) (c16 : q0 .dp = false := by assumption) :
    Steady q0 z0 (joinSlot s i high v) := by
  unfold joinSlot; try (dsimp only)
  with_reducible repeat' (first | assumption | intro _ | apply Steady.ite | apply setSlots_st | split)

theorem joinLoad_st {s : State} {o : ℕ} {v : Word} (hs : Steady q0 z0 s) (c0 : q0 .regs = false := by assumption) (c1 : q0 .settings = false := by assumption) (c3 : q0 .banks = false := by assumption) (c16 : q0 .dp = false := by assumption) :
    Steady q0 z0 (joinLoad s o v) := by
  unfold joinLoad; try (dsimp only)
  with_reducible repeat' (first | exact fun _ => rfl | exact skip | assumption | intro _ | apply Steady.ite | apply joinSlot_st | apply setReg_st | split | apply Steady.upd)

theorem execShadowWr_ok {s : State} {handle : Handle} {off : Offset} {val : Word} (hs : Steady q0 z0 s) (c0 : q0 .regs = false := by first | assumption | rfl) (c1 : q0 .settings = false := by first | assumption | rfl) (c3 : q0 .banks = false := by first | assumption | rfl) (c5 : q0 .txn = false := by first | assumption | rfl) (c7 : q0 .links = false := by first | assumption | rfl) (c10 : q0 .snap = false := by first | assumption | rfl) (c16 : q0 .dp = false := by first | assumption | rfl) (c20 : q0 .out = false := by first | assumption | rfl) :
    OkOutcome q0 z0 (execShadowWr handle off val s) := by
  unfold execShadowWr; try (dsimp only)
  with_reducible repeat' (first | exact fun _ => rfl | exact skip | intro _ | apply next_ok | apply ite_ok | assumption | intro _ | apply Steady.ite | apply joinLoad_st | apply putShadow_st | apply adopt_st | apply pairSend_st | apply onFabric_st | split | apply Steady.upd)

theorem execShadowAck_ok {s : State} {handle : Handle} {off : Offset} (hs : Steady q0 z0 s) (c0 : q0 .regs = false := by first | assumption | rfl) (c1 : q0 .settings = false := by first | assumption | rfl) (c3 : q0 .banks = false := by first | assumption | rfl) (c5 : q0 .txn = false := by first | assumption | rfl) (c7 : q0 .links = false := by first | assumption | rfl) (c8 : q0 .fns = false := by first | assumption | rfl) (c10 : q0 .snap = false := by first | assumption | rfl) (c13 : q0 .noc = false := by first | assumption | rfl) (c19 : q0 .flight = false := by first | assumption | rfl) (c20 : q0 .out = false := by first | assumption | rfl) :
    OkOutcome q0 z0 (execShadowAck handle off s) := by
  unfold execShadowAck; try (dsimp only)
  with_reducible repeat' (first | exact fun _ => rfl | exact skip | intro _ | apply next_ok | apply ite_ok | assumption | intro _ | apply Steady.ite | apply commitStart_st | apply onFabric_st | split | apply Steady.upd)

theorem execTxnIdleTimeout_ok {s : State} (hs : Steady q0 z0 s) (c0 : q0 .regs = false := by first | assumption | rfl) (c1 : q0 .settings = false := by first | assumption | rfl) (c3 : q0 .banks = false := by first | assumption | rfl) (c5 : q0 .txn = false := by first | assumption | rfl) (c7 : q0 .links = false := by first | assumption | rfl) (c10 : q0 .snap = false := by first | assumption | rfl) (c20 : q0 .out = false := by first | assumption | rfl) :
    OkOutcome q0 z0 (execTxnIdleTimeout s) := by
  unfold execTxnIdleTimeout; try (dsimp only)
  with_reducible repeat' (first | intro _ | apply next_ok | apply ite_ok | assumption | intro _ | apply Steady.ite | apply txnEnd_st | split)

theorem execPrepare_ok {s : State} {handle : Handle} {epoch : BitVec 32} (hs : Steady q0 z0 s) (c0 : q0 .regs = false := by first | assumption | rfl) (c1 : q0 .settings = false := by first | assumption | rfl) (c3 : q0 .banks = false := by first | assumption | rfl) (c5 : q0 .txn = false := by first | assumption | rfl) (c7 : q0 .links = false := by first | assumption | rfl) (c10 : q0 .snap = false := by first | assumption | rfl) (c20 : q0 .out = false := by first | assumption | rfl) :
    OkOutcome q0 z0 (execPrepare handle epoch s) := by
  unfold execPrepare; try (dsimp only)
  with_reducible repeat' (first | exact fun _ => rfl | exact skip | intro _ | apply next_ok | apply ite_ok | assumption | intro _ | apply Steady.ite | apply adopt_st | apply txnClose_st | apply txnCode_st | apply pairSend_st | apply onFabric_st | apply wr_st | split | apply Steady.upd)

theorem fillInactive_st {s : State} (hs : Steady q0 z0 s) (c3 : q0 .banks = false := by assumption) :
    Steady q0 z0 (fillInactive s) := by
  unfold fillInactive; try (dsimp only)
  with_reducible repeat' (first | exact fun _ => rfl | exact skip | assumption | intro _ | apply Steady.ite | split | apply Steady.upd)

theorem commitSwitch_st {s : State} (hs : Steady q0 z0 s) (c0 : q0 .regs = false := by assumption) (c1 : q0 .settings = false := by assumption) (c2 : q0 .cap = false := by assumption) (c3 : q0 .banks = false := by assumption) (c5 : q0 .txn = false := by assumption) (c6 : q0 .pair = false := by assumption) (c7 : q0 .links = false := by assumption) (c8 : q0 .fns = false := by assumption) (c9 : q0 .slots = false := by assumption) (c10 : q0 .snap = false := by assumption) (c11 : q0 .pool = false := by assumption) (c13 : q0 .noc = false := by assumption) (c14 : q0 .buf = false := by assumption) (c15 : q0 .dir = false := by assumption) (c16 : q0 .dp = false := by assumption) (c17 : q0 .hp = false := by assumption) (c18 : q0 .co = false := by assumption) (c19 : q0 .flight = false := by assumption) (c20 : q0 .out = false := by assumption) (c21 : q0 .fresh = false := by assumption) :
    Steady q0 z0 (commitSwitch s) := by
  unfold commitSwitch; try (dsimp only)
  with_reducible repeat' (first | exact fun _ => rfl | exact skip | assumption | intro _ | apply Steady.ite | apply epochSwitch_st | apply txnClose_st | apply txnCode_st | apply pairSend_st | split | apply Steady.upd)

theorem execEpochDrainDone_ok {s : State} (hs : Steady q0 z0 s) (c0 : q0 .regs = false := by first | assumption | rfl) (c1 : q0 .settings = false := by first | assumption | rfl) (c2 : q0 .cap = false := by first | assumption | rfl) (c3 : q0 .banks = false := by first | assumption | rfl) (c5 : q0 .txn = false := by first | assumption | rfl) (c6 : q0 .pair = false := by first | assumption | rfl) (c7 : q0 .links = false := by first | assumption | rfl) (c8 : q0 .fns = false := by first | assumption | rfl) (c9 : q0 .slots = false := by first | assumption | rfl) (c10 : q0 .snap = false := by first | assumption | rfl) (c11 : q0 .pool = false := by first | assumption | rfl) (c13 : q0 .noc = false := by first | assumption | rfl) (c14 : q0 .buf = false := by first | assumption | rfl) (c15 : q0 .dir = false := by first | assumption | rfl) (c16 : q0 .dp = false := by first | assumption | rfl) (c17 : q0 .hp = false := by first | assumption | rfl) (c18 : q0 .co = false := by first | assumption | rfl) (c19 : q0 .flight = false := by first | assumption | rfl) (c20 : q0 .out = false := by first | assumption | rfl) (c21 : q0 .fresh = false := by first | assumption | rfl) :
    OkOutcome q0 z0 (execEpochDrainDone s) := by
  unfold execEpochDrainDone; try (dsimp only)
  with_reducible repeat' (first | exact fun _ => rfl | exact skip | intro _ | apply next_ok | apply ite_ok | assumption | intro _ | apply Steady.ite | apply commitSwitch_st | apply fillInactive_st | apply pairSend_st | apply onFabric_st | split | apply Steady.upd)

theorem execPrepared_ok {s : State} {handle : Handle} (hs : Steady q0 z0 s) (c0 : q0 .regs = false := by first | assumption | rfl) (c1 : q0 .settings = false := by first | assumption | rfl) (c2 : q0 .cap = false := by first | assumption | rfl) (c3 : q0 .banks = false := by first | assumption | rfl) (c5 : q0 .txn = false := by first | assumption | rfl) (c6 : q0 .pair = false := by first | assumption | rfl) (c7 : q0 .links = false := by first | assumption | rfl) (c8 : q0 .fns = false := by first | assumption | rfl) (c9 : q0 .slots = false := by first | assumption | rfl) (c10 : q0 .snap = false := by first | assumption | rfl) (c11 : q0 .pool = false := by first | assumption | rfl) (c13 : q0 .noc = false := by first | assumption | rfl) (c14 : q0 .buf = false := by first | assumption | rfl) (c15 : q0 .dir = false := by first | assumption | rfl) (c16 : q0 .dp = false := by first | assumption | rfl) (c17 : q0 .hp = false := by first | assumption | rfl) (c18 : q0 .co = false := by first | assumption | rfl) (c19 : q0 .flight = false := by first | assumption | rfl) (c20 : q0 .out = false := by first | assumption | rfl) (c21 : q0 .fresh = false := by first | assumption | rfl) :
    OkOutcome q0 z0 (execPrepared handle s) := by
  unfold execPrepared; try (dsimp only)
  with_reducible repeat' (first | exact fun _ => rfl | exact skip | intro _ | apply next_ok | apply ite_ok | assumption | intro _ | apply Steady.ite | apply commitSwitch_st | apply onFabric_st | split | apply Steady.upd)

theorem execRefused_ok {s : State} {handle : Handle} {off : BitVec 32} {item : BitVec 4} {code : BitVec 8} (hs : Steady q0 z0 s) (c0 : q0 .regs = false := by first | assumption | rfl) (c1 : q0 .settings = false := by first | assumption | rfl) (c3 : q0 .banks = false := by first | assumption | rfl) (c5 : q0 .txn = false := by first | assumption | rfl) (c7 : q0 .links = false := by first | assumption | rfl) (c8 : q0 .fns = false := by first | assumption | rfl) (c10 : q0 .snap = false := by first | assumption | rfl) (c13 : q0 .noc = false := by first | assumption | rfl) (c19 : q0 .flight = false := by first | assumption | rfl) (c20 : q0 .out = false := by first | assumption | rfl) :
    OkOutcome q0 z0 (execRefused handle off item code s) := by
  unfold execRefused; try (dsimp only)
  with_reducible repeat' (first | intro _ | apply next_ok | apply ite_ok | assumption | intro _ | apply Steady.ite | apply reportFailure_st | apply countFailed_st | apply txnClose_st | apply txnCode_st | apply onFabric_st | split)

theorem execSwitch_ok {s : State} {handle : Handle} {epoch : BitVec 32} (hs : Steady q0 z0 s) (c0 : q0 .regs = false := by first | assumption | rfl) (c1 : q0 .settings = false := by first | assumption | rfl) (c2 : q0 .cap = false := by first | assumption | rfl) (c3 : q0 .banks = false := by first | assumption | rfl) (c5 : q0 .txn = false := by first | assumption | rfl) (c6 : q0 .pair = false := by first | assumption | rfl) (c7 : q0 .links = false := by first | assumption | rfl) (c8 : q0 .fns = false := by first | assumption | rfl) (c9 : q0 .slots = false := by first | assumption | rfl) (c10 : q0 .snap = false := by first | assumption | rfl) (c11 : q0 .pool = false := by first | assumption | rfl) (c13 : q0 .noc = false := by first | assumption | rfl) (c14 : q0 .buf = false := by first | assumption | rfl) (c15 : q0 .dir = false := by first | assumption | rfl) (c16 : q0 .dp = false := by first | assumption | rfl) (c17 : q0 .hp = false := by first | assumption | rfl) (c18 : q0 .co = false := by first | assumption | rfl) (c19 : q0 .flight = false := by first | assumption | rfl) (c20 : q0 .out = false := by first | assumption | rfl) (c21 : q0 .fresh = false := by first | assumption | rfl) :
    OkOutcome q0 z0 (execSwitch handle epoch s) := by
  unfold execSwitch; try (dsimp only)
  with_reducible repeat' (first | intro _ | apply next_ok | apply ite_ok | assumption | intro _ | apply Steady.ite | apply epochSwitch_st | apply txnClose_st | apply txnCode_st | apply pairSend_st | apply onFabric_st | split)

theorem execSwitched_ok {s : State} {handle : Handle} (hs : Steady q0 z0 s) (c0 : q0 .regs = false := by first | assumption | rfl) (c1 : q0 .settings = false := by first | assumption | rfl) (c3 : q0 .banks = false := by first | assumption | rfl) (c5 : q0 .txn = false := by first | assumption | rfl) :
    OkOutcome q0 z0 (execSwitched handle s) := by
  unfold execSwitched; try (dsimp only)
  with_reducible repeat' (first | intro _ | apply next_ok | apply ite_ok | assumption | intro _ | apply Steady.ite | apply txnClose_st | apply txnCode_st | apply onFabric_st | split)

theorem execSwitchedTimeout_ok {s : State} (hs : Steady q0 z0 s) (c0 : q0 .regs = false := by first | assumption | rfl) (c1 : q0 .settings = false := by first | assumption | rfl) (c3 : q0 .banks = false := by first | assumption | rfl) (c5 : q0 .txn = false := by first | assumption | rfl) (c7 : q0 .links = false := by first | assumption | rfl) (c8 : q0 .fns = false := by first | assumption | rfl) (c10 : q0 .snap = false := by first | assumption | rfl) (c13 : q0 .noc = false := by first | assumption | rfl) (c19 : q0 .flight = false := by first | assumption | rfl) (c20 : q0 .out = false := by first | assumption | rfl) :
    OkOutcome q0 z0 (execSwitchedTimeout s) := by
  unfold execSwitchedTimeout; try (dsimp only)
  with_reducible repeat' (first | intro _ | apply next_ok | apply ite_ok | assumption | intro _ | apply Steady.ite | apply countFailed_st | apply txnClose_st | apply txnCode_st | apply raiseEv_st | split)

theorem execAbort_ok {s : State} {handle : Handle} (hs : Steady q0 z0 s) (c0 : q0 .regs = false := by first | assumption | rfl) (c1 : q0 .settings = false := by first | assumption | rfl) (c3 : q0 .banks = false := by first | assumption | rfl) (c5 : q0 .txn = false := by first | assumption | rfl) :
    OkOutcome q0 z0 (execAbort handle s) := by
  unfold execAbort; try (dsimp only)
  with_reducible repeat' (first | intro _ | apply next_ok | apply ite_ok | assumption | intro _ | apply Steady.ite | apply txnClose_st | apply txnCode_st | apply onFabric_st | split)

theorem txnKeeperRestart_st {s : State} (hs : Steady q0 z0 s) (c0 : q0 .regs = false := by assumption) (c1 : q0 .settings = false := by assumption) (c3 : q0 .banks = false := by assumption) (c5 : q0 .txn = false := by assumption) (c7 : q0 .links = false := by assumption) (c8 : q0 .fns = false := by assumption) (c10 : q0 .snap = false := by assumption) (c13 : q0 .noc = false := by assumption) (c19 : q0 .flight = false := by assumption) (c20 : q0 .out = false := by assumption) :
    Steady q0 z0 (txnKeeperRestart s) := by
  unfold txnKeeperRestart; try (dsimp only)
  with_reducible repeat' (first | assumption | intro _ | apply Steady.ite | apply commitFails_st | apply txnEnd_st | split)

theorem txnTakeover_st {s : State} (hs : Steady q0 z0 s) (c0 : q0 .regs = false := by assumption) (c1 : q0 .settings = false := by assumption) (c2 : q0 .cap = false := by assumption) (c3 : q0 .banks = false := by assumption) (c5 : q0 .txn = false := by assumption) (c6 : q0 .pair = false := by assumption) (c7 : q0 .links = false := by assumption) (c8 : q0 .fns = false := by assumption) (c9 : q0 .slots = false := by assumption) (c10 : q0 .snap = false := by assumption) (c11 : q0 .pool = false := by assumption) (c13 : q0 .noc = false := by assumption) (c14 : q0 .buf = false := by assumption) (c15 : q0 .dir = false := by assumption) (c16 : q0 .dp = false := by assumption) (c17 : q0 .hp = false := by assumption) (c18 : q0 .co = false := by assumption) (c19 : q0 .flight = false := by assumption) (c20 : q0 .out = false := by assumption) (c21 : q0 .fresh = false := by assumption) :
    Steady q0 z0 (txnTakeover s) := by
  unfold txnTakeover; try (dsimp only)
  with_reducible repeat' (first | exact fun _ => rfl | exact skip | assumption | intro _ | apply Steady.ite | apply commitSwitch_st | apply commitStart_st | apply countFailed_st | apply txnClose_st | apply txnCode_st | apply raiseEv_st | split | apply Steady.upd)

theorem txnStandDown_st {s : State} (hs : Steady q0 z0 s) (c0 : q0 .regs = false := by assumption) (c1 : q0 .settings = false := by assumption) (c3 : q0 .banks = false := by assumption) (c5 : q0 .txn = false := by assumption) :
    Steady q0 z0 (txnStandDown s) := by
  unfold txnStandDown; try (dsimp only)
  with_reducible repeat' (first | assumption | intro _ | apply Steady.ite | apply txnClose_st | apply txnCode_st | split)

theorem execTxnPersist_ok {s : State} {init : FabInit} (hs : Steady q0 z0 s) (c0 : q0 .regs = false := by first | assumption | rfl) (c1 : q0 .settings = false := by first | assumption | rfl) (c5 : q0 .txn = false := by first | assumption | rfl) (c7 : q0 .links = false := by first | assumption | rfl) (c8 : q0 .fns = false := by first | assumption | rfl) (c10 : q0 .snap = false := by first | assumption | rfl) (c12 : q0 .store = false := by first | assumption | rfl) (c13 : q0 .noc = false := by first | assumption | rfl) (c19 : q0 .flight = false := by first | assumption | rfl) (c20 : q0 .out = false := by first | assumption | rfl) :
    OkOutcome q0 z0 (execTxnPersist init s) := by
  unfold execTxnPersist; try (dsimp only)
  with_reducible repeat' (first | exact fun _ => rfl | exact skip | intro _ | apply next_ok | apply ite_ok | assumption | intro _ | apply Steady.ite | apply nvDeferred_st | apply countFailed_st | apply txnCode_st | apply storeErasePage_st | apply wrBit_st | apply wr_st | split | apply Steady.upd)

theorem garbleBody_st {s : State} {base : ℕ} {n : ℕ} (hs : Steady q0 z0 s) (c12 : q0 .store = false := by assumption) (c21 : q0 .fresh = false := by assumption) :
    Steady q0 z0 (garbleBody s base n) := by
  unfold garbleBody; try (dsimp only)
  with_reducible repeat' (first | assumption | intro _ | apply Steady.ite | apply storeGarble_st | split)

theorem execPersistDone_ok {s : State} {e : StoreEnd} (hs : Steady q0 z0 s) (c0 : q0 .regs = false := by first | assumption | rfl) (c1 : q0 .settings = false := by first | assumption | rfl) (c5 : q0 .txn = false := by first | assumption | rfl) (c7 : q0 .links = false := by first | assumption | rfl) (c8 : q0 .fns = false := by first | assumption | rfl) (c10 : q0 .snap = false := by first | assumption | rfl) (c12 : q0 .store = false := by first | assumption | rfl) (c13 : q0 .noc = false := by first | assumption | rfl) (c19 : q0 .flight = false := by first | assumption | rfl) (c20 : q0 .out = false := by first | assumption | rfl) (c21 : q0 .fresh = false := by first | assumption | rfl) :
    OkOutcome q0 z0 (execPersistDone e s) := by
  unfold execPersistDone; try (dsimp only)
  with_reducible repeat' (first | exact fun _ => rfl | exact skip | intro _ | apply next_ok | apply ite_ok | assumption | intro _ | apply Steady.ite | apply garbleBody_st | apply nvDeferred_st | apply countFailed_st | apply txnCode_st | apply storeWrite_st | apply wrBit_st | apply wr_st | split | apply Steady.upd)

theorem execImgLoad_ok {s : State} {slot : Bool} {page : BitVec 10} (hs : Steady q0 z0 s) (c0 : q0 .regs = false := by first | assumption | rfl) (c1 : q0 .settings = false := by first | assumption | rfl) (c5 : q0 .txn = false := by first | assumption | rfl) (c7 : q0 .links = false := by first | assumption | rfl) (c8 : q0 .fns = false := by first | assumption | rfl) (c10 : q0 .snap = false := by first | assumption | rfl) (c12 : q0 .store = false := by first | assumption | rfl) (c13 : q0 .noc = false := by first | assumption | rfl) (c19 : q0 .flight = false := by first | assumption | rfl) (c20 : q0 .out = false := by first | assumption | rfl) :
    OkOutcome q0 z0 (execImgLoad slot page s) := by
  unfold execImgLoad; try (dsimp only)
  with_reducible repeat' (first | exact fun _ => rfl | exact skip | intro _ | apply next_ok | apply ite_ok | assumption | intro _ | apply Steady.ite | apply nvDeferred_st | apply storeErasePage_st | apply wrBit_st | apply wr_st | split | apply Steady.upd)

theorem execImgLoadDone_ok {s : State} {e : StoreEnd} (hs : Steady q0 z0 s) (c0 : q0 .regs = false := by first | assumption | rfl) (c1 : q0 .settings = false := by first | assumption | rfl) (c5 : q0 .txn = false := by first | assumption | rfl) (c7 : q0 .links = false := by first | assumption | rfl) (c8 : q0 .fns = false := by first | assumption | rfl) (c10 : q0 .snap = false := by first | assumption | rfl) (c12 : q0 .store = false := by first | assumption | rfl) (c13 : q0 .noc = false := by first | assumption | rfl) (c19 : q0 .flight = false := by first | assumption | rfl) (c20 : q0 .out = false := by first | assumption | rfl) (c21 : q0 .fresh = false := by first | assumption | rfl) :
    OkOutcome q0 z0 (execImgLoadDone e s) := by
  unfold execImgLoadDone; try (dsimp only)
  with_reducible repeat' (first | exact fun _ => rfl | exact skip | intro _ | apply next_ok | apply ite_ok | assumption | intro _ | apply Steady.ite | apply nvDeferred_st | apply storeGarble_st | apply storeErasePage_st | apply storeWrite_st | apply wrBit_st | apply wr_st | split | apply Steady.upd)

end Sys2Proof.Laws
end

