-- ==== Sys2Proof/Laws/SteadyChip.lean ====
section
/-! SUPPORT. Every operation of Machine/Chip.lean is steady. -/

set_option Elab.async false
set_option linter.unusedTactic false
set_option linter.unreachableTactic false

namespace Sys2Proof.Laws

open Sys2Proof.Machine

variable {q0 : Part → Bool} {z0 : State}

theorem adoptLevels_st {s : State} {l : ℕ} (hs : Steady q0 z0 s) (c4 : q0 .dev = false := by assumption) :
    Steady q0 z0 (adoptLevels s l) := by
  unfold adoptLevels; try (dsimp only)
  with_reducible repeat' (first | exact fun _ => rfl | exact skip | assumption | intro _ | apply Steady.ite | apply Steady.foldl | refine foldPair_st _ ?_ (fun _ _ _ => ?_) | split | apply Steady.upd)

theorem loadStored_st {s : State} (hs : Steady q0 z0 s) (c0 : q0 .regs = false := by assumption) (c1 : q0 .settings = false := by assumption) :
    Steady q0 z0 (loadStored s) := by
  unfold loadStored; try (dsimp only)
  with_reducible repeat' (first | assumption | intro _ | apply Steady.ite | apply wr_st | split)

theorem storeCause_st {s : State} {c : Word} (hs : Steady q0 z0 s) (c0 : q0 .regs = false := by assumption) (c1 : q0 .settings = false := by assumption) (c4 : q0 .dev = false := by assumption) (c7 : q0 .links = false := by assumption) (c8 : q0 .fns = false := by assumption) (c10 : q0 .snap = false := by assumption) (c12 : q0 .store = false := by assumption) (c13 : q0 .noc = false := by assumption) (c19 : q0 .flight = false := by assumption) (c20 : q0 .out = false := by assumption) :
    Steady q0 z0 (storeCause s c) := by
  unfold storeCause; try (dsimp only)
  with_reducible repeat' (first | exact fun _ => rfl | exact skip | assumption | intro _ | apply Steady.ite | apply nvDeferred_st | apply storeWrite_st | split | apply Steady.upd)

theorem recordCause_st {s : State} {src : ℕ} {lvl : ℕ} {unit : ℕ} (hs : Steady q0 z0 s) (c0 : q0 .regs = false := by assumption) (c1 : q0 .settings = false := by assumption) (c4 : q0 .dev = false := by assumption) (c7 : q0 .links = false := by assumption) (c8 : q0 .fns = false := by assumption) (c10 : q0 .snap = false := by assumption) (c12 : q0 .store = false := by assumption) (c13 : q0 .noc = false := by assumption) (c19 : q0 .flight = false := by assumption) (c20 : q0 .out = false := by assumption) :
    Steady q0 z0 (recordCause s src lvl unit) := by
  unfold recordCause; try (dsimp only)
  with_reducible repeat' (first | exact fun _ => rfl | exact skip | assumption | intro _ | apply Steady.ite | apply storeCause_st | apply setReg_st | split | apply Steady.upd)

theorem interruptTxn_st {s : State} (hs : Steady q0 z0 s) (c12 : q0 .store = false := by assumption) (c21 : q0 .fresh = false := by assumption) :
    Steady q0 z0 (interruptTxn s) := by
  unfold interruptTxn; try (dsimp only)
  with_reducible repeat' (first | assumption | intro _ | apply Steady.ite | apply garbleBody_st | apply storeGarble_st | apply storeErasePage_st | split)

theorem interruptStore_st {s : State} (hs : Steady q0 z0 s) (c12 : q0 .store = false := by assumption) (c21 : q0 .fresh = false := by assumption) :
    Steady q0 z0 (interruptStore s) := by
  unfold interruptStore; try (dsimp only)
  with_reducible repeat' (first | assumption | intro _ | apply Steady.ite | apply interruptTxn_st | apply storeGarble_st | split)

theorem clearChip_st {s : State} {stop : Bool} (hs : Steady q0 z0 s) (c0 : q0 .regs = false := by assumption) (c1 : q0 .settings = false := by assumption) (c2 : q0 .cap = false := by assumption) (c3 : q0 .banks = false := by assumption) (c4 : q0 .dev = false := by assumption) (c5 : q0 .txn = false := by assumption) (c6 : q0 .pair = false := by assumption) (c7 : q0 .links = false := by assumption) (c8 : q0 .fns = false := by assumption) (c10 : q0 .snap = false := by assumption) (c11 : q0 .pool = false := by assumption) (c13 : q0 .noc = false := by assumption) (c14 : q0 .buf = false := by assumption) (c15 : q0 .dir = false := by assumption) (c16 : q0 .dp = false := by assumption) (c17 : q0 .hp = false := by assumption) (c18 : q0 .co = false := by assumption) (c19 : q0 .flight = false := by assumption) : Steady q0 z0 (clearChip s stop) :=
  { pending := hs.pending, grows := hs.grows, fresher := hs.fresher
    regsWf := fun k => sWf_filterMap s.regs resetWord keptWord keptWord_ne (hs.regsWf k), storeWf := hs.storeWf
    regs := skip, settings := skip, cap := skip, banks := skip, dev := skip, txn := skip, pair := skip, links := skip, fns := skip
    slots := hs.slots, snap := skip, pool := skip, store := hs.store, noc := skip, buf := skip, dir := skip, dp := skip
    hp := skip, co := skip, flight := skip, out := hs.out, fresh := hs.fresh }

theorem chipReset_st {s : State} {src : ℕ} {unit : ℕ} (hs : Steady q0 z0 s) (c0 : q0 .regs = false := by assumption) (c1 : q0 .settings = false := by assumption) (c2 : q0 .cap = false := by assumption) (c3 : q0 .banks = false := by assumption) (c4 : q0 .dev = false := by assumption) (c5 : q0 .txn = false := by assumption) (c6 : q0 .pair = false := by assumption) (c7 : q0 .links = false := by assumption) (c8 : q0 .fns = false := by assumption) (c10 : q0 .snap = false := by assumption) (c11 : q0 .pool = false := by assumption) (c12 : q0 .store = false := by assumption) (c13 : q0 .noc = false := by assumption) (c14 : q0 .buf = false := by assumption) (c15 : q0 .dir = false := by assumption) (c16 : q0 .dp = false := by assumption) (c17 : q0 .hp = false := by assumption) (c18 : q0 .co = false := by assumption) (c19 : q0 .flight = false := by assumption) (c20 : q0 .out = false := by assumption) (c21 : q0 .fresh = false := by assumption) :
    Steady q0 z0 (chipReset s src unit) := by
  unfold chipReset; try (dsimp only)
  with_reducible repeat' (first | assumption | intro _ | apply Steady.ite | apply clearChip_st | apply interruptTxn_st | apply recordCause_st | apply wrBit_st | apply setReg_st | split)

theorem packageReset_st {s : State} {src unit : Nat} (hs : Steady q0 z0 s) (c0 : q0 .regs = false := by assumption) (c1 : q0 .settings = false := by assumption) (c2 : q0 .cap = false := by assumption) (c3 : q0 .banks = false := by assumption) (c4 : q0 .dev = false := by assumption) (c5 : q0 .txn = false := by assumption) (c6 : q0 .pair = false := by assumption) (c7 : q0 .links = false := by assumption) (c8 : q0 .fns = false := by assumption) (c9 : q0 .slots = false := by assumption) (c10 : q0 .snap = false := by assumption) (c11 : q0 .pool = false := by assumption) (c12 : q0 .store = false := by assumption) (c13 : q0 .noc = false := by assumption) (c14 : q0 .buf = false := by assumption) (c15 : q0 .dir = false := by assumption) (c16 : q0 .dp = false := by assumption) (c17 : q0 .hp = false := by assumption) (c18 : q0 .co = false := by assumption) (c19 : q0 .flight = false := by assumption) (c20 : q0 .out = false := by assumption) (c21 : q0 .fresh = false := by assumption) : Steady q0 z0 (packageReset s src unit) := by
  unfold packageReset
  refine Steady.ite hs (recordCause_st (loadStored_st (setReg_st (setReg_st ?_))))
  have ha := interruptStore_st hs
  exact { pending := hs.pending, grows := hs.grows, fresher := ha.fresher, regsWf := fun _ => rfl, storeWf := ha.storeWf
          regs := skip, settings := skip, cap := skip, banks := skip, dev := skip, txn := skip, pair := skip, links := skip, fns := skip
          slots := skip, snap := skip, pool := skip, store := skip, noc := skip, buf := skip, dir := skip, dp := skip
          hp := skip, co := skip, flight := skip, out := hs.out, fresh := skip }

theorem raiseSource_st {s : State} {src : ℕ} {unit : ℕ} (hs : Steady q0 z0 s) (c0 : q0 .regs = false := by assumption) (c1 : q0 .settings = false := by assumption) (c2 : q0 .cap = false := by assumption) (c3 : q0 .banks = false := by assumption) (c4 : q0 .dev = false := by assumption) (c5 : q0 .txn = false := by assumption) (c6 : q0 .pair = false := by assumption) (c7 : q0 .links = false := by assumption) (c8 : q0 .fns = false := by assumption) (c9 : q0 .slots = false := by assumption) (c10 : q0 .snap = false := by assumption) (c11 : q0 .pool = false := by assumption) (c12 : q0 .store = false := by assumption) (c13 : q0 .noc = false := by assumption) (c14 : q0 .buf = false := by assumption) (c15 : q0 .dir = false := by assumption) (c16 : q0 .dp = false := by assumption) (c17 : q0 .hp = false := by assumption) (c18 : q0 .co = false := by assumption) (c19 : q0 .flight = false := by assumption) (c20 : q0 .out = false := by assumption) (c21 : q0 .fresh = false := by assumption) :
    Steady q0 z0 (raiseSource s src unit) := by
  unfold raiseSource; try (dsimp only)
  with_reducible repeat' (first | assumption | intro _ | apply Steady.ite | apply packageReset_st | apply chipReset_st | split)

theorem deferredReset_st {s : State} (hs : Steady q0 z0 s) (c0 : q0 .regs = false := by assumption) (c1 : q0 .settings = false := by assumption) (c2 : q0 .cap = false := by assumption) (c3 : q0 .banks = false := by assumption) (c4 : q0 .dev = false := by assumption) (c5 : q0 .txn = false := by assumption) (c6 : q0 .pair = false := by assumption) (c7 : q0 .links = false := by assumption) (c8 : q0 .fns = false := by assumption) (c9 : q0 .slots = false := by assumption) (c10 : q0 .snap = false := by assumption) (c11 : q0 .pool = false := by assumption) (c12 : q0 .store = false := by assumption) (c13 : q0 .noc = false := by assumption) (c14 : q0 .buf = false := by assumption) (c15 : q0 .dir = false := by assumption) (c16 : q0 .dp = false := by assumption) (c17 : q0 .hp = false := by assumption) (c18 : q0 .co = false := by assumption) (c19 : q0 .flight = false := by assumption) (c20 : q0 .out = false := by assumption) (c21 : q0 .fresh = false := by assumption) :
    Steady q0 z0 (deferredReset s) := by
  unfold deferredReset; try (dsimp only)
  with_reducible repeat' (first | assumption | intro _ | apply Steady.ite | apply raiseSource_st | split)

end Sys2Proof.Laws
end

