-- ==== Sys2Proof/Laws/SteadyPair.lean ====
section
/-! SUPPORT. Every operation of Machine/Pair.lean is steady. -/

set_option Elab.async false
set_option linter.unusedTactic false
set_option linter.unreachableTactic false

namespace Sys2Proof.Laws

open Sys2Proof.Machine

variable {q0 : Part → Bool} {z0 : State}

theorem withPair_st {s : State} {p : Pair} (hs : Steady q0 z0 s) (c6 : q0 .pair = false := by assumption) :
    Steady q0 z0 (withPair s p) := by
  unfold withPair; try (dsimp only)
  with_reducible repeat' (first | exact fun _ => rfl | exact skip | assumption | intro _ | apply Steady.ite | split | apply Steady.upd)

theorem resetBanks_st {s : State} {x : ℕ} {bs : List ℕ} (hs : Steady q0 z0 s) (c15 : q0 .dir = false := by assumption) :
    Steady q0 z0 (resetBanks s x bs) := by
  unfold resetBanks; try (dsimp only)
  with_reducible repeat' (first | assumption | intro _ | apply Steady.ite | apply withDir_st | split)

theorem hold_st {s : State} {u : RUnit} (hs : Steady q0 z0 s) (c4 : q0 .dev = false := by assumption) :
    Steady q0 z0 (hold s u) := by
  unfold hold; try (dsimp only)
  with_reducible repeat' (first | exact fun _ => rfl | exact skip | assumption | intro _ | apply Steady.ite | split | apply Steady.upd)

theorem clearSlice_st {s : State} {x : ℕ} (hs : Steady q0 z0 s) (c0 : q0 .regs = false := by assumption) (c1 : q0 .settings = false := by assumption) (c2 : q0 .cap = false := by assumption) (c15 : q0 .dir = false := by assumption) :
    Steady q0 z0 (clearSlice s x) := by
  unfold clearSlice; try (dsimp only)
  with_reducible repeat' (first | assumption | intro _ | apply Steady.ite | apply withDir_st | apply clearRange_st | apply wrBit_st | split)

theorem resetSlice_st {s : State} {x : Fin 32} (hs : Steady q0 z0 s) (c0 : q0 .regs = false := by assumption) (c1 : q0 .settings = false := by assumption) (c2 : q0 .cap = false := by assumption) (c4 : q0 .dev = false := by assumption) (c15 : q0 .dir = false := by assumption) :
    Steady q0 z0 (resetSlice s x) := by
  unfold resetSlice; try (dsimp only)
  with_reducible repeat' (first | assumption | intro _ | apply Steady.ite | apply clearSlice_st | apply hold_st | apply resetBanks_st | split)

theorem resetBank_st {s : State} {x : Fin 32} {b : ℕ} (hs : Steady q0 z0 s) (c4 : q0 .dev = false := by assumption) (c15 : q0 .dir = false := by assumption) :
    Steady q0 z0 (resetBank s x b) := by
  unfold resetBank; try (dsimp only)
  with_reducible repeat' (first | assumption | intro _ | apply Steady.ite | apply hold_st | apply resetBanks_st | split)

theorem execSliceResetDone_ok {s : State} {slice : Fin 32} {pass : Bool} (hs : Steady q0 z0 s) (c0 : q0 .regs = false := by first | assumption | rfl) (c1 : q0 .settings = false := by first | assumption | rfl) (c2 : q0 .cap = false := by first | assumption | rfl) (c4 : q0 .dev = false := by first | assumption | rfl) (c6 : q0 .pair = false := by first | assumption | rfl) (c7 : q0 .links = false := by first | assumption | rfl) (c8 : q0 .fns = false := by first | assumption | rfl) (c10 : q0 .snap = false := by first | assumption | rfl) (c13 : q0 .noc = false := by first | assumption | rfl) (c14 : q0 .buf = false := by first | assumption | rfl) (c15 : q0 .dir = false := by first | assumption | rfl) (c16 : q0 .dp = false := by first | assumption | rfl) (c17 : q0 .hp = false := by first | assumption | rfl) (c18 : q0 .co = false := by first | assumption | rfl) (c19 : q0 .flight = false := by first | assumption | rfl) (c20 : q0 .out = false := by first | assumption | rfl) (c21 : q0 .fresh = false := by first | assumption | rfl) :
    OkOutcome q0 z0 (execSliceResetDone slice pass s) := by
  unfold execSliceResetDone; try (dsimp only)
  with_reducible repeat' (first | exact fun _ => rfl | exact skip | intro _ | apply next_ok | apply ite_ok | assumption | intro _ | apply Steady.ite | apply withPair_st | apply takeBack_st | apply settleUnits_st | apply withDir_st | apply raiseEv_st | apply onFabric_st | apply wrBit_st | split | apply Steady.upd)

theorem execDirectorySliceRepair_ok {s : State} {slice : Fin 32} (hs : Steady q0 z0 s) (c0 : q0 .regs = false := by first | assumption | rfl) (c1 : q0 .settings = false := by first | assumption | rfl) (c2 : q0 .cap = false := by first | assumption | rfl) (c4 : q0 .dev = false := by first | assumption | rfl) (c6 : q0 .pair = false := by first | assumption | rfl) (c7 : q0 .links = false := by first | assumption | rfl) (c8 : q0 .fns = false := by first | assumption | rfl) (c10 : q0 .snap = false := by first | assumption | rfl) (c11 : q0 .pool = false := by first | assumption | rfl) (c13 : q0 .noc = false := by first | assumption | rfl) (c14 : q0 .buf = false := by first | assumption | rfl) (c15 : q0 .dir = false := by first | assumption | rfl) (c16 : q0 .dp = false := by first | assumption | rfl) (c17 : q0 .hp = false := by first | assumption | rfl) (c18 : q0 .co = false := by first | assumption | rfl) (c19 : q0 .flight = false := by first | assumption | rfl) (c20 : q0 .out = false := by first | assumption | rfl) (c21 : q0 .fresh = false := by first | assumption | rfl) :
    OkOutcome q0 z0 (execDirectorySliceRepair slice s) := by
  unfold execDirectorySliceRepair; try (dsimp only)
  with_reducible repeat' (first | intro _ | apply next_ok | apply ite_ok | assumption | intro _ | apply Steady.ite | apply startHandOver_st | apply settleUnits_st | apply onFabric_st | split)

theorem mapRow_st {s : State} {x set : Nat} {z1} (e : mapRow s x set = some z1) (hs : Steady q0 z0 s) (c0 : q0 .regs = false := by assumption) (c1 : q0 .settings = false := by assumption) : Steady q0 z0 z1 := by
  obtain ⟨i, _, rfl⟩ := Option.map_eq_some_iff.1 e
  exact wr_st (wrBit_st hs)

theorem mapRowsFrom_st {z1 : State} {x : Nat} (l : List Nat) (o : Option State) (c : q0 .regs = false)
    (d : q0 .settings = false) (e : l.foldl (fun acc k => acc.bind (fun t => mapRow t x k)) o = some z1) (ho : ∀ t, o = some t → Steady q0 z0 t) :
    Steady q0 z0 z1 := by
  induction l generalizing o with
  | nil => exact ho z1 e
  | cons k l ih =>
    refine ih _ e (fun t ht => ?_)
    obtain ⟨u, hu, hm⟩ := Option.bind_eq_some_iff.1 ht
    exact mapRow_st hm (ho u hu)

theorem mapRows_st {s : State} {x : Nat} {l : List Nat} {z1} (e : mapRows s x l = some z1) (hs : Steady q0 z0 s) (c0 : q0 .regs = false := by assumption) (c1 : q0 .settings = false := by assumption) :
    Steady q0 z0 z1 := mapRowsFrom_st l _ (by assumption) (by assumption) e (fun t ht => by cases ht; exact hs)

theorem takeOverSlice_st {s : State} {x : ℕ} (hs : Steady q0 z0 s) (c0 : q0 .regs = false := by assumption) (c1 : q0 .settings = false := by assumption) (c6 : q0 .pair = false := by assumption) (c7 : q0 .links = false := by assumption) (c8 : q0 .fns = false := by assumption) (c10 : q0 .snap = false := by assumption) (c13 : q0 .noc = false := by assumption) (c15 : q0 .dir = false := by assumption) (c19 : q0 .flight = false := by assumption) (c20 : q0 .out = false := by assumption) :
    Steady q0 z0 (takeOverSlice s x) := by
  unfold takeOverSlice; try (dsimp only)
  with_reducible repeat' (first | assumption | intro _ | apply Steady.ite | apply ackAll_st | apply markShadows_st | apply pairSend_st | apply wrBit_st | split)

theorem execHoming_ok {s : State} {slice : Fin 32} {handOver : Bool} (hs : Steady q0 z0 s) (c0 : q0 .regs = false := by first | assumption | rfl) (c1 : q0 .settings = false := by first | assumption | rfl) (c2 : q0 .cap = false := by first | assumption | rfl) (c6 : q0 .pair = false := by first | assumption | rfl) (c7 : q0 .links = false := by first | assumption | rfl) (c8 : q0 .fns = false := by first | assumption | rfl) (c10 : q0 .snap = false := by first | assumption | rfl) (c13 : q0 .noc = false := by first | assumption | rfl) (c14 : q0 .buf = false := by first | assumption | rfl) (c15 : q0 .dir = false := by first | assumption | rfl) (c16 : q0 .dp = false := by first | assumption | rfl) (c17 : q0 .hp = false := by first | assumption | rfl) (c18 : q0 .co = false := by first | assumption | rfl) (c19 : q0 .flight = false := by first | assumption | rfl) (c20 : q0 .out = false := by first | assumption | rfl) (c21 : q0 .fresh = false := by first | assumption | rfl) :
    OkOutcome q0 z0 (execHoming slice handOver s) := by
  unfold execHoming; try (dsimp only)
  with_reducible repeat' (first | intro _ | apply next_ok | apply ite_ok | assumption | intro _ | apply Steady.ite | apply takeOverSlice_st | apply settleUnits_st | apply startReturn_st | apply onFabric_st | split)

theorem handedOver_st {s : State} {x : Fin 32} (hs : Steady q0 z0 s) (c0 : q0 .regs = false := by assumption) (c1 : q0 .settings = false := by assumption) (c2 : q0 .cap = false := by assumption) (c4 : q0 .dev = false := by assumption) (c6 : q0 .pair = false := by assumption) (c7 : q0 .links = false := by assumption) (c8 : q0 .fns = false := by assumption) (c10 : q0 .snap = false := by assumption) (c11 : q0 .pool = false := by assumption) (c13 : q0 .noc = false := by assumption) (c14 : q0 .buf = false := by assumption) (c15 : q0 .dir = false := by assumption) (c16 : q0 .dp = false := by assumption) (c18 : q0 .co = false := by assumption) (c19 : q0 .flight = false := by assumption) (c20 : q0 .out = false := by assumption) (c21 : q0 .fresh = false := by assumption) :
    Steady q0 z0 (handedOver s x) := by
  unfold handedOver; try (dsimp only)
  with_reducible repeat' (first | assumption | intro _ | apply Steady.ite | refine mapRows_st (by assumption) ?_ | apply resetSlice_st | apply withPair_st | apply addFence_st | apply ackAll_st | apply redirectAll_st | apply raiseEv_st | apply wrBit_st | split)

theorem takenBack_st {s : State} {x : ℕ} (hs : Steady q0 z0 s) (c0 : q0 .regs = false := by assumption) (c1 : q0 .settings = false := by assumption) (c6 : q0 .pair = false := by assumption) (c7 : q0 .links = false := by assumption) (c8 : q0 .fns = false := by assumption) (c10 : q0 .snap = false := by assumption) (c13 : q0 .noc = false := by assumption) (c15 : q0 .dir = false := by assumption) (c19 : q0 .flight = false := by assumption) (c20 : q0 .out = false := by assumption) :
    Steady q0 z0 (takenBack s x) := by
  unfold takenBack; try (dsimp only)
  with_reducible repeat' (first | assumption | intro _ | apply Steady.ite | apply withPair_st | apply sendSync_st | apply markShadows_st | apply setJrn_st | apply withDir_st | apply wrBit_st | split)

theorem execHomingDone_ok {s : State} {slice : Fin 32} {handOver : Bool} (hs : Steady q0 z0 s) (c0 : q0 .regs = false := by first | assumption | rfl) (c1 : q0 .settings = false := by first | assumption | rfl) (c2 : q0 .cap = false := by first | assumption | rfl) (c3 : q0 .banks = false := by first | assumption | rfl) (c4 : q0 .dev = false := by first | assumption | rfl) (c5 : q0 .txn = false := by first | assumption | rfl) (c6 : q0 .pair = false := by first | assumption | rfl) (c7 : q0 .links = false := by first | assumption | rfl) (c8 : q0 .fns = false := by first | assumption | rfl) (c9 : q0 .slots = false := by first | assumption | rfl) (c10 : q0 .snap = false := by first | assumption | rfl) (c11 : q0 .pool = false := by first | assumption | rfl) (c12 : q0 .store = false := by first | assumption | rfl) (c13 : q0 .noc = false := by first | assumption | rfl) (c14 : q0 .buf = false := by first | assumption | rfl) (c15 : q0 .dir = false := by first | assumption | rfl) (c16 : q0 .dp = false := by first | assumption | rfl) (c17 : q0 .hp = false := by first | assumption | rfl) (c18 : q0 .co = false := by first | assumption | rfl) (c19 : q0 .flight = false := by first | assumption | rfl) (c20 : q0 .out = false := by first | assumption | rfl) (c21 : q0 .fresh = false := by first | assumption | rfl) :
    OkOutcome q0 z0 (execHomingDone slice handOver s) := by
  unfold execHomingDone; try (dsimp only)
  with_reducible repeat' (first | intro _ | apply next_ok | apply ite_ok | assumption | intro _ | apply Steady.ite | apply takenBack_st | apply handedOver_st | apply standDown_st | apply settleUnits_st | apply raiseEv_st | apply onFabric_st | split)

theorem execSyncDone_ok {s : State} {slice : Fin 32} (hs : Steady q0 z0 s) (c0 : q0 .regs = false := by first | assumption | rfl) (c2 : q0 .cap = false := by first | assumption | rfl) (c6 : q0 .pair = false := by first | assumption | rfl) (c7 : q0 .links = false := by first | assumption | rfl) (c8 : q0 .fns = false := by first | assumption | rfl) (c10 : q0 .snap = false := by first | assumption | rfl) (c13 : q0 .noc = false := by first | assumption | rfl) (c14 : q0 .buf = false := by first | assumption | rfl) (c15 : q0 .dir = false := by first | assumption | rfl) (c16 : q0 .dp = false := by first | assumption | rfl) (c17 : q0 .hp = false := by first | assumption | rfl) (c18 : q0 .co = false := by first | assumption | rfl) (c19 : q0 .flight = false := by first | assumption | rfl) (c20 : q0 .out = false := by first | assumption | rfl) (c21 : q0 .fresh = false := by first | assumption | rfl) :
    OkOutcome q0 z0 (execSyncDone slice s) := by
  unfold execSyncDone; try (dsimp only)
  with_reducible repeat' (first | intro _ | apply next_ok | apply ite_ok | assumption | intro _ | apply Steady.ite | apply withPair_st | apply settleUnits_st | apply checkSynced_st | apply onFabric_st | split)

theorem execSetrecall_ok {s : State} {region : Fin 16} {slice : Fin 32} {set : Fin 8192} (hs : Steady q0 z0 s) (c0 : q0 .regs = false := by first | assumption | rfl) (c2 : q0 .cap = false := by first | assumption | rfl) (c6 : q0 .pair = false := by first | assumption | rfl) (c7 : q0 .links = false := by first | assumption | rfl) (c8 : q0 .fns = false := by first | assumption | rfl) (c10 : q0 .snap = false := by first | assumption | rfl) (c13 : q0 .noc = false := by first | assumption | rfl) (c14 : q0 .buf = false := by first | assumption | rfl) (c15 : q0 .dir = false := by first | assumption | rfl) (c16 : q0 .dp = false := by first | assumption | rfl) (c17 : q0 .hp = false := by first | assumption | rfl) (c18 : q0 .co = false := by first | assumption | rfl) (c19 : q0 .flight = false := by first | assumption | rfl) (c20 : q0 .out = false := by first | assumption | rfl) (c21 : q0 .fresh = false := by first | assumption | rfl) :
    OkOutcome q0 z0 (execSetrecall region slice set s) := by
  unfold execSetrecall; try (dsimp only)
  with_reducible repeat' (first | intro _ | apply next_ok | apply ite_ok | assumption | intro _ | apply Steady.ite | apply settleUnits_st | apply writeBack_st | apply withCo_st | apply receive_st | apply onFabric_st | apply forAll_st | split)

theorem dropOne_st {s : State} {f : Fwd} (hs : Steady q0 z0 s) (c6 : q0 .pair = false := by assumption) :
    Steady q0 z0 (dropOne s f) := by
  unfold dropOne; try (dsimp only)
  with_reducible repeat' (first | assumption | intro _ | apply Steady.ite | apply withPair_st | split)

theorem freePromoted_st {s : State} {l : LAddr} (hs : Steady q0 z0 s) (c15 : q0 .dir = false := by assumption) :
    Steady q0 z0 (freePromoted s l) := by
  unfold freePromoted; try (dsimp only)
  with_reducible repeat' (first | assumption | intro _ | apply Steady.ite | apply setEnt_st | split)

theorem settleFwd_st {s : State} {f : Fwd} (hs : Steady q0 z0 s) (c0 : q0 .regs = false := by assumption) (c6 : q0 .pair = false := by assumption) (c7 : q0 .links = false := by assumption) (c8 : q0 .fns = false := by assumption) (c10 : q0 .snap = false := by assumption) (c13 : q0 .noc = false := by assumption) (c15 : q0 .dir = false := by assumption) (c19 : q0 .flight = false := by assumption) (c20 : q0 .out = false := by assumption) :
    Steady q0 z0 (settleFwd s f) := by
  unfold settleFwd; try (dsimp only)
  with_reducible repeat' (first | assumption | intro _ | apply Steady.ite | apply freePromoted_st | apply dropOne_st | apply withPair_st | apply send_st | split)

theorem promote_st {s : State} (hs : Steady q0 z0 s) (c15 : q0 .dir = false := by assumption) :
    Steady q0 z0 (promote s) := by
  unfold promote; try (dsimp only)
  with_reducible repeat' (first | assumption | intro _ | apply Steady.ite | apply withDir_st | split)

theorem startTakeover_st {s : State} {c : TakeoverCause} (hs : Steady q0 z0 s) (c0 : q0 .regs = false := by assumption) (c1 : q0 .settings = false := by assumption) (c2 : q0 .cap = false := by assumption) (c3 : q0 .banks = false := by assumption) (c4 : q0 .dev = false := by assumption) (c5 : q0 .txn = false := by assumption) (c6 : q0 .pair = false := by assumption) (c7 : q0 .links = false := by assumption) (c8 : q0 .fns = false := by assumption) (c9 : q0 .slots = false := by assumption) (c10 : q0 .snap = false := by assumption) (c11 : q0 .pool = false := by assumption) (c12 : q0 .store = false := by assumption) (c13 : q0 .noc = false := by assumption) (c14 : q0 .buf = false := by assumption) (c15 : q0 .dir = false := by assumption) (c16 : q0 .dp = false := by assumption) (c17 : q0 .hp = false := by assumption) (c18 : q0 .co = false := by assumption) (c19 : q0 .flight = false := by assumption) (c20 : q0 .out = false := by assumption) (c21 : q0 .fresh = false := by assumption) : Steady q0 z0 (startTakeover s c) := by
  unfold startTakeover
  extract_lets t u stopped fences v0 src v w x src2 y
  have hu : Steady q0 z0 u := count_st (wr64_st (wr_st hs))
  clear_value u
  have h0 : Steady q0 z0 v0 := forAll_st (forAll_st hu (fun z e hz => wrBit_st hz)) (fun z e hz => addFence_st hz)
  clear_value v0
  have hv : Steady q0 z0 v := setReg_st (setReg_st (withPair_st h0))
  clear_value v
  have hw : Steady q0 z0 w := promote_st (forAll_st (twinDown_st hv) (fun t k ht => ackAll_st ht))
  clear_value w
  have hx : Steady q0 z0 x := forAll_st hw (fun t k ht => settleFwd_st ht)
  clear_value x
  refine settleUnits_st (migTakeover_st (dropBindAcks_st (txnTakeover_st ?_)))
  apply Steady.upd hx <;> first | exact fun _ => rfl | exact skip

theorem quietEnd_st {s : State} (hs : Steady q0 z0 s) (c0 : q0 .regs = false := by assumption) (c6 : q0 .pair = false := by assumption) (c7 : q0 .links = false := by assumption) (c8 : q0 .fns = false := by assumption) (c10 : q0 .snap = false := by assumption) (c13 : q0 .noc = false := by assumption) (c14 : q0 .buf = false := by assumption) (c15 : q0 .dir = false := by assumption) (c16 : q0 .dp = false := by assumption) (c17 : q0 .hp = false := by assumption) (c18 : q0 .co = false := by assumption) (c19 : q0 .flight = false := by assumption) (c20 : q0 .out = false := by assumption) :
    Steady q0 z0 (quietEnd s) := by
  unfold quietEnd; try (dsimp only)
  with_reducible repeat' (first | assumption | intro _ | apply Steady.ite | apply withPair_st | apply withCo_st | apply freeHeld_st | apply s2m_st | apply withHp_st | apply advance_st | apply noticeLoss_st | apply withDir_st | apply dpWrite_st | apply forAll_st | split)

theorem endTakeover_st {s : State} (hs : Steady q0 z0 s) (c0 : q0 .regs = false := by assumption) (c2 : q0 .cap = false := by assumption) (c6 : q0 .pair = false := by assumption) (c7 : q0 .links = false := by assumption) (c8 : q0 .fns = false := by assumption) (c10 : q0 .snap = false := by assumption) (c13 : q0 .noc = false := by assumption) (c14 : q0 .buf = false := by assumption) (c15 : q0 .dir = false := by assumption) (c16 : q0 .dp = false := by assumption) (c17 : q0 .hp = false := by assumption) (c18 : q0 .co = false := by assumption) (c19 : q0 .flight = false := by assumption) (c20 : q0 .out = false := by assumption) (c21 : q0 .fresh = false := by assumption) :
    Steady q0 z0 (endTakeover s) := by
  unfold endTakeover; try (dsimp only)
  with_reducible repeat' (first | assumption | intro _ | apply Steady.ite | apply withPair_st | apply settleUnits_st | apply setPairState_st | apply withDir_st | apply raiseEv_st | split)

theorem execTakeover_ok {s : State} {cause : TakeoverCause} (hs : Steady q0 z0 s) (c0 : q0 .regs = false := by first | assumption | rfl) (c1 : q0 .settings = false := by first | assumption | rfl) (c2 : q0 .cap = false := by first | assumption | rfl) (c3 : q0 .banks = false := by first | assumption | rfl) (c4 : q0 .dev = false := by first | assumption | rfl) (c5 : q0 .txn = false := by first | assumption | rfl) (c6 : q0 .pair = false := by first | assumption | rfl) (c7 : q0 .links = false := by first | assumption | rfl) (c8 : q0 .fns = false := by first | assumption | rfl) (c9 : q0 .slots = false := by first | assumption | rfl) (c10 : q0 .snap = false := by first | assumption | rfl) (c11 : q0 .pool = false := by first | assumption | rfl) (c12 : q0 .store = false := by first | assumption | rfl) (c13 : q0 .noc = false := by first | assumption | rfl) (c14 : q0 .buf = false := by first | assumption | rfl) (c15 : q0 .dir = false := by first | assumption | rfl) (c16 : q0 .dp = false := by first | assumption | rfl) (c17 : q0 .hp = false := by first | assumption | rfl) (c18 : q0 .co = false := by first | assumption | rfl) (c19 : q0 .flight = false := by first | assumption | rfl) (c20 : q0 .out = false := by first | assumption | rfl) (c21 : q0 .fresh = false := by first | assumption | rfl) :
    OkOutcome q0 z0 (execTakeover cause s) := by
  unfold execTakeover; try (dsimp only)
  with_reducible repeat' (first | intro _ | apply next_ok | apply ite_ok | assumption | intro _ | apply Steady.ite | apply startTakeover_st | apply onFabric_st | split)

theorem execTakeoverQuietEnd_ok {s : State} (hs : Steady q0 z0 s) (c0 : q0 .regs = false := by first | assumption | rfl) (c2 : q0 .cap = false := by first | assumption | rfl) (c6 : q0 .pair = false := by first | assumption | rfl) (c7 : q0 .links = false := by first | assumption | rfl) (c8 : q0 .fns = false := by first | assumption | rfl) (c10 : q0 .snap = false := by first | assumption | rfl) (c13 : q0 .noc = false := by first | assumption | rfl) (c14 : q0 .buf = false := by first | assumption | rfl) (c15 : q0 .dir = false := by first | assumption | rfl) (c16 : q0 .dp = false := by first | assumption | rfl) (c17 : q0 .hp = false := by first | assumption | rfl) (c18 : q0 .co = false := by first | assumption | rfl) (c19 : q0 .flight = false := by first | assumption | rfl) (c20 : q0 .out = false := by first | assumption | rfl) (c21 : q0 .fresh = false := by first | assumption | rfl) :
    OkOutcome q0 z0 (execTakeoverQuietEnd s) := by
  unfold execTakeoverQuietEnd; try (dsimp only)
  with_reducible repeat' (first | intro _ | apply next_ok | apply ite_ok | assumption | intro _ | apply Steady.ite | apply quietEnd_st | apply settleUnits_st | apply onFabric_st | split)

theorem execTakeoverComplete_ok {s : State} (hs : Steady q0 z0 s) (c0 : q0 .regs = false := by first | assumption | rfl) (c2 : q0 .cap = false := by first | assumption | rfl) (c6 : q0 .pair = false := by first | assumption | rfl) (c7 : q0 .links = false := by first | assumption | rfl) (c8 : q0 .fns = false := by first | assumption | rfl) (c10 : q0 .snap = false := by first | assumption | rfl) (c13 : q0 .noc = false := by first | assumption | rfl) (c14 : q0 .buf = false := by first | assumption | rfl) (c15 : q0 .dir = false := by first | assumption | rfl) (c16 : q0 .dp = false := by first | assumption | rfl) (c17 : q0 .hp = false := by first | assumption | rfl) (c18 : q0 .co = false := by first | assumption | rfl) (c19 : q0 .flight = false := by first | assumption | rfl) (c20 : q0 .out = false := by first | assumption | rfl) (c21 : q0 .fresh = false := by first | assumption | rfl) :
    OkOutcome q0 z0 (execTakeoverComplete s) := by
  unfold execTakeoverComplete; try (dsimp only)
  with_reducible repeat' (first | intro _ | apply next_ok | apply ite_ok | assumption | intro _ | apply Steady.ite | apply endTakeover_st | apply onFabric_st | split)

theorem execRecoverySweepDone_ok {s : State} {seg : BitVec 16} (hs : Steady q0 z0 s) (c0 : q0 .regs = false := by first | assumption | rfl) (c2 : q0 .cap = false := by first | assumption | rfl) (c6 : q0 .pair = false := by first | assumption | rfl) (c7 : q0 .links = false := by first | assumption | rfl) (c8 : q0 .fns = false := by first | assumption | rfl) (c10 : q0 .snap = false := by first | assumption | rfl) (c13 : q0 .noc = false := by first | assumption | rfl) (c14 : q0 .buf = false := by first | assumption | rfl) (c15 : q0 .dir = false := by first | assumption | rfl) (c16 : q0 .dp = false := by first | assumption | rfl) (c17 : q0 .hp = false := by first | assumption | rfl) (c18 : q0 .co = false := by first | assumption | rfl) (c19 : q0 .flight = false := by first | assumption | rfl) (c20 : q0 .out = false := by first | assumption | rfl) (c21 : q0 .fresh = false := by first | assumption | rfl) :
    OkOutcome q0 z0 (execRecoverySweepDone seg s) := by
  unfold execRecoverySweepDone; try (dsimp only)
  with_reducible repeat' (first | intro _ | apply next_ok | apply ite_ok | assumption | intro _ | apply Steady.ite | apply withPair_st | apply settleUnits_st | apply withCo_st | apply dpWrite_st | apply raiseEv_st | apply onFabric_st | apply forAll_st | apply emit_st | split)

theorem execBeaconSend_ok {s : State} (hs : Steady q0 z0 s) (c0 : q0 .regs = false := by first | assumption | rfl) (c6 : q0 .pair = false := by first | assumption | rfl) (c7 : q0 .links = false := by first | assumption | rfl) (c10 : q0 .snap = false := by first | assumption | rfl) (c20 : q0 .out = false := by first | assumption | rfl) :
    OkOutcome q0 z0 (execBeaconSend s) := by
  unfold execBeaconSend; try (dsimp only)
  with_reducible repeat' (first | intro _ | apply next_ok | apply ite_ok | assumption | intro _ | apply Steady.ite | apply withPair_st | apply pairSend_st | apply onFabric_st | apply emit_st | split)

theorem setPath_st {s : State} {p : BeaconPath} {n : Fin 9} (hs : Steady q0 z0 s) (c0 : q0 .regs = false := by assumption) (c1 : q0 .settings = false := by assumption) (c6 : q0 .pair = false := by assumption) (c7 : q0 .links = false := by assumption) (c8 : q0 .fns = false := by assumption) (c10 : q0 .snap = false := by assumption) (c13 : q0 .noc = false := by assumption) (c19 : q0 .flight = false := by assumption) (c20 : q0 .out = false := by assumption) :
    Steady q0 z0 (setPath s p n) := by
  unfold setPath; try (dsimp only)
  with_reducible repeat' (first | assumption | intro _ | apply Steady.ite | apply withPair_st | apply raiseEv_st | apply wrBit_st | split)

theorem execBeaconWindowMiss_ok {s : State} {path : BeaconPath} (hs : Steady q0 z0 s) (c0 : q0 .regs = false := by first | assumption | rfl) (c1 : q0 .settings = false := by first | assumption | rfl) (c6 : q0 .pair = false := by first | assumption | rfl) (c7 : q0 .links = false := by first | assumption | rfl) (c8 : q0 .fns = false := by first | assumption | rfl) (c10 : q0 .snap = false := by first | assumption | rfl) (c13 : q0 .noc = false := by first | assumption | rfl) (c19 : q0 .flight = false := by first | assumption | rfl) (c20 : q0 .out = false := by first | assumption | rfl) :
    OkOutcome q0 z0 (execBeaconWindowMiss path s) := by
  unfold execBeaconWindowMiss; try (dsimp only)
  with_reducible repeat' (first | intro _ | apply next_ok | apply ite_ok | assumption | intro _ | apply Steady.ite | apply setPath_st | apply count_st | apply onFabric_st | split)

theorem setStep_st {s : State} {n : ℕ} (hs : Steady q0 z0 s) (c0 : q0 .regs = false := by assumption) (c1 : q0 .settings = false := by assumption) :
    Steady q0 z0 (setStep s n) := by
  unfold setStep; try (dsimp only)
  with_reducible repeat' (first | assumption | intro _ | apply Steady.ite | apply wr_st | split)

theorem enterAlone_st {s : State} (hs : Steady q0 z0 s) (c0 : q0 .regs = false := by assumption) (c1 : q0 .settings = false := by assumption) (c2 : q0 .cap = false := by assumption) (c6 : q0 .pair = false := by assumption) (c7 : q0 .links = false := by assumption) (c8 : q0 .fns = false := by assumption) (c10 : q0 .snap = false := by assumption) (c13 : q0 .noc = false := by assumption) (c14 : q0 .buf = false := by assumption) (c15 : q0 .dir = false := by assumption) (c16 : q0 .dp = false := by assumption) (c17 : q0 .hp = false := by assumption) (c18 : q0 .co = false := by assumption) (c19 : q0 .flight = false := by assumption) (c20 : q0 .out = false := by assumption) (c21 : q0 .fresh = false := by assumption) :
    Steady q0 z0 (enterAlone s) := by
  unfold enterAlone; try (dsimp only)
  with_reducible repeat' (first | assumption | intro _ | apply Steady.ite | apply setStep_st | apply withPair_st | apply settleUnits_st | apply setPairState_st | apply setReg_st | split)

theorem enterJoining_st {s : State} (hs : Steady q0 z0 s) (c0 : q0 .regs = false := by assumption) (c1 : q0 .settings = false := by assumption) (c3 : q0 .banks = false := by assumption) (c6 : q0 .pair = false := by assumption) (c7 : q0 .links = false := by assumption) (c8 : q0 .fns = false := by assumption) (c10 : q0 .snap = false := by assumption) (c13 : q0 .noc = false := by assumption) (c19 : q0 .flight = false := by assumption) (c20 : q0 .out = false := by assumption) :
    Steady q0 z0 (enterJoining s) := by
  unfold enterJoining; try (dsimp only)
  with_reducible repeat' (first | exact fun _ => rfl | exact skip | assumption | intro _ | apply Steady.ite | apply setStep_st | apply withPair_st | apply setPairState_st | apply setReg_st | split | apply Steady.upd)

theorem startDecision_st {s : State} {b : Beacon} (hs : Steady q0 z0 s) (c0 : q0 .regs = false := by assumption) (c1 : q0 .settings = false := by assumption) (c2 : q0 .cap = false := by assumption) (c3 : q0 .banks = false := by assumption) (c6 : q0 .pair = false := by assumption) (c7 : q0 .links = false := by assumption) (c8 : q0 .fns = false := by assumption) (c10 : q0 .snap = false := by assumption) (c13 : q0 .noc = false := by assumption) (c14 : q0 .buf = false := by assumption) (c15 : q0 .dir = false := by assumption) (c16 : q0 .dp = false := by assumption) (c17 : q0 .hp = false := by assumption) (c18 : q0 .co = false := by assumption) (c19 : q0 .flight = false := by assumption) (c20 : q0 .out = false := by assumption) (c21 : q0 .fresh = false := by assumption) :
    Steady q0 z0 (startDecision s b) := by
  unfold startDecision; try (dsimp only)
  with_reducible repeat' (first | assumption | intro _ | apply Steady.ite | apply enterJoining_st | apply enterAlone_st | split)

theorem goodBeacon_st {s : State} {b : Beacon} (hs : Steady q0 z0 s) (c0 : q0 .regs = false := by assumption) (c1 : q0 .settings = false := by assumption) (c2 : q0 .cap = false := by assumption) (c3 : q0 .banks = false := by assumption) (c4 : q0 .dev = false := by assumption) (c5 : q0 .txn = false := by assumption) (c6 : q0 .pair = false := by assumption) (c7 : q0 .links = false := by assumption) (c8 : q0 .fns = false := by assumption) (c9 : q0 .slots = false := by assumption) (c10 : q0 .snap = false := by assumption) (c11 : q0 .pool = false := by assumption) (c12 : q0 .store = false := by assumption) (c13 : q0 .noc = false := by assumption) (c14 : q0 .buf = false := by assumption) (c15 : q0 .dir = false := by assumption) (c16 : q0 .dp = false := by assumption) (c17 : q0 .hp = false := by assumption) (c18 : q0 .co = false := by assumption) (c19 : q0 .flight = false := by assumption) (c20 : q0 .out = false := by assumption) (c21 : q0 .fresh = false := by assumption) :
    Steady q0 z0 (goodBeacon s b) := by
  unfold goodBeacon; try (dsimp only)
  with_reducible repeat' (first | assumption | intro _ | apply Steady.ite | apply startDecision_st | apply startTakeover_st | apply rejoinTry_st | apply standDown_st | apply raiseEv_st | split)

theorem execBeacon_ok {s : State} {path : BeaconPath} {b : Beacon} (hs : Steady q0 z0 s) (c0 : q0 .regs = false := by first | assumption | rfl) (c1 : q0 .settings = false := by first | assumption | rfl) (c2 : q0 .cap = false := by first | assumption | rfl) (c3 : q0 .banks = false := by first | assumption | rfl) (c4 : q0 .dev = false := by first | assumption | rfl) (c5 : q0 .txn = false := by first | assumption | rfl) (c6 : q0 .pair = false := by first | assumption | rfl) (c7 : q0 .links = false := by first | assumption | rfl) (c8 : q0 .fns = false := by first | assumption | rfl) (c9 : q0 .slots = false := by first | assumption | rfl) (c10 : q0 .snap = false := by first | assumption | rfl) (c11 : q0 .pool = false := by first | assumption | rfl) (c12 : q0 .store = false := by first | assumption | rfl) (c13 : q0 .noc = false := by first | assumption | rfl) (c14 : q0 .buf = false := by first | assumption | rfl) (c15 : q0 .dir = false := by first | assumption | rfl) (c16 : q0 .dp = false := by first | assumption | rfl) (c17 : q0 .hp = false := by first | assumption | rfl) (c18 : q0 .co = false := by first | assumption | rfl) (c19 : q0 .flight = false := by first | assumption | rfl) (c20 : q0 .out = false := by first | assumption | rfl) (c21 : q0 .fresh = false := by first | assumption | rfl) :
    OkOutcome q0 z0 (execBeacon path b s) := by
  unfold execBeacon; try (dsimp only)
  with_reducible repeat' (first | intro _ | apply next_ok | apply ite_ok | assumption | intro _ | apply Steady.ite | apply goodBeacon_st | apply setPath_st | apply withPair_st | apply regionAnswered_st | apply raiseEv_st | apply onFabric_st | apply forAll_st | apply wrBit_st | apply wr_st | split)

theorem execJoinWaitExpiry_ok {s : State} (hs : Steady q0 z0 s) (c0 : q0 .regs = false := by first | assumption | rfl) (c1 : q0 .settings = false := by first | assumption | rfl) (c2 : q0 .cap = false := by first | assumption | rfl) (c6 : q0 .pair = false := by first | assumption | rfl) (c7 : q0 .links = false := by first | assumption | rfl) (c8 : q0 .fns = false := by first | assumption | rfl) (c10 : q0 .snap = false := by first | assumption | rfl) (c13 : q0 .noc = false := by first | assumption | rfl) (c14 : q0 .buf = false := by first | assumption | rfl) (c15 : q0 .dir = false := by first | assumption | rfl) (c16 : q0 .dp = false := by first | assumption | rfl) (c17 : q0 .hp = false := by first | assumption | rfl) (c18 : q0 .co = false := by first | assumption | rfl) (c19 : q0 .flight = false := by first | assumption | rfl) (c20 : q0 .out = false := by first | assumption | rfl) (c21 : q0 .fresh = false := by first | assumption | rfl) :
    OkOutcome q0 z0 (execJoinWaitExpiry s) := by
  unfold execJoinWaitExpiry; try (dsimp only)
  with_reducible repeat' (first | intro _ | apply next_ok | apply ite_ok | assumption | intro _ | apply Steady.ite | apply enterAlone_st | apply onFabric_st | split)

theorem startHandover_st {s : State} (hs : Steady q0 z0 s) (c0 : q0 .regs = false := by assumption) (c1 : q0 .settings = false := by assumption) (c2 : q0 .cap = false := by assumption) (c6 : q0 .pair = false := by assumption) (c7 : q0 .links = false := by assumption) (c8 : q0 .fns = false := by assumption) (c10 : q0 .snap = false := by assumption) (c13 : q0 .noc = false := by assumption) (c14 : q0 .buf = false := by assumption) (c15 : q0 .dir = false := by assumption) (c16 : q0 .dp = false := by assumption) (c17 : q0 .hp = false := by assumption) (c18 : q0 .co = false := by assumption) (c19 : q0 .flight = false := by assumption) (c20 : q0 .out = false := by assumption) (c21 : q0 .fresh = false := by assumption) :
    Steady q0 z0 (startHandover s) := by
  unfold startHandover; try (dsimp only)
  with_reducible repeat' (first | assumption | intro _ | apply Steady.ite | apply withPair_st | apply settleUnits_st | apply setPairState_st | apply pairSend_st | apply forAll_st | apply wrBit_st | split)

theorem execHandoverWrite_ok {s : State} (hs : Steady q0 z0 s) (c0 : q0 .regs = false := by first | assumption | rfl) (c1 : q0 .settings = false := by first | assumption | rfl) (c2 : q0 .cap = false := by first | assumption | rfl) (c6 : q0 .pair = false := by first | assumption | rfl) (c7 : q0 .links = false := by first | assumption | rfl) (c8 : q0 .fns = false := by first | assumption | rfl) (c10 : q0 .snap = false := by first | assumption | rfl) (c13 : q0 .noc = false := by first | assumption | rfl) (c14 : q0 .buf = false := by first | assumption | rfl) (c15 : q0 .dir = false := by first | assumption | rfl) (c16 : q0 .dp = false := by first | assumption | rfl) (c17 : q0 .hp = false := by first | assumption | rfl) (c18 : q0 .co = false := by first | assumption | rfl) (c19 : q0 .flight = false := by first | assumption | rfl) (c20 : q0 .out = false := by first | assumption | rfl) (c21 : q0 .fresh = false := by first | assumption | rfl) :
    OkOutcome q0 z0 (execHandoverWrite s) := by
  unfold execHandoverWrite; try (dsimp only)
  with_reducible repeat' (first | intro _ | apply next_ok | apply ite_ok | assumption | intro _ | apply Steady.ite | apply startHandover_st | apply onFabric_st | split)

theorem execHandover_ok {s : State} (hs : Steady q0 z0 s) (c6 : q0 .pair = false := by first | assumption | rfl) :
    OkOutcome q0 z0 (execHandover s) := by
  unfold execHandover; try (dsimp only)
  with_reducible repeat' (first | intro _ | apply next_ok | apply ite_ok | assumption | intro _ | apply Steady.ite | apply withPair_st | apply onFabric_st | split)

theorem leaveTwin_st {s : State} (hs : Steady q0 z0 s) (c0 : q0 .regs = false := by assumption) (c1 : q0 .settings = false := by assumption) (c2 : q0 .cap = false := by assumption) (c3 : q0 .banks = false := by assumption) (c4 : q0 .dev = false := by assumption) (c5 : q0 .txn = false := by assumption) (c6 : q0 .pair = false := by assumption) (c7 : q0 .links = false := by assumption) (c8 : q0 .fns = false := by assumption) (c9 : q0 .slots = false := by assumption) (c10 : q0 .snap = false := by assumption) (c11 : q0 .pool = false := by assumption) (c12 : q0 .store = false := by assumption) (c13 : q0 .noc = false := by assumption) (c14 : q0 .buf = false := by assumption) (c15 : q0 .dir = false := by assumption) (c16 : q0 .dp = false := by assumption) (c17 : q0 .hp = false := by assumption) (c18 : q0 .co = false := by assumption) (c19 : q0 .flight = false := by assumption) (c20 : q0 .out = false := by assumption) (c21 : q0 .fresh = false := by assumption) :
    Steady q0 z0 (leaveTwin s) := by
  unfold leaveTwin; try (dsimp only)
  with_reducible repeat' (first | assumption | intro _ | apply Steady.ite | apply withPair_st | apply standDown_st | apply pairSend_st | split)

theorem execHandoverDone_ok {s : State} (hs : Steady q0 z0 s) (c0 : q0 .regs = false := by first | assumption | rfl) (c1 : q0 .settings = false := by first | assumption | rfl) (c2 : q0 .cap = false := by first | assumption | rfl) (c3 : q0 .banks = false := by first | assumption | rfl) (c4 : q0 .dev = false := by first | assumption | rfl) (c5 : q0 .txn = false := by first | assumption | rfl) (c6 : q0 .pair = false := by first | assumption | rfl) (c7 : q0 .links = false := by first | assumption | rfl) (c8 : q0 .fns = false := by first | assumption | rfl) (c9 : q0 .slots = false := by first | assumption | rfl) (c10 : q0 .snap = false := by first | assumption | rfl) (c11 : q0 .pool = false := by first | assumption | rfl) (c12 : q0 .store = false := by first | assumption | rfl) (c13 : q0 .noc = false := by first | assumption | rfl) (c14 : q0 .buf = false := by first | assumption | rfl) (c15 : q0 .dir = false := by first | assumption | rfl) (c16 : q0 .dp = false := by first | assumption | rfl) (c17 : q0 .hp = false := by first | assumption | rfl) (c18 : q0 .co = false := by first | assumption | rfl) (c19 : q0 .flight = false := by first | assumption | rfl) (c20 : q0 .out = false := by first | assumption | rfl) (c21 : q0 .fresh = false := by first | assumption | rfl) :
    OkOutcome q0 z0 (execHandoverDone s) := by
  unfold execHandoverDone; try (dsimp only)
  with_reducible repeat' (first | intro _ | apply next_ok | apply ite_ok | assumption | intro _ | apply Steady.ite | apply endTakeover_st | apply quietEnd_st | apply startTakeover_st | apply settleUnits_st | apply onFabric_st | split)

end Sys2Proof.Laws
end

