-- ==== Sys2Proof/Laws/SteadySnap.lean ====
section
/-! SUPPORT. Every operation of Machine/Snap.lean is steady. -/

set_option Elab.async false
set_option linter.unusedTactic false
set_option linter.unreachableTactic false

namespace Sys2Proof.Laws

open Sys2Proof.Machine

variable {q0 : Part → Bool} {z0 : State}

theorem withSnap_st {s : State} {n : Snap} (hs : Steady q0 z0 s) (c10 : q0 .snap = false := by assumption) :
    Steady q0 z0 (withSnap s n) := by
  unfold withSnap; try (dsimp only)
  with_reducible repeat' (first | exact fun _ => rfl | exact skip | assumption | intro _ | apply Steady.ite | split | apply Steady.upd)

theorem writeLine_st {s : State} {bytes : List Byte} {i : ℕ} (hs : Steady q0 z0 s) (c0 : q0 .regs = false := by assumption) (c6 : q0 .pair = false := by assumption) (c7 : q0 .links = false := by assumption) (c8 : q0 .fns = false := by assumption) (c10 : q0 .snap = false := by assumption) (c13 : q0 .noc = false := by assumption) (c14 : q0 .buf = false := by assumption) (c16 : q0 .dp = false := by assumption) (c19 : q0 .flight = false := by assumption) (c20 : q0 .out = false := by assumption) :
    Steady q0 z0 (writeLine s bytes i) := by
  unfold writeLine; try (dsimp only)
  with_reducible repeat' (first | assumption | intro _ | apply Steady.ite | apply dpArrive_st | refine getD_st (fun _ _ => ?_) ?_ | split)

theorem snapCtrl_st {s : State} {val : Word} (hs : Steady q0 z0 s) (c0 : q0 .regs = false := by assumption) (c1 : q0 .settings = false := by assumption) (c10 : q0 .snap = false := by assumption) :
    Steady q0 z0 (snapCtrl s val) := by
  unfold snapCtrl; try (dsimp only)
  with_reducible repeat' (first | assumption | intro _ | apply Steady.ite | apply withSnap_st | apply setReg_st | split)

theorem execPerfSnapEnable_ok {s : State} {val : Word} (hs : Steady q0 z0 s) (c0 : q0 .regs = false := by first | assumption | rfl) (c1 : q0 .settings = false := by first | assumption | rfl) (c10 : q0 .snap = false := by first | assumption | rfl) :
    OkOutcome q0 z0 (execPerfSnapEnable val s) := by
  unfold execPerfSnapEnable; try (dsimp only)
  with_reducible repeat' (first | intro _ | apply next_ok | apply ite_ok | assumption | intro _ | apply Steady.ite | apply snapCtrl_st | split)

theorem loseCapture_st {s : State} {lo : ℕ} (hs : Steady q0 z0 s) (c0 : q0 .regs = false := by assumption) (c1 : q0 .settings = false := by assumption) (c7 : q0 .links = false := by assumption) (c8 : q0 .fns = false := by assumption) (c10 : q0 .snap = false := by assumption) (c13 : q0 .noc = false := by assumption) (c19 : q0 .flight = false := by assumption) (c20 : q0 .out = false := by assumption) :
    Steady q0 z0 (loseCapture s lo) := by
  unfold loseCapture; try (dsimp only)
  with_reducible repeat' (first | assumption | intro _ | apply Steady.ite | apply withSnap_st | apply count_st | split)

theorem execSnapshotCapture_ok {s : State} (hs : Steady q0 z0 s) (c0 : q0 .regs = false := by first | assumption | rfl) (c1 : q0 .settings = false := by first | assumption | rfl) (c6 : q0 .pair = false := by first | assumption | rfl) (c7 : q0 .links = false := by first | assumption | rfl) (c8 : q0 .fns = false := by first | assumption | rfl) (c10 : q0 .snap = false := by first | assumption | rfl) (c13 : q0 .noc = false := by first | assumption | rfl) (c14 : q0 .buf = false := by first | assumption | rfl) (c16 : q0 .dp = false := by first | assumption | rfl) (c19 : q0 .flight = false := by first | assumption | rfl) (c20 : q0 .out = false := by first | assumption | rfl) :
    OkOutcome q0 z0 (execSnapshotCapture s) := by
  unfold execSnapshotCapture; try (dsimp only)
  with_reducible repeat' (first | intro _ | apply next_ok | apply ite_ok | assumption | intro _ | apply Steady.ite | apply loseCapture_st | apply writeLine_st | apply withSnap_st | apply onFabric_st | apply forAll_st | split)

theorem execSnapshotRecordDone_ok {s : State} (hs : Steady q0 z0 s) (c0 : q0 .regs = false := by first | assumption | rfl) (c1 : q0 .settings = false := by first | assumption | rfl) (c6 : q0 .pair = false := by first | assumption | rfl) (c7 : q0 .links = false := by first | assumption | rfl) (c8 : q0 .fns = false := by first | assumption | rfl) (c10 : q0 .snap = false := by first | assumption | rfl) (c13 : q0 .noc = false := by first | assumption | rfl) (c14 : q0 .buf = false := by first | assumption | rfl) (c16 : q0 .dp = false := by first | assumption | rfl) (c19 : q0 .flight = false := by first | assumption | rfl) (c20 : q0 .out = false := by first | assumption | rfl) :
    OkOutcome q0 z0 (execSnapshotRecordDone s) := by
  unfold execSnapshotRecordDone; try (dsimp only)
  with_reducible repeat' (first | intro _ | apply next_ok | apply ite_ok | assumption | intro _ | apply Steady.ite | apply writeLine_st | apply withSnap_st | apply raiseEv_st | apply onFabric_st | apply setReg_st | split)

end Sys2Proof.Laws
end

