-- ==== Sys2Proof/Laws/SteadyRegRead.lean ====
section
/-! SUPPORT. Every operation of Machine/RegRead.lean is steady. -/

set_option Elab.async false
set_option linter.unusedTactic false
set_option linter.unreachableTactic false

namespace Sys2Proof.Laws

open Sys2Proof.Machine

variable {q0 : Part → Bool} {z0 : State}

theorem captureWords_st {s : State} {r : RegRow} {off : ℕ} {n : ℕ} (hs : Steady q0 z0 s) (c2 : q0 .cap = false := by assumption) :
    Steady q0 z0 (captureWords s r off n) := by
  unfold captureWords; try (dsimp only)
  with_reducible repeat' (first | exact fun _ => rfl | exact skip | assumption | intro _ | apply Steady.ite | apply Steady.foldl | refine foldPair_st _ ?_ (fun _ _ _ => ?_) | split | apply Steady.upd)

theorem readReg_st {s : State} {off : ℕ} (hs : Steady q0 z0 s) (c2 : q0 .cap = false := by assumption) (c21 : q0 .fresh = false := by assumption) :
    Steady q0 z0 (readReg s off).1 := by
  unfold readReg; try (dsimp only)
  with_reducible repeat' (first | assumption | intro _ | apply Steady.ite | apply captureWords_st | apply usedFree_st | split)

end Sys2Proof.Laws
end

