-- ==== Sys2Proof/Laws/SteadyRegWrite.lean ====
section
/-! SUPPORT. Every operation of Machine/RegWrite.lean is steady. -/

set_option Elab.async false
set_option linter.unusedTactic false
set_option linter.unreachableTactic false

namespace Sys2Proof.Laws

open Sys2Proof.Machine

variable {q0 : Part → Bool} {z0 : State}

theorem afterOf_st {s : State} {o : Host.Outcome State Fault Refusal} (ho : OkOutcome q0 z0 o) (hs : Steady q0 z0 s) :
    Steady q0 z0 (afterOf s o) := by
  cases o
  · exact ho
  · exact hs
  · exact hs

theorem whenDo_st {s : State} {b : Bool} {f : State → State} (hs : Steady q0 z0 s) (hf : ∀ x0, Steady q0 z0 x0 → Steady q0 z0 (f x0)) :
    Steady q0 z0 (whenDo b s f) := by
  unfold whenDo; try (dsimp only)
  with_reducible repeat' (first | assumption | intro _ | apply Steady.ite | apply hf | split)

theorem plainWrite_st {s : State} {off : ℕ} {val : Word} (hs : Steady q0 z0 s) (c0 : q0 .regs = false := by assumption) (c1 : q0 .settings = false := by assumption) :
    Steady q0 z0 (plainWrite s off val) := by
  unfold plainWrite; try (dsimp only)
  with_reducible repeat' (first | assumption | intro _ | apply Steady.ite | apply setReg_st | split)

theorem clearCounters_st {s : State} {val : Word} {l : List CntBit} (hs : Steady q0 z0 s) (c0 : q0 .regs = false := by assumption) (c1 : q0 .settings = false := by assumption) :
    Steady q0 z0 (clearCounters s val l) :=
  forAll_st hs (fun t c ht => Steady.ite (clearCnt_st ht) ht)

theorem clearLog_st {s : State} {w : ℕ} (hs : Steady q0 z0 s) (c0 : q0 .regs = false := by assumption) (c1 : q0 .settings = false := by assumption) :
    Steady q0 z0 (clearLog s w) := by
  unfold clearLog; try (dsimp only)
  with_reducible repeat' (first | assumption | intro _ | apply Steady.ite | apply forAll_st | apply wrBit_st | apply wr_st | split)

theorem counterClear_st {s : State} {off : ℕ} {val : Word} (hs : Steady q0 z0 s) (c0 : q0 .regs = false := by assumption) (c1 : q0 .settings = false := by assumption) :
    Steady q0 z0 (counterClear s off val) := by
  unfold counterClear; try (dsimp only)
  with_reducible repeat' (first | assumption | intro _ | apply Steady.ite | apply clearLog_st | apply clearCounters_st | split)

theorem writeLane_st {s other : State} {n : ℕ} {k : ℕ} {val : Word} (hs : Steady q0 z0 s) (hother : Steady q0 z0 other) (c0 : q0 .regs = false := by assumption) (c1 : q0 .settings = false := by assumption) :
    Steady q0 z0 (writeLane s n k val other) := by
  unfold writeLane; try (dsimp only)
  with_reducible repeat' (first | assumption | intro _ | apply Steady.ite | apply afterOf_st | apply execLoopbackModeWrite_ok | apply execLanePowerForce_ok | split)

theorem writeSpare_st {s : State} {o : SpareOwner} {val : Word} (hs : Steady q0 z0 s) (c7 : q0 .links = false := by assumption) (c20 : q0 .out = false := by assumption) :
    Steady q0 z0 (writeSpare s o val) := by
  unfold writeSpare; try (dsimp only)
  with_reducible repeat' (first | assumption | intro _ | apply Steady.ite | apply whenDo_st | apply afterOf_st | apply execSpareRestore_ok | apply execSpareSubst_ok | split)

theorem writeLinkCtrl_st {s : State} {l : LinkId} {off : ℕ} {val : Word} (hs : Steady q0 z0 s) (c0 : q0 .regs = false := by assumption) (c1 : q0 .settings = false := by assumption) (c2 : q0 .cap = false := by assumption) (c3 : q0 .banks = false := by assumption) (c5 : q0 .txn = false := by assumption) (c6 : q0 .pair = false := by assumption) (c7 : q0 .links = false := by assumption) (c8 : q0 .fns = false := by assumption) (c10 : q0 .snap = false := by assumption) (c11 : q0 .pool = false := by assumption) (c13 : q0 .noc = false := by assumption) (c14 : q0 .buf = false := by assumption) (c15 : q0 .dir = false := by assumption) (c16 : q0 .dp = false := by assumption) (c17 : q0 .hp = false := by assumption) (c18 : q0 .co = false := by assumption) (c19 : q0 .flight = false := by assumption) (c20 : q0 .out = false := by assumption) (c21 : q0 .fresh = false := by assumption) :
    Steady q0 z0 (writeLinkCtrl s l off val) := by
  unfold writeLinkCtrl; try (dsimp only)
  with_reducible repeat' (first | assumption | intro _ | apply Steady.ite | apply plainWrite_st | apply whenDo_st | apply afterOf_st | apply execLinkRetrain_ok | split)

theorem writeFence_st {s : State} {c : Fin 128} {b : Bool} (hs : Steady q0 z0 s) (c0 : q0 .regs = false := by assumption) (c1 : q0 .settings = false := by assumption) (c2 : q0 .cap = false := by assumption) (c4 : q0 .dev = false := by assumption) (c6 : q0 .pair = false := by assumption) (c7 : q0 .links = false := by assumption) (c8 : q0 .fns = false := by assumption) (c10 : q0 .snap = false := by assumption) (c11 : q0 .pool = false := by assumption) (c13 : q0 .noc = false := by assumption) (c14 : q0 .buf = false := by assumption) (c15 : q0 .dir = false := by assumption) (c16 : q0 .dp = false := by assumption) (c17 : q0 .hp = false := by assumption) (c18 : q0 .co = false := by assumption) (c19 : q0 .flight = false := by assumption) (c20 : q0 .out = false := by assumption) (c21 : q0 .fresh = false := by assumption) :
    Steady q0 z0 (writeFence s c b) := by
  unfold writeFence; try (dsimp only)
  with_reducible repeat' (first | assumption | intro _ | apply Steady.ite | apply afterOf_st | apply execCellUnfence_ok | apply askFence_st | apply settleUnits_st | split)

theorem writeSlotCtrl_st {s : State} {p : Fin 128} {val : Word} (hs : Steady q0 z0 s) (c0 : q0 .regs = false := by assumption) (c1 : q0 .settings = false := by assumption) (c2 : q0 .cap = false := by assumption) (c6 : q0 .pair = false := by assumption) (c7 : q0 .links = false := by assumption) (c8 : q0 .fns = false := by assumption) (c9 : q0 .slots = false := by assumption) (c10 : q0 .snap = false := by assumption) (c11 : q0 .pool = false := by assumption) (c13 : q0 .noc = false := by assumption) (c14 : q0 .buf = false := by assumption) (c15 : q0 .dir = false := by assumption) (c16 : q0 .dp = false := by assumption) (c17 : q0 .hp = false := by assumption) (c18 : q0 .co = false := by assumption) (c19 : q0 .flight = false := by assumption) (c20 : q0 .out = false := by assumption) (c21 : q0 .fresh = false := by assumption) :
    Steady q0 z0 (writeSlotCtrl s p val) := by
  unfold writeSlotCtrl; try (dsimp only)
  with_reducible repeat' (first | assumption | intro _ | apply Steady.ite | apply afterOf_st | apply execSlotPowerOff_ok | apply execSlotIndicator_ok | apply execSlotPowerOn_ok | apply wr_st | apply setReg_st | split)

theorem writeBlock_st {s other : State} {b : ℕ} {k : ℕ} {off : ℕ} {val : Word} (hs : Steady q0 z0 s) (hother : Steady q0 z0 other) (c0 : q0 .regs = false := by assumption) (c1 : q0 .settings = false := by assumption) (c2 : q0 .cap = false := by assumption) (c3 : q0 .banks = false := by assumption) (c4 : q0 .dev = false := by assumption) (c5 : q0 .txn = false := by assumption) (c6 : q0 .pair = false := by assumption) (c7 : q0 .links = false := by assumption) (c8 : q0 .fns = false := by assumption) (c9 : q0 .slots = false := by assumption) (c10 : q0 .snap = false := by assumption) (c11 : q0 .pool = false := by assumption) (c13 : q0 .noc = false := by assumption) (c14 : q0 .buf = false := by assumption) (c15 : q0 .dir = false := by assumption) (c16 : q0 .dp = false := by assumption) (c17 : q0 .hp = false := by assumption) (c18 : q0 .co = false := by assumption) (c19 : q0 .flight = false := by assumption) (c20 : q0 .out = false := by assumption) (c21 : q0 .fresh = false := by assumption) :
    Steady q0 z0 (writeBlock s b k off val other) := by
  unfold writeBlock; try (dsimp only)
  with_reducible repeat' (first | assumption | intro _ | apply Steady.ite | apply writeSlotCtrl_st | apply writeFence_st | apply writeLinkCtrl_st | apply writeSpare_st | apply writeLane_st | split)

theorem writeCoachCtrl_st {s : State} {k : Fin 256} {val : Word} (hs : Steady q0 z0 s) (c0 : q0 .regs = false := by assumption) (c1 : q0 .settings = false := by assumption) (c2 : q0 .cap = false := by assumption) (c3 : q0 .banks = false := by assumption) (c4 : q0 .dev = false := by assumption) (c5 : q0 .txn = false := by assumption) (c6 : q0 .pair = false := by assumption) (c7 : q0 .links = false := by assumption) (c8 : q0 .fns = false := by assumption) (c9 : q0 .slots = false := by assumption) (c10 : q0 .snap = false := by assumption) (c11 : q0 .pool = false := by assumption) (c12 : q0 .store = false := by assumption) (c13 : q0 .noc = false := by assumption) (c14 : q0 .buf = false := by assumption) (c15 : q0 .dir = false := by assumption) (c16 : q0 .dp = false := by assumption) (c17 : q0 .hp = false := by assumption) (c18 : q0 .co = false := by assumption) (c19 : q0 .flight = false := by assumption) (c20 : q0 .out = false := by assumption) (c21 : q0 .fresh = false := by assumption) :
    Steady q0 z0 (writeCoachCtrl s k val) := by
  unfold writeCoachCtrl; try (dsimp only)
  with_reducible repeat' (first | assumption | intro _ | apply Steady.ite | apply whenDo_st | apply afterOf_st | apply execCoachReset_ok | apply execCoachReinstate_ok | apply execCoachRetire_ok | split)

theorem writeChCtrl_st {s : State} {c : BitVec 16} {val : Word} (hs : Steady q0 z0 s) (c0 : q0 .regs = false := by assumption) (c10 : q0 .snap = false := by assumption) (c14 : q0 .buf = false := by assumption) (c16 : q0 .dp = false := by assumption) (c18 : q0 .co = false := by assumption) (c21 : q0 .fresh = false := by assumption) :
    Steady q0 z0 (writeChCtrl s c val) := by
  unfold writeChCtrl; try (dsimp only)
  with_reducible repeat' (first | assumption | intro _ | apply Steady.ite | apply whenDo_st | apply afterOf_st | apply execChCtrlReset_ok | apply execChCtrlAbort_ok | split)

theorem writeSlice_st {s other : State} {x : Fin 32} {k : ℕ} {off : ℕ} {val : Word} (hs : Steady q0 z0 s) (hother : Steady q0 z0 other) (c0 : q0 .regs = false := by assumption) (c1 : q0 .settings = false := by assumption) (c2 : q0 .cap = false := by assumption) (c3 : q0 .banks = false := by assumption) (c4 : q0 .dev = false := by assumption) (c5 : q0 .txn = false := by assumption) (c6 : q0 .pair = false := by assumption) (c7 : q0 .links = false := by assumption) (c8 : q0 .fns = false := by assumption) (c9 : q0 .slots = false := by assumption) (c10 : q0 .snap = false := by assumption) (c11 : q0 .pool = false := by assumption) (c12 : q0 .store = false := by assumption) (c13 : q0 .noc = false := by assumption) (c14 : q0 .buf = false := by assumption) (c15 : q0 .dir = false := by assumption) (c16 : q0 .dp = false := by assumption) (c17 : q0 .hp = false := by assumption) (c18 : q0 .co = false := by assumption) (c19 : q0 .flight = false := by assumption) (c20 : q0 .out = false := by assumption) (c21 : q0 .fresh = false := by assumption) :
    Steady q0 z0 (writeSlice s x k off val other) := by
  unfold writeSlice; try (dsimp only)
  with_reducible repeat' (first | assumption | intro _ | apply Steady.ite | apply plainWrite_st | apply whenDo_st | apply afterOf_st | apply execBankReset_ok | apply execSliceReset_ok | apply execDirPeek_ok | apply execDirDrain_ok | apply execDirAtomCfgWrite_ok | apply execDirPurge_ok | split)

theorem writeSel_st {s : State} {off : ℕ} {chip : Bool} {val : Word} (hs : Steady q0 z0 s) (c0 : q0 .regs = false := by assumption) (c1 : q0 .settings = false := by assumption) :
    Steady q0 z0 (writeSel s off chip val) := by
  unfold writeSel; try (dsimp only)
  with_reducible repeat' (first | assumption | intro _ | apply Steady.ite | apply plainWrite_st | apply wrBit_st | split)

theorem writeRegion_st {s other : State} {n : ℕ} {r : ℕ} {off : ℕ} {val : Word} (hs : Steady q0 z0 s) (hother : Steady q0 z0 other) (c0 : q0 .regs = false := by assumption) (c1 : q0 .settings = false := by assumption) (c2 : q0 .cap = false := by assumption) (c3 : q0 .banks = false := by assumption) (c4 : q0 .dev = false := by assumption) (c5 : q0 .txn = false := by assumption) (c6 : q0 .pair = false := by assumption) (c7 : q0 .links = false := by assumption) (c8 : q0 .fns = false := by assumption) (c9 : q0 .slots = false := by assumption) (c10 : q0 .snap = false := by assumption) (c11 : q0 .pool = false := by assumption) (c12 : q0 .store = false := by assumption) (c13 : q0 .noc = false := by assumption) (c14 : q0 .buf = false := by assumption) (c15 : q0 .dir = false := by assumption) (c16 : q0 .dp = false := by assumption) (c17 : q0 .hp = false := by assumption) (c18 : q0 .co = false := by assumption) (c19 : q0 .flight = false := by assumption) (c20 : q0 .out = false := by assumption) (c21 : q0 .fresh = false := by assumption) :
    Steady q0 z0 (writeRegion s n r off val other) := by
  unfold writeRegion; try (dsimp only)
  with_reducible repeat' (first | assumption | intro _ | apply Steady.ite | apply writeSel_st | apply writeSlice_st | apply writeChCtrl_st | apply writeCoachCtrl_st | apply writeBlock_st | apply whenDo_st | apply afterOf_st | apply execTagInvalidate_ok | split)

theorem writeChanCmd_st {s : State} {val : Word} (hs : Steady q0 z0 s) (c0 : q0 .regs = false := by assumption) (c1 : q0 .settings = false := by assumption) (c10 : q0 .snap = false := by assumption) (c14 : q0 .buf = false := by assumption) (c16 : q0 .dp = false := by assumption) (c18 : q0 .co = false := by assumption) (c20 : q0 .out = false := by assumption) (c21 : q0 .fresh = false := by assumption) :
    Steady q0 z0 (writeChanCmd s val) := by
  unfold writeChanCmd; try (dsimp only)
  with_reducible repeat' (first | assumption | intro _ | apply Steady.ite | apply afterOf_st | apply execChanRehome_ok | apply execChanReset_ok | apply execChanDestroy_ok | apply execChanCreate_ok | apply onChanCmd_st | apply chanCode_st | split)

theorem writeTxnCtrl_st {s : State} {init : FabInit} {val : Word} (hs : Steady q0 z0 s) (c0 : q0 .regs = false := by assumption) (c1 : q0 .settings = false := by assumption) (c3 : q0 .banks = false := by assumption) (c5 : q0 .txn = false := by assumption) (c7 : q0 .links = false := by assumption) (c8 : q0 .fns = false := by assumption) (c10 : q0 .snap = false := by assumption) (c12 : q0 .store = false := by assumption) (c13 : q0 .noc = false := by assumption) (c19 : q0 .flight = false := by assumption) (c20 : q0 .out = false := by assumption) :
    Steady q0 z0 (writeTxnCtrl s init val) := by
  unfold writeTxnCtrl; try (dsimp only)
  with_reducible repeat' (first | assumption | intro _ | apply Steady.ite | apply afterOf_st | apply execTxnPersist_ok | apply execTxnCommit_ok | apply execTxnRollback_ok | apply execTxnJoin_ok | apply execTxnBegin_ok | apply txnCode_st | split)

theorem writeImgLoad_st {s : State} {val : Word} (hs : Steady q0 z0 s) (c0 : q0 .regs = false := by assumption) (c1 : q0 .settings = false := by assumption) (c5 : q0 .txn = false := by assumption) (c7 : q0 .links = false := by assumption) (c8 : q0 .fns = false := by assumption) (c10 : q0 .snap = false := by assumption) (c12 : q0 .store = false := by assumption) (c13 : q0 .noc = false := by assumption) (c19 : q0 .flight = false := by assumption) (c20 : q0 .out = false := by assumption) :
    Steady q0 z0 (writeImgLoad s val) := by
  unfold writeImgLoad; try (dsimp only)
  with_reducible repeat' (first | assumption | intro _ | apply Steady.ite | apply plainWrite_st | apply afterOf_st | apply execImgLoad_ok | split)

theorem writeOtp_st {s : State} {val : Word} (hs : Steady q0 z0 s) (c0 : q0 .regs = false := by assumption) (c1 : q0 .settings = false := by assumption) (c7 : q0 .links = false := by assumption) (c8 : q0 .fns = false := by assumption) (c10 : q0 .snap = false := by assumption) (c13 : q0 .noc = false := by assumption) (c19 : q0 .flight = false := by assumption) (c20 : q0 .out = false := by assumption) :
    Steady q0 z0 (writeOtp s val) := by
  unfold writeOtp; try (dsimp only)
  with_reducible repeat' (first | assumption | intro _ | apply Steady.ite | apply plainWrite_st | apply otpProgram_st | split)

theorem writeTenantClear_st {s : State} {val : Word} (hs : Steady q0 z0 s) (c0 : q0 .regs = false := by assumption) (c1 : q0 .settings = false := by assumption) :
    Steady q0 z0 (writeTenantClear s val) := by
  unfold writeTenantClear; try (dsimp only)
  with_reducible repeat' (first | assumption | intro _ | apply Steady.ite | apply whenDo_st | apply clearCnt_st | split)

theorem writeChip_st {s other : State} {init : FabInit} {off : ℕ} {val : Word} (hs : Steady q0 z0 s) (hother : Steady q0 z0 other) (c0 : q0 .regs = false := by assumption) (c1 : q0 .settings = false := by assumption) (c2 : q0 .cap = false := by assumption) (c3 : q0 .banks = false := by assumption) (c4 : q0 .dev = false := by assumption) (c5 : q0 .txn = false := by assumption) (c6 : q0 .pair = false := by assumption) (c7 : q0 .links = false := by assumption) (c8 : q0 .fns = false := by assumption) (c9 : q0 .slots = false := by assumption) (c10 : q0 .snap = false := by assumption) (c11 : q0 .pool = false := by assumption) (c12 : q0 .store = false := by assumption) (c13 : q0 .noc = false := by assumption) (c14 : q0 .buf = false := by assumption) (c15 : q0 .dir = false := by assumption) (c16 : q0 .dp = false := by assumption) (c17 : q0 .hp = false := by assumption) (c18 : q0 .co = false := by assumption) (c19 : q0 .flight = false := by assumption) (c20 : q0 .out = false := by assumption) (c21 : q0 .fresh = false := by assumption) :
    Steady q0 z0 (writeChip s init off val other) := by
  unfold writeChip; try (dsimp only)
  with_reducible repeat' (first | assumption | intro _ | apply Steady.ite | apply writeTenantClear_st | apply writeOtp_st | apply writeImgLoad_st | apply writeTxnCtrl_st | apply writeChanCmd_st | apply writeSel_st | apply writeLinkCtrl_st | apply writeSpare_st | apply writeLane_st | apply whenDo_st | apply afterOf_st | apply snapCtrl_st | apply twinOrder_st | apply softReset_st | apply execHandoverWrite_ok | apply twinPendClear_st | apply execEvtPendClear_ok | apply setReg_st | split)

theorem writeReg_st {s : State} {init : FabInit} {off : Offset} {val : Word} (hs : Steady q0 z0 s) (c0 : q0 .regs = false := by assumption) (c1 : q0 .settings = false := by assumption) (c2 : q0 .cap = false := by assumption) (c3 : q0 .banks = false := by assumption) (c4 : q0 .dev = false := by assumption) (c5 : q0 .txn = false := by assumption) (c6 : q0 .pair = false := by assumption) (c7 : q0 .links = false := by assumption) (c8 : q0 .fns = false := by assumption) (c9 : q0 .slots = false := by assumption) (c10 : q0 .snap = false := by assumption) (c11 : q0 .pool = false := by assumption) (c12 : q0 .store = false := by assumption) (c13 : q0 .noc = false := by assumption) (c14 : q0 .buf = false := by assumption) (c15 : q0 .dir = false := by assumption) (c16 : q0 .dp = false := by assumption) (c17 : q0 .hp = false := by assumption) (c18 : q0 .co = false := by assumption) (c19 : q0 .flight = false := by assumption) (c20 : q0 .out = false := by assumption) (c21 : q0 .fresh = false := by assumption) :
    Steady q0 z0 (writeReg s init off val) := by
  unfold writeReg; try (dsimp only)
  with_reducible repeat' (first | exact fun _ => rfl | exact skip | assumption | intro _ | apply Steady.ite | apply writeChip_st | apply writeRegion_st | apply counterClear_st | apply plainWrite_st | apply structuralEffect_st | split | apply Steady.upd)

end Sys2Proof.Laws
end

