-- ==== Sys2Proof/Laws/Access.lean ====
section
/-! SUPPORT. Management accesses at the keeper: what a read shows does not depend on the accesses that wait; one access of one
word or two is performed and answered at once where the keeper performs it itself; a plain word is written by its access
codes; clearing counters. -/

set_option Elab.async false

namespace Sys2Proof.Laws

open Sys2Proof.Machine

/-! ### Reads do not depend on the accesses that wait -/

theorem slotCapWord_withKq (s : State) (l : List KAcc) (n : Nat) (w : Word) : slotCapWord (withKq s l) n w = slotCapWord s n w := rfl

theorem slotCtrlWord_withKq (s : State) (l : List KAcc) (n : Nat) (w : Word) : slotCtrlWord (withKq s l) n w = slotCtrlWord s n w := rfl

theorem houseStatus_withKq (s : State) (l : List KAcc) (n : Nat) : houseStatus (withKq s l) n = houseStatus s n := rfl

theorem migSlot_withKq (s : State) (l : List KAcc) (n r : Nat) : migSlot (withKq s l) n r = migSlot s n r := rfl

theorem coachStatus_withKq (s : State) (l : List KAcc) (n : Nat) : coachStatus (withKq s l) n = coachStatus s n := rfl

theorem ctxWord_withKq (s : State) (l : List KAcc) (n r : Nat) (b : Bool) : ctxWord (withKq s l) n r b = ctxWord s n r b := rfl

theorem dirStatus_withKq (s : State) (l : List KAcc) (n : Nat) : dirStatus (withKq s l) n = dirStatus s n := rfl

theorem dirWaitStatus_withKq (s : State) (l : List KAcc) (n : Nat) : dirWaitStatus (withKq s l) n = dirWaitStatus s n := rfl

theorem freeVal_withKq (s : State) (l : List KAcc) : freeVal (withKq s l) = freeVal s := rfl

theorem viewRegion_withKq (s : State) (l : List KAcc) (n r : Nat) (w : Word) : viewRegion (withKq s l) n r w = viewRegion s n r w := by
  unfold viewRegion
  split
  · dsimp only; rw [slotCapWord_withKq, slotCtrlWord_withKq]
  · dsimp only; rw [slotCapWord_withKq, slotCtrlWord_withKq]
  · dsimp only; rw [houseStatus_withKq, migSlot_withKq, coachStatus_withKq, ctxWord_withKq]
  · dsimp only; rw [houseStatus_withKq, migSlot_withKq, coachStatus_withKq, ctxWord_withKq]
  · dsimp only; rw [dirStatus_withKq, dirWaitStatus_withKq]
  · dsimp only; rw [dirStatus_withKq, dirWaitStatus_withKq]
  · rfl

theorem srcMapWord_withKq (s : State) (l : List KAcc) (n : Nat) : srcMapWord (withKq s l) n = srcMapWord s n := rfl

theorem tenantStat_withKq (s : State) (l : List KAcc) (n : Nat) : tenantStat (withKq s l) n = tenantStat s n := rfl

theorem meterTokens_withKq (s : State) (l : List KAcc) (n i : Nat) (b : Bool) : meterTokens (withKq s l) n i b = meterTokens s n i b := rfl

theorem sweepStatus_withKq (s : State) (l : List KAcc) : sweepStatus (withKq s l) = sweepStatus s := rfl

theorem fabReset_withKq (s : State) (l : List KAcc) : (withKq s l).dev.fabReset = s.dev.fabReset := rfl

theorem pid_withKq (s : State) (l : List KAcc) : (withKq s l).dev.pid = s.dev.pid := rfl

theorem laneView_withKq (s : State) (l : List KAcc) (o : Nat) (w : Word) : laneView (withKq s l) o w = laneView s o w := rfl

theorem viewWord_withKq (s : State) (l : List KAcc) (o : Nat) (w : Word) : viewWord (withKq s l) o w = viewWord s o w := by
  unfold viewWord
  simp only [laneView_withKq, viewRegion_withKq, srcMapWord_withKq, tenantStat_withKq, meterTokens_withKq, sweepStatus_withKq, freeVal_withKq, fabReset_withKq, pid_withKq]
  rfl

theorem wordNow_withKq (s : State) (l : List KAcc) (r : RegRow) (i o : Nat) : wordNow (withKq s l) r i o = wordNow s r i o := viewWord_withKq s l o _

theorem captureWords_withKq (s : State) (l : List KAcc) (r : RegRow) (o n : Nat) : captureWords (withKq s l) r o n = withKq (captureWords s r o n) l := by
  unfold captureWords
  simp only [wordNow_withKq]; rfl

theorem readReg_withKq (s : State) (l : List KAcc) (o : Nat) : readReg (withKq s l) o = (withKq (readReg s o).1 l, (readReg s o).2) := by
  unfold readReg
  split
  · split
    · simp only [wordNow_withKq]
      split <;> simp only [← captureWords_withKq] <;> rfl
    · rfl
  · split <;> rfl

/-! ### One access at a keeper with none waiting -/

theorem served_of {s : State} {o : Nat} (hs : s.dev.stuck = false) (ho : o < 0x8000000) : unserved s o = false := by
  simp [unserved, hs, onFabricDie]; omega

theorem readReg_dev (s : State) (o : Nat) : (readReg s o).1.dev = s.dev :=
  (readReg_st (q0 := fun p => p == .dev) (off := o) (Steady.refl _ s) rfl rfl).dev rfl

theorem readReg_banks (s : State) (o : Nat) : (readReg s o).1.banks = s.banks :=
  (readReg_st (q0 := fun p => p == .banks) (off := o) (Steady.refl _ s) rfl rfl).banks rfl

theorem readReg_out (s : State) (o : Nat) : (readReg s o).1.out = s.out :=
  (readReg_st (q0 := fun p => p == .out) (off := o) (Steady.refl _ s) rfl rfl).out rfl

theorem fabricGuard_congr {s t : State} (hd : t.dev.afterPackage = s.dev.afterPackage) (hb : t.banks = s.banks)
    (i : FabInit) (o : Nat) (w : Bool) : fabricGuard t i o w = fabricGuard s i o w := by
  unfold fabricGuard
  rw [hd]
  have h : ∀ x locked, checkUnit t fgWindow 32 x locked = checkUnit s fgWindow 32 x locked := by
    intro x locked
    unfold checkUnit byteAllowed decidingEntry entryMatches live64 liveWord
    rw [hb]
  rw [h]

/-- The keeper reads a word of its own. -/
theorem kprMove_of_read (t : State) (i : FabInit) (off : Offset) (l : List (Offset × Option Word)) (got : List Word)
    (hq : t.dev.kq = [⟨i, (off, none) :: l, got, none⟩]) (hg : fabricGuard t i off.toNat false = none)
    (hs : t.dev.stuck = false) (ho : off.toNat < 0x8000000) :
    kprMove t = withKq (readReg t off.toNat).1 [⟨i, l, got ++ [(readReg t off.toNat).2], none⟩] := by
  have hk := readReg_dev t off.toNat
  unfold kprMove
  rw [hq]
  simp only [Option.isSome_none, hg, served_of hs ho, Bool.false_eq_true, if_false, onFabricDie, accessWord, hk, hq]
  rw [if_neg (by simp; omega)]
  simp [wordDone]

theorem kprMove_read (s : State) (i : FabInit) (off : Offset) (l : List (Offset × Option Word)) (got : List Word)
    (hg : fabricGuard s i off.toNat false = none) (hs : s.dev.stuck = false) (ho : off.toNat < 0x8000000) :
    kprMove (withKq s [⟨i, (off, none) :: l, got, none⟩]) =
      withKq (readReg s off.toNat).1 [⟨i, l, got ++ [(readReg s off.toNat).2], none⟩] := by
  rw [kprMove_of_read (withKq s _) i off l got rfl ((fabricGuard_congr rfl rfl i _ _).trans hg) hs ho, readReg_withKq]
  rfl

/-- The keeper writes a word of its own. -/
theorem kprMove_of_write (t u : State) (i : FabInit) (off : Offset) (v : Word)
    (hq : t.dev.kq = [⟨i, [(off, some v)], [], none⟩]) (hg : fabricGuard t i off.toNat true = none)
    (hs : t.dev.stuck = false) (ho : off.toNat < 0x8000000) (hw : writeReg t i off v = u) (hu : u.dev.kq = t.dev.kq) :
    kprMove t = withKq u [⟨i, [], [], none⟩] := by
  unfold kprMove
  rw [hq]
  simp only [Option.isSome_some, hg, served_of hs ho, Bool.false_eq_true, if_false, onFabricDie, accessWord, hw, hu, hq]
  rw [if_neg (by simp; omega)]
  simp [wordDone]

/-- An access whose words are all done is answered. -/
theorem kprMove_answer (s : State) (i : FabInit) (got : List Word) :
    kprMove (withKq s [⟨i, [], got, none⟩]) = answerAccess (withKq s []) ⟨i, [], got, none⟩ := rfl

theorem kprMove_idle (s : State) (h : s.dev.kq = []) : kprMove s = s := by
  unfold kprMove; rw [h]

theorem answerAccess_kq (s : State) (a : KAcc) : (answerAccess s a).dev.kq = s.dev.kq := by
  unfold answerAccess
  split
  · rfl
  · split <;> rfl

theorem withKq_self (s : State) (h : s.dev.kq = []) : withKq s [] = s := by
  cases s with
  | mk regs cap banks dev => cases dev; cases h; rfl

/-- A read of one word. -/
theorem arrive_read (s : State) (i : FabInit) (off : Offset) (hp : s.dev.pkgReset = false) (hs : s.dev.stuck = false)
    (hq : s.dev.kq = []) (ho : off.toNat < 0x8000000) (hg : fabricGuard s i off.toNat false = none) :
    arriveAccess s i [(off, none)] =
      answerAccess (readReg s off.toNat).1 ⟨i, [], [(readReg s off.toNat).2], none⟩ := by
  have hk : (readReg s off.toNat).1.dev.kq = [] := by rw [readReg_dev]; exact hq
  unfold arriveAccess pumpKeeper
  rw [if_neg (by simp [hp]), hq]
  show kprMoves (withKq s [⟨i, [(off, none)], [], none⟩]) 3 = _
  simp only [kprMoves]
  rw [kprMove_read s i off [] [] hg hs ho, kprMove_answer, withKq_self _ hk, kprMove_idle _ (by rw [answerAccess_kq]; exact hk)]
  rfl

/-- A read of two consecutive words. -/
theorem arrive_read_two (s : State) (i : FabInit) (off off2 : Offset) (hp : s.dev.pkgReset = false)
    (hs : s.dev.stuck = false) (hq : s.dev.kq = []) (ho : off.toNat < 0x8000000) (ho2 : off2.toNat < 0x8000000)
    (hg : fabricGuard s i off.toNat false = none) (hg2 : fabricGuard s i off2.toNat false = none) :
    arriveAccess s i [(off, none), (off2, none)] =
      answerAccess (readReg (readReg s off.toNat).1 off2.toNat).1
        ⟨i, [], [(readReg s off.toNat).2, (readReg (readReg s off.toNat).1 off2.toNat).2], none⟩ := by
  have hd := readReg_dev s off.toNat
  have hk : (readReg (readReg s off.toNat).1 off2.toNat).1.dev.kq = [] := by rw [readReg_dev, hd]; exact hq
  have hg2' : fabricGuard (readReg s off.toNat).1 i off2.toNat false = none := by
    rw [fabricGuard_congr (by rw [hd]) (readReg_banks s _)]; exact hg2
  unfold arriveAccess pumpKeeper
  rw [if_neg (by simp [hp]), hq]
  show kprMoves (withKq s [⟨i, [(off, none), (off2, none)], [], none⟩]) 3 = _
  simp only [kprMoves]
  rw [kprMove_read s i off _ [] hg hs ho, kprMove_read _ i off2 _ _ hg2' (by rw [hd]; exact hs) ho2, kprMove_answer,
    withKq_self _ hk]
  rfl

/-- A write of one word that leaves the waiting accesses alone. -/
theorem arrive_write (s : State) (i : FabInit) (off : Offset) (v : Word) (hp : s.dev.pkgReset = false)
    (hs : s.dev.stuck = false) (hq : s.dev.kq = []) (ho : off.toNat < 0x8000000)
    (hg : fabricGuard s i off.toNat true = none)
    (hw : ∀ l, writeReg (withKq s l) i off v = withKq (plainWrite s off.toNat v) l) :
    arriveAccess s i [(off, some v)] = plainWrite s off.toNat v := by
  unfold arriveAccess pumpKeeper
  rw [if_neg (by simp [hp]), hq]
  show kprMoves (withKq s [⟨i, [(off, some v)], [], none⟩]) 3 = _
  have h1 : kprMove (withKq s [⟨i, [(off, some v)], [], none⟩]) = withKq (plainWrite s off.toNat v) [⟨i, [], [], none⟩] :=
    kprMove_of_write (withKq s _) (withKq (plainWrite s off.toNat v) [⟨i, [(off, some v)], [], none⟩]) i off v rfl ((fabricGuard_congr rfl rfl i _ _).trans hg) hs ho (hw _) rfl
  simp only [kprMoves]
  have hk : (plainWrite s off.toNat v).dev.kq = [] := hq
  rw [h1, kprMove_answer, withKq_self _ hk]
  exact kprMove_idle _ hk

end Sys2Proof.Laws
end

