-- ==== Sys2Proof/Laws/Delivery.lean ====
section
/-! SUPPORT. An effect on a running fabric die takes place, and a message that arrives at a unit in service reaches it. -/

set_option Elab.async false

namespace Sys2Proof.Laws

open Sys2Proof.Machine

theorem onFabric_of_running {s : State} (h : s.dev.fabReset = false) (t : State) : onFabric s t = t := by simp [onFabric, h]

theorem receive_of_arrives {s u : State} {c : Instr} (h : Arrives s c u) (k : State → State) : receive s c k = k u := by
  obtain ⟨h1, h2⟩ := h
  unfold receive
  cases hm : msgUnit c with
  | none => simp [h1]
  | some x => simp [h1, h2 x hm]

end Sys2Proof.Laws
end

