-- ==== Sys2Proof/Laws/Layout.lean ====
section
/-! SUPPORT. Fields that are packed into a word are read back from it, each modulo its size; and a packed word fits its
widths. -/

set_option Elab.async false

namespace Sys2Proof.Laws

open Sys2Proof.Machine

@[simp] theorem pack_nil : pack [] = 0 := rfl
@[simp] theorem pack_cons (f : Nat × Nat) (t : List (Nat × Nat)) : pack (f :: t) = f.2 % 2 ^ f.1 + 2 ^ f.1 * pack t := rfl
@[simp] theorem unpack_nil (n : Nat) : unpack [] n = [] := rfl
@[simp] theorem unpack_cons (w : Nat) (t : List Nat) (n : Nat) : unpack (w :: t) n = n % 2 ^ w :: unpack t (n / 2 ^ w) := rfl

theorem pack_mod (f : Nat × Nat) (n : Nat) : (f.2 % 2 ^ f.1 + 2 ^ f.1 * n) % 2 ^ f.1 = f.2 % 2 ^ f.1 := by
  rw [Nat.add_mul_mod_self_left, Nat.mod_mod]

theorem pack_div (f : Nat × Nat) (n : Nat) : (f.2 % 2 ^ f.1 + 2 ^ f.1 * n) / 2 ^ f.1 = n := by
  rw [Nat.add_mul_div_left _ _ (Nat.two_pow_pos _), Nat.div_eq_of_lt (Nat.mod_lt _ (Nat.two_pow_pos _)), Nat.zero_add]

/-- Every field is read back. -/
theorem unpack_pack (l : List (Nat × Nat)) : unpack (l.map (·.1)) (pack l) = l.map (fun f => f.2 % 2 ^ f.1) := by
  induction l with
  | nil => rfl
  | cons f t ih => simp only [List.map_cons, pack_cons, unpack_cons, pack_mod, pack_div, ih]

/-- A packed word takes as many bits as its fields. -/
theorem pack_lt (l : List (Nat × Nat)) : pack l < 2 ^ (l.map (·.1)).sum := by
  induction l with
  | nil => simp
  | cons f t ih =>
    have h1 : f.2 % 2 ^ f.1 < 2 ^ f.1 := Nat.mod_lt _ (Nat.two_pow_pos _)
    have h2 : pack t + 1 ≤ 2 ^ (t.map (·.1)).sum := ih
    have h3 : 2 ^ f.1 * (pack t + 1) ≤ 2 ^ f.1 * 2 ^ (t.map (·.1)).sum := Nat.mul_le_mul_left _ h2
    rw [pack_cons, List.map_cons, List.sum_cons, Nat.pow_add]
    rw [Nat.mul_add] at h3
    omega

end Sys2Proof.Laws
end

