-- ==== Sys2Proof/Laws/SteadyTick.lean ====
section
/-! SUPPORT. Every operation of Machine/Tick.lean is steady. -/

set_option Elab.async false
set_option linter.unusedTactic false
set_option linter.unreachableTactic false

namespace Sys2Proof.Laws

open Sys2Proof.Machine

variable {q0 : Part → Bool} {z0 : State}

theorem coachCorrects_st {s : State} {k : ℕ} (hs : Steady q0 z0 s) (c0 : q0 .regs = false := by assumption) (c7 : q0 .links = false := by assumption) (c8 : q0 .fns = false := by assumption) (c10 : q0 .snap = false := by assumption) (c13 : q0 .noc = false := by assumption) (c19 : q0 .flight = false := by assumption) (c20 : q0 .out = false := by assumption) :
    Steady q0 z0 (coachCorrects s k) := by
  unfold coachCorrects; try (dsimp only)
  with_reducible repeat' (first | assumption | intro _ | apply Steady.ite | refine count_bg ?_ (by constructor) | split)

theorem laneSymErr_st {s : State} {n : ℕ} (hs : Steady q0 z0 s) (c0 : q0 .regs = false := by assumption) (c7 : q0 .links = false := by assumption) (c8 : q0 .fns = false := by assumption) (c10 : q0 .snap = false := by assumption) (c13 : q0 .noc = false := by assumption) (c19 : q0 .flight = false := by assumption) (c20 : q0 .out = false := by assumption) :
    Steady q0 z0 (laneSymErr s n) := by
  unfold laneSymErr; try (dsimp only)
  with_reducible repeat' (first | assumption | intro _ | apply Steady.ite | refine count_bg ?_ (by constructor) | split)

theorem laneCheckErr_st {s : State} {n : ℕ} (hs : Steady q0 z0 s) (c0 : q0 .regs = false := by assumption) :
    Steady q0 z0 (laneCheckErr s n) := by
  unfold laneCheckErr; try (dsimp only)
  with_reducible repeat' (first | assumption | intro _ | apply Steady.ite | refine setReg_bg ?_ (by constructor) | split)

theorem upset_st {s : State} (hs : Steady q0 z0 s) (c0 : q0 .regs = false := by assumption) (c7 : q0 .links = false := by assumption) (c8 : q0 .fns = false := by assumption) (c10 : q0 .snap = false := by assumption) (c13 : q0 .noc = false := by assumption) (c14 : q0 .buf = false := by assumption) (c19 : q0 .flight = false := by assumption) (c20 : q0 .out = false := by assumption) (c21 : q0 .fresh = false := by assumption) :
    Steady q0 z0 (upset s) := by
  unfold upset; try (dsimp only)
  with_reducible repeat' (first | assumption | intro _ | apply Steady.ite | apply laneCheckErr_st | apply laneSymErr_st | apply coachCorrects_st | apply cellLost_st | apply cellPoisons_st | apply cellCorrects_st | apply usedFree_st | refine elim_st ?_ (fun _ => ?_) | split)

theorem perfTick_st {s : State} (hs : Steady q0 z0 s) (c0 : q0 .regs = false := by assumption) (c10 : q0 .snap = false := by assumption) :
    Steady q0 z0 (perfTick s) := by
  unfold perfTick; try (dsimp only)
  with_reducible repeat' (first | assumption | intro _ | apply Steady.ite | apply perfAdd_st | apply forAll_st | split)

theorem tick_st {s : State} (hs : Steady q0 z0 s) (c0 : q0 .regs = false := by assumption) (c1 : q0 .settings = false := by assumption) (c7 : q0 .links = false := by assumption) (c8 : q0 .fns = false := by assumption) (c10 : q0 .snap = false := by assumption) (c13 : q0 .noc = false := by assumption) (c14 : q0 .buf = false := by assumption) (c19 : q0 .flight = false := by assumption) (c20 : q0 .out = false := by assumption) (c21 : q0 .fresh = false := by assumption) :
    Steady q0 z0 (tick s) := by
  unfold tick; try (dsimp only)
  with_reducible repeat' (first | assumption | intro _ | apply Steady.ite | apply perfTick_st | apply upset_st | apply perfAnnounce_st | apply onFabric_st | apply wr64_st | split)

end Sys2Proof.Laws
end

