-- ==== Sys2Proof/WellFormed.lean ====
section
/-! DEFINITION. Which commands are well formed: the operands that the spec's formats and protocols allow. What the spec
answers with an error, a drop or a refusal (a misaligned access, a bad doorbell) is well formed here whenever a sender can
send it; `exec` gives every command a meaning, well formed or not. -/

namespace Sys2Proof

/-- A register offset is a multiple of 4 (R11). -/
def wordAligned (off : Offset) : Bool := off.toNat % 4 == 0
/-- An access of the management endpoint addresses at least one byte and carries no data beyond its width (R11). -/
def accessOk (width : Nat) (write : Option (BitVec 64)) : Bool :=
  decide (0 < width) && write.all (fun v => decide (v.toNat < 2 ^ (8 * width)))
/-- An SPI program lies within one 4 KiB page and carries data (R571). -/
def programOk (off : BitVec 32) (data : List Byte) : Bool :=
  decide (0 < data.length) && decide (off.toNat % 4096 + data.length ≤ 4096)
/-- An extent lies in the 64 TiB of pool addresses (R50). -/
def extentOk (e : Extent) : Bool := decide (0 < e.length) && decide (e.start + e.length ≤ 2 ^ 46)
/-- An agent ID that some agent can have: IDs 384 to 511 of a twin are reserved (R24). -/
def agentOk (a : Agent) : Bool := decide (a.toNat % 512 < 384)
/-- The sender and receiver fields of a header name an agent or hold the empty marker, DEST an attachment, and STATUS
one of the four assigned values (R24, R100). -/
def headerOk (m : Hdr) : Bool :=
  (agentOk m.src || m.src == 0x3FF) && (agentOk m.tgt || m.tgt == 0x3FF) && decide (m.dest.toNat < 144) &&
    decide (m.status.toNat < 4)
/-- A request names the agent that sends it (R100). -/
def requestOk (m : Hdr) : Bool := agentOk m.src && headerOk m
/-- OFFSET of a far atomic is a multiple of its size (R151). -/
def atomicOk (a : AtomicOp) : Bool := a.offset.toNat % (if a.size8 = true then 8 else 4) == 0
/-- A journal record: an empty record has all bits zero but for ACT, and no record of act other than write has a STATE
(R471). -/
def recordOk (r : JrnRec) : Bool :=
  match r.act with
  | .empty => r == ⟨.empty, false, false, 0, 0, 0, 0, 0, 0, 0⟩
  | .write => true
  | .remove | .reclaim => ! r.owned
/-- A batch holds 1 to 16 records of the journal (R472). -/
def batchOk (l : List JrnRec) : Bool := decide (0 < l.length) && decide (l.length ≤ 16) && l.all recordOk
/-- Unit numbers and counts of steal messages have 20 bits and the thief is a coach (R24, R294). -/
def stealOk (m : StealMsg) : Bool :=
  agentOk m.thief && decide (128 ≤ m.thief.toNat % 512) && decide (m.first < 2 ^ 20) && decide (m.count < 2 ^ 20)
/-- A migration message: the watermark is a granule of a segment or its end, the sender a coach (R295). -/
def migrationOk (m : MigMsg) : Bool :=
  decide (m.w ≤ 2 ^ 18) && agentOk m.coach && decide (128 ≤ m.coach.toNat % 512)
/-- A packet of the crossbar has bytes, at most 33 cells of 128 bytes (R236). -/
def packetOk (p : RxPacket) : Bool := decide (0 < p.bytes) && decide (p.bytes ≤ 4224)
/-- A lane that a spare can take over: lanes 0 to 15 of its block or of the twin link (R364). -/
def laneOk (lane : BitVec 5) : Bool := decide (lane.toNat < 16)
/-- A peer-window TLP addresses 1 byte to 4 KiB and does not cross a 4 KiB boundary (R411). -/
def peerOk (t : PeerTlp) : Bool := decide (0 < t.bytes) && decide (t.off % 4096 + t.bytes ≤ 4096)

/-- The well-formed commands. -/
def Instr.wf (i : Instr) : Bool :=
  match i with
  | .registerWrite _ off _ => wordAligned off
  | .mgmtEndpointAccess _ width write => accessOk width write
  | .wideRegisterLowRead _ off => wordAligned off
  | .counterClearWrite _ off _ => wordAligned off
  | .debugAccess off _ => wordAligned off
  | .smbusWriteRegister .. | .smbusLatchOffset .. | .smbusReadRegister .. | .spiReadId .. | .spiReadStatus ..
  | .spiWriteEnable .. => true
  | .spiRead _ len => decide (0 < len)
  | .spiProgram off data => programOk off data
  | .spiErasePage .. | .spiOperationDone .. | .mgmtPerst .. | .refclkLoss .. | .refclkRestored ..
  | .rootPllLockLoss .. | .serdesPllLockLoss .. | .cellFence .. | .cellUnfence .. | .m2sMemrd ..
  | .m2sMemrddata .. | .m2sMeminv .. | .m2sMemspecrd .. | .m2sMemclnevct .. | .m2sMemwr .. | .m2sMemwrptl ..
  | .m2sBirsp .. | .m2sBiconflict .. | .tagLineFill .. | .tagInvalidate .. | .tagInvalidateDone ..
  | .getDynamicCapacityConfiguration .. => true
  | .getDynamicCapacityExtentList _ _ count => decide (count < 2 ^ 32)
  | .addDynamicCapacityResponse _ l => l.all extentOk
  | .releaseDynamicCapacity _ l => l.all extentOk
  | .getEventRecords .. | .clearEventRecords .. | .purgeSweepDone .. | .bind .. | .bindAck ..
  | .colourInitStart .. | .colourInitDone .. => true
  | .rdshared _ _ m _ => requestOk m
  | .rdown _ _ m _ => requestOk m
  | .upgrade _ _ m _ => requestOk m
  | .rdcur _ _ m _ => requestOk m
  | .wrline _ _ m _ => requestOk m
  | .wrpart _ _ m _ => requestOk m
  | .wbdirty _ _ m _ => requestOk m
  | .evict _ _ m _ => requestOk m
  | .atomicfar _ _ m a _ => requestOk m && atomicOk a
  | .memrd m => headerOk m
  | .memrdIssue .. | .expanderReadData .. | .expanderWriteCompletion .. => true
  | .cmps m => headerOk m
  | .cmpo m => headerOk m
  | .cmp m _ => headerOk m
  | .err m => headerOk m
  | .datago m => headerOk m
  | .wbdata m _ _ => headerOk m
  | .fill m _ => headerOk m
  | .memcmp m => headerOk m
  | .backinv m => headerOk m
  | .backdown m => headerOk m
  | .backinvBroadcast _ m => headerOk m && m.bcast
  | .biack m => headerOk m
  | .biackagg _ _ m => headerOk m
  | .broadcastAggTimeout _ m => headerOk m && m.bcast
  | .ack m => headerOk m
  | .journalBatchTimeout .. => true
  | .jrnbatch _ recs => batchOk recs
  | .jrnack .. | .homeTimeout .. | .journalStall .. => true
  | .requestTimeout agent _ => agentOk agent
  | .memrdTimeout .. | .deviceWriteTimeout .. => true
  | .lossNotice _ agent => agentOk agent
  | .purgeScanDone .. | .dirPurge .. | .decayWalk .. | .dirAtomCfgWrite .. | .dirDrain .. | .sliceReset ..
  | .bankReset .. | .sliceResetDone .. | .dirPeek .. => true
  | .doorbell _ _ off size _ => decide (off < 0x100000) && decide (0 < size)
  | .descriptorFetchDone .. | .dmaReadTimeout .. | .coachTakeUnit .. => true
  | .stealreq _ m => stealOk m && ! m.grant
  | .stealrep m => stealOk m
  | .unitend m => stealOk m && ! m.grant && m.count == 1
  | .landingGrant .. | .recordWrite .. => true
  | .migmark _ m => migrationOk m
  | .migadvance _ m => migrationOk m
  | .migunmark _ m => migrationOk m
  | .migack .. | .migStepTimeout .. | .taginv .. | .tagack .. | .coachFault .. | .coachRetire ..
  | .coachRetireDone .. | .coachReset .. | .coachSelfTestDone .. | .coachReinstate .. | .chanCreate ..
  | .chanDestroy .. | .chanReset .. | .chanRehome .. | .chCtrlReset .. | .chCtrlAbort .. => true
  | .packetReceived p => packetOk p
  | .holdListRelease .. | .flowTagRefresh .. | .auditSweepStart .. | .auditSweepEnd ..
  | .routerFlitArrival .. => true
  | .creditret _ _ _ count _ _ => decide (1 ≤ count.toNat) && decide (count.toNat ≤ 4)
  | .drainmark .. | .drainecho .. | .reservationExpiry .. | .regulatedInjection .. | .routerParityError .. => true
  | .kpracc m => wordAligned m.offset
  | .kprrsp .. | .laneFailing .. => true
  | .spareSubst _ lane => laneOk lane
  | .spareRestore _ lane => laneOk lane
  | .spareFailure .. | .lanePowerForce .. | .loopbackModeWrite .. => true
  | .dataFlit _ f => decide (1 ≤ f.len.toNat) && decide (f.len.toNat ≤ 240)
  | .flitCrcFail .. | .ackFlit .. | .nak .. | .replay .. | .compFlit .. | .ackIdleExpiry ..
  | .nakResendTimeout .. | .replayTimeout .. | .recoveryTimeout .. | .linkTrained .. | .linkRetrain ..
  | .linkDown .. => true
  | .spareReq _ lane _ => laneOk lane
  | .spareAck _ lane _ => laneOk lane
  | .spareNak _ lane _ => laneOk lane
  | .spareDone _ lane _ => laneOk lane
  | .spareReqResend .. | .spareAligned .. => true
  | .restoreReq _ lane _ => laneOk lane
  | .restoreAck _ lane _ => laneOk lane
  | .configRequest _ _ off _ => off.toNat % 4 == 0
  | .vfEnableClear .. | .busMasterEnableSet .. | .powerStateWrite .. | .msixUnmask .. | .flr ..
  | .flrPeerDrained .. => true
  | .bar0Access a => decide (0 < a.size)
  | .peerRead t => peerOk t
  | .peerWrite t data => peerOk t && data.length == t.bytes
  | .peerAtomic t _ _ _ => peerOk t && (t.bytes == 4 || t.bytes == 8) && t.off % t.bytes == 0
  | .slotPowerOn .. | .slotPowerOff .. | .slotIndicator .. | .slotCommandCompleted .. | .boardInserted ..
  | .presenceLost .. | .fastTrip .. | .circuitBreakerExpiry .. | .rampTimeout .. | .powerGoodAssert ..
  | .powerGoodLoss .. | .perstDlyExpiry .. | .feedGood .. | .feedLost .. | .reverseCurrent ..
  | .breakElapsed .. | .feedReturnExpiry .. | .retryElapsed .. | .sidebandScan .. | .txnBegin ..
  | .txnJoin .. | .txnCommit .. | .txnRollback .. | .txnPersist .. | .persistDone .. => true
  | .structuralWrite _ off _ => wordAligned off
  | .shadowWr _ off _ => wordAligned off
  | .shadowAck _ off => wordAligned off
  | .txnIdleTimeout .. | .prepare .. | .epochDrainDone .. | .prepared .. | .refused .. | .switch ..
  | .switched .. | .switchedTimeout .. | .abort .. | .imgLoad .. | .imgLoadDone .. | .beaconSend ..
  | .beacon .. | .beaconWindowMiss .. | .takeover .. | .takeoverQuietEnd .. | .takeoverComplete ..
  | .recoverySweepDone .. | .handoverWrite .. | .handover .. | .handoverDrained .. | .handoverDone ..
  | .joinWaitExpiry .. | .directorySliceRepair .. | .homing .. | .homingDone .. | .syncDone ..
  | .setrecall .. | .evtfwd .. | .evtPendClear .. | .troubleJournalPeriod .. | .perfSnapEnable ..
  | .snapshotCapture .. | .snapshotRecordDone .. | .resetPin .. | .twinRstIn .. | .rstTwinOrder ..
  | .rstSw .. | .keeperWatchdogRestart .. | .keeperWatchdogReset .. | .stateParityError ..
  | .fabricSupplyFault .. | .keeperSupplyFault .. | .thermal .. | .portPerstAssert .. | .portPerstDeassert ..
  | .debugReset .. | .powerOnRelease .. | .resetRelease .. | .supplyTroubleStart .. | .supplyTroubleEnd .. => true
  | .rstOtpProgram source level => decide (source.toNat < 24) && decide (level.toNat < 5)
  | .rstOtpDone .. | .keeperBoot .. | .regionSelfTestDone .. | .structureLoad .. | .slotGroupPower ..
  | .fabricReady .. | .crossbarCellTime .. => true
  | .flowControlUpdate _ _ _ credits => decide (0 < credits.hdr + credits.data)
  | .standardLinkRecovery .. | .checkerLock .. | .presenceDebounced .. | .flrComplete ..
  | .fabricPowerGood .. | .devicePortTrainTimeout .. | .retryStatusTimeout .. | .troubleJournalWriteDone ..
  | .perfCounterOverflow .. => true

end Sys2Proof
end

