-- ==== Sys2Proof/Tests/Slice0.lean ====
section
/-! SUPPORT. Small tests by the kernel: ill-formed commands that WellFormed refuses, states and operands that meet the
hypotheses of each statement together (the variables that a statement defines by an equation are put in by that equation),
and single steps on small states against the spec's own numbers. -/

set_option Elab.async false

namespace Sys2Proof.Tests

open Sys2Proof.Machine

/-- Words by offset, in canonical order. -/
def tWords (l : List (Nat × Word)) : SMap Word := l.foldl (fun m e => sIns m e.1 e.2) []

/-- Both dies out of reset with the keeper running, the given register words and the given live structure words. -/
def tS (r l : List (Nat × Word)) : State :=
  { State.reset with
    dev := { State.reset.dev with pkgReset := false, fabReset := false, keeperRun := true, held := [] }
    regs := tWords r, banks := ⟨tWords l, [], []⟩ }

/-- A message that is not in the network, from this twin, for a unit in service. -/
def tHere (s : State) (c : Instr) : Bool :=
  (msgUnit c).all (fun x => ! unitDown s x) && (s.flight.find? (fun g => g.cmd == c)).isNone &&
    (msgInfo s c).all (fun i => i.init != twinEp)

theorem tArrives {s : State} {c : Instr} (h : tHere s c = true) : Arrives s c s := by
  unfold tHere at h
  rw [Bool.and_eq_true, Bool.and_eq_true] at h
  obtain ⟨⟨h1, h2⟩, h3⟩ := h
  refine ⟨?_, fun x hx => ?_⟩
  · unfold eject
    rw [Option.isNone_iff_eq_none.mp h2]
    cases hm : msgInfo s c with
    | none => rfl
    | some i => rw [hm] at h3; simp at h3; simp [h3]
  · rw [hx] at h1; simpa using h1

/-- A message of the other twin that has come to its destination interface. -/
def tFly (s : State) (c : Instr) (net : Net) (dest : Nat) : State :=
  { s with flight := [{ cmd := c, init := twinEp, dest := dest, net := net, cred := false }] }

theorem tArrivesFly {s : State} {c : Instr} {net : Net} {dest : Nat} (hs : s.flight = [])
    (h : (msgUnit c).all (fun x => ! unitDown s x) = true) : Arrives (tFly s c net dest) c s := by
  refine ⟨?_, fun x hx => ?_⟩
  · cases s
    simp_all [eject, tFly, mayEject, takeOff]
  · rw [hx] at h; simpa using h

/-! ### Commands that are not well formed -/

theorem test_wf_word_alignment : Instr.wf (.registerWrite .keeper 0x102 0) = false ∧
    Instr.wf (.wideRegisterLowRead .keeper 0x101) = false ∧ Instr.wf (.counterClearWrite .keeper 0x2FE 0) = false ∧
    Instr.wf (.debugAccess 0x3 none) = false ∧ Instr.wf (.structuralWrite .keeper 0x2 0) = false ∧
    Instr.wf (.shadowWr 0 0x5 0) = false ∧ Instr.wf (.shadowAck 0 0x5) = false ∧
    Instr.wf (.kpracc ⟨true, .keeper, 0, 0x6, 0⟩) = false ∧ Instr.wf (.configRequest 0 0 0x12 none) = false := by
  decide +kernel
theorem test_wf_accesses : Instr.wf (.mgmtEndpointAccess 0 0 none) = false ∧
    Instr.wf (.mgmtEndpointAccess 0 4 (some 0x100000000)) = false ∧ Instr.wf (.spiRead 0 0) = false ∧
    Instr.wf (.spiProgram 0xFFF [0, 0]) = false ∧ Instr.wf (.spiProgram 0 []) = false ∧
    Instr.wf (.bar0Access ⟨0, 1, 0, 0, 0, none⟩) = false ∧ Instr.wf (.doorbell 0 1 0x100000 4 0) = false := by
  decide +kernel
theorem test_wf_extents : Instr.wf (.addDynamicCapacityResponse 0 [⟨0, 0⟩]) = false ∧
    Instr.wf (.releaseDynamicCapacity 0 [⟨2 ^ 46 - 1, 2⟩]) = false ∧
    Instr.wf (.getDynamicCapacityExtentList 0 0 (2 ^ 32)) = false := by decide +kernel
theorem test_wf_headers : Instr.wf (.requestTimeout 384 0) = false ∧ Instr.wf (.lossNotice 0 0x3FF) = false ∧
    Instr.wf (.rdshared 0 0 { src := 0x3FF } .clean) = false ∧ Instr.wf (.memrd { dest := 144 }) = false ∧
    Instr.wf (.cmp { status := 4 } {}) = false ∧ Instr.wf (.backinvBroadcast 0 {}) = false ∧
    Instr.wf (.broadcastAggTimeout 0 {}) = false ∧
    Instr.wf (.atomicfar 0 0 { src := 1 } ⟨0, true, 4, 0, 0⟩ .clean) = false := by decide +kernel
theorem test_wf_journal : Instr.wf (.jrnbatch 0 []) = false ∧
    Instr.wf (.jrnbatch 0 [{ act := .remove, owned := true }]) = false ∧
    Instr.wf (.jrnbatch 0 [{ act := .empty, ptr0 := 1, ptr1 := 0, ptr2 := 0 }]) = false := by decide +kernel
theorem test_wf_coaches : Instr.wf (.stealreq 0 { thief := 127 }) = false ∧
    Instr.wf (.stealrep { thief := 128, count := 2 ^ 20 }) = false ∧ Instr.wf (.unitend { thief := 128, count := 2 }) = false ∧
    Instr.wf (.migmark 0 ⟨0, 2 ^ 18 + 1, 0, 128, false⟩) = false ∧
    Instr.wf (.migadvance 0 ⟨0, 0, 0, 127, false⟩) = false := by decide +kernel
theorem test_wf_links : Instr.wf (.packetReceived ⟨0, 0, .P, 4225, .port 0, false, false, false, 0, 4, 0, 0, 1, 0, false, .clean⟩) = false ∧
    Instr.wf (.flowControlUpdate 0 0 .P ⟨0, 0⟩) = false ∧ Instr.wf (.creditret 0 .rsp 0 5 0 0) = false ∧
    Instr.wf (.dataFlit .twin { len := 241 }) = false ∧ Instr.wf (.spareSubst .twin 16) = false ∧
    Instr.wf (.spareReq .twin 16 false) = false := by decide +kernel
theorem test_wf_peers : Instr.wf (.peerRead ⟨0, 1, 0xFFF, 2, 0⟩) = false ∧ Instr.wf (.peerWrite ⟨0, 1, 0, 2, 0⟩ [1]) = false ∧
    Instr.wf (.peerAtomic ⟨0, 1, 4, 8, 0⟩ .fetchAdd 0 0) = false ∧ Instr.wf (.rstOtpProgram 24 0) = false ∧
    Instr.wf (.rstOtpProgram 0 5) = false := by decide +kernel
theorem test_wf_accepts : Instr.wf (.registerWrite .keeper 0x2000100 1) = true ∧ Instr.wf (.rdshared 0 0 { src := 383 } .clean) = true ∧
    Instr.wf (.dataFlit .twin { len := 240 }) = true ∧ Instr.wf (.peerRead ⟨0, 1, 0xFFE, 2, 0⟩) = true := by decide +kernel
/-- The table gives no command bits. -/
theorem test_decode_none : decodeTableWord 32 0 = none := rfl

/-! ### The hypotheses of the statements: the block, the management accesses -/

/-- Fabric guard denying by DEFAULT: a structure has been loaded and no entry matches. -/
def tGuard : State := { tS [] [] with dev := { (tS [] []).dev with afterPackage := false } }
def tSpi (op : Option SpiOp) : State :=
  { tS [(R.RST_SUP_STATUS, 0)] [] with dev := { (tS [] []).dev with spiMode := true, spiWel := true, spiOp := op } }

theorem test_hyp_StepRunsFrontCommand : ({ tS [] [] with pending := [.mgmtPerst, .epochDrainDone] } : State).pending = .mgmtPerst :: [.epochDrainDone] := rfl
theorem test_hyp_IdleStepCountsTime : State.reset.pending = [] ∧ State.reset.dev.fabReset = true ∧
    (tS [] []).pending = [] ∧ (tS [] []).dev.fabReset = false := by decide +kernel
theorem test_hyp_StepKeepsInvariant : Inv State.reset ∧ step State.reset = .next State.reset := ⟨by unfold Inv; decide +kernel, rfl⟩
theorem test_hyp_CommandsKeepQueueAndHistory : exec .mgmtPerst State.reset = .next State.reset := rfl
theorem test_hyp_FabricInResetDoesNothing : (Instr.memrdIssue 0).onFabricDie = true ∧ State.reset.dev.fabReset = true := by
  decide +kernel
theorem test_hyp_TrafficChangesNoConfiguration : (Instr.memrdIssue 0).traffic = true ∧
    exec (.memrdIssue 0) State.reset = .next State.reset := ⟨by decide +kernel, rfl⟩
theorem test_hyp_RegisterWriteByAccessCodes : (tS [] []).dev.pkgReset = false ∧ unserved (tS [] []) R.PERF_SNAP_SIZE = false ∧
    fabricGuard (tS [] []) .keeper R.PERF_SNAP_SIZE true = none ∧ plainWord R.PERF_SNAP_SIZE = true ∧
    plainWord (R.COACH_HOUSE_CTRL 15) = true ∧ plainWord (R.COACH_CTRL 255) = false ∧
    unserved (tS [] []) (R.COACH_HOUSE_CTRL 15) = false ∧ fabricGuard (tS [] []) .keeper (R.COACH_HOUSE_CTRL 15) true = none ∧
    imgBufWord 0x201FFFC = some 16383 ∧ unserved (tS [] []) 0x201FFFC = false ∧ fabricGuard (tS [] []) .keeper 0x201FFFC true = none ∧
    clearsAt R.TWIN_CNT_CLEAR ≠ [] := by decide +kernel
theorem test_hyp_RegisterWriteByAccessCodes_go : unserved (tS [] []) R.STX_TXN_CTRL = false ∧
    fabricGuard (tS [] []) .keeper R.STX_TXN_CTRL true = none ∧ bitAt 0x80000005#32 31 = true ∧ fld 0x80000005#32 3 0 = 5 ∧
    fld 0x80000001#32 3 0 = 1 ∧ fld 0x80000002#32 3 0 = 2 ∧ fld 0x80000003#32 3 0 = 3 ∧ fld 0x80000004#32 3 0 = 4 ∧
    bitAt 0x7FFFFFFF#32 31 = false ∧ unserved (tS [] []) R.STX_CHAN_CMD = false ∧
    fabricGuard (tS [] []) .keeper R.STX_CHAN_CMD true = none := by decide +kernel
theorem test_hyp_RefusedManagementAccess : tGuard.dev.pkgReset = false ∧
    fabricGuard tGuard .keeper R.STX_TXN_CFG true = some ⟨2, 0x7F, R.STX_TXN_CFG⟩ ∧
    fabricGuard tGuard .smbus R.STX_TXN_CFG false = some ⟨2, 0x7F, R.STX_TXN_CFG⟩ := by decide +kernel
theorem test_hyp_WideRegisterReadCaptures : (tS [] []).dev.pkgReset = false ∧ unserved (tS [] []) (R.RST_TIME + 4) = false ∧
    fabricGuard (tS [] []) .endpoint R.RST_TIME false = none ∧ (findReg R.RST_TIME).map (·.2) = some 0 ∧
    (findReg (R.RST_TIME + 4)).map (·.2) = some 1 ∧ findReg 0xFFFFFFC = none ∧ imgBufWord 0xFFFFFFC = none ∧
    unserved (tS [] []) 0xFFFFFFC = false := by decide +kernel
theorem test_hyp_CounterClearWriteClears : (tS [] []).dev.pkgReset = false ∧ unserved (tS [] []) R.TWIN_CNT_CLEAR = false ∧
    fabricGuard (tS [] []) .keeper R.TWIN_CNT_CLEAR true = none ∧ R.TWIN_CNT_CLEAR ≠ R.RST_FG_CNT_CLEAR ∧
    R.TWIN_CNT_CLEAR ≠ R.TWIN_GUARD_CNT_CLEAR ∧ (clearsAt R.TWIN_CNT_CLEAR).length = 4 ∧ bitAt 0x8#32 3 = true ∧
    unserved (tS [] []) R.TWIN_GUARD_CNT_CLEAR = false ∧ fabricGuard (tS [] []) .keeper R.TWIN_GUARD_CNT_CLEAR true = none ∧
    unserved (tS [] []) R.RST_FG_CNT_CLEAR = false ∧ fabricGuard (tS [] []) .keeper R.RST_FG_CNT_CLEAR true = none := by
  decide +kernel
theorem test_hyp_ManagementReadsAnswer : (tS [] []).dev.pkgReset = false ∧ (tS [] []).dev.stuck = false ∧
    (tS [] []).dev.kq = [] ∧ 0x7FFFFF4 < 0x7FFFFF8 ∧ 0x7FFFFF4 % 4 = 0 ∧ 0x7FFFFF0 % 8 = 0 ∧
    fabricGuard (tS [] []) .endpoint 0x7FFFFF0 false = none ∧ fabricGuard (tS [] []) .endpoint 0x7FFFFF4 false = none ∧
    fabricGuard (tS [] []) .debug 0x7FFFFF0 false = none ∧ fabricGuard (tS [] []) .smbus 0 false = none ∧
    (tS [] []).dev.smbOffset = (0 : Offset).setWidth 32 ∧ 2 ^ 28 ≤ (0x10000000#32).toNat ∧ ¬ (3 = 4 ∧ 0 % 4 = 0) ∧
    ¬ (8 = 8 ∧ (0x7FFFFF4#28).toNat % 8 = 0) := by decide +kernel
theorem test_hyp_ManagementWritesReach : (tS [] []).dev.kq = [] ∧ unserved (tS [] []) R.STX_TXN_CFG = false ∧
    R.STX_TXN_CFG % 4 = 0 ∧ onFabricDie R.STX_TXN_CFG = false ∧ plainWord R.STX_TXN_CFG = true ∧
    fabricGuard (tS [] []) .endpoint R.STX_TXN_CFG true = none ∧
    fabricGuard (tS [] []) .debug R.STX_TXN_CFG true = none ∧ fabricGuard (tS [] []) .smbus R.STX_TXN_CFG true = none ∧
    unserved (tS [] []) 0x8000000 = false ∧ onFabricDie 0x8000000 = true ∧ onFabricDie 0x7FFFFFC = false ∧
    fabricGuard (tS [] []) .endpoint 0x8000000 true = none ∧ fabricGuard (tS [] []) .debug 0x8000000 true = none ∧
    fabricGuard (tS [] []) .smbus 0x8000000 true = none ∧ (⟨.keeper, [(0x8000000, none)], [], some 255⟩ : KAcc).tag.isSome = true ∧
    (0xFFFFFFFC#32).toNat % 4 = 0 ∧ (0xFFFFFFFF#32).toNat % 4 ≠ 0 ∧ 2 ^ 28 ≤ (0xFFFFFFFC#32).toNat := by decide +kernel
theorem test_hyp_SpiModeCommands : (tSpi none).dev.spiMode = true ∧ (0xFFFFFFF#32).toNat + 1 ≤ 0x10000000 ∧
    (tSpi none).dev.spiWel = true ∧ (tSpi none).dev.spiOp = none ∧ inKeyRecord 0xFFFFFFF = false ∧
    supplyTrouble (tSpi none) = false ∧ (0xFFFFFFF#32).toNat % 4096 + [0x12#8].length ≤ 4096 ∧
    (tSpi (some (.program 0xFFFFFFF [0x12]))).dev.spiOp = some (.program 0xFFFFFFF [0x12]) ∧
    (tSpi (some (.erase 0xFFFF000))).dev.spiOp = some (.erase 0xFFFF000) := by decide +kernel

/-! ### Clocks, fences, the host's CXL.mem interface -/

theorem test_hyp_ClockLossHoldsFabric : (tS [] []).dev.pkgReset = false ∧ (tS [] []).dev.fabReset = false ∧
    (∀ s, s = { tS [(R.RST_BRINGUP, 2), (R.RST_SUP_STATUS, 0x30000000)] [] with
        dev := { (tS [] []).dev with fabReset := true, clkBad := true } } →
      s.dev.pkgReset = false ∧ s.dev.clkBad = true ∧ s.dev.stopDue = false ∧ rd s R.RST_BRINGUP 3 0 = 2 ∧
        rdBit s R.RST_SUP_STATUS 29 = true) := by
  refine ⟨rfl, rfl, fun s h => ?_⟩; subst h; decide +kernel

/-- A unit whose management parent is in reset, and one whose parent is not. -/
def tHeld : State := { tS [] [] with dev := { (tS [] []).dev with held := [.coachGroup 0] } }
theorem test_hyp_FencesAndSerdesLoss : tHeld.dev.fabReset = false ∧ Arrives tHeld (.cellFence (.coach 3)) tHeld ∧
    parentDown tHeld (.coach 3) = true ∧ parentDown tHeld (.coach 4) = false :=
  ⟨rfl, tArrives (by decide +kernel), by decide +kernel⟩

/-- A host port of one cell at port 0 with CXL.mem, at x4 ACTIVE, `bi` with back-invalidation; segment 1 is bound to it and
valid with MODE `mode`, no protection entry
matches and DEFAULT is as given; the line of the segment's colour 0 is in the tag cache. -/
def tHost (bi : Bool) (mode : Nat) (allow : Bool) : State :=
  let s := tS [(R.PB_LINK_STATUS 0 0, BitVec.ofNat 32 (2 * 2 ^ 29 + 2 ^ 19 + bi.toNat * 2 ^ 18)), (R.PB_CELL_CTRL 0 0, 0)]
    [(R.PB_PORT_CFG 0 0, 0x90000000), (R.SEG_BIND 0 0, 8), (R.SEG_ENTRY_W0 1, BitVec.ofNat 32 (2 ^ 31 + mode * 2 ^ 29)),
      ((ppuOf 0).window + 0xC00, if allow then 0x40000000 else 0), (R.SEG_CARVE_MAP 0, 0x80000002)]
  let c := addrLine (colourByte 2 0x40000040)
  { s with pool := { s.pool with tags := [(tagKey 0 c, [(c, 0)])] } }
def tCmd (k : ReqKind) (w : Bool) : HostCmd := ⟨0, k, 2 ^ 30 + 64, 7, if w then some (0, fullMask, false) else none⟩
theorem test_hyp_HostRequests_reach :
    (∀ s, s = { tHost true 1 true with pool := { (tHost true 1 true).pool with sweeps := [(0, 1)] } } →
      lateWrite s (bankNow s) (tCmd .wrLine true) = true) ∧
    hostCmd (.m2sMemrd 0 .S 0x40000040 7) = some (tCmd .rdShared false) ∧
    hostCmd (.m2sMemwr 0 0x40000040 7 0 false) = some (tCmd .wrLine true) ∧ hostUp (tHost true 1 true) 0 = true ∧
    portReach (bankNow (tHost true 1 true)) 0 0x3FFFFFFF = false ∧
    portReach (bankNow (tHost true 1 true)) 0 0x40000000 = true ∧
    portReach (bankNow (tHost true 1 true)) 0 0x7FFFFFFF = true ∧
    portReach (bankNow (tHost true 1 true)) 0 0x80000000 = false ∧
    bankFor (tHost true 1 true) (some (epochBit (tHost true 1 true))) = bankNow (tHost true 1 true) ∧
    lateWrite (tHost true 1 true) (bankNow (tHost true 1 true)) (tCmd .wrLine true) = false ∧
    segMode (bankNow (tHost false 1 true)) (segOf 0x40000040) = 1 ∧ biOn (tHost false 1 true) 0 = false := by
  refine ⟨fun s h => ?_, by decide +kernel⟩
  subst h; decide +kernel
theorem test_hyp_HostRequests_send : segMode (bankNow (tHost true 1 true)) (segOf 0x40000040) = 1 ∧ biOn (tHost true 1 true) 0 = true ∧
    (∃ t, hostVerdict (tHost true 1 true) (tCmd .rdShared false) (epochBit (tHost true 1 true)) false = .pass t ∧
      (freeHostTag t 0).isSome = true ∧ snoopOpen t 0 (addrLine 0x40000040) = false) ∧
    keptWrite (tHost true 1 true) (tCmd .rdShared false) = none ∧
    (∃ t, hostVerdict (tHost true 0 true) (tCmd .wrLine true) (epochBit (tHost true 0 true)) false = .pass t) ∧
    segMode (bankNow (tHost true 0 true)) (segOf 0x40000040) ≠ 1 ∧ ReqKind.wrLine ≠ .upgrade ∧ ReqKind.wrLine ≠ .evict := by
  refine ⟨by decide +kernel, by decide +kernel, ⟨tHost true 1 true, by decide +kernel⟩, by decide +kernel,
    ⟨tHost true 0 true, by decide +kernel⟩, by decide +kernel⟩
/-- Every request tag of the port's cell is in use. -/
def tFull : State :=
  { tHost true 1 true with hp := { (tHost true 1 true).hp with
      reqs := (List.range (hostTags (tHost true 1 true) 0)).map (fun t =>
        ⟨0, BitVec.ofNat 10 t, 0, none, .rdCur, 99, false, none, none, 0, false, true, false, none, none⟩) } }
theorem test_hyp_HostRequests_wait : hostVerdict tFull (tCmd .rdShared false) (epochBit tFull) false = .pass tFull ∧
    freeHostTag tFull 0 = none ∧ hostUp tFull 0 = true ∧ portReach (bankNow tFull) 0 0x40000040 = true ∧
    keptWrite tFull (tCmd .rdShared false) = none := by decide +kernel
theorem test_hyp_HostRequests_hints : segMode (bankNow (tHost true 0 true)) (segOf 0x40000040) ≠ 1 ∧
    hostVerdict (tHost true 0 true) (tCmd .evict false) (epochBit (tHost true 0 true)) false = .pass (tHost true 0 true) ∧
    hostVerdict (tHost true 0 true) (tCmd .upgrade false) (epochBit (tHost true 0 true)) false = .pass (tHost true 0 true) ∧
    keptWrite (tHost true 0 true) (tCmd .evict false) = none ∧ keptWrite (tHost true 0 true) (tCmd .upgrade false) = none ∧
    hostCmd (.m2sMemclnevct 0 0x40000040 7) = some (tCmd .evict false) ∧
    hostCmd (.m2sMeminv 0 true .A 0x40000040 7) = some (tCmd .upgrade false) ∧ MetaVal.S ≠ .A := by decide +kernel
def tSnp : HostSnp := ⟨0, 5, { laddr := 9 }, false, false⟩
theorem test_hyp_HostSnoopAnswers : (∀ s, s = { tHost true 1 true with hp := { (tHost true 1 true).hp with snps := [tSnp] } } →
      s.dev.fabReset = false ∧ hostUp s 0 = true ∧ s.hp.snps.find? (fun q => q.port == 0 && q.tag == 5) = some tSnp ∧
      s.hp.reqs.all (fun r => ! (r.port == 0 && r.line == addrLine (0x40000040#64).toNat)) = true ∧
      s.hp.confs = []) := by
  intro s h; subst h; decide +kernel
/-! ### Tag caches, the mailbox, bindings, the home -/

def tWait (again stale : Bool) : State :=
  { tS [] [] with pool := { (tS [] []).pool with tagWaits := [⟨15, 5, again, stale, []⟩] } }
theorem test_hyp_TagCacheCommands :
    Arrives (tWait false false) (.tagLineFill 15 5 0 .clean) (tWait false false) ∧
    Arrives (tWait true false) (.tagLineFill 15 5 0 .uncorrectable) (tWait true false) ∧
    Arrives (tWait false false) (.tagLineFill 15 5 0 .uncorrectable) (tWait false false) ∧
    Arrives (tWait false true) (.tagLineFill 15 5 0 .clean) (tWait false true) ∧
    (tWait false false).pool.tagWaits.find? (fun w => w.region == 15 && w.line == 5) = some ⟨15, 5, false, false, []⟩ ∧
    (tWait true false).pool.tagWaits.find? (fun w => w.region == 15 && w.line == 5) = some ⟨15, 5, true, false, []⟩ ∧
    (tWait false true).pool.tagWaits.find? (fun w => w.region == 15 && w.line == 5) = some ⟨15, 5, false, true, []⟩ :=
  ⟨tArrives (by decide +kernel), tArrives (by decide +kernel), tArrives (by decide +kernel), tArrives (by decide +kernel),
    by decide +kernel⟩
/-- A host port with segments 0 and 1 of the given binding states, of MODE `mode`. -/
def tView (b : Nat) (mode : Nat) : State :=
  tS [(R.PB_LINK_STATUS 0 0, 0x40000000), (R.TWIN_PAIR_STATUS, 0x60000000)]
    [(R.PB_PORT_CFG 0 0, 0x90000000), (R.SEG_BIND 0 0, BitVec.ofNat 32 b), (R.SEG_ENTRY_W0 0, BitVec.ofNat 32 (mode * 2 ^ 29)),
      (R.SEG_ENTRY_W0 1, BitVec.ofNat 32 (mode * 2 ^ 29))]
def tExt : List Extent := [⟨0, 2 ^ 31⟩]
theorem test_hyp_PoolViewQueries : (tView 0 0).dev.fabReset = false ∧ portRole (tView 0 0) 0 = 1 ∧
    linkActive (tView 0 0) 0 = true := by decide +kernel
theorem test_hyp_PoolViewResponses : tExt.all rangeOk = true ∧ rangeSegs tExt = [0, 1] ∧
    (1 ∈ rangeSegs tExt ∧ bindOf (bankNow (tView 9 0)) 0 1 ≠ 1) ∧
    (∀ g ∈ rangeSegs tExt, bindOf (bankNow (tView 5 0)) 0 g = 1) ∧ bindPartner (tView 5 0) = false ∧
    (extentsOf (addExtents ((rangeSegs tExt).foldl (fun u g => deviceBind u 0 g 2) (tView 5 0)) 0 (rangeSegs tExt)) 0).length = 1 ∧
    (1 ∈ rangeSegs tExt ∧ bindOf (bankNow (tView 6 0)) 0 1 < 2) ∧
    (∀ g ∈ rangeSegs tExt, 2 ≤ bindOf (bankNow (tView 14 0)) 0 g) ∧
    (∀ g ∈ rangeSegs tExt, segMode (bankNow (tView 14 1)) g = 1) ∧
    rangeSegs [⟨2 ^ 46 - 2 ^ 30, 2 ^ 30⟩] = [65535] := by decide +kernel
/-- A pool view whose list of accepted extents is full. -/
def tManyExtents : State :=
  { tView 5 0 with pool := { (tView 5 0).pool with extents := [(0, (List.range 4096).map (fun k => (2 * k + 100, 1)))] } }
theorem test_hyp_PoolViewResponses_full :
    4096 < (extentsOf (addExtents ((rangeSegs tExt).foldl (fun u g => deviceBind u 0 g 2) tManyExtents) 0 (rangeSegs tExt)) 0).length ∧
    (∀ g ∈ rangeSegs tExt, bindOf (bankNow tManyExtents) 0 g = 1) ∧ bindPartner tManyExtents = false := by decide +kernel
def tSweep (busy : Bool) : State :=
  { tS [] [] with
    pool := { (tS [] []).pool with sweeps := [(0, 3)] }
    dir := { (tS [] []).dir with work := if busy then [⟨0, addrLine (3 * 2 ^ 30), .sweep, []⟩] else [] } }
theorem test_hyp_PoolViewResponses_sweep : sweepBusy (tSweep true) [3] = true ∧ sweepBusy (tSweep false) [3] = false := by
  decide +kernel
theorem test_hyp_BindingsAndColourFill : (∀ s, s = { tS [] [] with
        pool := { (tS [] []).pool with colourInit := [9], colourMine := true } } →
      s.dev.fabReset = false ∧ s.pool.colourInit ≠ [] ∧ s.txn.sentSwitch = false ∧ s.pool.colourMine = true ∧
      s.pool.colourRunning = false) ∧
    (∀ s, s = { tS [] [] with pool := { (tS [] []).pool with colourInit := [9], colourRunning := true } } →
      s.pool.colourRunning = true ∧ colourWrites s = false ∧ s.pool.colourMine = false) ∧
    segMode (bankNow (tView 14 1)) (1#16).toNat = 1 ∧ segMode (bankNow (tView 14 0)) (0xFFFF#16).toNat ≠ 1 ∧
    BindState.bound ≠ .unbound := by
  refine ⟨fun s h => ?_, fun s h => ?_, by decide +kernel⟩ <;> (subst h; decide +kernel)
def tEnt (st : DirSt) (ovf : Bool) (a b c : Agent) : Entry := ⟨false, st, ovf, false, a, b, c, 0⟩
theorem test_hyp_HomeDecisions_reads : ({ src := 5 } : Hdr).src ≠ 0x3FF ∧ (tEnt .free false 0x3FF 0x3FF 0x3FF).st = .free ∧
    (tEnt .shared true 5 6 7).ovf = true ∧ (ptrs (tEnt .shared false 5 6 7)).contains 5 = true ∧
    (ptrs (tEnt .shared false 1 2 0x3FF)).contains 5 = false ∧ (ptrs (tEnt .shared false 1 2 0x3FF)).length < 3 ∧
    (ptrs (tEnt .shared false 1 2 3)).contains 5 = false ∧ (ptrs (tEnt .shared false 1 2 3)).length = 3 ∧
    (tEnt .owned false 6 0x3FF 0x3FF).st = .owned ∧ (tEnt .owned false 6 0x3FF 0x3FF).p0 ≠ 5 ∧
    (tEnt .owned false 5 0x3FF 0x3FF).p0 = 5 ∧ (tEnt .owned false 6 0x3FF 0x3FF).p0 ≠ 0x3FF := by decide +kernel
theorem test_hyp_HomeDecisions_writes :
    (planFor (tEnt .shared false 5 0x3FF 0x3FF) { kind := .upgrade, m := { src := 5 } } false).done = .cmpONoData ∧
    (planFor (tEnt .shared false 6 0x3FF 0x3FF) { kind := .upgrade, m := { src := 5 } } false).done ≠ .cmpONoData ∧
    (ptrs (tEnt .shared false 5 0x3FF 0x3FF)).filter (· != (5 : Agent)) = [] ∧
    (ptrs (tEnt .shared false 5 6 0x3FF)).filter (· != (5 : Agent)) ≠ [] := by decide +kernel

/-- Homes of every slice are on this twin. -/
def tHome (trk : SMap Tracker) (ctrl : Nat) : State :=
  let s := tS [(R.TWIN_HOMING, 0), (R.DIR_CTRL 0, BitVec.ofNat 32 ctrl), (R.DIR_ATOM_CFG 0, 0)] []
  { s with dir := { s.dir with trk := trk } }
def tHdr : Hdr := { src := 5, htxn := 3 }
theorem test_hyp_HomeRequestsJoinTheirSlice : Arrives (tHome [] 0) (.rdshared 0 0 tHdr .clean) (tHome [] 0) ∧
    tHdr.epoch0 = none ∧ tHdr.fwd = false ∧ homedHere (tHome [] 0) tHdr.laddr = true ∧
    homedHere (tS [(R.TWIN_HOMING, 1)] []) tHdr.laddr = false :=
  ⟨tArrives (by decide +kernel), by decide +kernel⟩
/-- A transaction for line 0. -/
def tTrk (ph : Phase) (bi : List Agent) (datas : List DataWait) : Tracker :=
  ⟨0, some { kind := .rdShared, m := { src := 6 } }, .cmpS, ph, none, {}, {}, bi, false, [], none, false, [], [], [], [], datas, {},
    none, false, false, 0, false, none, false, none⟩
theorem test_hyp_SliceTakesRequest :
    (∀ s, s = { tHome [] 0 with dir := { (tHome [] 0).dir with lost := [(31, [5])] } } → isLost s 31 5 = true) ∧
    (∀ s, s = { tHome [] 0 with dir := { (tHome [] 0).dir with badSets := [setKey 0 (lineSet 0)] } } → setWaits s 0 0 = true) ∧
    (∀ s, s = { tHome [] 0 with dir := { (tHome [] 0).dir with waits := [⟨0, 0, { kind := .rdCur, m := tHdr }⟩] } } →
      waitersOf s 0 0 ≠ [] ∧ blockedBy s 0 0 = none) ∧ isLost (tHome [] 0) 0 5 = false ∧ setWaits (tHome [] 0) 0 0 = false ∧
    takenBy (tHome [(3, tTrk .snoop [5] [])] 0) 0 { kind := .wrLine, m := tHdr } = some (3, tTrk .snoop [5] []) ∧
    takenBy (tHome [(3, tTrk .snoop [5] [])] 0) 0 { kind := .rdShared, m := tHdr } = none ∧
    lineWaits (tHome [] 1) 0 0 = true ∧ takenBy (tHome [] 1) 0 { kind := .rdShared, m := tHdr } = none ∧
    lineWaits (tHome [] 0) 0 0 = false ∧ blockedBy (tHome [(3, tTrk .snoop [5] [])] 0) 0 0 = some 3 ∧
    isLost (tHome [(3, tTrk .snoop [5] [])] 0) 0 5 = false ∧ setWaits (tHome [(3, tTrk .snoop [5] [])] 0) 0 0 = false ∧
    blockedBy (tHome [] 0) 0 0 = none ∧ setHeld (tHome [] 0) 0 (lineSet 0) = false ∧ waitersOf (tHome [] 0) 0 0 = [] ∧
    freeTrk (tHome [] 0) 0 0 = some 0 ∧ toRecover (tHome [] 0) 0 0 = false ∧
    (planFor (lookup (tHome [] 0) 0 0).2 { kind := .rdCur, m := tHdr } false).alloc = false := by
  refine ⟨fun s h => ?_, fun s h => ?_, fun s h => ?_, by decide +kernel⟩ <;> (subst h; decide +kernel)
/-! ### Device ports, answers, snoop answers, the journal, losses -/

def tDp (o : List DpOut) : State :=
  let s := tS [(R.PB_LINK_STATUS 0 0, 0), (R.PB_CELL_CTRL 0 0, 0)] []
  { s with dp := { s.dp with outst := o } }
def tOut (rd : Option RdFor) (wr : Option WrFor) : DpOut := ⟨0, 7, 1, rd, wr, false, 0, none⟩
theorem test_hyp_DevicePortAccesses_arrive : Arrives (tDp []) (.memrd {}) (tDp []) ∧ Arrives (tDp []) (.wbdata {} 0 fullMask) (tDp []) ∧
    outstAt (tDp []) 0 7 = none ∧ holdFull (tDp []) ⟨0, 0, some (.msg {}), none, 0x3FF, none, none⟩ = false ∧
    (∀ o s, o = (⟨0, 0, some (.msg {}), none, 0x3FF, none, none⟩ : DpOp) → s = { tDp [] with
        dp := { (tDp []).dp with
          slots := [(0, { valid := true, busy := true, running := some 128 })], wait := List.replicate 64 o } } →
      holdFull s o = true) := by
  refine ⟨tArrives (by decide +kernel), tArrives (by decide +kernel), by decide +kernel, by decide +kernel, fun o s ho h => ?_⟩
  subst ho; subst h; decide +kernel
theorem test_hyp_DevicePortAccesses : outstAt (tDp [tOut (some (.msg {})) none]) 0 7 = some (tOut (some (.msg {})) none) ∧
    (0#8).toNat = linkGenOf (tDp [tOut (some (.msg {})) none]) 0 ∧ (1#8).toNat ≠ linkGenOf (tDp [tOut (some (.msg {})) none]) 0 ∧
    outstAt (tDp [tOut none (some (.msg {}))]) 0 7 = some (tOut none (some (.msg {}))) ∧
    outstAt (tDp [tOut none (some (.atom {} {}))]) 0 7 = some (tOut none (some (.atom {} {}))) ∧
    (tOut none (some (.msg {})) ∈ (tDp [tOut none (some (.msg {}))]).dp.outst) ∧
    (tDp []).dp.outst.all (fun o => o.port != 0) = true := by decide +kernel

theorem test_hyp_AnswersReachTheirAgent_host :
    let s := tDp []
    let m : Hdr := { tgt := 0 }
    m.htwin = s.dev.pid ∧ ownAgent s 0 = true ∧ localAgent 0 < 128 ∧ m.tgt ≠ 0x3FF ∧ m.ddat = false ∧
      Arrives s (.cmps m) s ∧ Arrives s (.cmpo m) s ∧ Arrives s (.cmp m {}) s ∧ Arrives s (.cmp { m with ddat := true } {}) s ∧
      Arrives s (.err m) s ∧ Arrives s (.datago m) s ∧ Arrives s (.memcmp m) s ∧ Arrives s (.backinv m) s ∧
      Arrives s (.backdown m) s := by
  refine ⟨rfl, by decide +kernel, by decide +kernel, by decide +kernel, rfl, ?_, ?_, ?_, ?_, ?_, ?_, ?_, ?_, ?_⟩ <;>
    exact tArrives (by decide +kernel)
theorem test_hyp_AnswersReachTheirAgent_coach :
    let s := tDp []
    let m : Hdr := { tgt := 383 }
    m.htwin = s.dev.pid ∧ ownAgent s 383 = true ∧ 128 ≤ localAgent 383 ∧ isCoach m.tgt = true ∧ m.tgt ≠ 0x3FF ∧
      Arrives s (.cmps m) s ∧ Arrives s (.cmpo m) s ∧ Arrives s (.cmp m {}) s ∧ Arrives s (.cmp { m with ddat := true } {}) s ∧
      Arrives s (.err m) s ∧ Arrives s (.datago m) s ∧ Arrives s (.fill m 0) s ∧ Arrives s (.backinv m) s ∧
      Arrives s (.backdown m) s := by
  refine ⟨rfl, by decide +kernel, by decide +kernel, by decide +kernel, by decide +kernel, ?_, ?_, ?_, ?_, ?_, ?_, ?_, ?_, ?_⟩ <;>
    exact tArrives (by decide +kernel)
theorem test_hyp_AnswersReachTheirAgent_none :
    let s := tDp []
    let m : Hdr := {}
    m.htwin = s.dev.pid ∧ m.tgt = 0x3FF ∧ Arrives s (.fill m 0) s ∧ Arrives s (.memcmp m) s ∧ Arrives s (.datago m) s := by
  refine ⟨rfl, rfl, ?_, ?_, ?_⟩ <;> exact tArrives (by decide +kernel)

def tAck : Hdr := { src := 6, htxn := 3 }
theorem test_hyp_SnoopAnswersAtHome :
    Arrives (tHome [] 0) (.backinvBroadcast 0 tHdr) (tHome [] 0) ∧
    Arrives (tHome [(3, tTrk .snoop [6] [])] 0) (.biack tAck) (tHome [(3, tTrk .snoop [6] [])] 0) ∧
    Arrives (tFly (tHome [(3, { tTrk .snoop [] [] with agg := [31] })] 0) (.biackagg 15 true tAck) .rsp 0) (.biackagg 15 true tAck)
      (tHome [(3, { tTrk .snoop [] [] with agg := [31] })] 0) ∧
    Arrives (tHome [(3, tTrk .ack [] [])] 0) (.ack tAck) (tHome [(3, tTrk .ack [] [])] 0) ∧
    Arrives (tHome [] 0) (.biack tAck) (tHome [] 0) ∧
    Arrives (tFly (tHome [] 0) (.biackagg 15 true tAck) .rsp 0) (.biackagg 15 true tAck) (tHome [] 0) ∧
    Arrives (tHome [] 0) (.ack tAck) (tHome [] 0) ∧
    (∀ s, s = { tHome [] 0 with dir := { (tHome [] 0).dir with aggs := [⟨7, tAck, [56]⟩] } } →
      s.dir.aggs.find? (fun g => g.region == 7 && g.m == tAck) = some ⟨7, tAck, [56]⟩) ∧
    (regionMembers (bankNow (tHome [] 0)) 0 0).filter (fun a => a != tHdr.tgt) ≠ [] ∧ tAck.htwin = (tHome [] 0).dev.pid ∧
    getTrk (tHome [(3, tTrk .snoop [6] [])] 0) 0 3 = some (tTrk .snoop [6] []) ∧ (tTrk .snoop [6] []).line = tAck.laddr ∧
    snoops (tHome [(3, tTrk .snoop [6] [])] 0) 0 (tTrk .snoop [6] []) 6 = true ∧
    [31].contains (16 * true.toNat + 15) = true ∧ (tTrk .ack [] []).req.map (·.m.src) = some tAck.src ∧
    getTrk (tHome [] 0) 0 3 = none := by
  refine ⟨tArrives (by decide +kernel), tArrives (by decide +kernel), tArrivesFly rfl (by decide +kernel),
    tArrives (by decide +kernel), tArrives (by decide +kernel), tArrivesFly rfl (by decide +kernel),
    tArrives (by decide +kernel), fun s h => ?_, by decide +kernel⟩
  subst h; decide +kernel

def tJrn (next acked : BitVec 16) (b : List JrnRec) : State :=
  let s := tHome [(3, tTrk .journal [] [])] 0
  { s with dir := { s.dir with jrn := [(0, { next := next, acked := acked, batch := b })] } }
theorem test_hyp_JournalCommands : (getJrn (tJrn 0 0 []) 0).batch = [] ∧ (getJrn (tJrn 1 0 [{ act := .write }]) 0).batch ≠ [] ∧
    Arrives (tFly (tJrn 0 0 []) (.jrnbatch 0 ([{ act := .remove }] ++ [{ act := .write }])) .dat 0)
      (.jrnbatch 0 ([{ act := .remove }] ++ [{ act := .write }])) (tJrn 0 0 []) ∧
    (∀ q ∈ [({ act := .remove } : JrnRec)], q.act ≠ .empty) ∧
    Arrives (tFly (tJrn 3 0xFFFE []) (.jrnack 0 2) .rsp 0) (.jrnack 0 2) (tJrn 3 0xFFFE []) ∧
    (2#16 - 0xFFFE#16).toNat < (3#16 - 0xFFFE#16).toNat ∧ (3#16 - 0xFFFE#16).toNat ≤ (3#16 - 0xFFFE#16).toNat ∧
    getTrk (tJrn 0 0 []) 0 3 = some (tTrk .journal [] []) ∧ (tTrk .journal [] []).phase = .journal := by
  refine ⟨by decide +kernel, by decide +kernel, tArrivesFly rfl (by decide +kernel), by decide +kernel,
    tArrivesFly rfl (by decide +kernel), by decide +kernel⟩
theorem test_hyp_JournalCommands_stall :
    (∀ l, l = [(R.DIR_JSTALL_CNT 0, 0), (R.EVT_PEND 1, 0)] → ∀ st, st = [0x40000000, (0 : Nat)] →
      (twinState (count (tS ((R.TWIN_LINK_STATUS, BitVec.ofNat 32 (st.getD 0 0)) :: l) []) (R.DIR_JSTALL_CNT 0) 0 .every (sliceFailEv 0)) = 2 ∧
       twinState (count (tS ((R.TWIN_LINK_STATUS, BitVec.ofNat 32 (st.getD 1 0)) :: l) []) (R.DIR_JSTALL_CNT 0) 0 .every (sliceFailEv 0)) ≠ 2)) := by
  intro l hl st hst; subst hl; subst hst; decide +kernel

def tLost (status : Nat) : State := tS [(R.DIR_LOST_STATUS 0, BitVec.ofNat 32 status)] []
theorem test_hyp_TimeoutsAndLoss :
    Arrives (tLost 0) (.lossNotice 31 5) (tLost 0) ∧
    Arrives (tFly (tLost 0) (.lossNotice 30 512) .snp 79) (.lossNotice 30 512) (tLost 0) ∧ getTrk (tHome [] 0) 0 3 = none ∧
    timerRuns (tHome [] 0) (tTrk .journal [] []) = false ∧
    getTrk (tHome [(3, tTrk .ack [] [])] 0) 0 3 = some (tTrk .ack [] []) ∧ (tTrk .ack [] []).bi = [] ∧
    (tTrk .ack [] []).agg = [] ∧ timerRuns (tHome [(3, tTrk .ack [] [])] 0) (tTrk .ack [] []) = true ∧
    (tTrk .ack [] []).announced = [] ∧ (tTrk .ack [] []).bcast = none ∧ (tTrk .ack [] []).datas = [] ∧
    (tTrk .data [] [⟨5, 0, .dirty, false⟩]).datas ≠ [] ∧
    timerRuns (tHome [(3, tTrk .data [] [⟨5, 0, .dirty, false⟩])] 0) (tTrk .data [] [⟨5, 0, .dirty, false⟩]) = true ∧
    getTrk (tHome [(3, tTrk .data [] [⟨5, 0, .dirty, false⟩])] 0) 0 3 = some (tTrk .data [] [⟨5, 0, .dirty, false⟩]) ∧
    ownAgent (tHome [] 0) 127 = true ∧ localAgent 127 < 128 ∧ ownAgent (tHome [] 0) 128 = true ∧ 128 ≤ localAgent 128 ∧
    isCoach 128 = true ∧ ownAgent (tHome [] 0) 512 = false ∧ (31 : Fin 32).val % 2 = 1 ∧ (30 : Fin 32).val % 2 = 0 ∧
    ownAgent (tLost 0) 512 = false ∧ rdBit (tLost 0) (R.DIR_LOST_STATUS 0) 31 = false ∧ isLost (tLost 0) 0 5 = false ∧
    rdBit (tLost (2 ^ 31)) (R.DIR_LOST_STATUS 0) 31 = true := by
  refine ⟨tArrives (by decide +kernel), tArrivesFly rfl (by decide +kernel), by decide +kernel⟩
theorem test_hyp_SliceControl : (bitAt 0x8000017F#32 31 = true ∧ fld 0x8000017F#32 9 0 % 512 < 384) ∧
    ¬ (bitAt 0x80000180#32 31 = true ∧ fld 0x80000180#32 9 0 % 512 < 384) ∧
    rd (tHome [] 0) (R.DIR_ATOM_CFG 0) 23 16 = 0 ∧ rd (tS [(R.DIR_ATOM_CFG 0, 0x10000)] []) (R.DIR_ATOM_CFG 0) 23 16 ≠ 0 := by
  decide +kernel
/-! ### Channels and coaches -/

/-- Tenant 0 with everything granted and CREATE's arguments for index 0; `a1` is ARG1, `st` the status word. -/
def tChan (a1 st h : Word) (ch : SMap Chan) (ds : List Desc) : State :=
  let s := tS [(R.STX_CHAN_ARG0, 0), (R.STX_CHAN_ARG1, a1), (R.STX_CHAN_ARG2, 0), (R.STX_CHAN_SQ_BASE, 0), (R.STX_CHAN_SQ_BASE + 4, 0),
    (R.STX_CHAN_CQ_BASE, 0), (R.STX_CHAN_CQ_BASE + 4, 0), (R.STX_CHAN_STATUS, st), (R.STX_CHAN_HANDLE, h), (R.COACH_STATUS 0, 0)]
    [(R.STX_TENANT_W0 0, 0xC0000001), (R.STX_TENANT_W0 0 + 4, 0x0001F001), (R.STX_TENANT_W0 0 + 8, 0xFF000100)]
  { s with co := { s.co with chans := ch, descs := ds } }
def tAct : Chan := { st := .active, mask := 1, tail := 2 }
def tDesc (e : Nat) (st : DescStage) (r : Option Rec) : Desc :=
  ⟨0, 1, e, 0, st, 0, none, 1, 0, 0, [], [], false, false, none, r, none⟩

theorem test_free_index (s : State) (h : s.co.chans = []) : freeIndex s = some 0 := by
  unfold freeIndex
  rw [List.find?_range_eq_some]
  refine ⟨?_, by simp, by simp⟩
  unfold chanOf; rw [h]; rfl
theorem test_hyp_ChannelCommands_create : rdBit (tChan 0x10000 0 0 [] []) R.STX_CHAN_STATUS 31 = false ∧
    rdBit (tChan 0x10000 0x80000000 0 [] []) R.STX_CHAN_STATUS 31 = true ∧
    createCode (tChan 0x10000 0 0 [] []) (argChan (tChan 0x10000 0 0 [] [])) ≠ 0 ∧
    freeIndex (tChan 0x10001 0 0 [] []) = some 0 ∧
    createCode (tChan 0x10001 0 0 [] []) (argChan (tChan 0x10001 0 0 [] [])) = 0 := by
  refine ⟨by decide +kernel, by decide +kernel, by decide +kernel, test_free_index _ rfl, ?_⟩
  unfold createCode
  rw [test_free_index _ rfl]
  decide +kernel
def tH : Word := handleOf tAct 0
theorem test_hyp_ChannelCommands : namedChan (tChan 0 0 0 [] []) = none ∧ namedChan (tChan 0 0 tH [(0, tAct)] []) = some 0 ∧
    (chanOf (chanCode (endLife (tChan 0 0 tH [(0, tAct)] []) 0 true) 0) 0).st = .free ∧
    (chanOf (tChan 0 0 tH [(0, tAct)] []) 0).mask.testBit (rd (tChan 0 0 tH [(0, tAct)] []) R.STX_CHAN_ARG1 15 12) = true ∧
    (chanOf (tChan 0xF000 0 tH [(0, tAct)] []) 0).mask.testBit (rd (tChan 0xF000 0 tH [(0, tAct)] []) R.STX_CHAN_ARG1 15 12) = false ∧
    oldBusy (tChan 0 0 tH [(0, tAct)] []) 0 = false ∧
    (tChan 0 0 tH [(0, tAct)] []).co.descs.any (fun d => d.chan == 0 && d.gen == (chanOf (tChan 0 0 tH [(0, tAct)] []) 0).gen && d.lost.isNone) = false ∧
    (tChan 0 0 tH [(0, tAct)] [tDesc 0 .ready none]).co.descs.any (fun d => d.chan == 0 && d.gen == tAct.gen && d.lost.isNone) = true ∧
    ofLife (tChan 0 0 0 [] []) 0 1 = false ∧ ofLife (tChan 0 0 tH [(0, tAct)] []) 0 tAct.gen = true := by decide +kernel
/-- A started unit, of the generation that the channel takes next where a test says so. -/
def tUnit (b : BitVec 512) (ph : UnitPhase) : UnitRun :=
  ⟨0, 0, 0, 1, 0, 0, b, 128, tAct, 1, 1024, ph, 0, false, [], [], [], none, none, (0, 0), [], false⟩
theorem test_hyp_ChannelCommands_resetting :
    (∀ s, s = { tChan 0 0 tH [(0, tAct)] [tDesc 0 .run none] with
        co := { (tChan 0 0 tH [(0, tAct)] [tDesc 0 .run none]).co with units := [{ tUnit 0 .lines with gen := 2 }] } } →
      namedChan s = some 0 ∧ (chanOf (chanCode (endLife s 0 true) 0) 0).st ≠ .free) := by
  intro s h; subst h; decide +kernel
theorem test_hyp_ChannelCommands_abort : (1#12).toNat < ringSize tAct ∧
    (1 + ringSize tAct - tAct.head) % ringSize tAct < (tAct.tail + ringSize tAct - tAct.head) % ringSize tAct ∧
    descAt (tChan 0 0 tH [(0, tAct)] [tDesc 1 .ready none]) 0 1 1 = some (tDesc 1 .ready none) ∧
    descAt (tChan 0 0 tH [(0, tAct)] [tDesc 1 .done none]) 0 1 1 = some (tDesc 1 .done none) := by decide +kernel
theorem test_hyp_ChannelCommands_abort_none : (chanOf (tChan 0 0 0 [] []) 65535).st = .free ∧
    (chanOf (tChan 0 0 0 [(0, { tAct with st := .resetting })] []) 0).st = .resetting ∧
    (chanOf (tChan 0 0 0 [(0, tAct)] []) 0).st ≠ .free ∧ ringSize (chanOf (tChan 0 0 0 [(0, tAct)] []) 0) ≤ (16#12).toNat := by
  decide +kernel
theorem test_hyp_ChannelWork : fetchAt (tChan 0 0 tH [(0, tAct)] []) 0 1 0 = none ∧
    fetchAt (tChan 0 0 tH [(0, tAct)] [tDesc 0 .fetch none]) 0 1 0 = some (tDesc 0 .fetch none) ∧ (tDesc 0 .fetch none).lost = none ∧
    ofLife (tChan 0 0 tH [(0, tAct)] [tDesc 0 .fetch none]) 0 1 = true ∧
    ofLife (tChan 0 0 tH [(0, { tAct with gen := 2 })] [tDesc 0 .fetch none]) 0 1 = false := by decide +kernel
/-- Port 0 as a host port whose physical function may write memory, with tenant 0's channel 0. -/
def tDma : State :=
  let s := tS [(R.PB_LINK_STATUS 0 0, 0x40000000), (R.PB_CELL_CTRL 0 0, 0)] [(R.PB_PORT_CFG 0 0, 0x90000000)]
  { s with
    fns := { s.fns with layout := [(0, 0x80000000)], cfg := [(1 * 1024 + 1, 6)] }
    co := { s.co with chans := [(0, tAct)], descs := [tDesc 0 .done (some ⟨0, 0, 0, 0⟩)] } }
theorem test_hyp_ChannelWork_record : ofLife tDma 0 (chanOf tDma 0).gen = true ∧
    fnMayDma tDma (tenantPort tDma (chanOf tDma 0).tenant) (tenantFn tDma (chanOf tDma 0).tenant) = true ∧
    descAt tDma 0 (chanOf tDma 0).gen (chanOf tDma 0).head = some (tDesc 0 .done (some ⟨0, 0, 0, 0⟩)) ∧
    dNotify (tDesc 0 .done none).bits = false ∧ (chanOf tDma 0).head + 1 ≠ ringSize (chanOf tDma 0) ∧
    15 + 1 = ringSize { tAct with head := 15 } := by decide +kernel

def tRange (c : Option Nat) (n : Nat) : UnitRange := ⟨0, 1, 0, 0, n, 0, c, 0, 128, { tAct with mask := 0xFFFF }, some (1, 1024), false⟩
/-- House 0 with the given stealing controls; coach 1 is faulted, and the other coaches of the house too but for 0 and 15. -/
def tHouse (ctrl : Word) (rs : List UnitRange) (us : List UnitRun) : State :=
  let s := tS ((R.COACH_HOUSE_CTRL 0, ctrl) :: (R.COACH_STATUS 0, 0) :: (R.COACH_STATUS 15, 0) ::
    ((List.range 14).map (fun k => (R.COACH_STATUS (k + 1), 3)))) []
  { s with co := { s.co with ranges := rs, units := us } }
theorem test_hyp_CoachWork_own : freePipe (adoptRanges (tHouse 0 [] []) 0) 0 = some 0 ∧ freePipe (adoptRanges (tHouse 0 [] []) 1) 1 = none ∧
    (takeOwn (adoptRanges (tHouse 0 [tRange (some 0) 3] []) 0) 0 0).isSome = true ∧
    freePipe (adoptRanges (tHouse 0 [tRange (some 0) 3] []) 0) 0 = some 0 := by decide +kernel
theorem test_hyp_CoachWork_steal : (∀ v, v = adoptRanges (tHouse 1 [tRange (some 15) 3] []) 0 →
      freePipe v 0 = some 0 ∧ takeOwn v 0 0 = none ∧ localEn v (houseOf 0) = true ∧ (stealLocal v 0 0 (victims v 0)).2 = true) ∧
    (∀ v, v = adoptRanges (tHouse 2 [] []) 0 → freePipe v 0 = some 0 ∧ takeOwn v 0 0 = none ∧ localEn v (houseOf 0) = false ∧
      remoteEn v (houseOf 0) = true ∧ sGet v.co.stealing 0 [] = [] ∧ dequeRoom v 0 = true) ∧
    (∀ v, v = adoptRanges (tHouse 0 [] []) 0 → freePipe v 0 = some 0 ∧ takeOwn v 0 0 = none ∧ localEn v (houseOf 0) = false ∧
      remoteEn v (houseOf 0) = false) := by
  refine ⟨fun v h => ?_, fun v h => ?_, fun v h => ?_⟩ <;> (subst h; decide +kernel)
theorem test_hyp_CoachWork_grant : Arrives (tHouse 0 [] []) (.stealreq 0 { thief := 144 }) (tHouse 0 [] []) ∧
    remoteEn (tHouse 0 [] []) 0 = false ∧
    Arrives (tHouse 2 [tRange none 3] []) (.stealreq 0 { thief := 144 }) (tHouse 2 [tRange none 3] []) ∧
    remoteEn (tHouse 2 [tRange none 3] []) 0 = true ∧
    bestRange (grantable (tHouse 2 [tRange none 3] []) 0 (houseOf (coachNo 144)) (max 1 0)) = some (tRange none 3, (tRange none 3).count) ∧
    (tRange none 3).released = some (1, 1024) ∧ 0 < (tRange none 3).count ∧
    Arrives (tHouse 2 [] []) (.stealrep { thief := 128 }) (tHouse 2 [] []) ∧ coachUp (tHouse 2 [] []) (coachNo 128) = true ∧
    Arrives (tHouse 2 [] []) (.unitend { thief := 128, count := 1 }) (tHouse 2 [] []) := by
  refine ⟨tArrives (by decide +kernel), by decide +kernel, tArrives (by decide +kernel), by decide +kernel, by decide +kernel,
    by decide +kernel, by decide +kernel, tArrives (by decide +kernel), by decide +kernel, tArrives (by decide +kernel)⟩
/-- A grant on its way to coach 0, busy in both pipelines, or to coach 1, which is faulted. -/
def tTransit : State :=
  let s := tHouse 2 [] [tUnit 0 .lines, { tUnit 0 .lines with pipe := 1 }]
  { s with co := { s.co with transit := [tRange none 3] } }
theorem test_hyp_CoachWork_reply : Arrives tTransit (.stealrep { thief := 128, grant := true, gen := 1 }) tTransit ∧
    tTransit.co.transit.find? (fun r => r.chan == 0 && r.gen == 1 && r.entry == 0 && r.first == 0) = some (tRange none 3) ∧
    coachUp tTransit (coachNo 128) = true ∧ freePipe (putRange tTransit { tRange none 3 with coach := some 0 }) 0 = none ∧
    coachUp tTransit (coachNo 129) = false := by
  refine ⟨tArrives (by decide +kernel), by decide +kernel⟩

def tLand (t : Nat) : State :=
  let s := tS [(R.RGN_BUF_USE 0 33, 8)] [(R.RGN_BUF_MIN 0 33, 34)]
  { s with
    buf := { s.buf with lands := [⟨0, 1, 0, 0, 26, 1, 1024, t⟩, ⟨0, 1, 1, 1, 1, 1, 5, 100⟩] }
    co := { s.co with units := [tUnit 0 .landing] } }
theorem test_hyp_LandingReservations : (tLand 50).buf.lands.find? (fun x => x.coach == 7 && x.pipe == 0) = none ∧
    (tLand 50).buf.lands.find? (fun x => x.coach == 0 && x.pipe == 0) = some ⟨0, 1, 0, 0, 26, 1, 1024, 50⟩ ∧
    unitAt (tLand 50) 0 0 = some (tUnit 0 .landing) ∧ unitAt (tLand 100) 0 0 = some (tUnit 0 .landing) ∧
    leastTag (waitingAt (tLand 100) 0 8 1) ≠ some ⟨100, 1024, none⟩ ∧
    leastTag (waitingAt (tLand 50) 0 8 1) = some ⟨50, 1024, none⟩ ∧ dOpc (tUnit 0 .landing).bits ≠ 8 ∧
    minUsed (tLand 50) 0 8 1 + 26 ≤ bufMin (tLand 50) 0 8 1 := by decide +kernel

/-- A reservation of 26 cells that the minimum does not hold, at level `v`; the queue's shared cells are limited to `m`. -/
def tLandPool (v m : Nat) : State :=
  let s := tS [(R.RGN_BUF_USE 0 33, 30)] [(R.RGN_BUF_MIN 0 33, 0x04000022), (R.RGN_BUF_VOQ_MAX 0, BitVec.ofNat 32 m)]
  { s with
    buf := { s.buf with lands := [⟨0, 1, 0, 0, 26, v, 1024, 50⟩] }
    co := { s.co with units := [tUnit 0 .landing] } }
theorem test_hyp_LandingReservations_pool : bufMin (tLandPool 1 26) 0 8 1 < minUsed (tLandPool 1 26) 0 8 1 + 26 ∧
    leastTag (waitingAt (tLandPool 1 26) 0 8 1) = some ⟨50, 1024, none⟩ ∧ sharedFits (tLandPool 1 26) 0 8 1 26 0 = true ∧
    sharedFits (tLandPool 1 25) 0 8 1 26 0 = false ∧ leastTag (waitingAt (tLandPool 0 26) 0 8 1) = some ⟨50, 1024, none⟩ ∧
    unitAt (tLandPool 1 26) 0 0 = some (tUnit 0 .landing) ∧
    (tLandPool 1 26).buf.lands.find? (fun x => x.coach == 0 && x.pipe == 0) = some ⟨0, 1, 0, 0, 26, 1, 1024, 50⟩ := by decide +kernel
def tMig (ph : UnitPhase) (b : BitVec 512) (acks : List Nat) : State :=
  let s := tS [] [(R.SEG_CARVE_MAP 0, 0x80000002)]
  { s with
    dp := { s.dp with slots := [(15, { valid := true })] }
    co := { s.co with units := [{ tUnit b ph with acks := acks }] } }
theorem test_hyp_MigrationMessages : Arrives (tMig .mark 8 []) (.migmark 15 ⟨15, 0, 0, 128, false⟩) (tMig .mark 8 []) ∧
    Arrives (tMig .mark 8 []) (.migadvance 15 ⟨15, 262143, 0, 128, false⟩) (tMig .mark 8 []) ∧ 262143 ≠ 262144 ∧
    Arrives (tMig .mark 8 []) (.migunmark 15 ⟨15, 0, 0, 128, false⟩) (tMig .mark 8 []) ∧
    Arrives (tFly (tMig .mark 8 []) (.migack 15 .mark 15 true) .rsp 0) (.migack 15 .mark 15 true) (tMig .mark 8 []) ∧
    slotUnit (tMig .mark 8 []) 15 = some (tUnit 8 .mark) ∧ slotUnit (tMig .mark 8 []) 0 = none ∧ (tUnit 8 .mark).phase = ackPhase .mark ∧
    (tUnit 8 .copy).phase = .copy ∧ Arrives (tMig .mark 8 []) (.taginv 15 0 (tMig .mark 8 []).dev.pid 5) (tMig .mark 8 []) ∧
    (tagDropLine (tMig .mark 8 []) 15 5).dev.pid = (tMig .mark 8 []).dev.pid ∧
    Arrives (tFly (tMig .mark 8 []) (.taginv 15 0 (! (tMig .mark 8 []).dev.pid) 5) .snp 79) (.taginv 15 0 (! (tMig .mark 8 []).dev.pid) 5)
      (tMig .mark 8 []) ∧
    Arrives (tFly (tS [] []) (.tagack 0 5 15 true) .rsp 64) (.tagack 0 5 15 true) (tS [] []) ∧ (tS [] []).co.units = [] := by
  refine ⟨tArrives (by decide +kernel), tArrives (by decide +kernel), by decide, tArrives (by decide +kernel),
    tArrivesFly rfl (by decide +kernel), by decide +kernel, by decide +kernel, by decide +kernel, by decide +kernel,
    tArrives (by decide +kernel), by decide +kernel, tArrivesFly rfl (by decide +kernel), tArrivesFly rfl (by decide +kernel),
    by decide +kernel⟩
theorem test_hyp_MigrationMessages_tag :
    Arrives (tFly (tMig .tagInv 7 [31]) (.tagack 0 (addrLine (colourByte 2 0)) 15 true) .rsp 64)
      (.tagack 0 (addrLine (colourByte 2 0)) 15 true) (tMig .tagInv 7 [31]) ∧
    (tMig .tagInv 7 [31]).co.units.find? (fun y => houseOf y.coach == 0 && y.phase == .tagInv && y.acks.contains (16 * true.toNat + 15) &&
      colourLineOf (tMig .tagInv 7 [31]) (tagGranule y) == some (addrLine (colourByte 2 0))) =
      some { tUnit 7 .tagInv with acks := [31] } :=
  ⟨tArrivesFly rfl (by decide +kernel), by decide +kernel⟩

def tCoach (st : Word) (held : List RUnit) (ctrl : Word) : State :=
  let s := tS [(R.COACH_STATUS 255, st), (R.COACH_CTRL 255, ctrl)] []
  { s with dev := { s.dev with held := held, otpShadow := [(3, 0)] } }
theorem test_hyp_CoachLife : Arrives (tCoach 2 [] 0) (.coachFault 255 .declaredLost) (tCoach 2 [] 0) ∧ 2 ≤ coachState (tCoach 2 [] 0) 255 ∧
    Arrives (tCoach 1 [] 0) (.coachFault 255 .declaredLost) (tCoach 1 [] 0) ∧ coachState (tCoach 1 [] 0) 255 < 2 ∧
    coachState (tCoach 1 [] 0) 255 = 1 ∧ cacheEmpty (tCoach 1 [] 0) 255 = true ∧ parentDown (tCoach 0 [.coachGroup 63] 0) (.coach 255) = true ∧
    parentDown (tCoach 0 [] 0) (.coach 255) = false ∧ coachState (tCoach 0 [] 0) 255 = 0 ∧ coachState (tCoach 1 [] 0) 255 ≠ 0 ∧
    (tCoach 1 [] 0).co.units.all (fun u => u.coach != 255) = true ∧
    (tCoach 1 [] 0).co.reqs.all (fun r => r.coach != 255 || r.ended) = true ∧ effLevel (tCoach 2 [] 0) 3 = 0 ∧
    RUnit.coach 255 ∉ (tCoach 2 [] 0).dev.held ∧ RUnit.coach 255 ∈ (tCoach 2 [.coach 255] 0).dev.held ∧
    coachState (tCoach 2 [] 0x80000000) 255 = 2 ∧ rdBit (tCoach 2 [] 0x80000000) (R.COACH_CTRL 255) 31 = true ∧
    rdBit (tCoach 2 [] 0) (R.COACH_CTRL 255) 31 = false := by
  refine ⟨tArrives (by decide +kernel), by decide +kernel, tArrives (by decide +kernel), by decide +kernel⟩
/-! ### Crossbar, network, lanes and links -/

/-- Port 0 in service with the role `role`, its link in the state `st`; DEFAULT of its protection unit allows where `allow`. -/
def tPort (role st : Nat) (allow : Bool) : State :=
  tS [(R.PB_LINK_STATUS 0 0, BitVec.ofNat 32 (st * 2 ^ 29)), (R.PB_CELL_CTRL 0 0, 0), (R.PB_LINK_STATUS 0 0 + 8, 0)]
    [(R.PB_PORT_CFG 0 0, BitVec.ofNat 32 (2 ^ 31 + role * 2 ^ 28)), (ppuWindow 0 + 0xC00, if allow then 0x40000000 else 0)]
def tPkt : RxPacket := ⟨0, 0, .NP, 16, .port 8, true, false, false, 0xFFFFFFFC, 4, 9, 1, 1, 0, false, .clean⟩
theorem test_hyp_SwitchedPackets : linkActive (tPort 3 1 true) 0 = false ∧ linkActive (tPort 3 2 true) 0 = true ∧
    portRole (tPort 1 2 true) 0 < 3 ∧ 3 ≤ portRole (tPort 3 2 false) 0 ∧ tPkt.memory = true ∧
    checkUnit (tPort 3 2 true) (ppuWindow 0) 16 ⟨1, 1, 2, 9, 0xFFFFFFFC, 4⟩ false = none ∧
    checkUnit (tPort 3 2 false) (ppuWindow 0) 16 ⟨1, 1, 2, 9, 0xFFFFFFFC, 4⟩ false = some ⟨2, 0x7F, 0xFFFFFFFC⟩ ∧
    tPkt.typ = .NP ∧ ({ tPkt with typ := .P, write := true } : RxPacket).typ ≠ .NP := by decide +kernel
def tHeldPkt : Pkt := ⟨0, 0, 0, 0, .port 8, .NP, 1, 1, false, .held 1023, 0, 0, 0, 0, 0, false, 0, 0, .switched tPkt⟩
/-- A packet in the hold list of instance 1023, whose meter has no burst; the meter is valid where `valid`. -/
def tMeter (valid : Bool) : State :=
  let s := tS [] [(R.XBAR_METER 0 1023, if valid then 0x80000000 else 0), (R.XBAR_RATE_PIR 0, 0xFFFFFF), (R.XBAR_RATE_BURST 0 + 4, 0)]
  { s with buf := { s.buf with pkts := [tHeldPkt], finish := [(admKey 0 8 3 * 1025 + 1024, 7)], vtime := [(admKey 0 8 3, 9)] } }
theorem test_hyp_HoldListsAndAudits_lists :
    (∀ s, s = { tMeter true with banks := ⟨tWords [(R.XBAR_METER 0 1023, 0x80000000), (R.XBAR_RATE_PIR 0, 0)], [], []⟩ } →
      holdList s 0 1023 = tHeldPkt :: [] ∧ bitAt (meterWord s.banks.live 0 1023) 31 = true ∧
        ratePir s.banks.live (meterProfile s 0 1023) = 0) ∧ holdList (tMeter true) 0 0 = [] ∧
    holdList (tMeter true) 0 1023 = tHeldPkt :: [] ∧ tHeldPkt.load = .switched tPkt ∧
    bitAt (meterWord (tMeter true).banks.live 0 1023) 31 = true ∧
    0 < ratePir (tMeter true).banks.live (meterProfile (tMeter true) 0 1023) ∧
    tokensP (tMeter true) (meterProfile (tMeter true) 0 1023) (meterPair (tMeter true) 0 1023) < 4096 * tPkt.bytes ∧
    bitAt (meterWord (tMeter false).banks.live 0 1023) 31 = false := by
  refine ⟨fun s h => ?_, by decide +kernel⟩
  subst h; decide +kernel
theorem test_hyp_HoldListsAndAudits_tags : 1024 < 1025 ∧ sGet (tMeter true).buf.vtime (admKey 0 8 3) 0 = 9 ∧
    ((waitingAt (tMeter true) 0 8 3).any (fun x => x.flow == 1024)) = false ∧
    tagLater (sGet (tMeter true).buf.finish (admKey 0 8 3 * 1025 + 1024) 0) 9 = false ∧
    tagLater 10 9 = true ∧ (waitingAt (tLand 50) 0 8 1).any (fun x => x.flow == 1024) = true := by decide +kernel
def tAudit (run : Word) : State := tS [(R.RGN_BUF_AUDIT_CTRL 15, run), (R.RGN_BUF_AUDIT_STATUS 15, run <<< 30)] []
theorem test_hyp_HoldListsAndAudits_audits : rdBit (tAudit 0) (R.RGN_BUF_AUDIT_CTRL 15) 0 = false ∧
    rdBit (tAudit 1) (R.RGN_BUF_AUDIT_CTRL 15) 0 = true ∧ rdBit (tAudit 0) (R.RGN_BUF_AUDIT_STATUS 15) 30 = false ∧
    rdBit (tAudit 1) (R.RGN_BUF_AUDIT_STATUS 15) 30 = true := by decide +kernel

def tMsg : Msg := { cmd := .memrd {}, init := 97, dest := 3, net := .req, cred := true, seq := 5 }
def tNoc (q : List Resv) : State :=
  let s := tS [(R.NOC_ERR_CNT2 (nodeOf 40), 0)] []
  { s with flight := [tMsg], noc := { s.noc with resv := q } }
theorem test_hyp_NetworkCommands :
    (∀ s g, g = { tMsg with seq := 4, place := some ⟨(attachedAt 17).head!, 4, 1⟩, flits := 4 } →
      s = { tNoc [] with flight := [g, tMsg] } → hasRoom s (attachedAt 17).head! 4 tMsg = false) ∧
    Arrives (tNoc []) (.creditret 97 .rsp 0 4 9 9) (tNoc []) ∧ Arrives (tNoc []) (.drainmark 97 .rsp 0) (tNoc []) ∧
    Arrives (tNoc []) (.drainecho 97 .rsp 15) (tNoc []) ∧ (∀ g ∈ (tNoc []).flight, named .rsp 97 3 5 true g = false) ∧
    (tNoc []).flight.filter (named .req 97 3 5 true) = [tMsg] ∧ tMsg.place = none ∧
    (entryPort 97 (attachedAt 17).head!) = some 4 ∧ hasRoom (tNoc []) (attachedAt 17).head! 4 tMsg = true ∧
    (∀ x ∈ (tNoc []).flight, placeNo x ≤ (tNoc []).noc.arrivals) ∧
    (tNoc []).noc.resv.find? (fun q => q.endpoint == 40 && resvNo q.what == 7) = none ∧ 17 ∉ (tNoc []).dev.routersOut := by
  refine ⟨fun s g hg h => ?_, tArrives (by decide +kernel), tArrives (by decide +kernel), tArrives (by decide +kernel),
    by decide +kernel⟩
  subst hg; subst h; decide +kernel
/-- One reservation at interface 40. -/
def tResv (w : ResvFor) : State := tNoc [⟨40, w, 1, 0⟩]
theorem test_hyp_NetworkCommands_expiry :
    (∀ s, s = { tResv (.journal 0 7) with regs := tWords [(R.TWIN_LINK_STATUS, 0x40000000)] } →
      twinState s = 2) ∧ (∀ w ∈ [ResvFor.request 3 7, .steal 128, .keeper 7, .journal 0 7],
      (tResv w).noc.resv.find? (fun q => q.endpoint == 40 && resvNo q.what == resvNo w) = some ⟨40, w, 1, 0⟩) ∧
    answerCrosses (tResv (.request 3 7)) (.request 3 7) = false ∧ answerCrosses (tResv (.steal 128)) (.steal 128) = false ∧
    answerCrosses (tResv (.keeper 7)) (.keeper 7) = false ∧ answerCrosses (tResv (.journal 0 7)) (.journal 0 7) = true ∧
    twinState (tResv (.journal 0 7)) ≠ 2 ∧ localAgent 3 < 128 ∧ 128 ≤ localAgent 383 ∧ resvNo (.request 383 7) = 7 := by
  refine ⟨fun s h => ?_, by decide +kernel⟩
  subst h; decide +kernel
def tKpr (off : Offset) : KprAcc := ⟨false, .endpoint, 255, off, 0⟩
/-- A coach group of region 0 in reset. -/
def tGroup : State := { tS [(R.COACH_STATUS 4, 0)] [] with dev := { (tS [] []).dev with held := [.coachGroup 0] } }
theorem test_hyp_KeeperAccesses : Arrives tGroup (.kpracc (tKpr (BitVec.ofNat 28 (R.COACH_STATUS 3)))) tGroup ∧
    tGroup.dev.fabReset = false ∧ targetDown tGroup (R.COACH_STATUS 3) = true ∧ targetDown tGroup (R.COACH_STATUS 4) = false ∧
    (accessWord tGroup .endpoint (BitVec.ofNat 28 (R.COACH_STATUS 4)) none).1.dev.fabReset = false ∧
    Arrives tGroup (.kprrsp ⟨255, false, 0⟩) tGroup := by
  refine ⟨tArrives (by decide +kernel), by decide +kernel, by decide +kernel, by decide +kernel, by decide +kernel, tArrives (by decide +kernel)⟩

/-- A trunk at port 0 in the state `st`, its spare as `sp` says; lanes 0 and 15 of the block as `l0` says; AUTO as given. -/
def tTrunk (st : Nat) (sp : Word) (l0 : Word) (auto : Bool) : State :=
  tS [(R.PB_LINK_STATUS 0 0, BitVec.ofNat 32 (st * 2 ^ 29)), (R.PB_CELL_CTRL 0 0, 0), (R.PB_LINK_STATUS 0 0 + 8, 0x400),
      (R.PB_LINK_STATUS 0 0 + 16, 0), (R.PB_SPARE_STATUS 0, sp), (R.PB_LANE_STATUS 0 0, l0), (R.PB_LANE_PWR 0 0, 0),
      (R.PB_LANE_LOOP 0 0, 0x1000000), (R.EVT_PEND 0, 0xFFFFFFFF)]
    [(R.PB_PORT_CFG 0 0, 0xC0000000), (R.PB_SPARE_CFG 0, if auto then 0xC0000000 else 0x80000000)]
theorem test_hyp_LaneCommands_failing :
    (∀ auto, auto = true ∨ auto = false → ∀ sp, sp = 0x40000000#32 ∨ sp = 0xC0000000#32 →
      ∀ t, t = raiseEv (wrBit (wrBit (tTrunk 2 sp 0 auto) (laneReg 0 0) 31 false) (laneReg 0 0) 20 true) (laneEvent 0) →
        laneOfOwner t (laneOwner 0) (laneLocal 0) = true ∧ spareAuto t (laneOwner 0) = auto ∧
        freeSpare t (laneOwner 0) = (if sp = 0x40000000 then some false else none)) ∧
    laneLink (tTrunk 2 0x40000000 0 true) 561 = none ∧ laneLink (tTrunk 1 0x40000000 0 true) 0 = some (.port 0) ∧
    linkStateOf (tTrunk 1 0x40000000 0 true) (.port 0) ≠ 2 ∧ laneLink (tTrunk 2 0x40000000 0 true) 0 = some (.port 0) ∧
    linkStateOf (tTrunk 2 0x40000000 0 true) (.port 0) = 2 := by
  refine ⟨?_, by decide +kernel⟩
  rintro auto (rfl | rfl) sp (rfl | rfl) t rfl <;> decide +kernel
theorem test_hyp_LaneCommands_states :
    (∀ s, s = { tTrunk 2 0x40000000 0 true with dev := { (tTrunk 2 0x40000000 0 true).dev with held := [.portBlock 0] } } →
      ownerHeld (.block 0) s = true) ∧ linkStateOf (tTrunk 3 0x40000000 0 true) (.port 0) = 3 ∧
    laneLink (tTrunk 3 0x40000000 0 true) 0 = some (.port 0) ∧
    laneCovered (tTrunk 2 0x40000000 0 true) (.block 0) 0 = false ∧ ownerHeld (.block 0) (tTrunk 2 0x40000000 0 true) = false := by
  refine ⟨fun s h => ?_, by decide +kernel⟩
  subst h; decide +kernel
theorem test_hyp_LaneCommands_spares : laneOfOwner (tTrunk 2 0x40000000 0 true) (.block 0) 3 = true ∧
    laneOfOwner (tTrunk 2 0x40000000 0 true) (.block 0) 4 = false ∧ ownerActive (tTrunk 2 0x40000000 0 true) (.block 0) = true ∧
    ownerActive (tTrunk 1 0x40000000 0 true) (.block 0) = false ∧ freeSpare (tTrunk 2 0x40000000 0 true) (.block 0) = some false ∧
    freeSpare (tTrunk 2 0xC0000000 0 true) (.block 0) = none ∧ laneIsFailing (tTrunk 2 0x80000000 0x100000 true) (.block 0) 0 = true ∧
    spareState (tTrunk 2 0x80000000 0 true) (.block 0) false = 2 ∧ spareLane (tTrunk 2 0x80000000 0 true) (.block 0) false = 0 ∧
    laneIsFailing (tTrunk 2 0x80000000 0 true) (.block 0) 0 = false ∧ ownerActive (tTrunk 2 0x80000000 0 true) (.block 0) = true ∧
    swOf (tTrunk 2 0x80000000 0 true) (spareKey (.block 0) false) = none ∧
    spareState (tTrunk 2 0x40000000 0 true) (.block 0) false = 1 ∧ spareState (tTrunk 2 0xC0000000 0 true) (.block 0) false = 3 := by
  decide +kernel
theorem test_hyp_LaneCommands_force : forceable (tTrunk 2 0 0 true) 0 = false ∧ forceable (tTrunk 2 0x40000000 0 true) 512 = true ∧
    (∀ t, t = setReg (tS [(laneReg 512 0x10, 0)] [(R.PB_SPARE_CFG 0, 0x80000000)]) (laneReg 512 0x10) 0x80000000 →
      rdBit t (laneReg 512 0x10) 31 = true) ∧ fld 0x20000000#32 31 29 ≠ 0 ∧ bitAt 0#32 24 = false ∧
    rdBit (tTrunk 2 0 0 true) (laneReg 0 0x14) 24 = true ∧ rdBit (tS [(laneReg 561 0x14, 0)] []) (laneReg 561 0x14) 24 = false := by
  refine ⟨by decide +kernel, by decide +kernel, fun t h => ?_, by decide +kernel⟩; subst h; decide +kernel

/-- The twin link ACTIVE with the given end. -/
def tOwn (st : Nat) (o : OwnLink) : State :=
  let s := tS [(R.TWIN_LINK_STATUS, BitVec.ofNat 32 (st * 2 ^ 29)), (R.TWIN_LINK_STATUS + 8, 0x400), (R.TWIN_LINK_STATUS + 16, 0),
    (R.TWIN_SPARE_STATUS, 0x4000), (R.EVT_PEND 0, 0)] [(R.TWIN_SPARE_CFG, 0x80000000)]
  { s with links := ⟨[(128, o)], []⟩ }
def tEnd : OwnLink := { OwnLink.reset with rxNext := 0xFFF, replayBuf := [{ seq := 9 }], ackOwed := true, replays := 4 }
theorem test_hyp_OwnLinkFlits : (tOwn 2 tEnd).dev.fabReset = false ∧ ownProtocol (tOwn 2 tEnd) .twin = true ∧
    linkStateOf (tOwn 2 tEnd) .twin = 2 ∧ ownOf (tOwn 2 tEnd) .twin = tEnd ∧
    ownOf (tOwn 2 { tEnd with replayWait := true }) .twin = { tEnd with replayWait := true } ∧ tEnd.replayWait = false ∧
    tEnd.rxReplay = none ∧ ({ seq := 0xFFF, eop := true, sop := true, len := 240 } : Flit).seq = tEnd.rxNext ∧ ({ seq := 0 } : Flit).seq ≠ tEnd.rxNext ∧
    ownOf (count (tOwn 2 tEnd) (linkReg .twin 0x10) 16 .once (linkEvent .twin)) .twin = tEnd ∧
    replayMax (tOwn 2 tEnd) .twin ≤ tEnd.replays ∧ tEnd.ackOwed = true ∧ OwnLink.reset.ackOwed = false ∧
    tEnd.replayBuf = { seq := 9 } :: [] ∧ OwnLink.reset.replayBuf = [] ∧
    (ownOf (takeFields (tOwn 2 tEnd) .twin { ackSeq := 9 }) .twin).rxNext = 0xFFF ∧ (0xFFF#12 ≠ 0) := by decide +kernel
theorem test_hyp_LinkStates : linkStateOf (tTrunk 3 0 0 true) (.port 0) = 3 ∧ ownProtocol (tTrunk 3 0 0 true) (.port 0) = true ∧
    linkStateOf (tOwn 3 tEnd) .twin = 3 ∧ linkStateOf (tOwn 2 tEnd) .twin ≠ 3 ∧ linkStateOf (tTrunk 1 0 0 true) (.port 0) < 2 ∧
    mayTrain (tTrunk 3 0 0 true) (.port 0) = true ∧ mayTrain (tTrunk 3 0 0 true) (.port 1) = false ∧
    mayTrain (tTrunk 2 0 0 true) (.port 0) = true ∧ mayTrain (tTrunk 1 0 0 true) (.port 0) = true ∧
    linkStateOf (tTrunk 2 0 0 true) (.port 0) = 2 ∧ mayTrain (tOwn 2 tEnd) .twin = true ∧
    mayTrain (tPort 1 1 true) (.port 0) = true ∧ ownProtocol (tPort 1 1 true) (.port 0) = false ∧
    linkStateOf (tPort 1 1 true) (.port 0) ≠ 2 ∧ linkStateOf (tPort 1 1 true) (.port 0) ≠ 3 ∧ portValid (tPort 1 1 true) 0 = true ∧
    portValid (tPort 1 1 true) 1 = false ∧ linkActive (tPort 1 1 true) 0 = false ∧ linkActive (tPort 1 3 true) 0 = true ∧
    ownProtocol (tPort 1 3 true) (.port 0) = false ∧ (0 : Fin 128).val / 4 = 0 := by decide +kernel
theorem test_hyp_LinkStates_width : fld (statusWord (tTrunk 1 0 0 true) (.port 0) ⟨0, 1, false, 0, false, false⟩) 25 23 < 2 ∧
    mayTrain (tTrunk 1 0 0 true) (.port 0) = true ∧ ownProtocol (tTrunk 1 0 0 true) (.port 0) = true ∧
    2 ≤ fld (statusWord (tTrunk 1 0 0 true) (.port 0) ⟨0, 2, false, 0, false, false⟩) 25 23 ∧
    fld (statusWord (tOwn 1 OwnLink.reset) .twin ⟨6, 1, false, 0, false, false⟩) 25 23 < 2 ∧
    mayTrain (tOwn 1 OwnLink.reset) .twin = true ∧ linkStateOf (tOwn 1 OwnLink.reset) .twin ≠ 2 := by decide +kernel
theorem test_hyp_LinkStates_trained :
    (∀ t, t = settleSpares (trainLanes (setReg (tPort 1 1 true) (linkReg (.port 0) 0) (statusWord (tPort 1 1 true) (.port 0) ⟨0, 0, false, 0, false, false⟩))
      (.port 0) 0) (.port 0) true → ownProtocol t (.port 0) = false) ∧
    (∀ t, t = settleSpares (trainLanes (setReg (tTrunk 3 0 0 true) (linkReg (.port 0) 0) (statusWord (tTrunk 3 0 0 true) (.port 0) ⟨0, 0, false, 0, false, false⟩))
      (.port 0) 0) (.port 0) true → ownProtocol t (.port 0) = true) := by
  constructor <;> (intro t h; rw [h]; decide +kernel)

def tSw (w : Switchover) (st : Word) : State := { tTrunk 2 st 0 true with links := ⟨[], [(0, w)]⟩ }
def tSw0 (n : Nat) (ack res : Bool) : Switchover := ⟨2, n, false, ack, false, false, res⟩
theorem test_hyp_SpareSwitchovers : ownerActive (tTrunk 1 0x40000000 0 true) (.block 0) = false ∧
    ownerActive (tTrunk 2 0x40000000 0 true) (.block 0) = true ∧ swOf (tTrunk 2 0x40000000 0 true) (spareKey (.block 0) false) = none ∧
    spareState (tTrunk 2 0x40000000 0 true) (.block 0) false = 1 ∧ spareState (tTrunk 2 0x80000002 0 true) (.block 0) false = 2 ∧
    spareLane (tTrunk 2 0x80000002 0 true) (.block 0) false = (2#5).toNat ∧
    swOf (tSw (tSw0 1 false false) 0) (spareKey (.block 0) false) = some (tSw0 1 false false) ∧ ownerActive (tSw (tSw0 1 false false) 0) (.block 0) = true ∧
    SpareOwner.block 0 ≠ .twin ∧ (2#5).toNat < (3#5).toNat ∧ (tSw0 1 false false).lane = 2 ∧
    swOf (tSw (tSw0 8 false true) 0) (spareKey (.block 0) false) = some (tSw0 8 false true) ∧ (tSw0 8 false true).restore = true ∧
    (tSw0 7 false false).requests < 8 ∧ 0 < (tSw0 1 false false).requests ∧ (tSw0 8 false true).requests = 8 ∧
    swOf (tSw (tSw0 1 true false) 0) (spareKey (.block 0) false) = some (tSw0 1 true false) ∧ (tSw0 1 true false).gotAck = true := by
  decide +kernel
/-! ### Functions and slots -/

/-- Host port 0 ACTIVE with its physical function and VFs enabled by `iov`, pair state `ps`; `flr` is the key's reset stage. -/
def tFn (ps : Nat) (iov : Word) (flr : SMap Nat) (jobs : List PeerJob) : State :=
  let s := tS [(R.PB_LINK_STATUS 0 0, 0x40000000), (R.TWIN_PAIR_STATUS, BitVec.ofNat 32 (ps * 2 ^ 28))]
    [(R.PB_PORT_CFG 0 0, 0x90000000), (R.STX_TENANT_W0 0, 0x80000000)]
  { s with
    fns := { s.fns with layout := [(0, 0x80000000), (1, 0x07FF07FF)], cfg := [(1 * 1024 + 1, 2), (1 * 1024 + 0x168 / 4, iov), (1 * 1024 + 0x170 / 4, 2)], flr := flr }
    hp := { s.hp with jobs := jobs } }
theorem test_hyp_FunctionCommands :
    (∀ s, s = { tFn 0 0 [] [] with pair := { (tFn 0 0 [] []).pair with clash := true } } →
      s.pair.clash = true ∧ pairState s = 0 ∧ portRole s 0 = 1 ∧ (0 : Fin 128) ∉ s.fns.retryEnded) ∧
    linkActive (tS [(R.PB_LINK_STATUS 0 0, 0)] [(R.PB_PORT_CFG 0 0, 0x90000000)]) 0 = false ∧
    portRole (tFn 3 0 [] []) 0 = 1 ∧ linkActive (tFn 3 0 [] []) 0 = true ∧ retryStatus (tFn 0 0 [] []) 0 = true ∧
    retryStatus (tFn 3 0 [] []) 0 = false ∧ fnPresent (tFn 3 0 [] []) 0 2 = false ∧ fnPresent (tFn 3 0 [] []) 0 1 = true ∧
    fnPresent (tFn 3 1 [] []) 0 3 = true ∧ fnPresent (tFn 3 1 [] []) 0 4 = false ∧ inFlr (tFn 3 0 [(1, 1)] []) 0 1 = true ∧
    inFlr (tFn 3 0 [] []) 0 1 = false ∧ vfEnable (tFn 3 0 [] []) 0 = false ∧ vfEnable (tFn 3 1 [] []) 0 = true ∧
    (2047#11).toNat < msixSize (tFn 3 0 [] []) 0 1 ∧ vectorPending (tFn 3 0 [] []) 0 1 2047 = false := by
  refine ⟨fun s h => ?_, by decide +kernel⟩
  subst h; decide +kernel
theorem test_hyp_FunctionResetsAndPeers : fnPresent (tFn 3 1 [] []) 0 3 = true ∧ inFlr (tFn 3 1 [] []) 0 3 = false ∧ 2 ≤ 3 ∧
    inFlr (tFn 3 1 [(3, 1)] []) 0 3 = true ∧ flrWaits (tFn 3 1 [(3, 2)] []) 0 3 = true ∧ flrWaits (tFn 3 1 [(3, 1)] []) 0 3 = false ∧
    (tFn 3 1 [(3, 2)] [{ emptyJob 0 3 .read with dropped := true }]).hp.jobs.any (fun j => j.port == 0 && j.func == 3 && j.dropped) = true ∧
    (tFn 3 1 [(3, 2)] []).hp.jobs.any (fun j => j.port == 0 && j.func == 3 && j.dropped) = false ∧
    fnPresent (tFn 3 1 [] []) 0 256 = false ∧ barClosed (tFn 3 0 [] []) 0 1 = false ∧ tenantOf (tFn 3 0 [] []) 0 1 = some 0 ∧
    windowFor (tFn 3 0 [] []) 0 0x1000 4096 = none := by decide +kernel

/-- Function 1 of host port 0 with window 0 of its tenant over its BAR's first GiB, to segment 1. -/
def tWin : State :=
  { tFn 3 0 [] [] with banks := ⟨tWords [(R.PB_PORT_CFG 0 0, 0x90000000), (R.STX_TENANT_W0 0, 0x80000000), (R.STX_WIN_W0 0 0, 0xF0000000),
      (R.STX_WIN_W1 0 0, 1), (R.STX_WIN_W2 0 0, 1), (R.SEG_BIND 0 0, 8), (R.SEG_ENTRY_W0 1, 0x80000000)], [], []⟩ }
theorem test_hyp_FunctionResetsAndPeers_window : fnPresent tWin 0 1 = true ∧ barClosed tWin 0 1 = false ∧ tenantOf tWin 0 1 = some 0 ∧
    windowFor tWin 0 0x3FFFFFFC 4 = some 0 ∧ windowFor tWin 0 0x3FFFFFFE 4 = none ∧ portReach (bankNow tWin) 0 0x7FFFFFFC = true ∧
    bitAt (liveWord tWin (R.STX_WIN_W0 0 0)) 28 = true ∧ bitAt (liveWord tWin (R.STX_WIN_W0 0 0)) 29 = true ∧
    bitAt (liveWord tWin (R.STX_WIN_W0 0 0)) 30 = true := by decide +kernel
/-- Channel 31 in SLOT_STATUS `st` with both feeds fitted; `t` is TIMING, `f` adds to FEED. -/
def tSlot (st : Nat) (f : Nat) : State :=
  tS [(R.SLOT_STATUS 31, BitVec.ofNat 32 st), (R.SLOT_CNT0 31, 0xFFFFFFFF), (R.SLOT_CNT1 31, 0)]
    [(R.SLOT_FEED 31, BitVec.ofNat 32 (3 * 2 ^ 29 + f))]
theorem test_hyp_SlotFaults : slotState (tSlot (1 * 2 ^ 29) 0) 31 ∈ [1] ∧ slotState (tSlot (2 * 2 ^ 29) 0) 31 ∈ [1, 2, 3] ∧
    slotState (tSlot (2 * 2 ^ 29) 0) 31 ∈ [1, 2] ∧ slotState (tSlot (2 * 2 ^ 29) 0) 31 ∈ [2] ∧ slotState (tSlot (4 * 2 ^ 29) 0) 31 ∉ [1, 2, 3] ∧
    slotState (tSlot (3 * 2 ^ 29) 0) 31 ∉ [1, 2] ∧ slotState (tSlot 0 0) 31 ≠ 1 ∧ slotState (tSlot (1 * 2 ^ 29) 0) 31 ∉ [2, 3] ∧
    slotState (tSlot (3 * 2 ^ 29) 0) 31 = 3 ∧ sGet (tSlot (3 * 2 ^ 29) 0).slots.breakTo 31 0 = 0 ∧ slotPwrgd (tSlot 0 0) 31 = false ∧
    slotPwrgd (tSlot (2 ^ 25) 0) 31 = true ∧ slotFitted (tSlot 0 0) 31 (feedNo .B) = true ∧ slotFitted (tS [] []) 31 (feedNo .A) = false := by
  decide +kernel
/-- A slot channel that serves the active link of device port 0, with power-good or without. -/
def tFedPort (st : Word) : State :=
  tS [(R.SLOT_STATUS 0, st), (slotCtrl 0, 0), (R.PB_LINK_STATUS 0 0, 0x40000000)] [(R.PB_PORT_CFG 0 0, 0xA0000000), (R.SLOT_MAP 0, 0x80000000)]
theorem test_hyp_SlotFaults_link : slotPort (tFedPort 0x42000000) 0 = some 0 ∧ slotPwrgd (tFedPort 0x42000000) 0 = true ∧
    slotPwrgd (tFedPort 0xA0000000) 0 = false ∧ linkActive (tFedPort 0xA0000000) 0 = true ∧
    (tFedPort 0xA0000000).dev.fabReset = false ∧ slotState (tFedPort 0x42000000) 0 = 2 ∧ slotFitted (tFedPort 0) 0 0 = false := by
  decide +kernel
theorem test_hyp_SlotPresenceAndCommands_feeds :
    (∀ s, s = { tSlot 0 0 with slots := { (tSlot 0 0).slots with debounced := [31] } } → 31 ∈ s.slots.debounced ∧
      bitAt (liveWord s (R.SLOT_MAP 31)) 8 = false) ∧ slotState (tSlot (2 * 2 ^ 29) 0) 31 = 2 ∧
    feedOk (tSlot (2 * 2 ^ 29) 0) 31 1 = false ∧
    feedOk (tSlot (2 * 2 ^ 29 + 2 ^ 26) 0) 31 (1 - slotFeed (tSlot (2 * 2 ^ 29 + 2 ^ 26) 0) 31) = true ∧
    slotFeed (tSlot (2 * 2 ^ 29 + 2 ^ 28 + 2 ^ 27) 0) 31 ≠ slotPrefer (tSlot (2 * 2 ^ 29 + 2 ^ 28 + 2 ^ 27) 0) 31 ∧
    feedOk (tSlot (2 * 2 ^ 29 + 2 ^ 28 + 2 ^ 27) 0) 31 (slotPrefer (tSlot (2 * 2 ^ 29 + 2 ^ 28 + 2 ^ 27) 0) 31) = true ∧
    fld (liveWord (tSlot (2 * 2 ^ 29 + 2 ^ 28 + 2 ^ 27) 0) (R.SLOT_FEED 31)) 22 16 = 0 ∧
    fld (liveWord (tSlot (2 * 2 ^ 29 + 2 ^ 28 + 2 ^ 27) (127 * 2 ^ 16)) (R.SLOT_FEED 31)) 22 16 ≠ 0 ∧
    slotPresent (tSlot (2 ^ 22) 0) 31 = true ∧ slotPresent (tSlot 0 0) 31 = false ∧ 31 ∉ (tSlot 0 0).slots.debounced := by
  refine ⟨fun s h => ?_, by decide +kernel⟩
  subst h; decide +kernel
/-- Channel 0 serves device port 0; PB_SLOT_CTRL of the port is `c`. -/
def tServed (st c : Word) (n : Nat) : State :=
  let s := tS [(R.SLOT_STATUS 0, st), (slotCtrl 0, c), (R.SLOT_SB, 0)] [(R.PB_PORT_CFG 0 0, 0xA0000000), (R.SLOT_MAP 0, 0x80000000)]
  { s with slots := { s.slots with ccPending := [(0, n)] } }
theorem test_hyp_SlotPresenceAndCommands_port :
    (∀ s, s = tS [] [(R.SLOT_SB, 0x80000000)] → bitAt (liveWord s R.SLOT_SB) 31 = true) ∧
    (∀ s, s = { tS [] [] with slots := { (tS [] []).slots with badScans := 1 } } → 1 ≤ s.slots.badScans) ∧
    slotPort (tServed 0x80000000 0 0) 0 = some 0 ∧ slotState (tServed 0x80000000 0 0) 0 = 4 ∧
    rdBit (tServed 0x80000000 0 0) (slotCtrl 0) 10 = false ∧ rdBit (tServed 0 0x400 0) (slotCtrl 0) 10 = true ∧
    slotPort (tServed 0 0 0) 31 = none ∧ portSlot (tServed 0 0 0) 127 = none ∧ portSlot (tServed 0 0 0) 0 = some 0 ∧
    sGet (tServed 0 0 0).slots.ccPending 0 0 = 0 ∧ sGet (tServed 0 0 1).slots.ccPending 0 0 = 0 + 1 ∧
    (tServed 0 0 0).dev.fabReset = false ∧ bitAt (liveWord (tServed 0 0 0) R.SLOT_SB) 31 = false ∧
    (0#16 : BitVec 16) ≠ chainCheck := by
  refine ⟨fun s h => ?_, fun s h => ?_, by decide +kernel⟩ <;>
    (subst h; decide +kernel)
/-! ### Transactions and images -/

/-- Transaction state `st`, coordinating where `co`, with the code OTHER (bit 27) as given; `t` is what the unit holds. -/
def tTx (st : Nat) (co ch : Bool) (t : Txn) (l : List (Nat × Word)) : State :=
  let s := tS [(R.STX_TXN_STATUS, BitVec.ofNat 32 (st * 2 ^ 29 + co.toNat * 2 ^ 28 + ch.toNat * 2 ^ 27)), (R.STX_TXN_HANDLE, t.handle),
    (R.STX_TXN_CFG, 1), (R.TWIN_PAIR_STATUS, 0x30000000), (R.RST_SUP_STATUS, 0), (R.EVT_PEND 0, 0)] l
  { s with txn := t }
def tOpen (o : Option FabInit) : Txn := { State.reset.txn with owner := o, handle := 0x101 }
/-- A structure that validates: landing minima and VOQ maxima of 64 cells. -/
def tGood : List (Nat × Word) := (List.range 16).flatMap (fun n =>
  (R.RGN_BUF_VOQ_MAX n, 64) :: (List.range 4).map (fun c => (R.RGN_BUF_MIN n (32 + c), 64)))
theorem test_hyp_TransactionOwnership : txnState (tTx 1 true false (tOpen none) []) ≠ 0 ∧ txnState (tTx 0 true false (tOpen none) []) = 0 ∧
    rejoining (tTx 0 true false (tOpen none) []) = false ∧ (tTx 0 true false (tOpen none) []).dev.keeperRun = true ∧
    txnState (tTx 2 true false (tOpen none) []) = 2 ∧ txnState (tTx 3 true false (tOpen none) []) = 3 ∧
    (tOpen (some .endpoint)).owner ≠ some .keeper ∧ getReg (tTx 1 true false (tOpen (some .keeper)) []) R.STX_TXN_HANDLE = (tOpen (some .keeper)).handle ∧
    getReg (tS [(R.STX_TXN_HANDLE, 5)] []) R.STX_TXN_HANDLE ≠ (tOpen none).handle ∧
    supplyTrouble (tTx 0 true false (tOpen none) []) = false ∧ supplyTrouble (tS [(R.RST_SUP_STATUS, 0x80000000)] []) = true ∧
    isCoord (tTx 1 true false (tOpen none) []) = true ∧ isCoord (tTx 1 false false (tOpen none) []) = false ∧
    rd (tTx 1 true false (tOpen none) []) R.STX_TXN_CFG 15 0 ≠ 0 ∧ rd (tS [(R.STX_TXN_CFG, 0)] []) R.STX_TXN_CFG 15 0 = 0 ∧
    (tOpen none).owner = none ∧ FabInit.endpoint ≠ .keeper := by decide +kernel
theorem test_hyp_TransactionOwnership_write : structMask R.STX_TXN_CFG = 0 ∧ structMask (R.SEG_ENTRY_W0 65535) ≠ 0 ∧
    fabricGuard tGuard .keeper (R.SEG_ENTRY_W0 65535) true = some ⟨2, 0x7F, R.SEG_ENTRY_W0 65535⟩ ∧
    fabricGuard (tTx 1 true false (tOpen (some .keeper)) []) .keeper (R.SEG_ENTRY_W0 65535) true = none ∧
    isLocked (tTx 1 true false (tOpen (some .keeper)) []) (R.SEG_ENTRY_W0 65535) = false ∧
    structMask (R.RST_FG_ENTRY_CTRL 31) ≠ 0 ∧ isLocked (tTx 1 true false (tOpen (some .keeper)) [(R.RST_FG_ENTRY_CTRL 31, 0x40000000)])
      (R.RST_FG_ENTRY_CTRL 31) = true := by decide +kernel
def tPrep : Txn := { tOpen none with gotPrepare := true }
def tCom (d p s : Bool) : Txn := { tOpen (some .keeper) with validated := true, drained := d, sentPrepare := p, sentSwitch := s }
theorem test_hyp_TransactionCommit_run : txnState (tTx 2 false false tPrep []) = 2 ∧ tPrep.gotPrepare = true ∧ tPrep.sentPrepared = false ∧
    txnState (tTx 2 true false (tCom false false false) []) = 2 ∧ (tCom false false false).gotPrepare = false ∧ (tCom false false false).validated = true ∧
    (tCom false false false).drained = false ∧ (tCom false false false).sentSwitch = false ∧ (tCom false false false).sentPrepare = false ∧
    (tCom false true false).gotPrepared = false ∧ (tCom false true false).sentPrepare = true ∧
    isCoord (tTx 2 true false (tCom true true false) []) = true ∧ (tCom true true false).drained = true ∧ (tCom false true false).drained = false ∧
    ({ tPrep with sentPrepared := true } : Txn).newEpoch = 0 ∧ ({ tPrep with sentPrepared := true } : Txn).sentPrepared = true ∧
    (tCom true true true).sentSwitch = true ∧ (tOpen none).sentSwitch = false := by decide +kernel

def tImg (im : Option (List Byte)) (ld : Option (List Byte)) (w : Word) (sup : Word) : State :=
  let s := tS [(R.STX_IMG_LOAD, w), (R.STX_IMG_STATUS, 0), (R.RST_SUP_STATUS, sup), (R.STX_TXN_STATUS, 0)] []
  { s with txn := { s.txn with image := im, loading := ld } }
theorem test_hyp_ImageWrites : (tImg none none 0 0).txn.image = none ∧ (tImg (some [1]) none 0 0).txn.image = some [1] ∧
    rdBit (tImg none none 0x40000000 0) R.STX_IMG_LOAD 30 = true ∧ rdBit (tImg none none 0 0) R.STX_IMG_LOAD 30 = false ∧
    (tImg none none 0 0).dev.stuck = false ∧ false = bootedSlot (tImg none none 0 0) ∧ true ≠ bootedSlot (tImg none none 0 0) ∧
    supplyTrouble (tImg none none 0 0x80000000) = true ∧ supplyTrouble (tImg none none 0 0) = false ∧ (1023#10 ≠ 0) ∧
    (tImg none none 0 0).txn.loading = none ∧ (tImg none (some [1]) 0 0).txn.loading = some [1] := by decide +kernel
/-! ### The pair, events, snapshots, resets and start-up -/

/-- Pair state `ps`, twin link state `ts`, the wire used where `w`. -/
def tPair (ps ts : Nat) (w : Bool) (p : Pair) : State :=
  let s := tS ((R.TWIN_PAIR_STATUS, BitVec.ofNat 32 (ps * 2 ^ 28)) :: (R.TWIN_LINK_STATUS, BitVec.ofNat 32 (ts * 2 ^ 29)) ::
      (R.TWIN_HOMING, 2) :: (R.TWIN_ACTING, 4) :: (List.range 32).map (fun x => (R.DIR_CTRL x, 1)))
    [(R.TWIN_PAIR_CFG, if w then 0x80000000 else 0), (R.TWIN_PAIR_TAG, 7)]
  { s with pair := p }
def tP : Pair := { State.reset.pair with missLink := 0, missWire := 7 }
def tBeacon (pid : Bool) (tag : BitVec 32) (st : PairState) : Beacon := ⟨pid, st, 0, 0xFFFF, 1, tag⟩
theorem test_hyp_BeaconsAndTakeover_paths : twinState (tPair 2 0 false tP) ≠ 2 ∧ bitAt (liveWord (tPair 2 0 false tP) R.TWIN_PAIR_CFG) 31 = false ∧
    bitAt (liveWord (tPair 2 0 true tP) R.TWIN_PAIR_CFG) 31 = true ∧ twinState (tPair 2 2 true tP) = 2 ∧ pathUsed (tPair 2 0 false tP) .wire = false ∧
    pathUsed (tPair 2 0 false tP) .link = true ∧ (tBeacon false 7 .paired).pid = (tPair 2 2 true tP).dev.pid ∧
    (tBeacon true 7 .paired).pid ≠ (tPair 2 2 true tP).dev.pid ∧ (tBeacon true 8 .paired).pairTag ≠ liveWord (tPair 2 2 true tP) R.TWIN_PAIR_TAG ∧
    (tBeacon true 7 .paired).pairTag = liveWord (tPair 2 2 true tP) R.TWIN_PAIR_TAG := by decide +kernel
theorem test_hyp_BeaconsAndTakeover_takeover : pairState (tPair 3 0 true tP) ≠ 2 ∧ pairState (tPair 2 0 true tP) = 2 ∧ tP.takeoverStep = 0 ∧
    linkPathLost (tPair 2 0 true State.reset.pair) = true ∧ wireLost (tPair 2 0 true State.reset.pair) = true ∧
    linkPathLost (tPair 2 0 true tP) = false ∧ wireLost (tPair 2 0 true tP) = false ∧
    (({ tP with last := some (tBeacon true 7 .stoodDown) } : Pair).last.map (·.state)) = some .stoodDown ∧
    ({ tP with takeoverStep := 3 } : Pair).takeoverStep = 3 ∧ tP.takeoverStep ≠ 3 ∧ ({ tP with takeoverStep := 4 } : Pair).takeoverStep = 4 ∧
    (0xFFFF#16).toNat ∉ tP.recovery ∧ (0xFFFF#16).toNat ∈ ({ tP with recovery := [65535] } : Pair).recovery ∧ (tPair 2 0 true tP).co.cache = [] := by
  decide +kernel
theorem test_hyp_HandoverAndHoming :
    (∀ s, s = { tS [] [] with dev := { (tS [] []).dev with held := [.region 15] } } → parentDown s (.slice 31) = true) ∧
    pairState (tPair 5 2 false tP) = 5 ∧ handoverQuiet (tPair 5 2 false tP) = true ∧
    handoverQuiet { tPair 5 2 false tP with pair := { tP with fwd := [⟨0, 0, 0, 0, 0, { kind := .rdCur, m := {} }, false⟩] } } = false ∧
    pairState (tPair 0 2 false tP) = 0 ∧ ({ tP with looking := true } : Pair).looking = true ∧ tP.clash = false ∧
    tP.looking = false ∧ parentDown (tS [] []) (.slice 31) = false ∧ partnerServes (tPair 2 2 false tP) = true ∧
    slicedAway (tPair 2 2 false tP) 0 = false ∧ sGet tP.repair 0 0 = 0 ∧ sliceActing (tPair 2 2 false tP) 2 = true ∧
    (∀ g ∈ tP.homing, g.slice ≠ 2) ∧ sliceActing (tPair 2 2 false tP) 0 = false ∧
    2 ≤ sGet ({ tP with repair := [(0, 2)] } : Pair).repair 0 0 ∧ sGet tP.repair 0 0 < 2 := by
  refine ⟨fun s h => ?_, by decide +kernel⟩
  subst h; decide +kernel
theorem test_hyp_HandoverAndHoming_join : slicedAway (tPair 1 2 false tP) 1 = true ∧ joinInvalid (tPair 1 2 false tP) = true ∧
    joinInvalid (tPair 2 2 false tP) = false ∧ pairState (tPair 1 2 false tP) = 1 ∧ (0 : Fin 32) ∉ tP.syncGot ∧ pairState (tPair 2 2 false tP) ≠ 1 ∧
    tP.rejoinSource = false := by decide +kernel
theorem test_hyp_HandoverAndHoming_recall :
    (∀ s, s = { tS [] [] with co := { (tS [] []).co with cache := [(0, [⟨0, 0, true⟩])] } } →
      Arrives s (.setrecall 0 (Fin.ofNat 32 (lineSlice 0 + 1)) 0) s ∧
      (∀ e ∈ s.co.cache, ∀ c ∈ e.2, ¬ (lineSlice c.line = (Fin.ofNat 32 (lineSlice 0 + 1)).val ∧ lineSet c.line = (0 : Fin 8192).val)) ∧
      (∀ e ∈ s.co.cache, e.2 ≠ [])) := by
  intro s h; subst h; exact ⟨tArrives (by decide +kernel), by decide +kernel⟩

def tEv (pend : Word) (twin : Word) (cfg : Word) (sup : Word) : State :=
  tS [(R.EVT_PEND 15, pend), (R.EVT_TWIN_PEND 15, twin), (R.EVT_PERSIST_CFG, cfg), (R.RST_SUP_STATUS, sup)] []
theorem test_hyp_EventsAndSnapshots_events : evPending (tEv 0x80000000 0 0 0) 511 = true ∧ evPending (tEv 0x7FFFFFFF 0 0 0) 511 = false ∧
    false = (tEv 0 0 0 0).dev.pid ∧ true ≠ (tEv 0 0 0 0).dev.pid ∧ rdBit (tEv 0 0x80000000 0 0) (R.EVT_TWIN_PEND 15) 31 = true ∧
    rdBit (tEv 0 0 0 0) (R.EVT_TWIN_PEND 15) 31 = false ∧ rdBit (tEv 0 0 0 0) R.EVT_PERSIST_CFG 31 = false ∧
    rdBit (tEv 0 0 0x80000000 0) R.EVT_PERSIST_CFG 31 = true ∧ (tEv 0 0 0 0).dev.keeperRun = true ∧ (tEv 0 0 0 0).dev.jpage = none ∧
    supplyTrouble (tEv 0 0 0 0x80000000) = true ∧ supplyTrouble (tEv 0 0 0 0) = false ∧
    ({ (tEv 0 0 0 0).dev with jpage := some [1] } : Dev).jpage = some [1] := by decide +kernel
/-- The snapshot engine with CTRL `c`, ring of `n` slots at segment 1, which is valid and private; SLOT WRITE `w`, READ `r`. -/
def tSnap (c n w r : Nat) (rec : Option (List Byte)) (seg : Word) : State :=
  let s := tS [(R.PERF_SNAP_CTRL, BitVec.ofNat 32 c), (R.PERF_SNAP_BASE, 0x40000), (R.PERF_SNAP_BASE + 4, 0), (R.PERF_SNAP_SIZE, BitVec.ofNat 32 n),
    (R.PERF_SNAP_WRITE, BitVec.ofNat 32 w), (R.PERF_SNAP_READ, BitVec.ofNat 32 r)] [(R.SEG_ENTRY_W0 1, seg)]
  { s with snap := { s.snap with record := rec } }
theorem test_hyp_EventsAndSnapshots_ring :
    (∀ s, s = { tSnap 0 2 0 0 (some []) 0 with dp := ⟨[], [⟨0, 0, 0, none, some .snap, false, 0, none⟩], [], []⟩ } → bodyOut s = true) ∧
    bitAt 0x80000000#32 31 = true ∧ rdBit (tSnap 0 2 0 0 none 0) R.PERF_SNAP_CTRL 31 = false ∧
    rdBit (tSnap 0xC0000000 2 0 0 none 0) R.PERF_SNAP_CTRL 31 = true ∧
    (tSnap 0xC0000000 2 0 0 (some []) 0).snap.record.isSome = true ∧
    ringPlaced (tSnap 0xC0000000 262143 0 0 none 0) = false ∧
    ringPlaced (tSnap 0xC0000000 262143 0 0 none 0x80000000) = true ∧
    rdBit (tSnap 0xC0000000 2 0 0 none 0) R.PERF_SNAP_CTRL 30 = true ∧ bodyOut (tSnap 0 2 0 0 (some []) 0) = false ∧
    nextSlot (tSnap 0 4 3 0 (some []) 0) (nextSlot (tSnap 0 4 3 0 (some []) 0) (ringWrite (tSnap 0 4 3 0 (some []) 0))) ≠
      rd (tSnap 0 4 3 0 (some []) 0) R.PERF_SNAP_READ 17 0 ∧
    nextSlot (tSnap 0 4 2 0 (some []) 0) (nextSlot (tSnap 0 4 2 0 (some []) 0) (ringWrite (tSnap 0 4 2 0 (some []) 0))) =
      rd (tSnap 0 4 2 0 (some []) 0) R.PERF_SNAP_READ 17 0 := by
  refine ⟨fun s h => ?_, by decide +kernel⟩
  subst h; decide +kernel
def tCtr (sel next : Word) : State :=
  tS [(perfBase 0, sel), (perfBase 1, next), (perfBase 319, sel), (perfBase 0 + 8, 0xFFFFFFFF), (perfBase 0 + 12, 0xFFFFFFFF),
    (perfBase 319 + 8, 0xFFFFFFFF), (perfBase 319 + 12, 0xFFFFFFFF)] []
theorem test_hyp_EventsAndSnapshots_counters : rdBit (tCtr 0 0) (perfBase 0) 31 = false ∧ rdBit (tCtr 0x80000000 0) (perfBase 0) 31 = true ∧
    rdBit (wr64 (tCtr 0x80000000 0) (perfBase 0 + 8) 0) (perfBase 0) 30 = false ∧ perfLast 319 = true ∧
    rdBit (wr64 (tCtr 0xC0000000 0) (perfBase 0 + 8) 0) (perfBase 0) 30 = true ∧ perfLast 0 = false ∧
    rdBit (wr64 (tCtr 0xC0000000 0) (perfBase 0 + 8) 0) (perfBase 1) 31 = false := by decide +kernel

theorem test_hyp_EventsAndSnapshots_due : (tCtr 0 0).snap.due = [] ∧ 319 ∉ (tCtr 0 0).snap.due ∧
    (319 : Fin 320).val ∈ ({ (tCtr 0 0).snap with due := [319] } : Snap).due := by decide +kernel
theorem test_hyp_ResetSources_levels : effLevel (tS [] []) 1 = 4 ∧ effLevel (tS [] []) 2 ≠ 4 ∧ State.reset.dev.pkgReset = true ∧
    (tS [] []).dev.pkgReset = false ∧ 10000 ≤ 10000 ∧ (2000 ≤ 2000 ∧ true = true) ∧ 1999 < 2000 ∧ (9999 < 10000 ∧ false = false) ∧
    swTarget (5#3).toNat 0 = none ∧ swTarget (1#3).toNat (32#7).toNat = none ∧ swTarget (1#3).toNat (31#7).toNat = some (.portBlock 31) ∧
    effLevel (tS [] []) (3 + 1) < 3 ∧ swTarget (3#3).toNat 0 = some .chip ∧ 3 ≤ effLevel (tS [] []) (3 + 3) ∧
    (tPair 2 2 false tP).dev.fabReset = false ∧ pairState (tPair 2 2 false tP) = 2 ∧ tP.takeoverStep = 0 ∧ pairState (tPair 3 2 false tP) ≠ 2 := by
  decide +kernel
theorem test_hyp_ResetSources_units : State.reset.dev.keeperRun = false ∧ (tS [] []).dev.keeperRun = true ∧
    (tP.last.map (·.state)) ≠ some PairState.stoodDown ∧ ({ (tS [] []).dev with wdRestarted := true } : Dev).wdRestarted = true ∧
    (tS [] []).dev.wdRestarted = false ∧ rdBit (tS [(R.RST_SUP_STATUS, 0x10000000)] []) R.RST_SUP_STATUS 28 = true ∧
    rdBit (tEv 0 0 0 0) R.RST_SUP_STATUS 28 = false ∧ portRole (tPort 1 2 true) 0 = 1 ∧ portRole (tS [] []) 127 ≠ 1 ∧
    (0 : Fin 128) ∉ (tPort 1 2 true).dev.perst ∧ 115 ≤ (115#8).toNat ∧ (114#8).toNat < 115 ∧
    ((some (tBeacon true 7 .stoodDown)).map (·.state)) = some .stoodDown ∧
    (∀ u ∈ (tS [] []).dev.held, u ≠ RUnit.slice 31 ∧ ∀ b : Fin 128, u = RUnit.bank b → b.val / 4 ≠ 31) ∧
    RUnit.slice 31 ∈ ({ (tS [] []).dev with held := [.slice 31] } : Dev).held ∧ sGet tP.repair 31 0 ≠ 4 := by decide +kernel

/-- Host port 0 whose reset pin is asserted, its cell held by it alone or by its block too. -/
def tPerst (h : List RUnit) : State :=
  { tPort 1 2 true with dev := { (tPort 1 2 true).dev with perst := [0], held := h, otpShadow := [(22, 0)] } }
theorem test_hyp_ResetSources_perst : portRole (tPerst []) 0 = 1 ∧ (0 : Fin 128) ∈ (tPerst []).dev.perst ∧
    perstCells (tPerst []) 0 = [0] ∧
    (∀ h b, (h, b) ∈ [([RUnit.cell 0], true), ([.cell 0, .portBlock 0], false)] →
      ∀ t u, t = { tPerst h with dev := { (tPerst h).dev with perst := [] } } →
        u = letGo t (fun r => [0].any (fun c => decide (r = widen (.cell (Fin.ofNat 128 c)) (min 1 (effLevel (tPerst h) 22))))) →
        [0].any (fun c => ! u.dev.held.contains (.cell (Fin.ofNat 128 c)) && ! absorbed u (.cell (Fin.ofNat 128 c))) = b) := by
  refine ⟨by decide +kernel, by decide +kernel, by decide +kernel, fun h b hm t u ht hu => ?_⟩
  simp only [List.mem_cons, List.not_mem_nil, or_false, Prod.mk.injEq] at hm
  rcases hm with ⟨rfl, rfl⟩ | ⟨rfl, rfl⟩ <;> (subst ht; subst hu; decide +kernel)
def tBoot (step sup : Nat) : State :=
  let s := tS [(R.RST_BRINGUP, BitVec.ofNat 32 step), (R.RST_SUP_STATUS, BitVec.ofNat 32 sup), (R.RST_OTP_CTRL, 0), (R.TWIN_PAIR_STATUS, 0x20000000)] []
  { s with dev := { s.dev with fabReset := true, otp := [(3, 1)] } }
theorem test_hyp_StartUp_release : (tBoot 1 0).dev.pkgReset = false ∧ State.reset.dev.pkgReset = true ∧ (tBoot 2 0).dev.fabReset = true ∧
    (tBoot 2 0).dev.stopDue = false ∧ mayRelease (tBoot 2 0) = false ∧ mayRelease (tBoot 2 0x30000000) = true ∧ (tS [] []).dev.fabReset = false ∧
    (tBoot 1 0).dev.spiMode = false ∧ (tBoot 1 0).dev.stuck = false ∧ rd (tBoot 1 0) R.RST_BRINGUP 3 0 = 1 ∧
    rdBit (tBoot 1 0x10000000) R.RST_SUP_STATUS 28 = true ∧ rdBit (tBoot 1 0) R.RST_SUP_STATUS 28 = false ∧
    rd (tBoot 3 0) R.RST_BRINGUP 3 0 = 3 ∧ rd (tBoot 4 0) R.RST_BRINGUP 3 0 = 4 ∧ rd (tBoot 4 0) R.RST_BRINGUP 3 0 ≠ 3 ∧
    rd (tBoot 3 0) R.RST_BRINGUP 3 0 ≠ 4 := by decide +kernel
theorem test_hyp_StartUp_stops : ({ (tBoot 2 0).dev with stopDue := true } : Dev).stopDue = true ∧ (tBoot 2 0).dev.fabReset = true ∧
    linkPathLost (tPair 2 0 true State.reset.pair) = true ∧ linkPathLost (tPair 2 0 true tP) = false := by decide +kernel
theorem test_hyp_StartUp_ready : (∀ k, k < 4 → slotPort (tS [] []) (4 * 7 + k) = none) ∧ pairState (tBoot 10 0) = 2 ∧
    rdBit (tBoot 10 0) R.RST_BRINGUP 31 = false ∧ pairState (tPair 0 0 false tP) ≠ 2 ∧ pairState (tPair 0 0 false tP) ≠ 3 ∧
    portRole (tPort 2 1 true) 0 = 2 ∧ linkActive (tPort 2 1 true) 0 = false ∧ linkActive (tPort 2 2 true) 0 = true := by decide +kernel
theorem test_hyp_StartUp_supply : (3049#16).toNat < 3050 ∧ (3149#16).toNat < 3150 ∧ 3150 ≤ (3150#16).toNat ∧ supplyTrouble (tBoot 10 0x80000000) = true ∧
    supplyTrouble (tBoot 10 0) = false ∧ (tBoot 10 0).dev.causeDeferred = false ∧ rdBit (tS [(R.RST_OTP_CTRL, 0x40000000)] []) R.RST_OTP_CTRL 30 = true ∧
    rdBit (tBoot 10 0) R.RST_OTP_CTRL 30 = false ∧ 24 ≤ (24#5).toNat ∧ 4 < (5#3).toNat ∧ (0#3).toNat ≤ factoryDefault (3#5).toNat ∧
    (23#5).toNat < 24 ∧ (4#3).toNat ≤ 4 ∧ factoryDefault (23#5).toNat < (4#3).toNat ∧ factoryDefault (3#5).toNat < (1#3).toNat ∧
    (sFind (tBoot 10 0).dev.otp (3#5).toNat).isSome = true ∧ sFind (tBoot 10 0).dev.otp (23#5).toNat = none := by decide +kernel
/-! ### The spec's worked examples -/

/-- Whether a command completes with a state that has the property. -/
def tNext (c : Instr) (s : State) (p : State → Bool) : Bool := match exec c s with | .next t => p t | _ => false

/-- 01, "Address map" and 11: registers of port block 4, house 2, agents. -/
theorem test_example_addresses : R.PB_PORT_CFG 4 0 = 0x08840000 ∧ R.PB_PORT_CFG 4 2 = 0x08840008 ∧ R.PB_SPARE_CFG 4 = 0x08840080 ∧
    R.COACH_HOUSE_CTRL 2 = 0x08900000 ∧ (agentId (tS [] []) 17).toNat = 17 ∧ (coachAgent (tS [] []) 37).toNat = 165 ∧
    R.DIR_CTRL 1 / 0x10000 = 0x081C ∧ R.SLOT_MAP 5 = 0x01100500 ∧ R.STX_WIN_W0 0x2A3 0 = 0x0342A300 ∧ perfBase 96 = 0x08AC0000 ∧
    R.NOC_ROUTE 14 0 = 0x0D000E00 ∧ R.NOC_ROUTE 12 0 = 0x0D000C00 := by decide +kernel
/-- 02 and 03: the slice and set of the two example lines. -/
theorem test_example_hash : hashSlice 0x7100003040 = 17 ∧ hashSet 0x7100003040 = 1 ∧ 4 * hashSlice 0x7100003040 + setBank (hashSet 0x7100003040) = 68 ∧
    hashSlice 0x28080005180 = 1 ∧ hashSet 0x28080005180 = 6 ∧ 4 * hashSlice 0x28080005180 + setBank (hashSet 0x28080005180) = 4 := by
  decide +kernel
/-- 03, "Read miss": the RdShared of agent 17 on a free line allocates Shared with PTR0 17. -/
theorem test_example_read_miss :
    let p := planFor {} { kind := .rdShared, m := { src := 17 } } false
    p.alloc = true ∧ p.done = .cmpS ∧ p.next.st = .shared ∧ p.next.p0 = 17 ∧ p.snoop = [] := by decide +kernel
/-- 03, "Upgrade with three sharers": snoops to 17 and 165, then Owned by 40 alone without data. -/
theorem test_example_upgrade :
    let p := planFor (tEnt .shared false 17 165 40) { kind := .upgrade, m := { src := 40 } } false
    p.snoop = [17, 165] ∧ p.done = .cmpONoData ∧ p.next.st = .owned ∧ ptrs p.next = [40] := by decide +kernel
/-- 03, "Overflow and broadcast": a fourth sharer sets OVF. -/
theorem test_example_overflow :
    (planFor (tEnt .shared false 17 165 40) { kind := .rdShared, m := { src := 8 } } false).next.ovf = true := by decide +kernel
def tPred : State := tS [(R.DIR_ATOM_CFG 1, 0x38)] []
/-- 04, the predictor of four coaches: scores 0, 2, 6 and 10, near three times and then far. -/
theorem test_example_predictor : predNext tPred 1 0 .quiet = 0 ∧ predNext tPred 1 0 .snoopsOther = 2 ∧ predNext tPred 1 2 .joins = 6 ∧
    predNext tPred 1 6 .joins = 10 + 16 := by decide +kernel
def tEx : Chan := { st := .active, gen := 0x00A, tenant := 0x2A3, depth := 2, head := 5 }
/-- 06: the handle of index 0x0415, generation 0x00A, tenant 0x2A3. -/
theorem test_example_channel_handle : handleOf tEx 0x0415 = 0x00A90415 := by decide +kernel
/-- 06: the record of entry 5, TAG 0x1234, and the descriptor's words. -/
theorem test_example_record :
    recordWords { tDesc 5 .done none with gen := 0x00A, bits := 0x0000123400000201 } ⟨0, 0, 0, 0⟩ true =
      [0x0005010000001234, 0, 0, 0x0000000A00000000] ∧
    dOpc 0x0000123400000201 = 1 ∧ dNotify 0x0000123400000201 = true := by decide +kernel
/-- 07: the thresholds of the shared pool, S = 22,528 and ALPHA 4. -/
def tPool (h su : Nat) (j : Nat) : State :=
  tS [(R.RGN_BUF_USE 2 (j * 4), BitVec.ofNat 32 (h * 65536)), (R.RGN_BUF_STATUS 2, BitVec.ofNat 32 su)]
    ([(R.RGN_BUF_VOQ_MAX 2, 8192)] ++ (List.range 32).map (fun i => (R.RGN_BUF_MIN 2 i, BitVec.ofNat 32 (4 * 2 ^ 24 +
      (if i % 4 = 0 then 256 else if i % 4 = 3 then 512 else 128)))) ++
      (List.range 4).map (fun c => (R.RGN_BUF_MIN 2 (32 + c), 0x04000200)))
theorem test_example_shared_pool : sharedSize (tPool 0 0 4) 2 = 22528 ∧ sharedFits (tPool 3509 15509 4) 2 4 0 1 0 = true ∧
    sharedFits (tPool 3510 15510 4) 2 4 0 1 0 = false ∧ sharedFits (tPool 2339 (15510 + 2339) 5) 2 5 0 1 0 = true ∧
    sharedFits (tPool 2340 (15510 + 2340) 5) 2 5 0 1 0 = false := by decide +kernel
/-- 08: the two example routes to region 0 break no rule. -/
theorem test_example_routes : routeBreaks (tS [] []) 0xC000000B 14 0 = [] ∧ routeBreaks (tS [] []) 0x80000019 12 0 = [] := by decide +kernel
/-- 13: the window of 48 GiB holds offsets 0x3040 and 0xA_0000_0000, and after the commit no longer the second. -/
theorem test_example_window :
    let s := fun (w1 : Word) => tS [] [(R.STX_WIN_W0 0x2A3 0, 0xB3000000), (R.STX_WIN_W1 0x2A3 0, w1), (R.STX_WIN_W2 0x2A3 0, 0x1C4)]
    windowFor (s 0x30) 0x2A3 0x3040 64 = some 0 ∧ windowFor (s 0x30) 0x2A3 0xA00000000 256 = some 0 ∧
      windowFor (s 0x20) 0x2A3 0xA00000000 64 = none := by decide +kernel
/-- 14: BEGIN by the management endpoint of twin 0 after serial 0x00_0122. -/
theorem test_example_begin : mkHandle (nextSerial 0x122) false .endpoint = 0x00012301 ∧ nextSerial 0xFFFFFF = 1 ∧
    tNext (.txnBegin .endpoint) { tTx 0 false false State.reset.txn [] with txn := { State.reset.txn with serial := 0x122 } } (fun t =>
      decide (getReg t R.STX_TXN_HANDLE = 0x00012301 ∧ t.txn.owner = some .endpoint)) = true := by decide +kernel

/-- R100 and R101: the header of an RdShared, bit by bit. -/
theorem test_header_bits : opcodeOf (.rdshared 1 0 {} .clean) = some 0x01 ∧
    hdrWord 0x01 { src := 17, hslice := 1, rtag := 5, laddr := 3, poison := true } =
      1#128 <<< 122 ||| 17#128 <<< 112 ||| 0x3FF#128 <<< 102 ||| 1#128 <<< 96 ||| 5#128 <<< 78 ||| 3#128 <<< 38 ||| 1#128 <<< 18 := by
  decide +kernel

/-! ### Single steps -/

/-- R504 and R506: a fast trip of channel 31 in ON with RETRY 0 latches it with cause 1, and its full counter stays full. -/
theorem test_step_fast_trip :
    tNext (.fastTrip 31) (tSlot (2 * 2 ^ 29) 0) (fun t =>
      decide (slotState t 31 = 5 ∧ rd t (R.SLOT_STATUS 31) 21 18 = 1 ∧ rd t (R.SLOT_CNT0 31) 31 16 = 0xFFFF)) = true := by decide +kernel
/-- R569: the target does not acknowledge an offset that is no multiple of 4. -/
theorem test_step_smbus_offset :
    tNext (.smbusLatchOffset 0x102 true) (tS [] []) (fun t =>
      decide (t.out = [.smb none] ∧ t.dev.smbOffset = 0)) = true := by decide +kernel
/-- R571: SPI mode answers the ID 0x0B 0x28 0x01, and a store offset of 256 MiB does not exist. -/
theorem test_step_spi :
    tNext .spiReadId (tSpi none) (fun t =>
      decide (t.out = [.spi [0x0B, 0x28, 0x01]])) = true ∧ 
      exec (.spiErasePage 0x10000000) (tSpi none) = .fault .storeOutside := by
  refine ⟨by decide +kernel, ?_⟩; rfl
/-- R280 and R286: a returned credit of two flits leaves the rest in use. -/
theorem test_step_credit_return :
    tNext (.creditret 97 .rsp 0 2 0 0) { tS [(R.NOC_STAT 0 0, 0)] [] with
        noc := { State.reset.noc with taken := [(nocKey 97 0 .rsp, 3)] } } (fun t =>
      decide (sGet t.noc.taken (nocKey 97 0 .rsp) 0 = 1)) = true := by decide +kernel
/-- R381 and R384: the last flit of a 33-byte message on the twin link returns three slots. -/
theorem test_step_twin_flit :
    tNext (.dataFlit .twin { vc := 2, sop := true, eop := true, len := 33, seq := 0xFFF }) (tOwn 2 tEnd) (fun t =>
      decide (t.out.contains (.credit 128 2 3) = true ∧ (ownOf t .twin).rxNext = 0)) = true := by decide +kernel
/-- R390 and R391: out of a RECOVERY without complete retraining the trunk keeps its rate and width. -/
theorem test_step_recovery :
    tNext (.linkTrained (.port 0) ⟨6, 1, false, 0, false, false⟩) { tTrunk 3 0 0 true with
        regs := tWords [(R.PB_LINK_STATUS 0 0, 0x75400000), (R.PB_CELL_CTRL 0 0, 0), (R.PB_SPARE_STATUS 0, 0)] } (fun t =>
      decide (getReg t (R.PB_LINK_STATUS 0 0) = 0x55400000)) = true := by decide +kernel

/-! ### A whole structure validates (slow to evaluate, so last) -/

theorem test_hyp_TransactionCommit_start : rdBit (tTx 1 true true (tOpen (some .keeper)) []) R.STX_TXN_STATUS 27 = true ∧
    rdBit (tTx 1 true false (tOpen (some .keeper)) []) R.STX_TXN_STATUS 27 = false ∧
    (tTx 1 true false { tOpen (some .keeper) with unacked := [0] } []).txn.unacked ≠ [] ∧
    (∃ f, validateAll (wr (tTx 1 true false (tOpen (some .keeper)) []) R.STX_TXN_STATUS 31 29 2)
      (resultBank (wr (tTx 1 true false (tOpen (some .keeper)) []) R.STX_TXN_STATUS 31 29 2)) = some f) ∧
    (validateAll (wr (tTx 1 true false (tOpen (some .keeper)) tGood) R.STX_TXN_STATUS 31 29 2)
      (resultBank (wr (tTx 1 true false (tOpen (some .keeper)) tGood) R.STX_TXN_STATUS 31 29 2))).isNone = true :=
  ⟨by decide +kernel, by decide +kernel, by decide +kernel, Option.isSome_iff_exists.mp (by decide +kernel), by decide +kernel⟩
theorem test_hyp_TransactionCommit_other : txnState (tTx 1 false false (tOpen none) []) = 1 ∧ (tOpen none).handle = 0x101 ∧
    (∃ f, validateAll (tTx 1 false false (tOpen none) []) (resultBank (tTx 1 false false (tOpen none) [])) = some f) ∧
    (validateAll (tTx 1 false false (tOpen none) tGood) (resultBank (tTx 1 false false (tOpen none) tGood))).isNone = true ∧
    pairWide (R.SEG_ENTRY_W0 65535) ≠ 0 ∧ (0x101 : Handle) ≠ 0 ∧ (tOpen none).handle ≠ 0x102 :=
  ⟨by decide +kernel, by decide +kernel, Option.isSome_iff_exists.mp (by decide +kernel), by decide +kernel⟩
end Sys2Proof.Tests
end

section
/-! SUPPORT. The management accesses of 00_scope: what a served access performs, which words a write reaches by access codes
alone, what a read captures and answers, and what a counter-clear write clears. -/

namespace Sys2Proof.Proofs

open Sys2Proof.Machine Sys2Proof.Laws

/-! ### Accesses that are served -/

theorem guarded_of_served {s : State} {init : FabInit} {off : Offset} {isWrite : Bool} (k : State → State × Word)
    (hp : s.dev.pkgReset = false) (hu : unserved s off.toNat = false) (hg : fabricGuard s init off.toNat isWrite = none) :
    guarded s init off isWrite k = k s := by
  simp [guarded, hp, hu, hg]

theorem exec_registerWrite_of_served {s : State} {init : FabInit} {off : Offset} (val : Word)
    (hp : s.dev.pkgReset = false) (hu : unserved s off.toNat = false) (hg : fabricGuard s init off.toNat true = none) :
    exec (.registerWrite init off val) s = .next (writeReg s init off val) :=
  congrArg (fun x : State × Word => Host.Outcome.next x.1) (guarded_of_served _ hp hu hg)

theorem exec_counterClearWrite_of_served {s : State} {init : FabInit} {off : Offset} (val : Word)
    (hp : s.dev.pkgReset = false) (hu : unserved s off.toNat = false) (hg : fabricGuard s init off.toNat true = none) :
    exec (.counterClearWrite init off val) s = .next (counterClear s off.toNat val) :=
  congrArg (fun x : State × Word => Host.Outcome.next x.1) (guarded_of_served _ hp hu hg)

theorem exec_wideRegisterLowRead_of_served {s : State} {init : FabInit} {off : Offset}
    (hp : s.dev.pkgReset = false) (hu : unserved s off.toNat = false) (hg : fabricGuard s init off.toNat false = none) :
    exec (.wideRegisterLowRead init off) s =
      .next (answerAccess (readReg s off.toNat).1 ⟨init, [], [(readReg s off.toNat).2], none⟩) := by
  show execWideRegisterLowRead init off s = _
  simp [execWideRegisterLowRead, guarded_of_served _ hp hu hg, hp]

/-! ### The words that a write reaches -/

theorem imgBufWord_eq_some {o i : Nat} (h : imgBufWord o = some i) : 0x2010000 ≤ o ∧ o < 0x2020000 := by
  unfold imgBufWord at h
  split at h
  · omega
  · cases h

/-- No counter-clear register lies in the image buffer. -/
theorem clearsAt_of_imgBufWord {o i : Nat} (h : imgBufWord o = some i) : clearsAt o = [] := by
  obtain ⟨hlo, hhi⟩ := imgBufWord_eq_some h
  unfold clearsAt
  rw [if_neg (by simp only [inRegions, Bool.and_eq_true, decide_eq_true_eq]; omega)]
  iterate 9 rw [if_neg (by simp only [R.RST_CNT_CLEAR, R.RST_RESET_CNT_CLEAR, R.RST_FG_CNT_CLEAR, R.TWIN_GUARD_CNT_CLEAR,
    R.RST_SUP_CNT_CLEAR, R.SLOT_CNT_CLEAR, R.STX_TXN_CNT_CLEAR, R.PERF_SNAP_CNT_CLEAR, R.XBAR_CNT_CLEAR, R.NOC_CNT_CLEAR]; omega)]
  rw [if_neg (by omega)]
  iterate 2 rw [if_neg (by simp only [R.TWIN_CNT_CLEAR, R.SEG_CNT_CLEAR]; omega)]

theorem writeReg_imgBuf {o : Offset} {i : Nat} (h : imgBufWord o.toNat = some i) (s : State) (init : FabInit) (val : Word) :
    writeReg s init o val = { s with dev := { s.dev with imgBuf := sPut s.dev.imgBuf i 0 val } } := by
  unfold writeReg
  dsimp only
  rw [h]

theorem writeReg_clears {o : Offset} (h : clearsAt o.toNat ≠ []) (s : State) (init : FabInit) (val : Word) :
    writeReg s init o val = counterClear s o.toNat val := by
  have hi : imgBufWord o.toNat = none := by
    cases e : imgBufWord o.toNat with
    | none => rfl
    | some i => exact absurd (clearsAt_of_imgBufWord e) h
  unfold writeReg
  dsimp only
  rw [hi]
  simp [h]

/-- A write of a word outside the region windows that no counter-clear register and no image buffer holds. -/
theorem writeReg_chip {o : Offset} (hi : imgBufWord o.toNat = none) (hc : clearsAt o.toNat = []) (hr : inRegions o.toNat = false)
    (s : State) (init : FabInit) (val : Word) : ∃ other, writeReg s init o val = writeChip s init o.toNat val other := by
  unfold writeReg
  dsimp only
  rw [hi]
  simp [hc, hr]

theorem writeLane_other {k : Nat} (h1 : k ≠ 0x10) (h2 : k ≠ 0x14) (s other : State) (n : Nat) (val : Word) :
    writeLane s n k val other = other := by
  unfold writeLane
  split
  · exact absurd rfl h1
  · exact absurd rfl h2
  · rfl

/-- At a word of a port block where no write starts an operation, the write by access codes is what happens. -/
theorem writeBlock_of_idle {k : Nat}
    (h : (decide (0x40 ≤ k) && decide (k < 0x50) || k == 0x88 || decide (0x200 ≤ k) && decide (k < 0x300) && k % 0x40 == 4 ||
      decide (0x400 ≤ k) && decide (k < 0x440) && k % 16 == 4 ||
      decide (0x1000 ≤ k) && decide (k < 0x2100) && (k % 0x100 == 0x10 || k % 0x100 == 0x14)) = false)
    (s other : State) (b off : Nat) (val : Word) : writeBlock s b k off val other = other := by
  simp only [Bool.or_eq_false_iff, Bool.and_eq_false_imp, Bool.and_eq_true, decide_eq_true_eq, decide_eq_false_iff_not,
    beq_eq_false_iff_ne, and_imp] at h
  obtain ⟨⟨⟨⟨hfence, hspare⟩, hlink⟩, hslot⟩, hlane⟩ := h
  unfold writeBlock
  rw [if_neg (fun e => hfence e.1 e.2.1), if_neg hspare, if_neg (fun e => hlink e.1 e.2.1 e.2.2),
    if_neg (fun e => hslot e.1 e.2.1 e.2.2)]
  split
  · next e =>
    obtain ⟨h10, h14⟩ := hlane e.1 e.2
    exact writeLane_other h10 h14 ..
  · rfl

theorem writeSlice_of_idle {k : Nat} (h : [0, 0x10, 0x20, 0x30].contains k = false) (s other : State) (x : Fin 32) (off : Nat)
    (val : Word) : writeSlice s x k off val other = other := by
  unfold writeSlice
  split <;> simp at h ⊢

/-- In a region's window a word at which no write starts an operation is written by its access codes. -/
theorem writeRegion_of_idle {o : Nat} (hr : inRegions o = true) (h : startsAction o = false) (s other : State) (n : Nat)
    (val : Word) : writeRegion s n (regionOff o).2 o val other = other := by
  unfold startsAction at h
  simp only [hr, if_true] at h
  unfold writeRegion
  generalize (regionOff o).2 = r at h ⊢
  split <;> rename_i heq <;> simp only [heq] at h
  case h_1 | h_2 => exact writeBlock_of_idle h ..
  case h_3 | h_4 =>
    simp only [Bool.or_eq_false_iff, Bool.and_eq_false_imp, Bool.and_eq_true, decide_eq_true_eq, beq_eq_false_iff_ne,
      and_imp] at h
    obtain ⟨hcoach, hctx⟩ := h
    dsimp only
    rw [if_neg (fun e => hcoach e.1 e.2.1 e.2.2), if_neg (fun e => hctx e.1 e.2.1 e.2.2)]
  case h_5 | h_6 => exact writeSlice_of_idle h ..
  case h_7 | h_8 => rw [if_neg (by simpa using h)]
  case h_9 => rfl

/-- Outside the region windows a word at which no write starts an operation is written by its access codes. -/
theorem writeChip_of_idle {o : Nat} (hr : inRegions o = false) (h : startsAction o = false) (s other : State)
    (init : FabInit) (val : Word) : writeChip s init o val other = other := by
  unfold startsAction at h
  simp only [hr, Bool.false_eq_true, if_false, Bool.or_eq_false_iff, List.contains_eq_mem, decide_eq_false_iff_not,
    List.mem_cons, List.not_mem_nil, or_false, not_or, Bool.and_eq_false_imp, Bool.and_eq_true, decide_eq_true_eq,
    beq_eq_false_iff_ne, ne_eq, and_imp] at h
  obtain ⟨⟨⟨⟨⟨hlist, harg⟩, hpend⟩, htwin⟩, hsel⟩, hlane⟩ := h
  unfold writeChip
  simp only [hlist, if_false]
  rw [if_neg (fun e => harg e.1 e.2.1), if_neg (fun e => hpend e.1 e.2.1), if_neg (fun e => htwin e.1 e.2.1),
    if_neg (fun e => hsel e.1 e.2.1 e.2.2)]
  split
  · next e =>
    obtain ⟨h10, h14⟩ := hlane e.1 e.2
    exact writeLane_other h10 h14 ..
  · rfl

theorem plainWord_iff (o : Nat) : plainWord o = true ↔
    imgBufWord o = none ∧ clearsAt o = [] ∧ structMask o = 0 ∧ startsAction o = false := by
  simp [plainWord, and_assoc]

/-- A write of a plain word is the write by access codes (R13). -/
theorem writeReg_plainWord {o : Offset} (h : plainWord o.toNat = true) (s : State) (init : FabInit) (val : Word) :
    writeReg s init o val = plainWrite s o.toNat val := by
  obtain ⟨hi, hc, hm, ha⟩ := (plainWord_iff _).1 h
  unfold writeReg
  dsimp only
  rw [hi]
  dsimp only
  rw [if_pos (by rw [hc]; rfl), if_pos hm]
  split
  · next hr => exact writeRegion_of_idle hr ha ..
  · next hr => exact writeChip_of_idle (Bool.not_eq_true _ ▸ hr) ha ..

/-- The word at `o` has taken `val` by the access codes of its fields (R13), and nothing else has changed. -/
def WrittenByCodes (o : Nat) (val : Word) (s t : State) : Prop :=
  getReg t o = writeBits o (getReg s o) val ∧ RegsBut [o] s t ∧ Frame [.regs, .settings] s t

theorem plainWrite_writtenByCodes (s : State) (o : Nat) (val : Word) : WrittenByCodes o val s (plainWrite s o val) :=
  ⟨getReg_setReg_same s o _, regsBut_setReg (regsBut_refl [o] s) (List.mem_singleton_self o) _,
    (plainWrite_st (q0 := keep [.regs, .settings]) (Steady.refl _ s) rfl rfl).frame⟩

/-- A write of a control register outside the region windows does what its GO bit and OP say (R446, R216). -/
theorem writeReg_txnCtrl {o : Offset} (h : o.toNat = R.STX_TXN_CTRL) (s : State) (init : FabInit) (val : Word) :
    writeReg s init o val = writeTxnCtrl s init val := by
  obtain ⟨other, e⟩ := writeReg_chip (o := o) (by rw [h]; rfl) (by rw [h]; rfl) (by rw [h]; rfl) s init val
  rw [e, h]
  rfl

theorem writeReg_chanCmd {o : Offset} (h : o.toNat = R.STX_CHAN_CMD) (s : State) (init : FabInit) (val : Word) :
    writeReg s init o val = writeChanCmd s val := by
  obtain ⟨other, e⟩ := writeReg_chip (o := o) (by rw [h]; rfl) (by rw [h]; rfl) (by rw [h]; rfl) s init val
  rw [e, h]
  rfl

theorem frame_dev (s : State) (d : Dev) : Frame [.dev] s { s with dev := d } := by
  refine ⟨rfl, fun p hp => ?_⟩
  cases p
  case dev => simp at hp
  case settings => exact fun _ _ => rfl
  all_goals rfl

/-- Settles O10: each kind of word goes to its own branch of `writeReg`, and a plain word to the write by access codes. -/
theorem registerWriteByAccessCodes : Obligations.RegisterWriteByAccessCodes := by
  intro init off val s hp hu hg
  have hx := exec_registerWrite_of_served val hp hu hg
  refine ⟨fun h => ?plain, fun i h => ?image, fun h => ?clear, fun h => ?txn, fun h _ => ?chan⟩
  case plain =>
    exact ⟨_, hx.trans (congrArg _ (writeReg_plainWord h s init val)), plainWrite_writtenByCodes s off.toNat val⟩
  case image =>
    exact ⟨_, hx.trans (congrArg _ (writeReg_imgBuf h s init val)), sGet_sPut_same ..,
      fun j hj => sGet_sPut_other _ _ _ _ hj, frame_dev ..⟩
  case clear => rw [hx, writeReg_clears h, exec_counterClearWrite_of_served val hp hu hg]
  case txn =>
    rw [hx, writeReg_txnCtrl h]
    refine ⟨fun hgo => by simp [writeTxnCtrl, hgo], fun hgo => ?_⟩
    unfold writeTxnCtrl
    rw [if_neg (by simp [hgo])]
    refine ⟨?_, ?_, ?_, ?_, ?_⟩ <;> (intro e; rw [e]; rfl)
  case chan =>
    rw [hx, writeReg_chanCmd h]
    refine ⟨fun hgo => by simp [writeChanCmd, hgo], fun hgo => ?_⟩
    unfold writeChanCmd
    rw [if_neg (by simp [hgo])]
    refine ⟨?_, ?_, ?_, ?_⟩ <;> (intro e; rw [e]; rfl)

/-! ### Reads -/

theorem captureWords_cap (s : State) (r : RegRow) (off : Nat) {j n : Nat} (h : j < n) :
    sGet (captureWords s r off n).cap (off + 4 * (j + 1)) 0 = wordNow s r (j + 1) (off + 4 * (j + 1)) := by
  unfold captureWords
  dsimp only
  induction n with
  | zero => omega
  | succ n ih =>
    rw [List.range_succ, List.foldl_append, List.foldl_cons, List.foldl_nil]
    by_cases e : j = n
    · subst e; rw [sGet_sPut_same]
    · rw [sGet_sPut_other _ _ _ _ (by omega)]; exact ih (by omega)

theorem readReg_low {off : Nat} {r : RegRow} (h : findReg off = some (r, 0)) (s : State) :
    readReg s off = (captureWords (if measured off then usedFree s else s) r off (r.words - 1), wordNow s r 0 off) := by
  unfold readReg; rw [h]; rfl

theorem readReg_high {off i : Nat} {r : RegRow} (h : findReg off = some (r, i + 1)) (s : State) :
    readReg s off = (s, sGet s.cap off 0) := by
  unfold readReg; rw [h]; rfl

theorem readReg_none {off : Nat} (h : findReg off = none) (hi : imgBufWord off = none) (s : State) : readReg s off = (s, 0) := by
  unfold readReg; rw [h]; dsimp only; rw [hi]

theorem readReg_frame (s : State) (off : Nat) : Frame [.cap, .fresh] s (readReg s off).1 :=
  (readReg_st (q0 := keep [.cap, .fresh]) (Steady.refl _ s) rfl rfl).frame

/-- An answer to a reader adds to what is sent what that reader gets. -/
theorem frame_emit {s t : State} (h : Frame [.cap, .fresh] s t) (o : Out) : Frame [.cap, .out, .fresh] s (emit t o) := by
  obtain ⟨hpend, hpart⟩ := h
  refine ⟨hpend, fun p hp => ?_⟩
  simp only [List.mem_cons, List.not_mem_nil, or_false, not_or] at hp
  obtain ⟨hcap, hout, hfresh⟩ := hp
  have hsame := hpart p (by simp [hcap, hfresh])
  cases p
  case out => exact absurd rfl hout
  all_goals exact hsame

theorem answerAccess_endpoint (s : State) (w : Word) :
    answerAccess s ⟨.endpoint, [], [w], none⟩ = emit s (.mgmt .success (0#32 ++ w)) := rfl

theorem answerAccess_endpoint_two (s : State) (w v : Word) :
    answerAccess s ⟨.endpoint, [], [w, v], none⟩ = emit s (.mgmt .success (v ++ w)) := rfl

theorem answerAccess_debug (s : State) (w : Word) : answerAccess s ⟨.debug, [], [w], none⟩ = emit s (.debug w) := rfl

theorem answerAccess_smbus (s : State) (w : Word) : answerAccess s ⟨.smbus, [], [w], none⟩ = emit s (.smb (some w)) := rfl

/-- Settles O12, by the three cases of a read: a register's lowest word, a higher word, and no register. -/
theorem wideRegisterReadCaptures : Obligations.WideRegisterReadCaptures := by
  intro off r i s hp hu hg
  have hx := exec_wideRegisterLowRead_of_served hp hu hg
  rw [answerAccess_endpoint] at hx
  refine ⟨fun h => ⟨_, hx, ?out, fun j hj => ?cap, frame_emit (readReg_frame s _) _⟩, fun h => ?high, fun h hi => ?none⟩
  case out => rw [emit, readReg_out, readReg_low h]
  case cap =>
    rw [emit_cap, readReg_low h]
    exact captureWords_cap _ r _ (by omega)
  case high => rw [hx, readReg_high h]
  case none => rw [hx, readReg_none h hi, show 0#32 ++ (0 : Word) = (0 : BitVec 64) from rfl]

/-! ### Counter-clear registers -/

/-- Every counter of `l` is a half of its word: its low bit is at most 16. -/
def Halves (l : List CntBit) : Prop := ∀ c ∈ l, c.lo < 17

theorem Halves.of_all {l : List CntBit} (h : l.all (fun c => decide (c.lo < 17)) = true) : Halves l := by
  simpa [Halves] using h

theorem Halves.ite {p : Prop} [Decidable p] {l m : List CntBit} (hl : Halves l) (hm : Halves m) :
    Halves (if p then l else m) := by
  split <;> assumption

theorem halves_unitClears (w : Nat) : Halves (unitClears w) := .of_all rfl

theorem halves_blockClears (b k : Nat) : Halves (blockClears b k) :=
  .ite (.of_all rfl) (.ite (.of_all rfl) (.ite (.of_all rfl) (.of_all rfl)))

theorem halves_regionClears (o n r : Nat) : Halves (regionClears o n r) := by
  unfold regionClears
  split
  case h_1 | h_2 => exact halves_blockClears _ _
  case h_3 | h_4 => exact .ite (.of_all rfl) (.ite (.of_all rfl) (.of_all rfl))
  case h_5 | h_6 => split <;> exact .of_all rfl
  case h_7 | h_9 => exact .ite (.of_all rfl) (.of_all rfl)
  case h_8 => exact .ite (halves_unitClears _) (.of_all rfl)
  case h_10 => exact .of_all rfl

theorem halves_clearsAt (o : Nat) : Halves (clearsAt o) :=
  .ite (halves_regionClears _ _ _) <| .ite (.of_all rfl) <| .ite (.of_all rfl) <| .ite (halves_unitClears _) <|
    .ite (.of_all rfl) <| .ite (.of_all rfl) <| .ite (.of_all rfl) <| .ite (.of_all rfl) <| .ite (.of_all rfl) <|
    .ite (.of_all rfl) <|
    .ite (.ite (.of_all rfl) <| .ite (halves_blockClears _ _) (.of_all rfl)) <|
    .ite (.of_all rfl) <| .ite (.of_all rfl) (.of_all rfl)

theorem clearCounters_cons (s : State) (val : Word) (c : CntBit) (l : List CntBit) :
    clearCounters s val (c :: l) = clearCounters (if bitAt val c.bit then clearCnt s c.off c.lo else s) val l := rfl

/-- Clearing counters leaves a zero field of any word zero. -/
theorem clearCounters_keeps_zero {l : List CntBit} (hl : Halves l) (val : Word) {s : State} {o hi lo : Nat}
    (h : fld (getReg s o) hi lo = 0) : fld (getReg (clearCounters s val l) o) hi lo = 0 := by
  induction l generalizing s with
  | nil => exact h
  | cons c l ih =>
    rw [clearCounters_cons]
    refine ih (fun d hd => hl d (List.mem_cons_of_mem _ hd)) ?_
    split
    · exact clearCnt_zero _ _ _ _ _ _ (hl c List.mem_cons_self) h
    · exact h

theorem clearCounters_zero {l : List CntBit} (hl : Halves l) (val : Word) (s : State) {c : CntBit} (hc : c ∈ l)
    (hb : bitAt val c.bit = true) : fld (getReg (clearCounters s val l) c.off) (c.lo + 15) c.lo = 0 := by
  induction l generalizing s with
  | nil => cases hc
  | cons d l ih =>
    have hl' : Halves l := fun c h => hl c (List.mem_cons_of_mem _ h)
    rw [clearCounters_cons]
    rcases List.mem_cons.1 hc with rfl | hc
    · refine clearCounters_keeps_zero hl' val ?_
      have hlo := hl c List.mem_cons_self
      rw [if_pos hb, clearCnt, getReg_wr_same, fld_putFld _ _ _ _ (by omega) (by omega), Nat.zero_mod]
    · exact ih hl' _ hc

theorem clearCounters_regsBut {l : List CntBit} {ws : List Nat} (hl : ∀ c ∈ l, c.off ∈ ws) (val : Word) {s t : State}
    (h : RegsBut ws s t) : RegsBut ws s (clearCounters t val l) := by
  induction l generalizing t with
  | nil => exact h
  | cons c l ih =>
    rw [clearCounters_cons]
    refine ih (fun d hd => hl d (List.mem_cons_of_mem _ hd)) ?_
    split
    · exact regsBut_wr h (hl c List.mem_cons_self) _ _ _
    · exact h

theorem regsBut_mono {l m : List Nat} {s t : State} (h : RegsBut l s t) (hm : l ⊆ m) : RegsBut m s t :=
  fun o ho => h o (fun hl => ho (hm hl))

theorem regsBut_trans {l : List Nat} {s t u : State} (h : RegsBut l s t) (k : RegsBut l t u) : RegsBut l s u :=
  fun o ho => (k o ho).trans (h o ho)

/-- The first word of slot `k` in the log of the privileged guard at `w`. -/
def logSlot (w k : Nat) : Nat := w + 0xD00 + 0x20 * k

/-- VALID cleared in the first `n` slots of the log of the privileged guard at `w`. -/
def slotsCleared (s : State) (w n : Nat) : State := forAll (List.range n) s (fun t k => wrBit t (logSlot w k) 31 false)

theorem clearLog_eq (s : State) (w : Nat) : clearLog s w = slotsCleared (wr s (w + 0xC20) 7 4 0) w 8 := rfl

theorem slotsCleared_succ (s : State) (w n : Nat) :
    slotsCleared s w (n + 1) = wrBit (slotsCleared s w n) (logSlot w n) 31 false := by
  simp [slotsCleared, forAll, List.range_succ]

theorem slotsCleared_regsBut (s : State) (w n : Nat) : RegsBut ((List.range n).map (logSlot w)) s (slotsCleared s w n) := by
  induction n with
  | zero => exact regsBut_refl _ s
  | succ n ih =>
    rw [slotsCleared_succ, List.range_succ, List.map_append]
    exact regsBut_wrBit (regsBut_mono ih (List.subset_append_left _ _)) (by simp) _ _

theorem slotsCleared_valid (s : State) (w : Nat) {n k : Nat} (h : k < n) :
    bitAt (getReg (slotsCleared s w n) (logSlot w k)) 31 = false := by
  induction n with
  | zero => omega
  | succ n ih =>
    rw [slotsCleared_succ]
    by_cases e : k = n
    · rw [e, getReg_wrBit_same, bitAt_putFld_same _ _ _ (by decide)]
    · rw [getReg_wrBit_other _ (by unfold logSlot; omega)]
      exact ih (by omega)

theorem clearLog_fill (s : State) (w : Nat) : fld (getReg (clearLog s w) (w + 0xC20)) 7 4 = 0 := by
  have hn : w + 0xC20 ∉ (List.range 8).map (logSlot w) := by simp [logSlot]; omega
  rw [clearLog_eq, slotsCleared_regsBut _ w 8 _ hn, getReg_wr_same, fld_putFld _ _ _ _ (by decide) (by decide),
    Nat.zero_mod]

/-- Emptying a log changes its FILL and the first word of each slot. -/
theorem clearLog_regsBut (s : State) (w : Nat) :
    RegsBut ((w + 0xC20) :: (List.range 8).map (logSlot w)) s (clearLog s w) :=
  regsBut_trans (regsBut_wr (regsBut_refl _ s) List.mem_cons_self _ _ _)
    (regsBut_mono (slotsCleared_regsBut _ w 8) (List.subset_cons_self _ _))

/-- A clear register of a privileged guard clears COUNT and LOST. -/
theorem clearsAt_guard {o : Nat} (h : o = R.RST_FG_CNT_CLEAR ∨ o = R.TWIN_GUARD_CNT_CLEAR) :
    clearsAt o = unitClears (o - 0xCFC) := by
  rcases h with rfl | rfl <;> rfl

theorem counterClear_of_no_log {o : Nat} {val : Word}
    (h : bitAt val 2 = false ∨ o ≠ R.RST_FG_CNT_CLEAR ∧ o ≠ R.TWIN_GUARD_CNT_CLEAR) (s : State) :
    counterClear s o val = clearCounters s val (clearsAt o) := by
  unfold counterClear
  rw [if_neg (by rcases h with h | h <;> simp [h])]

theorem counterClear_log {o : Nat} {val : Word} (hb : bitAt val 2 = true)
    (h : o = R.RST_FG_CNT_CLEAR ∨ o = R.TWIN_GUARD_CNT_CLEAR) (s : State) :
    counterClear s o val = clearLog (clearCounters s val (clearsAt o)) (o - 0xCFC) := by
  unfold counterClear
  rw [if_pos (by rcases h with h | h <;> simp [h, hb])]

theorem counterClear_frame (s : State) (o : Nat) (val : Word) : Frame [.regs, .settings] s (counterClear s o val) :=
  (counterClear_st (q0 := keep [.regs, .settings]) (Steady.refl _ s) rfl rfl).frame

/-- What a write of a clear register of the privileged guard at `w` does to COUNT and LOST. -/
theorem unitClears_zero (s : State) (val : Word) (w : Nat) :
    (bitAt val 0 = true → fld (getReg (clearCounters s val (unitClears w)) (w + 0xC40)) 15 0 = 0) ∧
    (bitAt val 1 = true → fld (getReg (clearCounters s val (unitClears w)) (w + 0xC40)) 31 16 = 0) :=
  ⟨clearCounters_zero (c := ⟨0, w + 0xC40, 0⟩) (halves_unitClears w) val s List.mem_cons_self,
    clearCounters_zero (c := ⟨1, w + 0xC40, 16⟩) (halves_unitClears w) val s (by simp [unitClears])⟩

theorem unitClears_regsBut (s : State) (val : Word) (w : Nat) :
    RegsBut [w + 0xC40] s (clearCounters s val (unitClears w)) :=
  clearCounters_regsBut (by simp [unitClears]) val (regsBut_refl _ s)

/-- Settles O13: clearing is a fold over the counters of the register, each step of which keeps what is zero; LOG follows it
and touches no counter. -/
theorem counterClearWriteClears : Obligations.CounterClearWriteClears := by
  intro init off val s hp hu hg
  have hx := exec_counterClearWrite_of_served val hp hu hg
  refine ⟨fun hfg htw => ⟨_, hx, ?_, ?_, counterClear_frame ..⟩, fun w hw hguard => ⟨_, hx, ?_⟩⟩
  · rw [counterClear_of_no_log (.inr ⟨hfg, htw⟩)]
    exact fun c hc hb => clearCounters_zero (halves_clearsAt _) val s hc hb
  · rw [counterClear_of_no_log (.inr ⟨hfg, htw⟩)]
    exact clearCounters_regsBut (fun _ hc => List.mem_map_of_mem hc) val (regsBut_refl _ s)
  · have hframe := counterClear_frame s off.toNat val
    obtain ⟨hcount, hlost⟩ := unitClears_zero s val w
    have hbut := unitClears_regsBut s val w
    cases hlog : bitAt val 2 with
    | false =>
      rw [counterClear_of_no_log (.inl hlog), clearsAt_guard hguard, ← hw] at hframe ⊢
      exact ⟨hcount, hlost, nofun, fun _ => hbut, regsBut_mono hbut (by simp), hframe⟩
    | true =>
      rw [counterClear_log hlog hguard, clearsAt_guard hguard, ← hw] at hframe ⊢
      have hclr := clearLog_regsBut (clearCounters s val (unitClears w)) w
      rw [← hclr (w + 0xC40) (by simp [logSlot]; omega)] at hcount hlost
      exact ⟨hcount, hlost, fun _ => ⟨clearLog_fill _ w, fun _ hk => slotsCleared_valid _ w hk⟩, nofun,
        regsBut_trans (regsBut_mono hbut (by simp)) (regsBut_mono hclr (List.subset_cons_self _ _)), hframe⟩

/-! ### Accesses at the keeper -/

theorem exec_mgmtEndpointAccess_word {off : Offset} (h : off.toNat % 4 = 0) (data : Option (BitVec 64)) (s : State) :
    exec (.mgmtEndpointAccess off 4 data) s = .next (arriveAccess s .endpoint [(off, data.map (·.extractLsb' 0 32))]) := by
  show execMgmtEndpointAccess off 4 data s = _
  simp [execMgmtEndpointAccess, endpointWords, h]

theorem exec_mgmtEndpointAccess_pair {off : Offset} (h : off.toNat % 8 = 0) (s : State) :
    exec (.mgmtEndpointAccess off 8 none) s = .next (arriveAccess s .endpoint [(off, none), (off + 4, none)]) := by
  show execMgmtEndpointAccess off 8 none s = _
  simp [execMgmtEndpointAccess, endpointWords, h]

theorem exec_mgmtEndpointAccess_unsupported {off : Offset} {w : Nat} (h4 : ¬ (w = 4 ∧ off.toNat % 4 = 0))
    (h8 : ¬ (w = 8 ∧ off.toNat % 8 = 0)) (d : Option (BitVec 64)) {s : State} (hp : s.dev.pkgReset = false) :
    exec (.mgmtEndpointAccess off w d) s = .next (emit s (.mgmt .unsupported 0)) := by
  show execMgmtEndpointAccess off w d s = _
  simp [execMgmtEndpointAccess, endpointWords, h4, h8, hp]

theorem exec_debugAccess (off : Offset) (data : Option Word) (s : State) :
    exec (.debugAccess off data) s = .next (arriveAccess s .debug [(off, data)]) := rfl

/-- An offset of the management space, as the SMBus/I2C target brings it in 32 bits, keeps its value. -/
theorem smbus_offset (off : Offset) : (off.setWidth 32).toNat = off.toNat ∧ (off.setWidth 32).setWidth 28 = off :=
  ⟨BitVec.toNat_setWidth_of_le (by decide), by rw [BitVec.setWidth_setWidth_of_le _ (by decide), BitVec.setWidth_eq]⟩

theorem exec_smbusReadRegister_at {off : Offset} {s : State} (hp : s.dev.pkgReset = false)
    (h : s.dev.smbOffset = off.setWidth 32) : exec .smbusReadRegister s = .next (arriveAccess s .smbus [(off, none)]) := by
  show execSmbusReadRegister s = _
  obtain ⟨hnat, hback⟩ := smbus_offset off
  unfold execSmbusReadRegister
  rw [if_neg (by simp [hp]), h, hnat, if_neg (Nat.not_le.2 off.isLt), hback]

theorem exec_smbusReadRegister_beyond {s : State} (hp : s.dev.pkgReset = false) (h : 2 ^ 28 ≤ s.dev.smbOffset.toNat) :
    exec .smbusReadRegister s = .next (emit s (.smb (some 0))) := by
  show execSmbusReadRegister s = _
  unfold execSmbusReadRegister
  rw [if_neg (by simp [hp]), if_pos h]

theorem exec_smbusWriteRegister_at {off : Offset} (h : off.toNat % 4 = 0) (val : Word) {s : State} (hp : s.dev.pkgReset = false) :
    exec (.smbusWriteRegister (off.setWidth 32) val true) s = .next (arriveAccess s .smbus [(off, some val)]) := by
  show execSmbusWriteRegister (off.setWidth 32) val true s = _
  obtain ⟨hnat, hback⟩ := smbus_offset off
  unfold execSmbusWriteRegister
  rw [if_neg (by simp [hp]), hnat, if_neg (by simp [h]), if_neg (Nat.not_le.2 off.isLt), hback]

/-- Settles O14, by the answer of one access of one word or two at a keeper with none waiting. -/
theorem managementReadsAnswer : Obligations.ManagementReadsAnswer := by
  intro off s hp
  refine ⟨fun hs hq ho => ?_, exec_smbusReadRegister_beyond hp,
    fun w d h4 h8 => exec_mgmtEndpointAccess_unsupported h4 h8 d hp⟩
  have hread (i : FabInit) (hg : fabricGuard s i off.toNat false = none) := arrive_read s i off hp hs hq (by omega) hg
  have hout (o : Out) : (emit (readReg s off.toNat).1 o).out = s.out ++ [o] := by rw [emit, readReg_out]
  have hframe (o : Out) := frame_emit (readReg_frame s off.toNat) o
  refine ⟨fun ha hg => ?word, fun ha hg hg4 => ?pair, fun hg => ?debug, fun hoff hg => ?smbus⟩
  case word =>
    exact ⟨_, by rw [exec_mgmtEndpointAccess_word ha, Option.map_none, hread _ hg, answerAccess_endpoint], hout _, hframe _⟩
  case pair =>
    have h4 : (off + 4).toNat = off.toNat + 4 := by rw [BitVec.toNat_add]; simp; omega
    rw [← h4] at hg4 ⊢
    have hboth := arrive_read_two s .endpoint off (off + 4) hp hs hq (by omega) (by omega) hg hg4
    refine ⟨_, by rw [exec_mgmtEndpointAccess_pair ha, hboth, answerAccess_endpoint_two], ?_, frame_emit ?_ _⟩
    · rw [emit, readReg_out, readReg_out]
    · exact (readReg_st (q0 := keep [.cap, .fresh]) (readReg_st (Steady.refl _ s) rfl rfl) rfl rfl).frame
  case debug => exact ⟨_, by rw [exec_debugAccess, hread _ hg, answerAccess_debug], hout _, hframe _⟩
  case smbus => exact ⟨_, by rw [exec_smbusReadRegister_at hp hoff, hread _ hg, answerAccess_smbus], hout _, hframe _⟩

/-! ### Writes at the keeper -/

theorem send_dev (s : State) (c : Instr) : (send s c).dev = s.dev :=
  (send_st (q0 := fun p => p == .dev) (Steady.refl _ s) rfl rfl rfl rfl rfl rfl rfl).dev rfl

/-- The queue stands still behind an access that waits for the fabric die (R296). -/
theorem kprMoves_waiting {s : State} {a : KAcc} {l : List KAcc} (hq : s.dev.kq = a :: l) (ht : a.tag.isSome = true) (n : Nat) :
    kprMoves s n = s := by
  have hmove : kprMove s = s := by
    obtain ⟨k, hk⟩ := Option.isSome_iff_exists.1 ht
    unfold kprMove
    rw [hq]
    simp only [hk]
  induction n with
  | zero => rfl
  | succ n ih => rw [kprMoves, hmove, ih]

/-- An access that comes to an empty queue is the only one. -/
theorem arriveAccess_first {s : State} (hp : s.dev.pkgReset = false) (hq : s.dev.kq = []) (i : FabInit)
    (l : List (Offset × Option Word)) : arriveAccess s i l = kprMoves (withKq s [⟨i, l, [], none⟩]) 3 := by
  unfold arriveAccess
  rw [if_neg (by simp [hp]), hq]
  rfl

theorem arriveAccess_waiting {s : State} {a : KAcc} {l : List KAcc} (hp : s.dev.pkgReset = false) (hq : s.dev.kq = a :: l)
    (ht : a.tag.isSome = true) (i : FabInit) (ws : List (Offset × Option Word)) :
    arriveAccess s i ws = withKq s (s.dev.kq ++ [⟨i, ws, [], none⟩]) := by
  unfold arriveAccess
  rw [if_neg (by simp [hp])]
  exact kprMoves_waiting (a := a) (l := l ++ [⟨i, ws, [], none⟩]) (by rw [hq]; rfl) ht _

theorem fabricGuard_withKq (s : State) (l : List KAcc) (i : FabInit) (o : Nat) (w : Bool) :
    fabricGuard (withKq s l) i o w = fabricGuard s i o w := fabricGuard_congr rfl rfl i o w

/-- An access that passes the guard and finds its die running goes to the fabric die or is performed by the keeper. -/
theorem kprMove_served {s : State} {i : FabInit} {off : Offset} {w : Option Word} (hu : unserved s off.toNat = false)
    (hg : fabricGuard s i off.toNat w.isSome = none) :
    kprMove (withKq s [⟨i, [(off, w)], [], none⟩]) =
      if onFabricDie off.toNat then sendKpr (withKq s [⟨i, [(off, w)], [], none⟩]) ⟨i, [(off, w)], [], none⟩ [] off w
      else
        let x := accessWord (withKq s [⟨i, [(off, w)], [], none⟩]) i off w
        withKq x.1 (if x.1.dev.kq.isEmpty then [] else [wordDone ⟨i, [(off, w)], [], none⟩ x.2]) := by
  have hg' := (fabricGuard_withKq s [⟨i, [(off, w)], [], none⟩] i off.toNat w.isSome).trans hg
  have hu' : unserved (withKq s [⟨i, [(off, w)], [], none⟩]) off.toNat = false := hu
  unfold kprMove
  rw [show (withKq s [⟨i, [(off, w)], [], none⟩]).dev.kq = [⟨i, [(off, w)], [], none⟩] from rfl]
  dsimp only
  rw [hg']
  dsimp only
  rw [if_neg (by simp [hu'])]

section
variable {s : State} {i : FabInit} {off : Offset} (val : Word) (hp : s.dev.pkgReset = false) (hq : s.dev.kq = [])
  (hu : unserved s off.toNat = false) (hg : fabricGuard s i off.toNat true = none)
include hp hq hu hg

/-- The keeper performs a write of a plain word of its own die. -/
theorem arriveAccess_plainWord (hf : onFabricDie off.toNat = false) (hw : plainWord off.toNat = true) :
    arriveAccess s i [(off, some val)] = plainWrite s off.toNat val := by
  have hmove : kprMove (withKq s [⟨i, [(off, some val)], [], none⟩]) =
      withKq (plainWrite s off.toNat val) [⟨i, [], [], none⟩] := by
    rw [kprMove_served (w := some val) hu hg, if_neg (by simp [hf]), accessWord, writeReg_plainWord hw]
    rfl
  have hk : (plainWrite s off.toNat val).dev.kq = [] := hq
  rw [arriveAccess_first hp hq, kprMoves, hmove, kprMoves, kprMove_answer, withKq_self _ hk]
  exact kprMove_idle _ hk

/-- A write of a word of the fabric die leaves as a keeper access under the next tag (R296). -/
theorem arriveAccess_fabric (hf : onFabricDie off.toNat = true) :
    arriveAccess s i [(off, some val)] = send
      { s with dev := { s.dev with ktag := s.dev.ktag + 1, kq := [⟨i, [(off, some val)], [], some s.dev.ktag⟩] } }
      (.kpracc ⟨true, i, s.dev.ktag, off, val⟩) := by
  have hmove := kprMove_served (w := some val) hu hg
  rw [if_pos hf, sendKpr] at hmove
  rw [arriveAccess_first hp hq, kprMoves, hmove]
  exact kprMoves_waiting (congrArg Dev.kq (send_dev ..)) rfl 2

end

theorem exec_mgmtEndpointAccess_write {off : Offset} (h : off.toNat % 4 = 0) (val : Word) (s : State) :
    exec (.mgmtEndpointAccess off 4 (some (val.setWidth 64))) s = .next (arriveAccess s .endpoint [(off, some val)]) := by
  rw [exec_mgmtEndpointAccess_word h, Option.map_some, BitVec.extractLsb'_setWidth_of_le (by decide),
    BitVec.extractLsb'_eq_self]

theorem exec_smbusLatchOffset_aligned {o : BitVec 32} (h : o.toNat % 4 = 0) {s : State} (hp : s.dev.pkgReset = false) :
    exec (.smbusLatchOffset o true) s = .next { s with dev := { s.dev with smbOffset := o } } := by
  show execSmbusLatchOffset o true s = _
  unfold execSmbusLatchOffset
  rw [if_neg (by simp [hp]), if_neg (by simp [h])]

/-- The target does not acknowledge a bad offset or packet error code (R569). -/
theorem exec_smbus_not_acknowledged {o : BitVec 32} {pec : Bool} (h : o.toNat % 4 ≠ 0 ∨ pec = false) (val : Word) {s : State}
    (hp : s.dev.pkgReset = false) :
    exec (.smbusLatchOffset o pec) s = .next (emit s (.smb none)) ∧
      exec (.smbusWriteRegister o val pec) s = .next (emit s (.smb none)) := by
  have hbad : (! pec || o.toNat % 4 != 0) = true := by rcases h with h | h <;> simp [h]
  refine ⟨(?_ : execSmbusLatchOffset o pec s = _), (?_ : execSmbusWriteRegister o val pec s = _)⟩
  · unfold execSmbusLatchOffset
    rw [if_neg (by simp [hp]), if_pos hbad]
  · unfold execSmbusWriteRegister
    rw [if_neg (by simp [hp]), if_pos hbad]

theorem exec_smbusWriteRegister_beyond {o : BitVec 32} (h : o.toNat % 4 = 0) (hb : 2 ^ 28 ≤ o.toNat) (val : Word) {s : State}
    (hp : s.dev.pkgReset = false) : exec (.smbusWriteRegister o val true) s = .next s := by
  show execSmbusWriteRegister o val true s = _
  unfold execSmbusWriteRegister
  rw [if_neg (by simp [hp]), if_neg (by simp [h]), if_pos hb]

/-- Settles O15: each interface brings one access to the keeper, which performs it, sends it on or lets it wait. -/
theorem managementWritesReach : Obligations.ManagementWritesReach := by
  intro off val s hp
  refine ⟨fun hq hu ha hf hw Done hDone => ?own, fun k hk hq hu ha hf => ?fabric, fun a l w hq ht ha hwait => ?waits,
    fun o ho => exec_smbusLatchOffset_aligned ho hp, fun o pec h => exec_smbus_not_acknowledged h val hp,
    fun o ho hb => exec_smbusWriteRegister_beyond ho hb val hp⟩
  case own =>
    have hdone (i : FabInit) (hg : fabricGuard s i off.toNat true = none) : Done (arriveAccess s i [(off, some val)]) := by
      rw [arriveAccess_plainWord val hp hq hu hg hf hw, hDone]
      exact plainWrite_writtenByCodes s off.toNat val
    exact ⟨fun hg => ⟨_, exec_mgmtEndpointAccess_write ha val s, hdone _ hg⟩,
      fun hg => ⟨_, exec_debugAccess off (some val) s, hdone _ hg⟩,
      fun hg => ⟨_, exec_smbusWriteRegister_at ha val hp, hdone _ hg⟩⟩
  case fabric =>
    subst hk
    rw [exec_mgmtEndpointAccess_write ha, exec_debugAccess, exec_smbusWriteRegister_at ha val hp]
    exact ⟨fun hg => congrArg _ (arriveAccess_fabric val hp hq hu hg hf),
      fun hg => congrArg _ (arriveAccess_fabric val hp hq hu hg hf),
      fun hg => congrArg _ (arriveAccess_fabric val hp hq hu hg hf)⟩
  case waits =>
    have hw (i : FabInit) : arriveAccess s i [(off, some val)] = w i :=
      (arriveAccess_waiting hp hq ht i _).trans (hwait i).symm
    rw [exec_mgmtEndpointAccess_write ha, exec_debugAccess, exec_smbusWriteRegister_at ha val hp]
    exact ⟨congrArg _ (hw _), congrArg _ (hw _), congrArg _ (hw _)⟩

end Sys2Proof.Proofs
end

section
/-! SUPPORT. Clocks, fences and the loss of a SerDes PLL, of 01_architecture: what a reset source keeps of the clock loss that
raised it, when the fabric die is released, and which effect a fence or its end has. -/

namespace Sys2Proof.Proofs

open Sys2Proof.Machine Sys2Proof.Laws

/-! ### Fences and links -/

theorem askFence_of_parentDown {s : State} {v : FenceUnit} (h : parentDown s v = true) :
    askFence s v = raiseEv { s with dev := { s.dev with
      faultsHeld := if s.dev.faultsHeld.contains v then s.dev.faultsHeld else s.dev.faultsHeld ++ [v] } } (unitEvent v) :=
  if_pos h

theorem askFence_of_parentUp {s : State} {v : FenceUnit} (h : parentDown s v = false) : askFence s v = fenceUnit s v :=
  if_neg (by simp [h])

section
variable {s : State} (hf : s.dev.fabReset = false)
include hf

theorem exec_cellFence_of_arrives {u : State} {v : FenceUnit} (h : Arrives s (.cellFence v) u) :
    exec (.cellFence v) s = .next (settleUnits (askFence u v)) := by
  show execCellFence v s = _
  rw [execCellFence, onFabric_of_running hf, receive_of_arrives h]

theorem exec_cellUnfence_of_running (v : FenceUnit) :
    exec (.cellUnfence v) s = .next (if parentDown s v then s else settleUnits (unfenceUnit s v)) := by
  show execCellUnfence v s = _
  rw [execCellUnfence, onFabric_of_running hf]

theorem exec_serdesPllLockLoss_of_running (ports : List (Fin 128)) (twin : Bool) :
    exec (.serdesPllLockLoss ports twin) s =
      let t := forAll ports s (fun (u : State) (p : Fin 128) => if portValid u p then loseLink u p 0 else u)
      .next (settleUnits (if twin then twinDown t else t)) := by
  show execSerdesPllLockLoss ports twin s = _
  rw [execSerdesPllLockLoss, onFabric_of_running hf]

end

/-- Settles O19: a running fabric die takes the effect, and the parent's reset chooses between holding a fence and taking it,
and between lifting it and nothing. -/
theorem fencesAndSerdesLoss : Obligations.FencesAndSerdesLoss := by
  intro s hf
  refine ⟨fun v u ha => ?fence, fun v => ?unfence, fun ports => ?serdes⟩
  case fence =>
    rw [exec_cellFence_of_arrives hf ha]
    exact ⟨fun hd => by rw [askFence_of_parentDown hd], fun hd => by rw [askFence_of_parentUp hd]⟩
  case unfence =>
    rw [exec_cellUnfence_of_running hf]
    exact ⟨fun hd => by rw [if_pos hd], fun hd => by rw [if_neg (by simp [hd])]⟩
  case serdes =>
    exact ⟨exec_serdesPllLockLoss_of_running hf ports false, exec_serdesPllLockLoss_of_running hf ports true⟩

/-! ### Resets of chip and package level -/

theorem count_dev (s : State) (off lo : Nat) (rule : CntRule) (e : Nat) : (count s off lo rule e).dev = s.dev :=
  (count_st (q0 := fun p => p == .dev) (Steady.refl _ s) rfl rfl rfl rfl rfl rfl rfl rfl).dev rfl

theorem storeWrite_dev (s : State) (a : Nat) (bs : List Byte) : (storeWrite s a bs).dev = s.dev :=
  (storeWrite_st (q0 := fun p => p == .dev) (Steady.refl _ s) rfl).dev rfl

theorem interruptTxn_dev (s : State) : (interruptTxn s).dev = s.dev :=
  (interruptTxn_st (q0 := fun p => p == .dev) (Steady.refl _ s) rfl rfl).dev rfl

theorem loadStored_dev (s : State) : (loadStored s).dev = s.dev :=
  (loadStored_st (q0 := fun p => p == .dev) (Steady.refl _ s) rfl rfl).dev rfl

/-- The fabric die is in reset, and whether a clock is lost is as in `d`. -/
def HeldInReset (d e : Dev) : Prop := e.fabReset = true ∧ e.clkBad = d.clkBad

/-- Recording the cause of a reset ends no reset and tells nothing about the clocks. -/
theorem recordCause_heldInReset {d : Dev} {s : State} (h : HeldInReset d s.dev) (src lvl unit : Nat) :
    HeldInReset d (recordCause s src lvl unit).dev := by
  unfold recordCause
  dsimp only
  split
  · exact h
  · unfold storeCause
    split
    · rw [nvDeferred, count_dev]; exact h
    · rw [storeWrite_dev]; exact h

theorem chipReset_heldInReset {s : State} (hp : s.dev.pkgReset = false) (src unit : Nat) :
    HeldInReset s.dev (chipReset s src unit).dev := by
  unfold chipReset
  split
  · next habs =>
    simp only [hp, Bool.false_or, Bool.and_eq_true] at habs
    exact ⟨habs.1.1, rfl⟩
  · refine recordCause_heldInReset ⟨rfl, ?_⟩ src 3 unit
    show (interruptTxn s).dev.clkBad = s.dev.clkBad
    rw [interruptTxn_dev]

theorem packageReset_heldInReset {s : State} (hp : s.dev.pkgReset = false) (src unit : Nat) :
    HeldInReset s.dev (packageReset s src unit).dev := by
  unfold packageReset
  rw [if_neg (by simp [hp])]
  refine recordCause_heldInReset ?_ src 4 unit
  rw [loadStored_dev]
  exact ⟨rfl, rfl⟩

/-- A source leaves the fabric die in reset, at either level and absorbed too (R528). -/
theorem raiseSource_heldInReset {s : State} (hp : s.dev.pkgReset = false) (src unit : Nat) :
    HeldInReset s.dev (raiseSource s src unit).dev := by
  unfold raiseSource
  split
  · exact packageReset_heldInReset hp src unit
  · exact chipReset_heldInReset hp src unit

/-! ### Loss of a clock -/

theorem clockLoss_holds {s : State} (hp : s.dev.pkgReset = false) :
    (clockLoss s).dev.fabReset = true ∧ (clockLoss s).dev.clkBad = true := by
  unfold clockLoss
  refine raiseSource_heldInReset ?_ 10 0
  show (count s R.RST_CLK_LOSS_CNT 0 .every 3).dev.pkgReset = false
  rw [count_dev, hp]

theorem exec_refclkLoss_of_package {s : State} (hp : s.dev.pkgReset = false) :
    exec .refclkLoss s = .next (wr (clockLoss s) R.RST_CLK_STATUS 3 0 0) := by
  show execRefclkLoss s = _
  rw [execRefclkLoss, if_neg (by simp [hp])]

theorem exec_rootPllLockLoss_of_running {s : State} (hf : s.dev.fabReset = false) :
    exec .rootPllLockLoss s = .next (wr (clockLoss s) R.RST_CLK_STATUS 3 0 5) := by
  show execRootPllLockLoss s = _
  rw [execRootPllLockLoss, if_neg (by simp [hf])]

/-- A lost clock holds the fabric die in reset, and the status word shows the clocks `v` that are left. -/
def HeldByClock (v : Nat) (s : State) : Prop :=
  s.dev.fabReset = true ∧ s.dev.clkBad = true ∧ fld (getReg s R.RST_CLK_STATUS) 3 0 = v

theorem clockLoss_heldByClock {s : State} (hp : s.dev.pkgReset = false) {v : Nat} (hv : v < 16) :
    HeldByClock v (wr (clockLoss s) R.RST_CLK_STATUS 3 0 v) := by
  obtain ⟨hfab, hclk⟩ := clockLoss_holds hp
  refine ⟨hfab, hclk, ?_⟩
  rw [getReg_wr_same, fld_putFld _ _ _ _ (by decide) (by decide)]
  exact Nat.mod_eq_of_lt hv

/-! ### Return of the clock -/

theorem rd_wr_other (s : State) {o i : Nat} (h : i ≠ o) (hi lo v top low : Nat) :
    rd (wr s o hi lo v) i top low = rd s i top low := by
  rw [rd, rd, rdWord, rdWord, getReg_wr_other s h, wr_liveWord]

theorem rdBit_wr_other (s : State) {o i : Nat} (h : i ≠ o) (hi lo v k : Nat) :
    rdBit (wr s o hi lo v) i k = rdBit s i k := by
  rw [rdBit, rdBit, rdWord, rdWord, getReg_wr_other s h, wr_liveWord]

theorem rdBit_wrBit_true (s : State) (o : Nat) {k : Nat} (h : k < 32) : rdBit (wrBit s o k true) o k = true := by
  have hbit := bitAt_putFld_same (getReg s o) k true h
  unfold bitAt at hbit
  rw [rdBit, rdWord, getReg_wrBit_same, bitAt, BitVec.getLsbD_or, hbit, Bool.or_true]

theorem rdBit_wrBit_other (s : State) (o : Nat) {i k : Nat} (hk : k < 32) (h : i ≠ k) (b : Bool) :
    rdBit (wrBit s o k b) o i = rdBit s o i := by
  have hbit := bitAt_putFld_other (getReg s o) k k b.toNat i hk (Nat.le_refl _) (by omega)
  unfold bitAt at hbit
  rw [rdBit, rdBit, rdWord, rdWord, getReg_wrBit_same, wrBit_liveWord, bitAt, bitAt, BitVec.getLsbD_or, BitVec.getLsbD_or, hbit]

/-- A field of two bits that are both set reads 3. -/
theorem fld_pair_set {w : Word} {k : Nat} (hlo : bitAt w k = true) (hhi : bitAt w (k + 1) = true) : fld w (k + 1) k = 3 := by
  apply Nat.eq_of_testBit_eq
  intro i
  unfold fld
  rw [show k + 1 + 1 - k = 2 by omega, Nat.testBit_mod_two_pow, Nat.testBit_div_two_pow, show (3 : Nat) = 2 ^ 2 - 1 from rfl,
    Nat.testBit_two_pow_sub_one]
  obtain hi | rfl | rfl : 2 ≤ i ∨ i = 0 ∨ i = 1 := by omega
  · simp [show ¬ i < 2 by omega]
  · simpa [bitAt, BitVec.getLsbD] using hlo
  · simpa [bitAt, BitVec.getLsbD, Nat.add_comm] using hhi

/-- The clock is back: REFCLK shows, and the fabric die may have its power (R40, R531). -/
def clockBack (s : State) : State := enableFabric (wr { s with dev := { s.dev with clkBad := false } } R.RST_CLK_STATUS 3 0 5)

theorem enableFabric_dev (s : State) : (enableFabric s).dev = s.dev := by
  unfold enableFabric
  split <;> rfl

theorem clockBack_dev (s : State) : (clockBack s).dev = { s.dev with clkBad := false } := enableFabric_dev _

theorem exec_refclkRestored_of_lost {s : State} (hp : s.dev.pkgReset = false) (hc : s.dev.clkBad = true) :
    exec .refclkRestored s = .next (if s.dev.fabReset && ! s.dev.stopDue && mayRelease (clockBack s)
      then chipRelease (clockBack s) else clockBack s) := by
  show execRefclkRestored s = _
  rw [execRefclkRestored, if_neg (by simp [hc])]
  dsimp only
  rw [if_neg (by simp [hp]), ← clockBack, clockBack_dev]

/-- At start-up step 2 with power good and REFCLK present, fabric power is all that the release waits for (R21, R531). -/
theorem mayRelease_enableFabric {s : State} (hp : s.dev.pkgReset = false) (hc : s.dev.clkBad = false)
    (hstep : rd s R.RST_BRINGUP 3 0 = 2) (hpg : rdBit s R.RST_SUP_STATUS 29 = true) : mayRelease (enableFabric s) = true := by
  have hpower : rd (wrBit s R.RST_SUP_STATUS 28 true) R.RST_SUP_STATUS 29 28 = 3 :=
    fld_pair_set (rdBit_wrBit_true s _ (by decide)) ((rdBit_wrBit_other s _ (by decide) (by decide) _).trans hpg)
  have hstep' : rd (wrBit s R.RST_SUP_STATUS 28 true) R.RST_BRINGUP 3 0 = 2 := (rd_wr_other s (by decide) ..).trans hstep
  rw [enableFabric, if_pos ⟨hstep, hc⟩, mayRelease, hstep', hpower]
  simp [hp, hc]

/-- The clock's return ends the last of the conditions that held the release back (R40). -/
theorem mayRelease_clockBack {s : State} (hp : s.dev.pkgReset = false) (hstep : rd s R.RST_BRINGUP 3 0 = 2)
    (hpg : rdBit s R.RST_SUP_STATUS 29 = true) : mayRelease (clockBack s) = true :=
  mayRelease_enableFabric hp rfl ((rd_wr_other _ (by decide) ..).trans hstep) ((rdBit_wr_other _ (by decide) ..).trans hpg)

theorem chipRelease_dev (s : State) : (chipRelease s).dev = { s.dev with fabReset := false, held := [] } := rfl

/-- The timestamp counts from 0 when chip-level reset ends (R39). -/
theorem chipRelease_time (s : State) :
    getReg (chipRelease s) R.RST_TIME = 0 ∧ getReg (chipRelease s) (R.RST_TIME + 4) = 0 := by
  unfold chipRelease setStep wr64
  dsimp only
  constructor
  · rw [getReg_wr_other _ (by decide), getReg_setReg_other _ (by decide), getReg_setReg_same]; rfl
  · rw [getReg_wr_other _ (by decide), getReg_setReg_same]; rfl

/-- Settles O18: the reset source of a lost clock leaves the fabric die in reset at either level, and the clock's return releases
it where the rest of the release condition stands. -/
theorem clockLossHoldsFabric : Obligations.ClockLossHoldsFabric := by
  intro s hp
  refine ⟨⟨_, exec_refclkLoss_of_package hp, clockLoss_heldByClock hp (by decide)⟩,
    fun hf => ⟨_, exec_rootPllLockLoss_of_running hf, clockLoss_heldByClock hp (by decide)⟩,
    fun hc => ⟨_, exec_refclkRestored_of_lost hp hc, ?clock, fun hf hstop hstep hpg => ?release⟩⟩
  case clock =>
    split
    · rw [chipRelease_dev, clockBack_dev]
    · rw [clockBack_dev]
  case release =>
    rw [if_pos (by simp [hf, hstop, mayRelease_clockBack hp hstep hpg]), chipRelease_dev]
    exact ⟨rfl, chipRelease_time _⟩

end Sys2Proof.Proofs
end

section
/-! SUPPORT. Pool memory, of 02_memory_pools: the tag cache of a region, and the queries of a pool view's mailbox. -/

namespace Sys2Proof.Proofs

open Sys2Proof.Machine Sys2Proof.Laws

/-! ### Tag caches -/

/-- What is dropped from a sparse array reads as its default, and the rest as before. -/
theorem sGet_sDrop {α : Type} (m : SMap α) (p : Nat → Bool) (k : Nat) (d : α) :
    sGet (sDrop m p) k d = if p k then d else sGet m k d := by
  unfold sGet sDrop
  rw [sFind_filter m (fun j => ! p j) k]
  cases p k <;> rfl

theorem tagDropAll_tags (s : State) (n k : Nat) :
    sGet (tagDropAll s n).pool.tags k [] = if k / 512 = n then [] else sGet s.pool.tags k [] := by
  simp [tagDropAll, tagStale, sGet_sDrop]

section
variable {s : State} (hf : s.dev.fabReset = false)
include hf

theorem exec_tagInvalidate_of_running (n : Fin 16) :
    exec (.tagInvalidate n) s = .next (wrBit (tagDropAll s n) (R.RGN_TAG_STATUS n) 0 true) :=
  congrArg Host.Outcome.next (onFabric_of_running hf _)

theorem exec_tagInvalidateDone_of_running (n : Fin 16) :
    exec (.tagInvalidateDone n) s = .next (wrBit s (R.RGN_TAG_STATUS n) 0 false) :=
  congrArg Host.Outcome.next (onFabric_of_running hf _)

end

/-- A region reads carve-out line `l` again; the reads that are out are then `ws`. -/
def tagReread (u : State) (n : Fin 16) (l : LAddr) (ws : List TagWait) : State :=
  dpRead { u with pool := { u.pool with tagWaits := ws } } (portFor u n (lineAddr l)) l 0x3FF (some (epochBit u)) (.tag n l)

/-- The reads of carve-out lines under way but for that of line `l` in region `n`. -/
def otherReads (u : State) (n : Fin 16) (l : LAddr) : List TagWait :=
  u.pool.tagWaits.filter (fun v => ! (v.region == n && v.line == l))

/-- The read of line `l` in region `n` is over. -/
def readEnded (u : State) (n : Fin 16) (l : LAddr) : State :=
  { u with pool := { u.pool with tagWaits := otherReads u n l } }

section
variable {s u : State} {n : Fin 16} {l : LAddr} {data : LineData} {w : TagWait}
variable (hf : s.dev.fabReset = false)
variable (hw : u.pool.tagWaits.find? (fun w => w.region == n && w.line == l) = some w)
include hf hw

theorem exec_tagLineFill_stale {ecc : Ecc} (ha : Arrives s (.tagLineFill n l data ecc) u) (hs : w.stale = true) :
    exec (.tagLineFill n l data ecc) s = .next (tagReread u n l (otherReads u n l ++ [{ w with stale := false }])) := by
  show execTagLineFill n l data ecc s = _
  simp only [execTagLineFill, onFabric_of_running hf, receive_of_arrives ha, hw, hs, if_true]
  rfl

theorem exec_tagLineFill_clean (ha : Arrives s (.tagLineFill n l data .clean) u) (hs : w.stale = false) :
    exec (.tagLineFill n l data .clean) s =
      .next (settleAll (forAll w.held (tagInstall (readEnded u n l) n l data) (fun t x => tagUser t l false x))) := by
  show execTagLineFill n l data .clean s = _
  simp only [execTagLineFill, onFabric_of_running hf, receive_of_arrives ha, hw, hs, Bool.false_eq_true, if_false, reduceCtorEq]
  rfl

theorem exec_tagLineFill_uncorrectable (ha : Arrives s (.tagLineFill n l data .uncorrectable) u) (hs : w.stale = false) :
    exec (.tagLineFill n l data .uncorrectable) s =
      .next (if w.again then settleAll (forAll w.held (readEnded u n l) (fun t x => tagUser t l true x))
        else tagReread u n l (otherReads u n l ++ [{ w with again := true }])) := by
  show execTagLineFill n l data .uncorrectable s = _
  simp only [execTagLineFill, onFabric_of_running hf, receive_of_arrives ha, hw, hs, Bool.false_eq_true, if_false]
  rfl

end

/-- Settles O22: an invalidation filters the region's sets out of the cache, and a line that arrives goes by its read's marks. -/
theorem tagCacheCommands : Obligations.TagCacheCommands := by
  intro n s hf
  have hinv := exec_tagInvalidate_of_running hf n
  have hdone := exec_tagInvalidateDone_of_running hf n
  refine ⟨⟨_, hinv, fun k hk => ?dropped, fun k hk => ?kept, ?busy, ?word, ?frame⟩, ⟨_, hdone, ?idle, ?doneWord, ?doneFrame⟩,
    fun l data ecc u w ha hw others ho gone hg => ?fill⟩
  case dropped => rw [wrBit_pool, tagDropAll_tags, if_pos hk]
  case kept => rw [wrBit_pool, tagDropAll_tags, if_neg hk]
  case busy => rw [getReg_wrBit_same]; exact bitAt_putFld_same _ _ _ (by decide)
  case word => exact regsBut_wrBit (fun _ _ => rfl) (List.mem_singleton_self _) _ _
  case frame => exact frame_of (execTagInvalidate_ok (Steady.refl _ s)) hinv
  case idle => rw [getReg_wrBit_same]; exact bitAt_putFld_same _ _ _ (by decide)
  case doneWord => exact regsBut_wrBit (regsBut_refl _ s) (List.mem_singleton_self _) _ _
  case doneFrame => exact frame_of (execTagInvalidateDone_ok (Steady.refl _ s)) hdone
  case fill =>
    subst hg ho
    refine ⟨fun hs => exec_tagLineFill_stale hf hw ha hs, fun hs he => ?_, fun hs he hag => ?_, fun hs he hag => ?_⟩
    · subst he; exact exec_tagLineFill_clean hf hw ha hs
    · subst he; rw [exec_tagLineFill_uncorrectable hf hw ha hs, if_pos hag]; rfl
    · subst he; rw [exec_tagLineFill_uncorrectable hf hw ha hs, if_neg (by simp [hag])]; rfl

/-! ### The mailbox of a pool view -/

theorem onMailbox_of_active {s : State} {p : Nat} (hf : s.dev.fabReset = false) (hr : portRole s p = 1)
    (hl : linkActive s p = true) (t : State) : onMailbox s p t = t := by
  simp [onMailbox, hf, hr, hl]

theorem sent_emit {s t : State} (h : s.out <+: t.out) (o : Out) : Sent s (emit t o) o := by
  obtain ⟨l, hl⟩ := h
  exact ⟨l ++ [o], by rw [← List.append_assoc, hl]; rfl, by simp⟩

/-- The event records of the pool view of port `p` are `l`. -/
def withDcEvents (s : State) (p : Nat) (l : List DcEvent) : State :=
  { s with pool := { s.pool with events := sPut s.pool.events p [] l } }

theorem dcEvents_withDcEvents_same (s : State) (p : Nat) (l : List DcEvent) : dcEvents (withDcEvents s p l) p = l :=
  sGet_sPut_same ..

theorem dcEvents_withDcEvents_other (s : State) {p q : Nat} (h : q ≠ p) (l : List DcEvent) :
    dcEvents (withDcEvents s p l) q = dcEvents s q :=
  sGet_sPut_other _ _ _ _ h

/-- The records that a CLEAR_EVENT_RECORDS leaves (R51). -/
def leftRecords (s : State) (p : Nat) (hs : Option (List Nat)) : List DcEvent :=
  hs.elim [] (fun l => (dcEvents s p).filter (fun e => ! l.contains e.handle))

section
variable {p : Fin 128} {s : State} (hf : s.dev.fabReset = false) (hr : portRole s p = 1) (hl : linkActive s p = true)
include hf hr hl

theorem exec_clearEventRecords_of_active (hs : Option (List Nat)) :
    exec (.clearEventRecords p hs) s = .next (emit (withDcEvents s p (leftRecords s p hs)) (.mboxDone p true)) := by
  refine (congrArg Host.Outcome.next (onMailbox_of_active hf hr hl _)).trans ?_
  cases hs <;> rfl

/-- A CLEAR_EVENT_RECORDS completes, and changes the records of its own pool view alone. -/
theorem clearEventRecords_gives (hs : Option (List Nat)) : Gives (.clearEventRecords p hs) s (fun t =>
    dcEvents t p = leftRecords s p hs ∧ Sent s t (.mboxDone p true) ∧
      (∀ q, q ≠ p.val → dcEvents t q = dcEvents s q) ∧ Frame [.pool, .out] s t) :=
  have hx := exec_clearEventRecords_of_active hf hr hl hs
  ⟨_, hx, dcEvents_withDcEvents_same .., sent_emit (List.prefix_refl _) _, fun _ hq => dcEvents_withDcEvents_other s hq _,
    frame_of (execClearEventRecords_ok (Steady.refl _ s)) hx⟩

end

/-- Settles O23: the mailbox of an active host port answers, and what a clear leaves is said once for both its forms. -/
theorem poolViewQueries : Obligations.PoolViewQueries := by
  intro p s hf hr hl
  have answers (t : State) : Host.Outcome.next (onMailbox s p t) = (.next t : Host.Outcome State Fault Refusal) :=
    congrArg _ (onMailbox_of_active hf hr hl t)
  exact ⟨answers _, fun _ _ => answers _, answers _, clearEventRecords_gives hf hr hl none,
    fun hs => clearEventRecords_gives hf hr hl (some hs)⟩

end Sys2Proof.Proofs
end

section
/-! SUPPORT. Binding states of 02_memory_pools: what a change of one binding state leaves of the others, the mailbox responses
that bind and release blocks, the other twin's changes, and the colour fill. -/

namespace Sys2Proof.Proofs

open Sys2Proof.Machine Sys2Proof.Laws

/-! ### One binding state -/

/-- Two binding states in one word are those of one port and of segments that differ in their low bits (R66). -/
theorem bindOff_eq_iff {p q g h : Nat} (hg : g < 65536) (hh : h < 65536) : bindOff q h = bindOff p g ↔ q = p ∧ h / 16 = g / 16 := by
  unfold bindOff R.SEG_BIND
  omega

theorem bindOff_same_port {p g h : Nat} : bindOff p h = bindOff p g ↔ h / 16 = g / 16 := by
  unfold bindOff R.SEG_BIND
  omega

theorem bindOf_putBind_same (b : SMap Word) (p g : Nat) {st : Nat} (hst : st < 4) : bindOf (putBind b p g st) p g = st := by
  unfold bindOf putBind
  rw [sGet_sPut_same, fld_putFld _ _ _ _ (by omega) (by omega), show 2 * (g % 16) + 1 + 1 - 2 * (g % 16) = 2 by omega]
  exact Nat.mod_eq_of_lt hst

theorem bindOf_putBind_other (b : SMap Word) {p q g h : Nat} (hd : bindOff q h = bindOff p g → h % 16 ≠ g % 16) (st : Nat) :
    bindOf (putBind b p g st) q h = bindOf b q h := by
  unfold bindOf putBind
  by_cases ho : bindOff q h = bindOff p g
  · have hne := hd ho
    rw [ho, sGet_sPut_same, fld_putFld_other _ _ _ _ _ _ (by omega) (by omega) (by omega)]
  · rw [sGet_sPut_other _ _ _ _ ho]

theorem bindOf_deviceBind_port (s : State) (p g h : Nat) {st : Nat} (hst : st < 4) :
    bindOf (bankNow (deviceBind s p g st)) p h = if h = g then st else bindOf (bankNow s) p h := by
  show bindOf (putBind (bankNow s) p g st) p h = _
  split
  · next e => rw [e]; exact bindOf_putBind_same _ _ _ hst
  · next e => exact bindOf_putBind_other _ (fun ho => by have := bindOff_same_port.1 ho; omega) _

theorem bindOf_deviceBind (s : State) {p q g h : Nat} (hg : g < 65536) (hh : h < 65536) {st : Nat} (hst : st < 4) :
    bindOf (bankNow (deviceBind s p g st)) q h = if q = p ∧ h = g then st else bindOf (bankNow s) q h := by
  show bindOf (putBind (bankNow s) p g st) q h = _
  split
  · next e => rw [e.1, e.2]; exact bindOf_putBind_same _ _ _ hst
  · next e => exact bindOf_putBind_other _ (fun ho => by have := (bindOff_eq_iff hg hh).1 ho; omega) _

theorem bindOf_foldl_deviceBind (l : List Nat) (s : State) (p h : Nat) {st : Nat} (hst : st < 4) :
    bindOf (bankNow (l.foldl (fun u g => deviceBind u p g st) s)) p h = if h ∈ l then st else bindOf (bankNow s) p h := by
  induction l generalizing s with
  | nil => simp
  | cons g l ih =>
    rw [List.foldl_cons, ih, bindOf_deviceBind_port s p g h hst]
    by_cases hl : h ∈ l <;> by_cases hg : h = g <;> simp [hl, hg]

/-! ### Responses of the mailbox -/

theorem mboxRefuse_sent (s : State) (p : Nat) (counted : Bool) : Sent s (mboxRefuse s p counted) (.mboxDone p false) := by
  refine sent_emit ?_ _
  split
  · exact (count_st (q0 := fun _ => false) (Steady.refl _ s) rfl rfl rfl rfl rfl rfl rfl rfl).grows
  · exact List.prefix_refl _

theorem mboxRefuse_frame (s : State) (p : Nat) (counted : Bool) : Frame (.settings :: eventParts) s (mboxRefuse s p counted) :=
  (mboxRefuse_st (q0 := keep (.settings :: eventParts)) (Steady.refl _ s) rfl rfl rfl rfl rfl rfl rfl).frame

/-- The pool view of port `p` takes the blocks `gs`: they are BOUND, and their extents are listed (R71). -/
def blocksAdded (s : State) (p : Nat) (gs : List Nat) : State :=
  addExtents (gs.foldl (fun u g => deviceBind u p g 2) s) p gs

theorem bindOf_blocksAdded (s : State) (p : Nat) {gs : List Nat} {g : Nat} (hg : g ∈ gs) :
    bindOf (bankNow (blocksAdded s p gs)) p g = 2 :=
  (bindOf_foldl_deviceBind gs s p g (by decide)).trans (if_pos hg)

/-- The blocks `gs` of port `p` whose release begins: those without a home are UNBOUND and their extents taken out, and the command
waits for the acknowledgements and the sweeps of the others (R74 to R76). -/
def releaseBegun (s : State) (p : Fin 128) (gs : List Nat) : State :=
  let acks := if bindPartner s then gs else []
  let swept := gs.filter (fun g => segMode (bankNow s) g == 1)
  let plain := gs.filter (fun g => segMode (bankNow s) g != 1)
  let u := if gs.any (fun g => bindOf (bankNow s) p g == 2) then raiseEv s 9 else s
  let v := dropExtents (plain.foldl (fun w g => deviceBind w p g 0)
    { u with pool := { u.pool with waits := u.pool.waits ++ [⟨p, true, acks, swept, swept⟩] } }) p plain
  let x := acks.foldl (fun w g => pairSend w (.bind p .unbound (BitVec.ofNat 16 g))) v
  settleMbox (settleSlices (swept.foldl (fun w g => startSweep w p g) x))

section
variable {p : Fin 128} {e : List Extent} {s : State}
variable (hf : s.dev.fabReset = false) (hr : portRole s p = 1) (hl : linkActive s p = true)
include hf hr hl

theorem exec_addResponse_wrong_state (hg : ∃ g ∈ rangeSegs e, bindOf (bankNow s) p g ≠ 1) :
    ∃ counted, exec (.addDynamicCapacityResponse p e) s = .next (mboxRefuse s p counted) := by
  obtain ⟨g, hm, hb⟩ := hg
  refine ⟨! (e.all rangeOk && (rangeSegs e).all (fun g => decide (2 ≤ bindOf (bankNow s) p g))), ?_⟩
  show execAddDynamicCapacityResponse p e s = _
  rw [execAddDynamicCapacityResponse, onMailbox_of_active hf hr hl]
  dsimp only
  rw [if_pos]
  have hall : (rangeSegs e).all (fun g => bindOf (bankNow s) p g == 1) = false :=
    List.all_eq_false.2 ⟨g, hm, by simpa using hb⟩
  simp [hall]

theorem exec_addResponse_alone (he : e.all rangeOk = true) (hg : ∀ g ∈ rangeSegs e, bindOf (bankNow s) p g = 1)
    (hb : bindPartner s = false) : exec (.addDynamicCapacityResponse p e) s =
      .next (if 4096 < (extentsOf (blocksAdded s p (rangeSegs e)) p).length then mboxRefuse s p true
        else emit (blocksAdded s p (rangeSegs e)) (.mboxDone p true)) := by
  show execAddDynamicCapacityResponse p e s = _
  rw [execAddDynamicCapacityResponse, onMailbox_of_active hf hr hl]
  dsimp only
  have hall : (rangeSegs e).all (fun g => bindOf (bankNow s) p g == 1) = true := by simpa using hg
  rw [if_neg (by simp [he, hall]), hb]
  rfl

theorem exec_release_wrong_state (hg : ∃ g ∈ rangeSegs e, bindOf (bankNow s) p g < 2) :
    exec (.releaseDynamicCapacity p e) s = .next (mboxRefuse s p true) := by
  obtain ⟨g, hm, hb⟩ := hg
  show execReleaseDynamicCapacity p e s = _
  rw [execReleaseDynamicCapacity, onMailbox_of_active hf hr hl]
  dsimp only
  rw [if_pos]
  have hall : (rangeSegs e).all (fun g => decide (2 ≤ bindOf (bankNow s) p g)) = false :=
    List.all_eq_false.2 ⟨g, hm, by simpa using hb⟩
  simp [hall]

theorem exec_release_begins (he : e.all rangeOk = true) (hg : ∀ g ∈ rangeSegs e, 2 ≤ bindOf (bankNow s) p g) :
    exec (.releaseDynamicCapacity p e) s = .next (releaseBegun s p (rangeSegs e)) := by
  show execReleaseDynamicCapacity p e s = _
  rw [execReleaseDynamicCapacity, onMailbox_of_active hf hr hl]
  dsimp only
  have hall : (rangeSegs e).all (fun g => decide (2 ≤ bindOf (bankNow s) p g)) = true := by simpa using hg
  rw [if_neg (by simp [he, hall])]
  rfl

end

/-- The segments whose sweeps port `p` waits for (R75). -/
def sweptSegs (s : State) (p : Fin 128) : List Nat := (s.pool.sweeps.filter (fun x => x.1 == p)).map (·.2)

/-- The sweeps of port `p` are over: its release commands wait for no sweep any more, and what the other twin asked for is UNBOUND
and acknowledged (R74 to R76). -/
def sweepsEnded (s : State) (p : Fin 128) : State :=
  (s.pool.asked.filter (fun x => x.1 == p)).foldl (fun u x =>
      pairSend (dropExtents (deviceBind u p x.2 0) p [x.2]) (.bindAck p .unbound (BitVec.ofNat 16 x.2)))
    { s with pool := { s.pool with
      sweeps := s.pool.sweeps.filter (fun x => x.1 != p), asked := s.pool.asked.filter (fun x => x.1 != p)
      waits := s.pool.waits.map (fun w => if w.port = p ∧ w.release then { w with sweeps := [] } else w) } }

theorem exec_purgeSweepDone_of_running {s : State} (hf : s.dev.fabReset = false) (p : Fin 128) :
    exec (.purgeSweepDone p) s = .next (if sweepBusy s (sweptSegs s p) then s else settleMbox (sweepsEnded s p)) :=
  congrArg Host.Outcome.next (onFabric_of_running hf _)

/-- Settles O24: the states of the named blocks choose between refusing and performing a response, and a purge sweep completes
once no slice has work left for it. -/
theorem poolViewResponses : Obligations.PoolViewResponses := by
  intro p e s hf
  refine ⟨fun hr hl he => ⟨fun hg => ?addRefused, fun hg hb t ht => ?added, fun hg => ?releaseRefused,
    fun acks swept plain u v x hg hacks hswept hplain hu hv hx => ?released⟩, fun b hb => ?sweep⟩
  case addRefused =>
    obtain ⟨counted, hx⟩ := exec_addResponse_wrong_state hf hr hl hg
    exact ⟨_, hx, mboxRefuse_sent .., mboxRefuse_frame ..⟩
  case added =>
    obtain rfl : t = blocksAdded s p (rangeSegs e) := ht
    rw [exec_addResponse_alone hf hr hl he hg hb]
    exact ⟨fun hn => ⟨by rw [if_neg (Nat.not_lt.2 hn)], fun g hm => bindOf_blocksAdded s p hm⟩, fun hn => by rw [if_pos hn]⟩
  case releaseRefused => exact ⟨_, exec_release_wrong_state hf hr hl hg, mboxRefuse_sent .., mboxRefuse_frame ..⟩
  case released =>
    subst hx hv hu hacks hswept hplain
    exact exec_release_begins hf hr hl he hg
  case sweep =>
    change b = sweepBusy s (sweptSegs s p) at hb
    rw [exec_purgeSweepDone_of_running hf, ← hb]
    exact ⟨fun h => by rw [if_pos h], fun h => by rw [if_neg (by simp [h])]; rfl⟩

/-! ### Changes of the other twin -/

/-- The other twin's change to `st` of port `p` and segment `g`, applied (R68). -/
def partnerBound (s : State) (p : Nat) (st : BindState) (g : Nat) : State :=
  match st with
  | .unbound => dropExtents (deviceBind s p g 0) p [g]
  | .bound => addExtents (deviceBind s p g 2) p [g]
  | .offered | .releasing => deviceBind s p g (bindCode st)

theorem partnerBound_bank (s : State) (p : Nat) (st : BindState) (g : Nat) :
    bankNow (partnerBound s p st g) = bankNow (deviceBind s p g (bindCode st)) := by
  cases st <;> rfl

theorem bindCode_lt (st : BindState) : bindCode st < 4 := by
  cases st <;> decide

theorem partnerBound_frame (s : State) (p : Nat) (st : BindState) (g : Nat) : Frame [.banks, .pool] s (partnerBound s p st g) := by
  have hd (n : Nat) := deviceBind_st (p := p) (g := g) (st := n) (Steady.refl (keep [.banks, .pool]) s) rfl
  cases st with
  | unbound => exact (dropExtents_st (hd 0) rfl).frame
  | bound => exact (addExtents_st (hd 2) rfl).frame
  | offered => exact (hd 1).frame
  | releasing => exact (hd 3).frame

section
variable {s : State} (hf : s.dev.fabReset = false)
include hf

theorem exec_bind_swept (p : Fin 128) {seg : BitVec 16} (hm : segMode (bankNow s) seg.toNat = 1) :
    exec (.bind p .unbound seg) s = .next (settleSlices (startSweep
      { s with pool := { s.pool with asked := s.pool.asked ++ [(p, seg.toNat)] } } p seg.toNat)) := by
  show execBind p .unbound seg s = _
  rw [execBind, onFabric_of_running hf]
  dsimp only
  rw [if_pos hm]

theorem exec_bind_applied (p : Fin 128) {st : BindState} {seg : BitVec 16}
    (h : st ≠ .unbound ∨ segMode (bankNow s) seg.toNat ≠ 1) :
    exec (.bind p st seg) s = .next (pairSend (partnerBound s p st seg.toNat) (.bindAck p st seg)) := by
  show execBind p st seg s = _
  rw [execBind, onFabric_of_running hf]
  cases st with
  | unbound =>
    dsimp only
    rw [if_neg (h.resolve_left (by simp))]
    rfl
  | offered | bound | releasing => rfl

end

/-! ### The colour fill -/

/-- What no step of a fold changes is unchanged by the fold. -/
theorem forAll_keeps {α β : Type} (f : State → β) {g : State → α → State} (h : ∀ t x, f (g t x) = f t) (l : List α) (s : State) :
    f (forAll l s g) = f s :=
  (List.foldl_hom f (g₂ := fun b _ => b) (fun t x => (h t x).symm)).symm.trans (List.foldl_fixed _)

/-- The segments that wait for the colour fill, and whether it runs here. -/
def colourFill (s : State) : List Nat × Bool := (s.pool.colourInit, s.pool.colourRunning)

theorem offerRuns_colourFill (s : State) (p : Nat) (l : List Nat) : colourFill (offerRuns s p l) = colourFill s := by
  unfold offerRuns
  split
  · unfold raiseRuns
    refine forAll_keeps colourFill (fun t r => ?_) _ s
    rfl
  · rfl

section
variable {s : State} (hf : s.dev.fabReset = false)
include hf

theorem exec_colourInitDone_of_running : exec .colourInitDone s = .next (if ! s.pool.colourRunning || colourWrites s then s
    else forAll (List.range 128) { s with pool := { s.pool with colourInit := [], colourRunning := false } }
      (fun t p => offerRuns t p (s.pool.colourInit.filter (fun g => bindOf (bankNow s) p g == 1)))) :=
  congrArg Host.Outcome.next (onFabric_of_running hf _)

/-- The fill is over, and no segment waits for it (R78). -/
theorem colourInitDone_gives (hrun : s.pool.colourRunning = true) (hw : colourWrites s = false) :
    Gives .colourInitDone s (fun t => t.pool.colourInit = [] ∧ t.pool.colourRunning = false) := by
  refine ⟨_, exec_colourInitDone_of_running hf, ?_⟩
  rw [if_neg (by simp [hrun, hw])]
  exact Prod.mk.inj (forAll_keeps colourFill (fun t p => offerRuns_colourFill t p _) _ _)

theorem exec_colourInitStart_idle (h : s.pool.colourInit = [] ∨ s.txn.sentSwitch = true ∨ s.pool.colourMine = false ∨
    s.pool.colourRunning = true) : exec .colourInitStart s = .next s := by
  show execColourInitStart s = _
  rw [execColourInitStart, onFabric_of_running hf, if_pos h]

end

/-- Settles O25: each binding state goes to its own branch of BIND, whose change is one of the bank and of the pool, and the colour
fill starts and ends under the conditions that its two commands test. -/
theorem bindingsAndColourFill : Obligations.BindingsAndColourFill := by
  intro p st seg s hf
  refine ⟨fun hst hm => ?swept, fun h => ?applied, ?ack, fun h1 h2 h3 h4 => ?start, exec_colourInitStart_idle hf,
    colourInitDone_gives hf, fun h => ?notDone⟩
  case swept => subst hst; exact exec_bind_swept hf p hm
  case applied =>
    refine ⟨_, exec_bind_applied hf p h, fun q g hg => ?_, fun hb => ?_, fun hb => ?_, partnerBound_frame ..⟩
    · rw [partnerBound_bank, bindOf_deviceBind s seg.isLt hg (bindCode_lt st)]
      simp only [Fin.val_inj]
    · subst hb; exact sGet_sPut_same ..
    · rcases hb with rfl | rfl <;> rfl
  case ack => exact congrArg Host.Outcome.next (onFabric_of_running hf _)
  case start =>
    show execColourInitStart s = _
    rw [execColourInitStart, onFabric_of_running hf, if_neg (by simp [h1, h2, h3, h4])]
    rfl
  case notDone =>
    rw [exec_colourInitDone_of_running hf, if_pos]
    rcases h with h | h <;> simp [h]

end Sys2Proof.Proofs
end

section
/-! SUPPORT. Requests on their way to a home, of 03_coherence_directory: what the command of a request does at the slice that it
reaches. -/

namespace Sys2Proof.Proofs

open Sys2Proof.Machine Sys2Proof.Laws

/-! ### Arrival of a request at a slice -/

/-- The twin guard lets the requests of header `m` pass: what the other twin forwards is allowed (R321). -/
def GuardPasses (u : State) (m : Hdr) : Prop :=
  m.fwd = true → ownAgent u m.src = false →
    ∀ k ∈ [1, 2, 3, 4], checkUnit u twinGuardWindow 32 ⟨0, k, 0, m.src.toNat, lineAddr m.laddr, 64⟩ false = none

/-- The kinds under which requests are checked (R326). -/
theorem reqKinds_mem {r : ReqKind} {k : Nat} (h : reqKinds r = some k) : k ∈ [1, 2, 3, 4] := by
  cases r <;> simp_all [reqKinds]

/-- Request `r` stands in the input queue of slice `x`, and is no longer outstanding at the other twin. -/
def joined (u : State) (x : Fin 32) (q : Fin 5) (r : Req) : State :=
  { u with
    pair := { u.pair with fwd := u.pair.fwd.filter (fun f => ! (f.src == r.m.src && f.rtag == r.m.rtag)) }
    dir := { u.dir with input := u.dir.input ++ [⟨x, q, r, 0⟩] } }

/-- The directory entry of line `l` at slice `x` was read with verdict `ecc` (R98, R99). -/
def entryRead (v : State) (x : Fin 32) (l : LAddr) (ecc : Ecc) : State :=
  match ecc with
  | .clean => v
  | .corrected => wr v (R.DIR_ECC_CNT x) 15 0 (satUp (rd v (R.DIR_ECC_CNT x) 15 0))
  | .uncorrectable =>
    let w := wrBit v (R.DIR_STATUS x) 17 true
    let z := wr w (R.DIR_UNCORR_CNT x) 15 0 (satUp (rd w (R.DIR_UNCORR_CNT x) 15 0))
    raiseEv { z with dir := { z.dir with badSets := z.dir.badSets ++ [setKey x (lineSet l)] } } (sliceFaultEv x)

theorem atSlice_of_passed {u : State} {r : Req} (hg : GuardPasses u r.m) (x : Fin 32) (q : Fin 5) (ecc : Ecc) :
    atSlice u x q r ecc = if homedHere u r.m.laddr then settleSlice (entryRead (joined u x q r) x r.m.laddr ecc) x
      else redirect u r := by
  unfold atSlice
  extract_lets +onlyGivenNames denied
  have hd : denied = none := by
    by_cases hf : (r.m.fwd && ! ownAgent u r.m.src) = true
    · obtain ⟨hfwd, hown⟩ : r.m.fwd = true ∧ ownAgent u r.m.src = false := by simpa using hf
      simp only [denied, if_pos hf]
      cases hk : reqKinds r.kind with
      | none => rfl
      | some k => simp only [hg hfwd hown k (reqKinds_mem hk), Option.map_none]
    · simp only [denied, if_neg hf]
  clear_value denied
  subst hd
  dsimp only
  cases homedHere u r.m.laddr with
  | false => simp only [Bool.not_false, if_true, Bool.false_eq_true, if_false]
  | true =>
    simp only [Bool.not_true, Bool.false_eq_true, if_false, if_true]
    refine congrArg (fun t => settleSlice t x) ?_
    cases ecc <;> rfl

theorem atEpoch_of_current {u : State} {r : Req} (he : r.m.epoch0 ≠ some (! epochBit u)) (x : Fin 32) (q : Fin 5) (ecc : Ecc) :
    atEpoch u x q r ecc = atSlice u x q r ecc := if_pos he

/-- The command that brings a request, under each verdict of ECC, is the common form of request commands. -/
def Brings (x : Fin 32) (q : Fin 5) (c : Ecc → Instr) (r : Req) : Prop :=
  (∀ e s, exec (c e) s = homeReq x q r e s) ∧ reqCmd x q r = c .clean

theorem exec_request {x : Fin 32} {q : Fin 5} {c : Ecc → Instr} {r : Req} (hc : Brings x q c r) {s u : State}
    (hf : s.dev.fabReset = false) (ha : Arrives s (c .clean) u) (he : r.m.epoch0 ≠ some (! epochBit u)) (hg : GuardPasses u r.m)
    (ecc : Ecc) : exec (c ecc) s = .next (if homedHere u r.m.laddr then
      settleSlice (entryRead (joined u x q r) x r.m.laddr ecc) x else redirect u r) := by
  obtain ⟨hx, hcmd⟩ := hc
  rw [hx, homeReq, onFabric_of_running hf, hcmd, receive_of_arrives ha, atEpoch_of_current he, atSlice_of_passed hg]

/-- The request commands with the requests that they bring (R101). -/
def requestCommands (x : Fin 32) (q : Fin 5) (m : Hdr) (a : AtomicOp) : List ((Ecc → Instr) × Req) :=
  [((fun e => Instr.rdshared x q m e), ({ kind := .rdShared, m := m } : Req)),
    (fun e => .rdown x q m e, { kind := .rdOwn, m := m }), (fun e => .upgrade x q m e, { kind := .upgrade, m := m }),
    (fun e => .rdcur x q m e, { kind := .rdCur, m := m }), (fun e => .wrline x q m e, { kind := .wrLine, m := m }),
    (fun e => .wrpart x q m e, { kind := .wrPart, m := m }), (fun e => .wbdirty x q m e, { kind := .wbDirty, m := m }),
    (fun e => .evict x q m e, { kind := .evict, m := m }),
    (fun e => .atomicfar x q m a e, { kind := .atomicFar, m := m, a := a })]

theorem brings_of_mem {x : Fin 32} {q : Fin 5} {m : Hdr} {a : AtomicOp} {c : Ecc → Instr} {r : Req}
    (h : (c, r) ∈ requestCommands x q m a) : Brings x q c r ∧ r.m = m := by
  have hx : Fin.ofNat 32 x.val = x := Fin.ofNat_val_eq_self x
  simp only [requestCommands, List.mem_cons, Prod.mk.injEq, List.not_mem_nil, or_false] at h
  rcases h with ⟨rfl, rfl⟩ | ⟨rfl, rfl⟩ | ⟨rfl, rfl⟩ | ⟨rfl, rfl⟩ | ⟨rfl, rfl⟩ | ⟨rfl, rfl⟩ | ⟨rfl, rfl⟩ | ⟨rfl, rfl⟩ | ⟨rfl, rfl⟩ <;>
    exact ⟨⟨fun _ _ => rfl, by simp only [reqCmd, hx]⟩, rfl⟩

/-- Settles O27: every request command is of the one common form, which joins the slice's queue or passes the request on. -/
theorem homeRequestsJoinTheirSlice : Obligations.HomeRequestsJoinTheirSlice := by
  intro x q m a s u v hf he hg hv
  have request {c : Ecc → Instr} {r : Req} (hm : (c, r) ∈ requestCommands x q m a) (ha : Arrives s (c .clean) u) (ecc : Ecc) :
      exec (c ecc) s = .next (if homedHere u m.laddr then settleSlice (entryRead (v r) x m.laddr ecc) x else redirect u r) := by
    obtain ⟨hb, rfl⟩ := brings_of_mem hm
    rw [exec_request hb hf ha he hg, hv]
    rfl
  refine ⟨fun hh => ?joins, fun c r hm ha => ⟨fun hh => ⟨?corrected, fun w hw => ?uncorrectable⟩, fun hh e => ?elsewhere⟩⟩
  case joins =>
    have clean : ∀ k ∈ requestCommands x q m a, Arrives s (k.1 .clean) u → exec (k.1 .clean) s = .next (settleSlice (v k.2) x) :=
      fun k hk ha => by
        rw [request hk ha, if_pos hh]
        rfl
    simpa only [requestCommands, List.forall_mem_cons, List.not_mem_nil, false_implies, implies_true, and_true] using clean
  case corrected => rw [request hm ha, if_pos hh]; rfl
  case uncorrectable => subst hw; rw [request hm ha, if_pos hh]; rfl
  case elsewhere => rw [request hm ha, if_neg (by simp [hh])]

end Sys2Proof.Proofs
end

section
/-! SUPPORT. Requests of a host at its port cell, of 02_memory_pools: the checks of R54 in their order, and what follows each. -/

namespace Sys2Proof.Proofs

open Sys2Proof.Machine Sys2Proof.Laws

/-- The cell takes the data of a host's write, if it has any (R252). -/
def hostArrival (s : State) (p : Nat) (h : HostCmd) : State :=
  if h.data.isSome then advertise (takeMin (unback s p (homedClass s) 1) (portRegion p) (portIdx p) (homedClass s) 1) p (homedClass s)
  else s

/-- What a host's request does at port `p` in the epoch in force. -/
def hostGives (s : State) (p : Nat) (c : Instr) : State :=
  (hostCmd c).elim s (fun h => hostRun (hostArrival s p h) c (epochBit s) false)

section
variable {s : State} {p : Nat} (hf : s.dev.fabReset = false) (hu : hostUp s p = true)
include hf hu

theorem hostReq_eq_gives {c : Instr} {h : HostCmd} (hc : hostCmd c = some h) (hd : h.data = none) :
    hostReq s p c = hostGives s p c := by
  simp [hostReq, onFabric_of_running hf, hu, hostGives, hc, hostArrival, hd]

theorem hostWrite_eq_gives {c : Instr} {h : HostCmd} (hc : hostCmd c = some h) (hd : h.data.isSome = true) :
    hostWrite s p c = hostGives s p c := by
  simp [hostWrite, onFabric_of_running hf, hu, hostGives, hc, hostArrival, hd]

end

/-- A request that passes the checks as its cell keeps it, with no tag yet. -/
def hostRequest (b : SMap Word) (h : HostCmd) : HostReq :=
  { port := h.port, rtag := 0, hostTag := h.tag, job := none, kind := h.kind, line := addrLine h.addr
    direct := ! (segMode b (segOf h.addr) == 1), data := h.data, cell := h.data.map (fun _ => false), cls := homedIn b
    captured := false, checked := true, ended := false, grant := none, got := none }

/-- A request that may reach its segment is not refused under step 2 of R54. -/
theorem not_refused_of_reach {s : State} {b : SMap Word} {h : HostCmd}
    (hr : portReach b h.port h.addr = true ∨ lateWrite s b h = true) :
    ¬ (! portReach b h.port h.addr && ! lateWrite s b h) = true := by
  rcases hr with hr | hr <;> simp [hr]

section
variable {s : State} {c : Instr} {h : HostCmd} {e err : Bool} {b : SMap Word}
variable (hc : hostCmd c = some h) (hb : b = bankFor s (some e))
include hc hb

theorem hostRun_of_unreached (hr : portReach b h.port h.addr = false) (hl : lateWrite s b h = false) :
    hostRun s c e err = refuseUnbound s h (homedIn b) := by
  subst hb
  unfold hostRun
  rw [hc]
  dsimp only
  rw [if_pos (by simp [hr, hl])]

variable (hr : portReach b h.port h.addr = true ∨ lateWrite s b h = true)
include hr

theorem hostRun_of_no_backInvalidation (hm : segMode b (segOf h.addr) = 1) (hbi : biOn s h.port = false) :
    hostRun s c e err = raiseEv (refuseUnbound s h (homedIn b)) (linkEv (h.port / 4)) := by
  subst hb
  unfold hostRun
  rw [hc]
  dsimp only
  rw [if_neg (not_refused_of_reach hr), if_pos (by simp [hm, hbi])]

/-- After step 4 a request is completed as a hint, kept for a snoop's DataGo, sent under a free tag, or left waiting for one. -/
theorem hostRun_of_pass {t : State} (hbi : segMode b (segOf h.addr) = 1 → biOn s h.port = true)
    (hv : hostVerdict s h e err = .pass t) (hk : keptWrite s h = none) :
    hostRun s c e err =
      if ! (segMode b (segOf h.addr) == 1) && h.kind == .upgrade then s2m t h.port h.tag .cmpE
      else if ! (segMode b (segOf h.addr) == 1) && h.kind == .evict then s2m t h.port h.tag .cmp
      else if h.data.isSome && segMode b (segOf h.addr) == 1 && snoopOpen t h.port (addrLine h.addr) then
        addReq t { hostRequest b h with rtag := captureTag t h.port (addrLine h.addr), captured := true }
      else (freeHostTag t h.port).elim (withHp t { t.hp with waiting := t.hp.waiting ++ [⟨c, e⟩] })
        (fun g => startHost t { hostRequest b h with rtag := g } ⟨0, false, 0, 0, 0⟩ e) := by
  subst hb
  have hbi' : ¬ (segMode (bankFor s (some e)) (segOf h.addr) == 1 && ! biOn s h.port) = true := by
    simpa using hbi
  unfold hostRun
  rw [hc]
  dsimp only
  rw [if_neg (not_refused_of_reach hr), if_neg hbi', hv]
  dsimp only
  rw [hk]
  dsimp only
  cases freeHostTag t h.port <;> rfl

end

/-- The commands of a host that are requests name the port that they came by. -/
theorem hostCmd_port {p : Fin 128} {mv : MetaVal} {nt : Bool} {addr : BitVec 64} {tag : BitVec 16} {d : LineData} {mask : BitVec 64}
    {x : Bool} {c : Instr} {h : HostCmd}
    (hc : c = .m2sMemrd p mv addr tag ∨ c = .m2sMemrddata p addr tag ∨ c = .m2sMeminv p nt .A addr tag ∨
      c = .m2sMemclnevct p addr tag ∨ c = .m2sMemwr p addr tag d x ∨ c = .m2sMemwrptl p addr tag d mask x)
    (hh : hostCmd c = some h) : h.port = p := by
  rcases hc with rfl | rfl | rfl | rfl | rfl | rfl <;> exact (Option.some.inj hh) ▸ rfl

/-- Settles O20: each request command runs its request at the cell, and the branch of `hostRun` is that of the first check of R54
that decides. -/
theorem hostRequests : Obligations.HostRequests := by
  intro p mv nt addr tag d mask x s hf hu
  refine ⟨⟨hostGives s p, congrArg _ (hostReq_eq_gives hf hu rfl rfl), congrArg _ (hostReq_eq_gives hf hu rfl rfl),
    congrArg _ (hostReq_eq_gives hf hu rfl rfl), congrArg _ (hostReq_eq_gives hf hu rfl rfl),
    congrArg _ (hostWrite_eq_gives hf hu rfl rfl), congrArg _ (hostWrite_eq_gives hf hu rfl rfl),
    fun c h u t b hcs hc hu' hb => ?runs⟩, rfl, fun hmv => ?inv⟩
  case runs =>
    have hrun : hostGives s p c = hostRun u c (epochBit s) false := by
      rw [hostGives, hc, hu']
      rfl
    rw [hrun, ← hostCmd_port hcs hc]
    refine ⟨hostRun_of_unreached hc hb, fun hr => ⟨hostRun_of_no_backInvalidation hc hb hr, fun hbi hv hk => ?_⟩⟩
    rw [hostRun_of_pass hc hb hr hbi hv hk]
    refine ⟨fun hm hkind => ?upgrade, fun hm hkind => ?evict, fun hkind hsnoop => ?sent⟩
    case upgrade => rw [if_pos (by simp [hm, hkind])]
    case evict => rw [if_neg (by simp [hkind]), if_pos (by simp [hm, hkind])]
    case sent =>
      have hup (hm : segMode b (segOf h.addr) ≠ 1) : h.kind ≠ .upgrade := (hkind.resolve_left hm).1
      have hev (hm : segMode b (segOf h.addr) ≠ 1) : h.kind ≠ .evict := (hkind.resolve_left hm).2
      rw [if_neg (by simpa using hup), if_neg (by simpa using hev), if_neg (by simpa using hsnoop)]
      exact ⟨fun g hg => by rw [hg]; rfl, fun hg => by rw [hg]; rfl⟩
  case inv =>
    cases mv with
    | A => exact absurd rfl hmv
    | S | I => exact congrArg Host.Outcome.next ((onFabric_of_running hf _).trans (if_pos hu))

end Sys2Proof.Proofs
end

section
/-! SUPPORT. What the home decides for a request, of 03_coherence_directory: the agents that an entry names, the plan of each
kind of request, and what the input stage of a slice does with a request. -/

namespace Sys2Proof.Proofs

open Sys2Proof.Machine Sys2Proof.Laws

/-! ### Entries -/

theorem ptrs_length_le (e : Entry) : (ptrs e).length ≤ 3 := List.length_filter_le _ _

theorem ne_none_of_mem_ptrs {e : Entry} {a : Agent} (h : a ∈ ptrs e) : a ≠ 0x3FF := bne_iff_ne.1 (List.mem_filter.1 h).2

/-- An entry names the agents that were put into it. -/
theorem ptrs_withPtrs (e : Entry) {l : List Agent} (hl : l.length ≤ 3) (hn : ∀ a ∈ l, a ≠ 0x3FF) : ptrs (withPtrs e l) = l := by
  match l with
  | [] => rfl
  | [_] | [_, _] | [_, _, _] => simp_all [ptrs, withPtrs]
  | _ :: _ :: _ :: _ :: _ => exact absurd hl (by simp)

theorem ptrs_sharedBy (e : Entry) {l : List Agent} (hl : l.length ≤ 3) (hn : ∀ a ∈ l, a ≠ 0x3FF) : ptrs (sharedBy e l) = l := by
  unfold sharedBy
  split
  · next h => exact h ▸ rfl
  · exact ptrs_withPtrs _ hl hn

section
variable (e : Entry) {a b : Agent} (ha : a ≠ 0x3FF)
include ha

theorem ptrs_sharedBy_single : ptrs (sharedBy e [a]) = [a] := ptrs_sharedBy e (by simp) (by simpa using ha)

theorem ptrs_sharedBy_pair (hb : b ≠ 0x3FF) : ptrs (sharedBy e [b, a]) = [b, a] :=
  ptrs_sharedBy e (by simp) (by simpa using ⟨hb, ha⟩)

/-- An agent joins the sharers where one of the three pointers is free. -/
theorem ptrs_sharedBy_concat (hl : (ptrs e).length < 3) : ptrs (sharedBy e (ptrs e ++ [a])) = ptrs e ++ [a] := by
  refine ptrs_sharedBy e (by simp; omega) fun b hb => ?_
  rcases List.mem_append.1 hb with hb | hb
  · exact ne_none_of_mem_ptrs hb
  · exact List.mem_singleton.1 hb ▸ ha

end

/-- The sharers that are left of an entry are named. -/
theorem ptrs_sharedBy_filter (e : Entry) (p : Agent → Bool) : ptrs (sharedBy e ((ptrs e).filter p)) = (ptrs e).filter p :=
  ptrs_sharedBy e ((List.length_filter_le ..).trans (ptrs_length_le e)) fun _ h => ne_none_of_mem_ptrs (List.mem_of_mem_filter h)

theorem sharedBy_st (e : Entry) {l : List Agent} (h : l ≠ []) : (sharedBy e l).st = .shared := by
  rw [sharedBy, if_neg h]
  rfl

theorem sharedBy_ovf (e : Entry) (l : List Agent) : (sharedBy e l).ovf = false := by
  unfold sharedBy
  split <;> rfl

/-! ### Plans that take the line from every other agent -/

section
variable (e : Entry) (a : Agent) (self : Bool) (p : Plan)

@[simp] theorem planTake_done : (planTake e a self p).done = p.done := by unfold planTake; cases e.st <;> cases e.ovf <;> rfl
@[simp] theorem planTake_alloc : (planTake e a self p).alloc = p.alloc := by unfold planTake; cases e.st <;> cases e.ovf <;> rfl
@[simp] theorem planTake_down : (planTake e a self p).down = p.down := by unfold planTake; cases e.st <;> cases e.ovf <;> rfl
@[simp] theorem planTake_next : (planTake e a self p).next = p.next := by unfold planTake; cases e.st <;> cases e.ovf <;> rfl

variable {e p}

theorem planTake_bcast (hb : p.bcast = false) : (planTake e a self p).bcast = true ↔ e.st = .shared ∧ e.ovf = true := by
  unfold planTake
  cases e.st <;> cases e.ovf <;> simp [hb]

theorem planTake_snoop_shared (hs : e.st = .shared) (ho : e.ovf = false) :
    (planTake e a self p).snoop = (ptrs e).filter (fun b => self || b != a) := by
  simp [planTake, hs, ho]

theorem planTake_snoop_owned (hs : e.st = .owned) : (planTake e a self p).snoop = [e.p0].filter (fun b => self || b != a) := by
  simp [planTake, hs]

end

/-- Whom a request snoops that takes the line from every other agent than the requester `a` (R108, R115). -/
def TakesFromOthers (e : Entry) (a : Agent) (p : Plan) : Prop :=
  (p.bcast = true ↔ e.st = .shared ∧ e.ovf = true) ∧ (e.st = .shared → e.ovf = false → p.snoop = (ptrs e).filter (· != a)) ∧
    (e.st = .owned → e.p0 ≠ a → p.snoop = [e.p0]) ∧ (e.st = .owned → e.p0 = a → p.snoop = [])

theorem planTake_takesFromOthers (e : Entry) (a : Agent) {p : Plan} (hb : p.bcast = false) :
    TakesFromOthers e a (planTake e a false p) :=
  ⟨planTake_bcast a false hb, planTake_snoop_shared a false, fun hs h0 => by simp [planTake_snoop_owned a false hs, h0],
    fun hs h0 => by simp [planTake_snoop_owned a false hs, h0]⟩

/-! ### RdOwn and Upgrade -/

/-- The entry names `a`'s copy among the sharers: an Upgrade of `a` needs no data (R108). -/
def NamesCopy (e : Entry) (a : Agent) : Prop := e.st = .shared ∧ e.ovf = false ∧ (ptrs e).contains a = true

/-- The requester `a` becomes the owner, in a new way where the line has none. -/
def MakesOwner (e : Entry) (a : Agent) (p : Plan) : Prop :=
  p.next.st = .owned ∧ p.next.p0 = a ∧ p.down = false ∧ (p.alloc = true ↔ e.st = .free)

section
variable (e : Entry) (a : Agent)

theorem planRdOwn_done : (planRdOwn e a).done = .cmpO := planTake_done ..

theorem planRdOwn_makesOwner : MakesOwner e a (planRdOwn e a) := by
  unfold MakesOwner planRdOwn
  rw [planTake_next, planTake_down, planTake_alloc]
  exact ⟨rfl, rfl, rfl, beq_iff_eq⟩

theorem planUpgrade_makesOwner : MakesOwner e a (planUpgrade e a) := by
  unfold planUpgrade
  split <;> exact planRdOwn_makesOwner e a

theorem planRdOwn_takesFromOthers : TakesFromOthers e a (planRdOwn e a) := planTake_takesFromOthers e a rfl

theorem planUpgrade_takesFromOthers : TakesFromOthers e a (planUpgrade e a) := by
  unfold planUpgrade
  split <;> exact planRdOwn_takesFromOthers e a

variable {e a}

theorem planUpgrade_done_of_copy (h : NamesCopy e a) : (planUpgrade e a).done = .cmpONoData := congrArg Plan.done (if_pos h)

theorem planUpgrade_done_of_no_copy (h : ¬ NamesCopy e a) : (planUpgrade e a).done = .cmpO :=
  (congrArg Plan.done (if_neg h)).trans (planRdOwn_done e a)

theorem planUpgrade_done_iff : (planUpgrade e a).done = .cmpONoData ↔ NamesCopy e a := by
  refine ⟨fun h => ?_, planUpgrade_done_of_copy⟩
  by_contra hn
  simp [planUpgrade_done_of_no_copy hn] at h

end

/-! ### RdShared -/

section
variable (e : Entry) (a : Agent)

theorem planRdShared_done : (planRdShared e a).done = .cmpS := by
  unfold planRdShared
  repeat' split
  all_goals rfl

theorem planRdShared_bcast : (planRdShared e a).bcast = false := by
  unfold planRdShared
  repeat' split
  all_goals rfl

theorem planRdShared_alloc : (planRdShared e a).alloc = true ↔ e.st = .free := by
  unfold planRdShared
  cases e.st with
  | free => simp
  | shared =>
    dsimp only
    repeat' split
    all_goals simp
  | owned =>
    dsimp only
    split <;> simp

variable {e a}

theorem planRdShared_free (hs : e.st = .free) :
    planRdShared e a = { alloc := true, next := sharedBy e [a], done := .cmpS } := by
  simp only [planRdShared, hs]

theorem planRdShared_named (hs : e.st = .shared) (h : e.ovf = true ∨ (ptrs e).contains a = true) :
    planRdShared e a = { next := e, done := .cmpS } := by
  unfold planRdShared
  rw [hs]
  rcases h with h | h <;> simp only [h, if_true, ite_self]

theorem planRdShared_room (hs : e.st = .shared) (ho : e.ovf = false) (hn : (ptrs e).contains a = false)
    (hl : (ptrs e).length < 3) : planRdShared e a = { next := sharedBy e (ptrs e ++ [a]), done := .cmpS } := by
  simp only [planRdShared, hs, ho, hn, hl, Bool.false_eq_true, if_false, if_true]

theorem planRdShared_full (hs : e.st = .shared) (ho : e.ovf = false) (hn : (ptrs e).contains a = false)
    (hl : (ptrs e).length = 3) : planRdShared e a = { next := overflown e, done := .cmpS } := by
  simp only [planRdShared, hs, ho, hn, hl, Nat.lt_irrefl, Bool.false_eq_true, if_false]

theorem planRdShared_owned (hs : e.st = .owned) (h : e.p0 ≠ a) :
    planRdShared e a = { snoop := [e.p0], down := true, next := sharedBy e [e.p0, a], done := .cmpS } := by
  simp only [planRdShared, hs, h, if_false]

theorem planRdShared_own (hs : e.st = .owned) (h : e.p0 = a) :
    planRdShared e a = { next := sharedBy e [a], done := .cmpS } := by
  simp only [planRdShared, hs, h, if_true]

/-- A RdShared snoops nobody at a line that has no owner. -/
theorem planRdShared_snoop_shared (hs : e.st = .shared) : (planRdShared e a).snoop = [] := by
  unfold planRdShared
  rw [hs]
  dsimp only
  repeat' split
  all_goals rfl

theorem planRdShared_next_st (e : Entry) (a : Agent) : (planRdShared e a).next.st = .shared := by
  unfold planRdShared
  cases hs : e.st with
  | free => exact sharedBy_st e (by simp)
  | shared =>
    dsimp only
    repeat' split
    · exact hs
    · exact hs
    · exact sharedBy_st e (by simp)
    · rfl
  | owned =>
    dsimp only
    split <;> exact sharedBy_st e (by simp)

end

/-! ### RdCur, writes, Evict and the far path -/

section
variable {e : Entry} {a : Agent}

theorem planRdCur_of_owner (h : e.st = .owned ∧ e.p0 ≠ a) :
    planRdCur e a = { snoop := [e.p0], down := true, next := sharedBy e [e.p0], done := .cmpRead } := if_pos h

theorem planRdCur_of_no_owner (h : ¬ (e.st = .owned ∧ e.p0 ≠ a)) : planRdCur e a = { next := e, done := .cmpRead } := if_neg h

theorem planWrite_takesFromOthers (e : Entry) (a : Agent) : TakesFromOthers e a (planWrite e a) :=
  planTake_takesFromOthers e a rfl

/-- What an Evict of `a` leaves in the entry. -/
def evictLeaves (e : Entry) (a : Agent) : Entry :=
  match e.st with
  | .shared => if e.ovf then e else sharedBy e ((ptrs e).filter (· != a))
  | .owned => if e.p0 = a then freed e else e
  | .free => e

theorem planEvict_eq (e : Entry) (a : Agent) : planEvict e a = { next := evictLeaves e a, done := .cmpEvict } := by
  unfold planEvict evictLeaves
  cases e.st <;> cases e.ovf <;> rfl

theorem evictLeaves_owner (hs : e.st = .owned) (h : e.p0 = a) : (evictLeaves e a).st = .free := by
  simp only [evictLeaves, hs, h, if_true]
  rfl

theorem evictLeaves_other_owner (hs : e.st = .owned) (h : e.p0 ≠ a) : evictLeaves e a = e := by
  simp only [evictLeaves, hs, h, if_false]

theorem evictLeaves_overflown (hs : e.st = .shared) (h : e.ovf = true) : evictLeaves e a = e := by
  simp only [evictLeaves, hs, h, if_true]

theorem evictLeaves_sharers (hs : e.st = .shared) (h : e.ovf = false) :
    evictLeaves e a = sharedBy e ((ptrs e).filter (· != a)) := by
  simp only [evictLeaves, hs, h, Bool.false_eq_true, if_false]

end

/-! ### The plan of each kind of request -/

section
variable {r : Req} (e : Entry) (far : Bool)

theorem planFor_rdShared (h : r.kind = .rdShared) : planFor e r far = planRdShared e r.m.src := by simp only [planFor, h]
theorem planFor_rdOwn (h : r.kind = .rdOwn) : planFor e r far = planRdOwn e r.m.src := by simp only [planFor, h]
theorem planFor_upgrade (h : r.kind = .upgrade) : planFor e r far = planUpgrade e r.m.src := by simp only [planFor, h]
theorem planFor_rdCur (h : r.kind = .rdCur) : planFor e r far = planRdCur e r.m.src := by simp only [planFor, h]
theorem planFor_evict (h : r.kind = .evict) : planFor e r far = planEvict e r.m.src := by simp only [planFor, h]
theorem planFor_write (h : r.kind = .wrLine ∨ r.kind = .wrPart ∨ r.kind = .wbDirty) : planFor e r far = planWrite e r.m.src := by
  rcases h with h | h | h <;> simp only [planFor, h]
theorem planFor_far (h : r.kind = .atomicFar) : planFor e r true = planFar e r.m.src := by simp only [planFor, h, if_true]
theorem planFor_near (h : r.kind = .atomicFar) : planFor e r false = planUpgrade e r.m.src := by
  simp only [planFor, h, Bool.false_eq_true, if_false]

end

/-- Settles O26: each kind of request has its own plan, and RdOwn, Upgrade and the writes, which take the line from every other
agent, share the choice of whom they snoop. -/
theorem homeDecisions : Obligations.HomeDecisions := by
  rintro e r far p rfl ha ho
  refine ⟨fun hk => ?rdShared, fun hk => ?owns, fun hk => ?rdCur, fun hk => ?writes, fun hk => ?takes, fun hk => ?evict,
    fun hk hfar => ?farPath, fun hk hfar => ?nearPath⟩
  case rdShared =>
    rw [planFor_rdShared e far hk]
    refine ⟨planRdShared_done .., planRdShared_bcast .., planRdShared_alloc .., planRdShared_next_st .., fun hs => ?free,
      fun hs => ⟨planRdShared_snoop_shared hs, fun h => ?named, fun hv hn hl => ?room, fun hv hn hl => ?full⟩,
      fun hs h => ?owned, fun hs h => ?own⟩
    case free => rw [planRdShared_free hs]; exact ⟨rfl, ptrs_sharedBy_single e ha⟩
    case named => rw [planRdShared_named hs h]
    case room => rw [planRdShared_room hs hv hn hl]; exact ⟨sharedBy_ovf .., ptrs_sharedBy_concat e ha hl⟩
    case full => rw [planRdShared_full hs hv hn hl]; rfl
    case owned => rw [planRdShared_owned hs h]; exact ⟨rfl, rfl, ptrs_sharedBy_pair e ha (ho hs)⟩
    case own => rw [planRdShared_own hs h]; exact ⟨rfl, ptrs_sharedBy_single e ha⟩
  case owns =>
    rcases hk with hk | hk
    · rw [planFor_rdOwn e far hk]
      obtain ⟨hst, hp0, hdown, halloc⟩ := planRdOwn_makesOwner e r.m.src
      exact ⟨hst, hp0, hdown, halloc, by simp [planRdOwn_done, hk], fun _ => planRdOwn_done ..⟩
    · rw [planFor_upgrade e far hk]
      obtain ⟨hst, hp0, hdown, halloc⟩ := planUpgrade_makesOwner e r.m.src
      exact ⟨hst, hp0, hdown, halloc, planUpgrade_done_iff.trans (by simp [NamesCopy, hk]),
        fun h => planUpgrade_done_of_no_copy (mt planUpgrade_done_iff.2 h)⟩
  case rdCur =>
    rw [planFor_rdCur e far hk]
    by_cases h : e.st = .owned ∧ e.p0 ≠ r.m.src
    · rw [planRdCur_of_owner h]
      exact ⟨rfl, rfl, rfl, fun ⟨hs, _⟩ => ⟨rfl, rfl, sharedBy_st e (by simp), ptrs_sharedBy_single e (ho hs)⟩,
        fun hn => absurd h hn⟩
    · rw [planRdCur_of_no_owner h]
      exact ⟨rfl, rfl, rfl, fun hn => absurd hn h, fun _ => ⟨rfl, rfl⟩⟩
  case writes =>
    rw [planFor_write e far hk, planWrite, planTake_done, planTake_alloc, planTake_down, planTake_next]
    exact ⟨rfl, rfl, rfl, rfl⟩
  case takes =>
    show TakesFromOthers e r.m.src (planFor e r far)
    rcases hk with hk | hk | hk
    · exact planFor_rdOwn e far hk ▸ planRdOwn_takesFromOthers ..
    · exact planFor_upgrade e far hk ▸ planUpgrade_takesFromOthers ..
    · exact planFor_write e far hk ▸ planWrite_takesFromOthers ..
  case evict =>
    rw [planFor_evict e far hk, planEvict_eq]
    refine ⟨rfl, rfl, rfl, rfl, evictLeaves_owner, evictLeaves_other_owner, evictLeaves_overflown, fun hs hv hn => ?_,
      fun hs hv hn => ?_⟩
    · rw [evictLeaves_sharers hs hv, hn]
      rfl
    · rw [evictLeaves_sharers hs hv]
      exact ⟨sharedBy_st e hn, ptrs_sharedBy_filter ..⟩
  case farPath =>
    subst hfar
    rw [planFor_far e hk, planFar, planTake_done, planTake_alloc, planTake_next]
    refine ⟨rfl, rfl, rfl, planTake_bcast _ _ rfl, fun hs => ?_, fun hs hv => ?_⟩
    · simp [planTake_snoop_owned _ _ hs]
    · simp [planTake_snoop_shared _ _ hs hv]
  case nearPath =>
    subst hfar
    rw [planFor_near e hk, planFor_upgrade e false rfl]

/-! ### The input stage -/

section
variable {s : State} {x : Nat} {r : Req}

theorem acceptReq_of_lost (h : isLost s x r.m.src = true) : acceptReq s x r = some (sendErr s x 0 r 3) := if_pos h

variable (hl : isLost s x r.m.src = false)
include hl

theorem acceptReq_of_setWaits (h : setWaits s x r.m.laddr = true) : acceptReq s x r = none := by
  unfold acceptReq
  simp only [hl, h, Bool.false_eq_true, if_false, if_true]

variable (hs : setWaits s x r.m.laddr = false)
include hs

theorem acceptReq_of_taken {t : Nat} {k : Tracker} (h : takenBy s x r = some (t, k)) :
    acceptReq s x r = some (takeWrite s x t k r) := by
  unfold acceptReq
  simp only [hl, hs, h, Bool.false_eq_true, if_false]

variable (ht : takenBy s x r = none)
include ht

theorem acceptReq_of_lineWaits (h : lineWaits s x r.m.laddr = true) : acceptReq s x r = none := by
  unfold acceptReq
  simp only [hl, hs, ht, h, Bool.false_eq_true, if_false, if_true]

variable (hw : lineWaits s x r.m.laddr = false)
include hw

theorem acceptReq_of_blocked {t : Nat} (h : blockedBy s x r.m.laddr = some t) :
    acceptReq s x r = joinWaits s x r .joins := by
  unfold acceptReq
  simp only [hl, hs, ht, hw, h, Option.isSome_some, Bool.false_eq_true, if_false, if_true]

variable (hb : blockedBy s x r.m.laddr = none)
include hb

theorem acceptReq_of_behind (h : setHeld s x (lineSet r.m.laddr) = true ∨ waitersOf s x r.m.laddr ≠ []) :
    acceptReq s x r = joinWaits s x r (foundAt (lookup s x r.m.laddr).2 r.m.src) := by
  unfold acceptReq
  simp only [hl, hs, ht, hw, hb, Option.isSome_none, Bool.false_eq_true, if_false]
  rw [if_pos (by simpa using h)]

theorem acceptReq_of_free {t : Nat} (hh : setHeld s x (lineSet r.m.laddr) = false) (hn : waitersOf s x r.m.laddr = [])
    (hf : freeTrk s x r.m.laddr = some t) (hr : toRecover s x r.m.laddr = false) :
    acceptReq s x r = startReq s x t r true := by
  unfold acceptReq
  simp [hl, hs, ht, hw, hb, hh, hn, hf, hr]

end

/-- The transaction that takes a request is one that snoops the request's agent for the line (R107). -/
theorem takenBy_eq_some {s : State} {x t : Nat} {r : Req} {k : Tracker} (h : takenBy s x r = some (t, k)) :
    (t, k) ∈ trksOf s x ∧ k.line = r.m.laddr ∧ isWrite r.kind = true ∧ k.phase = .snoop ∧ snoops s x k r.m.src = true := by
  have hp := List.find?_some h
  simp only [Bool.and_eq_true, beq_iff_eq] at hp
  obtain ⟨⟨⟨hline, hwr⟩, hph⟩, hsn⟩ := hp
  exact ⟨List.mem_of_find?_eq_some h, hline, hwr, hph, hsn⟩

/-- A request whose plan needs no way runs at once (R108). -/
theorem startReq_of_no_alloc {s : State} {x t : Nat} {r : Req} {p : Plan}
    (hp : p = planFor (lookup s x r.m.laddr).2 r (farPath s x r (predNext s x (predOf s x r.m.laddr)
      (foundAt (lookup s x r.m.laddr).2 r.m.src)))) (ha : p.alloc = false) :
    startReq s x t r true = some (runPlan
      (perfHit (predUpdate s x r (foundAt (lookup s x r.m.laddr).2 r.m.src)) (x / 2) 0x0C (x % 2) 1 1) x t r p
      (lookup s x r.m.laddr).1 (lookup s x r.m.laddr).2) := by
  subst hp
  unfold startReq
  simp only [if_true]
  rw [if_neg (by simp [ha])]

/-- Settles O28: the branches of `acceptReq` in their order, each after the conditions of those before it do not hold. -/
theorem sliceTakesRequest : Obligations.SliceTakesRequest := by
  intro x r s
  refine ⟨acceptReq_of_lost, fun hl => ⟨acceptReq_of_setWaits hl, fun hs => ⟨fun t k ht => ?taken,
    fun ht => ⟨acceptReq_of_lineWaits hl hs ht, fun hw => ⟨fun t hb => ?joins, fun hb => ?behind,
      fun t hb hh hn hf hr p hp ha => ?opens⟩⟩⟩⟩⟩
  case taken => exact ⟨acceptReq_of_taken hl hs ht, takenBy_eq_some ht⟩
  case joins => exact acceptReq_of_blocked hl hs ht hw hb
  case behind => exact acceptReq_of_behind hl hs ht hw hb
  case opens => exact (acceptReq_of_free hl hs ht hw hb hh hn hf hr).trans (startReq_of_no_alloc hp ha)

end Sys2Proof.Proofs
end

section
/-! SUPPORT. Messages that reach an agent, a region or a home, of 03_coherence_directory: answers to host ports and coaches,
broadcasts, the answers to snoops at the home, and what a host answers. -/

namespace Sys2Proof.Proofs

open Sys2Proof.Machine Sys2Proof.Laws

/-- A message command does what its continuation does in the state in which its unit acts. -/
theorem exec_of_arrives {s u : State} {c : Instr} {k : State → State} (hc : exec c s = .next (onFabric s (receive s c k)))
    (hf : s.dev.fabReset = false) (ha : Arrives s c u) : exec c s = .next (k u) := by
  rw [hc, onFabric_of_running hf, receive_of_arrives ha]

/-! ### Answers to agents -/

theorem twinAnswer_of_ownHome {s : State} {m : Hdr} (h : m.htwin = s.dev.pid) (ends : Bool) : twinAnswer s m ends = s := if_pos h

section
variable {s : State} {m : Hdr} (f g : State → Nat → State) (hown : ownAgent s m.tgt = true)
include hown

theorem toHostOrCoach_host (hlt : localAgent m.tgt < 128) : toHostOrCoach s m f g = f s (localAgent m.tgt) := by
  simp [toHostOrCoach, hown, hlt]

theorem toHostOrCoach_coach (hge : 128 ≤ localAgent m.tgt) (hc : isCoach m.tgt = true) :
    toHostOrCoach s m f g = g s (coachNo m.tgt) := by
  simp [toHostOrCoach, hown, Nat.not_lt.2 hge, hc]

end

/-- The reservation for the data that DataGo `m` asks for is released. -/
def dataAsked (u : State) (m : Hdr) : State := unreserve u (.dirty m.tgt (homeTxn m))

section
variable {s u : State} {m : Hdr} {d : LineData} {res : AtomicRes} (hf : s.dev.fabReset = false)
include hf

theorem exec_fill_to_home (ht : m.tgt = 0x3FF) (ha : Arrives s (.fill m d) u) :
    exec (.fill m d) s = .next (homeFill u m d) := by
  rw [exec_of_arrives rfl hf ha, if_pos ht]

theorem exec_memcmp_to_home (hh : m.htwin = u.dev.pid) (ht : m.tgt = 0x3FF) (ha : Arrives s (.memcmp m) u) :
    exec (.memcmp m) s = .next (homeMemcmp u m) := by
  rw [exec_of_arrives rfl hf ha, if_pos ht, if_pos (by simp [forThisHome, hh])]

theorem exec_datago_to_devicePort (ht : m.tgt = 0x3FF) (ha : Arrives s (.datago m) u) :
    exec (.datago m) s = .next (dpWrite (dataAsked u m) m.dport m.laddr m 0 fullMask true) := by
  rw [exec_of_arrives rfl hf ha, if_pos ht]
  rfl

theorem exec_cmp_of_atomic (hd : m.ddat = true) (ha : Arrives s (.cmp m res) u) :
    exec (.cmp m res) s = .next (settleAll (toHostOrCoach u m (fun v p => hostDirect v p m (.old res.old (m.status != 0)))
      (fun v k => coachDirect v k m res))) := by
  rw [exec_of_arrives rfl hf ha, if_pos hd]

theorem exec_backinv_to_agent (ha : Arrives s (.backinv m) u) : exec (.backinv m) s = .next (toHostOrCoach u m
    (fun v p => hostSnoop v p m false false) (fun v k => coachSnoop v k m false false)) := by
  rw [exec_of_arrives rfl hf ha, snoopAgent]

theorem exec_backdown_to_agent (ha : Arrives s (.backdown m) u) : exec (.backdown m) s = .next (toHostOrCoach u m
    (fun v p => hostSnoop v p m true false) (fun v k => coachSnoop v k m true false)) := by
  rw [exec_of_arrives rfl hf ha, snoopAgent]

section
variable (ht : m.tgt ≠ 0x3FF)
include ht

theorem exec_fill_to_agent (ha : Arrives s (.fill m d) u) : exec (.fill m d) s =
    .next (settleAll (toHostOrCoach u m (fun v _ => v) (fun v k => coachData v k m d))) := by
  rw [exec_of_arrives rfl hf ha, if_neg ht]

theorem exec_memcmp_to_agent (ha : Arrives s (.memcmp m) u) : exec (.memcmp m) s =
    .next (settleAll (toHostOrCoach u m (fun v p => hostDirect v p m .done) (fun v k => coachDirect v k m {}))) := by
  rw [exec_of_arrives rfl hf ha, if_neg ht]

theorem exec_datago_to_agent (hh : m.htwin = u.dev.pid) (ha : Arrives s (.datago m) u) : exec (.datago m) s =
    .next (settleAll (toHostOrCoach (dataAsked u m) m (fun v p => hostDatago v p m) (fun v k => coachDatago v k m))) := by
  rw [exec_of_arrives rfl hf ha, if_neg ht, twinAnswer_of_ownHome (s := unreserve u _) hh, dataAsked]

end

variable (hh : m.htwin = u.dev.pid)
include hh

theorem exec_cmps_of_ownHome (ha : Arrives s (.cmps m) u) : exec (.cmps m) s = .next (settleAll (toHostOrCoach u m
    (fun v p => hostGrant v p m 1 {}) (fun v k => coachGrant v k m 1 {}))) := by
  rw [exec_of_arrives rfl hf ha, grantTo, twinAnswer_of_ownHome hh]

theorem exec_cmpo_of_ownHome (ha : Arrives s (.cmpo m) u) : exec (.cmpo m) s = .next (settleAll (toHostOrCoach u m
    (fun v p => hostGrant v p m 2 {}) (fun v k => coachGrant v k m 2 {}))) := by
  rw [exec_of_arrives rfl hf ha, grantTo, twinAnswer_of_ownHome hh]

theorem exec_cmp_of_ownHome (hd : m.ddat = false) (ha : Arrives s (.cmp m res) u) : exec (.cmp m res) s =
    .next (settleAll (toHostOrCoach u m (fun v p => hostGrant v p m 0 res) (fun v k => coachGrant v k m 0 res))) := by
  rw [exec_of_arrives rfl hf ha, if_neg (by simp [hd]), grantTo, twinAnswer_of_ownHome hh]

theorem exec_err_of_ownHome (ha : Arrives s (.err m) u) : exec (.err m) s =
    .next (settleAll (toHostOrCoach u m (fun v p => hostErr v p m) (fun v k => coachErr v k m))) := by
  rw [exec_of_arrives rfl hf ha, if_pos hh]

end

/-- Settles O30: each command gives its message to the host port or the coach that `toHostOrCoach` finds, or to the home. -/
theorem answersReachTheirAgent : Obligations.AnswersReachTheirAgent := by
  intro m d res s u hf hh
  refine ⟨fun hown hlt ht => ?host, fun hown hge hc ht => ?coach, fun ht => ⟨exec_fill_to_home hf ht,
    exec_memcmp_to_home hf hh ht, exec_datago_to_devicePort hf ht⟩⟩
  case host =>
    have reach (f g : State → Nat → State) : toHostOrCoach u m f g = f u (localAgent m.tgt) := toHostOrCoach_host f g hown hlt
    refine ⟨fun ha => ?_, fun ha => ?_, fun ha hd => ?_, fun ha hd => ?_, fun ha => ?_, fun ha => ?_, fun ha => ?_, fun ha => ?_,
      fun ha => ?_⟩
    · rw [exec_cmps_of_ownHome hf hh ha, reach]
    · rw [exec_cmpo_of_ownHome hf hh ha, reach]
    · rw [exec_cmp_of_ownHome hf hh hd ha, reach]
    · rw [exec_cmp_of_atomic hf hd ha, reach]
    · rw [exec_err_of_ownHome hf hh ha, reach]
    · rw [exec_datago_to_agent hf ht hh ha, toHostOrCoach_host (s := dataAsked u m) _ _ hown hlt, dataAsked]
    · rw [exec_memcmp_to_agent hf ht ha, reach]
    · rw [exec_backinv_to_agent hf ha, reach]
    · rw [exec_backdown_to_agent hf ha, reach]
  case coach =>
    have reach (f g : State → Nat → State) : toHostOrCoach u m f g = g u (coachNo m.tgt) := toHostOrCoach_coach f g hown hge hc
    refine ⟨fun ha => ?_, fun ha => ?_, fun ha hd => ?_, fun ha hd => ?_, fun ha => ?_, fun ha => ?_, fun ha => ?_, fun ha => ?_,
      fun ha => ?_⟩
    · rw [exec_cmps_of_ownHome hf hh ha, reach]
    · rw [exec_cmpo_of_ownHome hf hh ha, reach]
    · rw [exec_cmp_of_ownHome hf hh hd ha, reach]
    · rw [exec_cmp_of_atomic hf hd ha, reach]
    · rw [exec_err_of_ownHome hf hh ha, reach]
    · rw [exec_datago_to_agent hf ht hh ha, toHostOrCoach_coach (s := dataAsked u m) _ _ hown hge hc, dataAsked]
    · rw [exec_fill_to_agent hf ht ha, reach]
    · rw [exec_backinv_to_agent hf ha, reach]
    · rw [exec_backdown_to_agent hf ha, reach]

/-! ### Broadcasts in a region -/

/-- The members of a broadcast in region `n` that are snooped: those of the sharing set there but the requester and those that
count as answered at once (R116, R150). -/
def snooped (u : State) (n : Fin 16) (m : Hdr) : List Agent :=
  (regionMembers (bankFor u m.epoch0) (n.val + 16 * pidNat u) (segShare (bankFor u m.epoch0) (lineSeg m.laddr))).filter
    (fun a => a != m.tgt && ! countedAtOnce u n a)

/-- The region `n` awaits the answers of the members `l`. -/
def withAgg (u : State) (n : Fin 16) (m : Hdr) (l : List Agent) : State :=
  withDir u { u.dir with aggs := u.dir.aggs ++ [⟨n, m, l⟩] }

/-- A broadcast reaches every coach of the region (R63). -/
theorem coachAgent_mem_regionMembers (u : State) (b : SMap Word) {n k : Nat} (hn : n < 16) (hk : k / 16 = n) (g : Nat) :
    coachAgent u k ∈ regionMembers b (n + 16 * pidNat u) g := by
  unfold regionMembers coachAgent agentId
  refine List.mem_map.2 ⟨512 * pidNat u + 128 + 16 * n + k % 16, List.mem_append_right _ (List.mem_map.2 ⟨k % 16, ?_, ?_⟩), ?_⟩
  · exact List.mem_range.2 (Nat.mod_lt _ (by decide))
  · rw [show (n + 16 * pidNat u) / 16 = pidNat u by omega, show (n + 16 * pidNat u) % 16 = n by omega]
  · exact congrArg (BitVec.ofNat 10) (by omega)

theorem coachAgent_mem_snooped (u : State) (m : Hdr) {n : Fin 16} {k : Nat} (hk : k / 16 = n.val) :
    coachAgent u k ∈ snooped u n m ↔ coachAgent u k ≠ m.tgt ∧ countedAtOnce u n (coachAgent u k) = false := by
  simp [snooped, coachAgent_mem_regionMembers u _ n.isLt hk]

/-- A broadcast snoops one member: its cell or its coach answers to the region. -/
def snoopMember (m : Hdr) (w : State) (a : Agent) : State :=
  if localAgent a < 128 then hostSnoop w (localAgent a) m false true else coachSnoop w (coachNo a) m false true

section
variable {s u : State} (hf : s.dev.fabReset = false)
include hf

theorem exec_backinvBroadcast_of_arrives {n : Fin 16} {m : Hdr} (ha : Arrives s (.backinvBroadcast n m) u) :
    exec (.backinvBroadcast n m) s = .next (if (snooped u n m).isEmpty then
        settleAgg (withAgg u n m (snooped u n m)) ⟨n, m, snooped u n m⟩
      else (snooped u n m).foldl (snoopMember m) (withAgg u n m (snooped u n m))) := by
  rw [exec_of_arrives rfl hf ha]
  rfl

theorem exec_broadcastAggTimeout_of_open {n : Fin 16} {m : Hdr} {g : Agg}
    (hg : s.dir.aggs.find? (fun g => g.region == n.val && g.m == m) = some g) :
    exec (.broadcastAggTimeout n m) s =
      .next (settleAgg (g.left.foldl (fun v a => declareLost v (servicesEp n) a) s) { g with left := [] }) := by
  show execBroadcastAggTimeout n m s = _
  rw [execBroadcastAggTimeout, onFabric_of_running hf, hg]
  rfl

end

/-! ### Answers at the home -/

section
variable {s : State} {m : Hdr} {k : Tracker}

theorem homeBiack_of_awaited (hk : getTrk s m.hslice m.htxn = some k) (hl : k.line = m.laddr) (hp : k.phase = .snoop)
    (hs : snoops s m.hslice k m.src = true) :
    homeBiack s m = settleSlice (advance (takeBiack s m.hslice m.htxn k m) m.hslice m.htxn) m.hslice := by
  unfold homeBiack
  dsimp only
  rw [hk]
  exact if_pos ⟨hl, hp, hs⟩

theorem homeBiack_of_closed (hk : getTrk s m.hslice m.htxn = none) : homeBiack s m = lateResponse s m.hslice := by
  unfold homeBiack
  dsimp only
  rw [hk]

theorem homeAck_of_awaited (hk : getTrk s m.hslice m.htxn = some k) (hl : k.line = m.laddr) (hp : k.phase = .ack)
    (hs : k.req.map (·.m.src) = some m.src) : homeAck s m = settleSlice (closeTrk s m.hslice m.htxn k) m.hslice := by
  unfold homeAck
  dsimp only
  rw [hk]
  exact if_pos ⟨hl, hp, hs⟩

theorem homeAck_of_closed (hk : getTrk s m.hslice m.htxn = none) : homeAck s m = lateResponse s m.hslice := by
  unfold homeAck
  dsimp only
  rw [hk]

end

section
variable {s u : State} {m : Hdr} (hf : s.dev.fabReset = false) (hh : m.htwin = u.dev.pid)
include hf hh

theorem exec_biack_at_home (ha : Arrives s (.biack m) u) : exec (.biack m) s = .next (homeBiack u m) := by
  rw [exec_of_arrives rfl hf ha, if_pos (by simp [forThisHome, hh])]

theorem exec_ack_at_home (ha : Arrives s (.ack m) u) : exec (.ack m) s = .next (homeAck u m) := by
  rw [exec_of_arrives rfl hf ha, if_pos (by simp [forThisHome, hh])]

section
variable {n : Fin 16} {pid : Bool} (ha : Arrives s (.biackagg n pid m) u)
include ha

theorem exec_biackagg_of_awaited {k : Tracker} (hk : getTrk u m.hslice m.htxn = some k) (hl : k.line = m.laddr)
    (hagg : k.agg.contains (16 * pid.toNat + n.val) = true) :
    exec (.biackagg n pid m) s = .next (settleSlice (advance
      (setTrk u m.hslice m.htxn { k with agg := k.agg.erase (16 * pid.toNat + n.val) }) m.hslice m.htxn) m.hslice) := by
  rw [exec_of_arrives rfl hf ha, if_neg (by simp [forThisHome, hh])]
  dsimp only
  rw [hk]
  exact congrArg Host.Outcome.next (if_pos ⟨hl, hagg⟩)

theorem exec_biackagg_of_closed (hk : getTrk u m.hslice m.htxn = none) :
    exec (.biackagg n pid m) s = .next (lateResponse u m.hslice) := by
  rw [exec_of_arrives rfl hf ha, if_neg (by simp [forThisHome, hh])]
  dsimp only
  rw [hk]

end

end

/-- Settles O31: a broadcast's members are a filter of the region's, and each answer goes by the tracker that it names, if any. -/
theorem snoopAnswersAtHome : Obligations.SnoopAnswersAtHome := by
  intro n pid m s u hf
  refine ⟨fun b l v ha hb hl hv => ?broadcast, fun k hh hk hline => ⟨fun ha hph hsn => ?biack, fun ha hagg => ?biackagg,
    fun ha hph hsrc => ?ack⟩, fun hh hk => ⟨fun ha => ?lateBiack, fun ha => ?lateBiackagg, fun ha => ?lateAck⟩,
    fun g hg => exec_broadcastAggTimeout_of_open hf hg⟩
  case broadcast =>
    subst hb
    obtain rfl : l = snooped u n m := hl
    obtain rfl : v = withAgg u n m (snooped u n m) := hv
    rw [exec_backinvBroadcast_of_arrives hf ha]
    refine ⟨fun k hk => coachAgent_mem_snooped u m hk, fun h => ?_, fun h => ?_⟩
    · rw [if_pos (by simp [h]), h]
    · rw [if_neg (by simp [h])]
      rfl
  case biack => rw [exec_biack_at_home hf hh ha, homeBiack_of_awaited hk hline hph hsn]
  case biackagg => exact exec_biackagg_of_awaited hf hh ha hk hline hagg
  case ack => rw [exec_ack_at_home hf hh ha, homeAck_of_awaited hk hline hph hsrc]
  case lateBiack => rw [exec_biack_at_home hf hh ha, homeBiack_of_closed hk]
  case lateBiackagg => exact exec_biackagg_of_closed hf hh ha hk
  case lateAck => rw [exec_ack_at_home hf hh ha, homeAck_of_closed hk]

/-! ### Answers of a host to a snoop and to a conflict -/

/-- The only conflict that stands is answered at once where no request of its line is under way (R103). -/
theorem flushConfs_single {s : State} {f : HostConf} (hc : s.hp.confs = [])
    (hr : s.hp.reqs.all (fun r => ! (r.port == f.port && r.line == f.line)) = true) :
    flushConfs (withHp s { s.hp with confs := s.hp.confs ++ [f] }) f.port = s2m s f.port f.tag .biConflictAck := by
  have hready : s.hp.reqs.any (fun r => r.port == f.port && r.line == f.line && ! r.ended && r.job.isNone &&
      (r.grant.isSome || r.got.isSome)) = false := by
    rw [List.any_eq_false]
    intro r hm
    have h := List.all_eq_true.1 hr r hm
    simp only [Bool.not_eq_true'] at h
    simp [h]
  have hself : { s with hp := { s.hp with confs := [] } } = s := by rw [← hc]
  unfold flushConfs
  simp [withHp, hc, hready, forAll, hself]

/-- Settles O21: the oldest snoop of the tag is answered from the writes that the cell holds, once it keeps those that it has not
forwarded. -/
theorem hostSnoopAnswers : Obligations.HostSnoopAnswers := by
  intro p tag s hf hu
  refine ⟨fun q sh t l hq ht hl => ?birsp, fun addr hc hr => ?conflict⟩
  case birsp =>
    subst ht hl
    show execM2sBirsp p sh tag s = _
    rw [execM2sBirsp, onFabric_of_running hf, if_neg (by simp [hu]), hq]
  case conflict =>
    show execM2sBiconflict p addr tag s = _
    rw [execM2sBiconflict, onFabric_of_running hf, if_pos hu]
    exact congrArg Host.Outcome.next (flushConfs_single (f := ⟨p, tag, addrLine addr.toNat⟩) hc hr)

end Sys2Proof.Proofs
end

section
/-! SUPPORT. The control registers of a slice, of 03_coherence_directory: the purge of an agent, a captured entry, and the decay
of the contention predictor. -/

namespace Sys2Proof.Proofs

open Sys2Proof.Machine Sys2Proof.Laws

/-! ### The words of a 64-bit register -/

/-- The two words of a 64-bit register read as it was last set. -/
theorem getReg_wr64_append (s : State) (o : Nat) (v : BitVec 64) :
    getReg (wr64 s o v) (o + 4) ++ getReg (wr64 s o v) o = v := by
  unfold wr64
  rw [getReg_setReg_same, getReg_setReg_other _ (by omega), getReg_setReg_same, BitVec.extractLsb'_append_extractLsb']

theorem regsBut_wr64 {l : List Nat} {s t : State} (h : RegsBut l s t) {o : Nat} (ho : o ∈ l) (ho4 : o + 4 ∈ l) (v : BitVec 64) :
    RegsBut l s (wr64 t o v) :=
  regsBut_setReg (regsBut_setReg h ho _) ho4 _

/-! ### DIR_PURGE -/

/-- No unit shows its own work in DIR_PURGE: the offset is none of those of `Background`. -/
theorem not_background_dirPurge (x : Fin 32) : ¬ Background (R.DIR_PURGE x) := by
  intro h
  generalize ho : R.DIR_PURGE x = o at h
  unfold R.DIR_PURGE at ho
  cases h with
  | record hw k h1 h2 =>
    cases hw <;> simp only [ppuWindow, guardWindow, twinGuardWindow, R.RGN_PPU_ENTRY_CTRL, R.RGN_GUARD_ENTRY_CTRL,
      R.TWIN_GUARD_ENTRY_CTRL] at ho <;> omega
  | perfLow k | perfHigh k | perfOverflow k =>
    unfold perfBase at ho
    split at ho <;> simp only [R.PERF_CHIP_CTR_SEL, R.PERF_RGN_CTR_SEL] at ho <;> omega
  | laneErrors n | laneSymbols n =>
    unfold laneReg at ho
    repeat' split at ho
    all_goals simp only [R.PB_LANE_STATUS, R.TWIN_LANE_STATUS] at ho
    all_goals omega
  | linkReplay l | linkUnexpected l | linkDuplicate l | linkTimeout l | linkLate l =>
    cases l <;> simp only [linkReg, R.PB_LINK_STATUS, R.TWIN_LINK_STATUS] at ho <;> omega
  | _ =>
    simp only [R.EVT_PEND, R.EVT_SUMMARY, R.NOC_ERR_CNT0, R.NOC_ERR_CNT1, R.NOC_ERR_CNT2, R.NOC_ERR_CNT3, R.NOC_STAT,
      R.RGN_BUF_STATUS, R.RGN_BUF_USE, R.RGN_BUF_ECC_CNT, R.RGN_BUF_UNCORR_CNT, R.RGN_TAG_ECC_CNT, R.XBAR_METER_HELD,
      R.STX_TENANT_STAT, R.STX_CHAN_STATUS, R.COACH_CH_CNT, R.COACH_UNIT_ERR_CNT, R.COACH_LATE_CNT, R.COACH_CACHE_ECC_CNT,
      R.DIR_CTRL, R.DIR_STATUS, R.DIR_ECC_CNT, R.DIR_UNCORR_CNT, R.DIR_LOST_STATUS, R.DIR_TMO_LAST, R.DIR_TMO_CNT,
      R.DIR_LATE_CNT, R.DIR_POISON_CNT, R.DIR_PARK_CNT, R.DIR_JSTALL_CNT, R.SEG_UNBOUND_CNT, R.SEG_TAG_ERR_CNT,
      R.SEG_DC_REJECT_CNT, R.TWIN_ACTING, R.TWIN_PAIR_STATUS, R.TWIN_JRN_STATUS, R.TWIN_CNT1] at ho
    omega

/-- Loss notices leave every word but those in which units show their own work. -/
theorem noticeLoss_getReg (s : State) (e : Nat) (a : Agent) {o : Nat} (h : ¬ Background o) :
    getReg (noticeLoss s e a) o = getReg s o :=
  (noticeLoss_st (q0 := fun p => p == .settings) (Steady.refl _ s) rfl rfl rfl rfl rfl rfl rfl).settings rfl o h

/-- DIR_PURGE is written with `val`. -/
def purgeWritten (s : State) (x : Fin 32) (val : Word) : State := wr s (R.DIR_PURGE x) 9 0 (fld val 9 0)

/-- DIR_PURGE names an agent with GO (R146). -/
def Purges (val : Word) : Prop := bitAt val 31 = true ∧ fld val 9 0 % 512 < 384

theorem fld_purgeWritten (s : State) (x : Fin 32) (val : Word) :
    fld (getReg (purgeWritten s x val) (R.DIR_PURGE x)) 9 0 = fld val 9 0 := by
  rw [purgeWritten, getReg_wr_same, fld_putFld _ _ _ _ (by decide) (by decide)]
  exact Nat.mod_mod _ _

section
variable {s : State} (hf : s.dev.fabReset = false) (x : Fin 32) {val : Word}
include hf

theorem exec_dirPurge_go (h : Purges val) : exec (.dirPurge x val) s =
    .next (noticeLoss (purgeWritten s x val) (sliceEp x) (BitVec.ofNat 10 (fld val 9 0))) :=
  congrArg Host.Outcome.next ((onFabric_of_running hf _).trans (if_pos h))

theorem exec_dirPurge_written (h : ¬ Purges val) : exec (.dirPurge x val) s = .next (purgeWritten s x val) :=
  congrArg Host.Outcome.next ((onFabric_of_running hf _).trans (if_neg h))

theorem dirPurge_fld {t : State} (h : exec (.dirPurge x val) s = .next t) : fld (getReg t (R.DIR_PURGE x)) 9 0 = fld val 9 0 := by
  by_cases hp : Purges val
  · obtain rfl := Host.Outcome.next.inj ((exec_dirPurge_go hf x hp).symm.trans h)
    rw [noticeLoss_getReg _ _ _ (not_background_dirPurge x), fld_purgeWritten]
  · obtain rfl := Host.Outcome.next.inj ((exec_dirPurge_written hf x hp).symm.trans h)
    exact fld_purgeWritten s x val

end

/-! ### DIR_PEEK -/

/-- STATE of an entry as DIR_PEEK_DATA shows it. -/
def stateCode (d : DirSt) : Nat :=
  match d with
  | .free => 0
  | .shared => 1
  | .owned => 2

/-- An entry as DIR_PEEK_DATA shows it. -/
def peekData (e : Entry) : Nat :=
  e.opn.toNat * 2 ^ 63 + stateCode e.st * 2 ^ 61 + e.ovf.toNat * 2 ^ 60 + e.shadow.toNat * 2 ^ 59 + e.p2.toNat * 2 ^ 46 +
    e.p1.toNat * 2 ^ 36 + e.p0.toNat * 2 ^ 26 + e.tag.toNat

/-- Register DIR_PEEK_SEL names a way, and DIR_PEEK_DATA shows entry `e`. -/
def peeked (s : State) (x : Fin 32) (set : Fin 8192) (way : Fin 16) (e : Entry) : State :=
  wr64 (wrBit (wr (wr s (R.DIR_PEEK_SEL x) 16 13 way) (R.DIR_PEEK_SEL x) 12 0 set) (R.DIR_PEEK_SEL x) 30 true) (R.DIR_PEEK_DATA x)
    (BitVec.ofNat 64 (peekData e))

theorem exec_dirPeek_of_running {s : State} (hf : s.dev.fabReset = false) (x : Fin 32) (set : Fin 8192) (way : Fin 16) :
    exec (.dirPeek x set way) s = .next (peeked s x set way (getEnt s x set way)) :=
  congrArg Host.Outcome.next (onFabric_of_running hf _)

theorem peeked_regsBut (s : State) (x : Fin 32) (set : Fin 8192) (way : Fin 16) (e : Entry) :
    RegsBut [R.DIR_PEEK_SEL x, R.DIR_PEEK_DATA x, R.DIR_PEEK_DATA x + 4] s (peeked s x set way e) :=
  regsBut_wr64 (regsBut_wrBit (regsBut_wr (regsBut_wr (regsBut_refl _ s) List.mem_cons_self _ _ _) List.mem_cons_self _ _ _)
    List.mem_cons_self _ _) (by simp) (by simp) _

/-- A field of a word given as a number. -/
theorem extractLsb'_ofNat {n lo len : Nat} {f : BitVec len} (hn : n < 2 ^ 64) (h : n / 2 ^ lo % 2 ^ len = f.toNat) :
    (BitVec.ofNat 64 n).extractLsb' lo len = f :=
  BitVec.eq_of_toNat_eq (by
    rw [BitVec.extractLsb'_toNat, BitVec.toNat_ofNat, Nat.mod_eq_of_lt hn, Nat.shiftRight_eq_div_pow, h])

/-- A bit of a word given as a number. -/
theorem getLsbD_ofNat {n i : Nat} {b : Bool} (hn : n < 2 ^ 64) (h : n / 2 ^ i % 2 = b.toNat) :
    (BitVec.ofNat 64 n).getLsbD i = b := by
  rw [BitVec.getLsbD, BitVec.toNat_ofNat, Nat.mod_eq_of_lt hn, Nat.testBit_eq_decide_div_mod_eq, h]
  cases b <;> rfl

/-- The state code's upper bit says Owned, and its lower bit Shared. -/
theorem stateCode_eq (d : DirSt) : stateCode d = 2 * (decide (d = .owned)).toNat + (decide (d = .shared)).toNat := by
  cases d <;> rfl

/-- Every field of an entry stands in its bits of DIR_PEEK_DATA. -/
theorem peekData_fields (e : Entry) : peekData e < 2 ^ 64 ∧ peekData e / 2 ^ 63 % 2 = e.opn.toNat ∧
    peekData e / 2 ^ 62 % 2 = (decide (e.st = .owned)).toNat ∧ peekData e / 2 ^ 61 % 2 = (decide (e.st = .shared)).toNat ∧
    peekData e / 2 ^ 60 % 2 = e.ovf.toNat ∧ peekData e / 2 ^ 59 % 2 = e.shadow.toNat ∧
    peekData e / 2 ^ 46 % 2 ^ 10 = e.p2.toNat ∧ peekData e / 2 ^ 36 % 2 ^ 10 = e.p1.toNat ∧
    peekData e / 2 ^ 26 % 2 ^ 10 = e.p0.toNat ∧ peekData e / 2 ^ 0 % 2 ^ 22 = e.tag.toNat := by
  have hopn := e.opn.toNat_lt
  have hovf := e.ovf.toNat_lt
  have hsha := e.shadow.toNat_lt
  have hown := (decide (e.st = .owned)).toNat_lt
  have hshd := (decide (e.st = .shared)).toNat_lt
  have h0 := e.p0.isLt
  have h1 := e.p1.isLt
  have h2 := e.p2.isLt
  have htag := e.tag.isLt
  unfold peekData
  rw [stateCode_eq]
  omega

/-- DIR_PEEK_DATA shows the fields of entry `e` ("Entry format"). -/
def Shows (w : BitVec 64) (e : Entry) : Prop :=
  w.getLsbD 63 = e.opn ∧ w.getLsbD 60 = e.ovf ∧ w.getLsbD 59 = e.shadow ∧ w.extractLsb' 46 10 = e.p2 ∧
    w.extractLsb' 36 10 = e.p1 ∧ w.extractLsb' 26 10 = e.p0 ∧ w.extractLsb' 0 22 = e.tag ∧
    (w.getLsbD 62 = true ↔ e.st = .owned) ∧ (w.getLsbD 61 = true ↔ e.st = .shared)

theorem peekData_shows (e : Entry) : Shows (BitVec.ofNat 64 (peekData e)) e := by
  obtain ⟨hlt, hopn, hown, hshd, hovf, hsha, h2, h1, h0, htag⟩ := peekData_fields e
  refine ⟨getLsbD_ofNat hlt hopn, getLsbD_ofNat hlt hovf, getLsbD_ofNat hlt hsha, extractLsb'_ofNat hlt h2,
    extractLsb'_ofNat hlt h1, extractLsb'_ofNat hlt h0, extractLsb'_ofNat hlt htag, ?_, ?_⟩
  · rw [getLsbD_ofNat hlt hown, decide_eq_true_eq]
  · rw [getLsbD_ofNat hlt hshd, decide_eq_true_eq]

/-! ### The decay of the predictor -/

/-- A non-zero score falls by one, and the mode stays (R157). -/
def decayed (v : Nat) : Nat := if v % 16 = 0 then v else v - 1

theorem decayed_parts (v : Nat) : decayed v / 16 = v / 16 ∧ decayed v % 16 = v % 16 - 1 := by
  unfold decayed
  split <;> omega

/-- A decay walk of slice `x` has passed, and its timer starts again. -/
def decayWalked (s : State) (x : Nat) : State :=
  withDir s { s.dir with
    pred := (s.dir.pred.map (fun e => if e.1 / 4096 = x then (e.1, decayed e.2) else e)).filter (fun e => e.2 != 0)
    decayZero := sPut s.dir.decayZero x 0 (now s) }

/-- Every score that is left after a decay walk is that of the same line before it, one lower at the slice that walked. -/
theorem mem_decayWalked {s : State} {x : Nat} {e : Nat × Nat} (h : e ∈ (decayWalked s x).dir.pred) :
    ∃ o ∈ s.dir.pred, o.1 = e.1 ∧ (e.1 / 4096 ≠ x → e.2 = o.2) ∧
      (e.1 / 4096 = x → e.2 / 16 = o.2 / 16 ∧ e.2 % 16 = o.2 % 16 - 1) := by
  obtain ⟨o, ho, rfl⟩ := List.mem_map.1 (List.mem_filter.1 h).1
  by_cases hx : o.1 / 4096 = x
  · rw [if_pos hx]
    exact ⟨o, ho, rfl, fun hn => absurd hx hn, fun _ => decayed_parts o.2⟩
  · rw [if_neg hx]
    exact ⟨o, ho, rfl, fun _ => rfl, fun he => absurd he hx⟩

/-- The decay timer of slice `x` starts again (R157). -/
def decayRestarted (s : State) (x : Nat) : State :=
  withDir s { s.dir with decayZero := sPut s.dir.decayZero x 0 (now s) }

theorem now_withDir (s : State) (d : Dir) : now (withDir s d) = now s := rfl

theorem decayRestarted_getReg (s : State) (x o : Nat) : getReg (decayRestarted s x) o = getReg s o := withDir_getReg ..

theorem decayRestarted_decayZero (s : State) (x : Nat) :
    sGet (decayRestarted s x).dir.decayZero x 0 = now (decayRestarted s x) :=
  (sGet_sPut_same ..).trans (now_withDir ..).symm

section
variable {s : State} (hf : s.dev.fabReset = false) (x : Fin 32)
include hf

theorem exec_decayWalk_of_off (h : rd s (R.DIR_ATOM_CFG x) 23 16 = 0) : exec (.decayWalk x) s = .next s :=
  congrArg Host.Outcome.next ((onFabric_of_running hf _).trans (if_pos h))

theorem exec_decayWalk_of_on (h : rd s (R.DIR_ATOM_CFG x) 23 16 ≠ 0) : exec (.decayWalk x) s = .next (decayWalked s x) :=
  congrArg Host.Outcome.next ((onFabric_of_running hf _).trans (if_neg h))

theorem exec_dirAtomCfgWrite_of_running (val : Word) :
    exec (.dirAtomCfgWrite x val) s = .next (decayRestarted (plainWrite s (R.DIR_ATOM_CFG x) val) x) :=
  congrArg Host.Outcome.next (onFabric_of_running hf _)

theorem exec_dirDrain_of_running (on : Bool) :
    exec (.dirDrain x on) s = .next (settleSlice (wrBit s (R.DIR_CTRL x) 0 on) x) :=
  congrArg Host.Outcome.next (onFabric_of_running hf _)

end

/-- Settles O34: each control write is one update of the slice; the notices of a purge leave DIR_PURGE as written. -/
theorem sliceControl : Obligations.SliceControl := by
  intro x val s hf
  refine ⟨exec_dirPurge_go hf x, exec_dirPurge_written hf x, fun _ => dirPurge_fld hf x, exec_dirDrain_of_running hf x,
    fun set way => ?peek, exec_decayWalk_of_off hf x, fun h => ?walk, ?config⟩
  case peek =>
    have hx := exec_dirPeek_of_running hf x set way
    refine ⟨_, hx, fun w hw => ?_, peeked_regsBut _ _ _ _ _, frame_of (execDirPeek_ok (Steady.refl _ s)) hx⟩
    obtain rfl := hw.trans (getReg_wr64_append ..)
    exact peekData_shows _
  case walk =>
    have hx := exec_decayWalk_of_on hf x h
    exact ⟨_, hx, fun _ => mem_decayWalked, frame_of (execDecayWalk_ok (Steady.refl _ s)) hx⟩
  case config =>
    have hx := exec_dirAtomCfgWrite_of_running hf x val
    obtain ⟨hword, hbut, -⟩ := plainWrite_writtenByCodes s (R.DIR_ATOM_CFG x) val
    exact ⟨_, hx, (decayRestarted_getReg ..).trans hword, decayRestarted_decayZero ..,
      fun o ho => (decayRestarted_getReg ..).trans (hbut o ho), frame_of (execDirAtomCfgWrite_ok (Steady.refl _ s)) hx⟩

end Sys2Proof.Proofs
end

section
/-! SUPPORT. Accesses at a device port cell, of 04_coherence_races: their arrival, the expander's answers, and their expiry. -/

namespace Sys2Proof.Proofs

open Sys2Proof.Machine Sys2Proof.Laws

/-! ### Arrival at a device port cell -/

/-- The access of MemRd `m` (R111). -/
def readOp (m : Hdr) : DpOp := ⟨m.dport, m.laddr, some (.msg m), none, m.tgt, m.epoch0, none⟩

/-- The access of WbData `m` (R113). -/
def writeOp (m : Hdr) (d : LineData) (mask : BitVec 64) : DpOp :=
  ⟨m.dport, m.laddr, none, some (.msg m, d, mask, m.poison), m.tgt, m.epoch0, none⟩

section
variable {s u : State} (hf : s.dev.fabReset = false) {c : Instr} {o : DpOp}
  (hc : exec c s = .next (onFabric s (if holdFull s o then s else receive s c (fun t => dpArrive t o))))
include hf hc

/-- An access beyond the limit of those to busy granules stays on the network (R196). -/
theorem exec_of_holdFull (h : holdFull s o = true) : exec c s = .next s := by
  rw [hc, onFabric_of_running hf, if_pos h]

theorem exec_of_room (h : holdFull s o = false) (ha : Arrives s c u) : exec c s = .next (dpArrive u o) := by
  rw [hc, onFabric_of_running hf, if_neg (Bool.eq_false_iff.1 h), receive_of_arrives ha]

end

theorem exec_memrd_eq (s : State) (m : Hdr) : exec (.memrd m) s =
    .next (onFabric s (if holdFull s (readOp m) then s else receive s (.memrd m) (fun t => dpArrive t (readOp m)))) := rfl

theorem exec_wbdata_eq (s : State) (m : Hdr) (d : LineData) (mask : BitVec 64) : exec (.wbdata m d mask) s =
    .next (onFabric s (if holdFull s (writeOp m d mask) then s
      else receive s (.wbdata m d mask) (fun t => dpArrive t (writeOp m d mask)))) := rfl

/-! ### Answers of the expander -/

section
variable {s : State} (hf : s.dev.fabReset = false) {p : Fin 128} {tag : BitVec 14} {d : LineData} {poison : Bool} {gen : BitVec 8}
include hf

theorem exec_expanderReadData_of_none (h : outstAt s p tag = none) :
    exec (.expanderReadData p tag d poison gen) s = .next (discardResponse s p tag) := by
  show execExpanderReadData p tag d poison gen s = _
  rw [execExpanderReadData, onFabric_of_running hf, h]

theorem exec_expanderWriteCompletion_of_none (h : outstAt s p tag = none) :
    exec (.expanderWriteCompletion p tag gen) s = .next (discardResponse s p tag) := by
  show execExpanderWriteCompletion p tag gen s = _
  rw [execExpanderWriteCompletion, onFabric_of_running hf, h]

theorem exec_memrdTimeout_of_none (h : outstAt s p tag = none) : exec (.memrdTimeout p tag) s = .next s := by
  show execMemrdTimeout p tag s = _
  rw [execMemrdTimeout, onFabric_of_running hf, h]

section
variable {o : DpOut} (ho : outstAt s p tag = some o)
include ho

/-- Data for an outstanding read: that of another generation of the link is discarded (R512). -/
theorem exec_expanderReadData_of_read {r : RdFor} (hr : o.rd = some r) :
    exec (.expanderReadData p tag d poison gen) s = .next (if gen.toNat ≠ linkGenOf s p then discardResponse s p tag
      else pumpPort (afterRead (dropOut s o) o r d poison) p) := by
  show execExpanderReadData p tag d poison gen s = _
  rw [execExpanderReadData, onFabric_of_running hf, ho]
  dsimp only
  rw [hr]

theorem exec_expanderWriteCompletion_of_line {m : Hdr} (hw : o.wr = some (.msg m)) (hg : gen.toNat = linkGenOf s p) :
    exec (.expanderWriteCompletion p tag gen) s = .next (pumpPort (sendMemCmp (dropOut s o) m 0) p) := by
  show execExpanderWriteCompletion p tag gen s = _
  rw [execExpanderWriteCompletion, onFabric_of_running hf, ho]
  dsimp only
  rw [hw]
  exact congrArg Host.Outcome.next (if_neg (not_not_intro hg))

theorem exec_expanderWriteCompletion_of_atomic {m : Hdr} {r : AtomicRes} (hw : o.wr = some (.atom m r))
    (hg : gen.toNat = linkGenOf s p) :
    exec (.expanderWriteCompletion p tag gen) s = .next (pumpPort (sendAtomRes (dropOut s o) p m 0 r) p) := by
  show execExpanderWriteCompletion p tag gen s = _
  rw [execExpanderWriteCompletion, onFabric_of_running hf, ho]
  dsimp only
  rw [hw]
  exact congrArg Host.Outcome.next (if_neg (not_not_intro hg))

end

end

/-! ### Expiry -/

/-- Access `o` is outstanding no more, and its tag is reserved (R397). -/
def tagReserved (s : State) (p : Fin 128) (tag : BitVec 14) (o : DpOut) : State :=
  withDp s { s.dp with outst := s.dp.outst.erase o, reserved := s.dp.reserved ++ [p.val * 16384 + tag.toNat] }

/-- A line or tag line read, whose expiry R144 ends. -/
def PlainRead (r : RdFor) : Prop := (∃ m, r = .msg m) ∨ ∃ n l, r = .tag n l

section
variable {s : State} (hf : s.dev.fabReset = false) {p : Fin 128}
include hf

theorem exec_memrdTimeout_of_read {tag : BitVec 14} {o : DpOut} (ho : outstAt s p tag = some o) {r : RdFor} (hr : o.rd = some r)
    (h : PlainRead r) :
    exec (.memrdTimeout p tag) s = .next (pumpPort (failRead (tagReserved s p tag o) p r o.shared o.cls 0) p) := by
  show execMemrdTimeout p tag s = _
  rw [execMemrdTimeout, onFabric_of_running hf, ho]
  dsimp only
  obtain ⟨m, rfl⟩ | ⟨n, l, rfl⟩ := h
  · rw [hr]
    rfl
  · rw [hr]
    rfl

/-- An expired write, or an atomic, which writes, takes the link down (R145). -/
theorem exec_deviceWriteTimeout_of_write {o : DpOut} (ho : o ∈ s.dp.outst) (hp : o.port = p.val)
    (hw : o.wr.isSome = true ∨ ∃ m a, o.rd = some (.atom m a)) :
    exec (.deviceWriteTimeout p) s = .next (settleUnits (loseLink s p 0)) := by
  refine congrArg Host.Outcome.next ((onFabric_of_running hf _).trans (if_pos (List.any_eq_true.2 ⟨o, ho, ?_⟩)))
  obtain hw | ⟨m, a, hr⟩ := hw
  · simp [hp, hw]
  · simp [hp, hr]

theorem exec_deviceWriteTimeout_of_idle (h : s.dp.outst.all (fun o => o.port != p.val) = true) :
    exec (.deviceWriteTimeout p) s = .next s := by
  refine congrArg Host.Outcome.next ((onFabric_of_running hf _).trans (if_neg fun hany => ?_))
  obtain ⟨o, ho, hport⟩ := List.any_eq_true.1 hany
  exact bne_iff_ne.1 (List.all_eq_true.1 h o ho) (beq_iff_eq.1 (Bool.and_eq_true_iff.1 hport).1)

end

/-- Settles O29: an access that has room joins those that wait at its cell, the outstanding access of a tag says what its answer or
its expiry does, and what is outstanding at a port says whether a write's expiry finds one. -/
theorem devicePortAccesses : Obligations.DevicePortAccesses := by
  intro p tag d poison gen s hf
  refine ⟨fun m o ho => ?arrivesRead, fun m mask o ho => ?arrivesWrite, congrArg Host.Outcome.next (onFabric_of_running hf _),
    fun h => ⟨exec_expanderReadData_of_none hf h, exec_expanderWriteCompletion_of_none hf h, exec_memrdTimeout_of_none hf h⟩,
    fun o ho => ⟨fun r hr hg => ?data, fun r hr hg => ?stale, fun m => exec_expanderWriteCompletion_of_line hf ho,
      fun m r => exec_expanderWriteCompletion_of_atomic hf ho,
      fun v hv => ⟨fun m hr => ?expiredLine, fun n l hr => ?expiredTag⟩⟩,
    fun o => exec_deviceWriteTimeout_of_write hf, exec_deviceWriteTimeout_of_idle hf⟩
  case arrivesRead =>
    obtain rfl : o = readOp m := ho
    exact ⟨exec_of_holdFull hf (exec_memrd_eq s m), fun u => exec_of_room hf (exec_memrd_eq s m)⟩
  case arrivesWrite =>
    obtain rfl : o = writeOp m d mask := ho
    exact ⟨exec_of_holdFull hf (exec_wbdata_eq s m d mask), fun u => exec_of_room hf (exec_wbdata_eq s m d mask)⟩
  case data => rw [exec_expanderReadData_of_read hf ho hr, if_neg (not_not_intro hg)]
  case stale => rw [exec_expanderReadData_of_read hf ho hr, if_pos hg]
  case expiredLine =>
    obtain rfl : v = tagReserved s p tag o := hv
    exact exec_memrdTimeout_of_read hf ho hr (.inl ⟨m, rfl⟩)
  case expiredTag =>
    obtain rfl : v = tagReserved s p tag o := hv
    exact exec_memrdTimeout_of_read hf ho hr (.inr ⟨n, l, rfl⟩)

end Sys2Proof.Proofs
end

section
/-! SUPPORT. The journal of a slice, of 04_coherence_races: the open batch, records that arrive, acknowledgements and stalls. -/

namespace Sys2Proof.Proofs

open Sys2Proof.Machine Sys2Proof.Laws

/-! ### Batches -/

/-- The received records of a batch, the last of them marked. -/
def markedLast (rs : List JrnRec) : List (JrnRec × Bool) :=
  ((List.range rs.length).zip rs).map (fun p => (p.2, p.1 + 1 == rs.length))

theorem markedLast_concat (l : List JrnRec) (r : JrnRec) :
    markedLast (l ++ [r]) = l.map (fun q => (q, false)) ++ [(r, true)] := by
  refine List.ext_getElem (by simp [markedLast]) fun i hi _ => ?_
  have hlt : i < l.length + 1 := by simpa [markedLast] using hi
  obtain h | rfl := Nat.lt_succ_iff_lt_or_eq.1 hlt
  · simp [markedLast, List.getElem_append_left, h, Nat.ne_of_lt h]
  · simp [markedLast]

/-- A batch without empty records is received whole. -/
theorem nonEmpty_concat {l : List JrnRec} {r : JrnRec} (hl : ∀ q ∈ l, q.act ≠ .empty) (hr : r.act ≠ .empty) :
    (l ++ [r]).filter (fun q => q.act != .empty) = l ++ [r] := by
  refine List.filter_eq_self.2 fun q hq => bne_iff_ne.2 ?_
  obtain hq | hq := List.mem_append.1 hq
  · exact hl q hq
  · rw [List.mem_singleton.1 hq]
    exact hr

theorem sendBatch_of_open {s : State} {x : Fin 32} (h : (getJrn s x).batch ≠ []) :
    sendBatch s x =
      sendTwin (setJrn s x { getJrn s x with batch := [] }) (sliceEp x) (.jrnbatch x (getJrn s x).batch) :=
  (if_neg h).trans (by rw [Fin.ofNat_val_eq_self])

/-- Slice `x` has received the records `l`, in order behind those that wait (R473). -/
def received (u : State) (x : Fin 32) (l : List (JrnRec × Bool)) : State :=
  setJrn u x { getJrn u x with recv := (getJrn u x).recv ++ l }

/-! ### Acknowledgements -/

/-- The acknowledgement of `ack` has freed the records up to it (R473). -/
def acknowledged (u : State) (x : Fin 32) (ack : BitVec 16) : State :=
  perfHit (setJrn (releaseJournal u x ack) x { getJrn u x with acked := ack + 1 }) 0 0x42 0
    ((ack - (getJrn u x).acked).toNat + 1) 1

/-- The transactions of slice `x` that await their records go on. -/
def journalGoesOn (v : State) (x : Fin 32) : State :=
  settleSlice (((trksOf v x).filter (fun e => e.2.phase == .journal)).foldl (fun w e => advance w x e.1) v) x

/-! ### Stalls -/

/-- A stall is counted (R138). -/
def stallCounted (s : State) (x : Fin 32) : State := count s (R.DIR_JSTALL_CNT x) 0 .every (sliceFailEv x)

/-- The journal of slice `x` is suspended (R476). -/
def journalSuspended (v : State) (x : Fin 32) : State :=
  ackAll (count (wrBit v R.TWIN_JRN_STATUS x true) R.TWIN_CNT1 16 .every 13) x

section
variable {s u : State} (hf : s.dev.fabReset = false) {x : Fin 32}
include hf

theorem exec_journalBatchTimeout_of_running : exec (.journalBatchTimeout x) s = .next (sendBatch s x) :=
  congrArg Host.Outcome.next (onFabric_of_running hf _)

theorem exec_jrnbatch_of_arrives {rs : List JrnRec} (ha : Arrives s (.jrnbatch x rs) u) : exec (.jrnbatch x rs) s =
    .next (settleSlice (received u x (markedLast (rs.filter (fun r => r.act != .empty)))) x) := by
  rw [exec_of_arrives rfl hf ha]
  rfl

/-- An acknowledgement of no outstanding record frees its reservations alone. -/
theorem exec_jrnack_of_arrives {ack : BitVec 16} (ha : Arrives s (.jrnack x ack) u) : exec (.jrnack x ack) s =
    .next (if (ack - (getJrn u x).acked).toNat < ((getJrn u x).next - (getJrn u x).acked).toNat then
      journalGoesOn (acknowledged u x ack) x else releaseJournal u x ack) := by
  rw [exec_of_arrives rfl hf ha]
  rfl

theorem exec_journalStall_of_waiting {t : Fin 256} {k : Tracker} (hk : getTrk s x t = some k) (hp : k.phase = .journal) :
    exec (.journalStall x t) s = .next (if twinState (stallCounted s x) = 2 then journalSuspended (stallCounted s x) x
      else stallCounted s x) := by
  show execJournalStall x t s = _
  rw [execJournalStall, onFabric_of_running hf]
  dsimp only
  rw [hk]
  exact congrArg Host.Outcome.next (if_neg (not_not_intro hp))

end

/-- Settles O32: a batch without empty records is received whole with its last record marked, and an acknowledgement or a stall goes
by one condition each. -/
theorem journalCommands : Obligations.JournalCommands := by
  intro x s hf
  refine ⟨fun h => ?nothing, fun h => ?batch, fun l r u ha hl hr => ?records, fun ack u ha => ⟨fun h => ⟨_, rfl, ?acked⟩,
    fun h => ?foreign⟩, fun t k hk hp v hv => ?stall⟩
  case nothing => rw [exec_journalBatchTimeout_of_running hf, sendBatch, if_pos h]
  case batch => rw [exec_journalBatchTimeout_of_running hf, sendBatch_of_open h]
  case records =>
    rw [exec_jrnbatch_of_arrives hf ha, nonEmpty_concat hl hr, markedLast_concat]
    rfl
  case acked =>
    rw [exec_jrnack_of_arrives hf ha, if_pos h]
    rfl
  case foreign => rw [exec_jrnack_of_arrives hf ha, if_neg (Nat.not_lt.2 h)]
  case stall =>
    obtain rfl : v = stallCounted s x := hv
    rw [exec_journalStall_of_waiting hf hk hp]
    exact ⟨fun h => by rw [if_neg h], fun h => by rw [if_pos h, journalSuspended]⟩

end Sys2Proof.Proofs
end

section
/-! SUPPORT. Expiries of transactions and requests, and the loss of an agent at a slice, of 04_coherence_races. -/

namespace Sys2Proof.Proofs

open Sys2Proof.Machine Sys2Proof.Laws

/-! ### Expiry of a home transaction -/

@[simp] theorem getTrk_setTrk_same (s : State) (x t : Nat) (k : Tracker) : getTrk (setTrk s x t k) x t = some k :=
  sFind_sIns_same ..

theorem getReg_setTrk (s : State) (x t : Nat) (k : Tracker) (o : Nat) : getReg (setTrk s x t k) o = getReg s o := withDir_getReg ..

/-- DIR_TMO_LAST names a line and a cause, and no agent. -/
def expiryWord (l : LAddr) (cause : Nat) : BitVec 64 := BitVec.ofNat 64 (0x3FF * 2 ^ 54 + cause * 2 ^ 44 + l.toNat)

theorem recordExpiry_shows (s : State) (x : Nat) (l : LAddr) (cause : Nat) :
    getReg (recordExpiry s x l cause 0x3FF) (R.DIR_TMO_LAST x + 4) ++ getReg (recordExpiry s x l cause 0x3FF) (R.DIR_TMO_LAST x) =
      expiryWord l cause :=
  getReg_wr64_append ..

/-- Transaction `k` after one more expiry. -/
def expired (k : Tracker) : Tracker := { k with expiries := k.expiries + 1 }

/-- A transaction that awaits no answer of a snoop: no BIAck, no aggregate, no announced write (R137). -/
structure SnoopsDone (k : Tracker) : Prop where
  bi : k.bi = []
  agg : k.agg = []
  announced : k.announced = []
  bcast : k.bcast = none

/-- The expiry of such a transaction is recorded. It declares no agent lost; that the tracker is set twice is
R137's order, whose second step clears the regions awaited. -/
def expiryRecorded (s : State) (x t : Nat) (k : Tracker) : State :=
  setTrk (setTrk (recordAwaited s x k) x t (expired k)) x t (expired k)

theorem expiryRecorded_getTrk (s : State) (x t : Nat) (k : Tracker) : getTrk (expiryRecorded s x t k) x t = some (expired k) :=
  getTrk_setTrk_same ..

theorem expiryRecorded_getReg (s : State) (x t : Nat) (k : Tracker) (o : Nat) :
    getReg (expiryRecorded s x t k) o = getReg (recordAwaited s x k) o :=
  (getReg_setTrk ..).trans (getReg_setTrk ..)

section
variable {k : Tracker} (h : SnoopsDone k)
include h

theorem unanswered_of_snoopsDone (s : State) : unanswered s k = [] := by
  unfold unanswered
  rw [h.bcast]

theorem recordAwaited_of_data (s : State) (x : Nat) (hd : k.datas ≠ []) :
    recordAwaited s x k = recordExpiry s x k.line 4 0x3FF := by
  simp [recordAwaited, h.bi, h.agg, h.announced, hd]

theorem recordAwaited_of_ack (s : State) (x : Nat) (hd : k.datas = []) (hp : k.phase = .ack) :
    recordAwaited s x k = recordExpiry s x k.line 5 0x3FF := by
  simp [recordAwaited, h.bi, h.agg, h.announced, hd, hp]

end

section
variable {s : State} (hf : s.dev.fabReset = false) {x : Fin 32} {t : Fin 256}
include hf

theorem exec_homeTimeout_of_free (hk : getTrk s x t = none) : exec (.homeTimeout x t) s = .next s := by
  show execHomeTimeout x t s = _
  rw [execHomeTimeout, onFabric_of_running hf]
  dsimp only
  rw [hk]

section
variable {k : Tracker} (hk : getTrk s x t = some k)
include hk

theorem exec_homeTimeout_of_still (h : timerRuns s k = false) : exec (.homeTimeout x t) s = .next s := by
  show execHomeTimeout x t s = _
  rw [execHomeTimeout, onFabric_of_running hf]
  dsimp only
  rw [hk]
  exact congrArg Host.Outcome.next (if_pos (by simp [h]))

variable (hr : timerRuns s k = true) (h : SnoopsDone k)
include hr h

theorem exec_homeTimeout_of_data (hd : k.datas ≠ []) :
    exec (.homeTimeout x t) s = .next (settleSlice (endFailed (expiryRecorded s x t k) x t (expired k) 2) x) := by
  show execHomeTimeout x t s = _
  rw [execHomeTimeout, onFabric_of_running hf]
  dsimp only
  rw [hk]
  simp only [hr, Bool.not_true, Bool.false_eq_true, if_false, unanswered_of_snoopsDone h, h.bi, h.agg, h.announced, forAll,
    List.foldl_nil, List.append_nil, getTrk_setTrk_same, if_pos hd, expiryRecorded, expired]

theorem exec_homeTimeout_of_ack (hd : k.datas = []) (hp : k.phase = .ack) :
    exec (.homeTimeout x t) s = .next (settleSlice (closeTrk (expiryRecorded s x t k) x t (expired k)) x) := by
  show execHomeTimeout x t s = _
  rw [execHomeTimeout, onFabric_of_running hf]
  dsimp only
  rw [hk]
  simp only [hr, Bool.not_true, Bool.false_eq_true, if_false, unanswered_of_snoopsDone h, h.bi, h.agg, h.announced, forAll,
    List.foldl_nil, List.append_nil, getTrk_setTrk_same, if_neg (not_not_intro hd), hp, expiryRecorded, expired]

end

/-! ### Expiry of a request -/

section
variable {a : Agent} {tag : BitVec 10}

theorem exec_requestTimeout_of_other (h : ownAgent s a = false) : exec (.requestTimeout a tag) s = .next s :=
  congrArg Host.Outcome.next ((onFabric_of_running hf _).trans (if_pos (by simp [h])))

variable (hown : ownAgent s a = true)
include hown

theorem exec_requestTimeout_of_host (hlt : localAgent a < 128) :
    exec (.requestTimeout a tag) s = .next (settleAll (hostTimeout s (localAgent a) tag)) :=
  congrArg Host.Outcome.next ((onFabric_of_running hf _).trans ((if_neg (by simp [hown])).trans (if_pos hlt)))

theorem exec_requestTimeout_of_coach (hge : 128 ≤ localAgent a) (hc : isCoach a = true) :
    exec (.requestTimeout a tag) s = .next (settleAll (coachTimeout s (coachNo a) tag)) :=
  congrArg Host.Outcome.next ((onFabric_of_running hf _).trans
    ((if_neg (by simp [hown])).trans ((if_neg (Nat.not_lt.2 hge)).trans (if_pos hc))))

end

end

/-! ### Loss notices -/

/-- The region services send the notice of an even slice on to the odd one (R285). -/
def noticePassedOn (u : State) (x : Fin 32) (a : Agent) : State :=
  { u with flight := u.flight ++ [⟨.lossNotice (Fin.ofNat 32 (x.val + 1)) a, servicesEp (x.val / 2), servicesEp (x.val / 2), .snp,
    false, 0, 0, BitVec.ofNat 16 u.noc.cellTime, 0, false, none⟩] }

theorem frame_flight (s : State) (l : List Msg) : Frame [.flight] s { s with flight := l } := by
  refine ⟨rfl, fun p hp => ?_⟩
  cases p
  case flight => simp at hp
  case settings => exact fun _ _ => rfl
  all_goals rfl

section
variable {s u : State} (hf : s.dev.fabReset = false) {x : Fin 32} {a : Agent} (ha : Arrives s (.lossNotice x a) u)
include hf ha

theorem exec_lossNotice_of_odd (h : x.val % 2 = 1) : exec (.lossNotice x a) s = .next (takeNotice u x a) := by
  rw [exec_of_arrives rfl hf ha]
  exact congrArg Host.Outcome.next (if_pos h)

theorem exec_lossNotice_of_even (h : x.val % 2 = 0) (hown : ownAgent u a = false) :
    exec (.lossNotice x a) s = .next (if unitDown (noticePassedOn u x a) (.slice x) then noticePassedOn u x a
      else takeNotice (noticePassedOn u x a) x a) := by
  rw [exec_of_arrives rfl hf ha]
  simp only [h, hown, Nat.zero_ne_one, Bool.false_eq_true, if_false, false_and, and_false]
  rfl

end

/-- Slice `x`, which is not scanning, has added agent `a` to its lost set, dropped its waiting requests and shows a scan
(R147). -/
def noticeTaken (u : State) (x : Nat) (a : Agent) : State :=
  wrBit (withDir u { u.dir with
    lost := sPut u.dir.lost x [] (lostSet u x ++ [a])
    waits := u.dir.waits.filter (fun w => ! (w.slice == x && w.req.m.src == a)) }) (R.DIR_LOST_STATUS x) 31 true

theorem takeNotice_of_new {u : State} {x : Nat} {a : Agent} (hs : rdBit u (R.DIR_LOST_STATUS x) 31 = false)
    (hl : isLost u x a = false) : takeNotice u x a =
      settleSlice ((trksOf (noticeTaken u x a) x).foldl (fun w e => lossInTrk w x a e.1) (noticeTaken u x a)) x := by
  simp only [takeNotice, hs, hl, Bool.false_eq_true, if_false, forAll, noticeTaken]

section
variable (u : State) (x : Nat) (a : Agent)

theorem lostSet_noticeTaken : lostSet (noticeTaken u x a) x = lostSet u x ++ [a] := sGet_sPut_same ..

theorem noticeTaken_drops {w : Waiter} (hw : w ∈ (noticeTaken u x a).dir.waits) (hx : w.slice = x) : w.req.m.src ≠ a := by
  intro hsrc
  simpa [hx, hsrc] using (List.mem_filter.1 hw).2

theorem noticeTaken_scans : bitAt (getReg (noticeTaken u x a) (R.DIR_LOST_STATUS x)) 31 = true := by
  rw [noticeTaken, getReg_wrBit_same, bitAt_putFld_same _ _ _ (by decide)]

theorem noticeTaken_regsBut : RegsBut [R.DIR_LOST_STATUS x] u (noticeTaken u x a) :=
  regsBut_wrBit (fun _ _ => rfl) (List.mem_singleton_self _) _ _

end

/-! ### The end of a purge scan -/

/-- The scan of slice `x` has gone over its entries (R149). -/
def scanned (s : State) (x : Nat) : State :=
  (s.dir.ways.filter (fun e => e.1 / 131072 == x)).foldl (fun u e => scanEntry u x e) s

/-- The lost set of slice `x` holds the agents that came late, for which another scan is shown. -/
def scanEnded (v : State) (x : Nat) : State :=
  wrBit (wrBit (withDir v { v.dir with
    lost := sPut v.dir.lost x [] (sGet v.dir.lostLate x []), lostLate := sPut v.dir.lostLate x [] [] })
    (R.DIR_LOST_STATUS x) 30 false) (R.DIR_LOST_STATUS x) 31 (! (sGet v.dir.lostLate x []).isEmpty)

section
variable {s : State} (hf : s.dev.fabReset = false) {x : Fin 32}
include hf

theorem exec_purgeScanDone_of_idle (h : rdBit s (R.DIR_LOST_STATUS x) 31 = false) : exec (.purgeScanDone x) s = .next s :=
  congrArg Host.Outcome.next ((onFabric_of_running hf _).trans (if_pos (by simp [h])))

theorem exec_purgeScanDone_of_scanning (h : rdBit s (R.DIR_LOST_STATUS x) 31 = true) :
    exec (.purgeScanDone x) s = .next (settleSlice (scanEnded (scanned s x) x) x) :=
  congrArg Host.Outcome.next ((onFabric_of_running hf _).trans (if_neg (by simp [h])))

end

/-- Settles O33: a transaction without snoops to await ends by what it awaits, and a notice adds the agent before it goes over the
open transactions. -/
theorem timeoutsAndLoss : Obligations.TimeoutsAndLoss := by
  intro x t a tag s hf
  refine ⟨exec_homeTimeout_of_free hf, fun k hk => exec_homeTimeout_of_still hf hk,
    fun k e hk hr hbi hagg hann hbc he => ?expiry, fun hown => exec_requestTimeout_of_host hf hown,
    fun hown => exec_requestTimeout_of_coach hf hown, exec_requestTimeout_of_other hf, fun u ha => exec_lossNotice_of_odd hf ha,
    fun u ha h hown => ?even, fun u hs hl => ?taken, exec_purgeScanDone_of_idle hf, fun h v hv => ?scanEnd⟩
  case expiry =>
    obtain rfl : e = expired k := he
    have h : SnoopsDone k := ⟨hbi, hagg, hann, hbc⟩
    refine ⟨fun hd hp => ⟨expiryRecorded s x t k, expiryRecorded_getTrk .., ?_, exec_homeTimeout_of_ack hf hk hr h hd hp⟩,
      fun hd => ⟨expiryRecorded s x t k, expiryRecorded_getTrk .., ?_, exec_homeTimeout_of_data hf hk hr h hd⟩⟩
    · rw [expiryRecorded_getReg, expiryRecorded_getReg, recordAwaited_of_ack h s x hd hp]
      exact recordExpiry_shows s x k.line 5
    · rw [expiryRecorded_getReg, expiryRecorded_getReg, recordAwaited_of_data h s x hd]
      exact recordExpiry_shows s x k.line 4
  case even =>
    exact ⟨noticePassedOn u x a, rfl, rfl, frame_flight u _, ⟨_, List.mem_concat_self, rfl⟩,
      exec_lossNotice_of_even hf ha h hown⟩
  case taken =>
    exact ⟨noticeTaken u x a, takeNotice_of_new hs hl, lostSet_noticeTaken u x a, fun w => noticeTaken_drops u x a,
      noticeTaken_scans u x a, noticeTaken_regsBut u x a⟩
  case scanEnd =>
    obtain rfl : v = scanned s x := hv
    exact exec_purgeScanDone_of_scanning hf h

end Sys2Proof.Proofs
end

section
/-! SUPPORT. The work of coaches, of 05_coaches: how a coach takes units and steals them in its house or from another, what a house
grants or refuses, and how the end of a stolen unit returns. -/

namespace Sys2Proof.Proofs

open Sys2Proof.Machine Sys2Proof.Laws

/-! ### Taking a unit -/

/-- Coach `k`, whose own deque gives its free pipe `p` nothing, steals: in its house, and else from the other houses, the nearest
first and one at a time (R187, assumption 97). -/
def thieve (v : State) (k p : Nat) : State :=
  let r := if localEn v (houseOf k) then stealLocal v k p (victims v k) else (v, false)
  if ! r.2 && remoteEn v (houseOf k) && (sGet v.co.stealing k []).isEmpty && dequeRoom r.1 k then
    askHouse r.1 k (housesFrom (houseOf k))
  else r.1

section
variable {v t : State} {k p : Nat}

theorem thieve_of_stolen (hl : localEn v (houseOf k) = true) (hs : stealLocal v k p (victims v k) = (t, true)) :
    thieve v k p = t := by
  simp [thieve, hl, hs]

theorem thieve_of_remote (hl : localEn v (houseOf k) = false) (hr : remoteEn v (houseOf k) = true)
    (hs : sGet v.co.stealing k [] = []) (hd : dequeRoom v k = true) :
    thieve v k p = askHouse v k (housesFrom (houseOf k)) := by
  simp [thieve, hl, hr, hs, hd]

theorem thieve_of_disabled (hl : localEn v (houseOf k) = false) (hr : remoteEn v (houseOf k) = false) : thieve v k p = v := by
  simp [thieve, hl, hr]

end

section
variable {s : State} {k : Fin 256} (hf : s.dev.fabReset = false)
include hf

theorem exec_coachTakeUnit_of_busy (hp : freePipe (adoptRanges s k) k = none) :
    exec (.coachTakeUnit k) s = .next (adoptRanges s k) := by
  show execCoachTakeUnit k s = _
  rw [execCoachTakeUnit, onFabric_of_running hf]
  dsimp only
  rw [hp]

theorem exec_coachTakeUnit_of_free {p : Nat} (hp : freePipe (adoptRanges s k) k = some p) : exec (.coachTakeUnit k) s =
    .next ((takeOwn (adoptRanges s k) k p).getD (thieve (adoptRanges s k) k p)) := by
  show execCoachTakeUnit k s = _
  rw [execCoachTakeUnit, onFabric_of_running hf]
  dsimp only
  rw [hp]
  dsimp only
  cases takeOwn (adoptRanges s k) k p <;> rfl

end

/-! ### Remote steals -/

/-- House `h` has found no unit for the thief of `m`, and says so (R188). -/
def stealRefused (u : State) (h : Fin 16) (m : StealMsg) : State :=
  sendFrom u (houseEp h) (.stealrep { thief := m.thief, owner := coachAgent u (16 * h) })

/-- House `h` has granted the last `n` units of its range `r`, which were released before, to the thief of `m`; until its answer
arrives they are in transit (R188, assumption 98). -/
def stealGranted (u : State) (h : Fin 16) (m : StealMsg) (r : UnitRange) (n : Nat) : State :=
  let t := shrinkRange (perfHit u (houseOf (coachNo m.thief)) 0x10 0 1 1) r { r with count := r.count - n }
  sendFrom
    (withCo t { t.co with transit := t.co.transit ++
      [{ r with first := r.first + (r.count - n), count := n, house := houseOf (coachNo m.thief), coach := none }] })
    (houseEp h)
    (.stealrep { thief := m.thief, owner := r.owner, grant := true, index := BitVec.ofNat 16 r.chan, gen := r.gen
                 first := r.first + (r.count - n), count := n, entry := BitVec.ofNat 12 r.entry, desc := r.bits })

/-- The thief `k` of `m` has its answer: it asks no house, and the range `r` is no longer in transit. -/
def stealAnswered (u : State) (m : StealMsg) (r : UnitRange) : State :=
  let v := setStealing (unreserve u (.steal m.thief)) (coachNo m.thief) []
  withCo v { v.co with transit := v.co.transit.erase r }

/-- The range that the grant `m` names is in transit (R188). -/
def InTransit (u : State) (m : StealMsg) (r : UnitRange) : Prop :=
  u.co.transit.find? (fun r => r.chan == m.index.toNat && r.gen == m.gen && r.entry == m.entry.toNat && r.first == m.first) = some r

/-- The granted range `r` enters the deque of coach `k`: a free pipe takes its lowest unit, and a coach out of service passes it
on (R188, R203). -/
def enterDeque (y : State) (k : Nat) (r : UnitRange) : State :=
  let w := { r with coach := some k }
  let x := putRange y w
  if ! coachUp x k then passRange x w k else (freePipe x k).elim x (fun p => (takeUnit x k p w).getD x)

theorem enterDeque_of_busy {y : State} {k : Nat} {r : UnitRange} (hup : coachUp y k = true)
    (hp : freePipe (putRange y { r with coach := some k }) k = none) :
    enterDeque y k r = putRange y { r with coach := some k } := by
  have hup' : coachUp (putRange y { r with coach := some k }) k = true := hup
  simp [enterDeque, hup', hp]

theorem enterDeque_of_down {y : State} {k : Nat} {r : UnitRange} (hdown : coachUp y k = false) :
    enterDeque y k r = passRange (putRange y { r with coach := some k }) { r with coach := some k } k := by
  have hdown' : coachUp (putRange y { r with coach := some k }) k = false := hdown
  simp [enterDeque, hdown']

theorem stealAnswered_stealing (u : State) (m : StealMsg) (r : UnitRange) :
    sGet (stealAnswered u m r).co.stealing (coachNo m.thief) [] = [] := by
  simp [stealAnswered, setStealing, withCo]

theorem stealAnswered_frame (u : State) (m : StealMsg) (r : UnitRange) :
    Frame [.co] (unreserve u (.steal m.thief)) (stealAnswered u m r) :=
  (withCo_st (q0 := keep [.co]) (withCo_st (Steady.refl _ _) rfl) rfl).frame

section
variable {s u : State} {h : Fin 16} {m : StealMsg} (hf : s.dev.fabReset = false)
include hf

theorem exec_stealreq_of_disabled (ha : Arrives s (.stealreq h m) u) (hr : remoteEn u h = false) :
    exec (.stealreq h m) s = .next (stealRefused u h m) := by
  rw [exec_of_arrives rfl hf ha]
  dsimp only
  rw [hr]
  rfl

theorem exec_stealreq_of_released (ha : Arrives s (.stealreq h m) u) (hr : remoteEn u h = true) {r : UnitRange} {n : Nat}
    {w : Nat × Nat} (hb : bestRange (grantable u h (houseOf (coachNo m.thief)) (max 1 m.minimum.toNat)) = some (r, n))
    (hw : r.released = some w) (hn : 0 < n) : exec (.stealreq h m) s = .next (stealGranted u h m r n) := by
  rw [exec_of_arrives rfl hf ha]
  simp only [hr, if_true, hb, hw, Nat.ne_of_gt hn, if_false]
  rw [← hw]
  rfl

theorem exec_stealrep_of_refused (ha : Arrives s (.stealrep m) u) (hg : m.grant = false)
    (hup : coachUp (unreserve u (.steal m.thief)) (coachNo m.thief) = true) : exec (.stealrep m) s =
      .next (askHouse (unreserve u (.steal m.thief)) (coachNo m.thief)
        ((sGet (unreserve u (.steal m.thief)).co.stealing (coachNo m.thief) []).drop 1)) := by
  rw [exec_of_arrives rfl hf ha, if_pos (by simp [hg]), if_pos hup]

theorem exec_stealrep_of_granted {r : UnitRange} (ha : Arrives s (.stealrep m) u) (hg : m.grant = true) (ht : InTransit u m r) :
    exec (.stealrep m) s = .next (enterDeque (stealAnswered u m r) (coachNo m.thief) r) := by
  have ht' : InTransit (setStealing (unreserve u (.steal m.thief)) (coachNo m.thief) []) m r := ht
  rw [exec_of_arrives rfl hf ha, if_neg (by simp [hg])]
  dsimp only
  rw [ht']
  rfl

theorem exec_unitend_of_arrives (ha : Arrives s (.unitend m) u) : exec (.unitend m) s =
    .next (startDescs (unitEnded u m.index.toNat m.gen m.entry.toNat ⟨m.first, m.status.toNat, m.errOffset.toNat⟩
      (m.result0, m.result1))) := by
  rw [exec_of_arrives rfl hf ha]

end

/-- Settles O37: a free pipe is filled from the coach's own deque or by stealing, and each answer to a thief says what it does next. -/
theorem coachWork : Obligations.CoachWork := by
  intro k h m s u hf
  refine ⟨fun v hv => ?take, fun ha hr => exec_stealreq_of_disabled hf ha hr, fun ha hr r n w t hb hw hn ht => ?grant,
    fun k v hk hv => ⟨fun ha hg hup => ?refused, fun ha hg r hr => ?granted⟩, exec_unitend_of_arrives hf⟩
  case take =>
    subst hv
    refine ⟨exec_coachTakeUnit_of_busy hf, fun p t hp ho => ?_, fun p t hp ho hl hs => ?_, fun p hp ho hl => ⟨fun hr hs hd => ?_,
      fun hr => ?_⟩⟩ <;> rw [exec_coachTakeUnit_of_free hf hp, ho]
    · rfl
    · exact congrArg _ (thieve_of_stolen hl hs)
    · exact congrArg _ (thieve_of_remote hl hr hs hd)
    · exact congrArg _ (thieve_of_disabled hl hr)
  case grant =>
    subst ht
    rw [exec_stealreq_of_released hf ha hr hb hw hn, stealGranted]
  case refused =>
    rw [hv, hk] at hup ⊢
    rw [exec_stealrep_of_refused hf ha hg hup]
  case granted =>
    rw [hv, hk]
    refine ⟨stealAnswered u m r, stealAnswered_stealing .., rfl, stealAnswered_frame .., fun hup hp => ?_, fun hdown => ?_⟩ <;>
      rw [exec_stealrep_of_granted hf ha hg hr]
    · rw [enterDeque_of_busy hup hp]
    · rw [enterDeque_of_down hdown]

end Sys2Proof.Proofs
end

section
/-! SUPPORT. The broadcasts of MIGRATE and TAGSET, of 05_coaches: what a region does with a slot of a migration and with a tag line,
and what an acknowledgement or the end of a step's time does to the unit that broadcast. -/

namespace Sys2Proof.Proofs

open Sys2Proof.Machine Sys2Proof.Laws

/-! ### Slots of a region -/

theorem migSlot_setSlot_same (s : State) (n i : Nat) (v : MigSlot) : migSlot (setSlot s n i v) n i = v := by
  simp [migSlot, setSlot, withDp]

theorem migSlot_setSlot_other (s : State) {n i a b : Nat} (h : a * 16 + b ≠ n * 16 + i) (v : MigSlot) :
    migSlot (setSlot s n i v) a b = migSlot s a b := sGet_sPut_other s.dp.slots _ _ _ h

/-- Region `n` has marked busy the granule that `m` names (R195). -/
def slotMarked (u : State) (n : Fin 16) (m : MigMsg) : State :=
  setSlot u n m.slot { migSlot u n m.slot with
    valid := true, segment := m.segment.toNat, w := m.w, running := some m.coach, busy := true }

/-- Region `n` has sent the accesses held at the granule to its new location and moved the watermark of the slot on (R195, R196). -/
def slotAdvanced (u : State) (n : Fin 16) (m : MigMsg) : State :=
  setSlot (redirectHeld u n m.slot) n m.slot { migSlot (redirectHeld u n m.slot) n m.slot with w := m.w, busy := false }

/-- Region `n` has freed the granule of slot `i`, whose migration no coach runs now (R198). -/
def slotFreed (u : State) (n i : Fin 16) : State :=
  setSlot u n i { migSlot u n i with busy := false, running := none }

section
variable {s u : State} {n : Fin 16} {m : MigMsg} (hf : s.dev.fabReset = false)
include hf

theorem exec_migmark_of_arrives (ha : Arrives s (.migmark n m) u) :
    exec (.migmark n m) s = .next (send (slotMarked u n m) (.migack m.slot .mark n u.dev.pid)) := by
  rw [exec_of_arrives rfl hf ha]
  rfl

theorem exec_migadvance_of_arrives (ha : Arrives s (.migadvance n m) u) (hw : m.w ≠ 262144) : exec (.migadvance n m) s =
    .next (pumpSlot (send (slotAdvanced u n m) (.migack m.slot .advance n (redirectHeld u n m.slot).dev.pid)) m.slot n) := by
  rw [exec_of_arrives rfl hf ha]
  dsimp only
  rw [if_neg hw]
  rfl

theorem exec_migunmark_of_arrives (ha : Arrives s (.migunmark n m) u) : exec (.migunmark n m) s =
    .next (pumpSlot (slotFreed (send u (.migack m.slot .unmark n u.dev.pid)) n m.slot) m.slot n) := by
  rw [exec_of_arrives rfl hf ha]
  rfl

end

/-! ### Acknowledgements -/

/-- The unit of house `h` that awaits the acknowledgement of region `n` of twin `pid` for tag line `line` (R83). -/
def tagWaiter (u : State) (h : Fin 16) (line : LAddr) (n : Fin 16) (pid : Bool) : Option UnitRun :=
  u.co.units.find? (fun y => houseOf y.coach == h.val && y.phase == .tagInv && y.acks.contains (16 * pid.toNat + n) &&
    colourLineOf u (tagGranule y) == some line)

section
variable {s u : State} {n i h : Fin 16} {line : LAddr} {pid : Bool} (hf : s.dev.fabReset = false)
include hf

theorem exec_migack_of_stray {kind : MigKind} (ha : Arrives s (.migack i kind n pid) u) (hu : slotUnit u i = none) :
    exec (.migack i kind n pid) s = .next u := by
  rw [exec_of_arrives rfl hf ha, hu]

theorem exec_migack_of_awaited {kind : MigKind} {v : UnitRun} (ha : Arrives s (.migack i kind n pid) u)
    (hu : slotUnit u i = some v) (hp : v.phase = ackPhase kind) :
    exec (.migack i kind n pid) s = .next (answerFrom u v n pid) := by
  rw [exec_of_arrives rfl hf ha, hu]
  exact congrArg Host.Outcome.next (if_pos hp)

theorem exec_tagack_of_arrives (ha : Arrives s (.tagack h line n pid) u) :
    exec (.tagack h line n pid) s = .next ((tagWaiter u h line n pid).elim u (fun v => answerFrom u v n pid)) := by
  rw [exec_of_arrives rfl hf ha]
  dsimp only
  rw [← tagWaiter]
  cases tagWaiter u h line n pid <;> rfl

end

/-! ### Tag lines -/

section
variable {s u : State} {n h : Fin 16} {line : LAddr} (hf : s.dev.fabReset = false)
include hf

theorem exec_taginv_of_own (ha : Arrives s (.taginv n h u.dev.pid line) u) : exec (.taginv n h u.dev.pid line) s =
    .next (send (tagDropLine u n line) (.tagack h line n u.dev.pid)) := by
  rw [exec_of_arrives rfl hf ha]
  exact congrArg Host.Outcome.next (if_pos rfl)

theorem exec_taginv_of_other (ha : Arrives s (.taginv n h (! u.dev.pid) line) u) : exec (.taginv n h (! u.dev.pid) line) s =
    .next (sendTwin (tagDropLine u n line) (servicesEp n) (.tagack h line n u.dev.pid)) := by
  rw [exec_of_arrives rfl hf ha]
  exact congrArg Host.Outcome.next (if_neg (Bool.not_ne_self u.dev.pid))

end

/-! ### The end of a step's time -/

/-- The migration step of unit `v` has failed with TIMEOUT: its landing cells are free and its requests have ended (R198,
R200). -/
def stepFailed (s : State) (v : UnitRun) : State :=
  let t := freeLanding s (failUnit v 7 0)
  withCo t { t.co with
    reqs := t.co.reqs.map (fun r => if r.coach = v.coach ∧ r.pipe = some v.pipe then { r with ended := true } else r) }

section
variable {s : State} {i : Fin 16} (hf : s.dev.fabReset = false)
include hf

theorem exec_migStepTimeout_of_free (hu : slotUnit s i = none) : exec (.migStepTimeout i) s = .next s := by
  show execMigStepTimeout i s = _
  rw [execMigStepTimeout, onFabric_of_running hf, hu]

section
variable {v : UnitRun} (hu : slotUnit s i = some v)
include hu

theorem exec_migStepTimeout_of_unmark (hp : v.phase = .unmark) : exec (.migStepTimeout i) s = .next s := by
  show execMigStepTimeout i s = _
  rw [execMigStepTimeout, onFabric_of_running hf, hu]
  exact congrArg Host.Outcome.next (if_pos hp)

theorem exec_migStepTimeout_of_unfinished (hp : v.phase ≠ .unmark) : exec (.migStepTimeout i) s =
    .next (pumpUnit (migCast (stepFailed s v) { failUnit v 7 0 with cells := 0, reads := [], writes := [] } .unmark
      (slotW (stepFailed s v) v)) v.coach v.pipe none) := by
  show execMigStepTimeout i s = _
  rw [execMigStepTimeout, onFabric_of_running hf, hu]
  exact congrArg Host.Outcome.next (if_neg hp)

end

end

/-- Settles O39: each message is one update of a slot, a unit or a tag line, and what goes out follows from it. -/
theorem migrationMessages : Obligations.MigrationMessages := by
  intro n m s u hf
  refine ⟨fun ha => ?mark, exec_migadvance_of_arrives hf, fun ha x hx => ?unmark,
    fun i kind pid ha => ⟨exec_migack_of_stray hf ha, fun v hu hp => exec_migack_of_awaited hf ha hu hp⟩,
    fun i => ⟨exec_migStepTimeout_of_free hf, fun v hu => exec_migStepTimeout_of_unmark hf hu, fun v hu hp => ?timeout⟩,
    fun h line ha _ => exec_taginv_of_own hf ha, fun h line ha _ => exec_taginv_of_other hf ha, fun h line pid f ha hx => ?tagack⟩
  case mark =>
    exact ⟨slotMarked u n m, exec_migmark_of_arrives hf ha, migSlot_setSlot_same .., fun a b h => migSlot_setSlot_other u h _,
      (setSlot_st (q0 := keep [.dp]) (Steady.refl _ u) rfl).frame⟩
  case unmark =>
    subst hx
    exact exec_migunmark_of_arrives hf ha
  case timeout => exact ⟨stepFailed s v, exec_migStepTimeout_of_unfinished hf hu hp, rfl⟩
  case tagack =>
    obtain rfl : f = tagWaiter u h line n pid := hx
    rw [exec_tagack_of_arrives hf ha]
    exact ⟨fun hn => by rw [hn]; rfl, fun v hv => by rw [hv]; rfl⟩

end Sys2Proof.Proofs
end

section
/-! SUPPORT. The life of a coach, of 05_coaches: a fault, an orderly retirement and its end, a reset with its self-test, and the
return to service. -/

namespace Sys2Proof.Proofs

open Sys2Proof.Machine Sys2Proof.Laws

/-! ### A coach's registers -/

theorem coachStatus_ne_ctrl (k : Nat) : R.COACH_STATUS k ≠ R.COACH_CTRL k := by
  unfold R.COACH_STATUS R.COACH_CTRL
  omega

theorem coachStatus_ne_fault (k : Nat) : R.COACH_STATUS k ≠ R.COACH_FAULT k := by
  unfold R.COACH_STATUS R.COACH_FAULT
  omega

/-- STATE reads as it was last set. -/
theorem setCoachState_state (s : State) (k : Nat) {v : Nat} (h : v < 4) :
    fld (getReg (setCoachState s k v) (R.COACH_STATUS k)) 1 0 = v := by
  rw [setCoachState, getReg_wr_same, fld_putFld _ _ _ _ (by decide) (by decide)]
  exact Nat.mod_eq_of_lt h

theorem setCoachState_getReg_other (s : State) {k o : Nat} (h : o ≠ R.COACH_STATUS k) (v : Nat) :
    getReg (setCoachState s k v) o = getReg s o := getReg_wr_other s h ..

theorem mem_ite_contains_append {α : Type} [DecidableEq α] (l : List α) (a : α) : a ∈ (if l.contains a then l else l ++ [a]) := by
  split
  · next h => exact List.contains_iff_mem.1 h
  · exact List.mem_concat_self

/-! ### Faults -/

/-- COACH_FAULT shows the cause, STATE shows 3, and the coach's event is raised (R203, R207). -/
def faultShown (u : State) (k : Nat) (cause : CoachCause) : State :=
  raiseEv (setCoachState (wr u (R.COACH_FAULT k) 3 0 (causeCode cause)) k 3) (coachEv k)

/-- Coach `k` has lost its line cache with what it holds for DataGo and what waits to leave, asks no house, and is fenced
(R203). -/
def cutOff (t : State) (k : Fin 256) : State :=
  addFence { t with co := { t.co with
    cache := sDrop t.co.cache (fun i => i / 64 == k.val), held := t.co.held.filter (fun c => c.coach != k.val)
    victims := t.co.victims.filter (fun v => v.1 != k.val), stealing := sDel t.co.stealing k } } (.coach k)

/-- What coach `k` has not finished goes to others: its deque, the units it runs and its retire stages (R203). -/
def workPassed (v : State) (k : Nat) : State :=
  startDescs (passDescs (((passDeque v k).co.units.filter (fun y => y.coach == k)).foldl reExecute (passDeque v k)) k)

theorem mem_fenced_addFence_coach (s : State) (k : Fin 256) : FenceUnit.coach k ∈ (addFence s (.coach k)).dev.fenced :=
  mem_ite_contains_append s.dev.fenced _

section
variable {s u : State} {k : Fin 256} {cause : CoachCause} (hf : s.dev.fabReset = false) (ha : Arrives s (.coachFault k cause) u)
include hf ha

theorem exec_coachFault_of_retired (h : 2 ≤ coachState u k) : exec (.coachFault k cause) s = .next u := by
  rw [exec_of_arrives rfl hf ha]
  exact congrArg Host.Outcome.next (if_pos h)

theorem exec_coachFault_of_serving (h : coachState u k < 2) : exec (.coachFault k cause) s =
    .next (workPassed (if cause = .declaredLost then cutOff (faultShown u k cause) k
      else noticeLoss (cutOff (faultShown u k cause) k) (servicesEp (houseOf k))
        (coachAgent (cutOff (faultShown u k cause) k) k)) k) := by
  rw [exec_of_arrives rfl hf ha]
  exact congrArg Host.Outcome.next (if_neg (Nat.not_le.2 h))

end

/-! ### Orderly retirement -/

/-- Nothing of coach `k` is under way, and its cache is empty (R204). -/
def CoachIdle (s : State) (k : Nat) : Prop :=
  s.co.units.all (fun u => u.coach != k) = true ∧ s.co.reqs.all (fun r => r.coach != k || r.ended) = true ∧ cacheEmpty s k = true

section
variable {s : State} {k : Fin 256} (hf : s.dev.fabReset = false)
include hf

theorem exec_coachRetire_of_running : exec (.coachRetire k) s =
    .next (if parentDown s (.coach k) then s else startRetire s k) :=
  congrArg Host.Outcome.next (onFabric_of_running hf _)

theorem exec_coachRetireDone_of_idle (hs : coachState s k = 1) (hi : CoachIdle s k) : exec (.coachRetireDone k) s =
    .next (setCoachState (noticeLoss s (servicesEp (houseOf k)) (coachAgent s k)) k 2) := by
  obtain ⟨hu, hr, hc⟩ := hi
  have hu' : s.co.units.any (fun u => u.coach == k.val) = false := by
    simpa using hu
  have hr' : s.co.reqs.any (fun r => r.coach == k.val && ! r.ended) = false := by
    simpa [imp_iff_not_or] using hr
  show execCoachRetireDone k s = _
  simp [execCoachRetireDone, onFabric_of_running hf, hs, hu', hr', hc]

theorem exec_coachRetireDone_of_other (hs : coachState s k ≠ 1) : exec (.coachRetireDone k) s = .next s := by
  show execCoachRetireDone k s = _
  simp [execCoachRetireDone, onFabric_of_running hf, hs]

end

theorem startRetire_of_active {s : State} {k : Nat} (h : coachState s k = 0) : startRetire s k =
    startDescs (passDescs (passDeque (flushCache (raiseEv (setCoachState s k 1) (coachEv k)) k) k) k) := if_neg (by simp [h])

theorem startRetire_of_other {s : State} {k : Nat} (h : coachState s k ≠ 0) : startRetire s k = s := if_pos h

/-! ### Reset and self-test -/

theorem resetCoach_of_serving {s : State} {k : Fin 256} (h : coachState s k < 2) : resetCoach s k = s := if_pos h

/-- The registers of coach `k` are as after a cell-level reset, but for STATE, which stays (R205). -/
def coachCleared (s : State) (k : Nat) : State :=
  setCoachState (clearRegs s (fun o => decide (R.COACH_CTRL k ≤ o) && decide (o < R.COACH_CTRL k + 0x100) && levelOf o == .cell))
    k (coachState s k)

/-- Coach `k` is held in reset, and its cache and its requests are gone (R205). -/
def coachInReset (u : State) (k : Fin 256) : State :=
  withCo
    { u with dev := { u.dev with held := if u.dev.held.contains (.coach k) then u.dev.held else u.dev.held ++ [.coach k] } }
    { u.co with
      cache := sDrop u.co.cache (fun i => i / 64 == k.val), held := u.co.held.filter (fun c => c.coach != k.val)
      victims := u.co.victims.filter (fun v => v.1 != k.val), reqs := u.co.reqs.filter (fun r => r.coach != k.val) }

theorem resetCoach_of_retired {s : State} {k : Fin 256} (h : 2 ≤ coachState s k) :
    resetCoach s k = coachInReset (coachCleared s k) k := if_neg (Nat.not_lt.2 h)

section
variable (u : State) (k : Fin 256)

theorem mem_held_coachInReset : RUnit.coach k ∈ (coachInReset u k).dev.held := mem_ite_contains_append u.dev.held _

theorem coachInReset_reqs {r : CoachReq} (hr : r ∈ (coachInReset u k).co.reqs) : r.coach ≠ k.val := by
  simpa using (List.mem_filter.1 hr).2

theorem coachInReset_cache {i : Nat} (hi : i / 64 = k.val) : sGet (coachInReset u k).co.cache i [] = [] :=
  (sGet_sDrop u.co.cache (fun i => i / 64 == k.val) i []).trans (if_pos (beq_iff_eq.2 hi))

end

theorem resetCoach_frame (s : State) (k : Fin 256) : Frame [.regs, .settings, .cap, .dev, .co] s (resetCoach s k) :=
  (resetCoach_st (q0 := keep [.regs, .settings, .cap, .dev, .co]) (Steady.refl _ s) rfl rfl rfl rfl rfl).frame

/-- Coach `k` has left its reset: it is not held or fenced, and it is retired (R205). -/
def leftReset (s : State) (k : Fin 256) : State :=
  setCoachState { s with dev := { s.dev with held := s.dev.held.erase (.coach k), fenced := s.dev.fenced.erase (.coach k) } } k 2

theorem leftReset_regsBut {l : List Nat} (s : State) {k : Fin 256} (h : R.COACH_STATUS k ∈ l) : RegsBut l s (leftReset s k) :=
  regsBut_wr (fun _ _ => rfl) h _ _ _

theorem leftReset_steady (s : State) (k : Fin 256) : Steady (keep [.dev, .regs, .settings]) s (leftReset s k) := by
  refine setCoachState_st ?_ rfl rfl
  apply Steady.upd (Steady.refl _ s) <;> first | exact fun _ => rfl | exact skip rfl

/-- The self-test of coach `k` has passed, which bit 31 of COACH_CTRL keeps (assumption 16). -/
def testPassed (s : State) (k : Fin 256) : State := wrBit (leftReset s k) (R.COACH_CTRL k) 31 true

/-- The self-test of coach `k` has failed: its CAUSE is 5 (R205). -/
def testFailed (s : State) (k : Fin 256) : State := wr (leftReset s k) (R.COACH_FAULT k) 3 0 5

section
variable (s : State) (k : Fin 256)

theorem testPassed_state : fld (getReg (testPassed s k) (R.COACH_STATUS k)) 1 0 = 2 := by
  rw [testPassed, getReg_wrBit_other _ (coachStatus_ne_ctrl k), leftReset, setCoachState_state _ _ (by decide)]

theorem testPassed_done : bitAt (getReg (testPassed s k) (R.COACH_CTRL k)) 31 = true := by
  rw [testPassed, getReg_wrBit_same, bitAt_putFld_same _ _ _ (by decide)]

theorem testPassed_regsBut : RegsBut [R.COACH_STATUS k, R.COACH_CTRL k] s (testPassed s k) :=
  regsBut_wrBit (leftReset_regsBut s (by simp)) (by simp) _ _

theorem testPassed_frame : Frame [.dev, .regs, .settings] s (testPassed s k) :=
  (wrBit_st (leftReset_steady s k) rfl rfl).frame

theorem testFailed_state : fld (getReg (testFailed s k) (R.COACH_STATUS k)) 1 0 = 2 := by
  rw [testFailed, getReg_wr_other _ (coachStatus_ne_fault k), leftReset, setCoachState_state _ _ (by decide)]

theorem testFailed_cause : fld (getReg (testFailed s k) (R.COACH_FAULT k)) 3 0 = 5 := by
  rw [testFailed, getReg_wr_same, fld_putFld _ _ _ _ (by decide) (by decide)]
  rfl

theorem testFailed_regsBut : RegsBut [R.COACH_STATUS k, R.COACH_FAULT k] s (testFailed s k) :=
  regsBut_wr (leftReset_regsBut s (by simp)) (by simp) _ _ _

theorem testFailed_frame : Frame [.dev, .regs, .settings] s (testFailed s k) :=
  (wr_st (leftReset_steady s k) rfl rfl).frame

end

section
variable {s : State} {k : Fin 256} (hf : s.dev.fabReset = false)
include hf

theorem exec_coachReset_of_cellLevel (h : coachState s k < 2 ∨ effLevel s 3 = 0) :
    exec (.coachReset k) s = .next (resetCoach s k) :=
  congrArg Host.Outcome.next ((onFabric_of_running hf _).trans (if_pos h))

theorem exec_coachSelfTestDone_of_released (h : RUnit.coach k ∉ s.dev.held) (pass : Bool) :
    exec (.coachSelfTestDone k pass) s = .next s :=
  congrArg Host.Outcome.next ((onFabric_of_running hf _).trans (if_pos (by simpa using h)))

theorem exec_coachSelfTestDone_of_held (h : RUnit.coach k ∈ s.dev.held) (pass : Bool) :
    exec (.coachSelfTestDone k pass) s = .next (if pass then testPassed s k else testFailed s k) :=
  congrArg Host.Outcome.next ((onFabric_of_running hf _).trans (if_neg (by simpa using h)))

end

/-! ### Return to service -/

/-- Coach `k` is active again, and takes over what its house holds (R205, R206). -/
def reinstated (s : State) (k : Nat) : State :=
  let t := setCoachState (wrBit s (R.COACH_CTRL k) 31 false) k 0
  withCo t { t.co with
    ranges := t.co.ranges.map (fun r => if r.house = houseOf k ∧ r.coach = none then { r with coach := some k } else r)
    descs := t.co.descs.map (fun d =>
      if d.house = houseOf k ∧ d.stage ≠ .done ∧ d.units ≠ 0 ∧ d.owner = none then { d with owner := some k } else d) }

section
variable (s : State) (k : Nat)

theorem reinstated_state : fld (getReg (reinstated s k) (R.COACH_STATUS k)) 1 0 = 0 := by
  rw [reinstated, withCo_getReg, setCoachState_state _ _ (by decide)]

theorem reinstated_done : bitAt (getReg (reinstated s k) (R.COACH_CTRL k)) 31 = false := by
  rw [reinstated, withCo_getReg, setCoachState_getReg_other _ (coachStatus_ne_ctrl k).symm, getReg_wrBit_same,
    bitAt_putFld_same _ _ _ (by decide)]

/-- The house holds no range once one of its coaches is back. -/
theorem reinstated_ranges {r : UnitRange} (hr : r ∈ (reinstated s k).co.ranges) (hh : r.house = houseOf k) : r.coach ≠ none := by
  obtain ⟨x, -, rfl⟩ := List.mem_map.1 hr
  split at hh
  · next h => simp [h]
  · next h =>
    rw [if_neg h]
    exact fun hc => h ⟨hh, hc⟩

theorem reinstated_frame : Frame [.regs, .settings, .co] s (reinstated s k) :=
  (withCo_st (q0 := keep [.regs, .settings, .co]) (setCoachState_st (wrBit_st (Steady.refl _ s) rfl rfl) rfl rfl) rfl).frame

end

section
variable {s : State} {k : Fin 256} (hf : s.dev.fabReset = false)
include hf

theorem exec_coachReinstate_of_passed (hs : coachState s k = 2) (hd : rdBit s (R.COACH_CTRL k) 31 = true) :
    exec (.coachReinstate k) s = .next (startDescs (reinstated s k)) :=
  congrArg Host.Outcome.next ((onFabric_of_running hf _).trans (if_pos ⟨hs, hd⟩))

theorem exec_coachReinstate_of_other (h : coachState s k ≠ 2 ∨ rdBit s (R.COACH_CTRL k) 31 = false) :
    exec (.coachReinstate k) s = .next s :=
  congrArg Host.Outcome.next ((onFabric_of_running hf _).trans
    (if_neg (fun ⟨hs, hd⟩ => h.elim (· hs) (fun hn => Bool.noConfusion (hd.symm.trans hn)))))

end

/-- Settles O40: STATE, the hold of the reset and RESET_DONE choose the branch of each command. -/
theorem coachLife : Obligations.CoachLife := by
  intro k s hf
  refine ⟨fun cause u ha => ⟨exec_coachFault_of_retired hf ha, fun h t d v ht hd hv => ?fault⟩, fun h => ?retireRefused,
    fun hp hs => ?retire, fun hs hu hr hc => exec_coachRetireDone_of_idle hf hs ⟨hu, hr, hc⟩, exec_coachRetireDone_of_other hf,
    fun h => ?resetRefused, fun h hl => ?reset, exec_coachSelfTestDone_of_released hf, fun h => ⟨?passed, ?failed⟩,
    fun hs hd => ?reinstate, exec_coachReinstate_of_other hf⟩
  case fault =>
    obtain rfl : t = faultShown u k cause := ht
    obtain rfl : d = cutOff (faultShown u k cause) k := hd
    subst hv
    exact ⟨mem_fenced_addFence_coach .., exec_coachFault_of_serving hf ha h⟩
  case retireRefused =>
    rw [exec_coachRetire_of_running hf]
    split
    · rfl
    · next hp => rw [startRetire_of_other (h.resolve_left hp)]
  case retire =>
    rw [exec_coachRetire_of_running hf, if_neg (by simp [hp]), startRetire_of_active hs]
  case resetRefused => rw [exec_coachReset_of_cellLevel hf (.inl h), resetCoach_of_serving h]
  case reset =>
    have hframe := resetCoach_frame s k
    rw [resetCoach_of_retired h] at hframe
    exact ⟨_, (exec_coachReset_of_cellLevel hf (.inr hl)).trans (congrArg _ (resetCoach_of_retired h)), mem_held_coachInReset ..,
      fun r => coachInReset_reqs _ k, fun i => coachInReset_cache _ k, hframe⟩
  case passed =>
    exact ⟨_, exec_coachSelfTestDone_of_held hf h true, testPassed_state s k, testPassed_done s k, testPassed_regsBut s k, rfl, rfl,
      testPassed_frame s k⟩
  case failed =>
    exact ⟨_, exec_coachSelfTestDone_of_held hf h false, testFailed_state s k, testFailed_cause s k, testFailed_regsBut s k,
      testFailed_frame s k⟩
  case reinstate =>
    exact ⟨reinstated s k, exec_coachReinstate_of_passed hf hs hd, reinstated_state s k, reinstated_done s k,
      fun r => reinstated_ranges s k, reinstated_frame s k⟩

end Sys2Proof.Proofs
end

section
/-! SUPPORT. The commands on a channel, of 06_channels: what CREATE, DESTROY, RESET and REHOME do and answer, the reset of a
control page, and the abort of an entry of the ring. -/

namespace Sys2Proof.Proofs

open Sys2Proof.Machine Sys2Proof.Laws

/-! ### Contexts and result codes -/

@[simp] theorem chanOf_setChan_same (s : State) (i : Nat) (c : Chan) : chanOf (setChan s i c) i = c := sGet_sPut_same ..

theorem chanOf_setChan_other (s : State) {i j : Nat} (c : Chan) (h : j ≠ i) : chanOf (setChan s i c) j = chanOf s j :=
  sGet_sPut_other _ _ _ _ h

theorem chanOf_setReg (s : State) (o : Nat) (w : Word) (i : Nat) : chanOf (setReg s o w) i = chanOf s i := rfl

theorem chanOf_chanCode (s : State) (code i : Nat) : chanOf (chanCode s code) i = chanOf s i := rfl

theorem chanCode_code (s : State) (code : Nat) : fld (getReg (chanCode s code) R.STX_CHAN_STATUS) 7 0 = code % 256 := by
  rw [chanCode, getReg_wr_same, fld_putFld _ _ _ _ (by decide) (by decide)]
  rfl

theorem chanCode_regsBut (s : State) (code : Nat) : RegsBut [R.STX_CHAN_STATUS] s (chanCode s code) :=
  regsBut_wr (regsBut_refl _ s) (List.mem_singleton_self _) _ _ _

theorem chanCode_frame (s : State) (code : Nat) : Frame [.regs, .settings] s (chanCode s code) :=
  (chanCode_st (q0 := keep [.regs, .settings]) (Steady.refl _ s) rfl rfl).frame

/-- A command that does no more than write a result code. -/
theorem gives_chanCode {s : State} {i : Instr} {code : Nat} (h : exec i s = .next (chanCode s code)) :
    Gives i s (fun t => fld (getReg t R.STX_CHAN_STATUS) 7 0 = code % 256 ∧ RegsBut [R.STX_CHAN_STATUS] s t ∧
      Frame [.regs, .settings] s t) :=
  ⟨_, h, chanCode_code s code, chanCode_regsBut s code, chanCode_frame s code⟩

/-! ### The command interface -/

/-- The channel that CREATE makes of its arguments at index `i`: the generation and the life stay the index's (R212, R215). -/
def createdChan (s : State) (i : Nat) : Chan := { argChan s with gen := (chanOf s i).gen, life := (chanOf s i).life }

/-- CREATE has made the channel at index `i`, whose handle is shown (R215). -/
def created (s : State) (i : Nat) : State :=
  chanCode (setReg (setChan s i (createdChan s i)) R.STX_CHAN_HANDLE (handleOf (createdChan s i) i)) 0

section
variable (s : State) (i : Nat)

theorem chanOf_created_same : chanOf (created s i) i = createdChan s i := by
  rw [created, chanOf_chanCode, chanOf_setReg, chanOf_setChan_same]

theorem chanOf_created_other {j : Nat} (h : j ≠ i) : chanOf (created s i) j = chanOf s j := by
  rw [created, chanOf_chanCode, chanOf_setReg, chanOf_setChan_other s _ h]

theorem created_handle : getReg (created s i) R.STX_CHAN_HANDLE = handleOf (createdChan s i) i := by
  rw [created, chanCode, getReg_wr_other _ (by decide), getReg_setReg_same]

theorem created_regsBut : RegsBut [R.STX_CHAN_STATUS, R.STX_CHAN_HANDLE] s (created s i) :=
  regsBut_wr (regsBut_setReg (fun _ _ => rfl) (by simp) _) (by simp) _ _ _

theorem created_frame : Frame [.regs, .settings, .co] s (created s i) :=
  (chanCode_st (q0 := keep [.regs, .settings, .co]) (setReg_st (setChan_st (Steady.refl _ s) rfl) rfl rfl) rfl rfl).frame

end

section
variable {s : State} (hf : s.dev.fabReset = false)
include hf

theorem onChanCmd_of_busy (hb : rdBit s R.STX_CHAN_STATUS 31 = true) (t : State) : onChanCmd s t = s :=
  (onFabric_of_running hf _).trans (if_pos hb)

theorem onChanCmd_of_idle (hb : rdBit s R.STX_CHAN_STATUS 31 = false) (t : State) : onChanCmd s t = t :=
  (onFabric_of_running hf _).trans (if_neg (by simp [hb]))

section
variable (hb : rdBit s R.STX_CHAN_STATUS 31 = false)
include hb

theorem exec_chanCreate_of_failed (h : createCode s (argChan s) ≠ 0) :
    exec .chanCreate s = .next (chanCode s (createCode s (argChan s))) := by
  show execChanCreate s = _
  rw [execChanCreate, onChanCmd_of_idle hf hb]
  dsimp only
  rw [if_neg h]

theorem exec_chanCreate_of_free {i : Nat} (h : createCode s (argChan s) = 0) (hi : freeIndex s = some i) :
    exec .chanCreate s = .next (created s i) := by
  show execChanCreate s = _
  rw [execChanCreate, onChanCmd_of_idle hf hb]
  dsimp only
  rw [if_pos h, hi]
  rfl

/-- A handle that names no channel (R216). -/
theorem exec_chanCmd_of_unnamed (h : namedChan s = none) {i : Instr} (hi : i ∈ [Instr.chanDestroy, .chanReset, .chanRehome]) :
    exec i s = .next (chanCode s 0x0B) := by
  simp only [List.mem_cons, List.not_mem_nil, or_false] at hi
  obtain rfl | rfl | rfl := hi
  · show execChanDestroy s = _
    rw [execChanDestroy, onChanCmd_of_idle hf hb, h]
  · show execChanReset s = _
    rw [execChanReset, onChanCmd_of_idle hf hb, h]
  · show execChanRehome s = _
    rw [execChanRehome, onChanCmd_of_idle hf hb, h]

section
variable {c : Nat} (hc : namedChan s = some c)
include hc

/-- BUSY stays where the index waits in RESETTING (R217). -/
theorem exec_chanDestroy_of_named : exec .chanDestroy s =
    .next (if (chanOf (chanCode (endLife s c true) 0) c).st = .free then chanCode (endLife s c true) 0
      else wrBit (chanCode (endLife s c true) 0) R.STX_CHAN_STATUS 31 true) := by
  show execChanDestroy s = _
  rw [execChanDestroy, onChanCmd_of_idle hf hb, hc]

/-- The command is done at once (R229, assumption 164). -/
theorem exec_chanReset_of_named : exec .chanReset s = .next (chanCode (endLife s c false) 0) := by
  show execChanReset s = _
  rw [execChanReset, onChanCmd_of_idle hf hb, hc]

/-- A channel in use is one with a descriptor of its present life or a unit of an earlier one that is not over (R218). -/
theorem exec_chanRehome_of_named : exec .chanRehome s =
    .next (if ! (chanOf s c).mask.testBit (rd s R.STX_CHAN_ARG1 15 12) then chanCode s 1
      else if s.co.descs.any (fun d => d.chan == c && d.gen == (chanOf s c).gen && d.lost.isNone) || oldBusy s c then
        chanCode s 0x0C
      else fetchChan (chanCode (setChan s c { chanOf s c with house := rd s R.STX_CHAN_ARG1 15 12 }) 0) c) := by
  show execChanRehome s = _
  rw [execChanRehome, onChanCmd_of_idle hf hb, hc]

end

end

theorem exec_chCtrlReset_of_running (chan : BitVec 16) : exec (.chCtrlReset chan) s = .next (endLife s chan.toNat false) :=
  congrArg Host.Outcome.next (onFabric_of_running hf _)

theorem exec_chCtrlAbort_of_running (chan : BitVec 16) (e : BitVec 12) :
    exec (.chCtrlAbort chan e) s = .next (abortEntry s chan.toNat e.toNat) :=
  congrArg Host.Outcome.next (onFabric_of_running hf _)

end

/-! ### The abort of an entry -/

/-- Distance of entry `x` from HEAD in the ring of `ch`. -/
def ringDist (ch : Chan) (x : Nat) : Nat := (x + ringSize ch - ch.head) % ringSize ch

/-- The host has posted entry `e` of the ring and its record is not written (R227). -/
def Outstanding (ch : Chan) (e : Nat) : Prop := e < ringSize ch ∧ ringDist ch e < ringDist ch ch.tail

/-- A channel in its present life is neither FREE nor RESETTING (R226). -/
theorem st_of_ofLife {s : State} {c : Nat} {g : BitVec 12} (h : ofLife s c g = true) :
    (chanOf s c).st ≠ .free ∧ (chanOf s c).st ≠ .resetting := by
  simp only [ofLife, Bool.and_eq_true, Bool.or_eq_true, beq_iff_eq] at h
  obtain ⟨-, h | h⟩ := h <;> simp [h]

section
variable {s : State} {c e : Nat}

/-- A FREE context has no channel (assumption 163). -/
theorem abortEntry_of_free (h : (chanOf s c).st = .free) : abortEntry s c e = s := if_pos h

theorem abortEntry_of_resetting (h : (chanOf s c).st = .resetting) : abortEntry s c e = abortResult s c e 2 :=
  (if_neg (by simp [h])).trans (if_pos h)

theorem abortEntry_of_beyond (hst : (chanOf s c).st ≠ .free) (he : ringSize (chanOf s c) ≤ e) :
    abortEntry s c e = abortResult s c e 2 := by
  by_cases h : (chanOf s c).st = .resetting
  · exact abortEntry_of_resetting h
  · exact (if_neg hst).trans ((if_neg h).trans (if_pos (.inl he)))

variable {d : Desc} (hl : ofLife s c (chanOf s c).gen = true) (ho : Outstanding (chanOf s c) e)
  (hd : descAt s c (chanOf s c).gen e = some d)
include hl ho hd

/-- A descriptor whose record waits is not aborted, and one that has not begun ends as aborted (R227, R228). -/
theorem abortEntry_of_outstanding : (d.stage = .done → abortEntry s c e = abortResult s c e 2) ∧
    (d.stage = .ready → abortEntry s c e = startDescs (putDesc (abortResult s c e 1) { d with aborted := true })) := by
  obtain ⟨hfree, hres⟩ := st_of_ofLife hl
  have hout : ¬ (ringSize (chanOf s c) ≤ e ∨ ringDist (chanOf s c) (chanOf s c).tail ≤ ringDist (chanOf s c) e) :=
    not_or.2 ⟨Nat.not_le.2 ho.1, Nat.not_le.2 ho.2⟩
  refine ⟨fun hs => ?done, fun hs => ?ready⟩ <;>
  · refine (if_neg hfree).trans ((if_neg hres).trans ((if_neg hout).trans ?_))
    rw [hd]
    dsimp only
    rw [hs]

end

/-- Settles O35: BUSY, the checks of CREATE and the channel that the handle names choose the branch of each command, and an abort
is decided where the entry stands. -/
theorem channelCommands : Obligations.ChannelCommands := by
  intro chan s hf
  refine ⟨fun hb => ?busy, fun hb => ⟨fun h => gives_chanCode (exec_chanCreate_of_failed hf hb h), fun i h hi => ?create,
    fun h c hc => gives_chanCode (exec_chanCmd_of_unnamed hf hb h hc), fun c hc => ⟨fun t ht => ?destroy,
      exec_chanReset_of_named hf hb hc, fun n hn => ?rehome⟩⟩,
    exec_chCtrlReset_of_running hf chan, fun e => ?abort, fun e d hl he ht hd => ?abortDesc⟩
  case busy =>
    have h (t : State) : (.next (onChanCmd s t) : Host.Outcome State Fault Refusal) = .next s :=
      congrArg _ (onChanCmd_of_busy hf hb t)
    exact ⟨h _, h _, h _, h _⟩
  case create =>
    exact ⟨created s i, exec_chanCreate_of_free hf hb h hi, chanCode_code _ 0, chanOf_created_same s i,
      fun j => chanOf_created_other s i, created_handle s i, created_regsBut s i, created_frame s i⟩
  case destroy =>
    subst ht
    rw [exec_chanDestroy_of_named hf hb hc]
    exact ⟨fun h => congrArg _ (if_pos h), fun h => congrArg _ (if_neg h)⟩
  case rehome =>
    subst hn
    rw [exec_chanRehome_of_named hf hb hc]
    refine ⟨fun hm => congrArg _ (if_pos (by rw [hm]; rfl)),
      fun hm hu => congrArg _ ((if_neg (by simp [hm])).trans (if_pos (Bool.or_eq_true_iff.2 hu))),
      fun hm hd ho => congrArg _ ((if_neg (by simp [hm])).trans (if_neg (by rw [hd, ho]; decide)))⟩
  case abort =>
    rw [exec_chCtrlAbort_of_running hf]
    exact ⟨fun h => congrArg _ (abortEntry_of_free h), fun h => congrArg _ (abortEntry_of_resetting h),
      fun h he => congrArg _ (abortEntry_of_beyond h he)⟩
  case abortDesc =>
    rw [exec_chCtrlAbort_of_running hf]
    obtain ⟨hdone, hready⟩ := abortEntry_of_outstanding hl ⟨he, ht⟩ hd
    exact ⟨fun hs => congrArg _ (hdone hs), fun hs => congrArg _ (hready hs)⟩

end Sys2Proof.Proofs
end

section
/-! SUPPORT. The work of a channel, of 06_channels: doorbells, the ends of descriptor reads, and completion records. -/

namespace Sys2Proof.Proofs

open Sys2Proof.Machine Sys2Proof.Laws

/-! ### Descriptor reads -/

/-- The read of descriptor `d` of channel `c` has ended with `r`: of an earlier life it is discarded, with data the descriptor is
ready, and without data the channel halts, with the descriptor left in the list (R220, R226, R424, assumption 111). -/
def fetchEnded (s : State) (c : Nat) (gen : BitVec 12) (d : Desc) (r : FetchResult) : State :=
  let t := match r with
    | .poisoned => logUncorrectable s (tenantPort s (chanOf s c).tenant) (tenantFn s (chanOf s c).tenant) 12
    | _ => s
  if ! ofLife s c gen then fetchAll (discardItem (dropDesc t d) c)
  else match r with
    | .data bits => fetchAll (startDescs (putDesc t { d with stage := .ready, bits := bits }))
    | _ => fetchAll (haltChan (putDesc t { d with lost := some false }) c 1)

section
variable {s : State} {c : Nat} {gen : BitVec 12} (d : Desc)

theorem fetchEnded_of_data (h : ofLife s c gen = true) (bits : BitVec 512) : fetchEnded s c gen d (.data bits) =
    fetchAll (startDescs (putDesc s { d with stage := .ready, bits := bits })) := if_neg (by simp [h])

theorem fetchEnded_of_stale (h : ofLife s c gen = false) (bits : BitVec 512) : fetchEnded s c gen d (.data bits) =
    fetchAll (discardItem (dropDesc s d) c) := if_pos (by simp [h])

theorem fetchEnded_of_poisoned (h : ofLife s c gen = true) : fetchEnded s c gen d .poisoned =
    fetchAll (haltChan (putDesc (logUncorrectable s (tenantPort s (chanOf s c).tenant) (tenantFn s (chanOf s c).tenant) 12)
      { d with lost := some false }) c 1) := if_neg (by simp [h])

end

section
variable {s : State} (hf : s.dev.fabReset = false) {chan : BitVec 16} {gen entry : BitVec 12}
include hf

theorem exec_descriptorFetchDone_of_unread (h : fetchAt s chan.toNat gen entry.toNat = none) (r : FetchResult) :
    exec (.descriptorFetchDone chan gen entry r) s = .next (unexpectedAt s (tenantPort s (chanOf s chan.toNat).tenant)) := by
  show execDescriptorFetchDone chan gen entry r s = _
  rw [execDescriptorFetchDone, onFabric_of_running hf]
  dsimp only
  rw [h]

theorem exec_dmaReadTimeout_of_unread (h : fetchAt s chan.toNat gen entry.toNat = none) :
    exec (.dmaReadTimeout chan gen entry) s = .next s := by
  show execDmaReadTimeout chan gen entry s = _
  rw [execDmaReadTimeout, onFabric_of_running hf, h]

variable {d : Desc} (hd : fetchAt s chan.toNat gen entry.toNat = some d) (hl : d.lost = none)
include hd hl

theorem exec_descriptorFetchDone_of_waiting (r : FetchResult) :
    exec (.descriptorFetchDone chan gen entry r) s = .next (fetchEnded s chan.toNat gen d r) := by
  show execDescriptorFetchDone chan gen entry r s = _
  rw [execDescriptorFetchDone, onFabric_of_running hf]
  unfold fetchEnded
  dsimp only
  rw [hd]
  dsimp only
  rewrite [hl]
  rfl

theorem exec_dmaReadTimeout_of_waiting : exec (.dmaReadTimeout chan gen entry) s = .next (fetchAll (endRead s d)) := by
  show execDmaReadTimeout chan gen entry s = _
  rw [execDmaReadTimeout, onFabric_of_running hf, hd]
  dsimp only
  rw [hl]
  rfl

end

/-! ### Completion records -/

/-- HEAD of `ch` has moved on; at the end of the ring it starts again with the other phase (R221). -/
def headMoved (ch : Chan) : Chan :=
  if ch.head + 1 = ringSize ch then { ch with head := 0, phase := ! ch.phase } else { ch with head := ch.head + 1 }

/-- The write of the record that descriptor `d` of channel `ch` leaves in the completion ring at HEAD (R221). -/
def recordSent (s : State) (ch : Chan) (d : Desc) (r : Rec) : Out :=
  .dmaWrite (tenantPort s ch.tenant) (tenantFn s ch.tenant) (ch.cq + BitVec.ofNat 64 (32 * ch.head)) (recordWords d r ch.phase)

/-- The record `r` of descriptor `d`, the oldest of channel `c`, has been written, and the descriptor is gone (R182, R221). -/
def recorded (s : State) (c : Nat) (d : Desc) (r : Rec) : State :=
  setChan (emit (dropDesc s d) (recordSent s (chanOf s c) d r)) c (headMoved (chanOf s c))

theorem recorded_frame (s : State) (c : Nat) (d : Desc) (r : Rec) : Frame [.co, .out] s (recorded s c d r) :=
  (setChan_st (q0 := keep [.co, .out]) (emit_st (dropDesc_st (Steady.refl _ s) rfl) rfl) rfl).frame

/-- `headMoved` as RECORD_WRITE computes it. -/
theorem headMoved_eq (ch : Chan) : { ch with
    head := if ch.head + 1 == ringSize ch then 0 else ch.head + 1
    phase := if ch.head + 1 == ringSize ch then ! ch.phase else ch.phase } = headMoved ch := by
  unfold headMoved
  by_cases h : ch.head + 1 = ringSize ch <;> simp [h]

theorem exec_recordWrite_of_done {s : State} {chan : BitVec 16} {d : Desc} {r : Rec} (hf : s.dev.fabReset = false)
    (hl : ofLife s chan.toNat (chanOf s chan.toNat).gen = true)
    (hm : fnMayDma s (tenantPort s (chanOf s chan.toNat).tenant) (tenantFn s (chanOf s chan.toNat).tenant) = true)
    (hd : descAt s chan.toNat (chanOf s chan.toNat).gen (chanOf s chan.toNat).head = some d) (hr : d.record = some r)
    (hn : dNotify d.bits = false) :
    exec (.recordWrite chan) s = .next (startDescs (fetchAll (recorded s chan.toNat d r))) := by
  show execRecordWrite chan s = _
  rw [execRecordWrite, onFabric_of_running hf]
  dsimp only
  rw [hl, hm, Bool.and_self, if_pos rfl, hd]
  dsimp only
  rw [hr]
  dsimp only
  rw [hn, headMoved_eq]
  rfl

/-- Settles O36: what the read waits for chooses what its end does, and a record goes to HEAD before HEAD moves on. -/
theorem channelWork : Obligations.ChannelWork := by
  intro chan gen entry s hf
  refine ⟨fun p f off n val => congrArg Host.Outcome.next (onFabric_of_running hf _),
    fun h => ⟨exec_descriptorFetchDone_of_unread hf h, exec_dmaReadTimeout_of_unread hf h⟩,
    fun d hd hl => ?ended, fun d r ch hch hl hm hd hr hn => ?record⟩
  case ended =>
    have h (r : FetchResult) := exec_descriptorFetchDone_of_waiting hf hd hl r
    exact ⟨fun bits ho => (h _).trans (congrArg _ (fetchEnded_of_data d ho bits)),
      fun bits ho => (h _).trans (congrArg _ (fetchEnded_of_stale d ho bits)),
      fun ho => (h _).trans (congrArg _ (fetchEnded_of_poisoned d ho)), exec_dmaReadTimeout_of_waiting hf hd hl⟩
  case record =>
    subst hch
    exact ⟨recorded s chan.toNat d r, exec_recordWrite_of_done hf hl hm hd hr hn, rfl, chanOf_setChan_same ..,
      recorded_frame ..⟩

end Sys2Proof.Proofs
end

section
/-! SUPPORT. Landing cells of units and packets at the crossbar, of 07_switch_core: the grant of a landing reservation, the check
of a switched packet at its port, the credits of a link partner, and one cell time. -/

namespace Sys2Proof.Proofs

open Sys2Proof.Machine Sys2Proof.Laws

/-! ### Landing reservations -/

/-- Reservation `x` stands at the head of its admission point (R317). -/
abbrev LandingFirst (s : State) (x : LandReq) : Prop :=
  leastTag (waitingAt s x.region 8 x.cls) = some ⟨x.tag, x.flow, none⟩

/-- The cells of reservation `x` have been taken in `t`, from the shared pool where `shared`: the reservation is gone, unit `v`
goes on with its lines, and the admission point serves its next heads (R251, R317). -/
def landed (t : State) (x : LandReq) (v : UnitRun) (shared : Bool) : State :=
  admitHeads (putUnit (withBuf t { t.buf with
    lands := t.buf.lands.erase x, vtime := sPut t.buf.vtime (admKey x.region 8 x.cls) 0 x.tag })
    { v with cells := x.cells, shared := shared, phase := .lines }) x.region 8 x.cls

section
variable {s : State} (hf : s.dev.fabReset = false) {k : Fin 256} {p : Fin 2}
include hf

theorem exec_landingGrant_of_none (h : s.buf.lands.find? (fun x => x.coach == k && x.pipe == p) = none) :
    exec (.landingGrant k p) s = .next (pumpUnit s k p none) := by
  show execLandingGrant k p s = _
  rw [execLandingGrant, onFabric_of_running hf, h]

variable {x : LandReq} {v : UnitRun} (hx : s.buf.lands.find? (fun x => x.coach == k && x.pipe == p) = some x)
  (hv : unitAt s k p = some v)
include hx hv

theorem exec_landingGrant_of_behind (h : ¬ LandingFirst s x) : exec (.landingGrant k p) s = .next s := by
  show execLandingGrant k p s = _
  rw [execLandingGrant, onFabric_of_running hf, hx, hv]
  exact congrArg Host.Outcome.next (if_pos h)

variable (h : LandingFirst s x)
include h

theorem exec_landingGrant_of_min (hc : dOpc v.bits ≠ 8)
    (hm : minUsed s x.region 8 x.cls + x.cells ≤ bufMin s x.region 8 x.cls) :
    exec (.landingGrant k p) s = .next (pumpUnit (landed (takeMin s x.region 8 x.cls x.cells) x v false) k p none) := by
  show execLandingGrant k p s = _
  rw [execLandingGrant, onFabric_of_running hf, hx, hv]
  dsimp only
  rw [if_neg (not_not_intro h), decide_eq_true hm, if_neg (by simp), if_pos rfl, if_neg hc, if_neg hc]
  rfl

variable (hm : bufMin s x.region 8 x.cls < minUsed s x.region 8 x.cls + x.cells)
include hm

theorem exec_landingGrant_of_noCells (hp : x.level ≠ 1 ∨ sharedFits s x.region 8 x.cls x.cells 0 = false) :
    exec (.landingGrant k p) s = .next s := by
  have hpool : (decide (x.level = 1) && sharedFits s x.region 8 x.cls x.cells 0) = false := by
    rcases hp with hl | hs
    · rw [decide_eq_false hl, Bool.false_and]
    · rw [hs, Bool.and_false]
  show execLandingGrant k p s = _
  rw [execLandingGrant, onFabric_of_running hf, hx, hv]
  dsimp only
  rw [if_neg (not_not_intro h), decide_eq_false (Nat.not_le.2 hm), hpool]
  rfl

theorem exec_landingGrant_of_pool (hl : x.level = 1) (hs : sharedFits s x.region 8 x.cls x.cells 0 = true)
    (hc : dOpc v.bits ≠ 8) :
    exec (.landingGrant k p) s = .next (pumpUnit (landed (takeShared s x.region 8 x.cls x.cells) x v true) k p none) := by
  show execLandingGrant k p s = _
  rw [execLandingGrant, onFabric_of_running hf, hx, hv]
  dsimp only
  rw [if_neg (not_not_intro h), decide_eq_false (Nat.not_le.2 hm), decide_eq_true hl, hs, if_neg (by simp),
    if_neg Bool.false_ne_true, if_neg hc, if_neg hc]
  rfl

end

/-- Settles O38: a reservation's place at its admission point, then the minimum, then the shared pool, with 0
for the Q of R246 (assumption 94), decide what it gets. -/
theorem landingReservations : Obligations.LandingReservations := fun _ _ _ hf =>
  ⟨exec_landingGrant_of_none hf, fun _ _ hx hv => ⟨exec_landingGrant_of_behind hf hx hv,
    fun h hc hm _ ht => ht ▸ exec_landingGrant_of_min hf hx hv h hc hm,
    fun h hm => ⟨exec_landingGrant_of_noCells hf hx hv h hm,
      fun hl hs hc _ ht => ht ▸ exec_landingGrant_of_pool hf hx hv h hm hl hs hc⟩⟩⟩

/-! ### Packets at a port -/

/-- The access that the port protection unit checks for packet `p` (R321). -/
def packetAccess (p : RxPacket) : Access :=
  ⟨1, if p.atomic then 4 else if p.write then 2 else 1, 2, p.requester.toNat, p.addr.toNat, p.length⟩

/-- The credits of packet `p`, whose cells are not taken, go back to its port (R254). -/
def creditsReturned (s : State) (p : RxPacket) : State :=
  advertise (unback s p.port (vcClass s p.port p.vc) (p.hdrCredits + (p.dataCredits + 7) / 8)) p.port (vcClass s p.port p.vc)

/-- The answer of the port protection unit for packet `p`: only memory requests of a switch-through or trunk port come to it
(R321, R333). -/
def portVerdict (s : State) (p : RxPacket) : Option Denied :=
  if p.memory && decide (3 ≤ portRole s p.port) then checkUnit s (ppuWindow p.port) 16 (packetAccess p) false else none

theorem portVerdict_of_unchecked {s : State} {p : RxPacket} (h : p.memory = false ∨ portRole s p.port < 3) :
    portVerdict s p = none := by
  rcases h with hm | hr
  · simp [portVerdict, hm]
  · simp [portVerdict, hr]

theorem portVerdict_of_allowed {s : State} {p : RxPacket}
    (h : checkUnit s (ppuWindow p.port) 16 (packetAccess p) false = none) : portVerdict s p = none := by
  rw [portVerdict, h, ite_self]

theorem portVerdict_of_checked {s : State} {p : RxPacket} (hm : p.memory = true) (hr : 3 ≤ portRole s p.port) :
    portVerdict s p = checkUnit s (ppuWindow p.port) 16 (packetAccess p) false :=
  if_pos (by rw [hm, decide_eq_true hr]; rfl)

/-- The port protection unit refuses packet `p` for `d`: it records the violation, and the credits go back (R254, R337). -/
def packetRefused (s : State) (p : RxPacket) (d : Denied) : State :=
  creditsReturned (recordFirst s (ppuWindow p.port) (packetAccess p) d 1 (ppuEv (p.port / 4))) p

section
variable {s : State} (hf : s.dev.fabReset = false) {p : RxPacket}
include hf

theorem exec_packetReceived_of_down (h : linkActive s p.port = false) : exec (.packetReceived p) s = .next s :=
  congrArg Host.Outcome.next ((onFabric_of_running hf _).trans (if_pos (by rw [h]; rfl)))

variable (ha : linkActive s p.port = true)
include ha

theorem exec_packetReceived_of_passed (h : portVerdict s p = none) :
    exec (.packetReceived p) s = .next (acceptPacket s p) := by
  unfold portVerdict packetAccess at h
  show execPacketReceived p s = _
  rw [execPacketReceived, onFabric_of_running hf, ha]
  dsimp only
  rw [if_neg (by decide), h]

theorem exec_packetReceived_of_refused {d : Denied} (h : portVerdict s p = some d) :
    exec (.packetReceived p) s = .next (if p.typ = .NP then
      emit (packetRefused s p d) (.cplSwitched p.port p.requester p.tag .abort) else packetRefused s p d) := by
  unfold portVerdict packetAccess at h
  show execPacketReceived p s = _
  rw [execPacketReceived, onFabric_of_running hf, ha]
  dsimp only
  rw [if_neg (by decide), h]
  rfl

end

/-! ### Credits of a link partner -/

theorem sGet_addEgress_same (s : State) (k n : Nat) : sGet (addEgress s k n).buf.egress k 0 = sGet s.buf.egress k 0 + n :=
  sGet_sPut_same ..

theorem sGet_addEgress_other (s : State) {i k : Nat} (h : i ≠ k) (n : Nat) :
    sGet (addEgress s k n).buf.egress i 0 = sGet s.buf.egress i 0 :=
  sGet_sPut_other _ _ _ _ h

theorem exec_flowControlUpdate_of_running {s : State} (hf : s.dev.fabReset = false) (port : Fin 128) (c : Fin 4) (typ : PktType)
    (n : LinkCredits) : exec (.flowControlUpdate port c typ n) s =
      .next (addEgress (addEgress s (egressKey port c typ) n.hdr) (egressKey port c typ + 1) n.data) :=
  congrArg Host.Outcome.next (onFabric_of_running hf _)

/-- Settles O41: the link, then the port protection unit decide what becomes of a packet; credits add at their two keys
alone; and a cell time is its stages in their order. -/
theorem switchedPackets : Obligations.SwitchedPackets := by
  intro p x s hf
  refine ⟨exec_packetReceived_of_down hf, fun ha hx => ?checked, fun port c typ n k hk => ?credits,
    fun t m c ht hm hc u v hu hv => ?cellTime⟩
  case checked =>
    obtain rfl : x = packetAccess p := hx
    refine ⟨fun h => exec_packetReceived_of_passed hf ha (portVerdict_of_unchecked h),
      fun h => exec_packetReceived_of_passed hf ha (portVerdict_of_allowed h), fun d t u hm hr hd ht hu => ?_⟩
    obtain rfl : u = packetRefused s p d := hu.trans (ht ▸ rfl)
    have h := exec_packetReceived_of_refused hf ha ((portVerdict_of_checked hm hr).trans hd)
    exact ⟨fun hn => h.trans (congrArg _ (if_pos hn)), fun hn => h.trans (congrArg _ (if_neg hn))⟩
  case credits =>
    subst hk
    have h := exec_flowControlUpdate_of_running hf port c typ n
    refine ⟨_, h, ?_, ?_, fun i hi hi' => ?_, frame_of (execFlowControlUpdate_ok (Steady.refl _ s)) h⟩
    · rw [sGet_addEgress_other _ (Nat.succ_ne_self _).symm, sGet_addEgress_same]
    · rw [sGet_addEgress_same, sGet_addEgress_other _ (Nat.succ_ne_self _)]
    · rw [sGet_addEgress_other _ hi', sGet_addEgress_other _ hi]
  case cellTime =>
    show execCrossbarCellTime s = _
    rw [execCrossbarCellTime, onFabric_of_running hf]
    simp only [forAll, ← ht, ← hm, ← hc, ← hu, ← hv]

end Sys2Proof.Proofs
end

section
/-! SUPPORT. The internal network, of 08_internal_network: the flits that come to a router, the messages that an interface
takes, the reservations that expire, the header on its wires, and the accesses of the keeper. -/

namespace Sys2Proof.Proofs

open Sys2Proof.Machine Sys2Proof.Laws

/-! ### Headers at a router's input -/

/-- Message `g` as it stands in input buffer `p` of router `r`, as the next arrival of state `s`. -/
abbrev bufferedMsg (s : State) (g : Msg) (r p : Nat) : Msg := { g with place := some ⟨r, p, s.noc.arrivals + 1⟩ }

/-- The number of the last arrival finds the message that has just entered a buffer: every other one has an earlier number. -/
theorem find_enterBuffer {s : State} {g : Msg} (hg : g ∈ s.flight) (hn : ∀ x ∈ s.flight, placeNo x ≤ s.noc.arrivals)
    (r p : Nat) : (enterBuffer s g g r p).flight.find?
      (fun x => x.place.isSome && placeNo x == (enterBuffer s g g r p).noc.arrivals) = some (bufferedMsg s g r p) := by
  have hmem : bufferedMsg s g r p ∈ (enterBuffer s g g r p).flight := List.mem_map.2 ⟨g, hg, if_pos rfl⟩
  cases hf : (enterBuffer s g g r p).flight.find?
      (fun x => x.place.isSome && placeNo x == (enterBuffer s g g r p).noc.arrivals) with
  | none => exact absurd (List.find?_eq_none.1 hf _ hmem) (by simp [placeNo, enterBuffer])
  | some y =>
    obtain ⟨x, hx, hy⟩ := List.mem_map.1 (List.mem_of_find?_eq_some hf)
    have hnum : placeNo y = s.noc.arrivals + 1 := by
      have h := List.find?_some hf
      simp only [Bool.and_eq_true, beq_iff_eq] at h
      exact h.2
    by_cases hxg : x = g
    · exact congrArg some (hy.symm.trans (if_pos hxg))
    · have h : placeNo x = s.noc.arrivals + 1 := by rw [← hnum, ← hy, if_neg hxg]
      exact absurd (hn x hx) (by omega)

theorem init_of_named {net : Net} {i d : Nat} {seq : BitVec 8} {cr : Bool} {g : Msg} (h : named net i d seq cr g = true) :
    g.init = i := by
  simp only [named, Bool.and_eq_true, beq_iff_eq] at h
  obtain ⟨⟨⟨⟨hi, -⟩, -⟩, -⟩, -⟩ := h
  exact hi

theorem mem_of_filter_singleton {l : List Msg} {f : Msg → Bool} {g : Msg} (h : l.filter f = [g]) : g ∈ l ∧ f g = true :=
  List.mem_filter.1 (h ▸ List.mem_singleton_self g)

/-- A message at its interface enters the mesh where the buffer has room for it (R277). -/
theorem hopMsg_of_waiting {s : State} {g : Msg} {r p : Nat} (hp : g.place = none) (he : entryPort g.init r = some p) :
    hopMsg s g r = if hasRoom s r p g then some (enterBuffer s g g r p) else none := by
  unfold hopMsg
  rw [hp]
  simp only [he]

theorem checkHeader_clean (s : State) (r : Nat) (hit : Option Msg) (net : Net) (dest : Nat) :
    checkHeader s r hit net dest .clean .clean = s := rfl

theorem checkHeader_corrected (s : State) (r : Nat) (hit : Option Msg) (net : Net) (dest : Nat) :
    checkHeader s r hit net dest .corrected .clean = count s (R.NOC_ERR_CNT0 r) 0 .once (routerEv r) := rfl

section
variable {s : State} (hf : s.dev.fabReset = false) {r : Fin 18} {net : Net} {i d : Fin 98} {seq : BitVec 8} {cr : Bool}
include hf

theorem exec_routerFlitArrival_of_unnamed (h : ∀ g ∈ s.flight, named net i d seq cr g = false) (hdr payload : Ecc) :
    exec (.routerFlitArrival r net i d seq cr hdr payload) s = .next (checkHeader s r none net d hdr payload) := by
  have hl : s.flight.filter (named net i d seq cr) = [] := List.filter_eq_nil_iff.2 fun g hg => by simp [h g hg]
  show execRouterFlitArrival r net i d seq cr hdr payload s = _
  rw [execRouterFlitArrival, onFabric_of_running hf, hl]
  rfl

variable {g : Msg} (hl : s.flight.filter (named net i d seq cr) = [g])
include hl

theorem exec_routerFlitArrival_of_stays (h : hopMsg s g r = none) (hdr payload : Ecc) :
    exec (.routerFlitArrival r net i d seq cr hdr payload) s = .next s := by
  show execRouterFlitArrival r net i d seq cr hdr payload s = _
  rw [execRouterFlitArrival, onFabric_of_running hf, hl]
  simp only [List.findSome?_cons, List.findSome?_nil, h]
  rfl

theorem exec_routerFlitArrival_of_hops {t : State} (h : hopMsg s g r = some t) (hdr payload : Ecc) :
    exec (.routerFlitArrival r net i d seq cr hdr payload) s = .next (checkHeader t r
      (t.flight.find? (fun x => x.place.isSome && placeNo x == t.noc.arrivals)) net d hdr payload) := by
  show execRouterFlitArrival r net i d seq cr hdr payload s = _
  rw [execRouterFlitArrival, onFabric_of_running hf, hl]
  simp only [List.findSome?_cons, h]

variable {p : Nat} (hp : g.place = none) (he : entryPort i r = some p)
include hp he

theorem exec_routerFlitArrival_of_full (hr : hasRoom s r p g = false) (hdr : Ecc) :
    exec (.routerFlitArrival r net i d seq cr hdr .clean) s = .next s :=
  exec_routerFlitArrival_of_stays hf hl
    ((hopMsg_of_waiting hp (init_of_named (mem_of_filter_singleton hl).2 ▸ he)).trans (if_neg (by simp [hr]))) hdr .clean

theorem exec_routerFlitArrival_of_room (hr : hasRoom s r p g = true) (hn : ∀ x ∈ s.flight, placeNo x ≤ s.noc.arrivals)
    (hdr : Ecc) : exec (.routerFlitArrival r net i d seq cr hdr .clean) s =
      .next (checkHeader (enterBuffer s g g r p) r (some (bufferedMsg s g r p)) net d hdr .clean) := by
  obtain ⟨hg, hi⟩ := mem_of_filter_singleton hl
  rw [exec_routerFlitArrival_of_hops hf hl ((hopMsg_of_waiting hp (init_of_named hi ▸ he)).trans (if_pos hr)),
    find_enterBuffer hg hn]

end

/-! ### Credits, drains and parity -/

section
variable {s u : State} (hf : s.dev.fabReset = false) {e : Fin 98} {net : Net}
include hf

theorem exec_creditret_of_arrives {i : Fin 98} {cnt : BitVec 3} {mx : BitVec 16} {sm : BitVec 18}
    (ha : Arrives s (.creditret e net i cnt mx sm) u) : exec (.creditret e net i cnt mx sm) s =
      .next (settleNoc (countLatency (withNoc u { u.noc with
        taken := sPut u.noc.taken (nocKey e i net) 0 (sGet u.noc.taken (nocKey e i net) 0 - cnt.toNat) })
        e net cnt.toNat sm.toNat mx.toNat)) := by
  rw [exec_of_arrives rfl hf ha]

theorem exec_drainmark_of_arrives {i : Fin 98} (ha : Arrives s (.drainmark e net i) u) :
    exec (.drainmark e net i) s = .next (send u (.drainecho i net (Fin.ofNat 18 (nodeOf e)))) := by
  rw [exec_of_arrives rfl hf ha]

/-- The drains once the echo of `node` on `net` has come back to interface `e`: those that await an echo still (R283). -/
def drainsEchoed (l : List Drain) (e : Fin 98) (net : Net) (node : Fin 18) : List Drain :=
  (l.map (fun d => if d.init == e.val && d.set == netSet net && d.node == node.val then
    { d with nets := d.nets.erase net } else d)).filter (fun d => ! d.nets.isEmpty)

theorem exec_drainecho_of_arrives {node : Fin 18} (ha : Arrives s (.drainecho e net node) u) : exec (.drainecho e net node) s =
    .next (settleNoc (withNoc u { u.noc with drains := drainsEchoed u.noc.drains e net node })) := by
  rw [exec_of_arrives rfl hf ha]
  rfl

theorem exec_regulatedInjection_of_running (i : Fin 98) (net : Net) :
    exec (.regulatedInjection i net) s = .next (settleNoc s) :=
  congrArg Host.Outcome.next (onFabric_of_running hf _)

theorem exec_routerParityError_of_inService {r : Fin 18} (h : r.val ∉ s.dev.routersOut) :
    exec (.routerParityError r) s = .next (chipFault
      (raiseEv { s with dev := { s.dev with routersOut := s.dev.routersOut ++ [r.val] } } (routerEv r)) 17) := by
  show execRouterParityError r s = _
  rw [execRouterParityError, onFabric_of_running hf]
  dsimp only
  rw [if_neg (by simpa using h)]
  rfl

end

/-! ### Reservations that expire -/

/-- The space held for `q` at interface `e` is given back, and its expiry counted at the interface's node (R288). -/
def resvExpired (s : State) (e : Fin 98) (q : Resv) : State :=
  count (unreserve s q.what) (R.NOC_ERR_CNT2 (nodeOf e)) 0 .every (routerEv (nodeOf e))

theorem giveUp_request_of_host {a : Agent} (h : localAgent a < 128) (s : State) (n : BitVec 10) :
    giveUp s (.request a n) = settleAll (hostExpire s (localAgent a) n) :=
  congrArg settleAll (if_pos h)

theorem giveUp_request_of_coach {a : Agent} (h : 128 ≤ localAgent a) (s : State) (n : BitVec 10) :
    giveUp s (.request a n) = settleAll (coachExpire s (coachNo a) n) :=
  congrArg settleAll (if_neg (Nat.not_lt.2 h))

section
variable {s : State} (hf : s.dev.fabReset = false) {e : Fin 98} {tag : BitVec 10}
include hf

theorem exec_reservationExpiry_of_none
    (h : s.noc.resv.find? (fun q => q.endpoint == e.val && resvNo q.what == tag) = none) :
    exec (.reservationExpiry e tag) s = .next s := by
  show execReservationExpiry e tag s = _
  rw [execReservationExpiry, onFabric_of_running hf, h]

variable {q : Resv} (hq : s.noc.resv.find? (fun q => q.endpoint == e.val && resvNo q.what == tag) = some q)
include hq

theorem exec_reservationExpiry_of_stopped (hc : answerCrosses s q.what = true) (ht : twinState s ≠ 2) :
    exec (.reservationExpiry e tag) s = .next s := by
  show execReservationExpiry e tag s = _
  rw [execReservationExpiry, onFabric_of_running hf, hq]
  exact congrArg Host.Outcome.next (if_pos (by simp [hc, ht]))

theorem exec_reservationExpiry_of_timed (h : answerCrosses s q.what = false ∨ twinState s = 2) :
    exec (.reservationExpiry e tag) s = .next (giveUp (resvExpired s e q) q.what) := by
  show execReservationExpiry e tag s = _
  rw [execReservationExpiry, onFabric_of_running hf, hq]
  refine congrArg Host.Outcome.next (if_neg ?_)
  rcases h with hc | ht
  · simp [hc]
  · simp [ht]

end

/-! ### The header on its wires -/

theorem hdrFields_widths (opc : Nat) (m : Hdr) : (hdrFields opc m).map (·.1) = hdrWidths := rfl

/-- The widths of R100 add up to the 128 bits of a header. -/
theorem hdrWidths_sum : hdrWidths.sum = 128 := by decide

theorem hdrWord_toNat (opc : Nat) (m : Hdr) : (hdrWord opc m).toNat = pack (hdrFields opc m) := by
  have hlt := pack_lt (hdrFields opc m)
  rw [hdrFields_widths, hdrWidths_sum] at hlt
  rw [hdrWord, BitVec.toNat_ofNat, Nat.mod_eq_of_lt hlt]

theorem unpack_hdrWord (opc : Nat) (m : Hdr) :
    unpack hdrWidths (hdrWord opc m).toNat = (hdrFields opc m).map (fun f => f.2 % 2 ^ f.1) := by
  rw [hdrWord_toNat, ← hdrFields_widths opc m, unpack_pack]

theorem bool_toNat_beq_one (b : Bool) : (b.toNat % 2 ^ 1 == 1) = b := by cases b <;> rfl

theorem bitVec_ofNat_toNat_mod {w : Nat} (x : BitVec w) : BitVec.ofNat w (x.toNat % 2 ^ w) = x := by
  rw [Nat.mod_eq_of_lt x.isLt, BitVec.ofNat_toNat, BitVec.setWidth_eq]

theorem fin_ofNat_val_mod {n k : Nat} [NeZero n] (h : n ≤ k) (x : Fin n) : Fin.ofNat n (x.val % k) = x := by
  rw [Nat.mod_eq_of_lt (x.isLt.trans_le h), Fin.ofNat_val_eq_self]

theorem readHdr_hdrWord {opc : Nat} (h : opc < 64) (m : Hdr) : readHdr (hdrWord opc m) = (opc, { m with epoch0 := none }) := by
  unfold readHdr
  rw [unpack_hdrWord]
  simp only [hdrFields, List.cons_append, List.nil_append, List.map_cons, List.map_nil, List.getD_cons_succ, List.getD_cons_zero,
    bool_toNat_beq_one, bitVec_ofNat_toNat_mod]
  refine congrArg₂ Prod.mk (Nat.mod_eq_of_lt h) ?_
  rw [fin_ofNat_val_mod (by decide) m.hslice, fin_ofNat_val_mod (by decide) m.htxn, fin_ofNat_val_mod (by decide) m.dport]

/-- Settles O43: the buffer's room, then the header's ECC, decide what becomes of an arriving message; a reservation gives up but
where the twin link has stopped its time; and every field of a header is read back. -/
theorem networkCommands : Obligations.NetworkCommands := by
  intro r net i d e seq cr tag s hf
  refine ⟨fun h => ?unnamed, fun g p hl hp he => ⟨exec_routerFlitArrival_of_full hf hl hp he, fun w hr hn hw => ?enters⟩,
    fun cnt mx sm u => exec_creditret_of_arrives hf, fun u => exec_drainmark_of_arrives hf, fun u l ha hl => ?echo,
    exec_regulatedInjection_of_running hf i net, exec_reservationExpiry_of_none hf, fun q t hq ht => ?expires,
    exec_routerParityError_of_inService hf, fun opc m h => readHdr_hdrWord h m⟩
  case unnamed =>
    exact ⟨exec_routerFlitArrival_of_unnamed hf h .clean .clean, exec_routerFlitArrival_of_unnamed hf h .corrected .clean⟩
  case enters =>
    obtain rfl : w = enterBuffer s g g r p := hw
    have h := exec_routerFlitArrival_of_room hf hl hp he hr hn
    exact ⟨h .clean, h .corrected, fun v hv => hv ▸ h .uncorrectable⟩
  case echo =>
    subst hl
    exact exec_drainecho_of_arrives hf ha
  case expires =>
    obtain rfl : t = resvExpired s e q := ht
    refine ⟨exec_reservationExpiry_of_stopped hf hq, fun h => ?_⟩
    rw [exec_reservationExpiry_of_timed hf hq h]
    exact ⟨fun a n hw hh => by rw [hw, giveUp_request_of_host hh], fun a n hw hh => by rw [hw, giveUp_request_of_coach hh],
      fun a hw => by rw [hw]; rfl, fun n hw => by rw [hw]; rfl, fun x n hw => by rw [hw]; rfl⟩

/-! ### Keeper accesses -/

/-- Endpoint 5 of the region that holds the access's register, or of region 0 (R296), answers it. -/
def kprAnswered (s : State) (m : KprAcc) (err : Bool) (w : Word) : State :=
  inject s ⟨servicesEp (if inRegions m.offset.toNat then (regionOff m.offset.toNat).1 else 0), keeperEp, .rsp, false, 1, 0, 0⟩
    none (.kprrsp ⟨m.ktag, err, w⟩)

section
variable {s u : State} (hf : s.dev.fabReset = false)
include hf

theorem exec_kpracc_of_down {m : KprAcc} (ha : Arrives s (.kpracc m) u) (hu : u.dev.fabReset = false)
    (hd : targetDown u m.offset.toNat = true) : exec (.kpracc m) s = .next (kprAnswered u m true 0) := by
  rw [exec_of_arrives rfl hf ha]
  simp only [hd, if_true, onFabric_of_running hu]
  rfl

theorem exec_kpracc_of_serving {m : KprAcc} (ha : Arrives s (.kpracc m) u) (hd : targetDown u m.offset.toNat = false)
    {v : State} {w : Word} (hx : accessWord u m.init m.offset (if m.wr then some m.data else none) = (v, w))
    (hv : v.dev.fabReset = false) : exec (.kpracc m) s = .next (kprAnswered v m false w) := by
  rw [exec_of_arrives rfl hf ha]
  simp only [hd, Bool.false_eq_true, if_false, hx, onFabric_of_running hv]
  rfl

theorem exec_kprrsp_of_arrives {q : KprRsp} (ha : Arrives s (.kprrsp q) u) :
    exec (.kprrsp q) s = .next (kprEnds (unreserve u (.keeper q.ktag)) q.ktag q.data) := by
  rw [exec_of_arrives rfl hf ha]

end

/-- Settles O44: whether the register's unit serves decides between ERR and the word, and the answer ends the word. -/
theorem keeperAccesses : Obligations.KeeperAccesses := by
  intro m q n s u hf hn
  subst hn
  exact ⟨exec_kpracc_of_down hf, fun ha hd v w => exec_kpracc_of_serving hf ha hd, exec_kprrsp_of_arrives hf⟩

end Sys2Proof.Proofs
end

section
/-! SUPPORT. Traffic control of 09_traffic_control and the buffer auditor of 07_switch_core: the head of a meter's hold list, the
refresh of the finish tags, and the two ends of an audit sweep. -/

namespace Sys2Proof.Proofs

open Sys2Proof.Machine Sys2Proof.Laws

/-! ### Hold lists -/

/-- Packet `x` leaves the hold list of meter `i` at level `level` and joins its flow, and HELD is counted again (R308). -/
def released (t : State) (n i : Nat) (x : Pkt) (level : Nat) : State :=
  settlePeers (settleHeld (joinPkt (withBuf t { t.buf with pkts := t.buf.pkts.erase x }) { x with level := level }) n i)

/-- `b` bytes go at level 1: Tc of meter `i` covers them, or the PIR of its profile is 0 (R308). -/
def atLevelOne (s : State) (n i b : Nat) : Bool :=
  decide (4096 * b ≤ tokensC s (meterProfile s n i) (meterPair s n i)) || decide (ratePir s.banks.live (meterProfile s n i) = 0)

/-- Meter `i` is charged `b` bytes at a release: Tp always, Tc where they go at level 1 (R308). -/
def charged (s : State) (n i b : Nat) : State :=
  setMeter s n i (chargeBoth s (meterProfile s n i) (meterPair s n i) (if atLevelOne s n i b then b else 0) b)

/-- Tp of meter `i` does not cover `b` bytes (R308). -/
abbrev Short (s : State) (n i b : Nat) : Prop :=
  0 < ratePir s.banks.live (meterProfile s n i) ∧ tokensP s (meterProfile s n i) (meterPair s n i) < 4096 * b

theorem not_short_of_covered {s : State} {n i b : Nat}
    (h : ratePir s.banks.live (meterProfile s n i) = 0 ∨ 4096 * b ≤ tokensP s (meterProfile s n i) (meterPair s n i)) :
    ¬ Short s n i b := by
  rintro ⟨hr, ht⟩
  omega

section
variable {s : State} (hf : s.dev.fabReset = false) {n : Fin 16} {i : Fin 1024}
include hf

theorem exec_holdListRelease_of_empty (hl : holdList s n i = []) : exec (.holdListRelease n i) s = .next s := by
  show execHoldListRelease n i s = _
  rw [execHoldListRelease, onFabric_of_running hf, hl]

variable {x : Pkt} {l : List Pkt} {p : RxPacket} (hl : holdList s n i = x :: l) (hx : x.load = .switched p)
include hl hx

theorem exec_holdListRelease_of_short (hv : bitAt (meterWord s.banks.live n i) 31 = true) (h : Short s n i p.bytes) :
    exec (.holdListRelease n i) s = .next s := by
  obtain ⟨hr, ht⟩ := h
  show execHoldListRelease n i s = _
  rw [execHoldListRelease, onFabric_of_running hf, hl]
  dsimp only
  rw [hx]
  exact congrArg Host.Outcome.next (if_pos (by simp [hv, hr, ht]))

theorem exec_holdListRelease_of_covered (hv : bitAt (meterWord s.banks.live n i) 31 = true) (h : ¬ Short s n i p.bytes) :
    exec (.holdListRelease n i) s =
      .next (released (charged s n i p.bytes) n i x (if atLevelOne s n i p.bytes then 1 else 0)) := by
  unfold released charged atLevelOne
  show execHoldListRelease n i s = _
  rw [execHoldListRelease, onFabric_of_running hf, hl]
  dsimp only
  rw [hx, hv, if_neg (by simpa using h)]
  rfl

/-- An invalidated meter is not charged (R308, assumption 128). -/
theorem exec_holdListRelease_of_invalid (hv : bitAt (meterWord s.banks.live n i) 31 = false) :
    exec (.holdListRelease n i) s = .next (released s n i x 1) := by
  unfold released
  show execHoldListRelease n i s = _
  rw [execHoldListRelease, onFabric_of_running hf, hl]
  dsimp only
  rw [hx, hv]
  rfl

end

/-! ### Finish tags -/

/-- Flow `f`, whose finish tag stands at `k`, keeps it in a refresh: it is not empty, or its tag is later than `v` (R318). -/
def keepsTag (w : List Waiting) (v : Nat) (m : SMap Nat) (k f : Nat) : Bool :=
  w.any (fun x => x.flow == f) || tagLater (sGet m k 0) v

/-- The refresh of flow `f` of admission point `a`, at virtual time `v` (R318). -/
def refreshFlow (w : List Waiting) (a v : Nat) (m : SMap Nat) (f : Nat) : SMap Nat :=
  if keepsTag w v m (a * 1025 + f) f then m else sPut m (a * 1025 + f) 0 v

theorem sGet_refreshFlow_same (w : List Waiting) (a v : Nat) (m : SMap Nat) (f : Nat) :
    sGet (refreshFlow w a v m f) (a * 1025 + f) 0 =
      if keepsTag w v m (a * 1025 + f) f then sGet m (a * 1025 + f) 0 else v := by
  unfold refreshFlow
  split
  · rfl
  · exact sGet_sPut_same ..

theorem sGet_refreshFlow_other (w : List Waiting) (a v : Nat) (m : SMap Nat) {f g : Nat} (h : f ≠ g) :
    sGet (refreshFlow w a v m g) (a * 1025 + f) 0 = sGet m (a * 1025 + f) 0 := by
  unfold refreshFlow
  split
  · rfl
  · exact sGet_sPut_other _ _ _ _ (by omega)

/-- The tags once the first `n` flows of admission point `a` are refreshed. -/
def refreshFlows (w : List Waiting) (a v : Nat) (m : SMap Nat) (n : Nat) : SMap Nat :=
  (List.range n).foldl (refreshFlow w a v) m

theorem refreshFlows_succ (w : List Waiting) (a v : Nat) (m : SMap Nat) (n : Nat) :
    refreshFlows w a v m (n + 1) = refreshFlow w a v (refreshFlows w a v m n) n := by
  rw [refreshFlows, List.range_succ, List.foldl_append]
  rfl

theorem sGet_refreshFlows_beyond (w : List Waiting) (a v : Nat) (m : SMap Nat) {n f : Nat} (h : n ≤ f) :
    sGet (refreshFlows w a v m n) (a * 1025 + f) 0 = sGet m (a * 1025 + f) 0 := by
  induction n with
  | zero => rfl
  | succ n ih => rw [refreshFlows_succ, sGet_refreshFlow_other _ _ _ _ (by omega), ih (by omega)]

/-- Each flow is refreshed once, by the tag that it had. -/
theorem sGet_refreshFlows (w : List Waiting) (a v : Nat) (m : SMap Nat) {n f : Nat} (h : f < n) :
    sGet (refreshFlows w a v m n) (a * 1025 + f) 0 =
      if keepsTag w v m (a * 1025 + f) f then sGet m (a * 1025 + f) 0 else v := by
  induction n with
  | zero => exact absurd h (Nat.not_lt_zero f)
  | succ n ih =>
    rw [refreshFlows_succ]
    rcases Nat.lt_succ_iff_lt_or_eq.1 h with hlt | rfl
    · rw [sGet_refreshFlow_other _ _ _ _ hlt.ne, ih hlt]
    · rw [sGet_refreshFlow_same, keepsTag, sGet_refreshFlows_beyond _ _ _ _ (Nat.le_refl _), keepsTag]

/-- The flows of an admission point are refreshed to its virtual time, the default flow with them (R318). -/
def tagsRefreshed (s : State) (n j c : Nat) : State :=
  withBuf s { s.buf with
    finish := refreshFlows (waitingAt s n j c) (admKey n j c) (sGet s.buf.vtime (admKey n j c) 0) s.buf.finish 1025 }

theorem buf_withBuf (s : State) (b : Buf) : (withBuf s b).buf = b := rfl

theorem tagsRefreshed_vtime (s : State) (n j c : Nat) : (tagsRefreshed s n j c).buf.vtime = s.buf.vtime := by
  rw [tagsRefreshed, buf_withBuf]

theorem tagsRefreshed_pkts (s : State) (n j c : Nat) : (tagsRefreshed s n j c).buf.pkts = s.buf.pkts := by
  rw [tagsRefreshed, buf_withBuf]

/-- Each of the 1,024 meters' flows and the default flow has been refreshed. -/
theorem tagsRefreshed_finish (s : State) (n j c : Nat) {f : Nat} (h : f < 1025) :
    sGet (tagsRefreshed s n j c).buf.finish (admKey n j c * 1025 + f) 0 =
      if keepsTag (waitingAt s n j c) (sGet s.buf.vtime (admKey n j c) 0) s.buf.finish (admKey n j c * 1025 + f) f then
        sGet s.buf.finish (admKey n j c * 1025 + f) 0
      else sGet s.buf.vtime (admKey n j c) 0 := by
  simp only [tagsRefreshed, buf_withBuf, sGet_refreshFlows _ _ _ _ h]

theorem exec_flowTagRefresh_of_running {s : State} (hf : s.dev.fabReset = false) (n : Fin 16) (j : Fin 9) (c : Fin 4) :
    exec (.flowTagRefresh n j c) s = .next (tagsRefreshed s n j c) := by
  show execFlowTagRefresh n j c s = _
  rw [execFlowTagRefresh, onFabric_of_running hf]
  unfold tagsRefreshed refreshFlows refreshFlow keepsTag
  rfl

/-! ### The auditor -/

theorem fld_or (x y : Word) (hi lo : Nat) : fld (x ||| y) hi lo = fld x hi lo ||| fld y hi lo := by
  unfold fld
  rw [BitVec.toNat_or, Nat.or_div_two_pow, Nat.or_mod_two_pow]

/-- A field beside the bit that is written. -/
theorem rd_wrBit_beside (s : State) (o : Nat) {k hi lo : Nat} (hk : k < 32) (h : k < lo ∨ hi < k) (b : Bool) :
    rd (wrBit s o k b) o hi lo = rd s o hi lo := by
  rw [rd, rd, rdWord, rdWord, fld_or, fld_or, wrBit_liveWord, getReg_wrBit_same,
    fld_putFld_other _ _ _ _ _ _ hk (Nat.le_refl k) h]

/-- A sweep of region `n` has started: RUNNING, under the colour opposite to the last (R268). -/
def sweepStarted (s : State) (n : Nat) : State :=
  withBuf (wrBit s (R.RGN_BUF_AUDIT_STATUS n) 30 true)
    { s.buf with sweepColour := sPut s.buf.sweepColour n 0 (1 - sGet s.buf.sweepColour n 0) }

/-- A sweep of region `n` has ended, before its findings are taken: RGN_BUF_AUDIT_STATUS shows it counted and not RUNNING. -/
def sweepEnded (s : State) (n : Nat) : State :=
  wr (wrBit s (R.RGN_BUF_AUDIT_STATUS n) 30 false) (R.RGN_BUF_AUDIT_STATUS n) 15 0
    (rd (wrBit s (R.RGN_BUF_AUDIT_STATUS n) 30 false) (R.RGN_BUF_AUDIT_STATUS n) 15 0 + 1)

section
variable (s : State) (n : Nat)

theorem sweepStarted_running : bitAt (getReg (sweepStarted s n) (R.RGN_BUF_AUDIT_STATUS n)) 30 = true := by
  rw [sweepStarted, withBuf_getReg, getReg_wrBit_same, bitAt_putFld_same _ _ _ (by decide)]

theorem sweepStarted_colour : sGet (sweepStarted s n).buf.sweepColour n 0 = 1 - sGet s.buf.sweepColour n 0 := sGet_sPut_same ..

theorem sweepStarted_regsBut : RegsBut [R.RGN_BUF_AUDIT_STATUS n] s (sweepStarted s n) := by
  intro o ho
  rw [sweepStarted, withBuf_getReg]
  exact regsBut_wrBit (regsBut_refl _ s) (List.mem_singleton_self _) 30 true o ho

theorem sweepStarted_frame : Frame [.regs, .settings, .buf] s (sweepStarted s n) :=
  (withBuf_st (q0 := keep [.regs, .settings, .buf]) (wrBit_st (Steady.refl _ s) rfl rfl) rfl).frame

theorem sweepEnded_running : bitAt (getReg (sweepEnded s n) (R.RGN_BUF_AUDIT_STATUS n)) 30 = false := by
  rw [sweepEnded, getReg_wr_same, bitAt_putFld_other _ _ _ _ _ (by decide) (by decide) (by decide), getReg_wrBit_same,
    bitAt_putFld_same _ _ _ (by decide)]

theorem sweepEnded_count : fld (getReg (sweepEnded s n) (R.RGN_BUF_AUDIT_STATUS n)) 15 0 =
    (rd s (R.RGN_BUF_AUDIT_STATUS n) 15 0 + 1) % 65536 := by
  rw [sweepEnded, getReg_wr_same, fld_putFld _ _ _ _ (by decide) (by decide), rd_wrBit_beside _ _ (by decide) (by decide)]
  rfl

theorem sweepEnded_regsBut : RegsBut [R.RGN_BUF_AUDIT_STATUS n] s (sweepEnded s n) :=
  regsBut_wr (regsBut_wrBit (regsBut_refl _ s) (List.mem_singleton_self _) _ _) (List.mem_singleton_self _) _ _ _

theorem sweepEnded_frame : Frame [.regs, .settings] s (sweepEnded s n) :=
  (wr_st (q0 := keep [.regs, .settings]) (wrBit_st (Steady.refl _ s) rfl rfl) rfl rfl).frame

end

section
variable {s : State} (hf : s.dev.fabReset = false) {n : Fin 16}
include hf

theorem exec_auditSweepStart_of_disabled (h : rdBit s (R.RGN_BUF_AUDIT_CTRL n) 0 = false) :
    exec (.auditSweepStart n) s = .next s :=
  congrArg Host.Outcome.next ((onFabric_of_running hf _).trans (if_neg (by simp [h])))

theorem exec_auditSweepStart_of_enabled (h : rdBit s (R.RGN_BUF_AUDIT_CTRL n) 0 = true) :
    exec (.auditSweepStart n) s = .next (sweepStarted s n) :=
  congrArg Host.Outcome.next ((onFabric_of_running hf _).trans (if_pos h))

theorem exec_auditSweepEnd_of_idle (h : rdBit s (R.RGN_BUF_AUDIT_STATUS n) 30 = false) (l : List AuditFinding) :
    exec (.auditSweepEnd n l) s = .next s :=
  congrArg Host.Outcome.next ((onFabric_of_running hf _).trans (if_pos (by simp [h])))

theorem exec_auditSweepEnd_of_running (h : rdBit s (R.RGN_BUF_AUDIT_STATUS n) 30 = true) (l : List AuditFinding) :
    exec (.auditSweepEnd n l) s = .next (l.foldl (fun v f => auditFinding v n f) (sweepEnded s n)) :=
  congrArg Host.Outcome.next ((onFabric_of_running hf _).trans (if_neg (by simp [h])))

end

/-- Settles O42: validity and Tp decide whether a held head goes, and Tc at what level; each flow is refreshed once, at a key
of its own; and the findings of a sweep are taken after its end is shown. -/
theorem holdListsAndAudits : Obligations.HoldListsAndAudits := by
  intro n i s hf
  refine ⟨exec_holdListRelease_of_empty hf,
    fun x l p hl hx => ⟨fun hv hr ht => exec_holdListRelease_of_short hf hl hx hv ⟨hr, ht⟩,
    exec_holdListRelease_of_invalid hf hl hx, fun f q t hfp hv hc hq ht => ?covered⟩, fun j c => ?refresh,
    exec_auditSweepStart_of_disabled hf, fun h => ?start, exec_auditSweepEnd_of_idle hf, fun h => ?ends,
    fun l t h ht => ?findings⟩
  case covered =>
    subst hfp
    obtain rfl : q = atLevelOne s n i p.bytes := hq
    obtain rfl : t = charged s n i p.bytes := ht
    exact exec_holdListRelease_of_covered hf hl hx hv (not_short_of_covered hc)
  case refresh =>
    have h := exec_flowTagRefresh_of_running hf n j c
    refine ⟨_, h, tagsRefreshed_vtime s n j c, tagsRefreshed_pkts s n j c, fun f v k hlt hv hk => ?_,
      frame_of (execFlowTagRefresh_ok (Steady.refl _ s)) h⟩
    subst hv hk
    have htag := tagsRefreshed_finish s n j c hlt
    exact ⟨fun hw hl => htag.trans (if_neg (by simp [keepsTag, hw, hl])),
      fun hkeep => htag.trans (if_pos (Bool.or_eq_true_iff.2 hkeep))⟩
  case start =>
    exact ⟨_, exec_auditSweepStart_of_enabled hf h, sweepStarted_running s n, sweepStarted_colour s n, sweepStarted_regsBut s n,
      sweepStarted_frame s n⟩
  case ends =>
    exact ⟨_, exec_auditSweepEnd_of_running hf h [], sweepEnded_running s n, sweepEnded_count s n, sweepEnded_regsBut s n,
      sweepEnded_frame s n⟩
  case findings =>
    obtain rfl : sweepEnded s n = t := Host.Outcome.next.inj ((exec_auditSweepEnd_of_running hf h []).symm.trans ht)
    exact exec_auditSweepEnd_of_running hf h l

end Sys2Proof.Proofs
end

section
/-! SUPPORT. The lanes of 11_lanes: failing lanes and the spare that takes them, switchovers by software, spares that fail,
forces, loop-back modes and checkers. -/

namespace Sys2Proof.Proofs

open Sys2Proof.Machine Sys2Proof.Laws

/-! ### Forces of a lane -/

/-- A receiver that stays on keeps its adaptation values. -/
theorem laneTo_of_on (s : State) (n tx : Nat) {rx : Nat} (h : rx ≠ 0) :
    laneTo s n tx rx = wr (wr s (laneReg n 0) 24 23 tx) (laneReg n 0) 22 21 rx := if_neg h

/-- A receiver that goes OFF loses its adaptation values (R358). -/
theorem laneTo_of_off (s : State) (n tx : Nat) {rx : Nat} (h : rx = 0) :
    laneTo s n tx rx = setReg (wr (wr s (laneReg n 0) 24 23 tx) (laneReg n 0) 22 21 rx) (laneReg n 8) 0 := if_pos h

theorem applyForce_of_not_forceable {s : State} {n : Nat} (h : forceable s n = false) : applyForce s n = s := by
  simp [applyForce, h]

theorem applyForce_of_forced {s : State} {n : Nat} (h : forceable s n = true) (hb : rdBit s (laneReg n 0x10) 31 = true) :
    applyForce s n = laneTo s n (rd s (laneReg n 0x10) 3 2) (rd s (laneReg n 0x10) 1 0) := by
  simp [applyForce, h, hb]

/-- The word at lane offset `k` of lane `n` is written with `val` by its access codes. -/
def laneWritten (s : State) (n k : Nat) (val : Word) : State :=
  setReg s (laneReg n k) (writeBits (laneReg n k) (getReg s (laneReg n k)) val)

/-! ### A failing lane and the spare that takes it -/

/-- Lane `n` has lost its lock: LOCK is clear, FAILING set and the lane's event raised (R366). -/
def lockLossShown (s : State) (n : Nat) : State :=
  raiseEv (wrBit (wrBit s (laneReg n 0) 31 false) (laneReg n 0) 20 true) (laneEvent n)

/-- The lane of local index `k` fails with no cover: with AUTO the free spare of `o` takes it, and with none free the loss is
beyond the spares (R367, R368, assumption 178). -/
def spareTakes (t : State) (o : SpareOwner) (k : BitVec 5) : State :=
  match freeSpare t o with
  | some b => if spareAuto t o then startSwitch t o b false k else t
  | none => beyondSpares t o

section
variable {t : State} {o : SpareOwner} (k : BitVec 5)

theorem spareTakes_of_auto {b : Bool} (h : freeSpare t o = some b) (ha : spareAuto t o = true) :
    spareTakes t o k = startSwitch t o b false k := by
  simp [spareTakes, h, ha]

theorem spareTakes_of_manual {b : Bool} (h : freeSpare t o = some b) (ha : spareAuto t o = false) : spareTakes t o k = t := by
  simp [spareTakes, h, ha]

theorem spareTakes_of_none (h : freeSpare t o = none) : spareTakes t o k = beyondSpares t o := by
  simp [spareTakes, h]

end

/-! ### Lane commands on a running fabric die -/

section
variable {s : State} (hf : s.dev.fabReset = false)
include hf

section
variable {n : Fin 562}

theorem exec_laneFailing_of_no_link (h : laneLink s n = none) (why : LaneWhy) : exec (.laneFailing n why) s = .next s := by
  show execLaneFailing n why s = _
  rw [execLaneFailing, onFabric_of_running hf, h]

variable {l : LinkId} (hl : laneLink s n = some l)
include hl

theorem exec_laneFailing_of_down (h2 : linkStateOf s l ≠ 2) (h3 : linkStateOf s l ≠ 3) (why : LaneWhy) :
    exec (.laneFailing n why) s = .next s := by
  show execLaneFailing n why s = _
  rw [execLaneFailing, onFabric_of_running hf, hl]
  exact congrArg Host.Outcome.next (if_pos (by simp [h2, h3]))

theorem exec_laneFailing_of_recovery (h : linkStateOf s l = 3) :
    exec (.laneFailing n .lockLost) s = .next (lockLossShown s n) := by
  show execLaneFailing n .lockLost s = _
  rw [execLaneFailing, onFabric_of_running hf, hl]
  simp [h, lockLossShown]

/-- No spare covers the lane of an active link, and its owner is not held in reset. -/
theorem exec_laneFailing_of_active (h : linkStateOf s l = 2) (hh : ownerHeld (laneOwner n) (lockLossShown s n) = false)
    (hc : laneCovered (lockLossShown s n) (laneOwner n) (laneLocal n) = false)
    (ho : laneOfOwner (lockLossShown s n) (laneOwner n) (laneLocal n) = true) :
    exec (.laneFailing n .lockLost) s = .next (spareTakes (lockLossShown s n) (laneOwner n) (BitVec.ofNat 5 (laneLocal n))) := by
  show execLaneFailing n .lockLost s = _
  rw [execLaneFailing, onFabric_of_running hf, hl]
  exact congrArg Host.Outcome.next ((if_neg (by simp [h])).trans
    ((if_neg (show ¬ (linkStateOf s l != 2 || ownerHeld (laneOwner n) (lockLossShown s n) ||
      laneCovered (lockLossShown s n) (laneOwner n) (laneLocal n)) = true by simp [h, hh, hc])).trans (if_pos ho)))

end

section
variable {o : SpareOwner} {lane : BitVec 5}

theorem exec_spareSubst_of_free {b : Bool} (ho : laneOfOwner s o lane.toNat = true) (ha : ownerActive s o = true)
    (hh : ownerHeld o s = false) (hb : freeSpare s o = some b) :
    exec (.spareSubst o lane) s = .next (startSwitch s o b false lane) := by
  show execSpareSubst o lane s = _
  rw [execSpareSubst, onFabric_of_running hf, if_pos (by simp [ho, ha, hh]), hb]

theorem exec_spareSubst_of_barred
    (h : laneOfOwner s o lane.toNat = false ∨ ownerActive s o = false ∨ ownerHeld o s = true) :
    exec (.spareSubst o lane) s = .next s := by
  show execSpareSubst o lane s = _
  rw [execSpareSubst, onFabric_of_running hf, if_neg]
  rcases h with h | h | h <;> simp [h]

theorem exec_spareSubst_of_no_spare (h : freeSpare s o = none) : exec (.spareSubst o lane) s = .next s := by
  show execSpareSubst o lane s = _
  rw [execSpareSubst, onFabric_of_running hf, h, ite_self]

theorem exec_spareRestore_of_barred
    (h : laneIsFailing s o lane.toNat = true ∨ ownerActive s o = false ∨ ownerHeld o s = true) :
    exec (.spareRestore o lane) s = .next s := by
  show execSpareRestore o lane s = _
  rw [execSpareRestore, onFabric_of_running hf]
  refine congrArg Host.Outcome.next (if_neg ?_)
  rcases h with h | h | h <;> simp [h]

/-- A block has one spare, so its lane is restored from that one (R369). -/
theorem exec_spareRestore_of_substituted {b : Fin 32} (hst : spareState s (.block b) false = 2)
    (hln : spareLane s (.block b) false = lane.toNat) (hn : laneIsFailing s (.block b) lane.toNat = false)
    (ha : ownerActive s (.block b) = true) (hh : ownerHeld (.block b) s = false)
    (hw : swOf s (spareKey (.block b) false) = none) :
    exec (.spareRestore (.block b) lane) s = .next (startSwitch s (.block b) false true lane) := by
  show execSpareRestore (.block b) lane s = _
  rw [execSpareRestore, onFabric_of_running hf]
  exact congrArg Host.Outcome.next (if_pos (by simp [hst, hln, hn, ha, hh, hw]))

variable {second : Bool}

theorem exec_spareFailure_of_standby (h : spareState s o second = 1) :
    exec (.spareFailure o second) s = .next (setSpare (setSw s (spareKey o second) none) o second 3 0x1F) := by
  show execSpareFailure o second s = _
  rw [execSpareFailure, onFabric_of_running hf, if_pos (by simp [h])]

theorem exec_spareFailure_of_substituting (h : spareState s o second = 2) :
    exec (.spareFailure o second) s = .next (beyondSpares s o) := by
  show execSpareFailure o second s = _
  rw [execSpareFailure, onFabric_of_running hf, if_neg (by simp [h]), if_pos (by simp [h])]

theorem exec_spareFailure_of_unused (h1 : spareState s o second ≠ 1) (h2 : spareState s o second ≠ 2) :
    exec (.spareFailure o second) s = .next s := by
  show execSpareFailure o second s = _
  rw [execSpareFailure, onFabric_of_running hf, if_neg (by simp [h1]), if_neg (by simp [h2])]

end

section
variable {n : Fin 562}

theorem exec_lanePowerForce (val : Word) :
    exec (.lanePowerForce n val) s = .next (applyForce (laneWritten s n 0x10 val) n) :=
  congrArg Host.Outcome.next (onFabric_of_running hf _)

theorem exec_loopbackModeWrite_of_ignored {val : Word} (hm : fld val 31 29 ≠ 0) (h : forceable s n = false) :
    exec (.loopbackModeWrite n val) s = .next s := by
  show execLoopbackModeWrite n val s = _
  rw [execLoopbackModeWrite, onFabric_of_running hf, if_pos (by simp [hm, h])]

section
variable {val : Word} (hm : fld val 31 29 = 0 ∨ forceable s n = true)
include hm

/-- CHECK_EN does not go from 0 to 1. -/
theorem exec_loopbackModeWrite_of_kept (h : bitAt val 24 = false ∨ rdBit s (laneReg n 0x14) 24 = true) :
    exec (.loopbackModeWrite n val) s = .next (laneWritten s n 0x14 val) := by
  show execLoopbackModeWrite n val s = _
  rw [execLoopbackModeWrite, onFabric_of_running hf, if_neg (by rcases hm with hm | hm <;> simp [hm])]
  exact congrArg Host.Outcome.next (if_neg (by rcases h with h | h <;> simp [h]))

/-- A checker that is switched on starts from zero (R363). -/
theorem exec_loopbackModeWrite_of_started (hv : bitAt val 24 = true) (h : rdBit s (laneReg n 0x14) 24 = false) :
    exec (.loopbackModeWrite n val) s =
      .next (setReg (wrBit (laneWritten s n 0x14 val) (laneReg n 0x14) 23 false) (laneReg n 0x18) 0) := by
  show execLoopbackModeWrite n val s = _
  rw [execLoopbackModeWrite, onFabric_of_running hf, if_neg (by rcases hm with hm | hm <;> simp [hm])]
  exact congrArg Host.Outcome.next (if_pos (by simp [hv, h]))

end

theorem exec_checkerLock_of_running (h : rdBit s (laneReg n 0x14) 24 = true) :
    exec (.checkerLock n) s = .next (wrBit s (laneReg n 0x14) 23 true) :=
  congrArg Host.Outcome.next ((onFabric_of_running hf _).trans (if_pos h))

theorem exec_checkerLock_of_stopped (h : rdBit s (laneReg n 0x14) 24 = false) : exec (.checkerLock n) s = .next s :=
  congrArg Host.Outcome.next ((onFabric_of_running hf _).trans (if_neg (by simp [h])))

end

end

/-- Settles O45: the lane's link, its state and the free spare choose what a failure does; a force goes by whether the lane may
be forced, and a write of the loop-back word by MODE and CHECK_EN. -/
theorem laneCommands : Obligations.LaneCommands := by
  intro n o lane val s hf
  refine ⟨fun why h => exec_laneFailing_of_no_link hf h why, fun l why hl h2 h3 => exec_laneFailing_of_down hf hl h2 h3 why,
    ?recovery, ?active, fun b ho ha hh hb => exec_spareSubst_of_free hf ho ha hh hb, ?barred, exec_spareRestore_of_barred hf,
    ?restore, fun second => ⟨exec_spareFailure_of_standby hf, exec_spareFailure_of_substituting hf,
      exec_spareFailure_of_unused hf⟩, ?force, exec_loopbackModeWrite_of_ignored hf, ?loopback, fun h => ?lock,
    exec_checkerLock_of_stopped hf⟩
  case recovery =>
    rintro l _ hl h rfl
    exact exec_laneFailing_of_recovery hf hl h
  case active =>
    rintro l _ hl h rfl hh hc ho
    have hrun := exec_laneFailing_of_active hf hl h hh hc ho
    exact ⟨fun b hb => ⟨fun ha => hrun.trans (congrArg _ (spareTakes_of_auto _ hb ha)),
        fun ha => hrun.trans (congrArg _ (spareTakes_of_manual _ hb ha))⟩,
      fun hb => hrun.trans (congrArg _ (spareTakes_of_none _ hb))⟩
  case barred =>
    rintro (h | h | h | h)
    · exact exec_spareSubst_of_barred hf (.inl h)
    · exact exec_spareSubst_of_barred hf (.inr (.inl h))
    · exact exec_spareSubst_of_barred hf (.inr (.inr h))
    · exact exec_spareSubst_of_no_spare hf h
  case restore =>
    rintro b rfl hst hln hn ha hh hw
    exact exec_spareRestore_of_substituted hf hst hln hn ha hh hw
  case force =>
    rintro _ rfl
    have hrun := exec_lanePowerForce hf (n := n) val
    refine ⟨fun h => hrun.trans (congrArg _ (applyForce_of_not_forceable h)), ?_⟩
    rintro h hb _ rfl
    have hforced := hrun.trans (congrArg _ (applyForce_of_forced h hb))
    exact ⟨fun hrx => hforced.trans (congrArg _ (laneTo_of_on _ _ _ hrx)),
      fun hrx => hforced.trans (congrArg _ (laneTo_of_off _ _ _ hrx))⟩
  case loopback =>
    rintro _ hm rfl
    exact ⟨exec_loopbackModeWrite_of_kept hf hm, exec_loopbackModeWrite_of_started hf hm⟩
  case lock =>
    refine ⟨_, exec_checkerLock_of_running hf h, ?_, regsBut_wrBit (regsBut_refl _ s) (List.mem_singleton_self _) _ _,
      (wrBit_st (q0 := keep [.regs, .settings]) (Steady.refl _ s) rfl rfl).frame⟩
    rw [getReg_wrBit_same, bitAt_putFld_same _ _ _ (by decide)]

end Sys2Proof.Proofs
end

section
/-! SUPPORT. The block as a whole: the next state of every command is steady, and from that one fact follow the canonical form,
the queue and the history, and the configuration that traffic leaves alone; what a cycle without a command changes; and which
commands a fabric die in reset does not take. -/

namespace Sys2Proof.Proofs

open Sys2Proof.Machine Sys2Proof.Laws

/-! ### Every command is steady -/

/-- The parts that command `c` leaves as they are: of traffic its configuration, and of other commands none that is named here. -/
def keptBy (c : Instr) (p : Part) : Bool :=
  c.traffic && [Part.settings, .banks, .dev, .txn, .slots, .store].contains p

/-- The next state of every command is steady, each command by the law of its own meaning. -/
theorem exec_steady (c : Instr) (s : State) : OkOutcome (keptBy c) s (exec c s) :=
  match c with
  | .registerWrite .. => execRegisterWrite_ok (.refl _ s)
  | .mgmtEndpointAccess .. => execMgmtEndpointAccess_ok (.refl _ s)
  | .wideRegisterLowRead .. => execWideRegisterLowRead_ok (.refl _ s)
  | .counterClearWrite .. => execCounterClearWrite_ok (.refl _ s)
  | .debugAccess .. => execDebugAccess_ok (.refl _ s)
  | .smbusWriteRegister .. => execSmbusWriteRegister_ok (.refl _ s)
  | .smbusLatchOffset .. => execSmbusLatchOffset_ok (.refl _ s)
  | .smbusReadRegister => execSmbusReadRegister_ok (.refl _ s)
  | .spiReadId => execSpiReadId_ok (.refl _ s)
  | .spiReadStatus => execSpiReadStatus_ok (.refl _ s)
  | .spiWriteEnable => execSpiWriteEnable_ok (.refl _ s)
  | .spiRead .. => execSpiRead_ok (.refl _ s)
  | .spiProgram .. => execSpiProgram_ok (.refl _ s)
  | .spiErasePage .. => execSpiErasePage_ok (.refl _ s)
  | .spiOperationDone .. => execSpiOperationDone_ok (.refl _ s)
  | .mgmtPerst => execMgmtPerst_ok (.refl _ s)
  | .refclkLoss => execRefclkLoss_ok (.refl _ s)
  | .refclkRestored => execRefclkRestored_ok (.refl _ s)
  | .rootPllLockLoss => execRootPllLockLoss_ok (.refl _ s)
  | .serdesPllLockLoss .. => execSerdesPllLockLoss_ok (.refl _ s)
  | .cellFence .. => execCellFence_ok (.refl _ s)
  | .cellUnfence .. => execCellUnfence_ok (.refl _ s)
  | .m2sMemrd .. => execM2sMemrd_ok (.refl _ s)
  | .m2sMemrddata .. => execM2sMemrddata_ok (.refl _ s)
  | .m2sMeminv .. => execM2sMeminv_ok (.refl _ s)
  | .m2sMemspecrd port addr tag => execM2sMemspecrd_ok (_port := port) (_addr := addr) (_tag := tag) (.refl _ s)
  | .m2sMemclnevct .. => execM2sMemclnevct_ok (.refl _ s)
  | .m2sMemwr .. => execM2sMemwr_ok (.refl _ s)
  | .m2sMemwrptl .. => execM2sMemwrptl_ok (.refl _ s)
  | .m2sBirsp _ toShared _ => execM2sBirsp_ok (_toShared := toShared) (.refl _ s)
  | .m2sBiconflict .. => execM2sBiconflict_ok (.refl _ s)
  | .tagLineFill .. => execTagLineFill_ok (.refl _ s)
  | .tagInvalidate .. => execTagInvalidate_ok (.refl _ s)
  | .tagInvalidateDone .. => execTagInvalidateDone_ok (.refl _ s)
  | .getDynamicCapacityConfiguration .. => execGetDynamicCapacityConfiguration_ok (.refl _ s)
  | .getDynamicCapacityExtentList .. => execGetDynamicCapacityExtentList_ok (.refl _ s)
  | .addDynamicCapacityResponse .. => execAddDynamicCapacityResponse_ok (.refl _ s)
  | .releaseDynamicCapacity .. => execReleaseDynamicCapacity_ok (.refl _ s)
  | .getEventRecords .. => execGetEventRecords_ok (.refl _ s)
  | .clearEventRecords .. => execClearEventRecords_ok (.refl _ s)
  | .purgeSweepDone .. => execPurgeSweepDone_ok (.refl _ s)
  | .bind .. => execBind_ok (.refl _ s)
  | .bindAck _ st _ => execBindAck_ok (_st := st) (.refl _ s)
  | .colourInitStart => execColourInitStart_ok (.refl _ s)
  | .colourInitDone => execColourInitDone_ok (.refl _ s)
  | .rdshared .. => execRdshared_ok (.refl _ s)
  | .rdown .. => execRdown_ok (.refl _ s)
  | .upgrade .. => execUpgrade_ok (.refl _ s)
  | .rdcur .. => execRdcur_ok (.refl _ s)
  | .wrline .. => execWrline_ok (.refl _ s)
  | .wrpart .. => execWrpart_ok (.refl _ s)
  | .wbdirty .. => execWbdirty_ok (.refl _ s)
  | .evict .. => execEvict_ok (.refl _ s)
  | .atomicfar .. => execAtomicfar_ok (.refl _ s)
  | .memrd .. => execMemrd_ok (.refl _ s)
  | .memrdIssue .. => execMemrdIssue_ok (.refl _ s)
  | .expanderReadData .. => execExpanderReadData_ok (.refl _ s)
  | .expanderWriteCompletion .. => execExpanderWriteCompletion_ok (.refl _ s)
  | .cmps .. => execCmps_ok (.refl _ s)
  | .cmpo .. => execCmpo_ok (.refl _ s)
  | .cmp .. => execCmp_ok (.refl _ s)
  | .err .. => execErr_ok (.refl _ s)
  | .datago .. => execDatago_ok (.refl _ s)
  | .wbdata .. => execWbdata_ok (.refl _ s)
  | .fill .. => execFill_ok (.refl _ s)
  | .memcmp .. => execMemcmp_ok (.refl _ s)
  | .backinv .. => execBackinv_ok (.refl _ s)
  | .backdown .. => execBackdown_ok (.refl _ s)
  | .backinvBroadcast .. => execBackinvBroadcast_ok (.refl _ s)
  | .biack .. => execBiack_ok (.refl _ s)
  | .biackagg .. => execBiackagg_ok (.refl _ s)
  | .broadcastAggTimeout .. => execBroadcastAggTimeout_ok (.refl _ s)
  | .ack .. => execAck_ok (.refl _ s)
  | .journalBatchTimeout .. => execJournalBatchTimeout_ok (.refl _ s)
  | .jrnbatch .. => execJrnbatch_ok (.refl _ s)
  | .jrnack .. => execJrnack_ok (.refl _ s)
  | .homeTimeout .. => execHomeTimeout_ok (.refl _ s)
  | .journalStall .. => execJournalStall_ok (.refl _ s)
  | .requestTimeout .. => execRequestTimeout_ok (.refl _ s)
  | .memrdTimeout .. => execMemrdTimeout_ok (.refl _ s)
  | .deviceWriteTimeout .. => execDeviceWriteTimeout_ok (.refl _ s)
  | .lossNotice .. => execLossNotice_ok (.refl _ s)
  | .purgeScanDone .. => execPurgeScanDone_ok (.refl _ s)
  | .dirPurge .. => execDirPurge_ok (.refl _ s)
  | .decayWalk .. => execDecayWalk_ok (.refl _ s)
  | .dirAtomCfgWrite .. => execDirAtomCfgWrite_ok (.refl _ s)
  | .dirDrain .. => execDirDrain_ok (.refl _ s)
  | .sliceReset .. => execSliceReset_ok (.refl _ s)
  | .bankReset .. => execBankReset_ok (.refl _ s)
  | .sliceResetDone .. => execSliceResetDone_ok (.refl _ s)
  | .dirPeek .. => execDirPeek_ok (.refl _ s)
  | .doorbell .. => execDoorbell_ok (.refl _ s)
  | .descriptorFetchDone .. => execDescriptorFetchDone_ok (.refl _ s)
  | .dmaReadTimeout .. => execDmaReadTimeout_ok (.refl _ s)
  | .coachTakeUnit .. => execCoachTakeUnit_ok (.refl _ s)
  | .stealreq .. => execStealreq_ok (.refl _ s)
  | .stealrep .. => execStealrep_ok (.refl _ s)
  | .unitend .. => execUnitend_ok (.refl _ s)
  | .landingGrant .. => execLandingGrant_ok (.refl _ s)
  | .recordWrite .. => execRecordWrite_ok (.refl _ s)
  | .migmark .. => execMigmark_ok (.refl _ s)
  | .migadvance .. => execMigadvance_ok (.refl _ s)
  | .migunmark .. => execMigunmark_ok (.refl _ s)
  | .migack .. => execMigack_ok (.refl _ s)
  | .migStepTimeout .. => execMigStepTimeout_ok (.refl _ s)
  | .taginv .. => execTaginv_ok (.refl _ s)
  | .tagack .. => execTagack_ok (.refl _ s)
  | .coachFault .. => execCoachFault_ok (.refl _ s)
  | .coachRetire .. => execCoachRetire_ok (.refl _ s)
  | .coachRetireDone .. => execCoachRetireDone_ok (.refl _ s)
  | .coachReset .. => execCoachReset_ok (.refl _ s)
  | .coachSelfTestDone .. => execCoachSelfTestDone_ok (.refl _ s)
  | .coachReinstate .. => execCoachReinstate_ok (.refl _ s)
  | .chanCreate => execChanCreate_ok (.refl _ s)
  | .chanDestroy => execChanDestroy_ok (.refl _ s)
  | .chanReset => execChanReset_ok (.refl _ s)
  | .chanRehome => execChanRehome_ok (.refl _ s)
  | .chCtrlReset .. => execChCtrlReset_ok (.refl _ s)
  | .chCtrlAbort .. => execChCtrlAbort_ok (.refl _ s)
  | .packetReceived .. => execPacketReceived_ok (.refl _ s)
  | .holdListRelease .. => execHoldListRelease_ok (.refl _ s)
  | .flowTagRefresh .. => execFlowTagRefresh_ok (.refl _ s)
  | .auditSweepStart .. => execAuditSweepStart_ok (.refl _ s)
  | .auditSweepEnd .. => execAuditSweepEnd_ok (.refl _ s)
  | .routerFlitArrival .. => execRouterFlitArrival_ok (.refl _ s)
  | .creditret .. => execCreditret_ok (.refl _ s)
  | .drainmark .. => execDrainmark_ok (.refl _ s)
  | .drainecho .. => execDrainecho_ok (.refl _ s)
  | .reservationExpiry .. => execReservationExpiry_ok (.refl _ s)
  | .regulatedInjection init net => execRegulatedInjection_ok (_init := init) (_net := net) (.refl _ s)
  | .routerParityError .. => execRouterParityError_ok (.refl _ s)
  | .kpracc .. => execKpracc_ok (.refl _ s)
  | .kprrsp .. => execKprrsp_ok (.refl _ s)
  | .laneFailing .. => execLaneFailing_ok (.refl _ s)
  | .spareSubst .. => execSpareSubst_ok (.refl _ s)
  | .spareRestore .. => execSpareRestore_ok (.refl _ s)
  | .spareFailure .. => execSpareFailure_ok (.refl _ s)
  | .lanePowerForce .. => execLanePowerForce_ok (.refl _ s)
  | .loopbackModeWrite .. => execLoopbackModeWrite_ok (.refl _ s)
  | .dataFlit .. => execDataFlit_ok (.refl _ s)
  | .flitCrcFail .. => execFlitCrcFail_ok (.refl _ s)
  | .ackFlit .. => execAckFlit_ok (.refl _ s)
  | .nak .. => execNak_ok (.refl _ s)
  | .replay .. => execReplay_ok (.refl _ s)
  | .compFlit l => execCompFlit_ok (_l := l) (.refl _ s)
  | .ackIdleExpiry .. => execAckIdleExpiry_ok (.refl _ s)
  | .nakResendTimeout .. => execNakResendTimeout_ok (.refl _ s)
  | .replayTimeout .. => execReplayTimeout_ok (.refl _ s)
  | .recoveryTimeout .. => execRecoveryTimeout_ok (.refl _ s)
  | .linkTrained .. => execLinkTrained_ok (.refl _ s)
  | .linkRetrain .. => execLinkRetrain_ok (.refl _ s)
  | .linkDown .. => execLinkDown_ok (.refl _ s)
  | .spareReq .. => execSpareReq_ok (.refl _ s)
  | .spareAck .. => execSpareAck_ok (.refl _ s)
  | .spareNak _ lane _ => execSpareNak_ok (_lane := lane) (.refl _ s)
  | .spareDone .. => execSpareDone_ok (.refl _ s)
  | .spareReqResend .. => execSpareReqResend_ok (.refl _ s)
  | .spareAligned .. => execSpareAligned_ok (.refl _ s)
  | .restoreReq .. => execRestoreReq_ok (.refl _ s)
  | .restoreAck .. => execRestoreAck_ok (.refl _ s)
  | .configRequest .. => execConfigRequest_ok (.refl _ s)
  | .vfEnableClear .. => execVfEnableClear_ok (.refl _ s)
  | .busMasterEnableSet .. => execBusMasterEnableSet_ok (.refl _ s)
  | .powerStateWrite .. => execPowerStateWrite_ok (.refl _ s)
  | .msixUnmask .. => execMsixUnmask_ok (.refl _ s)
  | .flr .. => execFlr_ok (.refl _ s)
  | .flrPeerDrained .. => execFlrPeerDrained_ok (.refl _ s)
  | .bar0Access .. => execBar0Access_ok (.refl _ s)
  | .peerRead .. => execPeerRead_ok (.refl _ s)
  | .peerWrite .. => execPeerWrite_ok (.refl _ s)
  | .peerAtomic .. => execPeerAtomic_ok (.refl _ s)
  | .slotPowerOn .. => execSlotPowerOn_ok (.refl _ s)
  | .slotPowerOff .. => execSlotPowerOff_ok (.refl _ s)
  | .slotIndicator .. => execSlotIndicator_ok (.refl _ s)
  | .slotCommandCompleted .. => execSlotCommandCompleted_ok (.refl _ s)
  | .boardInserted .. => execBoardInserted_ok (.refl _ s)
  | .presenceLost .. => execPresenceLost_ok (.refl _ s)
  | .fastTrip .. => execFastTrip_ok (.refl _ s)
  | .circuitBreakerExpiry .. => execCircuitBreakerExpiry_ok (.refl _ s)
  | .rampTimeout .. => execRampTimeout_ok (.refl _ s)
  | .powerGoodAssert .. => execPowerGoodAssert_ok (.refl _ s)
  | .powerGoodLoss .. => execPowerGoodLoss_ok (.refl _ s)
  | .perstDlyExpiry .. => execPerstDlyExpiry_ok (.refl _ s)
  | .feedGood .. => execFeedGood_ok (.refl _ s)
  | .feedLost .. => execFeedLost_ok (.refl _ s)
  | .reverseCurrent .. => execReverseCurrent_ok (.refl _ s)
  | .breakElapsed .. => execBreakElapsed_ok (.refl _ s)
  | .feedReturnExpiry .. => execFeedReturnExpiry_ok (.refl _ s)
  | .retryElapsed .. => execRetryElapsed_ok (.refl _ s)
  | .sidebandScan .. => execSidebandScan_ok (.refl _ s)
  | .txnBegin .. => execTxnBegin_ok (.refl _ s)
  | .txnJoin .. => execTxnJoin_ok (.refl _ s)
  | .txnCommit .. => execTxnCommit_ok (.refl _ s)
  | .txnRollback .. => execTxnRollback_ok (.refl _ s)
  | .txnPersist .. => execTxnPersist_ok (.refl _ s)
  | .persistDone .. => execPersistDone_ok (.refl _ s)
  | .structuralWrite .. => execStructuralWrite_ok (.refl _ s)
  | .shadowWr .. => execShadowWr_ok (.refl _ s)
  | .shadowAck .. => execShadowAck_ok (.refl _ s)
  | .txnIdleTimeout => execTxnIdleTimeout_ok (.refl _ s)
  | .prepare .. => execPrepare_ok (.refl _ s)
  | .epochDrainDone => execEpochDrainDone_ok (.refl _ s)
  | .prepared .. => execPrepared_ok (.refl _ s)
  | .refused .. => execRefused_ok (.refl _ s)
  | .switch .. => execSwitch_ok (.refl _ s)
  | .switched .. => execSwitched_ok (.refl _ s)
  | .switchedTimeout => execSwitchedTimeout_ok (.refl _ s)
  | .abort .. => execAbort_ok (.refl _ s)
  | .imgLoad .. => execImgLoad_ok (.refl _ s)
  | .imgLoadDone .. => execImgLoadDone_ok (.refl _ s)
  | .beaconSend => execBeaconSend_ok (.refl _ s)
  | .beacon .. => execBeacon_ok (.refl _ s)
  | .beaconWindowMiss .. => execBeaconWindowMiss_ok (.refl _ s)
  | .takeover .. => execTakeover_ok (.refl _ s)
  | .takeoverQuietEnd => execTakeoverQuietEnd_ok (.refl _ s)
  | .takeoverComplete => execTakeoverComplete_ok (.refl _ s)
  | .recoverySweepDone .. => execRecoverySweepDone_ok (.refl _ s)
  | .handoverWrite => execHandoverWrite_ok (.refl _ s)
  | .handover => execHandover_ok (.refl _ s)
  | .handoverDrained => execHandoverDrained_ok (.refl _ s)
  | .handoverDone => execHandoverDone_ok (.refl _ s)
  | .joinWaitExpiry => execJoinWaitExpiry_ok (.refl _ s)
  | .directorySliceRepair .. => execDirectorySliceRepair_ok (.refl _ s)
  | .homing .. => execHoming_ok (.refl _ s)
  | .homingDone .. => execHomingDone_ok (.refl _ s)
  | .syncDone .. => execSyncDone_ok (.refl _ s)
  | .setrecall .. => execSetrecall_ok (.refl _ s)
  | .evtfwd .. => execEvtfwd_ok (.refl _ s)
  | .evtPendClear .. => execEvtPendClear_ok (.refl _ s)
  | .troubleJournalPeriod => execTroubleJournalPeriod_ok (.refl _ s)
  | .perfSnapEnable .. => execPerfSnapEnable_ok (.refl _ s)
  | .snapshotCapture => execSnapshotCapture_ok (.refl _ s)
  | .snapshotRecordDone => execSnapshotRecordDone_ok (.refl _ s)
  | .resetPin .. => execResetPin_ok (.refl _ s)
  | .twinRstIn .. => execTwinRstIn_ok (.refl _ s)
  | .rstTwinOrder => execRstTwinOrder_ok (.refl _ s)
  | .rstSw .. => execRstSw_ok (.refl _ s)
  | .keeperWatchdogRestart => execKeeperWatchdogRestart_ok (.refl _ s)
  | .keeperWatchdogReset => execKeeperWatchdogReset_ok (.refl _ s)
  | .stateParityError .. => execStateParityError_ok (.refl _ s)
  | .fabricSupplyFault => execFabricSupplyFault_ok (.refl _ s)
  | .keeperSupplyFault => execKeeperSupplyFault_ok (.refl _ s)
  | .thermal .. => execThermal_ok (.refl _ s)
  | .portPerstAssert .. => execPortPerstAssert_ok (.refl _ s)
  | .portPerstDeassert .. => execPortPerstDeassert_ok (.refl _ s)
  | .debugReset => execDebugReset_ok (.refl _ s)
  | .powerOnRelease .. => execPowerOnRelease_ok (.refl _ s)
  | .resetRelease => execResetRelease_ok (.refl _ s)
  | .supplyTroubleStart .. => execSupplyTroubleStart_ok (.refl _ s)
  | .supplyTroubleEnd .. => execSupplyTroubleEnd_ok (.refl _ s)
  | .rstOtpProgram .. => execRstOtpProgram_ok (.refl _ s)
  | .rstOtpDone .. => execRstOtpDone_ok (.refl _ s)
  | .keeperBoot => execKeeperBoot_ok (.refl _ s)
  | .regionSelfTestDone .. => execRegionSelfTestDone_ok (.refl _ s)
  | .structureLoad => execStructureLoad_ok (.refl _ s)
  | .slotGroupPower .. => execSlotGroupPower_ok (.refl _ s)
  | .fabricReady => execFabricReady_ok (.refl _ s)
  | .crossbarCellTime => execCrossbarCellTime_ok (.refl _ s)
  | .flowControlUpdate .. => execFlowControlUpdate_ok (.refl _ s)
  | .standardLinkRecovery .. => execStandardLinkRecovery_ok (.refl _ s)
  | .checkerLock .. => execCheckerLock_ok (.refl _ s)
  | .presenceDebounced .. => execPresenceDebounced_ok (.refl _ s)
  | .flrComplete .. => execFlrComplete_ok (.refl _ s)
  | .fabricPowerGood => execFabricPowerGood_ok (.refl _ s)
  | .devicePortTrainTimeout .. => execDevicePortTrainTimeout_ok (.refl _ s)
  | .retryStatusTimeout .. => execRetryStatusTimeout_ok (.refl _ s)
  | .troubleJournalWriteDone .. => execTroubleJournalWriteDone_ok (.refl _ s)
  | .perfCounterOverflow .. => execPerfCounterOverflow_ok (.refl _ s)

theorem steady_of_exec {c : Instr} {s t : State} (h : exec c s = .next t) : Steady (keptBy c) s t := by
  have hc := exec_steady c s
  rw [h] at hc
  exact hc

theorem steady_tick (s : State) : Steady (fun _ => false) s (tick s) :=
  tick_st (.refl _ s) rfl rfl rfl rfl rfl rfl rfl rfl rfl rfl

/-- Settles O5: both kinds of step are steady, and a steady step keeps the canonical forms. -/
theorem stepKeepsInvariant : Obligations.StepKeepsInvariant := by
  rintro s t ⟨hregs, hstore⟩ h
  unfold step at h
  split at h
  · have hst := steady_of_exec h
    exact ⟨hst.regsWf hregs, hst.storeWf hstore⟩
  · cases h
    exact ⟨(steady_tick s).regsWf hregs, (steady_tick s).storeWf hstore⟩

/-- Settles O6: what every steady step keeps of the queue, the output and the free values. -/
theorem commandsKeepQueueAndHistory : Obligations.CommandsKeepQueueAndHistory := fun _ _ _ h =>
  have hst := steady_of_exec h
  ⟨hst.pending, hst.grows, hst.fresher⟩

theorem steady_mono {p q : Part → Bool} {s t : State} (h : Steady p s t) (hq : ∀ x, q x = true → p x = true) : Steady q s t where
  pending := h.pending
  grows := h.grows
  fresher := h.fresher
  regsWf := h.regsWf
  storeWf := h.storeWf
  regs k := h.regs (hq _ k)
  settings k := h.settings (hq _ k)
  cap k := h.cap (hq _ k)
  banks k := h.banks (hq _ k)
  dev k := h.dev (hq _ k)
  txn k := h.txn (hq _ k)
  pair k := h.pair (hq _ k)
  links k := h.links (hq _ k)
  fns k := h.fns (hq _ k)
  slots k := h.slots (hq _ k)
  snap k := h.snap (hq _ k)
  pool k := h.pool (hq _ k)
  store k := h.store (hq _ k)
  noc k := h.noc (hq _ k)
  buf k := h.buf (hq _ k)
  dir k := h.dir (hq _ k)
  dp k := h.dp (hq _ k)
  hp k := h.hp (hq _ k)
  co k := h.co (hq _ k)
  flight k := h.flight (hq _ k)
  out k := h.out (hq _ k)
  fresh k := h.fresh (hq _ k)

/-- Settles O9: a command of traffic keeps the parts that `keptBy` names, and these are all but those of the frame. -/
theorem trafficChangesNoConfiguration : Obligations.TrafficChangesNoConfiguration := by
  intro c s t hc h
  refine (steady_mono (steady_of_exec h) fun x hx => ?_).frame
  rw [keptBy, hc]
  revert hx
  cases x <;> decide

/-! ### One step -/

/-- Settles O1. -/
theorem stepRunsFrontCommand : Obligations.StepRunsFrontCommand := by
  intro c s rest h
  rw [step, h]

theorem step_of_idle {s : State} (h : s.pending = []) : step s = .next (tick s) := by
  rw [step, h]

theorem onFabric_of_held {s : State} (h : s.dev.fabReset = true) (t : State) : onFabric s t = s := if_pos h

/-- Where the words lie in which units show their own work: above those of the dies, the slots and the transaction unit, and of
the chip's words above these in the channel manager, the tenants' statistics, the pending events and the performance counters. -/
theorem background_range {o : Nat} (h : Background o) : o = 0x3000004 ∨ (0x3200000 ≤ o ∧ o < 0x3204000) ∨
    (0x4001000 ≤ o ∧ o ≤ 0x4001040) ∨ (0x4004008 ≤ o ∧ o < 0x4004800) ∨ 0x8000000 ≤ o := by
  obtain ⟨x, ho⟩ : ∃ x, o = x := ⟨o, rfl⟩
  rw [ho] at h
  cases h with
  | record hw k h1 h2 =>
    cases hw <;> simp only [ppuWindow, guardWindow, twinGuardWindow, R.RGN_PPU_ENTRY_CTRL, R.RGN_GUARD_ENTRY_CTRL,
      R.TWIN_GUARD_ENTRY_CTRL] at ho <;> omega
  | perfLow k | perfHigh k | perfOverflow k =>
    unfold perfBase at ho
    split at ho <;> simp only [R.PERF_CHIP_CTR_SEL, R.PERF_RGN_CTR_SEL] at ho <;> omega
  | laneErrors n | laneSymbols n =>
    unfold laneReg at ho
    repeat' split at ho
    all_goals simp only [R.PB_LANE_STATUS, R.TWIN_LANE_STATUS] at ho
    all_goals omega
  | linkReplay l | linkUnexpected l | linkDuplicate l | linkTimeout l | linkLate l =>
    cases l <;> simp only [linkReg, R.PB_LINK_STATUS, R.TWIN_LINK_STATUS] at ho <;> omega
  | _ =>
    simp only [R.EVT_PEND, R.EVT_SUMMARY, R.NOC_ERR_CNT0, R.NOC_ERR_CNT1, R.NOC_ERR_CNT2, R.NOC_ERR_CNT3, R.NOC_STAT,
      R.RGN_BUF_STATUS, R.RGN_BUF_USE, R.RGN_BUF_ECC_CNT, R.RGN_BUF_UNCORR_CNT, R.RGN_TAG_ECC_CNT, R.XBAR_METER_HELD,
      R.STX_TENANT_STAT, R.STX_CHAN_STATUS, R.COACH_CH_CNT, R.COACH_UNIT_ERR_CNT, R.COACH_LATE_CNT, R.COACH_CACHE_ECC_CNT,
      R.DIR_CTRL, R.DIR_STATUS, R.DIR_ECC_CNT, R.DIR_UNCORR_CNT, R.DIR_LOST_STATUS, R.DIR_TMO_LAST, R.DIR_TMO_CNT,
      R.DIR_LATE_CNT, R.DIR_POISON_CNT, R.DIR_PARK_CNT, R.DIR_JSTALL_CNT, R.SEG_UNBOUND_CNT, R.SEG_TAG_ERR_CNT,
      R.SEG_DC_REJECT_CNT, R.TWIN_ACTING, R.TWIN_PAIR_STATUS, R.TWIN_JRN_STATUS, R.TWIN_CNT1] at ho
    omega

theorem not_background_of_lt {o : Nat} (h : o < 0x3000004) : ¬ Background o := fun hb => by
  have hr := background_range hb
  omega

/-- What a cycle of KCLK does beyond the timestamp. -/
def tickWork (s : State) : State := perfAnnounce (perfTick (upset s))

theorem tickWork_steady {q : Part → Bool} {a s : State} (h : Steady q a s) (hq : ∀ x ∈ Part.buf :: .fresh :: eventParts, q x = false) :
    Steady q a (tickWork s) := by
  have c0 := hq .regs (by decide)
  have c7 := hq .links (by decide)
  have c8 := hq .fns (by decide)
  have c10 := hq .snap (by decide)
  have c13 := hq .noc (by decide)
  have c14 := hq .buf (by decide)
  have c19 := hq .flight (by decide)
  have c20 := hq .out (by decide)
  have c21 := hq .fresh (by decide)
  exact perfAnnounce_st (perfTick_st (upset_st h))

theorem tick_of_running {s : State} (h : s.dev.fabReset = false) : tick s = tickWork (wr64 s R.RST_TIME (now s + 1)) :=
  onFabric_of_running h _

/-- The work of a cycle leaves every word outside the background. -/
theorem getReg_tickWork (s : State) {o : Nat} (h : ¬ Background o) : getReg (tickWork s) o = getReg s o :=
  (tickWork_steady (q := fun p => p == .settings) (.refl _ s) (by decide)).settings rfl o h

/-- Settles O2: the timestamp is set first, and what follows leaves every word outside the background. -/
theorem idleStepCountsTime : Obligations.IdleStepCountsTime := by
  intro s hp
  refine ⟨tick s, step_of_idle hp, onFabric_of_held (s := s) (t := _), fun h => ?_, fun o ho hb => ?_,
    Steady.frame (tick_st (.refl _ s) rfl rfl rfl rfl rfl rfl rfl rfl rfl rfl)⟩
  · rw [tick_of_running h, getReg_tickWork _ (not_background_of_lt (by decide)),
      getReg_tickWork _ (not_background_of_lt (by decide))]
    exact ⟨(getReg_setReg_other _ (show R.RST_TIME ≠ R.RST_TIME + 4 by decide) _).trans (getReg_setReg_same ..),
      getReg_setReg_same ..⟩
  · cases h : s.dev.fabReset with
    | true => rw [show tick s = s from onFabric_of_held h _]
    | false =>
      obtain ⟨h0, h4⟩ : o ≠ R.RST_TIME ∧ o ≠ R.RST_TIME + 4 := by simpa using ho
      rw [tick_of_running h, getReg_tickWork _ hb, wr64, getReg_setReg_other _ h4, getReg_setReg_other _ h0]

/-- Settles O3. -/
theorem resetState : Obligations.ResetState := ⟨rfl, rfl, fun _ => ⟨rfl, rfl⟩, fun _ => rfl, rfl, rfl, rfl⟩

/-- Settles O4. -/
theorem resetMeetsInvariant : Obligations.ResetMeetsInvariant := ⟨rfl, rfl⟩

/-! ### Completion, and a fabric die in reset -/

/-- A command of the SPI mode stops only where the store has no byte. -/
theorem spi_completes {s : State} {c : Prop} [Decidable c] (t : State) :
    (∃ u, (if s.dev.spiMode = true ∧ c then .fault .storeOutside else .next t : Host.Outcome State Fault Refusal) = .next u) ∨
      (s.dev.spiMode = true ∧ c ∧
        (if s.dev.spiMode = true ∧ c then .fault .storeOutside else .next t : Host.Outcome State Fault Refusal) =
          .fault .storeOutside) := by
  by_cases h : s.dev.spiMode = true ∧ c
  · exact .inr ⟨h.1, h.2, if_pos h⟩
  · exact .inl ⟨t, if_neg h⟩

/-- Settles O7: the three SPI-mode commands that name an offset test it, and every other meaning is a next state. -/
theorem everyCommandCompletes : Obligations.EveryCommandCompletes := by
  intro c s
  cases c
  case spiRead off len => exact (spi_completes _).imp_right fun ⟨hm, hc, he⟩ => ⟨hm, he, .inl ⟨off, len, rfl, hc⟩⟩
  case spiProgram off data => exact (spi_completes _).imp_right fun ⟨hm, hc, he⟩ => ⟨hm, he, .inr (.inl ⟨off, data, rfl, hc⟩)⟩
  case spiErasePage off => exact (spi_completes _).imp_right fun ⟨hm, hc, he⟩ => ⟨hm, he, .inr (.inr ⟨off, rfl, hc⟩)⟩
  all_goals exact .inl ⟨_, rfl⟩

theorem onMailbox_of_held {s : State} (h : s.dev.fabReset = true) (p : Nat) (t : State) : onMailbox s p t = s := by
  simp [onMailbox, h]

theorem onOwnLink_of_held {s : State} (h : s.dev.fabReset = true) (l : LinkId) (t : State) : onOwnLink s l t = s := by
  simp [onOwnLink, h]

/-- Settles O8: each such command takes its effect through the fabric die, through a port's mailbox or through an own link,
and each of the three is idle while the die is held in reset. -/
theorem fabricInResetDoesNothing : Obligations.FabricInResetDoesNothing := by
  intro c s h hr
  cases c <;> cases h
  case m2sMeminv port nt mv addr tag => cases mv <;> exact congrArg Host.Outcome.next (onFabric_of_held hr _)
  case getDynamicCapacityConfiguration | getDynamicCapacityExtentList | addDynamicCapacityResponse | releaseDynamicCapacity |
      getEventRecords | clearEventRecords =>
    exact congrArg Host.Outcome.next (onMailbox_of_held hr _ _)
  case dataFlit | ackFlit | nak | replay | ackIdleExpiry | nakResendTimeout | replayTimeout =>
    exact congrArg Host.Outcome.next (onOwnLink_of_held hr _ _)
  all_goals exact congrArg Host.Outcome.next (onFabric_of_held hr _)

end Sys2Proof.Proofs
end

section
/-! SUPPORT. The store pins in SPI mode (19, R571), and what programming and erasing leave in the store. -/

namespace Sys2Proof.Proofs

open Sys2Proof.Machine Sys2Proof.Laws

/-- An update of the dies alone. -/
theorem devOnly_st {q : Part → Bool} {a s : State} {d : Dev} (h : Steady q a s) (c : q .dev = false) :
    Steady q a { s with dev := d } :=
  { h with dev := fun k => absurd (c.symm.trans k) (by decide) }

/-! ### The bytes of the store -/

theorem storeByte_storePut (s : State) (a j : Nat) (b : Byte) :
    storeByte (storePut s a b) j = if j = a then b else storeByte s j := by
  by_cases h : j = a
  · rw [if_pos h, h]; exact sGet_sPut_same ..
  · rw [if_neg h]; exact sGet_sPut_other s.store _ _ _ h

/-- Bytes that are written are read back, and the others are as they were. -/
theorem storeByte_storeWrite (s : State) (a : Nat) (bs : List Byte) (j : Nat) :
    storeByte (storeWrite s a bs) j = if a ≤ j ∧ j < a + bs.length then bs.getD (j - a) 0 else storeByte s j := by
  induction bs generalizing s a with
  | nil => rw [if_neg (by simp)]; rfl
  | cons b bs ih =>
    rw [storeWrite, ih, storeByte_storePut]
    by_cases hj : j = a
    · subst hj
      simp
    · by_cases hlt : a + 1 ≤ j ∧ j < a + 1 + bs.length
      · rw [if_pos hlt, if_pos (by simp only [List.length_cons]; omega), show j - a = j - (a + 1) + 1 by omega,
          List.getD_cons_succ]
      · rw [if_neg hlt, if_neg hj, if_neg (by simp only [List.length_cons]; omega)]

theorem storeByte_storeErasePage (s : State) (a j : Nat) :
    storeByte (storeErasePage s a) j = if j / 4096 = a / 4096 then 0xFF else storeByte s j := by
  rw [storeByte, storeErasePage, sGet_sDrop]
  simp only [beq_iff_eq]
  rfl

/-- Writing bytes of the store changes nothing but the store. -/
theorem storeWrite_keeps (s : State) (a : Nat) (bs : List Byte) : storeWrite s a bs = { s with store := (storeWrite s a bs).store } := by
  induction bs generalizing s a with
  | nil => rfl
  | cons b bs ih => exact ih (storePut s a b) (a + 1)

theorem getReg_storeWrite (s : State) (a : Nat) (bs : List Byte) (o : Nat) : getReg (storeWrite s a bs) o = getReg s o := by
  rw [storeWrite_keeps]; rfl

/-! ### The commands -/

/-- What a read of the pins returns: 0xFF in the device-key record, and the store's bytes outside it. -/
def spiBytes (s : State) (off : BitVec 32) (len : Nat) : List Byte :=
  (List.range len).map (fun i => if inKeyRecord (off.toNat + i) then 0xFF else storeByte s (off.toNat + i))

theorem spiBytes_get (s : State) (off : BitVec 32) {len i : Nat} (h : i < len) : (spiBytes s off len)[i]? =
    some (if 0xA010000 ≤ off.toNat + i ∧ off.toNat + i < 0xA020000 then 0xFF else storeByte s (off.toNat + i)) := by
  simp [spiBytes, h, inKeyRecord]

/-- An operation of the pins has started: BUSY shows, and the write enable is used up. -/
def spiStarted (s : State) (op : SpiOp) : State :=
  wrBit { s with dev := { s.dev with spiWel := false, spiFail := false, spiOp := some op } } R.RST_SUP_STATUS 27 true

/-- The operation of the pins has ended: BUSY shows no more. -/
def spiEnded (s : State) : State :=
  wrBit { s with dev := { s.dev with spiOp := none, spiFail := false } } R.RST_SUP_STATUS 27 false

theorem spiStart_of_ready {s : State} {off : BitVec 32} (hw : s.dev.spiWel = true) (ho : s.dev.spiOp = none)
    (hk : inKeyRecord off.toNat = false) (hs : supplyTrouble s = false) (op : SpiOp) : spiStart s off op true = spiStarted s op :=
  if_pos (by simp [hw, ho, hk, hs])

theorem busy_spiStarted (s : State) (op : SpiOp) : bitAt (getReg (spiStarted s op) R.RST_SUP_STATUS) 27 = true := by
  rw [spiStarted, getReg_wrBit_same, bitAt_putFld_same _ _ _ (by decide)]

theorem busy_spiEnded (s : State) : bitAt (getReg (spiEnded s) R.RST_SUP_STATUS) 27 = false := by
  rw [spiEnded, getReg_wrBit_same, bitAt_putFld_same _ _ _ (by decide)]

theorem spiStarted_regsBut (s : State) (op : SpiOp) : RegsBut [R.RST_SUP_STATUS] s (spiStarted s op) :=
  fun _ h => getReg_wrBit_other _ (by simpa using h) _ _

theorem spiEnded_regsBut (s : State) : RegsBut [R.RST_SUP_STATUS] s (spiEnded s) :=
  fun _ h => getReg_wrBit_other _ (by simpa using h) _ _

theorem spiStarted_frame (s : State) (op : SpiOp) : Frame [.dev, .regs, .settings] s (spiStarted s op) :=
  (wrBit_st (devOnly_st (q := keep [.dev, .regs, .settings]) (.refl _ s) rfl) rfl rfl).frame

theorem spiEnded_steady (s : State) : Steady (keep [.dev, .store, .regs, .settings]) s (spiEnded s) :=
  wrBit_st (devOnly_st (.refl _ s) rfl) rfl rfl

section
variable {s : State} (hm : s.dev.spiMode = true) {off : BitVec 32}
include hm

theorem onSpi_of_mode (t : State) : onSpi s t = t := if_pos hm

theorem exec_spiRead_of_inside {len : Nat} (h : off.toNat + len ≤ 0x10000000) :
    exec (.spiRead off len) s = .next (emit s (.spi (spiBytes s off len))) :=
  (if_neg fun hc => Nat.not_lt.2 h hc.2).trans (congrArg Host.Outcome.next (onSpi_of_mode hm _))

theorem exec_spiProgram_of_inside (h : off.toNat < 0x10000000) {data : List Byte} (hp : off.toNat % 4096 + data.length ≤ 4096) :
    exec (.spiProgram off data) s = .next (spiStart s off (.program off data) true) := by
  refine (if_neg fun hc => Nat.not_le.2 h hc.2).trans (congrArg Host.Outcome.next ((onSpi_of_mode hm _).trans ?_))
  rw [decide_eq_true hp]

theorem exec_spiErasePage_of_inside (h : off.toNat < 0x10000000) :
    exec (.spiErasePage off) s = .next (spiStart s off (.erase off) true) :=
  (if_neg fun hc => Nat.not_le.2 h hc.2).trans (congrArg Host.Outcome.next (onSpi_of_mode hm _))

theorem exec_spiOperationDone_of_program {data : List Byte} (h : s.dev.spiOp = some (.program off data)) :
    exec (.spiOperationDone false) s = .next (storeWrite (spiEnded s) off.toNat data) := by
  refine congrArg Host.Outcome.next ((onSpi_of_mode hm _).trans ?_)
  rw [h]; rfl

theorem exec_spiOperationDone_of_erase (h : s.dev.spiOp = some (.erase off)) :
    exec (.spiOperationDone false) s = .next (storeErasePage (spiEnded s) off.toNat) := by
  refine congrArg Host.Outcome.next ((onSpi_of_mode hm _).trans ?_)
  rw [h]; rfl

end

/-- Settles O16: an operation that may start does, and what its end writes or erases is read back. -/
theorem spiModeCommands : Obligations.SpiModeCommands := by
  intro off len data s hm
  refine ⟨congrArg Host.Outcome.next (onSpi_of_mode hm _), congrArg Host.Outcome.next (onSpi_of_mode hm _),
    congrArg Host.Outcome.next (onSpi_of_mode hm _), ?read, ?start, ?programmed, ?erased⟩
  case read =>
    exact fun h => ⟨_, exec_spiRead_of_inside hm h, _, rfl, by simp [spiBytes], fun i hi => spiBytes_get s off hi⟩
  case start =>
    intro h hw ho hk hs
    have hrun := spiStart_of_ready hw ho hk hs
    have hstarted : ∀ op, bitAt (getReg (spiStarted s op) R.RST_SUP_STATUS) 27 = true ∧
        RegsBut [R.RST_SUP_STATUS] s (spiStarted s op) ∧ Frame [.dev, .regs, .settings] s (spiStarted s op) :=
      fun op => ⟨busy_spiStarted s op, spiStarted_regsBut s op, spiStarted_frame s op⟩
    exact ⟨fun hp => ⟨_, (exec_spiProgram_of_inside hm h hp).trans (congrArg _ (hrun _)), rfl, rfl, hstarted _⟩,
      ⟨_, (exec_spiErasePage_of_inside hm h).trans (congrArg _ (hrun _)), rfl, rfl, hstarted _⟩⟩
  case programmed =>
    intro h
    refine ⟨_, exec_spiOperationDone_of_program hm h, ?_, ?_, ?_, fun a => storeByte_storeWrite .., fun o ho => ?_, ?_⟩
    · rw [storeWrite_dev]; rfl
    · rw [storeWrite_dev]; rfl
    · rw [getReg_storeWrite, busy_spiEnded]
    · rw [getReg_storeWrite, spiEnded_regsBut s o ho]
    · exact (storeWrite_st (spiEnded_steady s) rfl).frame
  case erased =>
    intro h
    exact ⟨_, exec_spiOperationDone_of_erase hm h, rfl, busy_spiEnded s, fun a => storeByte_storeErasePage ..,
      (storeErasePage_st (spiEnded_steady s) rfl).frame⟩

/-- Settles O17. -/
theorem managementEndpointReset : Obligations.ManagementEndpointReset := fun _ => rfl

end Sys2Proof.Proofs
end

section
/-! SUPPORT. What events and counters leave as they were, for the statements about slots, dies, the transaction unit and the
pair; and the slot channels of 16_slot_power: trips, power-good, feeds, presence, commands and the sideband chain. -/

namespace Sys2Proof.Proofs

open Sys2Proof.Machine Sys2Proof.Laws

/-! ### Events and counters -/

theorem raiseEv_steady (s : State) (e : Nat) : Steady (keep eventParts) s (raiseEv s e) :=
  raiseEv_st (.refl _ s) rfl rfl rfl rfl rfl rfl rfl

theorem count_steady (s : State) (off lo : Nat) (rule : CntRule) (e : Nat) :
    Steady (keep (.settings :: eventParts)) s (count s off lo rule e) :=
  count_st (.refl _ s) rfl rfl rfl rfl rfl rfl rfl rfl

/-- An update of the slots alone. -/
theorem slotsOnly_st {q : Part → Bool} {a s : State} {x : Slots} (h : Steady q a s) (c : q .slots = false) :
    Steady q a { s with slots := x } :=
  { h with slots := fun k => absurd (c.symm.trans k) (by decide) }

theorem liveWord_congr {s t : State} (h : t.banks = s.banks) (o : Nat) : liveWord t o = liveWord s o := by rw [liveWord, liveWord, h]

theorem rd_congr {s t : State} {o : Nat} (h : getReg t o = getReg s o) (hl : liveWord t o = liveWord s o) (hi lo : Nat) :
    rd t o hi lo = rd s o hi lo := by rw [rd, rd, rdWord, rdWord, h, hl]

theorem rdBit_congr {s t : State} {o : Nat} (h : getReg t o = getReg s o) (hl : liveWord t o = liveWord s o) (k : Nat) :
    rdBit t o k = rdBit s o k := by rw [rdBit, rdBit, rdWord, rdWord, h, hl]

theorem satUp_lt (c : Nat) : satUp c < 65536 := by
  unfold satUp
  split <;> omega

/-- A trouble counter that has counted shows one more, or stands at its end (R539). -/
theorem fld_count (s : State) {off : Nat} (lo : Nat) (rule : CntRule) (e : Nat) (hb : ¬ Background off) (hlo : lo ≤ 16) :
    fld (getReg (count s off lo rule e) off) (lo + 15) lo = satUp (rd s off (lo + 15) lo) := by
  have hw : fld (getReg (wr s off (lo + 15) lo (satUp (rd s off (lo + 15) lo))) off) (lo + 15) lo = satUp (rd s off (lo + 15) lo) := by
    rw [getReg_wr_same, fld_putFld _ _ _ _ (by omega) (by omega), show lo + 15 + 1 - lo = 16 by omega]
    exact Nat.mod_eq_of_lt (satUp_lt _)
  unfold count
  dsimp only
  split
  · rw [raiseEv_getReg _ _ hb, hw]
  · exact hw

theorem bitAt_putFld_zero (w : Word) (i : Nat) (h : i < 32) : bitAt (putFld w i i 0) i = false := bitAt_putFld_same w i false h

theorem bitAt_putFld_one (w : Word) (i : Nat) (h : i < 32) : bitAt (putFld w i i 1) i = true := bitAt_putFld_same w i true h

/-! ### The words of a slot -/

theorem not_background_slotStatus (i : Fin 32) : ¬ Background (R.SLOT_STATUS i) :=
  not_background_of_lt (by unfold R.SLOT_STATUS; omega)

theorem not_background_slotCnt0 (i : Fin 32) : ¬ Background (R.SLOT_CNT0 i) := not_background_of_lt (by unfold R.SLOT_CNT0; omega)

theorem not_background_slotCnt1 (i : Fin 32) : ¬ Background (R.SLOT_CNT1 i) := not_background_of_lt (by unfold R.SLOT_CNT1; omega)

theorem slotCtrl_ge (p : Nat) : 0x8040404 ≤ slotCtrl p := by
  unfold slotCtrl R.PB_SLOT_CTRL
  omega

theorem slotStatus_ne_ctrl (i : Fin 32) (p : Nat) : R.SLOT_STATUS i ≠ slotCtrl p := by
  have hp := slotCtrl_ge p
  unfold R.SLOT_STATUS
  omega

/-- No unit shows its own work in a hot-plug control word (R430). -/
theorem not_background_slotCtrl {p : Nat} (hp : p < 128) : ¬ Background (slotCtrl p) := by
  intro h
  obtain ⟨o, ho⟩ : ∃ o, slotCtrl p = o := ⟨_, rfl⟩
  rw [ho] at h
  unfold slotCtrl R.PB_SLOT_CTRL at ho
  cases h with
  | record hw k h1 h2 =>
    cases hw <;> simp only [ppuWindow, guardWindow, twinGuardWindow, R.RGN_PPU_ENTRY_CTRL, R.RGN_GUARD_ENTRY_CTRL,
      R.TWIN_GUARD_ENTRY_CTRL] at ho <;> omega
  | perfLow k | perfHigh k | perfOverflow k =>
    unfold perfBase at ho
    split at ho <;> simp only [R.PERF_CHIP_CTR_SEL, R.PERF_RGN_CTR_SEL] at ho <;> omega
  | laneErrors n | laneSymbols n =>
    unfold laneReg at ho
    repeat' split at ho
    all_goals simp only [R.PB_LANE_STATUS, R.TWIN_LANE_STATUS] at ho
    all_goals omega
  | linkReplay l | linkUnexpected l | linkDuplicate l | linkTimeout l | linkLate l =>
    cases l <;> simp only [linkReg, R.PB_LINK_STATUS, R.TWIN_LINK_STATUS] at ho <;> omega
  | _ =>
    simp only [R.EVT_PEND, R.EVT_SUMMARY, R.NOC_ERR_CNT0, R.NOC_ERR_CNT1, R.NOC_ERR_CNT2, R.NOC_ERR_CNT3, R.NOC_STAT,
      R.RGN_BUF_STATUS, R.RGN_BUF_USE, R.RGN_BUF_ECC_CNT, R.RGN_BUF_UNCORR_CNT, R.RGN_TAG_ECC_CNT, R.XBAR_METER_HELD,
      R.STX_TENANT_STAT, R.STX_CHAN_STATUS, R.COACH_CH_CNT, R.COACH_UNIT_ERR_CNT, R.COACH_LATE_CNT, R.COACH_CACHE_ECC_CNT,
      R.DIR_CTRL, R.DIR_STATUS, R.DIR_ECC_CNT, R.DIR_UNCORR_CNT, R.DIR_LOST_STATUS, R.DIR_TMO_LAST, R.DIR_TMO_CNT,
      R.DIR_LATE_CNT, R.DIR_POISON_CNT, R.DIR_PARK_CNT, R.DIR_JSTALL_CNT, R.SEG_UNBOUND_CNT, R.SEG_TAG_ERR_CNT,
      R.SEG_DC_REJECT_CNT, R.TWIN_ACTING, R.TWIN_PAIR_STATUS, R.TWIN_JRN_STATUS, R.TWIN_CNT1] at ho
    omega

/-- A port that a slot serves is one of the device's ports. -/
theorem slotPort_lt {s : State} {i p : Nat} (h : slotPort s i = some p) : p < 128 := by
  unfold slotPort at h
  dsimp only at h
  split at h
  · cases h
    exact Nat.mod_lt _ (by decide)
  · cases h

theorem portRole_congr {s t : State} (h : t.banks = s.banks) (c : Nat) : portRole t c = portRole s c := by
  unfold portRole portValid portCfg liveWord
  rw [h]

/-- The port that a slot serves is a matter of the structure alone. -/
theorem slotPort_congr {s t : State} (h : t.banks = s.banks) (i : Nat) : slotPort t i = slotPort s i := by
  unfold slotPort
  simp only [portRole_congr h, liveWord_congr h]

/-! ### Operations on a slot -/

theorem setSlotBit_getReg (s : State) {p b en o : Nat} (hb : ¬ Background o) (h : o ≠ slotCtrl p) :
    getReg (setSlotBit s p b en) o = getReg s o := by
  have hw : getReg (wrBit s (slotCtrl p) b true) o = getReg s o := getReg_wrBit_other s h b true
  unfold setSlotBit
  dsimp only
  repeat' split
  · exact hw
  · rw [raiseEv_getReg _ _ hb, hw]
  · exact hw

theorem setSlotBit_set (s : State) {p b : Nat} (en : Nat) (hp : p < 128) (hb : b < 32) :
    bitAt (getReg (setSlotBit s p b en) (slotCtrl p)) b = true := by
  have hw : bitAt (getReg (wrBit s (slotCtrl p) b true) (slotCtrl p)) b = true := by
    rw [getReg_wrBit_same, bitAt_putFld_same _ _ _ hb]
  unfold setSlotBit
  dsimp only
  repeat' split
  · exact hw
  · rw [raiseEv_getReg _ _ (not_background_slotCtrl hp), hw]
  · exact hw

theorem setSlotBit_slots (s : State) (p b en : Nat) : (setSlotBit s p b en).slots = s.slots :=
  (setSlotBit_st (q0 := fun x => x == .slots) (.refl _ s) rfl rfl rfl rfl rfl rfl rfl rfl).slots rfl

theorem slotTo_slots (s : State) (i st : Nat) : (slotTo s i st).slots = s.slots :=
  (slotTo_st (q0 := fun x => x == .slots) (.refl _ s) rfl rfl rfl rfl rfl rfl rfl rfl).slots rfl

theorem slotTo_banks (s : State) (i st : Nat) : (slotTo s i st).banks = s.banks :=
  (slotTo_st (q0 := fun x => x == .banks) (.refl _ s) rfl rfl rfl rfl rfl rfl rfl rfl).banks rfl

/-- A move to a state writes STATE, and the event changes the background alone (R518). -/
theorem slotTo_status (s : State) (i : Fin 32) (st : Nat) :
    getReg (slotTo s i st) (R.SLOT_STATUS i) = putFld (getReg s (R.SLOT_STATUS i)) 31 29 st := by
  unfold slotTo
  dsimp only
  split
  · exact getReg_wr_same ..
  · rw [raiseEv_getReg _ _ (not_background_slotStatus i), getReg_wr_same]

theorem slotTo_getReg (s : State) {i st o : Nat} (hb : ¬ Background o) (h : o ≠ R.SLOT_STATUS i) :
    getReg (slotTo s i st) o = getReg s o := by
  unfold slotTo
  dsimp only
  split
  · exact getReg_wr_other s h ..
  · rw [raiseEv_getReg _ _ hb, getReg_wr_other s h]

theorem slotPgOff_status (s : State) (i : Nat) : getReg (slotPgOff s i) (R.SLOT_STATUS i) =
    putFld (putFld (getReg s (R.SLOT_STATUS i)) 25 25 0) 24 24 1 := by
  rw [slotPgOff, getReg_wrBit_same, getReg_wrBit_same]
  rfl

theorem slotPgOff_getReg (s : State) {i o : Nat} (h : o ≠ R.SLOT_STATUS i) : getReg (slotPgOff s i) o = getReg s o := by
  rw [slotPgOff, getReg_wrBit_other _ h, getReg_wrBit_other _ h]

/-! ### Trips -/

/-- The state to which a fault takes channel `i` (R504). -/
def faultState (s : State) (i : Nat) : Nat := if fld (liveWord s (R.SLOT_TIMING i)) 31 24 = 0 then slotLatched else slotRetry

/-- The channel after a fault, before the served port shows it. -/
def faulted (s : State) (i cause : Nat) : State :=
  slotTo (wr (slotPgOff (setRetryDue s i false) i) (R.SLOT_STATUS i) 21 18 cause) i (faultState s i)

theorem slotFault_of_port {s : State} {i p : Nat} (h : slotPort s i = some p) (cause : Nat) :
    slotFault s i cause = setSlotBit (faulted s i cause) p 17 1 := by
  unfold slotFault
  rw [h]
  rfl

theorem slotFault_of_none {s : State} {i : Nat} (h : slotPort s i = none) (cause : Nat) :
    slotFault s i cause = faulted s i cause := by
  unfold slotFault
  rw [h]
  rfl

theorem faulted_getReg (s : State) {i cause o : Nat} (hb : ¬ Background o) (h : o ≠ R.SLOT_STATUS i) :
    getReg (faulted s i cause) o = getReg s o := by
  rw [faulted, slotTo_getReg _ hb h, getReg_wr_other _ h, slotPgOff_getReg _ h]
  rfl

theorem slotFault_getReg (s : State) {i o : Nat} (cause : Nat) (hb : ¬ Background o) (h : o ≠ R.SLOT_STATUS i)
    (hp : ∀ p, slotPort s i = some p → o ≠ slotCtrl p) : getReg (slotFault s i cause) o = getReg s o := by
  cases hs : slotPort s i with
  | none => rw [slotFault_of_none hs, faulted_getReg s hb h]
  | some p => rw [slotFault_of_port hs, setSlotBit_getReg _ hb (hp p hs), faulted_getReg s hb h]

theorem slotFault_status (s : State) (i : Fin 32) (cause : Nat) : getReg (slotFault s i cause) (R.SLOT_STATUS i) =
    putFld (putFld (putFld (putFld (getReg s (R.SLOT_STATUS i)) 25 25 0) 24 24 1) 21 18 cause) 31 29 (faultState s i) := by
  have hf : getReg (faulted s i cause) (R.SLOT_STATUS i) =
      putFld (putFld (putFld (putFld (getReg s (R.SLOT_STATUS i)) 25 25 0) 24 24 1) 21 18 cause) 31 29 (faultState s i) := by
    rw [faulted, slotTo_status, getReg_wr_same, slotPgOff_status]
    rfl
  cases hs : slotPort s i with
  | none => rw [slotFault_of_none hs, hf]
  | some p => rw [slotFault_of_port hs, setSlotBit_getReg _ (not_background_slotStatus i) (slotStatus_ne_ctrl i p), hf]

theorem slotFault_banks (s : State) (i cause : Nat) : (slotFault s i cause).banks = s.banks :=
  (slotFault_st (q0 := fun x => x == .banks) (.refl _ s) rfl rfl rfl rfl rfl rfl rfl rfl rfl).banks rfl

/-- Where the trips of a cause are counted (R504). -/
def tripWord (i cause : Nat) : Nat := if cause ≤ 2 then R.SLOT_CNT0 i else R.SLOT_CNT1 i
def tripLow (cause : Nat) : Nat := if cause = 1 then 16 else 0

/-- A trip of channel `i`: the fault, counted. -/
def tripped (s : State) (i cause : Nat) : State := count (slotFault s i cause) (tripWord i cause) (tripLow cause) .every (slotEv i)

theorem tripWord_cases {i cause : Nat} {P : Nat → Prop} (h0 : P (R.SLOT_CNT0 i)) (h1 : P (R.SLOT_CNT1 i)) : P (tripWord i cause) := by
  unfold tripWord
  split
  · exact h0
  · exact h1

theorem not_background_tripWord (i : Fin 32) (cause : Nat) : ¬ Background (tripWord i cause) :=
  tripWord_cases (P := fun o => ¬ Background o) (not_background_slotCnt0 i) (not_background_slotCnt1 i)

theorem tripWord_ne_status (i : Fin 32) (cause : Nat) : tripWord i cause ≠ R.SLOT_STATUS i :=
  tripWord_cases (P := fun o => o ≠ R.SLOT_STATUS i) (by unfold R.SLOT_CNT0 R.SLOT_STATUS; omega)
    (by unfold R.SLOT_CNT1 R.SLOT_STATUS; omega)

theorem tripWord_ne_ctrl (i : Fin 32) (cause p : Nat) : tripWord i cause ≠ slotCtrl p := by
  have hp := slotCtrl_ge p
  exact tripWord_cases (P := fun o => o ≠ slotCtrl p) (by unfold R.SLOT_CNT0; omega) (by unfold R.SLOT_CNT1; omega)

theorem tripLow_le (cause : Nat) : tripLow cause ≤ 16 := by
  unfold tripLow
  split <;> omega

theorem tripped_getReg (s : State) (i : Fin 32) (cause : Nat) {o : Nat} (hb : ¬ Background o) (hs : o ≠ R.SLOT_STATUS i)
    (hc : o ≠ tripWord i cause) (hp : ∀ p, slotPort s i = some p → o ≠ slotCtrl p) : getReg (tripped s i cause) o = getReg s o := by
  rw [tripped, count_getReg _ _ _ _ _ hb hc, slotFault_getReg s cause hb hs hp]

theorem tripped_status (s : State) (i : Fin 32) (cause : Nat) : getReg (tripped s i cause) (R.SLOT_STATUS i) =
    putFld (putFld (putFld (putFld (getReg s (R.SLOT_STATUS i)) 25 25 0) 24 24 1) 21 18 cause) 31 29 (faultState s i) := by
  rw [tripped, count_getReg _ _ _ _ _ (not_background_slotStatus i) (tripWord_ne_status i cause).symm, slotFault_status]

theorem tripped_count (s : State) (i : Fin 32) (cause : Nat) :
    fld (getReg (tripped s i cause) (tripWord i cause)) (tripLow cause + 15) (tripLow cause) =
      satUp (rd s (tripWord i cause) (tripLow cause + 15) (tripLow cause)) := by
  have hb := not_background_tripWord i cause
  rw [tripped, fld_count _ _ _ _ hb (tripLow_le cause),
    rd_congr (slotFault_getReg s cause hb (tripWord_ne_status i cause) fun p _ => tripWord_ne_ctrl i cause p)
      (liveWord_congr (slotFault_banks s i cause) _)]

theorem tripped_frame (s : State) (i cause : Nat) : Frame (.settings :: .slots :: eventParts) s (tripped s i cause) :=
  (count_st (slotFault_st (.refl (keep (.settings :: .slots :: eventParts)) s) rfl rfl rfl rfl rfl rfl rfl rfl rfl)
    rfl rfl rfl rfl rfl rfl rfl rfl).frame

/-- What a trip leaves: the state, the cause, the pins, its count, and every other word (R504 to R509). -/
def TripShows (s : State) (i : Fin 32) (cause off lo : Nat) (t : State) : Prop :=
  fld (getReg t (R.SLOT_STATUS i)) 31 29 = (if fld (liveWord s (R.SLOT_TIMING i)) 31 24 = 0 then 5 else 4) ∧
    fld (getReg t (R.SLOT_STATUS i)) 21 18 = cause ∧ bitAt (getReg t (R.SLOT_STATUS i)) 25 = false ∧
    bitAt (getReg t (R.SLOT_STATUS i)) 24 = true ∧ fld (getReg t off) (lo + 15) lo = satUp (rd s off (lo + 15) lo) ∧
    (∀ o, ¬ Background o → o ∉ [R.SLOT_STATUS i, off] → (∀ p, slotPort s i = some p → o ≠ slotCtrl p) →
      getReg t o = getReg s o) ∧ Frame (.settings :: .slots :: eventParts) s t

theorem tripped_shows (s : State) (i : Fin 32) {cause : Nat} (hc : cause < 16) :
    TripShows s i cause (tripWord i cause) (tripLow cause) (tripped s i cause) := by
  refine ⟨?state, ?cause, ?pwrgd, ?perst, tripped_count s i cause, fun o hb ho hp => ?others, tripped_frame s i cause⟩
  case state =>
    rw [tripped_status, fld_putFld _ _ _ _ (by decide) (by decide)]
    unfold faultState
    split <;> rfl
  case cause =>
    rw [tripped_status]
    simp (disch := omega) only [fld_putFld_other, fld_putFld]
    exact Nat.mod_eq_of_lt hc
  case pwrgd | perst =>
    rw [tripped_status]
    simp (disch := omega) only [bitAt_putFld_other, bitAt_putFld_zero, bitAt_putFld_one]
  case others =>
    obtain ⟨hs, hw⟩ : o ≠ R.SLOT_STATUS i ∧ o ≠ tripWord i cause := by simpa using ho
    exact tripped_getReg s i cause hb hs hw hp

/-! ### The link of the served port -/

theorem slotLinkDown_of_kept {s t : State} {i : Nat}
    (h : ∀ p, slotPort s i = some p → slotPwrgd s i = false ∨ slotPwrgd t i = true ∨ linkActive t p = false) :
    slotLinkDown s t i = t := by
  unfold slotLinkDown
  cases hs : slotPort s i with
  | none => rfl
  | some p => exact if_neg (by obtain h | h | h := h p hs <;> simp [h])

theorem slotLinkDown_of_lost {s t : State} {i p : Nat} (hs : slotPort s i = some p) (hp : slotPwrgd s i = true)
    (ht : slotPwrgd t i = false) (hl : linkActive t p = true) (hf : t.dev.fabReset = false) :
    slotLinkDown s t i = settleUnits (loseLink t p 0) := by
  unfold slotLinkDown
  rw [hs]
  dsimp only
  rw [if_pos (by simp [hp, ht, hl]), onFabric_of_running hf]

/-! ### Faults, power-good and feeds -/

section
variable {s : State} {i : Fin 32}

theorem exec_fastTrip_of_known (h : slotState s i ∈ [1, 2, 3]) :
    exec (.fastTrip i) s = .next (slotLinkDown s (tripped s i 1) i) :=
  congrArg Host.Outcome.next (if_pos (by simp only [Bool.or_eq_true, decide_eq_true_eq]; simpa [slotRamp, slotOn, slotBreak, or_assoc] using h))

theorem exec_fastTrip_of_other (h : slotState s i ∉ [1, 2, 3]) : exec (.fastTrip i) s = .next s :=
  congrArg Host.Outcome.next (if_neg (by simp only [Bool.or_eq_true, decide_eq_true_eq]; simpa [slotRamp, slotOn, slotBreak, and_assoc] using h))

theorem exec_circuitBreakerExpiry_of_known (h : slotState s i ∈ [1, 2]) :
    exec (.circuitBreakerExpiry i) s = .next (slotLinkDown s (tripped s i 2) i) :=
  congrArg Host.Outcome.next (if_pos (by simp only [Bool.or_eq_true, decide_eq_true_eq]; simpa [slotRamp, slotOn] using h))

theorem exec_circuitBreakerExpiry_of_other (h : slotState s i ∉ [1, 2]) : exec (.circuitBreakerExpiry i) s = .next s :=
  congrArg Host.Outcome.next (if_neg (by simp only [Bool.or_eq_true, decide_eq_true_eq]; simpa [slotRamp, slotOn] using h))

theorem exec_rampTimeout_of_ramp (h : slotState s i = 1) : exec (.rampTimeout i) s = .next (tripped s i 3) :=
  congrArg Host.Outcome.next (if_pos h)

theorem exec_rampTimeout_of_other (h : slotState s i ≠ 1) : exec (.rampTimeout i) s = .next s :=
  congrArg Host.Outcome.next (if_neg h)

theorem exec_powerGoodLoss_of_on (h : slotState s i = 2) (high : Bool) :
    exec (.powerGoodLoss i high) s = .next (slotLinkDown s (tripped s i (if high then 5 else 4)) i) := by
  refine congrArg Host.Outcome.next ((if_pos h).trans ?_)
  cases high <;> rfl

theorem exec_powerGoodLoss_of_break (h : slotState s i = 3) (high : Bool) :
    exec (.powerGoodLoss i high) s = .next (slotLinkDown s (slotPgOff s i) i) :=
  congrArg Host.Outcome.next ((if_neg (by rw [h]; decide)).trans (if_pos h))

theorem exec_powerGoodLoss_of_other (h : slotState s i ∉ [2, 3]) (high : Bool) : exec (.powerGoodLoss i high) s = .next s := by
  obtain ⟨h2, h3⟩ : slotState s i ≠ 2 ∧ slotState s i ≠ 3 := by simpa using h
  exact congrArg Host.Outcome.next ((if_neg h2).trans (if_neg h3))

theorem exec_powerGoodAssert_of_known (h : slotState s i = 1 ∨ slotState s i = 2) :
    exec (.powerGoodAssert i) s = .next (slotTo (wrBit s (R.SLOT_STATUS i) 25 true) i slotOn) :=
  congrArg Host.Outcome.next (if_pos (by simp only [Bool.or_eq_true, decide_eq_true_eq]; simpa [slotRamp, slotOn] using h))

theorem exec_powerGoodAssert_of_other (h : slotState s i ∉ [1, 2]) : exec (.powerGoodAssert i) s = .next s :=
  congrArg Host.Outcome.next (if_neg (by simp only [Bool.or_eq_true, decide_eq_true_eq]; simpa [slotRamp, slotOn] using h))

/-- The channel drives the new feed (R504). -/
def breakOver (s : State) (i : Nat) : State := slotTo (wr s (R.SLOT_STATUS i) 28 28 (sGet s.slots.breakTo i 0)) i slotOn

theorem breakOver_banks (s : State) (i : Nat) : (breakOver s i).banks = s.banks := slotTo_banks ..

theorem exec_breakElapsed_of_break (h : slotState s i = 3) :
    exec (.breakElapsed i) s = .next (count (breakOver s i) (R.SLOT_CNT1 i) 16 .once (slotEv i)) :=
  congrArg Host.Outcome.next (if_pos h)

theorem exec_breakElapsed_of_other (h : slotState s i ≠ 3) : exec (.breakElapsed i) s = .next s :=
  congrArg Host.Outcome.next (if_neg h)

theorem slotCnt1_ne_status (i : Fin 32) : R.SLOT_CNT1 i ≠ R.SLOT_STATUS i := by
  unfold R.SLOT_CNT1 R.SLOT_STATUS
  omega

theorem breakOver_counted (s : State) (i : Fin 32) :
    let t := count (breakOver s i) (R.SLOT_CNT1 i) 16 .once (slotEv i)
    getReg t (R.SLOT_STATUS i) = putFld (putFld (getReg s (R.SLOT_STATUS i)) 28 28 (sGet s.slots.breakTo i 0)) 31 29 2 ∧
      fld (getReg t (R.SLOT_CNT1 i)) 31 16 = satUp (rd s (R.SLOT_CNT1 i) 31 16) := by
  have hne := slotCnt1_ne_status i
  have hb := not_background_slotCnt1 i
  refine ⟨?_, ?_⟩
  · rw [count_getReg _ _ _ _ _ (not_background_slotStatus i) hne.symm, breakOver, slotTo_status, getReg_wr_same]
    rfl
  · refine (fld_count _ 16 _ _ hb (Nat.le_refl _)).trans (congrArg satUp (rd_congr ?_ (liveWord_congr (breakOver_banks s i) _) 31 16))
    rw [breakOver, slotTo_getReg _ hb hne, getReg_wr_other _ hne]

theorem exec_perstDlyExpiry_of_pwrgd (h : slotPwrgd s i = true) :
    exec (.perstDlyExpiry i) s = .next (wrBit s (R.SLOT_STATUS i) 24 false) := congrArg Host.Outcome.next (if_pos h)

theorem exec_perstDlyExpiry_of_none (h : slotPwrgd s i = false) : exec (.perstDlyExpiry i) s = .next s :=
  congrArg Host.Outcome.next (if_neg (by simp [h]))

theorem feedInUseLost_of_other (h : slotState s i ≠ 2 ∨ feedOk s i (1 - slotFeed s i) = false) : feedInUseLost s i = s :=
  if_neg (by obtain h | h := h <;> simp [h, slotOn])

theorem retryRamp_of_other (h : slotState s i ≠ 4) : retryRamp s i = s := by
  unfold retryRamp
  split
  · exact if_neg (by simp [slotRetry, h])
  · rfl

/-- Feed `x` shows good. -/
def feedShown (s : State) (i : Nat) (x : Feed) : State := wrBit s (R.SLOT_STATUS i) (27 - feedNo x) true

theorem feedNo_lt (x : Feed) : feedNo x < 2 := by cases x <;> decide

theorem feedShown_state (s : State) (i : Nat) (x : Feed) : slotState (feedShown s i x) i = slotState s i :=
  rd_wrBit_beside s _ (by omega) (by omega) true

theorem exec_feedGood_of_fitted {x : Feed} (h : slotFitted s i (feedNo x) = true) :
    exec (.feedGood i x) s = .next (retryRamp (if feedOk (feedShown s i x) i (slotFeed (feedShown s i x) i) then feedShown s i x
      else feedInUseLost (feedShown s i x) i) i) := congrArg Host.Outcome.next (if_pos h)

theorem exec_feedGood_of_quiet {x : Feed} (h : slotFitted s i (feedNo x) = true) (h2 : slotState s i ≠ 2) (h4 : slotState s i ≠ 4) :
    exec (.feedGood i x) s = .next (feedShown s i x) := by
  rw [← feedShown_state s i x] at h2 h4
  rw [exec_feedGood_of_fitted h, feedInUseLost_of_other (.inl h2), ite_self, retryRamp_of_other h4]

theorem exec_feedGood_of_unfitted {x : Feed} (h : slotFitted s i (feedNo x) = false) : exec (.feedGood i x) s = .next s :=
  congrArg Host.Outcome.next (if_neg (by simp [h]))

end

/-- Settles O51: every trip is the fault of its cause, counted; and the channel's state chooses what each of the others does. -/
theorem slotFaults : Obligations.SlotFaults := by
  intro i s
  refine ⟨⟨tripped s i, exec_fastTrip_of_known, exec_circuitBreakerExpiry_of_known, exec_rampTimeout_of_ramp,
      fun h => ⟨exec_powerGoodLoss_of_on h false, exec_powerGoodLoss_of_on h true⟩, ?trips⟩,
    fun t => slotLinkDown_of_kept, fun t p => slotLinkDown_of_lost, exec_fastTrip_of_other,
    fun h => ⟨exec_circuitBreakerExpiry_of_other h, exec_powerGoodAssert_of_other h⟩, exec_rampTimeout_of_other,
    exec_powerGoodLoss_of_other, exec_powerGoodLoss_of_break, fun h => ?powerGood, fun h => ?breakEnd, exec_breakElapsed_of_other,
    exec_perstDlyExpiry_of_none, fun h => ?perst, fun x => exec_feedGood_of_unfitted, ?feed⟩
  case trips =>
    intro cause off lo t hmem _ ht
    obtain ⟨hoff, hlo, hc⟩ : off = tripWord i cause ∧ lo = tripLow cause ∧ cause < 16 := by
      simp only [List.mem_cons, Prod.mk.injEq, List.not_mem_nil, or_false] at hmem
      obtain ⟨rfl, rfl, rfl⟩ | ⟨rfl, rfl, rfl⟩ | ⟨rfl, rfl, rfl⟩ | ⟨rfl, rfl, rfl⟩ | ⟨rfl, rfl, rfl⟩ := hmem <;>
        exact ⟨rfl, rfl, by decide⟩
    rw [ht, hoff, hlo]
    exact tripped_shows s i hc
  case powerGood =>
    have hrun := exec_powerGoodAssert_of_known h
    refine ⟨_, hrun, ?_, ?_, frame_of (execPowerGoodAssert_ok (.refl _ s)) hrun⟩
    · rw [slotTo_status, fld_putFld _ _ _ _ (by decide) (by decide)]
      rfl
    · rw [slotTo_status, bitAt_putFld_other _ _ _ _ _ (by decide) (by decide) (by decide), getReg_wrBit_same,
        bitAt_putFld_same _ _ _ (by decide)]
  case breakEnd =>
    have hrun := exec_breakElapsed_of_break h
    obtain ⟨hstatus, hcount⟩ := breakOver_counted s i
    refine ⟨_, hrun, ?_, fun x hx hto => ?_, hcount, frame_of (execBreakElapsed_ok (.refl _ s)) hrun⟩
    · rw [hstatus, fld_putFld _ _ _ _ (by decide) (by decide)]
      rfl
    · rw [hstatus, fld_putFld_other _ _ _ _ _ _ (by decide) (by decide) (by decide), fld_putFld _ _ _ _ (by decide) (by decide), hto]
      exact Nat.mod_eq_of_lt hx
  case perst =>
    have hrun := exec_perstDlyExpiry_of_pwrgd h
    refine ⟨_, hrun, ?_, regsBut_wrBit (regsBut_refl _ s) (List.mem_singleton_self _) _ _,
      frame_of (execPerstDlyExpiry_ok (.refl _ s)) hrun⟩
    rw [getReg_wrBit_same, bitAt_putFld_same _ _ _ (by decide)]
  case feed =>
    rintro x _ hfit rfl
    exact ⟨exec_feedGood_of_fitted hfit, exec_feedGood_of_quiet hfit⟩

end Sys2Proof.Proofs
end

section
/-! SUPPORT. Presence, feeds and commands of a slot, of 16_slot_power, and the scan of the sideband chain. -/

namespace Sys2Proof.Proofs

open Sys2Proof.Machine Sys2Proof.Laws

/-! ### Feeds -/

section
variable {s : State} {i : Fin 32}

theorem feedInUseLost_of_good (h : slotState s i = 2) (hx : feedOk s i (1 - slotFeed s i) = true) :
    feedInUseLost s i = slotStartBreak s i (1 - slotFeed s i) :=
  if_pos (by simp [h, hx, slotOn])

/-- The channel breaks towards feed `y` (R504). -/
theorem slotStartBreak_shows (s : State) (i : Fin 32) (y : Nat) :
    fld (getReg (slotStartBreak s i y) (R.SLOT_STATUS i)) 31 29 = 3 ∧ sGet (slotStartBreak s i y).slots.breakTo i 0 = y := by
  refine ⟨?_, ?_⟩
  · rw [slotStartBreak, slotTo_status, fld_putFld _ _ _ _ (by decide) (by decide)]
    rfl
  · rw [slotStartBreak, slotTo_slots]
    exact sGet_sPut_same ..

theorem exec_feedReturnExpiry_of_never (hr : fld (liveWord s (R.SLOT_FEED i)) 22 16 = 0) : exec (.feedReturnExpiry i) s = .next s :=
  congrArg Host.Outcome.next (if_neg (by simp [hr]))

theorem exec_feedReturnExpiry_of_due (h : slotState s i = 2) (hf : slotFeed s i ≠ slotPrefer s i)
    (hg : feedOk s i (slotPrefer s i) = true) (hr : fld (liveWord s (R.SLOT_FEED i)) 22 16 ≠ 0) :
    exec (.feedReturnExpiry i) s = .next (slotStartBreak s i (slotPrefer s i)) :=
  congrArg Host.Outcome.next (if_pos (by simp [h, hf, hg, hr, slotOn]))

section
variable {q : Nat} (hq : slotPort s i = some q) (h : slotState s i = 4)
include hq h

theorem exec_retryElapsed_of_port : exec (.retryElapsed i) s = .next
    (if rdBit s (slotCtrl q) 10 then setRetryDue s i true else slotStartRamp (setRetryDue s i true) i) := by
  refine congrArg Host.Outcome.next ((if_pos h).trans ?_)
  have hp : slotPort (setRetryDue s i true) i = some q := (slotPort_congr rfl _).trans hq
  have hs : slotState (setRetryDue s i true) i = slotRetry := h
  have hd : (setRetryDue s i true).slots.retryDue.contains i.val = true := by simp [setRetryDue]
  have hc : rdBit (setRetryDue s i true) (slotCtrl q) 10 = rdBit s (slotCtrl q) 10 := rfl
  unfold retryRamp
  simp only [hp, hs, hd, hc]
  cases rdBit s (slotCtrl q) 10 <;> simp

end

theorem exec_retryElapsed_of_other (h : slotState s i ≠ 4) : exec (.retryElapsed i) s = .next s :=
  congrArg Host.Outcome.next (if_neg h)

end

/-! ### Presence -/

/-- PDS of the port that the slot serves (R510, R511). -/
def presenceSet (s : State) (i : Nat) (b : Bool) : State := { s with slots := { s.slots with
  inserted := if b then s.slots.inserted.filter (· != i) ++ [i] else s.slots.inserted.filter (· != i) } }

theorem slotPresence_of_port {s : State} {i p : Nat} (h : slotPort s i = some p) (b : Bool) :
    slotPresence s i b = setSlotBit (presenceSet s i b) p 19 3 := by
  have hp : slotPort (presenceSet s i b) i = some p := (slotPort_congr rfl i).trans h
  unfold slotPresence
  dsimp only
  split
  · next heq =>
    cases heq.symm.trans hp
    rfl
  · next heq => cases heq.symm.trans hp

theorem slotPresence_of_none {s : State} {i : Nat} (h : slotPort s i = none) (b : Bool) :
    slotPresence s i b = presenceSet s i b := by
  have hp : slotPort (presenceSet s i b) i = none := (slotPort_congr rfl i).trans h
  unfold slotPresence
  dsimp only
  split
  · next heq => cases heq.symm.trans hp
  · rfl

theorem slotPresence_slots (s : State) (i : Nat) (b : Bool) : (slotPresence s i b).slots = (presenceSet s i b).slots := by
  cases h : slotPort s i with
  | none => rw [slotPresence_of_none h]
  | some p => rw [slotPresence_of_port h, setSlotBit_slots]

theorem slotPresence_status (s : State) (i : Fin 32) (b : Bool) :
    getReg (slotPresence s i b) (R.SLOT_STATUS i) = getReg s (R.SLOT_STATUS i) := by
  cases h : slotPort s i with
  | none => rw [slotPresence_of_none h]; rfl
  | some p =>
    rw [slotPresence_of_port h, setSlotBit_getReg _ (not_background_slotStatus i) (slotStatus_ne_ctrl i p)]
    rfl

theorem slotPresence_banks (s : State) (i : Nat) (b : Bool) : (slotPresence s i b).banks = s.banks :=
  (slotPresence_st (q0 := fun x => x == .banks) (.refl _ s) rfl rfl rfl rfl rfl rfl rfl rfl rfl).banks rfl

/-- The channel of a board that has gone: off, without a cause, and without power-good (R511). -/
def historyEnded (s : State) (i : Nat) : State := slotTo (wr (slotPgOff s i) (R.SLOT_STATUS i) 21 18 0) i slotOff

/-- PRESENT is cleared, and LINK_GEN has advanced (R511). -/
def linkGenAdvanced (s : State) (i : Nat) : State :=
  wr (wrBit (wrBit (historyEnded s i) (R.SLOT_STATUS i) 23 false) (R.SLOT_STATUS i) 22 false) (R.SLOT_STATUS i) 7 0
    ((rd s (R.SLOT_STATUS i) 7 0 + 1) % 256)

/-- Channel `i` waits for INS_DELAY no more. -/
def notDebounced (s : State) (i : Nat) : State :=
  { s with slots := { s.slots with debounced := s.slots.debounced.filter (· != i) } }

theorem notDebounced_getReg (s : State) (i o : Nat) : getReg (notDebounced s i) o = getReg s o := rfl

/-- The board has gone, with its event (R511, R518). -/
def boardGone (s : State) (i : Nat) : State := raiseEv (notDebounced (linkGenAdvanced s i) i) (slotEv i)

/-- The slot without its board. -/
def slotRemoved (s : State) (i : Nat) : State := slotPresence (boardGone s i) i false

theorem linkGenAdvanced_status (s : State) (i : Fin 32) : getReg (linkGenAdvanced s i) (R.SLOT_STATUS i) =
    putFld (putFld (putFld (putFld (putFld (putFld (putFld (getReg s (R.SLOT_STATUS i)) 25 25 0) 24 24 1) 21 18 0) 31 29 0) 23 23 0)
      22 22 0) 7 0 ((rd s (R.SLOT_STATUS i) 7 0 + 1) % 256) := by
  rw [linkGenAdvanced, getReg_wr_same, getReg_wrBit_same, getReg_wrBit_same, historyEnded, slotTo_status, getReg_wr_same,
    slotPgOff_status]
  rfl

theorem boardGone_status (s : State) (i : Fin 32) :
    getReg (boardGone s i) (R.SLOT_STATUS i) = getReg (linkGenAdvanced s i) (R.SLOT_STATUS i) := by
  rw [boardGone, raiseEv_getReg _ _ (not_background_slotStatus i), notDebounced_getReg]

theorem linkGenAdvanced_slots (s : State) (i : Nat) : (linkGenAdvanced s i).slots = s.slots :=
  slotTo_slots (wr (slotPgOff s i) (R.SLOT_STATUS i) 21 18 0) i slotOff

theorem boardGone_slots (s : State) (i : Nat) :
    (boardGone s i).slots = { s.slots with debounced := s.slots.debounced.filter (· != i) } := by
  rw [boardGone, (raiseEv_steady ..).slots rfl, notDebounced, linkGenAdvanced_slots]

theorem boardGone_banks (s : State) (i : Nat) : (boardGone s i).banks = s.banks := by
  rw [boardGone, (raiseEv_steady ..).banks rfl]
  exact slotTo_banks (wr (slotPgOff s i) (R.SLOT_STATUS i) 21 18 0) i slotOff

theorem slotRemoved_status (s : State) (i : Fin 32) : getReg (slotRemoved s i) (R.SLOT_STATUS i) =
    putFld (putFld (putFld (putFld (putFld (putFld (putFld (getReg s (R.SLOT_STATUS i)) 25 25 0) 24 24 1) 21 18 0) 31 29 0) 23 23 0)
      22 22 0) 7 0 ((rd s (R.SLOT_STATUS i) 7 0 + 1) % 256) := by
  rw [slotRemoved, slotPresence_status, boardGone_status, linkGenAdvanced_status]

theorem slotRemoved_slots (s : State) (i : Nat) : (slotRemoved s i).slots = { s.slots with
    debounced := s.slots.debounced.filter (· != i), inserted := s.slots.inserted.filter (· != i) } := by
  rw [slotRemoved, slotPresence_slots, presenceSet, boardGone_slots]
  rfl

theorem slotRemoved_changed (s : State) {i q : Nat} (h : slotPort s i = some q) :
    bitAt (getReg (slotRemoved s i) (slotCtrl q)) 19 = true := by
  rw [slotRemoved, slotPresence_of_port ((slotPort_congr (boardGone_banks s i) i).trans h)]
  exact setSlotBit_set _ 3 (slotPort_lt h) (by decide)

theorem slotRemoved_frame (s : State) (i : Nat) : Frame (.settings :: .slots :: eventParts) s (slotRemoved s i) := by
  refine (slotPresence_st ?_ rfl rfl rfl rfl rfl rfl rfl rfl rfl).frame
  have h : Steady (keep (.settings :: .slots :: eventParts)) s (historyEnded s i) :=
    slotTo_st (wr_st (slotPgOff_st (.refl _ s) rfl rfl) rfl rfl) rfl rfl rfl rfl rfl rfl rfl rfl
  exact raiseEv_st (slotsOnly_st (wr_st (wrBit_st (wrBit_st h rfl rfl) rfl rfl) rfl rfl) rfl) rfl rfl rfl rfl rfl rfl rfl

section
variable {s : State} {i : Fin 32}

theorem exec_presenceLost_of_present (h : slotPresent s i = true) :
    exec (.presenceLost i) s = .next (slotLinkDown s (slotRemoved s i) i) := congrArg Host.Outcome.next (if_neg (by simp [h]))

theorem exec_presenceLost_of_absent (h : slotPresent s i = false) : exec (.presenceLost i) s = .next s :=
  congrArg Host.Outcome.next (if_pos (by simp [h]))

theorem exec_presenceDebounced_of_present (h : slotPresent s i = true) : exec (.presenceDebounced i) s = .next s :=
  congrArg Host.Outcome.next (if_pos h)

/-- PRESENT shows (R510). -/
def presentShown (s : State) (i : Nat) : State := wrBit (wrBit s (R.SLOT_STATUS i) 23 true) (R.SLOT_STATUS i) 22 true

theorem exec_presenceDebounced_of_absent (h : slotPresent s i = false) : exec (.presenceDebounced i) s =
    .next (raiseEv { presentShown s i with slots := { s.slots with debounced := s.slots.debounced ++ [i.val] } } (slotEv i)) :=
  congrArg Host.Outcome.next (if_neg (by simp [h]))

theorem exec_boardInserted_of_unknown (h : i.val ∉ s.slots.debounced) : exec (.boardInserted i) s = .next s :=
  congrArg Host.Outcome.next (if_pos (by simp [h]))

/-- INS_DELAY has elapsed (R510). -/
def insertionTaken (s : State) (i : Nat) : State :=
  slotPresence (notDebounced s i) i true

theorem insertionTaken_banks (s : State) (i : Nat) : (insertionTaken s i).banks = s.banks := slotPresence_banks (notDebounced s i) i true

theorem insertionTaken_slots (s : State) (i : Nat) : (insertionTaken s i).slots = { s.slots with
    debounced := s.slots.debounced.filter (· != i), inserted := s.slots.inserted.filter (· != i) ++ [i] } :=
  slotPresence_slots (notDebounced s i) i true

theorem exec_boardInserted_of_manual (h : i.val ∈ s.slots.debounced) (ha : bitAt (liveWord s (R.SLOT_MAP i)) 8 = false) :
    exec (.boardInserted i) s = .next (insertionTaken s i) := by
  have hm : bitAt (liveWord (insertionTaken s i) (R.SLOT_MAP i)) 8 = false := by
    rw [liveWord_congr (insertionTaken_banks s i), ha]
  refine congrArg Host.Outcome.next ((if_neg (by simp [h])).trans (if_neg ?_))
  show ¬ (bitAt (liveWord (insertionTaken s i) (R.SLOT_MAP i)) 8 && fabricIsReady (insertionTaken s i)) = true
  simp [hm]

end

/-! ### Commands of a served port -/

section
variable {s : State} (hf : s.dev.fabReset = false) {p : Fin 128}
include hf

theorem exec_slotPowerOn_of_none (h : portSlot s p = none) : exec (.slotPowerOn p) s = .next (wrBit s (slotCtrl p) 10 false) := by
  refine congrArg Host.Outcome.next ((onFabric_of_running hf _).trans ?_)
  rw [h]

theorem exec_slotPowerOff_of_none (h : portSlot s p = none) : exec (.slotPowerOff p) s = .next (wrBit s (slotCtrl p) 10 true) := by
  refine congrArg Host.Outcome.next ((onFabric_of_running hf _).trans ?_)
  rw [h]

theorem exec_slotPowerOn_of_some {k : Nat} (h : portSlot s p = some k) : exec (.slotPowerOn p) s = .next
    (if rdBit s (slotCtrl p) 10 then slotPowerUp (addCommand (wrBit s (slotCtrl p) 10 false) p) k else s) := by
  refine congrArg Host.Outcome.next ((onFabric_of_running hf _).trans ?_)
  rw [h]

theorem exec_slotPowerOff_of_some {k : Nat} (h : portSlot s p = some k) : exec (.slotPowerOff p) s = .next
    (if rdBit s (slotCtrl p) 10 then s
      else slotLinkDown s (slotPowerDown (addCommand (wrBit s (slotCtrl p) 10 true) p) k) k) := by
  refine congrArg Host.Outcome.next ((onFabric_of_running hf _).trans ?_)
  rw [h]

/-- The indicator fields of port `p` are written (R430). -/
def indicatorsWritten (s : State) (p : Nat) (a b : BitVec 2) : State := wr (wr s (slotCtrl p) 9 8 a.toNat) (slotCtrl p) 7 6 b.toNat

theorem exec_slotIndicator_of_running (a b : BitVec 2) : exec (.slotIndicator p a b) s = .next
    (if (portSlot s p).isSome && (rd s (slotCtrl p) 9 8 != a.toNat || rd s (slotCtrl p) 7 6 != b.toNat)
      then addCommand (indicatorsWritten s p a b) p else indicatorsWritten s p a b) :=
  congrArg Host.Outcome.next (onFabric_of_running hf _)

theorem exec_slotCommandCompleted_of_none (h : sGet s.slots.ccPending p 0 = 0) : exec (.slotCommandCompleted p) s = .next s :=
  congrArg Host.Outcome.next ((onFabric_of_running hf _).trans (if_pos h))

theorem exec_slotCommandCompleted_of_waiting {n : Nat} (h : sGet s.slots.ccPending p 0 = n + 1) :
    exec (.slotCommandCompleted p) s = .next
      (setSlotBit { s with slots := { s.slots with ccPending := sPut s.slots.ccPending p 0 n } } p 20 4) := by
  refine congrArg Host.Outcome.next ((onFabric_of_running hf _).trans ((if_neg (by omega)).trans ?_))
  rw [h]
  rfl

end

/-! ### The sideband chain -/

section
variable {s : State}

theorem exec_sidebandScan_of_off (h : bitAt (liveWord s R.SLOT_SB) 31 = false) (b : BitVec 32) (c : BitVec 16) :
    exec (.sidebandScan b c) s = .next s := congrArg Host.Outcome.next (if_pos (by simp [h]))

/-- The outputs of a scan, and the scans that the chain has counted so far. -/
def scanCounted (s : State) (bad good : Nat) : State :=
  emit { s with slots := { s.slots with badScans := bad, goodScans := good } } (.sideband ((List.range (chainLength s)).map (chainByte s)))

theorem exec_sidebandScan_of_good (h : bitAt (liveWord s R.SLOT_SB) 31 = true) (hn : rdBit s R.SLOT_SB 30 = false) (b : BitVec 32) :
    exec (.sidebandScan b chainCheck) s =
      .next ((List.range (chainLength s)).foldl (fun u k => buttonRead u k (b.getLsbD k)) (scanCounted s 0 0)) := by
  refine congrArg Host.Outcome.next ((if_neg (by simp [h])).trans ?_)
  simp only [hn, if_true]
  rfl

/-- The chain after a scan with a wrong check word: outputs only while FAULT is 0 (R515). -/
def scanFailed (s : State) : State :=
  let t := if rdBit s R.SLOT_SB 30 then s else emit s (.sideband ((List.range (chainLength s)).map (chainByte s)))
  { t with slots := { t.slots with badScans := min (s.slots.badScans + 1) 2, goodScans := 0 } }

theorem exec_sidebandScan_of_bad (h : bitAt (liveWord s R.SLOT_SB) 31 = true) {c : BitVec 16} (hc : c ≠ chainCheck) (b : BitVec 32) :
    exec (.sidebandScan b c) s = .next (if s.slots.badScans + 1 ≥ 2 then setChainFault (scanFailed s) true else scanFailed s) :=
  congrArg Host.Outcome.next ((if_neg (by simp [h])).trans (if_neg hc))

theorem scanFailed_slots (s : State) :
    (scanFailed s).slots.badScans = min (s.slots.badScans + 1) 2 ∧ (scanFailed s).slots.goodScans = 0 := ⟨rfl, rfl⟩

theorem setChainFault_slots (s : State) (b : Bool) : (setChainFault s b).slots = s.slots :=
  (setChainFault_st (q0 := fun x => x == .slots) (.refl _ s) rfl rfl rfl rfl rfl rfl rfl rfl).slots rfl

theorem setChainFault_fault (s : State) (b : Bool) : bitAt (getReg (setChainFault s b) R.SLOT_SB) 30 = b := by
  have hw : bitAt (getReg (wrBit s R.SLOT_SB 30 b) R.SLOT_SB) 30 = b := by
    rw [getReg_wrBit_same, bitAt_putFld_same _ _ _ (by decide)]
  unfold setChainFault
  dsimp only
  split
  · exact hw
  · rw [raiseEv_getReg _ _ (not_background_of_lt (by decide)), hw]

end

/-- Settles O52: feeds by the channel's state, presence by its debounced bit, commands by the channel that serves the port, and a
scan by its check word. -/
theorem slotPresenceAndCommands : Obligations.SlotPresenceAndCommands := by
  intro i p x s
  refine ⟨fun t ht => by rw [ht]; rfl, rfl, feedInUseLost_of_other, fun h hx => ?lost, fun h hf hg => ?back, ?retry,
    exec_retryElapsed_of_other, exec_presenceDebounced_of_present, fun h => ⟨exec_presenceLost_of_absent h, ?debounced⟩,
    fun h => ?removed, exec_boardInserted_of_unknown, fun h ha => ?inserted, fun hf => ⟨fun h => ?unserved, fun k h => ?served,
    ?indicator, exec_slotCommandCompleted_of_none hf, fun n h => ?completed⟩, fun b c h => exec_sidebandScan_of_off h b c, ?good,
    fun b c h hc => ?bad⟩
  case lost =>
    rw [feedInUseLost_of_good h hx]
    exact slotStartBreak_shows s i _
  case back =>
    refine ⟨exec_feedReturnExpiry_of_never, fun hr => ?_⟩
    have hrun := exec_feedReturnExpiry_of_due h hf hg hr
    obtain ⟨hst, hto⟩ := slotStartBreak_shows s i (slotPrefer s i)
    exact ⟨_, hrun, hst, hto, frame_of (execFeedReturnExpiry_ok (.refl _ s)) hrun⟩
  case retry =>
    rintro q _ hq h rfl
    have hrun := exec_retryElapsed_of_port hq h
    exact ⟨fun hc => hrun.trans (by rw [hc]; rfl), fun hc => hrun.trans (by rw [hc]; rfl)⟩
  case debounced =>
    have hrun := exec_presenceDebounced_of_absent h
    refine ⟨_, hrun, ?_, ?_, frame_of (execPresenceDebounced_ok (.refl _ s)) hrun⟩
    · rw [raiseEv_getReg _ _ (not_background_slotStatus i)]
      show bitAt (getReg (wrBit (wrBit s _ 23 true) _ 22 true) _) 22 = true
      rw [getReg_wrBit_same, bitAt_putFld_same _ _ _ (by decide)]
    · rw [(raiseEv_steady ..).slots rfl]
      simp
  case removed =>
    refine ⟨_, exec_presenceLost_of_present h, ?_, ?_, ?_, ?_, ?_, fun q hq => slotRemoved_changed s hq, ?_, ?_, ?_,
      slotRemoved_frame s i⟩
    case refine_1 | refine_2 | refine_3 | refine_4 | refine_5 =>
      rw [slotRemoved_status]
      simp (disch := omega) only [fld_putFld_other, bitAt_putFld_other, fld_putFld, bitAt_putFld_zero, bitAt_putFld_one, Nat.zero_mod]
    case refine_6 =>
      rw [slotRemoved_status, fld_putFld _ _ _ _ (by decide) (by decide)]
      exact Nat.mod_mod _ _
    case refine_7 | refine_8 =>
      rw [slotRemoved_slots]
      simp
  case inserted =>
    have hrun := exec_boardInserted_of_manual h ha
    refine ⟨_, hrun, ?_, ?_, frame_of (execBoardInserted_ok (.refl _ s)) hrun⟩
    all_goals
      rw [insertionTaken_slots]
      simp
  case unserved =>
    refine ⟨exec_slotPowerOn_of_none hf h, exec_slotPowerOff_of_none hf h, fun a b => ?_⟩
    rw [exec_slotIndicator_of_running hf, h]
    rfl
  case served =>
    have hon := exec_slotPowerOn_of_some hf h
    have hoff := exec_slotPowerOff_of_some hf h
    exact ⟨fun hc => ⟨hoff.trans (by rw [if_pos hc]), hon.trans (by rw [if_pos hc])⟩,
      fun hc => ⟨hon.trans (by rw [if_neg (by simp [hc])]), hoff.trans (by rw [if_neg (by simp [hc])])⟩⟩
  case indicator =>
    rintro k a b h _ rfl
    have hrun := exec_slotIndicator_of_running hf (p := p) a b
    exact ⟨fun ha hb => hrun.trans (congrArg _ (if_neg (by simp [ha, hb]))),
      fun hne => hrun.trans (congrArg _ (if_pos (by simpa [h] using hne)))⟩
  case completed =>
    have hrun := exec_slotCommandCompleted_of_waiting hf h
    refine ⟨_, hrun, ?_, setSlotBit_set _ 4 p.isLt (by decide), frame_of (execSlotCommandCompleted_ok (.refl _ s)) hrun⟩
    rw [setSlotBit_slots]
    exact sGet_sPut_same ..
  case good =>
    rintro b _ h hn rfl
    exact exec_sidebandScan_of_good h hn b
  case bad =>
    have hrun := exec_sidebandScan_of_bad h hc b
    have hfr := frame_of (execSidebandScan_ok (.refl _ s) (q0 := keep (.settings :: .slots :: eventParts))) hrun
    obtain ⟨hbad, hgood⟩ := scanFailed_slots s
    split at hrun
    · next h2 => 
      rw [if_pos h2] at hfr
      exact ⟨_, hrun, by rw [setChainFault_slots, hbad], by rw [setChainFault_slots, hgood],
        fun _ => setChainFault_fault _ _, hfr⟩
    · next h2 =>
      rw [if_neg h2] at hfr
      exact ⟨_, hrun, hbad, hgood, fun h1 => absurd h1 (by omega), hfr⟩

end Sys2Proof.Proofs
end

section
/-! SUPPORT. The own links of 12_link_layer: what a link end holds after an update, flits, acknowledgement and replay, and the
switchover between a lane and its spare. -/

namespace Sys2Proof.Proofs

open Sys2Proof.Machine Sys2Proof.Laws

/-! ### What an own link end holds -/

@[simp] theorem ownOf_setOwn (s : State) (l : LinkId) (o : OwnLink) : ownOf (setOwn s l o) l = o := sGet_sPut_same ..

/-- The link end discards until a REPLAY flit, and has asked for it once (R387). -/
def replayAsked (u : State) (l : LinkId) (o : OwnLink) : State :=
  emit (setOwn u l { o with replayWait := true, rxReplay := none, ackOwed := false })
    (.link (.nak l { xseq := o.rxNext, ackSeq := o.rxNext - 1 }))

theorem ownOf_replayAsked (u : State) (l : LinkId) (o : OwnLink) :
    ownOf (replayAsked u l o) l = { o with replayWait := true, rxReplay := none, ackOwed := false } := ownOf_setOwn u l _

theorem replayAsked_frame (u : State) (l : LinkId) (o : OwnLink) : Frame [.links, .out] u (replayAsked u l o) :=
  (emit_st (p := keep [.links, .out]) (setOwn_st (Steady.refl _ u) rfl) rfl).frame

theorem crcFail_of_first {s u : State} {l : LinkId} (hu : u = count s (linkReg l 0x10) 16 .once (linkEvent l))
    (h : (ownOf u l).replayWait = false) : crcFail s l = replayAsked u l (ownOf u l) := by
  subst hu
  exact if_neg (by simp [h])

/-- The virtual channel and the bytes of the packet that flit `f` starts or goes on with. -/
def packetSoFar (o : OwnLink) (f : Flit) : Option (Nat × Nat) :=
  if f.sop then some (f.vc.val, f.len.toNat) else o.rxPacket.map (fun x => (x.1, x.2 + f.len.toNat))

/-- The link end has accepted flit `f`, the next in order (R381, R385). -/
def flitTaken (s : State) (l : LinkId) (f : Flit) : State :=
  setOwn s l { ownOf s l with
    rxNext := (ownOf s l).rxNext + 1, rxReplay := none, ackOwed := true
    rxPacket := if f.eop then none else packetSoFar (ownOf s l) f }

/-- What accepting flit `f` leaves: on the twin link a message's last flit returns its slots (R384). -/
def flitAccepted (s : State) (l : LinkId) (f : Flit) : State :=
  match l with
  | .twin => if f.eop then returnSlots (flitTaken s .twin f) (packetSoFar (ownOf s .twin) f) else flitTaken s .twin f
  | .port p => flitTaken s (.port p) f

theorem acceptData_of_next {s : State} {l : LinkId} (h : (ownOf s l).rxReplay = none) (f : Flit) :
    acceptData s l f = flitAccepted s l f := by
  have hc : checkSeq (ownOf s l) = (ownOf s l).rxNext := by simp [checkSeq, h]
  unfold acceptData
  rw [if_pos hc]
  cases l <;> cases hp : (ownOf s _).rxPacket <;> simp [flitAccepted, flitTaken, packetSoFar, h, hp]

theorem returnSlots_own (t : State) (g : Option (Nat × Nat)) (l : LinkId) : ownOf (returnSlots t g) l = ownOf t l := by
  cases g <;> rfl

theorem ownOf_flitAccepted (s : State) (l : LinkId) (f : Flit) : ownOf (flitAccepted s l f) l = ownOf (flitTaken s l f) l := by
  cases l with
  | port p => rfl
  | twin =>
    unfold flitAccepted
    dsimp only
    split
    · exact returnSlots_own ..
    · rfl

theorem flitAccepted_frame (s : State) (l : LinkId) (f : Flit) : Frame [.links, .out] s (flitAccepted s l f) := by
  have ht : Steady (keep [.links, .out]) s (flitTaken s l f) := setOwn_st (Steady.refl _ s) rfl
  cases l with
  | port p => exact ht.frame
  | twin =>
    unfold flitAccepted
    dsimp only
    split
    · exact (returnSlots_st ht rfl).frame
    · exact ht.frame

/-! ### Flits on an active own link -/

theorem onOwnLink_of_active {s : State} {l : LinkId} (hf : s.dev.fabReset = false) (ho : ownProtocol s l = true)
    (ha : linkStateOf s l = 2) (t : State) : onOwnLink s l t = t :=
  if_pos (by simp [hf, ho, ha])

section
variable {l : LinkId} {f : Flit} {s : State} (hf : s.dev.fabReset = false) (ho : ownProtocol s l = true)
  (ha : linkStateOf s l = 2)
include hf ho ha

theorem exec_dataFlit_of_wait (h : (ownOf s l).replayWait = true) : exec (.dataFlit l f) s = .next s :=
  congrArg Host.Outcome.next ((onOwnLink_of_active hf ho ha _).trans (if_pos h))

theorem exec_flitCrcFail_of_active : exec (.flitCrcFail l) s = .next (crcFail s l) :=
  congrArg Host.Outcome.next ((onFabric_of_running hf _).trans ((if_pos ho).trans (onOwnLink_of_active hf ho ha _)))

section
variable (hw : (ownOf s l).replayWait = false) (hr : (ownOf s l).rxReplay = none)
include hw hr

theorem exec_dataFlit_of_next (h : f.seq = (ownOf s l).rxNext) :
    exec (.dataFlit l f) s = .next (takeFields (flitAccepted s l f) l f) := by
  rw [← acceptData_of_next hr]
  exact congrArg Host.Outcome.next ((onOwnLink_of_active hf ho ha _).trans
    ((if_neg (by simp [hw])).trans (if_neg (by simp [checkSeq, hr, h]))))

theorem exec_dataFlit_of_other (h : f.seq ≠ (ownOf s l).rxNext) :
    exec (.dataFlit l f) s = exec (.flitCrcFail l) s := by
  rw [exec_flitCrcFail_of_active hf ho ha]
  exact congrArg Host.Outcome.next ((onOwnLink_of_active hf ho ha _).trans
    ((if_neg (by simp [hw])).trans (if_pos (by simp [checkSeq, hr, h]))))

end

theorem exec_ackFlit_of_active : exec (.ackFlit l f) s = .next (takeFields s l f) :=
  congrArg Host.Outcome.next (onOwnLink_of_active hf ho ha _)

theorem exec_nak_of_active {t : State}
    (ht : t = doReplay (takeAck (takeCredits (takeAck s l f.ackSeq) l f) l (f.xseq - 1)) l f.xseq) :
    exec (.nak l f) s = .next (pumpLink (setOwn t l { ownOf t l with nakFirst := false }) l) := by
  subst ht
  exact congrArg Host.Outcome.next (onOwnLink_of_active hf ho ha _)

theorem exec_replay_of_active : exec (.replay l f) s = .next (setOwn (takeFields s l f) l
    { ownOf (takeFields s l f) l with
      replayWait := false
      rxReplay := if f.xseq = (ownOf (takeFields s l f) l).rxNext then none else some f.xseq }) :=
  congrArg Host.Outcome.next (onOwnLink_of_active hf ho ha _)

theorem exec_ackIdleExpiry_of_owed (h : (ownOf s l).ackOwed = true) : exec (.ackIdleExpiry l) s =
    .next (emit (setOwn s l { ownOf s l with ackOwed := false }) (.link (.ackFlit l { ackSeq := (ownOf s l).rxNext - 1 }))) :=
  congrArg Host.Outcome.next ((onOwnLink_of_active hf ho ha _).trans (if_pos h))

theorem exec_ackIdleExpiry_of_none (h : (ownOf s l).ackOwed = false) : exec (.ackIdleExpiry l) s = .next s :=
  congrArg Host.Outcome.next ((onOwnLink_of_active hf ho ha _).trans (if_neg (by simp [h])))

theorem exec_nakResendTimeout_of_wait (h : (ownOf s l).replayWait = true) : exec (.nakResendTimeout l) s =
    .next (emit (setOwn s l { ownOf s l with ackOwed := false })
      (.link (.nak l { xseq := (ownOf s l).rxNext, ackSeq := (ownOf s l).rxNext - 1 }))) :=
  congrArg Host.Outcome.next ((onOwnLink_of_active hf ho ha _).trans (if_pos h))

theorem exec_nakResendTimeout_of_none (h : (ownOf s l).replayWait = false) : exec (.nakResendTimeout l) s = .next s :=
  congrArg Host.Outcome.next ((onOwnLink_of_active hf ho ha _).trans (if_neg (by simp [h])))

theorem exec_replayTimeout_of_flit {g : Flit} {t : List Flit} (h : (ownOf s l).replayBuf = g :: t) :
    exec (.replayTimeout l) s = .next (doReplay s l g.seq) := by
  refine congrArg Host.Outcome.next ((onOwnLink_of_active hf ho ha _).trans ?_)
  rw [h]

theorem exec_replayTimeout_of_empty (h : (ownOf s l).replayBuf = []) : exec (.replayTimeout l) s = .next s := by
  refine congrArg Host.Outcome.next ((onOwnLink_of_active hf ho ha _).trans ?_)
  rw [h]

end

/-- Settles O46: the sequence under which a DATA flit comes and the replay wait of the link end choose what it does; the other
flits and timers act on what the link end holds. -/
theorem ownLinkFlits : Obligations.OwnLinkFlits := by
  rintro l f _ s hf ho ha rfl
  refine ⟨exec_dataFlit_of_wait hf ho ha, fun hw hr hs => ?accept, exec_dataFlit_of_other hf ho ha,
    fun u hw hu hown => ?crc, exec_ackFlit_of_active hf ho ha, fun t ht => exec_nak_of_active hf ho ha ht,
    fun x h => if_pos h, ?replay, rfl, fun h => ?idle, exec_ackIdleExpiry_of_none hf ho ha,
    exec_nakResendTimeout_of_wait hf ho ha, exec_nakResendTimeout_of_none hf ho ha,
    fun g t h => exec_replayTimeout_of_flit hf ho ha h, exec_replayTimeout_of_empty hf ho ha⟩
  case accept =>
    have hown := (ownOf_flitAccepted s l f).trans (ownOf_setOwn s l _)
    refine ⟨flitAccepted s l f, exec_dataFlit_of_next hf ho ha hw hr hs, by rw [hown], by rw [hown], by rw [hown], ?_, ?_, ?_,
      flitAccepted_frame s l f⟩
    · rintro p rfl
      rfl
    · rintro rfl he
      simp [flitAccepted, he, flitTaken, setOwn]
    · rintro _ rfl he hb rfl
      simp [flitAccepted, he, hb, packetSoFar, returnSlots, emit, flitTaken, setOwn]
  case crc =>
    have hrun := (exec_flitCrcFail_of_active hf ho ha).trans
      (congrArg Host.Outcome.next (crcFail_of_first hu ((congrArg OwnLink.replayWait hown).trans hw)))
    rw [hown] at hrun
    exact ⟨_, hrun, ownOf_replayAsked u l _, rfl, replayAsked_frame u l _⟩
  case replay =>
    rintro _ rfl
    refine ⟨_, exec_replay_of_active hf ho ha, ?_, ?_, ?_, (setOwn_st (q0 := keep [.links]) (Steady.refl _ _) rfl).frame⟩
    · rw [ownOf_setOwn]
    · intro h
      rw [ownOf_setOwn]
      exact if_pos h.symm
    · intro h
      rw [ownOf_setOwn]
      exact if_neg (Ne.symm h)
  case idle =>
    exact ⟨_, exec_ackIdleExpiry_of_owed hf ho ha h, congrArg OwnLink.ackOwed (ownOf_setOwn s l _), rfl,
      (emit_st (p := keep [.links, .out]) (setOwn_st (Steady.refl _ s) rfl) rfl).frame⟩

/-! ### Switchovers -/

@[simp] theorem swOf_setSw_some (s : State) (k : Nat) (w : Switchover) : swOf (setSw s k (some w)) k = some w :=
  sFind_sIns_same ..

@[simp] theorem swOf_setSw_none (s : State) (k : Nat) : swOf (setSw s k none) k = none := sFind_sDel_same ..

theorem setSw_frame (s : State) (k : Nat) (w : Option Switchover) : Frame [.links] s (setSw s k w) :=
  (setSw_st (q0 := keep [.links]) (Steady.refl _ s) rfl).frame

theorem emit_setSw_frame (s : State) (k : Nat) (w : Option Switchover) (x : Out) : Frame [.links, .out] s (emit (setSw s k w) x) :=
  (emit_st (p := keep [.links, .out]) (setSw_st (Steady.refl _ s) rfl) rfl).frame

theorem abandonSwitch_of_restore {s : State} {o : SpareOwner} {b : Bool} {w : Switchover}
    (h : swOf s (spareKey o b) = some w) (hr : w.restore = true) : abandonSwitch s o b = setSw s (spareKey o b) none := by
  simp [abandonSwitch, h, hr]

theorem abandonSwitch_of_none {s : State} {o : SpareOwner} {b : Bool} (h : swOf s (spareKey o b) = none) :
    abandonSwitch s o b = s := by
  simp [abandonSwitch, h]

section
variable {o : SpareOwner} {lane : BitVec 5} {second : Bool} {s : State} (hf : s.dev.fabReset = false)
include hf

theorem exec_spareReq_of_inactive (ha : ownerActive s o = false) : exec (.spareReq o lane second) s = .next s := by
  show execSpareReq o lane second s = _
  rw [execSpareReq, onFabric_of_running hf, if_pos (by simp [ha])]

theorem exec_restoreReq_of_inactive (ha : ownerActive s o = false) : exec (.restoreReq o lane second) s = .next s := by
  show execRestoreReq o lane second s = _
  rw [execRestoreReq, onFabric_of_running hf, if_neg (by simp [ha])]

theorem exec_spareNak : exec (.spareNak o lane second) s = .next (abandonSwitch s o second) :=
  congrArg Host.Outcome.next (onFabric_of_running hf _)

section
variable (ha : ownerActive s o = true) (hw : swOf s (spareKey o second) = none)
include ha hw

theorem exec_spareReq_of_standby (h : spareState s o second = 1) :
    exec (.spareReq o lane second) s = .next (ackSwitch s o second false lane none) := by
  show execSpareReq o lane second s = _
  rw [execSpareReq, onFabric_of_running hf, if_neg (by simp [ha]), hw]
  exact congrArg Host.Outcome.next (if_pos (by simp [h]))

theorem exec_spareReq_of_no_standby (h : spareState s o second ≠ 1) :
    exec (.spareReq o lane second) s = .next (emit s (.link (.spareNak o lane second))) := by
  show execSpareReq o lane second s = _
  rw [execSpareReq, onFabric_of_running hf, if_neg (by simp [ha]), hw]
  exact congrArg Host.Outcome.next (if_neg (by simp [h]))

theorem exec_restoreReq_of_substituted (h : spareState s o second = 2) (hl : spareLane s o second = lane.toNat) :
    exec (.restoreReq o lane second) s = .next (ackSwitch s o second true lane none) := by
  show execRestoreReq o lane second s = _
  rw [execRestoreReq, onFabric_of_running hf, if_pos (by simp [ha, h, hl]), hw]

end

section
variable (hw : swOf s (spareKey o second) = none)
include hw

theorem exec_spareAck_of_none : exec (.spareAck o lane second) s = .next s := by
  show execSpareAck o lane second s = _
  rw [execSpareAck, onFabric_of_running hf, hw]

theorem exec_spareDone_of_none : exec (.spareDone o lane second) s = .next s := by
  show execSpareDone o lane second s = _
  rw [execSpareDone, onFabric_of_running hf, hw]

theorem exec_spareReqResend_of_none : exec (.spareReqResend o second) s = .next s := by
  show execSpareReqResend o second s = _
  rw [execSpareReqResend, onFabric_of_running hf, hw]

theorem exec_spareAligned_of_none : exec (.spareAligned o second) s = .next s := by
  show execSpareAligned o second s = _
  rw [execSpareAligned, onFabric_of_running hf, hw]

theorem exec_restoreAck_of_none : exec (.restoreAck o lane second) s = .next s := by
  show execRestoreAck o lane second s = _
  rw [execRestoreAck, onFabric_of_running hf, hw]

end

section
variable {w : Switchover} (hw : swOf s (spareKey o second) = some w)
include hw

/-- Of two requests for one spare that cross, the lower lane's stands (R393). -/
theorem exec_spareReq_of_higher (ha : ownerActive s o = true) (ho : o ≠ .twin) (hl : w.lane.toNat < lane.toNat) :
    exec (.spareReq o lane second) s = .next s := by
  have hne : w.lane ≠ lane := fun h => absurd hl (by rw [h]; omega)
  show execSpareReq o lane second s = _
  rw [execSpareReq, onFabric_of_running hf, if_neg (by simp [ha]), hw]
  exact congrArg Host.Outcome.next ((if_neg hne).trans ((if_neg (fun h => ho h.1)).trans (if_pos hl)))

theorem exec_spareAck_of_lane (hl : w.lane = lane) : exec (.spareAck o lane second) s =
    .next (setSw s (spareKey o second) (some { w with gotAck := true })) := by
  show execSpareAck o lane second s = _
  rw [execSpareAck, onFabric_of_running hf, hw]
  exact congrArg Host.Outcome.next (if_pos hl)

theorem exec_restoreAck_of_lane (hl : w.lane = lane) (hr : w.restore = true) : exec (.restoreAck o lane second) s =
    .next (setSw s (spareKey o second) (some { w with gotAck := true })) := by
  show execRestoreAck o lane second s = _
  rw [execRestoreAck, onFabric_of_running hf, hw]
  exact congrArg Host.Outcome.next (if_pos (by simp [hl, hr]))

theorem exec_spareDone_of_lane (hl : w.lane = lane) : exec (.spareDone o lane second) s =
    .next (finishSwitch (if w.restore then setSw s (spareKey o second) (some { w with gotDone := true })
      else wr (setSw s (spareKey o second) (some { w with gotDone := true })) (laneReg (ownerLane o lane.toNat) 0) 24 23 0)
      o second) := by
  show execSpareDone o lane second s = _
  rw [execSpareDone, onFabric_of_running hf, hw]
  exact congrArg Host.Outcome.next (if_pos hl)

theorem exec_spareReqResend_of_waiting (h0 : 0 < w.requests) (hg : w.gotAck = false) (h8 : w.requests < 8)
    (hr : w.restore = false) : exec (.spareReqResend o second) s =
      .next (emit (setSw s (spareKey o second) (some { w with requests := w.requests + 1 })) (.link (.spareReq o w.lane second))) := by
  show execSpareReqResend o second s = _
  rw [execSpareReqResend, onFabric_of_running hf, hw]
  exact congrArg Host.Outcome.next ((if_neg (by simp [hg]; omega)).trans ((if_pos h8).trans (by simp [hr])))

theorem exec_spareReqResend_of_eight (hg : w.gotAck = false) (h8 : w.requests = 8) :
    exec (.spareReqResend o second) s = .next (abandonSwitch s o second) := by
  show execSpareReqResend o second s = _
  rw [execSpareReqResend, onFabric_of_running hf, hw]
  exact congrArg Host.Outcome.next ((if_neg (by simp [hg]; omega)).trans (if_neg (by omega)))

theorem exec_spareAligned_of_acknowledged (h : w.gotAck = true ∨ w.sentAck = true) : exec (.spareAligned o second) s =
    .next (finishSwitch (emit (setSw s (spareKey o second) (some { w with sentDone := true }))
      (.link (.spareDone o w.lane second))) o second) := by
  show execSpareAligned o second s = _
  rw [execSpareAligned, onFabric_of_running hf, hw]
  exact congrArg Host.Outcome.next (if_pos (by rcases h with h | h <;> simp [h]))

end

end

/-- Settles O48: the switchover under way for the spare, if there is one, chooses what each of the six messages and the two
timers of R392 to R394 does. -/
theorem spareSwitchovers : Obligations.SpareSwitchovers := by
  intro o lane second s hf
  refine ⟨fun ha => ⟨exec_spareReq_of_inactive hf ha, exec_restoreReq_of_inactive hf ha⟩, fun ha hw => ⟨fun h => ?granted,
      exec_spareReq_of_no_standby hf ha hw, fun h hl => ?bridged⟩, fun hw => ?idle, fun w hw => ⟨exec_spareReq_of_higher hf hw,
      fun hl => ?ack, fun hl hr => ?restoreAck, fun hr => ?nak, fun hl hr => ?restored, fun hl hr => ?done,
      fun h0 hg => ⟨fun h8 hr => ?again, exec_spareReqResend_of_eight hf hw hg⟩,
      exec_spareAligned_of_acknowledged hf hw⟩⟩
  case granted => exact ⟨_, exec_spareReq_of_standby hf ha hw h, swOf_setSw_some .., rfl, emit_setSw_frame ..⟩
  case bridged => exact ⟨_, exec_restoreReq_of_substituted hf ha hw h hl, swOf_setSw_some .., rfl, emit_setSw_frame ..⟩
  case idle =>
    exact ⟨exec_spareAck_of_none hf hw, (exec_spareNak hf).trans (congrArg _ (abandonSwitch_of_none hw)),
      exec_spareDone_of_none hf hw, exec_spareReqResend_of_none hf hw, exec_spareAligned_of_none hf hw,
      exec_restoreAck_of_none hf hw⟩
  case ack => exact ⟨_, exec_spareAck_of_lane hf hw hl, swOf_setSw_some .., setSw_frame ..⟩
  case restoreAck => exact ⟨_, exec_restoreAck_of_lane hf hw hl hr, swOf_setSw_some .., setSw_frame ..⟩
  case nak =>
    exact ⟨_, (exec_spareNak hf).trans (congrArg _ (abandonSwitch_of_restore hw hr)), swOf_setSw_none .., setSw_frame ..⟩
  case restored =>
    rw [exec_spareDone_of_lane hf hw hl, if_pos hr]
  case done =>
    rw [exec_spareDone_of_lane hf hw hl, if_neg (by simp [hr])]
  case again => exact ⟨_, exec_spareReqResend_of_waiting hf hw h0 hg h8 hr, swOf_setSw_some .., rfl, emit_setSw_frame ..⟩

end Sys2Proof.Proofs
end

section
/-! SUPPORT. States of own and standard links, of 12_link_layer: RECOVERY and its end, training and RETRAIN. -/

namespace Sys2Proof.Proofs

open Sys2Proof.Machine Sys2Proof.Laws

/-- The link has trained with status word `w`: its lanes are ON and its spares in standby (R355, R365). -/
def linkUp (s : State) (l : LinkId) (w : Word) : State :=
  settleSpares (trainLanes (setReg s (linkReg l 0) w) l (fld w 28 26)) l true

/-- An own link that was in state `was` has trained, with `t` after it: it goes on from RECOVERY, or starts (R390). -/
def ownTrained (t : State) (l : LinkId) (was : Nat) : State :=
  let u := if was = 2 then t else trainOwn t l (was == 3)
  match l with
  | .twin => if was = 2 then u else settleUnits (rejoinTry (txnLinkBack u))
  | .port p => if was = 3 then u else settleUnits (forAll (List.range 4) u (fun v c => advertise v p c))

/-- A standard link that was in state `was` has trained, with `t` after it (R377, R384). -/
def standardTrained (t : State) (l : LinkId) (was : Nat) : State :=
  match l with
  | .port p => if was = 2 ∨ was = 3 then t else settleUnits (trainPort t p)
  | .twin => t

section
variable (t : State) (p : Fin 128)

theorem ownTrained_port_of_recovery : ownTrained t (.port p) 3 = trainOwn t (.port p) true := rfl

theorem ownTrained_port_of_down {n : Nat} (h : n < 2) : ownTrained t (.port p) n =
    settleUnits ((List.range 4).foldl (fun v c => advertise v p c) (trainOwn t (.port p) false)) := by
  have h2 : n ≠ 2 := by omega
  have h3 : n ≠ 3 := by omega
  simp only [ownTrained, forAll, if_neg h2, if_neg h3, beq_false_of_ne h3]

theorem ownTrained_twin_of_active : ownTrained t .twin 2 = t := rfl

theorem ownTrained_twin_of_other {n : Nat} (h : n ≠ 2) : ownTrained t .twin n =
    settleUnits (rejoinTry (txnLinkBack (trainOwn t .twin (n == 3)))) := by
  simp only [ownTrained, if_neg h]

end

section
variable {l : LinkId} {p : Fin 128} {tr : Trained} {s : State} (hf : s.dev.fabReset = false)
include hf

/-! ### The end of RECOVERY -/

theorem exec_recoveryTimeout_of_port (h : linkStateOf s (.port p) = 3) (ho : ownProtocol s (.port p) = true) :
    exec (.recoveryTimeout (.port p)) s = .next (settleUnits (loseLink s p 0)) :=
  congrArg Host.Outcome.next ((onFabric_of_running hf _).trans (if_pos (by simp [h, ho])))

theorem exec_recoveryTimeout_of_twin (h : linkStateOf s .twin = 3) :
    exec (.recoveryTimeout .twin) s = .next (twinDown s) :=
  congrArg Host.Outcome.next ((onFabric_of_running hf _).trans (if_pos (by simp [h, ownProtocol])))

theorem exec_recoveryTimeout_of_other (h : linkStateOf s l ≠ 3) : exec (.recoveryTimeout l) s = .next s :=
  congrArg Host.Outcome.next ((onFabric_of_running hf _).trans (if_neg (by simp [h])))

/-! ### Training -/

theorem exec_linkTrained_of_barred (h : mayTrain s l = false) : exec (.linkTrained l tr) s = .next s :=
  congrArg Host.Outcome.next ((onFabric_of_running hf _).trans (if_pos (by simp [h])))

theorem exec_linkRetrain_of_barred (h : mayTrain s l = false) : exec (.linkRetrain l) s = .next s :=
  congrArg Host.Outcome.next ((onFabric_of_running hf _).trans (if_pos (by simp [h])))

section
variable (hm : mayTrain s l = true)
include hm

/-- No width of 4, 8 or 16 lanes qualifies (R391). -/
theorem exec_linkTrained_of_narrow (ho : ownProtocol s l = true) (hw : fld (statusWord s l tr) 25 23 < 2) :
    exec (.linkTrained l tr) s = .next (match l with
      | .port p => settleUnits (loseLink s p 0)
      | .twin => settleUnits (twinDown s)) :=
  congrArg Host.Outcome.next ((onFabric_of_running hf _).trans
    ((if_neg (by simp [hm])).trans ((if_pos ⟨ho, hw⟩).trans (by cases l <;> rfl))))

variable (hw : ownProtocol s l = false ∨ 2 ≤ fld (statusWord s l tr) 25 23)
include hw

/-- The width qualifies: what the trained link does goes by its protocol and the state it came from. -/
theorem exec_linkTrained_of_wide : exec (.linkTrained l tr) s = .next
    (if ownProtocol (linkUp s l (statusWord s l tr)) l then ownTrained (linkUp s l (statusWord s l tr)) l (linkStateOf s l)
    else standardTrained (linkUp s l (statusWord s l tr)) l (linkStateOf s l)) := by
  have hn : ¬ (ownProtocol s l = true ∧ fld (statusWord s l tr) 25 23 < 2) := by
    rintro ⟨ho, hlt⟩
    rcases hw with hw | hw
    · exact absurd ho (by simp [hw])
    · omega
  exact congrArg Host.Outcome.next ((onFabric_of_running hf _).trans
    ((if_neg (by simp [hm])).trans ((if_neg hn).trans (by cases l <;> rfl))))

end

section
variable (hm : mayTrain s l = true) (ho : ownProtocol s l = true)
include hm ho

/-- RETRAIN of an own link goes by its state (R377, R390). -/
theorem exec_linkRetrain_of_own : exec (.linkRetrain l) s = .next (match linkStateOf s l with
    | 2 => enterRecovery s l true
    | 3 => setOwn s l { ownOf s l with fullReset := true }
    | _ => wr s (linkReg l 0) 31 29 1) :=
  congrArg Host.Outcome.next ((onFabric_of_running hf _).trans ((if_neg (by simp [hm])).trans (if_pos ho)))

theorem exec_linkRetrain_of_active (h : linkStateOf s l = 2) : exec (.linkRetrain l) s = .next (enterRecovery s l true) := by
  rw [exec_linkRetrain_of_own hf hm ho, h]
  rfl

theorem exec_linkRetrain_of_recovery (h : linkStateOf s l = 3) :
    exec (.linkRetrain l) s = .next (setOwn s l { ownOf s l with fullReset := true }) := by
  rw [exec_linkRetrain_of_own hf hm ho, h]
  rfl

theorem exec_linkRetrain_of_down (h : linkStateOf s l < 2) :
    exec (.linkRetrain l) s = .next (wr s (linkReg l 0) 31 29 1) := by
  rw [exec_linkRetrain_of_own hf hm ho]
  split
  · omega
  · omega
  · rfl

end

theorem exec_linkRetrain_of_standard (hm : mayTrain s (.port p) = true) (ho : ownProtocol s (.port p) = false) :
    exec (.linkRetrain (.port p)) s = .next (settleUnits (loseLink s p 1)) :=
  congrArg Host.Outcome.next ((onFabric_of_running hf _).trans ((if_neg (by simp [hm])).trans (if_neg (by simp [ho]))))

/-! ### Standard links -/

theorem exec_linkDown_of_valid (h : portValid s p = true) : exec (.linkDown p) s = .next (settleUnits (loseLink s p 0)) :=
  congrArg Host.Outcome.next ((onFabric_of_running hf _).trans (if_pos h))

theorem exec_linkDown_of_invalid (h : portValid s p = false) : exec (.linkDown p) s = .next s :=
  congrArg Host.Outcome.next ((onFabric_of_running hf _).trans (if_neg (by simp [h])))

theorem exec_standardLinkRecovery_of_other (h : ownProtocol s (.port p) = true ∨ linkActive s p = false) (back : Bool) :
    exec (.standardLinkRecovery p back) s = .next s :=
  congrArg Host.Outcome.next ((onFabric_of_running hf _).trans (if_pos (by rcases h with h | h <;> simp [h])))

theorem exec_standardLinkRecovery_of_active (ho : ownProtocol s (.port p) = false) (ha : linkActive s p = true) (back : Bool) :
    exec (.standardLinkRecovery p back) s = .next
      (if back then wr (count s (linkReg (.port p) 0x18) 0 .every (linkEv (p / 4))) (linkReg (.port p) 0) 31 29 2
      else settleUnits (loseLink (count s (linkReg (.port p) 0x18) 0 .every (linkEv (p / 4))) p 1)) :=
  congrArg Host.Outcome.next ((onFabric_of_running hf _).trans (if_neg (by simp [ho, ha])))

end

/-- Settles O47: whether the link may train, its protocol, the width it trained to and the state it was in choose what follows. -/
theorem linkStates : Obligations.LinkStates := by
  intro l p tr s hf
  refine ⟨exec_recoveryTimeout_of_port hf, exec_recoveryTimeout_of_twin hf, exec_recoveryTimeout_of_other hf,
    fun hm => ⟨exec_linkTrained_of_barred hf hm, exec_linkRetrain_of_barred hf hm⟩, fun w hm hw ho hn => ?narrow,
    fun w t hm hw hq ht => ?wide, fun hm ho => ⟨exec_linkRetrain_of_active hf hm ho, fun h => ?full, fun h => ?starts⟩,
    exec_linkRetrain_of_standard hf, exec_linkDown_of_valid hf, exec_linkDown_of_invalid hf,
    fun back h => exec_standardLinkRecovery_of_other hf h back, fun t ho ha ht => ?standard⟩
  case narrow =>
    subst hw
    have hrun := exec_linkTrained_of_narrow hf hm ho hn
    exact ⟨fun hl => by subst hl; exact hrun, fun hl => by subst hl; exact hrun⟩
  case wide =>
    subst hw
    obtain rfl : t = linkUp s l (statusWord s l tr) := ht
    have hrun := exec_linkTrained_of_wide hf hm hq
    refine ⟨?_, ?_, ?_, ?_⟩
    · rintro rfl ho
      rw [if_neg (by simp [ho])] at hrun
      exact ⟨fun h => hrun.trans (congrArg _ (if_pos h)), fun h2 h3 => hrun.trans (congrArg _ (if_neg (not_or.2 ⟨h2, h3⟩)))⟩
    · rintro rfl ho
      rw [if_pos ho] at hrun
      exact ⟨fun h => by rw [hrun, h, ownTrained_port_of_recovery], fun h => by rw [hrun, ownTrained_port_of_down _ _ h]⟩
    · rintro rfl h
      rw [hrun, if_pos (show ownProtocol _ .twin = true from rfl), h, ownTrained_twin_of_active]
    · rintro rfl h
      rw [hrun, if_pos (show ownProtocol _ .twin = true from rfl), ownTrained_twin_of_other _ h]
  case full =>
    exact ⟨_, exec_linkRetrain_of_recovery hf hm ho h, congrArg OwnLink.fullReset (ownOf_setOwn ..),
      (setOwn_st (q0 := keep [.links]) (Steady.refl _ s) rfl).frame⟩
  case starts =>
    refine ⟨_, exec_linkRetrain_of_down hf hm ho h, ?_, regsBut_wr (regsBut_refl _ s) (List.mem_singleton_self _) _ _ _,
      (wr_st (q0 := keep [.regs, .settings]) (Steady.refl _ s) rfl rfl).frame⟩
    rw [getReg_wr_same, fld_putFld _ _ _ _ (by decide) (by decide)]
    rfl
  case standard =>
    subst ht
    exact ⟨exec_standardLinkRecovery_of_active hf ho ha true, exec_standardLinkRecovery_of_active hf ho ha false⟩

end Sys2Proof.Proofs
end

section
/-! SUPPORT. Configuration requests and the state of a host function, of 13_host_functions. -/

namespace Sys2Proof.Proofs

open Sys2Proof.Machine Sys2Proof.Laws

theorem frame_fns (s : State) (d : Fns) : Frame [.fns] s { s with fns := d } := by
  refine ⟨rfl, fun p hp => ?_⟩
  cases p
  case fns => simp at hp
  case settings => exact fun _ _ => rfl
  all_goals rfl

/-- Vector `v` of the function is unmasked, and nothing is sent (R417). -/
def vectorUnmasked (s : State) (p f v : Nat) : State :=
  { s with fns := { s.fns with
    msix := sPut s.fns.msix ((fnKey p f * 2048 + v) * 4 + 3) (msixReset 3) (msixWord s p f v 3 &&& ~~~ 1) } }

theorem vectorUnmasked_masked (s : State) (p f v : Nat) : vectorMasked (vectorUnmasked s p f v) p f v = false := by
  have h : msixWord (vectorUnmasked s p f v) p f v 3 = msixWord s p f v 3 &&& ~~~ 1 := sGet_sPut_same ..
  rw [vectorMasked, h]
  simp [bitAt]

theorem vectorUnmasked_frame (s : State) (p f v : Nat) : Frame [.fns] s (vectorUnmasked s p f v) :=
  frame_fns s _

theorem unmaskVector_of_idle {s : State} {p f v : Nat} (h : vectorPending s p f v = false) :
    unmaskVector s p f v = vectorUnmasked s p f v := by
  have hn : vectorPending (vectorUnmasked s p f v) p f v = false := h
  refine if_neg (c := (vectorPending (vectorUnmasked s p f v) p f v && _ && _ && _) = true) ?_
  simp [hn]

/-- Retry status has ended at the port (R535). -/
def retryOver (s : State) (p : Fin 128) : State := { s with fns := { s.fns with retryEnded := s.fns.retryEnded ++ [p] } }

theorem retryStatus_retryOver (s : State) (p : Fin 128) : retryStatus (retryOver s p) p = false := by
  simp [retryStatus, retryOver]

section
variable {port : Fin 128} {f : FuncNo} {off : BitVec 12} {s : State} (hf : s.dev.fabReset = false)
include hf

/-! ### Configuration requests -/

theorem exec_configRequest_of_no_host (w : Option Word) (h : portRole s port ≠ 1 ∨ linkActive s port = false) :
    exec (.configRequest port f off w) s = .next s :=
  congrArg Host.Outcome.next ((onFabric_of_running hf _).trans (if_pos h))

section
variable (hr : portRole s port = 1) (ha : linkActive s port = true)
include hr ha

theorem exec_configRequest_of_retry (w : Option Word) (h : retryStatus s port = true) :
    exec (.configRequest port f off w) s = .next (emit s (.cfg port .retry 0)) :=
  congrArg Host.Outcome.next ((onFabric_of_running hf _).trans ((if_neg (by simp [hr, ha])).trans (if_pos h)))

variable (ht : retryStatus s port = false)
include ht

theorem exec_configRequest_of_absent (w : Option Word) (h : fnPresent s port f = false) :
    exec (.configRequest port f off w) s = .next (emit s (.cfg port .unsupported 0)) :=
  congrArg Host.Outcome.next ((onFabric_of_running hf _).trans
    ((if_neg (by simp [hr, ha])).trans ((if_neg (by simp [ht])).trans (if_pos (by simp [h])))))

variable (hp : fnPresent s port f = true)
include hp

theorem exec_configRequest_read : exec (.configRequest port f off none) s =
    .next (emit (if cfgHeaderLog (off.toNat / 4 * 4) then usedFree s else s)
      (.cfg port .success (cfgRead (if inFlr s port f then resetConfig s port f else s) port f (off.toNat / 4 * 4)))) :=
  congrArg Host.Outcome.next ((onFabric_of_running hf _).trans
    ((if_neg (by simp [hr, ha])).trans ((if_neg (by simp [ht])).trans (if_neg (by simp [hp])))))

theorem exec_configRequest_write (v : Word) : exec (.configRequest port f off (some v)) s = .next
    (if inFlr s port f then emit s (.cfg port .success 0)
    else settlePeers (fetchAll (emit (cfgWrite s port f (off.toNat / 4 * 4) v) (.cfg port .success 0)))) :=
  congrArg Host.Outcome.next ((onFabric_of_running hf _).trans
    ((if_neg (by simp [hr, ha])).trans ((if_neg (by simp [ht])).trans (if_neg (by simp [hp])))))

end

/-! ### Commands of a function that is absent or in a function-level reset -/

section
variable (h : fnPresent s port f = false ∨ inFlr s port f = true)
include h

theorem exec_busMasterEnableSet_of_barred : exec (.busMasterEnableSet port f) s = .next s :=
  congrArg Host.Outcome.next ((onFabric_of_running hf _).trans (if_neg (by rcases h with h | h <;> simp [h])))

theorem exec_powerStateWrite_of_barred (d3 : Bool) : exec (.powerStateWrite port f d3) s = .next s := by
  refine congrArg Host.Outcome.next ((onFabric_of_running hf _).trans (if_neg ?_))
  by_cases h1 : f.val = 1
  · rw [h1] at h
    rcases h with h | h <;> simp [h]
  · simp [h1]

theorem exec_msixUnmask_of_barred (k : BitVec 11) : exec (.msixUnmask port f k) s = .next s :=
  congrArg Host.Outcome.next ((onFabric_of_running hf _).trans (if_neg (by rcases h with h | h <;> simp [h])))

theorem exec_vfEnableClear_of_barred (h1 : f.val = 1) : exec (.vfEnableClear port) s = .next s := by
  rw [h1] at h
  exact congrArg Host.Outcome.next ((onFabric_of_running hf _).trans (if_neg (by rcases h with h | h <;> simp [h])))

end

/-! ### Commands of a function in service -/

section
variable (hp : fnPresent s port f = true) (hi : inFlr s port f = false)
include hp hi

theorem exec_busMasterEnableSet_of_present : exec (.busMasterEnableSet port f) s =
    .next (fetchAll (flushVectors (cfgPut s port f 1 (cfgGet s port f 1 ||| 4)) port f)) :=
  congrArg Host.Outcome.next ((onFabric_of_running hf _).trans (if_pos (by simp [hp, hi])))

theorem exec_powerStateWrite_of_pf (h1 : f.val = 1) (d3 : Bool) :
    exec (.powerStateWrite port f d3) s = .next (fetchAll (setPower s port d3)) := by
  rw [h1] at hp hi
  exact congrArg Host.Outcome.next ((onFabric_of_running hf _).trans (if_pos (by simp [h1, hp, hi])))

theorem exec_vfEnableClear_of_pf (h1 : f.val = 1) :
    exec (.vfEnableClear port) s = .next (if vfEnable s port then settlePeers (clearVfs s port) else s) := by
  rw [h1] at hp hi
  exact congrArg Host.Outcome.next ((onFabric_of_running hf _).trans (by simp [hp, hi]))

theorem exec_msixUnmask_of_present {k : BitVec 11} (h1 : 1 ≤ f.val) (hk : k.toNat < msixSize s port f) :
    exec (.msixUnmask port f k) s = .next (unmaskVector s port f k.toNat) :=
  congrArg Host.Outcome.next ((onFabric_of_running hf _).trans (if_pos (by simp [hp, hi, h1, hk])))

end

theorem exec_powerStateWrite_of_vf (h1 : f.val ≠ 1) (d3 : Bool) : exec (.powerStateWrite port f d3) s = .next s :=
  congrArg Host.Outcome.next ((onFabric_of_running hf _).trans (if_neg (by simp [h1])))

theorem exec_retryStatusTimeout_of_clash (hc : s.pair.clash = true) (hs : pairState s = 0) (hr : portRole s port = 1)
    (hn : port ∉ s.fns.retryEnded) : exec (.retryStatusTimeout port) s = .next (retryOver s port) :=
  congrArg Host.Outcome.next ((onFabric_of_running hf _).trans (if_pos (by simp [hc, hs, hr, hn])))

end

/-- Settles O49: a request goes by the port, the start-up, the function's presence and its reset; the other commands act where
the function is present and outside a reset. -/
theorem functionCommands : Obligations.FunctionCommands := by
  intro port f off s hf
  refine ⟨exec_configRequest_of_no_host hf, fun hr ha => ⟨exec_configRequest_of_retry hf hr ha,
      fun w ht => exec_configRequest_of_absent hf hr ha ht w, fun ht hp => ⟨fun hi => ?inReset, fun hi => ?inService⟩⟩,
    fun h v => ⟨exec_busMasterEnableSet_of_barred hf h, exec_powerStateWrite_of_barred hf h v,
      exec_msixUnmask_of_barred hf h, exec_vfEnableClear_of_barred hf h⟩,
    fun hp hi => ⟨fun t ht => ?master, fun h1 t ht => ?off, fun h1 t ht => ?on, exec_powerStateWrite_of_vf hf, fun h1 hv => ?noVfs,
      fun h1 hv => ?vfs, fun k h1 hk hq => ?unmask⟩, fun hc hs hr hn => ?retry⟩
  case inReset =>
    have hread := exec_configRequest_read hf (off := off) hr ha ht hp
    simp only [hi, if_true] at hread
    exact ⟨hread, fun v => (exec_configRequest_write hf hr ha ht hp v).trans (congrArg _ (if_pos hi))⟩
  case inService =>
    have hread := exec_configRequest_read hf (off := off) hr ha ht hp
    simp only [hi, Bool.false_eq_true, if_false] at hread
    exact ⟨hread, fun v => (exec_configRequest_write hf hr ha ht hp v).trans (congrArg _ (if_neg (by simp [hi])))⟩
  case master => rw [ht, exec_busMasterEnableSet_of_present hf hp hi]
  case off => rw [ht, exec_powerStateWrite_of_pf hf hp hi h1 true]; rfl
  case on => rw [ht, exec_powerStateWrite_of_pf hf hp hi h1 false]; rfl
  case noVfs => rw [exec_vfEnableClear_of_pf hf hp hi h1, if_neg (by simp [hv])]
  case vfs => rw [exec_vfEnableClear_of_pf hf hp hi h1, if_pos hv]
  case unmask =>
    exact ⟨_, (exec_msixUnmask_of_present hf hp hi h1 hk).trans (congrArg _ (unmaskVector_of_idle hq)),
      vectorUnmasked_masked .., vectorUnmasked_frame ..⟩
  case retry =>
    have hrun := exec_retryStatusTimeout_of_clash hf hc hs hr hn
    exact ⟨_, hrun, retryStatus_retryOver s port, frame_of (execRetryStatusTimeout_ok (.refl _ s)) hrun⟩

end Sys2Proof.Proofs
end

section
/-! SUPPORT. Function-level resets, BAR accesses and the peer window, of 13_host_functions. -/

namespace Sys2Proof.Proofs

open Sys2Proof.Machine Sys2Proof.Laws

/-! ### What a reset of a service function leaves -/

/-- The channels of the function's tenant end their life (R231). -/
def tenantEnded (s : State) (p f : Nat) : State :=
  match tenantOf s p f with
  | some t => endTenant s t
  | none => s

/-- Function `f` is in its reset and none of its messages waits (R421). -/
def flrShown (u : State) (p f : Nat) : State :=
  { u with fns := { u.fns with
    flr := sPut u.fns.flr (fnKey p f) 0 1, pba := u.fns.pba.filter (fun k => k / 2048 != fnKey p f) } }

/-- The TLP is one of the function. -/
def ofFunc (p f : Nat) (j : PeerJob) : Bool := j.port == p && j.func == f

/-- The TLPs that a reset of the function leaves: of its own only those whose lines run, and what they bring back is
discarded (R421). -/
def jobsAfterFlr (p f : Nat) (l : List PeerJob) : List PeerJob :=
  (l.filter (fun j => ! ofFunc p f j || ! j.running.isEmpty)).map (fun j =>
    if ofFunc p f j then { j with dropped := true, todo := [] } else j)

/-- The host port cells after a reset of the function. -/
def hpAfterFlr (p f : Nat) (h : HostPorts) : HostPorts := { h with jobs := jobsAfterFlr p f h.jobs }

theorem startFlr_of_present {s : State} {p f : Nat} (hp : fnPresent s p f = true) (hi : inFlr s p f = false) :
    startFlr s p f = withHp (flrShown (tenantEnded s p f) p f) (hpAfterFlr p f (tenantEnded s p f).hp) := by
  unfold startFlr tenantEnded
  rw [if_neg (by simp [hp, hi])]
  cases tenantOf s p f <;> rfl

/-- A VF is reset alone (R422). -/
theorem flrOf_vf (s : State) (p : Nat) {f : Nat} (h : 2 ≤ f) : flrOf s p f = startFlr s p f :=
  (if_neg (by omega)).trans (if_neg (by omega))

theorem mem_jobsAfterFlr {p f : Nat} {l : List PeerJob} {j : PeerJob} (h : j ∈ jobsAfterFlr p f l) (hp : j.port = p)
    (hf : j.func = f) : j.dropped = true ∧ j.todo = [] ∧ j.running ≠ [] := by
  obtain ⟨x, hx, rfl⟩ := List.mem_map.1 h
  obtain ⟨-, hrun⟩ := List.mem_filter.1 hx
  by_cases hm : ofFunc p f x = true
  · rw [if_pos hm]
    simp only [hm, Bool.not_true, Bool.false_or, Bool.not_eq_true', List.isEmpty_eq_false_iff] at hrun
    exact ⟨rfl, rfl, hrun⟩
  · rw [if_neg hm] at hp hf
    exact absurd (show ofFunc p f x = true by simp [ofFunc, hp, hf]) hm

theorem inFlr_flrShown (u : State) (p f : Nat) : inFlr (flrShown u p f) p f = true := by
  simp [inFlr, flrShown]

theorem vectorPending_flrShown (u : State) (p f : Nat) {v : Nat} (h : v < 2048) :
    vectorPending (flrShown u p f) p f v = false := by
  have hk : pbaKey p f v / 2048 = fnKey p f := by unfold pbaKey; omega
  simp [vectorPending, flrShown, hk]

theorem withHp_jobsAfterFlr (u : State) (h : HostPorts) (p f : Nat) :
    (withHp u (hpAfterFlr p f h)).hp.jobs = jobsAfterFlr p f h.jobs := rfl

theorem inFlr_withHp (u : State) (h : HostPorts) (p f : Nat) : inFlr (withHp u h) p f = inFlr u p f := rfl

theorem vectorPending_withHp (u : State) (h : HostPorts) (p f v : Nat) :
    vectorPending (withHp u h) p f v = vectorPending u p f v := rfl

/-- Configuration space after a reset (R421). -/
theorem cfgGet_finishFlr (s : State) (p f : Nat) {i : Nat} (h : i < 1024) : cfgGet (finishFlr s p f) p f i = cfgReset f i := by
  have hk : (fnKey p f * 1024 + i) / 1024 = fnKey p f := by omega
  have hget : cfgGet (finishFlr s p f) p f i =
      sGet (sDrop s.fns.cfg (fun k => k / 1024 == fnKey p f)) (fnKey p f * 1024 + i) (cfgReset f i) := rfl
  rw [hget, sGet_sDrop, if_pos (by simp [hk])]

/-! ### TLPs of the peer window -/

/-- The job of a peer-window TLP that arrives now. -/
def tlpJob (s : State) (t : PeerTlp) (w : PeerWork) : PeerJob :=
  { emptyJob t.port t.func w with id := s.hp.nextJob, tag := t.tag, bytes := t.bytes, epoch := epochBit s }

/-- The violation that port's window check records of a TLP that no window of tenant `i` holds (R328, assumption 135). -/
def windowRecorded (s : State) (t : PeerTlp) (w : PeerWork) (i : Nat) (j : PeerJob) : State :=
  recordFirst (addJob s j) (ppuWindow t.port) ⟨0, peerKind w, 1, i, t.off, t.bytes⟩ ⟨5, 0x7E, t.off⟩ 3 (ppuEv (t.port / 4))

/-- The window word lets the work pass. -/
def windowAllows (w : PeerWork) (w0 : Word) : Bool :=
  match w with
  | .read => bitAt w0 28
  | .write _ => bitAt w0 29
  | _ => bitAt w0 30

/-- An atomic operand has a length other than 4 or 8 bytes. -/
def oddAtomic (t : PeerTlp) (w : PeerWork) : Bool :=
  match w with
  | .atomic _ => t.bytes != 4 && t.bytes != 8
  | _ => false

section
variable {s : State} {t : PeerTlp} {w : PeerWork}

theorem peerArrive_of_absent (h : fnPresent s t.port t.func = false ∨ t.func.val = 0) (w : PeerWork) :
    peerArrive s t w = s :=
  if_pos (by rcases h with h | h <;> simp [h])

variable (hp : fnPresent s t.port t.func = true) (h0 : t.func.val ≠ 0) (hb : barClosed s t.port t.func = false) {i : Nat}
  (ht : tenantOf s t.port t.func = some i)
include hp h0 hb ht

theorem peerArrive_of_no_window (hw : windowFor s i t.off t.bytes = none) :
    peerArrive s t w = peerRefuse (windowRecorded s t w i (tlpJob s t w)) (tlpJob s t w) .unsupported := by
  unfold peerArrive
  dsimp only
  rw [if_neg (by simp [hp, h0]), if_neg (by simp [hb]), ht]
  dsimp only
  rw [hw]
  rfl

/-- The window holds the TLP and allows it, to memory that the port reaches. -/
theorem peerArrive_of_window {k a : Nat} {j : PeerJob} (hw : windowFor s i t.off t.bytes = some k)
    (hok : windowAllows w (liveWord s (R.STX_WIN_W0 i k)) = true) (hodd : oddAtomic t w = false)
    (ha : a = fld (liveWord s (R.STX_WIN_W2 i k)) 15 0 * 2 ^ 30 +
      (t.off - fld (liveWord s (R.STX_WIN_W0 i k)) 15 0 * 2 ^ 30))
    (hr : portReach (bankNow s) t.port a = true)
    (hj : j = { tlpJob s t w with addr := a, key := fld (liveWord s (R.STX_WIN_W0 i k)) 27 24, tenant := i }) :
    peerArrive s t w = peerCheck (peerMeter (addJob s j) j) s.hp.nextJob false := by
  subst ha hj
  unfold peerArrive
  dsimp only
  rw [if_neg (by simp [hp, h0]), if_neg (by simp [hb]), ht]
  dsimp only
  rw [hw]
  dsimp only
  refine (if_neg ?_).trans ((if_neg ?_).trans (if_neg ?_))
  · cases w <;> simp_all [windowAllows]
  · cases w <;> simp_all [oddAtomic]
  · rw [hr]
    decide

end

/-! ### Commands -/

section
variable {port : Fin 128} {f : FuncNo} {s : State} (hf : s.dev.fabReset = false)
include hf

theorem exec_flr_of_barred (h : fnPresent s port f = false ∨ inFlr s port f = true) : exec (.flr port f) s = .next s :=
  congrArg Host.Outcome.next ((onFabric_of_running hf _).trans (if_neg (by rcases h with h | h <;> simp [h])))

theorem exec_flr_of_present (hp : fnPresent s port f = true) (hi : inFlr s port f = false) :
    exec (.flr port f) s = .next (settlePeers (flrOf s port f)) :=
  congrArg Host.Outcome.next ((onFabric_of_running hf _).trans (if_pos (by simp [hp, hi])))

theorem exec_flrComplete_of_other (h : inFlr s port f = false) : exec (.flrComplete port f) s = .next s :=
  congrArg Host.Outcome.next ((onFabric_of_running hf _).trans (if_neg (by simp [h])))

theorem exec_flrComplete_of_reset (h : inFlr s port f = true) :
    exec (.flrComplete port f) s = .next (settlePeers (finishFlr s port f)) :=
  congrArg Host.Outcome.next ((onFabric_of_running hf _).trans (if_pos h))

theorem exec_flrPeerDrained_of_other (h : flrWaits s port f = false) : exec (.flrPeerDrained port f) s = .next s :=
  congrArg Host.Outcome.next ((onFabric_of_running hf _).trans (if_neg (by simp [h])))

theorem exec_flrPeerDrained_of_busy
    (hj : s.hp.jobs.any (fun j => j.port == port.val && j.func == f.val && j.dropped) = true) :
    exec (.flrPeerDrained port f) s = .next s :=
  congrArg Host.Outcome.next ((onFabric_of_running hf _).trans (if_neg (by rw [hj]; simp)))

theorem exec_flrPeerDrained_of_drained (h : flrWaits s port f = true)
    (hj : s.hp.jobs.any (fun j => j.port == port.val && j.func == f.val && j.dropped) = false) :
    exec (.flrPeerDrained port f) s =
      .next (settlePeers { s with fns := { s.fns with flr := sDel s.fns.flr (fnKey port f) } }) :=
  congrArg Host.Outcome.next ((onFabric_of_running hf _).trans (if_pos (by rw [h, hj]; rfl)))

theorem exec_peerRead (t : PeerTlp) : exec (.peerRead t) s = .next (settlePeers (peerArrive s t .read)) :=
  congrArg Host.Outcome.next (onFabric_of_running hf _)

theorem exec_peerWrite (t : PeerTlp) (d : List Byte) :
    exec (.peerWrite t d) s = .next (settlePeers (peerArrive s t (.write d))) :=
  congrArg Host.Outcome.next (onFabric_of_running hf _)

theorem exec_peerAtomic (t : PeerTlp) (op : PeerOp) (x y : BitVec 64) {o : AtomicOp}
    (ho : o = ⟨(match op with | .fetchAdd => 0 | .swap => 1 | .cas => 2), t.bytes == 8, BitVec.ofNat 6 (t.off % 64), x, y⟩) :
    exec (.peerAtomic t op x y) s = .next (settlePeers (peerArrive s t (.atomic o))) := by
  subst ho
  exact congrArg Host.Outcome.next ((onFabric_of_running hf _).trans (by cases op <;> rfl))

end

/-- Settles O50: a reset goes by the function's presence and its reset under way; a TLP by the function, its tenant's windows
and what they allow. -/
theorem functionResetsAndPeers : Obligations.FunctionResetsAndPeers := by
  intro port f s hf
  refine ⟨exec_flr_of_barred hf, exec_flr_of_present hf, fun t h2 hp hi ht => ?begun, exec_flrComplete_of_other hf,
    fun h => ⟨exec_flrComplete_of_reset hf h, fun i hi => cfgGet_finishFlr s port f hi⟩, exec_flrPeerDrained_of_other hf,
    fun h => ⟨exec_flrPeerDrained_of_busy hf, exec_flrPeerDrained_of_drained hf h⟩,
    fun a => congrArg Host.Outcome.next (onFabric_of_running hf _), fun t d op a b h => ?absent,
    fun t i j u hp h0 hb ht hw => ?violation, fun t i k w0 w2 hp h0 hb ht hw hw0 hw2 a ha hr j hj => ?window⟩
  case begun =>
    rw [flrOf_vf _ _ h2, startFlr_of_present hp hi] at ht
    subst ht
    refine ⟨?_, fun v hv => ?_, fun j hj => ?_⟩
    · rw [inFlr_withHp, inFlr_flrShown]
    · rw [vectorPending_withHp, vectorPending_flrShown _ _ _ hv]
    · rw [withHp_jobsAfterFlr] at hj
      exact mem_jobsAfterFlr hj
  case absent =>
    refine ⟨?_, ?_, ?_⟩
    · rw [exec_peerRead hf, peerArrive_of_absent h]
    · rw [exec_peerWrite hf, peerArrive_of_absent h]
    · rw [exec_peerAtomic hf t op a b rfl, peerArrive_of_absent h]
  case violation =>
    refine ⟨fun d hj hu => ?_, fun hj hu => ?_⟩
    · obtain rfl : j = tlpJob s t (.write d) := hj
      obtain rfl : u = windowRecorded s t (.write d) i (tlpJob s t (.write d)) := hu
      rw [exec_peerWrite hf, peerArrive_of_no_window hp h0 hb ht hw]
      rfl
    · obtain rfl : j = tlpJob s t .read := hj
      obtain rfl : u = windowRecorded s t .read i (tlpJob s t .read) := hu
      rw [exec_peerRead hf, peerArrive_of_no_window hp h0 hb ht hw]
      rfl
  case window =>
    subst hw0 hw2
    refine ⟨fun hok => ?_, fun d hok => ?_, fun op x y o hok hsize ho => ?_⟩
    · rw [exec_peerRead hf, peerArrive_of_window hp h0 hb ht hw (w := .read) hok rfl ha hr (hj .read)]
    · rw [exec_peerWrite hf, peerArrive_of_window hp h0 hb ht hw (w := .write d) hok rfl ha hr (hj (.write d))]
    · rw [exec_peerAtomic hf t op x y ho, peerArrive_of_window hp h0 hb ht hw (w := .atomic o) hok
        (by rcases hsize with h | h <;> simp [oddAtomic, h]) ha hr (hj (.atomic o))]

end Sys2Proof.Proofs
end

section
/-! SUPPORT. Structure transactions of 14_structure_image: who may do what, and the shadows. -/

namespace Sys2Proof.Proofs

open Sys2Proof.Machine Sys2Proof.Laws

theorem fld_ofNat {n : Nat} (hn : n < 2 ^ 32) (hi lo : Nat) : fld (BitVec.ofNat 32 n) hi lo = n / 2 ^ lo % 2 ^ (hi + 1 - lo) := by
  rw [fld, BitVec.toNat_ofNat, Nat.mod_eq_of_lt hn]

/-- An update of the transaction unit keeps the other parts. -/
theorem steady_txn {p : Part → Bool} (s : State) (x : Txn) (c : p .txn = false) : Steady p s { s with txn := x } :=
  (Steady.refl p s).upd (fun _ => rfl) (fun _ => rfl) (fun _ => rfl) (skip c) (fun _ => rfl) (fun _ => rfl) (fun _ => rfl)
    (fun _ => rfl) (fun _ => rfl) (fun _ => rfl) (fun _ => rfl) (fun _ => rfl) (fun _ => rfl) (fun _ => rfl) (fun _ => rfl)
    (fun _ => rfl) (fun _ => rfl)

/-! ### The status word -/

theorem not_background_txnStatus : ¬ Background R.STX_TXN_STATUS := not_background_of_lt (by decide)

/-- The handle and what else the unit holds of a transaction are gone (R451). -/
def unitClosed (x : Txn) : Txn :=
  { x with handle := 0, owner := none, both := false, unacked := [], sentPrepare := false, gotPrepared := false
           drained := false, sentSwitch := false, gotPrepare := false, sentPrepared := false, validated := false, expect := [] }

theorem txnClose_txn (s : State) : (txnClose s).txn = unitClosed s.txn := rfl
theorem txnClose_banks (s : State) : (txnClose s).banks = { s.banks with shadow := [] } := rfl

theorem txnClose_status (s : State) :
    getReg (txnClose s) R.STX_TXN_STATUS = BitVec.ofNat 32 (rd s R.STX_TXN_STATUS 7 0) := by
  rw [txnClose, getReg_setReg_other _ (by decide), getReg_setReg_same]

theorem txnClose_regsBut (s : State) : RegsBut [R.STX_TXN_STATUS, R.STX_TXN_CHANGES] s (txnClose s) := by
  intro o ho
  simp only [List.mem_cons, List.not_mem_nil, or_false, not_or] at ho
  rw [txnClose, getReg_setReg_other _ ho.2, getReg_setReg_other _ ho.1]
  rfl

/-- A closed transaction with its code: IDLE, and the code shown (R451). -/
theorem txnCode_txnClose_status (s : State) (c : Nat) :
    fld (getReg (txnCode (txnClose s) c) R.STX_TXN_STATUS) 31 29 = 0 ∧
      fld (getReg (txnCode (txnClose s) c) R.STX_TXN_STATUS) 7 0 = c % 256 := by
  have hlt : rd s R.STX_TXN_STATUS 7 0 < 2 ^ 8 := Nat.mod_lt _ (by decide)
  rw [txnCode, getReg_wr_same, txnClose_status, fld_putFld_other _ _ _ _ _ _ (by decide) (by decide) (by decide),
    fld_putFld _ _ _ _ (by decide) (by decide), fld_ofNat (by omega)]
  exact ⟨by omega, rfl⟩

theorem txnCode_banks (s : State) (c : Nat) : (txnCode s c).banks = s.banks := rfl
theorem txnCode_txn (s : State) (c : Nat) : (txnCode s c).txn = s.txn := rfl

theorem sendAbort_steady (s : State) : Steady (keep (.txn :: linkParts)) s (sendAbort s) :=
  sendAbort_st (.refl _ s) rfl rfl rfl rfl rfl

theorem txnEnd_frame (s : State) (c : Nat) : Frame (.settings :: .banks :: .txn :: linkParts) s (txnEnd s c) :=
  (txnEnd_st (q0 := keep (.settings :: .banks :: .txn :: linkParts)) (.refl _ s) rfl rfl rfl rfl rfl rfl rfl).frame

theorem txnEnd_banks (s : State) (c : Nat) : (txnEnd s c).banks = { s.banks with shadow := [] } := by
  rw [txnEnd, txnCode_banks, txnClose_banks, (sendAbort_steady s).banks rfl]

/-! ### Commands out of place -/

theorem refuseCode_of_busy {s : State} (h : txnState s = 2 ∨ txnState s = 3) (i : FabInit) : refuseCode s i = some 1 :=
  if_pos (by rcases h with h | h <;> simp [h])

theorem refuseCode_of_idle {s : State} (h : txnState s = 0) (i : FabInit) : refuseCode s i = some 2 :=
  (if_neg (by simp [h])).trans (if_pos h)

section
variable {s : State} {i : FabInit} (h : txnState s = 1)
include h

theorem refuseCode_of_stranger (ho : s.txn.owner ≠ some i) : refuseCode s i = some 3 :=
  (if_neg (by simp [h])).trans ((if_neg (by simp [h])).trans (if_pos ho))

variable (ho : s.txn.owner = some i)
include ho

theorem refuseCode_of_handle (hh : getReg s R.STX_TXN_HANDLE ≠ s.txn.handle) : refuseCode s i = some 2 :=
  (if_neg (by simp [h])).trans ((if_neg (by simp [h])).trans ((if_neg (by simp [ho])).trans (if_pos hh)))

theorem refuseCode_of_owner (hh : getReg s R.STX_TXN_HANDLE = s.txn.handle) : refuseCode s i = none :=
  (if_neg (by simp [h])).trans ((if_neg (by simp [h])).trans ((if_neg (by simp [ho])).trans (if_neg (by simp [hh]))))

end

theorem exec_txnRollback_of_refused {s : State} {i : FabInit} {c : Nat} (h : refuseCode s i = some c) :
    exec (.txnRollback i) s = .next (txnCode s c) := by
  show execTxnRollback i s = _
  rw [execTxnRollback, h]

theorem exec_txnRollback_of_owner {s : State} {i : FabInit} (h : refuseCode s i = none) :
    exec (.txnRollback i) s = .next (txnEnd s 0) := by
  show execTxnRollback i s = _
  rw [execTxnRollback, h]

theorem exec_txnCommit_of_refused {s : State} {i : FabInit} {c : Nat} (h : refuseCode s i = some c) :
    exec (.txnCommit i) s = .next (txnCode s c) := by
  show execTxnCommit i s = _
  rw [execTxnCommit, h]

/-- COMMIT and ROLLBACK are refused alike. -/
theorem exec_of_refused {s : State} {i : FabInit} {c : Nat} {x : Instr} (hx : x ∈ [Instr.txnCommit i, .txnRollback i])
    (h : refuseCode s i = some c) : exec x s = .next (txnCode s c) := by
  rcases List.mem_pair.1 hx with rfl | rfl
  · exact exec_txnCommit_of_refused h
  · exact exec_txnRollback_of_refused h

/-! ### BEGIN -/

/-- A transaction is open under the next serial, with initiator `i` as owner (R446). -/
def txnOpened (s : State) (i : FabInit) : State :=
  setReg (setReg { s with txn := { s.txn with
      serial := nextSerial s.txn.serial, handle := mkHandle (nextSerial s.txn.serial) s.dev.pid i, owner := some i
      both := partnerTakesPart s } } R.STX_TXN_HANDLE (mkHandle (nextSerial s.txn.serial) s.dev.pid i))
    R.STX_TXN_STATUS (BitVec.ofNat 32 (2 ^ 29 + 2 ^ 28 + FabInit.code i * 2 ^ 20))

theorem exec_txnBegin_of_busy {s : State} (i : FabInit)
    (h : txnState s ≠ 0 ∨ rejoining s = true ∨ s.dev.keeperRun = false) : exec (.txnBegin i) s = .next (txnCode s 1) :=
  congrArg Host.Outcome.next (if_pos (by rcases h with h | h | h <;> simp [h]))

theorem exec_txnBegin_of_idle {s : State} (i : FabInit) (h : txnState s = 0) (hr : rejoining s = false)
    (hk : s.dev.keeperRun = true) : exec (.txnBegin i) s = .next (txnOpened s i) :=
  congrArg Host.Outcome.next (if_neg (by simp [h, hr, hk]))

theorem txnOpened_status (s : State) (i : FabInit) : getReg (txnOpened s i) R.STX_TXN_STATUS =
    BitVec.ofNat 32 (2 ^ 29 + 2 ^ 28 + FabInit.code i * 2 ^ 20) := getReg_setReg_same ..

theorem txnOpened_handle (s : State) (i : FabInit) : getReg (txnOpened s i) R.STX_TXN_HANDLE =
    mkHandle (nextSerial s.txn.serial) s.dev.pid i := by
  rw [txnOpened, getReg_setReg_other _ (by decide), getReg_setReg_same]

theorem txnOpened_regsBut (s : State) (i : FabInit) : RegsBut [R.STX_TXN_STATUS, R.STX_TXN_HANDLE] s (txnOpened s i) := by
  intro o ho
  simp only [List.mem_cons, List.not_mem_nil, or_false, not_or] at ho
  rw [txnOpened, getReg_setReg_other _ ho.1, getReg_setReg_other _ ho.2]
  rfl

/-- What the status word of an open transaction shows. -/
theorem openWord_shows (i : FabInit) :
    fld (BitVec.ofNat 32 (2 ^ 29 + 2 ^ 28 + FabInit.code i * 2 ^ 20)) 31 29 = 1 ∧
      bitAt (BitVec.ofNat 32 (2 ^ 29 + 2 ^ 28 + FabInit.code i * 2 ^ 20)) 28 = true ∧
      fld (BitVec.ofNat 32 (2 ^ 29 + 2 ^ 28 + FabInit.code i * 2 ^ 20)) 23 20 = FabInit.code i ∧
      fld (BitVec.ofNat 32 (2 ^ 29 + 2 ^ 28 + FabInit.code i * 2 ^ 20)) 7 0 = 0 := by
  cases i <;> decide

theorem code_lt (i : FabInit) : FabInit.code i < 16 := by
  cases i <;> decide

/-! ### PERSIST -/

theorem exec_txnPersist_of_busy {s : State} (i : FabInit) (h : txnState s = 2 ∨ txnState s = 3) :
    exec (.txnPersist i) s = .next (txnCode s 1) :=
  congrArg Host.Outcome.next (if_pos (by rcases h with h | h <;> simp [h]))

theorem exec_txnPersist_of_open {s : State} (i : FabInit) (h : txnState s = 1) :
    exec (.txnPersist i) s = .next (txnCode s (if s.txn.owner = some i then 2 else 3)) :=
  congrArg Host.Outcome.next ((if_neg (by simp [h])).trans (if_pos h))

theorem exec_txnPersist_of_trouble {s : State} (i : FabInit) (h : txnState s = 0) (ht : supplyTrouble s = true) :
    exec (.txnPersist i) s = .next (countFailed (nvDeferred (txnCode s 8))) :=
  congrArg Host.Outcome.next ((if_neg (by simp [h])).trans ((if_neg (by simp [h])).trans (if_pos ht)))

/-- The image under whose sequence number PERSIST stores the live structure (R459). -/
def nextImage (s : State) : List Byte :=
  buildImage s.banks.live (envelopeAt s (slotBase (bootedSlot s)))
    (max (if imageValid s (slotBase (bootedSlot s)) then imageSeq s (slotBase (bootedSlot s)) else 0)
      (if imageValid s (slotBase (! bootedSlot s)) then imageSeq s (slotBase (! bootedSlot s)) else 0) + 1) (epochOf s).toNat

/-- The unit is PERSISTING image `img`, and the slot it goes to has lost its header (R460). -/
def persistStarted (s : State) (img : List Byte) : State :=
  wrBit (wr (storeErasePage { s with txn := { s.txn with image := some img } } (slotBase (! bootedSlot s)))
    R.STX_TXN_STATUS 31 29 3) R.RST_SUP_STATUS 27 true

theorem exec_txnPersist_of_idle {s : State} (i : FabInit) (h : txnState s = 0) (ht : supplyTrouble s = false) :
    exec (.txnPersist i) s = .next (persistStarted s (nextImage s)) :=
  congrArg Host.Outcome.next ((if_neg (by simp [h])).trans ((if_neg (by simp [h])).trans (if_neg (by simp [ht]))))

theorem persistStarted_status (s : State) (img : List Byte) :
    fld (getReg (persistStarted s img) R.STX_TXN_STATUS) 31 29 = 3 := by
  rw [persistStarted, getReg_wrBit_other _ (by decide), getReg_wr_same, fld_putFld _ _ _ _ (by decide) (by decide)]
  rfl

theorem persistStarted_busy (s : State) (img : List Byte) : bitAt (getReg (persistStarted s img) R.RST_SUP_STATUS) 27 = true := by
  rw [persistStarted, getReg_wrBit_same, bitAt_putFld_same _ _ _ (by decide)]

theorem persistStarted_frame (s : State) (img : List Byte) :
    Frame [.regs, .settings, .txn, .store] s (persistStarted s img) :=
  (wrBit_st (q0 := keep [.regs, .settings, .txn, .store]) (wr_st (storeErasePage_st
    (steady_txn s _ rfl) rfl) rfl rfl) rfl rfl).frame

/-! ### JOIN and the idle timeout -/

theorem adopt_of_open {s : State} (h : txnState s ≠ 0) (x : Handle) : adopt s x = s := if_neg (by simp [h])

/-- Initiator `i` is the owner of the transaction on this twin. -/
def txnJoined (s : State) (i : FabInit) : State :=
  txnCode (wr { s with txn := { s.txn with owner := some i } } R.STX_TXN_STATUS 23 20 (FabInit.code i)) 0

theorem txnJoined_status (s : State) (i : FabInit) : getReg (txnJoined s i) R.STX_TXN_STATUS =
    putFld (putFld (getReg s R.STX_TXN_STATUS) 23 20 (FabInit.code i)) 7 0 0 := by
  rw [txnJoined, txnCode, getReg_wr_same, getReg_wr_same]
  rfl

section
variable {s : State} {i : FabInit} (h : txnState s = 1)
include h

theorem exec_txnJoin_of_open : exec (.txnJoin i) s = .next
    (if s.txn.owner.isSome && s.txn.owner ≠ some i then txnCode s 3
    else if isCoord s || getReg s R.STX_TXN_HANDLE ≠ s.txn.handle then txnCode s 2
    else txnJoined s i) := by
  show execTxnJoin i s = _
  rw [execTxnJoin, adopt_of_open (by simp [h])]
  exact congrArg Host.Outcome.next ((if_neg (by simp [h])).trans (if_neg (by simp [h])))

theorem exec_txnIdleTimeout_of_open (hc : isCoord s = true) (ht : rd s R.STX_TXN_CFG 15 0 ≠ 0) :
    exec .txnIdleTimeout s = .next (txnEnd s 7) :=
  congrArg Host.Outcome.next (if_pos (by simp [h, hc, ht]))

end

theorem exec_txnIdleTimeout_of_other {s : State} (h : txnState s ≠ 1 ∨ isCoord s = false ∨ rd s R.STX_TXN_CFG 15 0 = 0) :
    exec .txnIdleTimeout s = .next s :=
  congrArg Host.Outcome.next (if_neg (by rcases h with h | h | h <;> simp [h]))

/-! ### Structural writes -/

theorem putShadow_live (s : State) (o : Nat) (v : Word) : (putShadow s o v).banks.live = s.banks.live := by
  unfold putShadow
  split <;> rfl

theorem pairSend_banks (s : State) (c : Instr) : (pairSend s c).banks = s.banks :=
  (pairSend_st (q0 := fun p => p == .banks) (.refl _ s) rfl rfl rfl rfl).banks rfl

theorem countStray_banks (s : State) : (countStray s).banks = s.banks :=
  (countStray_st (q0 := fun p => p == .banks) (.refl _ s) rfl rfl rfl rfl rfl rfl rfl rfl).banks rfl

theorem recordLocked_banks (s : State) (i : FabInit) (o : Nat) : (recordLocked s i o).banks = s.banks :=
  (recordLocked_st (q0 := fun p => p == .banks) (.refl _ s) rfl rfl rfl rfl rfl rfl rfl rfl).banks rfl

theorem recordFabric_banks (s : State) (i : FabInit) (o : Nat) (b : Bool) (d : Denied) : (recordFabric s i o b d).banks = s.banks :=
  (recordFabric_st (q0 := fun p => p == .banks) (.refl _ s) rfl rfl rfl rfl rfl rfl rfl rfl).banks rfl

theorem ownerWrite_live (s : State) (o : Offset) (v : Word) : (ownerWrite s o v).banks.live = s.banks.live := by
  unfold ownerWrite
  dsimp only
  by_cases hc : isCoord s = true
  · rw [if_pos hc]
    split
    · rw [pairSend_banks]
      exact putShadow_live ..
    · exact putShadow_live ..
  · rw [if_neg hc]
    split <;> split <;> simp only [pairSend_banks, putShadow_live]

theorem structuralEffect_live (i : FabInit) (o : Offset) (v : Word) (s : State) :
    (structuralEffect i o v s).banks.live = s.banks.live := by
  have ht : (if isLocked s o.toNat then recordLocked s i o.toNat else s).banks = s.banks := by
    split
    · exact recordLocked_banks ..
    · rfl
  unfold structuralEffect
  dsimp only
  split
  · rw [countStray_banks, ht]
  · split
    · exact congrArg Banks.live (recordLocked_banks ..)
    · exact ownerWrite_live ..

section
variable {i : FabInit} {off : Offset} {v : Word} {s : State}

theorem exec_structuralWrite_of_plain (h : structMask off.toNat = 0) : exec (.structuralWrite i off v) s = .next s :=
  congrArg Host.Outcome.next (if_pos h)

variable (hm : structMask off.toNat ≠ 0)
include hm

theorem exec_structuralWrite_of_refused {d : Denied} (h : fabricGuard s i off.toNat true = some d) :
    exec (.structuralWrite i off v) s = .next (recordFabric s i off.toNat true d) := by
  show execStructuralWrite i off v s = _
  rw [execStructuralWrite, if_neg hm, h]

theorem exec_structuralWrite_of_allowed (h : fabricGuard s i off.toNat true = none) :
    exec (.structuralWrite i off v) s = .next (structuralEffect i off v s) := by
  show execStructuralWrite i off v s = _
  rw [execStructuralWrite, if_neg hm, h]

end

section
variable {i : FabInit} {off : Offset} {s : State} (v : Word)

theorem structuralEffect_of_stray (h : txnState s ≠ 1 ∨ s.txn.owner ≠ some i) : structuralEffect i off v s =
    countStray (if isLocked s off.toNat then recordLocked s i off.toNat else s) := if_pos h

variable (h : txnState s = 1) (ho : s.txn.owner = some i)
include h ho

theorem structuralEffect_of_locked (hl : isLocked s off.toNat = true) :
    structuralEffect i off v s = recordLocked s i off.toNat := by
  unfold structuralEffect
  rw [if_neg (by simp [h, ho]), if_pos hl, if_pos hl]

theorem structuralEffect_of_owner (hl : isLocked s off.toNat = false) : structuralEffect i off v s = ownerWrite s off v := by
  unfold structuralEffect
  rw [if_neg (by simp [h, ho]), if_neg (by simp [hl]), if_neg (by simp [hl])]

end

/-- A structural write changes no live word. -/
theorem exec_structuralWrite_live (i : FabInit) (off : Offset) (v : Word) (s : State) :
    Gives (.structuralWrite i off v) s (fun t => t.banks.live = s.banks.live ∧
      Frame (.settings :: .banks :: .txn :: eventParts) s t) := by
  have hframe : ∀ t, exec (.structuralWrite i off v) s = .next t → Frame (.settings :: .banks :: .txn :: eventParts) s t :=
    fun t ht => frame_of (execStructuralWrite_ok (.refl _ s)) ht
  by_cases hm : structMask off.toNat = 0
  · exact ⟨s, exec_structuralWrite_of_plain hm, rfl, hframe _ (exec_structuralWrite_of_plain hm)⟩
  · cases hg : fabricGuard s i off.toNat true with
    | some d =>
      have hrun := exec_structuralWrite_of_refused (v := v) hm hg
      exact ⟨_, hrun, congrArg Banks.live (recordFabric_banks ..), hframe _ hrun⟩
    | none =>
      have hrun := exec_structuralWrite_of_allowed (v := v) hm hg
      exact ⟨_, hrun, structuralEffect_live .., hframe _ hrun⟩

/-- Settles O53: the state of the transaction, its owner and its handle choose what a command does, and the guard, the lock and
the ownership what a structural write does. -/
theorem transactionOwnership : Obligations.TransactionOwnership := by
  intro i off v s
  refine ⟨exec_txnBegin_of_busy i, fun h hs hr hk hh => ?opened, fun c hc => ⟨fun hs => exec_of_refused hc (refuseCode_of_busy hs i),
      fun hs => exec_of_refused hc (refuseCode_of_idle hs i), fun hs ho => exec_of_refused hc (refuseCode_of_stranger hs ho),
      fun hs ho hh => exec_of_refused hc (refuseCode_of_handle hs ho hh)⟩, exec_txnPersist_of_busy i, exec_txnPersist_of_open i,
    exec_txnPersist_of_trouble i, fun hs ht => ?persist, fun hs ho hh => ?rollback, exec_txnIdleTimeout_of_open,
    exec_txnIdleTimeout_of_other, fun hs hc hh ho => ?join, fun j hs ho => ⟨fun hj => ?stranger, fun hj hc => ?again⟩,
    exec_structuralWrite_of_plain, fun hm => ⟨fun d => exec_structuralWrite_of_refused hm, fun hg => ⟨fun h => ?stray,
      fun hs ho hl => ?locked, fun hs ho hl => ?owner⟩⟩, exec_structuralWrite_live i off v s⟩
  case opened =>
    subst hh
    have hrun := exec_txnBegin_of_idle i hs hr hk
    obtain ⟨h1, h2, h3, h4⟩ := openWord_shows i
    refine ⟨_, hrun, ?_, ?_, ?_, ?_, txnOpened_handle s i, rfl, rfl, rfl, txnOpened_regsBut s i,
      frame_of (execTxnBegin_ok (.refl _ s)) hrun⟩
    · rw [txnOpened_status, h1]
    · rw [txnOpened_status, h2]
    · rw [txnOpened_status, h3]
    · rw [txnOpened_status, h4]
  case persist =>
    exact ⟨_, exec_txnPersist_of_idle i hs ht, persistStarted_status .., rfl, persistStarted_busy .., persistStarted_frame ..⟩
  case rollback =>
    obtain ⟨hst, hcode⟩ := txnCode_txnClose_status (sendAbort s) 0
    exact ⟨_, exec_txnRollback_of_owner (refuseCode_of_owner hs ho hh), hst, hcode, txnEnd_banks s 0, rfl, rfl, txnEnd_frame s 0⟩
  case join =>
    refine ⟨_, (exec_txnJoin_of_open hs).trans (congrArg _ ((if_neg (by simp [ho])).trans (if_neg (by simp [hc, hh])))), rfl, ?_, ?_,
      ?_, ?_⟩
    · rw [txnJoined_status, fld_putFld _ _ _ _ (by decide) (by decide)]
      rfl
    · rw [txnJoined_status, fld_putFld_other _ _ _ _ _ _ (by decide) (by decide) (by decide),
        fld_putFld _ _ _ _ (by decide) (by decide)]
      exact Nat.mod_eq_of_lt (code_lt i)
    · exact regsBut_wr (regsBut_wr (fun _ _ => rfl) (List.mem_singleton_self _) _ _ _) (List.mem_singleton_self _) _ _ _
    · exact (txnCode_st (q0 := keep [.regs, .settings, .txn]) (wr_st (steady_txn s _ rfl) rfl rfl) rfl rfl).frame
  case stranger =>
    exact (exec_txnJoin_of_open hs).trans (congrArg _ (if_pos (by simp [ho, hj])))
  case again =>
    exact (exec_txnJoin_of_open hs).trans (congrArg _ ((if_neg (by simp [ho, hj])).trans (if_pos (by simp [hc]))))
  case stray => rw [exec_structuralWrite_of_allowed hm hg, structuralEffect_of_stray v h]
  case locked => rw [exec_structuralWrite_of_allowed hm hg, structuralEffect_of_locked v hs ho hl]
  case owner => rw [exec_structuralWrite_of_allowed hm hg, structuralEffect_of_owner v hs ho hl]

end Sys2Proof.Proofs
end

section
/-! SUPPORT. The steps of a two-twin commit, and the structure images of the store, of 14_structure_image. -/

namespace Sys2Proof.Proofs

open Sys2Proof.Machine Sys2Proof.Laws

/-! ### COMMIT on the coordinator -/

section
variable {s : State} {i : FabInit} (h : refuseCode s i = none)
include h

theorem exec_txnCommit_of_owner : exec (.txnCommit i) s = .next
    (if ! isCoord s then txnCode s 2
    else if rdBit s R.STX_TXN_STATUS 27 then commitFails s 4
    else commitStart (wr s R.STX_TXN_STATUS 31 29 2)) := by
  show execTxnCommit i s = _
  rw [execTxnCommit, h]

theorem exec_txnCommit_of_other_twin (hc : isCoord s = false) : exec (.txnCommit i) s = .next (txnCode s 2) :=
  (exec_txnCommit_of_owner h).trans (congrArg _ (if_pos (by simp [hc])))

variable (hc : isCoord s = true)
include hc

theorem exec_txnCommit_of_full (hb : rdBit s R.STX_TXN_STATUS 27 = true) : exec (.txnCommit i) s = .next (commitFails s 4) :=
  (exec_txnCommit_of_owner h).trans (congrArg _ ((if_neg (by simp [hc])).trans (if_pos hb)))

theorem exec_txnCommit_of_coord (hb : rdBit s R.STX_TXN_STATUS 27 = false) :
    exec (.txnCommit i) s = .next (commitStart (wr s R.STX_TXN_STATUS 31 29 2)) :=
  (exec_txnCommit_of_owner h).trans (congrArg _ ((if_neg (by simp [hc])).trans (if_neg (by simp [hb]))))

end

section
variable {t : State}

theorem commitStart_of_waiting (h : t.txn.unacked ≠ []) : commitStart t = t := if_pos h

variable (h : t.txn.unacked = [])
include h

theorem commitStart_of_invalid {f : Failure} (hv : validateAll t (resultBank t) = some f) :
    commitStart t = commitFails (reportFailure t t.dev.pid f) f.code := by
  rw [commitStart, if_neg (by simp [h]), hv]

theorem commitStart_of_valid (hv : validateAll t (resultBank t) = none) : commitStart t = commitPrepare t := by
  rw [commitStart, if_neg (by simp [h]), hv]

end

/-! ### Messages of the commit -/

/-- The other twin has taken PREPARE under epoch `e` and is COMMITTING (step 3 of R453). -/
def prepareTaken (s : State) (e : BitVec 32) : State :=
  wr { s with txn := { s.txn with gotPrepare := true, newEpoch := e } } R.STX_TXN_STATUS 31 29 2

theorem prepareTaken_status (s : State) (e : BitVec 32) : fld (getReg (prepareTaken s e) R.STX_TXN_STATUS) 31 29 = 2 := by
  rw [prepareTaken, getReg_wr_same, fld_putFld _ _ _ _ (by decide) (by decide)]
  rfl

theorem prepareTaken_frame (s : State) (e : BitVec 32) : Frame [.regs, .settings, .txn] s (prepareTaken s e) :=
  (wr_st (q0 := keep [.regs, .settings, .txn]) (steady_txn s _ rfl) rfl rfl).frame

/-- The mirrored write to `off` has been acknowledged (R449). -/
def writeAcked (s : State) (off : Offset) : State := { s with txn := { s.txn with unacked := s.txn.unacked.erase off } }

theorem writeAcked_frame (s : State) (off : Offset) : Frame [.txn] s (writeAcked s off) :=
  Steady.frame (steady_txn s _ rfl)

/-- A transaction that ends here with DONE (step 7 of R453). -/
theorem txnDone_regsBut (s : State) : RegsBut [R.STX_TXN_STATUS, R.STX_TXN_CHANGES] s (txnCode (txnClose s) 0) :=
  regsBut_wr (txnClose_regsBut s) (by decide) _ _ _

theorem txnDone_frame (s : State) : Frame [.regs, .settings, .banks, .txn] s (txnCode (txnClose s) 0) :=
  (txnCode_st (q0 := keep [.regs, .settings, .banks, .txn]) (txnClose_st (.refl _ s) rfl rfl rfl rfl) rfl rfl).frame

section
variable {h : Handle} {off : Offset} {e o : BitVec 32} {v : Word} {item : BitVec 4} {code : BitVec 8} {s : State}
  (hf : s.dev.fabReset = false)
include hf

section
variable (hs : txnState s = 1) (hc : isCoord s = false) (hh : s.txn.handle = h)
include hs hc hh

theorem exec_prepare_of_invalid {f : Failure} (hv : validateAll s (resultBank s) = some f) : exec (.prepare h e) s =
    .next (txnCode (txnClose (pairSend s (.refused h (BitVec.ofNat 32 f.off) (BitVec.ofNat 4 f.item) (BitVec.ofNat 8 f.code))))
      0x1A) := by
  show execPrepare h e s = _
  rw [execPrepare, onFabric_of_running hf, adopt_of_open (by simp [hs])]
  refine congrArg Host.Outcome.next ((if_neg (by simp [hs, hc, hh])).trans ?_)
  rw [hv]

theorem exec_prepare_of_valid (hv : validateAll s (resultBank s) = none) :
    exec (.prepare h e) s = .next (prepareTaken s e) := by
  show execPrepare h e s = _
  rw [execPrepare, onFabric_of_running hf, adopt_of_open (by simp [hs])]
  refine congrArg Host.Outcome.next ((if_neg (by simp [hs, hc, hh])).trans ?_)
  rw [hv]
  rfl

end

section
variable (hs : txnState s ≠ 2)
include hs

theorem exec_epochDrainDone_of_other : exec .epochDrainDone s = .next s :=
  congrArg Host.Outcome.next ((onFabric_of_running hf _).trans (if_pos hs))

theorem exec_prepared_of_other : exec (.prepared h) s = .next s :=
  congrArg Host.Outcome.next ((onFabric_of_running hf _).trans (if_neg (by simp [hs])))

theorem exec_refused_of_other : exec (.refused h o item code) s = .next s :=
  congrArg Host.Outcome.next ((onFabric_of_running hf _).trans (if_neg (by simp [hs])))

theorem exec_switch_of_other : exec (.switch h e) s = .next s :=
  congrArg Host.Outcome.next ((onFabric_of_running hf _).trans (if_neg (by simp [hs])))

end

section
variable (hs : txnState s = 2)
include hs

theorem exec_epochDrainDone_of_prepared (hg : s.txn.gotPrepare = true) (hn : s.txn.sentPrepared = false) :
    exec .epochDrainDone s =
      .next (pairSend (fillInactive { s with txn := { s.txn with sentPrepared := true } }) (.prepared s.txn.handle)) :=
  congrArg Host.Outcome.next ((onFabric_of_running hf _).trans
    ((if_neg (by simp [hs])).trans ((if_pos hg).trans (if_neg (by simp [hn])))))

/-- Both banks are level, and the coordinator's own accesses have drained (step 4 of R453). -/
theorem exec_epochDrainDone_of_coord (hg : s.txn.gotPrepare = false) (hv : s.txn.validated = true) (hd : s.txn.drained = false)
    (hw : s.txn.sentSwitch = false) : exec .epochDrainDone s = .next
      (if s.txn.gotPrepared || ! s.txn.sentPrepare then commitSwitch (fillInactive { s with txn := { s.txn with drained := true } })
      else fillInactive { s with txn := { s.txn with drained := true } }) :=
  congrArg Host.Outcome.next ((onFabric_of_running hf _).trans
    ((if_neg (by simp [hs])).trans ((if_neg (by simp [hg])).trans (if_pos (by simp [hv, hd, hw])))))

theorem exec_prepared_of_coord (hc : isCoord s = true) (hh : s.txn.handle = h) (hp : s.txn.sentPrepare = true)
    (hw : s.txn.sentSwitch = false) : exec (.prepared h) s = .next
      (if s.txn.drained then commitSwitch { s with txn := { s.txn with gotPrepared := true } }
      else { s with txn := { s.txn with gotPrepared := true } }) :=
  congrArg Host.Outcome.next ((onFabric_of_running hf _).trans (if_pos (by simp [hs, hc, hh, hp, hw])))

theorem exec_refused_of_coord (hc : isCoord s = true) (hh : s.txn.handle = h) (hw : s.txn.sentSwitch = false) :
    exec (.refused h o item code) s = .next (countFailed (txnCode
      (txnClose (reportFailure s (! s.dev.pid) ⟨code.toNat, item.toNat, o.toNat⟩)) code.toNat)) :=
  congrArg Host.Outcome.next ((onFabric_of_running hf _).trans (if_pos (by simp [hs, hc, hh, hw])))

theorem exec_switch_of_prepared (hh : s.txn.handle = h) (hp : s.txn.sentPrepared = true) (he : s.txn.newEpoch = e) :
    exec (.switch h e) s = .next (txnCode (txnClose (pairSend (epochSwitch s (resultBank s)) (.switched h))) 0) :=
  congrArg Host.Outcome.next ((onFabric_of_running hf _).trans (if_pos (by simp [hs, hh, hp, he])))

end

theorem exec_switched_of_switching (hw : s.txn.sentSwitch = true) (hh : s.txn.handle = h) :
    exec (.switched h) s = .next (txnCode (txnClose s) 0) :=
  congrArg Host.Outcome.next ((onFabric_of_running hf _).trans (if_pos (by simp [hw, hh])))

theorem exec_switched_of_other (hw : s.txn.sentSwitch = false ∨ s.txn.handle ≠ h) : exec (.switched h) s = .next s :=
  congrArg Host.Outcome.next ((onFabric_of_running hf _).trans (if_neg (by rcases hw with hw | hw <;> simp [hw])))

theorem exec_abort_of_switching (hw : s.txn.sentSwitch = true) : exec (.abort h) s = .next s :=
  congrArg Host.Outcome.next ((onFabric_of_running hf _).trans (if_neg (by simp [hw])))

theorem exec_abort_of_before (hs : txnState s = 1 ∨ txnState s = 2) (hh : s.txn.handle = h) (hw : s.txn.sentSwitch = false) :
    exec (.abort h) s = .next (txnCode (txnClose s) 0) :=
  congrArg Host.Outcome.next ((onFabric_of_running hf _).trans (if_pos (by rcases hs with hs | hs <;> simp [hs, hh, hw])))

theorem exec_abort_of_stranger (hh : s.txn.handle ≠ h) : exec (.abort h) s = .next s :=
  congrArg Host.Outcome.next ((onFabric_of_running hf _).trans (if_neg (by simp [hh])))

theorem exec_shadowAck_of_stranger (hh : s.txn.handle ≠ h) : exec (.shadowAck h off) s = .next s :=
  congrArg Host.Outcome.next ((onFabric_of_running hf _).trans (if_pos (Ne.symm hh)))

theorem exec_shadowAck_of_open (hh : s.txn.handle = h) (hs : txnState s = 1) :
    exec (.shadowAck h off) s = .next (writeAcked s off) := by
  have ht : txnState (writeAcked s off) = 1 := hs
  exact congrArg Host.Outcome.next ((onFabric_of_running hf _).trans
    ((if_neg (by simp [hh])).trans (if_neg (c := (txnState (writeAcked s off) = 2 && _ && _) = true) (by simp [ht]))))

/-- A mirrored write of the open transaction to a word with pair-wide bits (R449). -/
theorem exec_shadowWr_of_open (hs : txnState s = 1) (hh : s.txn.handle = h) (h0 : h ≠ 0) (hp : pairWide off.toNat ≠ 0)
    {u : State} (hu : u = putShadow s off.toNat ((shadowWord s off.toNat &&& ~~~ pairWide off.toNat) ||| (v &&& pairWide off.toNat))) :
    exec (.shadowWr h off v) s = .next
      (if isCoord s then pairSend { u with txn := { u.txn with unacked := u.txn.unacked ++ [off] } }
        (.shadowWr h off (v &&& pairWide off.toNat))
      else pairSend u (.shadowAck h off)) := by
  subst hu
  show execShadowWr h off v s = _
  rw [execShadowWr, onFabric_of_running hf, adopt_of_open (by simp [hs])]
  refine congrArg Host.Outcome.next ((if_neg h0).trans ((if_neg (by simp [hs, hh])).trans ?_))
  rw [if_neg hp]

end

theorem exec_switchedTimeout_of_switching {s : State} (hw : s.txn.sentSwitch = true) :
    exec .switchedTimeout s = .next (countFailed (raiseEv (txnCode (txnClose s) 0x0A) 5)) :=
  congrArg Host.Outcome.next (if_pos hw)

theorem exec_switchedTimeout_of_other {s : State} (hw : s.txn.sentSwitch = false) : exec .switchedTimeout s = .next s :=
  congrArg Host.Outcome.next (if_neg (by simp [hw]))

/-- Settles O54: the twin's part in the transaction, its state and the steps taken so far choose what each message of R453 does. -/
theorem transactionCommit : Obligations.TransactionCommit := by
  intro i h off e o v item code s hf
  refine ⟨fun hs ho hh => ?commit, fun b => rfl, fun hs hc hh => ⟨fun f => exec_prepare_of_invalid hf hs hc hh, fun hv => ?prepare⟩,
    fun hs => ⟨exec_epochDrainDone_of_other hf hs, exec_prepared_of_other hf hs, exec_refused_of_other hf hs,
      exec_switch_of_other hf hs⟩, exec_epochDrainDone_of_prepared hf, fun t hs hg hv hd hw ht => ?drained,
    fun hs hc hh hp hw => ?prepared, exec_refused_of_coord hf, exec_switch_of_prepared hf, fun hw hh => ?switched,
    exec_switched_of_other hf, fun hw => ⟨exec_abort_of_switching hf hw, exec_switchedTimeout_of_switching hw⟩,
    exec_switchedTimeout_of_other, exec_abort_of_before hf,
    fun hh => ⟨exec_shadowAck_of_stranger hf hh, exec_abort_of_stranger hf hh⟩, fun hs hc hh h0 hp => ?mirrored,
    fun u hs hc hh h0 hp hu => ?ordered, fun hh hs => ?acked⟩
  case commit =>
    have hr := refuseCode_of_owner hs ho hh
    refine ⟨exec_txnCommit_of_other_twin hr, exec_txnCommit_of_full hr, fun t hc hb ht => ?_⟩
    have hrun := exec_txnCommit_of_coord hr hc hb
    rw [← ht] at hrun
    have hu : t.txn.unacked = s.txn.unacked := by rw [ht]; rfl
    refine ⟨fun hn => ?_, fun f hn hv => ?_, fun hn hv => ?_⟩
    · rw [hrun, commitStart_of_waiting (by rwa [hu])]
    · rw [hrun, commitStart_of_invalid (by rwa [hu]) hv]
    · rw [hrun, commitStart_of_valid (by rwa [hu]) hv]
  case prepare =>
    exact ⟨_, exec_prepare_of_valid hf hs hc hh hv, prepareTaken_status s e, rfl, rfl, rfl, prepareTaken_frame s e⟩
  case drained =>
    subst ht
    have hrun := exec_epochDrainDone_of_coord hf hs hg hv hd hw
    exact ⟨fun hp => hrun.trans (congrArg _ (if_pos (by rcases hp with hp | hp <;> simp [hp]))),
      fun hp hq => hrun.trans (congrArg _ (if_neg (by simp [hp, hq])))⟩
  case prepared =>
    have hrun := exec_prepared_of_coord hf hs hc hh hp hw
    exact ⟨fun hd => hrun.trans (congrArg _ (if_pos hd)), fun hd => hrun.trans (congrArg _ (if_neg (by simp [hd])))⟩
  case switched =>
    obtain ⟨hst, hcode⟩ := txnCode_txnClose_status s 0
    exact ⟨_, exec_switched_of_switching hf hw hh, hst, hcode, rfl, txnDone_regsBut s, txnDone_frame s⟩
  case mirrored =>
    exact (exec_shadowWr_of_open hf hs hh h0 hp rfl).trans (congrArg _ (if_neg (by simp [hc])))
  case ordered =>
    exact (exec_shadowWr_of_open hf hs hh h0 hp hu).trans (congrArg _ (if_pos hc))
  case acked => exact ⟨_, exec_shadowAck_of_open hf hh hs, rfl, writeAcked_frame s off⟩

/-! ### PERSIST_DONE and IMG_LOAD -/

theorem exec_persistDone_of_none {s : State} (h : s.txn.image = none) (e : StoreEnd) : exec (.persistDone e) s = .next s := by
  show execPersistDone e s = _
  rw [execPersistDone, h]

theorem exec_persistDone_of_image {s t : State} {img : List Byte} (h : s.txn.image = some img)
    (ht : t = wrBit (wr { s with txn := { s.txn with image := none } } R.STX_TXN_STATUS 31 29 0) R.RST_SUP_STATUS 27 false)
    (e : StoreEnd) : exec (.persistDone e) s = .next (match e with
      | .done => txnCode (storeWrite t (slotBase (! bootedSlot s)) img) 0
      | .supplyLow => countFailed (nvDeferred (txnCode (garbleBody t (slotBase (! bootedSlot s)) img.length) 8))
      | .storeError => countFailed (txnCode (garbleBody t (slotBase (! bootedSlot s)) img.length) 9)) := by
  subst ht
  show execPersistDone e s = _
  cases e <;> rw [execPersistDone, h]

/-- SLOT and PAGE of an IMG_LOAD are taken (R533). -/
def loadNamed (s : State) (slot : Bool) (page : BitVec 10) : State :=
  wr (wrBit s R.STX_IMG_LOAD 29 slot) R.STX_IMG_LOAD 9 0 page.toNat

/-- The bytes that an IMG_LOAD under way programs. -/
def withLoading (s : State) (bs : Option (List Byte)) : State := { s with txn := { s.txn with loading := bs } }

theorem withLoading_getReg (s : State) (bs : Option (List Byte)) (o : Nat) : getReg (withLoading s bs) o = getReg s o := rfl

/-- An IMG_LOAD runs with the buffer's bytes (R533). -/
def loadStarted (s : State) (slot : Bool) (page : BitVec 10) : State :=
  wrBit (wrBit (withLoading (loadNamed s slot page) (some (imgBufBytes s))) R.STX_IMG_LOAD 30 true) R.RST_SUP_STATUS 27 true

/-- What IMG_LOAD leaves when it starts: a page above 0 erases the header page (R532). -/
def loadBegun (s : State) (slot : Bool) (page : BitVec 10) : State :=
  if page = 0 then loadStarted s slot page else storeErasePage (loadStarted s slot page) (slotBase slot)

theorem exec_imgLoad_of_busy {s : State} (h : rdBit s R.STX_IMG_LOAD 30 = true) (slot : Bool) (page : BitVec 10) :
    exec (.imgLoad slot page) s = .next s :=
  congrArg Host.Outcome.next (if_pos h)

section
variable {slot : Bool} {page : BitVec 10} {s : State} (h : rdBit s R.STX_IMG_LOAD 30 = false)
include h

theorem exec_imgLoad_of_booted (hk : s.dev.stuck = false) (hb : slot = bootedSlot s) :
    exec (.imgLoad slot page) s = .next (wr (loadNamed s slot page) R.STX_IMG_LOAD 23 16 1) :=
  congrArg Host.Outcome.next ((if_neg (by simp [h])).trans (if_pos (by simp [hk, hb])))

variable (hk : s.dev.stuck = true ∨ slot ≠ bootedSlot s)
include hk

theorem exec_imgLoad_of_trouble (ht : supplyTrouble s = true) :
    exec (.imgLoad slot page) s = .next (nvDeferred (wr (loadNamed s slot page) R.STX_IMG_LOAD 23 16 2)) :=
  congrArg Host.Outcome.next ((if_neg (by simp [h])).trans ((if_neg (by rcases hk with hk | hk <;> simp [hk])).trans (if_pos ht)))

theorem exec_imgLoad_of_free (ht : supplyTrouble s = false) : exec (.imgLoad slot page) s = .next (loadBegun s slot page) :=
  congrArg Host.Outcome.next ((if_neg (by simp [h])).trans
    ((if_neg (by rcases hk with hk | hk <;> simp [hk])).trans (if_neg (by simp [ht]))))

end

section
variable (s : State) (slot : Bool) (page : BitVec 10)

theorem loadBegun_getReg (o : Nat) : getReg (loadBegun s slot page) o = getReg (loadStarted s slot page) o := by
  unfold loadBegun
  split
  · rfl
  · rw [storeErasePage_getReg]

theorem loadStarted_txn : (loadStarted s slot page).txn = { s.txn with loading := some (imgBufBytes s) } := by
  rw [loadStarted, wrBit_txn, wrBit_txn]
  rfl

theorem loadBegun_txn : (loadBegun s slot page).txn = { s.txn with loading := some (imgBufBytes s) } := by
  unfold loadBegun
  split
  · exact loadStarted_txn s slot page
  · rw [storeErasePage_txn, loadStarted_txn]

theorem loadStarted_word : getReg (loadStarted s slot page) R.STX_IMG_LOAD =
    putFld (putFld (putFld (getReg s R.STX_IMG_LOAD) 29 29 slot.toNat) 9 0 page.toNat) 30 30 1 := by
  have hnamed : getReg (loadNamed s slot page) R.STX_IMG_LOAD =
      putFld (putFld (getReg s R.STX_IMG_LOAD) 29 29 slot.toNat) 9 0 page.toNat := by
    rw [loadNamed, getReg_wr_same, getReg_wrBit_same]
  rw [← hnamed, loadStarted, getReg_wrBit_other _ (by decide), getReg_wrBit_same, withLoading_getReg]
  rfl

theorem loadBegun_regsBut : RegsBut [R.STX_IMG_LOAD, R.RST_SUP_STATUS] s (loadBegun s slot page) := by
  intro o ho
  rw [loadBegun_getReg]
  simp only [List.mem_cons, List.not_mem_nil, or_false, not_or] at ho
  rw [loadStarted, getReg_wrBit_other _ ho.2, getReg_wrBit_other _ ho.1, withLoading_getReg, loadNamed, getReg_wr_other _ ho.1, getReg_wrBit_other _ ho.1]

theorem loadBegun_frame : Frame [.regs, .settings, .txn, .store] s (loadBegun s slot page) := by
  have hnamed : Steady (keep [.regs, .settings, .txn, .store]) s (loadNamed s slot page) :=
    wr_st (wrBit_st (.refl _ s) rfl rfl) rfl rfl
  have hstarted : Steady (keep [.regs, .settings, .txn, .store]) s (loadStarted s slot page) :=
    wrBit_st (wrBit_st (hnamed.trans (steady_txn _ _ rfl)) rfl rfl) rfl rfl
  unfold loadBegun
  split
  · exact hstarted.frame
  · exact (storeErasePage_st hstarted rfl).frame

end

/-- The bytes of an IMG_LOAD stand in the store (R533). -/
def loadEnded (s : State) (bs : List Byte) : State :=
  wr (storeWrite (wrBit (wrBit (withLoading s none) R.STX_IMG_LOAD 30 false) R.RST_SUP_STATUS 27 false)
    (slotBase (rdBit s R.STX_IMG_LOAD 29) + rd s R.STX_IMG_LOAD 9 0 * 0x10000) bs) R.STX_IMG_LOAD 23 16 0

theorem exec_imgLoadDone_of_none {s : State} (h : s.txn.loading = none) (e : StoreEnd) : exec (.imgLoadDone e) s = .next s := by
  show execImgLoadDone e s = _
  rw [execImgLoadDone, h]

theorem exec_imgLoadDone_of_done {s : State} {bs : List Byte} (h : s.txn.loading = some bs) :
    exec (.imgLoadDone .done) s = .next (loadEnded s bs) := by
  show execImgLoadDone .done s = _
  rw [execImgLoadDone, h]
  rfl

section
variable (s : State) (bs : List Byte)

theorem loadEnded_word : getReg (loadEnded s bs) R.STX_IMG_LOAD =
    putFld (putFld (getReg s R.STX_IMG_LOAD) 30 30 0) 23 16 0 := by
  rw [loadEnded, getReg_wr_same, getReg_storeWrite, getReg_wrBit_other _ (by decide), getReg_wrBit_same, withLoading_getReg]
  rfl

theorem loadEnded_regsBut : RegsBut [R.STX_IMG_LOAD, R.RST_SUP_STATUS] s (loadEnded s bs) := by
  intro o ho
  simp only [List.mem_cons, List.not_mem_nil, or_false, not_or] at ho
  rw [loadEnded, getReg_wr_other _ ho.1, getReg_storeWrite, getReg_wrBit_other _ ho.2, getReg_wrBit_other _ ho.1,
    withLoading_getReg]

theorem loadEnded_frame : Frame [.regs, .settings, .txn, .store] s (loadEnded s bs) :=
  (wr_st (q0 := keep [.regs, .settings, .txn, .store]) (storeWrite_st (wrBit_st (wrBit_st (steady_txn s _ rfl) rfl rfl) rfl rfl)
    rfl) rfl rfl).frame

theorem loadEnded_txn : (loadEnded s bs).txn.loading = none := by
  rw [loadEnded, wr_txn, storeWrite_keeps]
  rfl

/-- What is written does not depend on the state beside the store. -/
theorem storeWrite_store_congr {s t : State} (h : s.store = t.store) (a : Nat) (bs : List Byte) :
    (storeWrite s a bs).store = (storeWrite t a bs).store := by
  induction bs generalizing s t a with
  | nil => exact h
  | cons b bs ih => exact ih (by simp only [storePut, h]) (a + 1)

theorem loadEnded_store : (loadEnded s bs).store =
    (storeWrite s (slotBase (rdBit s R.STX_IMG_LOAD 29) + rd s R.STX_IMG_LOAD 9 0 * 0x10000) bs).store := by
  rw [loadEnded, wr_store]
  exact storeWrite_store_congr (by rw [wrBit_store, wrBit_store]; rfl) _ _

end

/-- Settles O55: what is persisted or loaded, the booted slot, the supply and how the store ended choose what is left. -/
theorem imageWrites : Obligations.ImageWrites := by
  intro slot page s t
  refine ⟨exec_persistDone_of_none, fun img h ht => ⟨exec_persistDone_of_image h ht .done,
      exec_persistDone_of_image h ht .supplyLow, exec_persistDone_of_image h ht .storeError⟩,
    fun h => exec_imgLoad_of_busy h slot page, fun h ht => ⟨fun hk hb => ?booted, fun hk hs => ?trouble, fun hk hs => ?begun⟩,
    exec_imgLoadDone_of_none, fun bs h => ?ended⟩
  case booted => rw [ht]; exact exec_imgLoad_of_booted h hk hb
  case trouble => rw [ht]; exact exec_imgLoad_of_trouble h hk hs
  case begun =>
    refine ⟨_, exec_imgLoad_of_free h hk hs, ?_, ?_, ?_, ?_, ?_, ?_, loadBegun_regsBut s slot page, loadBegun_frame s slot page⟩
    · rw [loadBegun_getReg, loadStarted_word, bitAt_putFld_one _ _ (by decide)]
    · rw [loadBegun_getReg, loadStarted_word, bitAt_putFld_other _ _ _ _ _ (by decide) (by decide) (by decide),
        bitAt_putFld_other _ _ _ _ _ (by decide) (by decide) (by decide), bitAt_putFld_same _ _ _ (by decide)]
    · rw [loadBegun_getReg, loadStarted_word, fld_putFld_other _ _ _ _ _ _ (by decide) (by decide) (by decide),
        fld_putFld _ _ _ _ (by decide) (by decide)]
      exact Nat.mod_eq_of_lt page.isLt
    · rw [loadBegun_txn]
    · intro h0
      rw [loadBegun, if_pos h0, loadStarted]
      rfl
    · intro h0
      rw [loadBegun, if_neg h0, loadStarted]
      rfl
  case ended =>
    refine ⟨_, exec_imgLoadDone_of_done h, ?_, ?_, loadEnded_txn s bs, loadEnded_store s bs, loadEnded_regsBut s bs,
      loadEnded_frame s bs⟩
    · rw [loadEnded_word, bitAt_putFld_other _ _ _ _ _ (by decide) (by decide) (by decide), bitAt_putFld_zero _ _ (by decide)]
    · rw [loadEnded_word, fld_putFld _ _ _ _ (by decide) (by decide)]
      rfl

end Sys2Proof.Proofs
end

section
/-! SUPPORT. What the delivery of an event leaves of a register word: it adds pending bits, and otherwise writes only the summary,
the network's counters and statistics, and the performance counters. The record of the snapshot engine stays as well. -/

namespace Sys2Proof.Proofs

open Sys2Proof.Machine Sys2Proof.Laws

/-- The delivery of events keeps what `P` says of the word at `o`: `o` is none of the words that a delivery writes, but for
pending words, where `P` outlasts a bit that is set. -/
structure Outlasts (o : Nat) (P : Word → Prop) : Prop where
  summary : o ≠ R.EVT_SUMMARY
  lost (r : Nat) : o ≠ R.NOC_ERR_CNT3 r
  stat (i j k : Nat) (hk : k < 16) : o ≠ R.NOC_STAT i j + k
  value (k : Nat) : o ≠ perfBase k + 8
  high (k : Nat) : o ≠ perfBase k + 8 + 4
  overflow (k : Nat) : o ≠ perfBase k + 0x14
  pend (w j : Nat) (x : Word) (hj : j < 32) (ho : o = R.EVT_PEND w) (hx : P x) : P (putFld x j j 1)

/-- From `s` to `t` what `P` says of the word at `o` stays, and so does the record of the snapshot engine. -/
structure Keeps (o : Nat) (P : Word → Prop) (s t : State) : Prop where
  keep : P (getReg s o) → P (getReg t o)
  record : t.snap.record = s.snap.record

variable {o : Nat} {P : Word → Prop}

theorem Keeps.refl (s : State) : Keeps o P s s := ⟨id, rfl⟩

theorem Keeps.trans {s t u : State} (h : Keeps o P s t) (k : Keeps o P t u) : Keeps o P s u :=
  ⟨fun hs => k.keep (h.keep hs), k.record.trans h.record⟩

/-- The last step first. -/
theorem Keeps.after {s t u : State} (k : Keeps o P t u) (h : Keeps o P s t) : Keeps o P s u := h.trans k

theorem keeps_of_getReg {s t : State} (h : getReg t o = getReg s o) (hr : t.snap.record = s.snap.record) : Keeps o P s t :=
  ⟨fun hs => by rwa [h], hr⟩

theorem keeps_of_regs {s t : State} (h : t.regs = s.regs) (hr : t.snap.record = s.snap.record) : Keeps o P s t :=
  keeps_of_getReg (by rw [getReg, getReg, h]) hr

theorem keeps_emit {s t : State} {x : Out} (h : Keeps o P s t) : Keeps o P s (emit t x) := h.trans (keeps_of_regs rfl rfl)

theorem Keeps.ite {s t u : State} {c : Prop} [Decidable c] (ht : Keeps o P s t) (hu : Keeps o P s u) :
    Keeps o P s (if c then t else u) := by
  split
  · exact ht
  · exact hu

theorem keeps_forAll {α : Type} {f : State → α → State} (h : ∀ t x, Keeps o P t (f t x)) (l : List α) (s : State) :
    Keeps o P s (forAll l s f) := by
  induction l generalizing s with
  | nil => exact .refl s
  | cons x l ih => exact (h s x).trans (ih (f s x))

theorem wr64_keeps {i : Nat} (h : o ≠ i) (h4 : o ≠ i + 4) (s : State) (v : BitVec 64) : Keeps o P s (wr64 s i v) :=
  keeps_of_getReg (by rw [wr64, getReg_setReg_other _ h4, getReg_setReg_other _ h]) rfl

section
variable (d : Outlasts o P)
include d

/-! ### Performance counters and links -/

theorem perfWrap_keeps (s : State) (k fuel : Nat) : Keeps o P s (perfWrap s k fuel) := by
  induction fuel generalizing s k with
  | zero => exact .refl s
  | succ m ih =>
    have hval := fun v => wr64_keeps (P := P) (d.value (k + 1)) (d.high (k + 1)) s v
    have hover : Keeps o P s (wrBit s (perfBase k + 0x14) 0 true) :=
      keeps_of_getReg (getReg_wrBit_other _ (d.overflow k) _ _) rfl
    unfold perfWrap
    exact .ite (.ite (.refl s) (.ite (hval _) ((hval _).trans (ih _ _)))) (hover.trans (keeps_of_regs rfl rfl))

theorem perfAdd_keeps (s : State) (k v : Nat) : Keeps o P s (perfAdd s k v) := by
  have hval := fun v => wr64_keeps (P := P) (d.value k) (d.high k) s v
  exact .ite (.refl s) (.ite (hval _) ((hval _).trans (perfWrap_keeps d _ _ _)))

theorem perfHit_keeps (s : State) (n code inst v times : Nat) : Keeps o P s (perfHit s n code inst v times) := by
  refine keeps_forAll (fun t k => ?_) _ _
  split
  · exact .ite (perfAdd_keeps d _ _ _) (.refl t)
  · exact .refl _

theorem noteFlit_keeps (s : State) (l : LinkId) : Keeps o P s (noteFlit s l) := by
  cases l with
  | twin => exact perfHit_keeps d ..
  | port p => exact .refl s

theorem sendFlits_keeps (s : State) (l : LinkId) (fs : List Flit) : Keeps o P s (sendFlits s l fs) := by
  induction fs generalizing s with
  | nil => exact .refl s
  | cons f t ih =>
    exact (ih _).after (keeps_emit ((noteFlit_keeps d _ l).after (keeps_of_regs rfl rfl)))

theorem leave_keeps (s : State) (l : LinkId) (q : TxPacket) : Keeps o P s (leave s l q) := by
  unfold leave
  dsimp only
  split
  · exact keeps_emit ((sendFlits_keeps d _ l _).after (keeps_of_regs rfl rfl))
  · exact (sendFlits_keeps d _ l _).after (keeps_of_regs rfl rfl)

theorem pump_keeps (l : LinkId) (qs : List TxPacket) (s : State) (blocked : List Nat) (kept : List TxPacket) :
    Keeps o P s (pump s l qs blocked kept) := by
  induction qs generalizing s blocked kept with
  | nil => exact keeps_of_regs rfl rfl
  | cons q t ih => exact .ite ((leave_keeps d s l q).trans (ih _ _ _)) (ih _ _ _)

theorem linkSend_keeps (s : State) (l : LinkId) (q : TxPacket) : Keeps o P s (linkSend s l q) :=
  .ite (.refl s) ((pump_keeps d l _ _ [] []).after (keeps_of_regs rfl rfl))

theorem twinSend_keeps (s : State) (vc flits : Nat) (c : Instr) : Keeps o P s (twinSend s vc flits c) := linkSend_keeps d ..

theorem pairSend_keeps (s : State) (c : Instr) : Keeps o P s (pairSend s c) := twinSend_keeps d ..

/-! ### The network -/

theorem putStat_keeps (s : State) (i : Nat) (n : Net) (a b c e : Nat) : Keeps o P s (putStat s i n a b c e) := by
  have h0 : o ≠ R.NOC_STAT i (netNo n) := d.stat i (netNo n) 0 (by decide)
  refine keeps_of_getReg ?_ rfl
  unfold putStat
  dsimp only
  rw [getReg_setReg_other _ (d.stat i (netNo n) 12 (by decide)), getReg_setReg_other _ (d.stat i (netNo n) 8 (by decide)),
    getReg_setReg_other _ (d.stat i (netNo n) 4 (by decide)), getReg_setReg_other _ h0]

theorem countFlits_keeps (s : State) (i : Nat) (n : Net) (f : Nat) : Keeps o P s (countFlits s i n f) :=
  .ite ((putStat_keeps d ..).trans (perfHit_keeps d ..)) (putStat_keeps d ..)

theorem putBy_keeps (s : State) (g : Msg) (w : Word) : Keeps o P s (putBy s g w) := by
  have hreg (t : State) : Keeps o P t (regTake t g.init g.net g.flits) :=
    keeps_of_regs ((regTake_st (q0 := fun p => p == .regs) (.refl _ t) rfl).regs rfl)
      (congrArg Snap.record ((regTake_st (q0 := fun p => p == .snap) (.refl _ t) rfl).snap rfl))
  have h := countFlits_keeps d s g.init g.net g.flits
  exact .ite ((h.trans (hreg _)).trans (keeps_of_regs rfl rfl)) (h.trans (keeps_of_regs rfl rfl))

theorem wr_lost_keeps (s : State) (r hi lo v : Nat) : Keeps o P s (wr s (R.NOC_ERR_CNT3 r) hi lo v) :=
  keeps_of_getReg (getReg_wr_other _ (d.lost r) _ _ _) rfl

/-- A bit of a pending word is set. -/
theorem wrBit_pend_keeps (s : State) (w : Nat) {j : Nat} (hj : j < 32) : Keeps o P s (wrBit s (R.EVT_PEND w) j true) := by
  refine ⟨fun hs => ?_, rfl⟩
  by_cases ho : o = R.EVT_PEND w
  · rw [ho] at hs ⊢
    rw [getReg_wrBit_same]
    exact d.pend w j _ hj ho hs
  · rwa [getReg_wrBit_other _ ho]

omit d in
theorem deliverHost_keeps (s : State) (e : Nat) : Keeps o P s (deliverHost s e) :=
  keeps_of_regs ((deliverHost_st (q0 := fun p => p == .regs) (.refl _ s) rfl rfl).regs rfl)
    (congrArg Snap.record ((deliverHost_st (q0 := fun p => p == .snap) (.refl _ s) rfl rfl).snap rfl))

theorem deliverKeeper_keeps (s : State) (e : Nat) : Keeps o P s (deliverKeeper s e) := by
  have h : Keeps o P s (wrBit (emit s (.keeperIrq e)) R.EVT_SUMMARY (e / 32) true) :=
    keeps_of_getReg (getReg_wrBit_other _ d.summary _ _) rfl
  exact .ite (h.trans (keeps_of_regs rfl rfl)) (.refl s)

theorem noteNoRoute_keeps (s : State) (r : Nat) : Keeps o P s (noteNoRoute s r) := by
  have hbump := wr_lost_keeps d s r 15 0 (satUp (rd s (R.NOC_ERR_CNT3 r) 15 0))
  have hdel := ((hbump.trans (wrBit_pend_keeps d _ (routerEv r / 32) (Nat.mod_lt (routerEv r) (by decide)))).trans
    (deliverKeeper_keeps d _ (routerEv r))).trans (deliverHost_keeps _ (routerEv r))
  exact .ite hbump (.ite (.ite (hdel.trans (keeps_of_regs rfl rfl)) (hdel.trans (wr_lost_keeps d ..))) hdel)

theorem returnCredits_keeps (s : State) (g : Msg) (k : Nat) (m : Bool) : Keeps o P s (returnCredits s g k m) :=
  .ite (noteNoRoute_keeps d ..) (.ite (putBy_keeps d ..) (keeps_of_regs rfl rfl))

theorem crossTwin_keeps (s : State) (g : Msg) : Keeps o P s (crossTwin s g) := by
  have hput : Keeps o P s (putPlain s g) := putBy_keeps d ..
  refine Keeps.trans (.ite ?_ ?_) (twinSend_keeps d _ (netNo g.net) g.flits g.cmd)
  · exact (returnCredits_keeps d _ _ 1 true).after (hput.trans (keeps_of_regs rfl rfl))
  · exact hput.trans (keeps_of_regs rfl rfl)

theorem putMsg_keeps (s : State) (g : Msg) : Keeps o P s (putMsg s g) := .ite (crossTwin_keeps d ..) (putBy_keeps d ..)

theorem inject_keeps (s : State) (i : MsgInfo) (r : Option ResvFor) (c : Instr) : Keeps o P s (inject s i r c) := by
  refine .ite (noteNoRoute_keeps d ..) ?_
  cases r with
  | none => exact .ite (putMsg_keeps d ..) (keeps_of_regs rfl rfl)
  | some w => exact .ite ((putMsg_keeps d _ _).after (keeps_of_regs rfl rfl)) (keeps_of_regs rfl rfl)

/-! ### Events -/

theorem deliverTwin_keeps (s : State) (e : Nat) : Keeps o P s (deliverTwin s e) := .ite (inject_keeps d ..) (.refl s)

/-- What is delivered when event `e` becomes pending. -/
theorem deliver_keeps (s : State) (e : Nat) : Keeps o P s (deliverTwin (deliverHost (deliverKeeper s e) e) e) :=
  ((deliverKeeper_keeps d s e).trans (deliverHost_keeps _ e)).trans (deliverTwin_keeps d _ e)

theorem raiseEv_keeps (s : State) (e : Nat) : Keeps o P s (raiseEv s e) :=
  .ite (.refl s) ((wrBit_pend_keeps d s (e / 32) (Nat.mod_lt e (by decide))).trans (deliver_keeps d _ e))

end

/-! ### The words that outlast an event -/

theorem perfBase_range (k : Nat) : (0x4004000 ≤ perfBase k ∧ perfBase k ≤ 0x40047E0) ∨
    (0x82C0000 ≤ perfBase k ∧ perfBase k < 0xC2C0000 ∧ perfBase k % 0x400000 < 0x2C0200 ∧ 0x2C0000 ≤ perfBase k % 0x400000) := by
  unfold perfBase R.PERF_CHIP_CTR_SEL R.PERF_RGN_CTR_SEL
  split <;> omega

/-- A pending word: a bit that is set stays set. -/
theorem outlasts_pend (w : Nat) {j : Nat} (hj : j < 32) : Outlasts (R.EVT_PEND w) (fun x => bitAt x j = true) where
  summary := by unfold R.EVT_PEND R.EVT_SUMMARY; omega
  lost r := by unfold R.EVT_PEND R.NOC_ERR_CNT3; omega
  stat i k n _ := by unfold R.EVT_PEND R.NOC_STAT; omega
  value k := by have := perfBase_range k; unfold R.EVT_PEND; omega
  high k := by have := perfBase_range k; unfold R.EVT_PEND; omega
  overflow k := by have := perfBase_range k; unfold R.EVT_PEND; omega
  pend v i x hi _ hx := by
    by_cases h : i = j
    · rw [h, bitAt_putFld_one _ _ hj]
    · rwa [bitAt_putFld_other _ _ _ _ _ hi (Nat.le_refl i) (by omega)]

/-- The words of the pair and of the twin link's upper registers: they keep their value. -/
theorem outlasts_pair {o : Nat} (h : 0xE010000 ≤ o) (v : Word) : Outlasts o (fun x => x = v) where
  summary := by unfold R.EVT_SUMMARY; omega
  lost r := by unfold R.NOC_ERR_CNT3; omega
  stat i k n _ := by unfold R.NOC_STAT; omega
  value k := by have := perfBase_range k; omega
  high k := by have := perfBase_range k; omega
  overflow k := by have := perfBase_range k; omega
  pend w _ _ _ ho _ := by unfold R.EVT_PEND at ho; omega

theorem raiseEv_getReg_pair {o : Nat} (h : 0xE010000 ≤ o) (s : State) (e : Nat) : getReg (raiseEv s e) o = getReg s o :=
  raiseEv_keeps (outlasts_pair h (getReg s o)) s e |>.keep rfl

/-- An event leaves the record of the snapshot engine. -/
theorem raiseEv_record (s : State) (e : Nat) : (raiseEv s e).snap.record = s.snap.record :=
  (raiseEv_keeps (outlasts_pair (Nat.le_refl _) 0) s e).record

theorem pairSend_getReg_pair {o : Nat} (h : 0xE010000 ≤ o) (s : State) (c : Instr) : getReg (pairSend s c) o = getReg s o :=
  pairSend_keeps (outlasts_pair h (getReg s o)) s c |>.keep rfl

end Sys2Proof.Proofs
end

section
/-! SUPPORT. Beacons, missed windows and takeover, of 15_twin_pairing. -/

namespace Sys2Proof.Proofs

open Sys2Proof.Machine Sys2Proof.Laws

/-! ### Events and the words of the pair -/

theorem raiseEv_banks (s : State) (e : Nat) : (raiseEv s e).banks = s.banks := (raiseEv_steady s e).banks rfl
theorem raiseEv_pair (s : State) (e : Nat) : (raiseEv s e).pair = s.pair := (raiseEv_steady s e).pair rfl

theorem raiseEv_rdBit_pair {o : Nat} (h : 0xE010000 ≤ o) (s : State) (e k : Nat) : rdBit (raiseEv s e) o k = rdBit s o k :=
  rdBit_congr (raiseEv_getReg_pair h s e) (liveWord_congr (raiseEv_banks s e) o) k

theorem fld_count_pair {o : Nat} (h : 0xE010000 ≤ o) (s : State) {lo : Nat} (hlo : lo ≤ 16) (rule : CntRule) (e : Nat) :
    fld (getReg (count s o lo rule e) o) (lo + 15) lo = satUp (rd s o (lo + 15) lo) := by
  have hw : fld (getReg (wr s o (lo + 15) lo (satUp (rd s o (lo + 15) lo))) o) (lo + 15) lo = satUp (rd s o (lo + 15) lo) := by
    rw [getReg_wr_same, fld_putFld _ _ _ _ (by omega) (by omega), show lo + 15 + 1 - lo = 16 by omega]
    exact Nat.mod_eq_of_lt (satUp_lt _)
  unfold count
  dsimp only
  split
  · rw [raiseEv_getReg_pair h, hw]
  · exact hw

theorem count_pair (s : State) (o lo : Nat) (rule : CntRule) (e : Nat) : (count s o lo rule e).pair = s.pair :=
  (count_steady s o lo rule e).pair rfl

/-! ### Sending beacons -/

/-- The next beacon takes the number after this one (R465). -/
def nextNumber (s : State) : State := withPair s { s.pair with bseq := s.pair.bseq + 1 }

/-- The beacon has gone out on the twin link, where it is active. -/
def linkBeacon (s : State) : State := if twinState s = 2 then pairSend s (.beacon .link (ownBeacon s)) else s

/-- The beacon has gone out on the wire, where that is in use. -/
def wireBeacon (s : State) : State :=
  if bitAt (liveWord s R.TWIN_PAIR_CFG) 31 then emit (linkBeacon s) (.wire (ownBeacon s)) else linkBeacon s

theorem linkBeacon_liveWord (s : State) (o : Nat) : liveWord (linkBeacon s) o = liveWord s o := by
  unfold linkBeacon
  split
  · exact liveWord_congr (pairSend_banks ..) o
  · rfl

theorem pairSend_pair (s : State) (c : Instr) : (pairSend s c).pair = s.pair :=
  (pairSend_st (q0 := fun p => p == .pair) (.refl _ s) rfl rfl rfl rfl).pair rfl

theorem wireBeacon_pair (s : State) : (wireBeacon s).pair = s.pair := by
  have hlink : (linkBeacon s).pair = s.pair := by
    unfold linkBeacon
    split
    · exact pairSend_pair ..
    · rfl
  unfold wireBeacon
  split
  · exact hlink
  · exact hlink

theorem steady_pair {p : Part → Bool} (s : State) (x : Pair) (c : p .pair = false) : Steady p s (withPair s x) :=
  withPair_st (.refl p s) c

/-! ### Marks of a bad beacon -/

/-- A bad beacon sets bit `bit` of TWIN_PAIR_STATUS, with the pair event where it was 0 (R463). -/
def marked (on : Bool) (bit : Nat) (t : State) : State :=
  if ! on || rdBit t R.TWIN_PAIR_STATUS bit then t else raiseEv (wrBit t R.TWIN_PAIR_STATUS bit true) 13

theorem marked_pair (on : Bool) (bit : Nat) (t : State) : (marked on bit t).pair = t.pair := by
  unfold marked
  split
  · rfl
  · exact raiseEv_pair ..

theorem marked_shows {bit : Nat} (hb : bit < 32) (t : State) : rdBit (marked true bit t) R.TWIN_PAIR_STATUS bit = true := by
  unfold marked
  by_cases h : rdBit t R.TWIN_PAIR_STATUS bit = true
  · rw [if_pos (by simp [h])]
    exact h
  · rw [if_neg (by simp [h]), raiseEv_rdBit_pair (by decide), rdBit_wrBit_true _ _ hb]

theorem marked_rdBit_other (on : Bool) {bit k : Nat} (hb : bit < 32) (h : k ≠ bit) (t : State) :
    rdBit (marked on bit t) R.TWIN_PAIR_STATUS k = rdBit t R.TWIN_PAIR_STATUS k := by
  unfold marked
  split
  · rfl
  · rw [raiseEv_rdBit_pair (by decide), rdBit_wrBit_other _ _ hb h]

section
variable {p : Part → Bool} {s t : State} (h : Steady p s t)
include h

theorem marked_steady (on : Bool) (bit : Nat) (c : p .regs = false) (c7 : p .links = false) (c8 : p .fns = false)
    (c10 : p .snap = false) (c13 : p .noc = false) (c19 : p .flight = false) (c20 : p .out = false) :
    Steady p s (marked on bit t) := by
  unfold marked
  split
  · exact h
  · exact raiseEv_st (wrBit_bg h .twinStatus c) c c7 c8 c10 c13 c19 c20

/-- The run of missed windows of a path, and its bit in the status word, which is in the background. -/
theorem setPath_steady (path : BeaconPath) (n : Fin 9) (c : p .regs = false) (c6 : p .pair = false) (c7 : p .links = false)
    (c8 : p .fns = false) (c10 : p .snap = false) (c13 : p .noc = false) (c19 : p .flight = false) (c20 : p .out = false) :
    Steady p s (setPath t path n) := by
  unfold setPath
  dsimp only
  split
  · exact withPair_st h c6
  · exact raiseEv_st (wrBit_bg (withPair_st h c6) .twinStatus c) c c7 c8 c10 c13 c19 c20

end

/-! ### The run of missed windows -/

/-- The pair with `n` missed windows on a path. -/
def missesPut (x : Pair) (path : BeaconPath) (n : Fin 9) : Pair :=
  match path with
  | .link => { x with missLink := n }
  | .wire => { x with missWire := n }

theorem setPath_pair (s : State) (path : BeaconPath) (n : Fin 9) : (setPath s path n).pair = missesPut s.pair path n := by
  unfold setPath
  dsimp only
  split
  · cases path <;> rfl
  · rw [raiseEv_pair]
    cases path <;> rfl

theorem setPath_rdBit (s : State) (path : BeaconPath) (n : Fin 9) {k : Nat} (hk : k < 26) :
    rdBit (setPath s path n) R.TWIN_PAIR_STATUS k = rdBit s R.TWIN_PAIR_STATUS k := by
  have hb : pathBit path < 32 ∧ k ≠ pathBit path := by cases path <;> simp [pathBit] <;> omega
  unfold setPath
  dsimp only
  split
  · rfl
  · rw [raiseEv_rdBit_pair (by decide), rdBit_wrBit_other _ _ hb.1 hb.2]
    rfl

theorem setPath_getReg (s : State) (path : BeaconPath) (n : Fin 9) {o : Nat} (h : 0xE010000 ≤ o) (ho : o ≠ R.TWIN_PAIR_STATUS) :
    getReg (setPath s path n) o = getReg s o := by
  unfold setPath
  dsimp only
  split
  · rfl
  · rw [raiseEv_getReg_pair h, getReg_wrBit_other _ ho]
    rfl

theorem missesPut_clash (x : Pair) (path : BeaconPath) (n : Fin 9) : (missesPut x path n).clash = x.clash := by
  cases path <;> rfl

theorem missesPut_last (x : Pair) (path : BeaconPath) (n : Fin 9) : (missesPut x path n).last = x.last := by
  cases path <;> rfl

theorem missed_val (m : Fin 9) : (Fin.ofNat 9 (min 8 (m.val + 1))).val = min 8 (m.val + 1) :=
  Nat.mod_eq_of_lt (by omega)

/-! ### Beacons that are not the partner's -/

/-- The twin notes the clash where it starts (R463). -/
def clashNoted (s : State) : State := withPair s { s.pair with clash := s.pair.clash || pairState s == 0 }

/-- What a beacon of this twin's identity, or of another pair, leaves before its path is looked at (R463). -/
def beaconMarked (s : State) (sameId otherTag : Bool) : State := marked otherTag 24 (marked sameId 25 (clashNoted s))

/-- What a beacon of this twin's identity, or of another pair, leaves (R463, R467). -/
def badBeacon (s : State) (path : BeaconPath) (sameId otherTag : Bool) : State :=
  if otherTag then beaconMarked s sameId otherTag else setPath (beaconMarked s sameId otherTag) path 0

theorem badBeacon_pair (s : State) (path : BeaconPath) (sameId otherTag : Bool) :
    (badBeacon s path sameId otherTag).pair.clash = (s.pair.clash || pairState s == 0) ∧
      (badBeacon s path sameId otherTag).pair.last = s.pair.last := by
  have hm : (beaconMarked s sameId otherTag).pair = (clashNoted s).pair := by
    rw [beaconMarked, marked_pair, marked_pair]
  unfold badBeacon
  split
  · rw [hm]
    exact ⟨rfl, rfl⟩
  · rw [setPath_pair, missesPut_clash, missesPut_last, hm]
    exact ⟨rfl, rfl⟩

theorem badBeacon_clash {s : State} (h : pairState s = 0) (path : BeaconPath) (sameId otherTag : Bool) :
    (badBeacon s path sameId otherTag).pair.clash = true := by
  rw [(badBeacon_pair s path sameId otherTag).1, h]
  simp

theorem badBeacon_rdBit (s : State) (path : BeaconPath) (sameId otherTag : Bool) {k : Nat} (hk : k < 26) :
    rdBit (badBeacon s path sameId otherTag) R.TWIN_PAIR_STATUS k =
      rdBit (beaconMarked s sameId otherTag) R.TWIN_PAIR_STATUS k := by
  unfold badBeacon
  split
  · rfl
  · exact setPath_rdBit _ _ _ hk

theorem badBeacon_frame (s : State) (path : BeaconPath) (sameId otherTag : Bool) :
    Frame (.pair :: eventParts) s (badBeacon s path sameId otherTag) := by
  have hm : Steady (keep (.pair :: eventParts)) s (beaconMarked s sameId otherTag) :=
    marked_steady (marked_steady (steady_pair s _ rfl) _ _ rfl rfl rfl rfl rfl rfl rfl) _ _ rfl rfl rfl rfl rfl rfl rfl
  unfold badBeacon
  split
  · exact hm.frame
  · exact (setPath_steady hm _ _ rfl rfl rfl rfl rfl rfl rfl rfl).frame

/-! ### Commands -/

section
variable {b : Beacon} {path : BeaconPath} {s : State} (hf : s.dev.fabReset = false)
include hf

theorem exec_beaconSend_of_running : exec .beaconSend s = .next (nextNumber (wireBeacon s)) := by
  show execBeaconSend s = _
  rw [execBeaconSend, onFabric_of_running hf]
  refine congrArg (fun t => Host.Outcome.next (nextNumber t)) ?_
  have hlive := linkBeacon_liveWord s R.TWIN_PAIR_CFG
  unfold wireBeacon
  rw [← hlive]
  rfl

theorem exec_beacon_of_unused (h : pathUsed s path = false) : exec (.beacon path b) s = .next s :=
  congrArg Host.Outcome.next ((onFabric_of_running hf _).trans (if_pos (by simp [h])))

theorem exec_beaconWindowMiss_of_unused (h : pathUsed s path = false) : exec (.beaconWindowMiss path) s = .next s :=
  congrArg Host.Outcome.next ((onFabric_of_running hf _).trans (if_pos (by simp [h])))

section
variable (hu : pathUsed s path = true)
include hu

theorem exec_beacon_of_bad (h : b.pid = s.dev.pid ∨ b.pairTag ≠ liveWord s R.TWIN_PAIR_TAG) : exec (.beacon path b) s =
    .next (badBeacon s path (b.pid == s.dev.pid) (b.pairTag != liveWord s R.TWIN_PAIR_TAG)) :=
  congrArg Host.Outcome.next ((onFabric_of_running hf _).trans
    ((if_neg (by simp [hu])).trans (if_pos (by rcases h with h | h <;> simp [h]))))

theorem exec_beacon_of_good (hp : b.pid ≠ s.dev.pid) (ht : b.pairTag = liveWord s R.TWIN_PAIR_TAG) {t : State}
    (h : t = ((List.range 16).filter (fun n => ! b.regions.getLsbD n)).foldl
      (fun u n => regionAnswered u (Fin.ofNat 16 n) b.pid) (setPath s path 0)) : exec (.beacon path b) s =
    .next (goodBeacon (wr (withPair t { t.pair with last := some b }) R.TWIN_PAIR_STATUS 15 0 b.regions.toNat) b) := by
  subst h
  exact congrArg Host.Outcome.next ((onFabric_of_running hf _).trans
    ((if_neg (by simp [hu])).trans (if_neg (by simp [hp, ht]))))

end

theorem exec_beaconWindowMiss_link : exec (.beaconWindowMiss .link) s =
    .next (setPath (count s R.TWIN_CNT0 0 .once 13) .link (Fin.ofNat 9 (min 8 (s.pair.missLink.val + 1)))) :=
  congrArg Host.Outcome.next ((onFabric_of_running hf _).trans (if_neg (by simp [pathUsed])))

theorem exec_beaconWindowMiss_wire (hu : pathUsed s .wire = true) : exec (.beaconWindowMiss .wire) s =
    .next (setPath (count s R.TWIN_CNT0 16 .once 13) .wire (Fin.ofNat 9 (min 8 (s.pair.missWire.val + 1)))) :=
  congrArg Host.Outcome.next ((onFabric_of_running hf _).trans (if_neg (by simp [hu])))

section
variable (h : pairState s ≠ 2 ∨ s.pair.takeoverStep ≠ 0)
include h

theorem exec_takeover_of_other (c : TakeoverCause) : exec (.takeover c) s = .next s :=
  congrArg Host.Outcome.next ((onFabric_of_running hf _).trans (if_neg (by rcases h with h | h <;> simp [h])))

theorem exec_handoverDone_of_other : exec .handoverDone s = .next s :=
  congrArg Host.Outcome.next ((onFabric_of_running hf _).trans (if_neg (by rcases h with h | h <;> simp [h])))

theorem exec_handoverWrite_of_other : exec .handoverWrite s = .next s :=
  congrArg Host.Outcome.next ((onFabric_of_running hf _).trans (if_pos h))

end

section
variable (hs : pairState s = 2) (h0 : s.pair.takeoverStep = 0)
include hs h0

theorem exec_takeover_of_pathsLost (hl : linkPathLost s = true) (hw : wireLost s = true) (ht : twinState s ≠ 2) :
    exec (.takeover .pathsLost) s = .next (startTakeover s .pathsLost) :=
  congrArg Host.Outcome.next ((onFabric_of_running hf _).trans (if_pos (by simp [hs, h0, hl, hw, ht])))

theorem exec_takeover_of_stoodDown (hp : (s.pair.last.map (·.state)) = some .stoodDown) :
    exec (.takeover .partnerStoodDown) s = .next (startTakeover s .partnerStoodDown) :=
  congrArg Host.Outcome.next ((onFabric_of_running hf _).trans (if_pos (by simp only [hs, h0, hp]; decide)))

theorem exec_handoverDone_of_paired :
    exec .handoverDone s = .next (endTakeover (settleUnits (quietEnd (startTakeover s .handoverDone)))) :=
  congrArg Host.Outcome.next ((onFabric_of_running hf _).trans (if_pos (by simp [hs, h0])))

end

theorem exec_takeover_of_paths (h : linkPathLost s = false ∨ wireLost s = false ∨ twinState s = 2) :
    exec (.takeover .pathsLost) s = .next s :=
  congrArg Host.Outcome.next ((onFabric_of_running hf _).trans (if_neg (by rcases h with h | h | h <;> simp [h])))

theorem exec_takeoverQuietEnd_of_quiet (h : s.pair.takeoverStep = 3) :
    exec .takeoverQuietEnd s = .next (settleUnits (quietEnd s)) :=
  congrArg Host.Outcome.next ((onFabric_of_running hf _).trans (if_pos h))

theorem exec_takeoverQuietEnd_of_other (h : s.pair.takeoverStep ≠ 3) : exec .takeoverQuietEnd s = .next s :=
  congrArg Host.Outcome.next ((onFabric_of_running hf _).trans (if_neg h))

theorem exec_takeoverComplete_of_settled (h : s.pair.takeoverStep = 4) : exec .takeoverComplete s = .next (endTakeover s) :=
  congrArg Host.Outcome.next ((onFabric_of_running hf _).trans (if_pos h))

theorem exec_takeoverComplete_of_other (h : s.pair.takeoverStep ≠ 4) : exec .takeoverComplete s = .next s :=
  congrArg Host.Outcome.next ((onFabric_of_running hf _).trans (if_neg h))

theorem exec_recoverySweepDone_of_other {seg : BitVec 16} (h : seg.toNat ∉ s.pair.recovery) :
    exec (.recoverySweepDone seg) s = .next s :=
  congrArg Host.Outcome.next ((onFabric_of_running hf _).trans (if_pos (by simp [h])))

end

/-- Settles O56: the path in use and the beacon's identity and tag choose what a beacon does, and the pair state, the step of
the takeover and the cause what a takeover does. -/
theorem beaconsAndTakeover : Obligations.BeaconsAndTakeover := by
  intro b path seg s hf
  have hsend := exec_beaconSend_of_running hf
  refine ⟨fun ht hw => ?silent, fun ht hw => ?wire, fun ht => ?link,
    fun h => ⟨exec_beacon_of_unused hf h, exec_beaconWindowMiss_of_unused hf h⟩,
    fun hu => ⟨fun hp => ?sameId, fun hp ht => ?otherTag, fun t hp ht h => exec_beacon_of_good hf hu hp ht h, fun hl => ?missLink,
      fun hw => ?missWire⟩,
    fun h => ⟨exec_takeover_of_other hf h, exec_handoverDone_of_other hf h, exec_handoverWrite_of_other hf h⟩,
    fun hs h0 => ⟨exec_takeover_of_pathsLost hf hs h0, exec_takeover_of_paths hf, exec_takeover_of_stoodDown hf hs h0,
      exec_handoverDone_of_paired hf hs h0⟩,
    exec_takeoverQuietEnd_of_quiet hf, exec_takeoverQuietEnd_of_other hf, exec_takeoverComplete_of_settled hf,
    exec_takeoverComplete_of_other hf, exec_recoverySweepDone_of_other hf, fun hit dirty t u w hm hh hd ht hu hw => ?recovered⟩
  case silent =>
    have hbeacon : wireBeacon s = s := by rw [wireBeacon, if_neg (by simp [hw]), linkBeacon, if_neg ht]
    rw [hbeacon] at hsend
    exact ⟨_, hsend, rfl, (steady_pair (p := keep [.pair]) s _ rfl).frame⟩
  case wire =>
    have hbeacon : wireBeacon s = emit s (.wire (ownBeacon s)) := by rw [wireBeacon, if_pos hw, linkBeacon, if_neg ht]
    rw [hbeacon] at hsend
    exact ⟨_, hsend, rfl, rfl,
      (withPair_st (q0 := keep [.pair, .out]) (Laws.emit_st (.refl _ s) rfl) rfl).frame⟩
  case link =>
    refine ⟨_, hsend, ?_, frame_of (execBeaconSend_ok (.refl _ s)) hsend⟩
    show (wireBeacon s).pair.bseq + 1 = _
    rw [wireBeacon_pair]
  case sameId =>
    refine ⟨_, exec_beacon_of_bad hf hu (.inl hp), ?_, fun h => badBeacon_clash h _ _ _, (badBeacon_pair ..).2,
      badBeacon_frame ..⟩
    rw [badBeacon_rdBit _ _ _ _ (by decide), beaconMarked, marked_rdBit_other _ (by decide) (by decide), hp, beq_self_eq_true,
      marked_shows (by decide)]
  case otherTag =>
    refine ⟨_, exec_beacon_of_bad hf hu (.inr ht), ?_, fun h => badBeacon_clash h _ _ _, (badBeacon_pair ..).2,
      badBeacon_frame ..⟩
    rw [badBeacon_rdBit _ _ _ _ (by decide), beaconMarked, bne_iff_ne.2 ht, marked_shows (by decide)]
  case missLink =>
    subst hl
    refine ⟨_, exec_beaconWindowMiss_link hf, ?_, ?_, ?_⟩
    · rw [setPath_pair]
      exact missed_val _
    · rw [setPath_pair, count_pair]
      rfl
    · rw [setPath_getReg _ _ _ (by decide) (by decide)]
      exact fld_count_pair (by decide) s (by decide) .once 13
  case missWire =>
    subst hw
    refine ⟨_, exec_beaconWindowMiss_wire hf hu, ?_, ?_, ?_⟩
    · rw [setPath_pair]
      exact missed_val _
    · rw [setPath_pair, count_pair]
      rfl
    · rw [setPath_getReg _ _ _ (by decide) (by decide)]
      exact fld_count_pair (by decide) s (by decide) .once 13
  case recovered =>
    subst hh hd ht hu hw
    exact congrArg Host.Outcome.next ((onFabric_of_running hf _).trans (if_neg (by simp [hm])))

end Sys2Proof.Proofs
end

section
/-! SUPPORT. Handover, homing and rejoin, of 15_twin_pairing. -/

namespace Sys2Proof.Proofs

open Sys2Proof.Machine Sys2Proof.Laws

/-! ### Repairs -/

/-- Slice `x` drains for its repair (step 1 of R495). -/
def repairBegun (s : State) (x : Nat) : State :=
  withPair (wrBit s (R.DIR_CTRL x) 0 true) { s.pair with repair := sPut s.pair.repair x 0 1 }

theorem startHandOver_of_free {s : State} {x : Nat} (hp : partnerServes s = true) (ha : slicedAway s x = false)
    (h0 : sGet s.pair.repair x 0 = 0) : startHandOver s x false = repairBegun s x :=
  if_neg (by simp [hp, ha, h0])

theorem repairBegun_step (s : State) (x : Nat) : sGet (repairBegun s x).pair.repair x 0 = 1 := by
  simp only [repairBegun, withPair, sGet_sPut_same]

theorem repairBegun_drain (s : State) (x : Nat) : bitAt (getReg (repairBegun s x) (R.DIR_CTRL x)) 0 = true := by
  rw [repairBegun, withPair_getReg, getReg_wrBit_same, bitAt_putFld_same _ _ _ (by decide)]

/-! ### Recalled sets -/

/-- Coach `k` writes back and drops the lines that `hit` names (R496). -/
def recalled (hit : CLine → Bool) (v : State) (k : Nat) : State :=
  (((v.co.cache.filter (fun e => e.1 / 64 == k)).flatMap (·.2)).filter hit).foldl (fun w c => writeBack w k c)
    (withCo v { v.co with cache := (v.co.cache.map (fun e =>
      if e.1 / 64 = k then (e.1, e.2.filter (fun c => ! hit c)) else e)).filter (fun e => ! e.2.isEmpty) })

/-- No line is hit, so the coach keeps its cache. -/
theorem recalled_of_none {hit : CLine → Bool} {v : State} (h : ∀ e ∈ v.co.cache, ∀ c ∈ e.2, hit c = false)
    (hne : ∀ e ∈ v.co.cache, e.2 ≠ []) (k : Nat) : recalled hit v k = v := by
  have hlines : ((v.co.cache.filter (fun e => e.1 / 64 == k)).flatMap (·.2)).filter hit = [] := by
    refine List.filter_eq_nil_iff.2 (fun c hc => ?_)
    obtain ⟨e, he, hce⟩ := List.mem_flatMap.1 hc
    simp [h e (List.mem_of_mem_filter he) c hce]
  have hkeep : ∀ e ∈ v.co.cache, (if e.1 / 64 = k then (e.1, e.2.filter (fun c => ! hit c)) else e) = e := by
    intro e he
    have hall : e.2.filter (fun c => ! hit c) = e.2 := List.filter_eq_self.2 (fun c hc => by simp [h e he c hc])
    rw [hall, ite_self]
  have hcache : (v.co.cache.map (fun e =>
      if e.1 / 64 = k then (e.1, e.2.filter (fun c => ! hit c)) else e)).filter (fun e => ! e.2.isEmpty) = v.co.cache := by
    rw [List.map_congr_left hkeep, List.map_id', List.filter_eq_self.2 (fun e he => by simp [hne e he])]
  rw [recalled, hlines, hcache]
  rfl

theorem foldl_recalled_of_none {hit : CLine → Bool} {v : State} (h : ∀ e ∈ v.co.cache, ∀ c ∈ e.2, hit c = false)
    (hne : ∀ e ∈ v.co.cache, e.2 ≠ []) (l : List Nat) : l.foldl (recalled hit) v = v := by
  induction l with
  | nil => rfl
  | cons k l ih => rw [List.foldl_cons, recalled_of_none h hne, ih]

/-! ### Commands -/

section
variable {x : Fin 32} {n : Fin 16} {set : Fin 8192} {s : State} (hf : s.dev.fabReset = false)
include hf

theorem exec_handoverWrite_of_paired (hs : pairState s = 2) (h0 : s.pair.takeoverStep = 0) {t : State}
    (ht : t = pairSend (setPairState (withPair s { s.pair with handoverStep := 1 }) 5) .handover) :
    exec .handoverWrite s =
      .next (settleUnits ((List.range 32).foldl (fun (u : State) (k : Nat) => wrBit u (R.DIR_CTRL k) 0 true) t)) := by
  subst ht
  exact congrArg Host.Outcome.next ((onFabric_of_running hf _).trans (if_neg (by simp [hs, h0])))

theorem exec_handover_of_paired (hs : pairState s = 2) :
    exec .handover s = .next (withPair s { s.pair with handoverStep := 1 }) :=
  congrArg Host.Outcome.next ((onFabric_of_running hf _).trans (if_pos hs))

theorem exec_handover_of_other (hs : pairState s ≠ 2) : exec .handover s = .next s :=
  congrArg Host.Outcome.next ((onFabric_of_running hf _).trans (if_neg hs))

theorem exec_joinWaitExpiry_of_looking (hs : pairState s = 0) (hl : s.pair.looking = true) (hc : s.pair.clash = false) :
    exec .joinWaitExpiry s = .next (enterAlone s) :=
  congrArg Host.Outcome.next ((onFabric_of_running hf _).trans (if_pos (by simp [hs, hl, hc])))

theorem exec_joinWaitExpiry_of_other (h : pairState s ≠ 0 ∨ s.pair.looking = false ∨ s.pair.clash = true) :
    exec .joinWaitExpiry s = .next s :=
  congrArg Host.Outcome.next ((onFabric_of_running hf _).trans (if_neg (by rcases h with h | h | h <;> simp [h])))

theorem exec_directorySliceRepair_of_barred (h : parentDown s (.slice x) = true) :
    exec (.directorySliceRepair x) s = .next s :=
  congrArg Host.Outcome.next ((onFabric_of_running hf _).trans (if_pos h))

theorem exec_directorySliceRepair_of_up (h : parentDown s (.slice x) = false) :
    exec (.directorySliceRepair x) s = .next (settleUnits (startHandOver s x false)) :=
  congrArg Host.Outcome.next ((onFabric_of_running hf _).trans (if_neg (by simp [h])))

theorem exec_homing_of_handOver : exec (.homing x true) s = .next (settleUnits (takeOverSlice s x)) :=
  congrArg Host.Outcome.next ((onFabric_of_running hf _).trans (if_pos rfl))

theorem exec_homing_of_acting (h : sliceActing s x = true) (hn : ∀ g ∈ s.pair.homing, g.slice ≠ x) :
    exec (.homing x false) s = .next (settleUnits (startReturn s x)) := by
  have hany : s.pair.homing.any (fun h => h.slice == x) = false := List.any_eq_false.2 (fun g hg => by simp [hn g hg])
  exact congrArg Host.Outcome.next ((onFabric_of_running hf _).trans ((if_neg (by decide)).trans (if_pos (by simp [h, hany]))))

theorem exec_homing_of_other (h : sliceActing s x = false) : exec (.homing x false) s = .next s :=
  congrArg Host.Outcome.next ((onFabric_of_running hf _).trans ((if_neg (by decide)).trans (if_neg (by simp [h]))))

theorem exec_homingDone_of_handed (h : 2 ≤ sGet s.pair.repair x 0) :
    exec (.homingDone x true) s = .next (settleUnits (handedOver s x)) :=
  congrArg Host.Outcome.next ((onFabric_of_running hf _).trans ((if_pos rfl).trans (if_pos h)))

theorem exec_homingDone_of_early (h : sGet s.pair.repair x 0 < 2) : exec (.homingDone x true) s = .next s :=
  congrArg Host.Outcome.next ((onFabric_of_running hf _).trans ((if_pos rfl).trans (if_neg (by omega))))

/-- The end of a homing return: the joining twin validates first (R491, R492). -/
theorem exec_homingDone_of_return : exec (.homingDone x false) s = .next
    (if ! slicedAway s x then s else if joinInvalid s then standDown (raiseEv s 13) else settleUnits (takenBack s x)) :=
  congrArg Host.Outcome.next ((onFabric_of_running hf _).trans (if_neg (by decide)))

theorem exec_syncDone_of_new (hs : pairState s = 1 ∨ s.pair.rejoinSource = true) (hn : x ∉ s.pair.syncGot) :
    exec (.syncDone x) s =
      .next (settleUnits (checkSynced (withPair s { s.pair with syncGot := s.pair.syncGot ++ [x] }))) :=
  congrArg Host.Outcome.next ((onFabric_of_running hf _).trans (if_pos (by rcases hs with hs | hs <;> simp [hs, hn])))

theorem exec_syncDone_of_other (hs : pairState s ≠ 1) (hr : s.pair.rejoinSource = false) : exec (.syncDone x) s = .next s :=
  congrArg Host.Outcome.next ((onFabric_of_running hf _).trans (if_neg (by simp [hs, hr])))

theorem exec_setrecall_of_arrives {u : State} {hit : CLine → Bool} (ha : Arrives s (.setrecall n x set) u)
    (hh : hit = (fun (c : CLine) => lineSlice c.line == x.val && lineSet c.line == set.val)) :
    exec (.setrecall n x set) s = .next (settleUnits ((coachesOf n).foldl (recalled hit) u)) := by
  subst hh
  show execSetrecall n x set s = _
  rw [execSetrecall, onFabric_of_running hf, receive_of_arrives ha]
  rfl

end

/-- Settles O57: the pair state, the step of the repair and who acts for the slice choose what each command does; a recall takes
from each coach the lines of its set and no others. -/
theorem handoverAndHoming : Obligations.HandoverAndHoming := by
  intro x n set s hf
  have hback := exec_homingDone_of_return hf (x := x)
  refine ⟨fun hs h0 t ht => exec_handoverWrite_of_paired hf hs h0 ht, fun hs => ?noted, exec_handover_of_other hf,
    fun hs hq => ?drained, fun h => ?busy, exec_joinWaitExpiry_of_looking hf, exec_joinWaitExpiry_of_other hf,
    exec_directorySliceRepair_of_barred hf, exec_directorySliceRepair_of_up hf, fun hp ha h0 => ?repair,
    exec_homing_of_handOver hf, exec_homing_of_acting hf, exec_homing_of_other hf, exec_homingDone_of_handed hf,
    exec_homingDone_of_early hf, fun ha => ?kept, fun ha => ⟨fun hj => ?invalid, fun hj => ?back⟩, exec_syncDone_of_new hf,
    exec_syncDone_of_other hf, fun u hit ha hh => ?recalls⟩
  case noted => exact ⟨_, exec_handover_of_paired hf hs, rfl, (steady_pair (p := keep [.pair]) s _ rfl).frame⟩
  case drained =>
    exact congrArg Host.Outcome.next ((onFabric_of_running hf _).trans (if_pos (by simp [hs, hq])))
  case busy =>
    exact congrArg Host.Outcome.next ((onFabric_of_running hf _).trans (if_neg (by rcases h with h | h <;> simp [h])))
  case repair =>
    rw [startHandOver_of_free hp ha h0]
    exact ⟨repairBegun_step s x, repairBegun_drain s x⟩
  case kept => exact hback.trans (congrArg _ (if_pos (by simp [ha])))
  case invalid => exact hback.trans (congrArg _ ((if_neg (by simp [ha])).trans (if_pos hj)))
  case back => exact hback.trans (congrArg _ ((if_neg (by simp [ha])).trans (if_neg (by simp [hj]))))
  case recalls =>
    have hrun := exec_setrecall_of_arrives hf ha hh
    refine ⟨hrun, fun hnone hne => ?_⟩
    rw [hrun, foldl_recalled_of_none hnone hne]

end Sys2Proof.Proofs
end

section
/-! SUPPORT. Events, the trouble journal, snapshots and performance counters, of 18_events_and_counters. -/

namespace Sys2Proof.Proofs

open Sys2Proof.Machine Sys2Proof.Laws

/-! ### Events -/

theorem rdBit_of_bitAt {s : State} {o i : Nat} (h : bitAt (getReg s o) i = true) : rdBit s o i = true := by
  unfold bitAt at h
  rw [rdBit, rdWord, bitAt, BitVec.getLsbD_or, h, Bool.or_true]

theorem raiseEv_of_pending {s : State} {e : Nat} (h : evPending s e = true) : raiseEv s e = s := if_pos h

theorem raiseEv_of_new {s : State} {e : Nat} (h : evPending s e = false) :
    raiseEv s e = deliverTwin (deliverHost (deliverKeeper (wrBit s (R.EVT_PEND (e / 32)) (e % 32) true) e) e) e :=
  if_neg (by simp [h])

theorem evPending_raiseEv (s : State) (e : Nat) : evPending (raiseEv s e) e = true := by
  by_cases h : evPending s e = true
  · rwa [raiseEv_of_pending h]
  · have hj : e % 32 < 32 := Nat.mod_lt e (by decide)
    have hset : bitAt (getReg (wrBit s (R.EVT_PEND (e / 32)) (e % 32) true) (R.EVT_PEND (e / 32))) (e % 32) = true := by
      rw [getReg_wrBit_same, bitAt_putFld_same _ _ _ hj]
    rw [raiseEv_of_new (by simpa using h)]
    exact rdBit_of_bitAt ((deliver_keeps (outlasts_pend (e / 32) hj) _ e).keep hset)

/-- The partner's event is shown and the keeper interrupted, with vector 16 (R543). -/
def partnerEvent (s : State) (e : Nat) : State :=
  mgmtVector (emit (wrBit (wrBit s (R.EVT_TWIN_PEND (e / 32)) (e % 32) true) R.EVT_SUMMARY 16 true) (.keeperIrq e)) 16

theorem exec_evtfwd_of_seen {s : State} {e : Fin 512} {pid : Bool}
    (h : pid = s.dev.pid ∨ rdBit s (R.EVT_TWIN_PEND (e.val / 32)) (e.val % 32) = true) : exec (.evtfwd e pid) s = .next s :=
  congrArg Host.Outcome.next (if_pos (by simpa using h))

theorem exec_evtfwd_of_new {s : State} {e : Fin 512} {pid : Bool} (hp : pid ≠ s.dev.pid)
    (h : rdBit s (R.EVT_TWIN_PEND (e.val / 32)) (e.val % 32) = false) :
    exec (.evtfwd e pid) s = .next (partnerEvent s e) :=
  congrArg Host.Outcome.next (if_neg (by simp [hp, h]))

theorem partnerEvent_getReg (s : State) (e o : Nat) : getReg (partnerEvent s e) o =
    getReg (wrBit (wrBit s (R.EVT_TWIN_PEND (e / 32)) (e % 32) true) R.EVT_SUMMARY 16 true) o := rfl

theorem twinPend_ne_summary (w : Nat) : R.EVT_TWIN_PEND w ≠ R.EVT_SUMMARY := by
  unfold R.EVT_TWIN_PEND R.EVT_SUMMARY; omega

theorem pend_ne_summary (w : Nat) : R.EVT_PEND w ≠ R.EVT_SUMMARY := by unfold R.EVT_PEND R.EVT_SUMMARY; omega

theorem partnerEvent_shown (s : State) (e : Nat) :
    bitAt (getReg (partnerEvent s e) (R.EVT_TWIN_PEND (e / 32))) (e % 32) = true ∧
      bitAt (getReg (partnerEvent s e) R.EVT_SUMMARY) 16 = true := by
  constructor
  · rw [partnerEvent_getReg, getReg_wrBit_other _ (twinPend_ne_summary _), getReg_wrBit_same,
      bitAt_putFld_same _ _ _ (Nat.mod_lt e (by decide))]
  · rw [partnerEvent_getReg, getReg_wrBit_same, bitAt_putFld_same _ _ _ (by decide)]

theorem partnerEvent_sent (s : State) (e : Nat) : Sent s (partnerEvent s e) (.keeperIrq e) :=
  ⟨[_, _], List.append_assoc s.out [_] [_], List.mem_cons_self⟩

theorem partnerEvent_regsBut (s : State) (e : Nat) :
    RegsBut [R.EVT_TWIN_PEND (e / 32), R.EVT_SUMMARY] s (partnerEvent s e) := by
  have h := regsBut_wrBit (regsBut_wrBit (regsBut_refl [R.EVT_TWIN_PEND (e / 32), R.EVT_SUMMARY] s)
    (o := R.EVT_TWIN_PEND (e / 32)) (by simp) (e % 32) true) (o := R.EVT_SUMMARY) (by simp) 16 true
  exact fun o ho => (partnerEvent_getReg s e o).trans (h o ho)

theorem partnerEvent_frame (s : State) (e : Nat) : Frame [.regs, .settings, .out] s (partnerEvent s e) :=
  (mgmtVector_st (Laws.emit_st (p := keep [.regs, .settings, .out])
    (wrBit_st (wrBit_st (.refl _ s) rfl rfl) rfl rfl) rfl) rfl).frame

/-- The pending bits of word `w` that `v` names are clear; the word's bit of EVT_SUMMARY follows (R539, R542). -/
theorem exec_evtPendClear (w : Fin 16) (v : Word) (s : State) : Gives (.evtPendClear w v) s (fun t =>
    getReg t (R.EVT_PEND w) = getReg s (R.EVT_PEND w) &&& ~~~ v ∧ RegsBut [R.EVT_PEND w, R.EVT_SUMMARY] s t ∧
      Frame [.regs] s t) := by
  refine ⟨_, rfl, ?_⟩
  have hbut : RegsBut [R.EVT_PEND w, R.EVT_SUMMARY] s (setReg s (R.EVT_PEND w) (getReg s (R.EVT_PEND w) &&& ~~~ v)) :=
    regsBut_setReg (regsBut_refl _ s) (by simp) _
  have hst : Steady (keep [.regs]) s (setReg s (R.EVT_PEND w) (getReg s (R.EVT_PEND w) &&& ~~~ v)) :=
    setReg_bg (.refl _ s) (.evtPend w) rfl
  unfold settleSummary
  split
  · exact ⟨getReg_setReg_same .., hbut, hst.frame⟩
  · exact ⟨(getReg_wrBit_other _ (pend_ne_summary w) _ _).trans (getReg_setReg_same ..),
      regsBut_wrBit hbut (by simp) _ _, (wrBit_bg hst .evtSummary rfl).frame⟩

/-! ### The trouble journal -/

/-- A page of the trouble journal is on its way to the store (R546). -/
def pageStarted (s : State) : State :=
  wrBit (wrBit { s with dev := { s.dev with jseq := s.dev.jseq + 1, jpage := some (journalPage s (s.dev.jseq + 1).toNat) } }
    R.EVT_PERSIST_STATUS 30 false) R.RST_SUP_STATUS 27 true

/-- No page of the trouble journal is on its way any more. -/
def pageOver (s : State) : State := wrBit { s with dev := { s.dev with jpage := none } } R.RST_SUP_STATUS 27 false

/-- The place of the page under way in the ring of the journal. -/
def pagePlace (s : State) : Nat := journalBase + s.dev.jseq.toNat % 8192 * 0x1000

/-- The page stands, and EVT_PERSIST_STATUS shows its number (R547). -/
def pageStands (s : State) (page : List Byte) : State :=
  wr (storeWrite (pageOver s) (pagePlace s) page) R.EVT_PERSIST_STATUS 15 0 (s.dev.jseq.toNat % 2 ^ 16)

theorem exec_troubleJournalPeriod_of_off {s : State}
    (h : rdBit s R.EVT_PERSIST_CFG 31 = false ∨ s.dev.keeperRun = false ∨ s.dev.jpage ≠ none) :
    exec .troubleJournalPeriod s = .next s := by
  refine congrArg Host.Outcome.next ?_
  split
  next hc =>
    obtain ⟨hen, hk⟩ := Bool.and_eq_true_iff.1 hc
    have hpage : s.dev.jpage ≠ none := (h.resolve_left (by simp [hen])).resolve_left (by simp [hk])
    exact if_pos (Option.isSome_iff_ne_none.2 hpage)
  next => rfl

theorem exec_troubleJournalPeriod_of_on {s : State} (hen : rdBit s R.EVT_PERSIST_CFG 31 = true)
    (hk : s.dev.keeperRun = true) : exec .troubleJournalPeriod s = .next (journalStart s) :=
  congrArg Host.Outcome.next (if_pos (by simp [hen, hk]))

theorem journalStart_of_trouble {s : State} (hj : s.dev.jpage = none) (h : supplyTrouble s = true) :
    journalStart s = nvDeferred (wrBit s R.EVT_PERSIST_STATUS 30 true) :=
  (if_neg (by simp [hj])).trans (if_pos h)

theorem journalStart_of_supply {s : State} (hj : s.dev.jpage = none) (h : supplyTrouble s = false) :
    journalStart s = pageStarted s :=
  (if_neg (by simp [hj])).trans (if_neg (by simp [h]))

theorem pageStarted_shown (s : State) : bitAt (getReg (pageStarted s) R.EVT_PERSIST_STATUS) 30 = false ∧
    bitAt (getReg (pageStarted s) R.RST_SUP_STATUS) 27 = true := by
  constructor
  · rw [pageStarted, getReg_wrBit_other _ (by decide), getReg_wrBit_same, bitAt_putFld_same _ _ _ (by decide)]
  · rw [pageStarted, getReg_wrBit_same, bitAt_putFld_same _ _ _ (by decide)]

theorem pageStarted_dev (s : State) : (pageStarted s).dev =
    { s.dev with jseq := s.dev.jseq + 1, jpage := some (journalPage s (s.dev.jseq + 1).toNat) } := by
  rw [pageStarted, wrBit_dev, wrBit_dev]

theorem pageStarted_regsBut (s : State) : RegsBut [R.EVT_PERSIST_STATUS, R.RST_SUP_STATUS] s (pageStarted s) := by
  intro o ho
  simp only [List.mem_cons, List.not_mem_nil, or_false, not_or] at ho
  rw [pageStarted, getReg_wrBit_other _ ho.2, getReg_wrBit_other _ ho.1]
  rfl

theorem pageStarted_frame (s : State) : Frame [.regs, .settings, .dev] s (pageStarted s) :=
  (wrBit_st (wrBit_st (devOnly_st (q := keep [.regs, .settings, .dev]) (.refl _ s) rfl) rfl rfl) rfl rfl).frame

theorem exec_troubleJournalWriteDone_of_none {s : State} (h : s.dev.jpage = none) (ok : Bool) :
    exec (.troubleJournalWriteDone ok) s = .next s := by
  show execTroubleJournalWriteDone ok s = _
  rw [execTroubleJournalWriteDone, h]

theorem exec_troubleJournalWriteDone_of_page {s : State} {page : List Byte} (h : s.dev.jpage = some page) :
    exec (.troubleJournalWriteDone true) s = .next (pageStands s page) := by
  show execTroubleJournalWriteDone true s = _
  rw [execTroubleJournalWriteDone, h]
  rfl

theorem exec_troubleJournalWriteDone_of_failed {s : State} {page : List Byte} (h : s.dev.jpage = some page) :
    exec (.troubleJournalWriteDone false) s =
      .next (raiseEv (wrBit (storeGarble (pageOver s) (pagePlace s) 4096) R.EVT_PERSIST_STATUS 29 true) 67) := by
  show execTroubleJournalWriteDone false s = _
  rw [execTroubleJournalWriteDone, h]
  rfl

theorem pageStands_getReg_status (s : State) (page : List Byte) :
    fld (getReg (pageStands s page) R.EVT_PERSIST_STATUS) 15 0 = s.dev.jseq.toNat % 65536 := by
  rw [pageStands, getReg_wr_same, fld_putFld _ _ _ _ (by decide) (by decide)]
  exact Nat.mod_mod _ _

theorem pageStands_getReg (s : State) (page : List Byte) {o : Nat} (ho : o ≠ R.EVT_PERSIST_STATUS) :
    getReg (pageStands s page) o = getReg (pageOver s) o := by
  rw [pageStands, getReg_wr_other _ ho, getReg_storeWrite]

theorem pageStands_idle (s : State) (page : List Byte) : bitAt (getReg (pageStands s page) R.RST_SUP_STATUS) 27 = false := by
  rw [pageStands_getReg s page (by decide), pageOver, getReg_wrBit_same, bitAt_putFld_same _ _ _ (by decide)]

theorem pageStands_dev (s : State) (page : List Byte) : (pageStands s page).dev = { s.dev with jpage := none } := by
  rw [pageStands, wr_dev, storeWrite_dev, pageOver, wrBit_dev]

theorem pageStands_store (s : State) (page : List Byte) :
    (pageStands s page).store = (storeWrite s (pagePlace s) page).store := by
  rw [pageStands, wr_store]
  exact storeWrite_store_congr (by rw [pageOver, wrBit_store]) _ _

theorem pageStands_regsBut (s : State) (page : List Byte) :
    RegsBut [R.EVT_PERSIST_STATUS, R.RST_SUP_STATUS] s (pageStands s page) := by
  intro o ho
  simp only [List.mem_cons, List.not_mem_nil, or_false, not_or] at ho
  rw [pageStands_getReg s page ho.1, pageOver, getReg_wrBit_other _ ho.2]
  rfl

theorem pageStands_frame (s : State) (page : List Byte) :
    Frame [.regs, .settings, .dev, .store] s (pageStands s page) :=
  (wr_st (storeWrite_st (wrBit_st (devOnly_st (q := keep [.regs, .settings, .dev, .store]) (.refl _ s) rfl) rfl rfl) rfl)
    rfl rfl).frame

/-! ### Snapshots -/

/-- PERF_SNAP_CTRL after a write of `v`. -/
def snapSet (s : State) (v : Word) : State :=
  setReg s R.PERF_SNAP_CTRL (writeBits R.PERF_SNAP_CTRL (getReg s R.PERF_SNAP_CTRL) v)

/-- The ring starts anew (R557). -/
def ringAnew (t : State) : State := withSnap (setReg t R.PERF_SNAP_WRITE 0) { t.snap with seq := 1, lost := false }

theorem exec_perfSnapEnable_of_on {s : State} {v : Word} (hv : bitAt v 31 = true) (h : rdBit s R.PERF_SNAP_CTRL 31 = false) :
    exec (.perfSnapEnable v) s = .next (ringAnew (snapSet s v)) :=
  congrArg Host.Outcome.next (if_pos (by simp [hv, h]))

theorem exec_perfSnapEnable_of_same {s : State} {v : Word} (h : bitAt v 31 = false ∨ rdBit s R.PERF_SNAP_CTRL 31 = true) :
    exec (.perfSnapEnable v) s = .next (snapSet s v) :=
  congrArg Host.Outcome.next (if_neg (by simpa [← Bool.not_eq_true, imp_iff_not_or] using h))

theorem ringAnew_getReg (t : State) (o : Nat) : getReg (ringAnew t) o = getReg (setReg t R.PERF_SNAP_WRITE 0) o := rfl

theorem ringAnew_ctrl (s : State) (v : Word) : getReg (ringAnew (snapSet s v)) R.PERF_SNAP_CTRL =
    writeBits R.PERF_SNAP_CTRL (getReg s R.PERF_SNAP_CTRL) v := by
  rw [ringAnew_getReg, getReg_setReg_other _ (by decide), snapSet, getReg_setReg_same]

theorem ringAnew_write (t : State) : getReg (ringAnew t) R.PERF_SNAP_WRITE = 0 := by
  rw [ringAnew_getReg, getReg_setReg_same]

theorem ringAnew_regsBut (s : State) (v : Word) :
    RegsBut [R.PERF_SNAP_CTRL, R.PERF_SNAP_WRITE] s (ringAnew (snapSet s v)) := by
  intro o ho
  simp only [List.mem_cons, List.not_mem_nil, or_false, not_or] at ho
  rw [ringAnew_getReg, getReg_setReg_other _ ho.2, snapSet, getReg_setReg_other _ ho.1]

theorem ringAnew_frame (s : State) (v : Word) : Frame [.regs, .settings, .snap] s (ringAnew (snapSet s v)) :=
  (withSnap_st (setReg_st (p := keep [.regs, .settings, .snap]) (setReg_st (.refl _ s) rfl rfl) rfl rfl) rfl).frame

theorem snapSet_frame (s : State) (v : Word) : Frame [.regs, .settings] s (snapSet s v) :=
  (setReg_st (p := keep [.regs, .settings]) (.refl _ s) rfl rfl).frame

/-- A count leaves the record of the snapshot engine. -/
theorem count_record (s : State) (o lo : Nat) (rule : CntRule) (e : Nat) :
    (count s o lo rule e).snap.record = s.snap.record := by
  unfold count
  dsimp only
  split
  · exact raiseEv_record ..
  · rfl

theorem loseCapture_record (s : State) (lo : Nat) : (loseCapture s lo).snap.record = s.snap.record := count_record ..

theorem loseCapture_frame (s : State) (lo : Nat) : Frame (.settings :: eventParts) s (loseCapture s lo) :=
  (withSnap_st (count_steady s R.PERF_SNAP_CNT lo .once 20) rfl).frame

theorem loseCapture_counted (s : State) {lo : Nat} (h : lo ≤ 16) :
    fld (getReg (loseCapture s lo) R.PERF_SNAP_CNT) (lo + 15) lo = satUp (rd s R.PERF_SNAP_CNT (lo + 15) lo) :=
  fld_count s lo .once 20 (fun hb => by have := background_range hb; unfold R.PERF_SNAP_CNT at this; omega) h

/-- The record is complete: its header line is written, and the next slot follows (R556). -/
def recordWritten (s : State) (r : List Byte) : State :=
  setReg (withSnap (writeLine s r 0) { (writeLine s r 0).snap with record := none, seq := (writeLine s r 0).snap.seq + 1 })
    R.PERF_SNAP_WRITE (BitVec.ofNat 32 (nextSlot s (ringWrite s)))

section
variable {s : State} (hf : s.dev.fabReset = false)
include hf

theorem exec_snapshotCapture_of_off (h : rdBit s R.PERF_SNAP_CTRL 31 = false) : exec .snapshotCapture s = .next s :=
  congrArg Host.Outcome.next ((onFabric_of_running hf _).trans (if_pos (by simp [h])))

theorem exec_snapshotCapture_of_busy (h : rdBit s R.PERF_SNAP_CTRL 31 = true) (hr : s.snap.record.isSome = true) :
    exec .snapshotCapture s = .next (loseCapture s 0) :=
  congrArg Host.Outcome.next ((onFabric_of_running hf _).trans ((if_neg (by simp [h])).trans (if_pos hr)))

theorem exec_snapshotCapture_of_full (h : rdBit s R.PERF_SNAP_CTRL 31 = true) (hr : s.snap.record = none)
    (hp : ringPlaced s = false ∨ (rdBit s R.PERF_SNAP_CTRL 30 = false ∧ nextSlot s (ringWrite s) = rd s R.PERF_SNAP_READ 17 0)) :
    exec .snapshotCapture s = .next (loseCapture s 16) :=
  congrArg Host.Outcome.next ((onFabric_of_running hf _).trans ((if_neg (by simp [h])).trans
    ((if_neg (by simp [hr])).trans (if_pos (by simpa using hp)))))

theorem exec_snapshotCapture_of_placed (h : rdBit s R.PERF_SNAP_CTRL 31 = true) (hr : s.snap.record = none)
    (hp : ringPlaced s = true) (hw : rdBit s R.PERF_SNAP_CTRL 30 = true) :
    exec .snapshotCapture s = .next (((List.range 40).map (· + 1)).foldl
      (fun (t : State) (i : Nat) => writeLine t (snapRecord s) i)
      (withSnap s { s.snap with record := some (snapRecord s), lost := false })) :=
  congrArg Host.Outcome.next ((onFabric_of_running hf _).trans ((if_neg (by simp [h])).trans
    ((if_neg (by simp [hr])).trans (if_neg (by simp [hp, hw])))))

theorem exec_snapshotRecordDone_of_none (h : s.snap.record = none) : exec .snapshotRecordDone s = .next s := by
  show execSnapshotRecordDone s = _
  rw [execSnapshotRecordDone, onFabric_of_running hf, h]

theorem exec_snapshotRecordDone_of_out {r : List Byte} (h : s.snap.record = some r) (hb : bodyOut s = true) :
    exec .snapshotRecordDone s = .next s := by
  show execSnapshotRecordDone s = _
  rw [execSnapshotRecordDone, onFabric_of_running hf, h]
  exact congrArg Host.Outcome.next (if_pos hb)

theorem exec_snapshotRecordDone_of_done {r : List Byte} (h : s.snap.record = some r) (hb : bodyOut s = false) :
    exec .snapshotRecordDone s = .next (if nextSlot s (nextSlot s (ringWrite s)) = rd s R.PERF_SNAP_READ 17 0 then
      raiseEv (recordWritten s r) 20 else recordWritten s r) := by
  show execSnapshotRecordDone s = _
  rw [execSnapshotRecordDone, onFabric_of_running hf, h]
  exact congrArg Host.Outcome.next (if_neg (by simp [hb]))

end

/-! ### Performance counters -/

theorem perfAnnounce_of_none {s : State} (h : s.snap.due = []) : perfAnnounce s = s := by
  have hsame : { s with snap := { s.snap with due := [] } } = s := by rw [← h]
  rw [perfAnnounce, h]
  exact hsame

/-- One counter's event is due: it is raised. -/
theorem perfAnnounce_of_one {s : State} (h : s.snap.due = []) (k : Nat) :
    perfAnnounce { s with snap := { s.snap with due := [k] } } = raiseEv s (perfEv k) := by
  show raiseEv { s with snap := { s.snap with due := [] } } (perfEv k) = _
  rw [← h]

theorem perfWrap_of_last {t : State} {k : Nat} (h : rdBit t (perfBase k) 30 = false ∨ perfLast k = true)
    (hd : t.snap.due = []) (fuel : Nat) : perfWrap t k (fuel + 1) =
      { wrBit t (perfBase k + 0x14) 0 true with snap := { (wrBit t (perfBase k + 0x14) 0 true).snap with due := [k] } } := by
  have hdue : (wrBit t (perfBase k + 0x14) 0 true).snap.due = [] := hd
  rw [perfWrap, if_neg (by simpa [← Bool.not_eq_true, imp_iff_not_or] using h)]
  dsimp only
  rw [hdue]
  rfl

theorem perfWrap_of_next_off {t : State} {k : Nat} (h : rdBit t (perfBase k) 30 = true) (hl : perfLast k = false)
    (hn : rdBit t (perfBase (k + 1)) 31 = false) (fuel : Nat) : perfWrap t k (fuel + 1) = t := by
  rw [perfWrap, if_pos (by simp [h, hl])]
  exact if_pos (by simp [hn])

theorem overflow_of_last {t : State} {k : Nat} (h : rdBit t (perfBase k) 30 = false ∨ perfLast k = true)
    (hd : t.snap.due = []) : perfAnnounce (perfWrap t k 64) = raiseEv (wrBit t (perfBase k + 0x14) 0 true) (perfEv k) := by
  rw [perfWrap_of_last h hd]
  exact perfAnnounce_of_one (by rw [wrBit_snap, hd]) k

theorem overflow_of_next_off {t : State} {k : Nat} (h : rdBit t (perfBase k) 30 = true) (hl : perfLast k = false)
    (hn : rdBit t (perfBase (k + 1)) 31 = false) (hd : t.snap.due = []) : perfAnnounce (perfWrap t k 64) = t := by
  rw [perfWrap_of_next_off h hl hn, perfAnnounce_of_none hd]

section
variable {s : State} (hf : s.dev.fabReset = false) {k : Fin 320}
include hf

theorem exec_perfCounterOverflow_of_off (hd : k.val ∉ s.snap.due) (h : rdBit s (perfBase k) 31 = false) :
    exec (.perfCounterOverflow k) s = .next s :=
  congrArg Host.Outcome.next ((onFabric_of_running hf _).trans ((if_neg (by simpa using hd)).trans (if_neg (by simp [h]))))

theorem exec_perfCounterOverflow_of_due (hd : k.val ∈ s.snap.due) :
    exec (.perfCounterOverflow k) s = .next (s.snap.due.foldl (fun u n => raiseEv u (perfEv n))
      { s with snap := { s.snap with due := [] } }) :=
  congrArg Host.Outcome.next ((onFabric_of_running hf _).trans (if_pos (by simpa using hd)))

theorem exec_perfCounterOverflow_of_on (hd : s.snap.due = []) (h : rdBit s (perfBase k) 31 = true) :
    exec (.perfCounterOverflow k) s = .next (perfAnnounce (perfWrap (wr64 s (perfBase k + 8) 0) k 64)) :=
  congrArg Host.Outcome.next ((onFabric_of_running hf _).trans ((if_neg (by simp [hd])).trans (if_pos h)))

end

/-- Settles O58: the journal, the snapshot ring and the counters by their cases; a pending bit outlasts the delivery of its
event. -/
theorem eventsAndSnapshots : Obligations.EventsAndSnapshots := by
  intro e pid w k v s
  refine ⟨raiseEv_of_pending, evPending_raiseEv s e, raiseEv_of_new, exec_evtfwd_of_seen, ?forwarded, exec_evtPendClear w v s,
    exec_troubleJournalPeriod_of_off, ?period, exec_troubleJournalWriteDone_of_none, ?stands, ?failed, ?anew, ?same,
    fun hf => ⟨exec_snapshotCapture_of_off hf, ?missed, ?dropped, exec_snapshotCapture_of_placed hf,
      exec_snapshotRecordDone_of_none hf, fun _ => exec_snapshotRecordDone_of_out hf, ?done,
      exec_perfCounterOverflow_of_off hf, exec_perfCounterOverflow_of_due hf, ?overflow⟩⟩
  case forwarded =>
    intro hp h
    obtain ⟨htwin, hsummary⟩ := partnerEvent_shown s e
    exact ⟨_, exec_evtfwd_of_new hp h, htwin, hsummary, partnerEvent_sent s e, partnerEvent_regsBut s e, partnerEvent_frame s e⟩
  case period =>
    intro hen hk hj
    have hrun := exec_troubleJournalPeriod_of_on hen hk
    obtain ⟨hdefer, hbusy⟩ := pageStarted_shown s
    exact ⟨fun h => hrun.trans (congrArg _ (journalStart_of_trouble hj h)), fun h =>
      ⟨_, hrun.trans (congrArg _ (journalStart_of_supply hj h)), pageStarted_dev s, hdefer, hbusy, pageStarted_regsBut s,
        pageStarted_frame s⟩⟩
  case stands =>
    exact fun page h => ⟨_, exec_troubleJournalWriteDone_of_page h, pageStands_getReg_status s page, pageStands_idle s page,
      pageStands_dev s page, pageStands_store s page, pageStands_regsBut s page, pageStands_frame s page⟩
  case failed =>
    rintro page t h rfl
    exact exec_troubleJournalWriteDone_of_failed h
  case anew =>
    exact fun hv h => ⟨_, exec_perfSnapEnable_of_on hv h, ringAnew_write _, ringAnew_ctrl s v, rfl, ringAnew_regsBut s v,
      ringAnew_frame s v⟩
  case same =>
    exact fun h => ⟨_, exec_perfSnapEnable_of_same h, getReg_setReg_same .., regsBut_setReg (regsBut_refl _ s) (by simp) _,
      snapSet_frame s v⟩
  case missed =>
    exact fun h hr => ⟨_, exec_snapshotCapture_of_busy hf h hr, rfl, loseCapture_record s 0, loseCapture_frame s 0,
      loseCapture_counted s (Nat.zero_le _)⟩
  case dropped =>
    exact fun h hr hp => ⟨_, exec_snapshotCapture_of_full hf h hr hp, rfl, (loseCapture_record s 16).trans hr,
      loseCapture_frame s 16, loseCapture_counted s (Nat.le_refl _)⟩
  case done =>
    rintro r t u n h hb rfl rfl rfl
    have hrun := exec_snapshotRecordDone_of_done hf h hb
    exact ⟨fun hn => hrun.trans (congrArg _ (if_neg hn)), fun hn => hrun.trans (congrArg _ (if_pos hn))⟩
  case overflow =>
    rintro t hen hd ht
    have hrun := exec_perfCounterOverflow_of_on hf hd hen
    have hdue : t.snap.due = [] := by rw [ht, wr64_snap, hd]
    rw [← ht] at hrun
    exact ⟨fun h => hrun.trans (congrArg _ (overflow_of_last h hdue)),
      fun h hl hn => hrun.trans (congrArg _ (overflow_of_next_off h hl hn hdue))⟩

end Sys2Proof.Proofs
end

section
/-! SUPPORT. The reset sources and what they reset, of 17_reset_and_bringup. -/

namespace Sys2Proof.Proofs

open Sys2Proof.Machine Sys2Proof.Laws

theorem factoryDefault_le_effLevel (s : State) (src : Nat) : factoryDefault src ≤ effLevel s src := Nat.le_max_left ..

theorem raiseSource_of_package {s : State} {src : Nat} (h : effLevel s src = 4) (unit : Nat) :
    raiseSource s src unit = packageReset s src unit := if_pos h

theorem raiseSource_of_chip {s : State} {src : Nat} (h : effLevel s src ≠ 4) (unit : Nat) :
    raiseSource s src unit = chipReset s src unit := if_neg h

/-! ### Reset pins and software resets -/

theorem filterPasses_iff (ns : Nat) (h : Bool) : filterPasses ns h = true ↔ 10000 ≤ ns ∨ (2000 ≤ ns ∧ h = true) := by
  simp [filterPasses]

theorem filterPasses_of_glitch {ns : Nat} {h : Bool} (hg : ns < 2000 ∨ (ns < 10000 ∧ h = false)) : filterPasses ns h = false := by
  rw [← Bool.not_eq_true, filterPasses_iff]
  rintro (hlong | ⟨hns, hh⟩)
  · omega
  · rcases hg with hshort | ⟨-, hno⟩
    · omega
    · exact Bool.false_ne_true (hno.symm.trans hh)

/-- A glitch of a pin is counted (R527). -/
theorem glitch_counted (s : State) {lo : Nat} (h : lo ≤ 16) :
    fld (getReg (count s R.RST_GLITCH_CNT lo .once 4) R.RST_GLITCH_CNT) (lo + 15) lo = satUp (rd s R.RST_GLITCH_CNT (lo + 15) lo) ∧
      Frame (.settings :: eventParts) s (count s R.RST_GLITCH_CNT lo .once 4) :=
  ⟨fld_count s lo .once 4 (not_background_of_lt (by decide)) h, (count_steady ..).frame⟩

section
variable {s : State} (hp : s.dev.pkgReset = false) {ns : Nat} {h : Bool}
include hp

theorem exec_resetPin_of_running : exec (.resetPin ns h) s =
    .next (if filterPasses ns h = true then raiseSource s 1 0 else count s R.RST_GLITCH_CNT 0 .once 4) :=
  congrArg Host.Outcome.next (if_neg (by simp [hp]))

theorem exec_twinRstIn_of_running : exec (.twinRstIn ns h) s =
    .next (if filterPasses ns h = true then raiseSource s 8 0 else count s R.RST_GLITCH_CNT 16 .once 4) :=
  congrArg Host.Outcome.next (if_neg (by simp [hp]))

theorem exec_pins_of_pulse (hf : filterPasses ns h = true) : exec (.resetPin ns h) s = .next (raiseSource s 1 0) ∧
    exec (.twinRstIn ns h) s = .next (raiseSource s 8 0) :=
  ⟨(exec_resetPin_of_running hp).trans (congrArg _ (if_pos hf)), (exec_twinRstIn_of_running hp).trans (congrArg _ (if_pos hf))⟩

theorem exec_pins_of_glitch (hf : filterPasses ns h = false) :
    exec (.resetPin ns h) s = .next (count s R.RST_GLITCH_CNT 0 .once 4) ∧
      exec (.twinRstIn ns h) s = .next (count s R.RST_GLITCH_CNT 16 .once 4) :=
  ⟨(exec_resetPin_of_running hp).trans (congrArg _ (if_neg (by simp [hf]))),
    (exec_twinRstIn_of_running hp).trans (congrArg _ (if_neg (by simp [hf])))⟩

variable {lvl : BitVec 3} {target : BitVec 7}

theorem exec_rstSw_of_running : exec (.rstSw lvl target) s = .next (softReset s lvl target.toNat) :=
  congrArg Host.Outcome.next (if_neg (by simp [hp]))

theorem exec_rstSw_of_no_unit (h : swTarget lvl.toNat target.toNat = none) : exec (.rstSw lvl target) s = .next s := by
  rw [exec_rstSw_of_running hp, softReset, h]

end

theorem softReset_of_unit {s : State} {lvl : BitVec 3} {target : Nat} {u : RUnit} (h : swTarget lvl.toNat target = some u) :
    softReset s lvl target =
      if effLevel s (3 + lvl.toNat) < 3 then raiseUnit s (3 + lvl.toNat) u 0
      else if (! s.dev.fabReset && pairState s == 2 && s.pair.takeoverStep == 0) = true then
        startHandover { s with dev := { s.dev with swDeferred := some lvl } }
      else raiseSource s (3 + lvl.toNat) 0 := by
  rw [softReset, h]

theorem exec_pins_of_held {s : State} (h : s.dev.pkgReset = true) (ns : Nat) (b : Bool) (lvl : BitVec 3) (target : BitVec 7) :
    exec (.resetPin ns b) s = .next s ∧ exec (.twinRstIn ns b) s = .next s ∧ exec (.rstSw lvl target) s = .next s :=
  ⟨congrArg Host.Outcome.next (if_pos h), congrArg Host.Outcome.next (if_pos h), congrArg Host.Outcome.next (if_pos h)⟩

/-! ### The keeper and its watchdog -/

theorem exec_rstTwinOrder_of_gone {s : State} (hk : s.dev.keeperRun = true)
    (h : s.pair.last.map (·.state) = some .stoodDown ∨ (linkPathLost s = true ∧ wireLost s = true)) :
    exec .rstTwinOrder s = .next (emit s .twinRst) :=
  congrArg Host.Outcome.next (if_pos (by simpa only [hk, Bool.true_and, Bool.or_eq_true, Bool.and_eq_true, beq_iff_eq] using h))

theorem exec_rstTwinOrder_of_there {s : State} (h : s.pair.last.map (·.state) ≠ some .stoodDown)
    (hl : linkPathLost s = false ∨ wireLost s = false) : exec .rstTwinOrder s = .next s := by
  refine congrArg Host.Outcome.next (if_neg ?_)
  simp only [Bool.or_eq_true, Bool.and_eq_true, beq_iff_eq]
  rintro ⟨-, hdown | ⟨hlink, hwire⟩⟩
  · exact h hdown
  · simp [hlink, hwire] at hl

theorem exec_keeper_of_stopped {s : State} (h : s.dev.keeperRun = false) :
    exec .keeperWatchdogRestart s = .next s ∧ exec .rstTwinOrder s = .next s :=
  ⟨congrArg Host.Outcome.next (if_pos (by simp [h])), congrArg Host.Outcome.next (if_neg (by simp [h]))⟩

theorem exec_keeperWatchdogRestart_of_running {s : State} (h : s.dev.keeperRun = true) : exec .keeperWatchdogRestart s =
    .next { raiseEv (txnKeeperRestart s) 65 with
      dev := { (raiseEv (txnKeeperRestart s) 65).dev with keeperRun := false, wdRestarted := true } } :=
  congrArg Host.Outcome.next (if_neg (by simp [h]))

/-! ### PORT_PERST_N -/

/-- Other values of the pins of the host ports. -/
def withPerst (s : State) (l : List (Fin 128)) : State := { s with dev := { s.dev with perst := l } }

theorem withPerst_frame (s : State) (l : List (Fin 128)) : Frame [.dev] s (withPerst s l) := frame_dev s _

/-- The asserted pins once `p` is asserted. -/
def perstWith (s : State) (p : Fin 128) : List (Fin 128) :=
  if s.dev.perst.contains p then s.dev.perst else s.dev.perst ++ [p]

theorem mem_perstWith (s : State) (p : Fin 128) : p ∈ perstWith s p := by
  unfold perstWith
  split
  next h => exact List.contains_iff_mem.1 h
  next => simp

theorem perstWith_of_new {s : State} {p : Fin 128} (h : p ∉ s.dev.perst) : perstWith s p = s.dev.perst ++ [p] :=
  if_neg (by simpa using h)

theorem exec_portPerst_of_no_host {s : State} {p : Fin 128} (h : portRole s p ≠ 1 ∨ s.dev.fabReset = true) :
    exec (.portPerstAssert p) s = .next (withPerst s (perstWith s p)) ∧
      exec (.portPerstDeassert p) s = .next (withPerst s (s.dev.perst.erase p)) := by
  constructor
  · refine congrArg Host.Outcome.next (if_pos ?_)
    rcases h with h | h
    · simp [h]
    · simp [h]
  · refine congrArg Host.Outcome.next (if_pos ?_)
    rcases h with h | h
    · simp [h]
    · simp [h]

/-- The resets of the port's cells by its pin (R520). -/
def perstMine (s : State) (cs : List Nat) (r : RUnit) : Bool :=
  cs.any (fun c => decide (r = widen (.cell (Fin.ofNat 128 c)) (min 1 (effLevel s 22))))

/-- A cell of the list that no reset holds any more. -/
def someFree (u : State) (cs : List Nat) : Bool :=
  cs.any (fun c => ! u.dev.held.contains (.cell (Fin.ofNat 128 c)) && ! absorbed u (.cell (Fin.ofNat 128 c)))

/-- The pin of port `p` is released, and it holds none of the port's cells. -/
def perstReleased (s : State) (p : Fin 128) : State :=
  letGo (withPerst s (s.dev.perst.erase p)) (perstMine s (perstCells (withPerst s (s.dev.perst.erase p)) p))

section
variable {s : State} (hf : s.dev.fabReset = false) {p : Fin 128} (hr : portRole s p = 1)
include hf hr

theorem exec_portPerstAssert_of_host (h : p ∉ s.dev.perst) : exec (.portPerstAssert p) s =
    .next ((perstCells (withPerst s (s.dev.perst ++ [p])) p).foldl
      (fun (u : State) (c : Nat) => raiseUnit u 22 (.cell (Fin.ofNat 128 c)) p) (withPerst s (s.dev.perst ++ [p]))) := by
  rw [← perstWith_of_new h]
  exact congrArg Host.Outcome.next (if_neg (by simp [hf, hr, h]))

theorem exec_portPerstDeassert_of_host (h : p ∈ s.dev.perst) : exec (.portPerstDeassert p) s =
    .next (if someFree (perstReleased s p) (perstCells (withPerst s (s.dev.perst.erase p)) p) = true then
        settleUnits (heldFences ((perstCells (withPerst s (s.dev.perst.erase p)) p).foldl unfenceCell (perstReleased s p)))
      else perstReleased s p) :=
  congrArg Host.Outcome.next (if_neg (by simp [hf, hr, h]))

end

/-! ### Supplies, the sensors and the slices -/

/-- The sensor's reading below 115 °C (R575). -/
def measuredTemp (s : State) (n : Fin 16) (deg : BitVec 8) : State := wr (wr s R.RST_TEMP 7 0 deg.toNat) R.RST_TEMP 11 8 n

theorem measuredTemp_degrees (s : State) (n : Fin 16) (deg : BitVec 8) :
    fld (getReg (measuredTemp s n deg) R.RST_TEMP) 7 0 = deg.toNat := by
  rw [measuredTemp, getReg_wr_same, fld_putFld_other _ _ _ _ _ _ (by decide) (by decide) (by decide), getReg_wr_same,
    fld_putFld _ _ _ _ (by decide) (by decide)]
  exact Nat.mod_eq_of_lt deg.isLt

theorem measuredTemp_region (s : State) (n : Fin 16) (deg : BitVec 8) :
    fld (getReg (measuredTemp s n deg) R.RST_TEMP) 11 8 = n := by
  rw [measuredTemp, getReg_wr_same, fld_putFld _ _ _ _ (by decide) (by decide)]
  exact Nat.mod_eq_of_lt n.isLt

theorem measuredTemp_regsBut (s : State) (n : Fin 16) (deg : BitVec 8) : RegsBut [R.RST_TEMP] s (measuredTemp s n deg) :=
  regsBut_wr (regsBut_wr (regsBut_refl _ s) (by simp) _ _ _) (by simp) _ _ _

theorem measuredTemp_frame (s : State) (n : Fin 16) (deg : BitVec 8) : Frame [.regs, .settings] s (measuredTemp s n deg) :=
  (wr_st (wr_st (.refl (keep [.regs, .settings]) s) rfl rfl) rfl rfl).frame

/-- A reset of slice `x` or of one of its banks. -/
def ofSlice (x : Fin 32) (u : RUnit) : Bool :=
  match u with
  | .slice y => y == x
  | .bank b => b.val / 4 == x.val
  | _ => false

theorem ofSlice_eq_false {x : Fin 32} {u : RUnit} (h : u ≠ .slice x ∧ ∀ b : Fin 128, u = .bank b → b.val / 4 ≠ x.val) :
    ofSlice x u = false := by
  obtain ⟨hslice, hbank⟩ := h
  cases u with
  | slice y => simpa [ofSlice] using hslice
  | bank b => simpa [ofSlice] using hbank b rfl
  | _ => rfl

/-- The self-test of slice `x` has ended: neither the slice nor a bank of it is held any more (R123). -/
def testedSlice (s : State) (x : Fin 32) : State :=
  withDir { s with dev := { s.dev with held := s.dev.held.filter (fun u => ! ofSlice x u) } }
    { s.dir with testing := s.dir.testing.filter (fun b => b / 4 != x.val), decayZero := sPut s.dir.decayZero x 0 (now s) }

section
variable {s : State} (hf : s.dev.fabReset = false)
include hf

theorem exec_thermal_of_hot {n : Fin 16} {deg : BitVec 8} (h : 115 ≤ deg.toNat) :
    exec (.thermal n deg) s = .next (fabricOff (raiseSource s 21 0)) :=
  congrArg Host.Outcome.next ((onFabric_of_running hf _).trans (if_pos h))

theorem exec_thermal_of_cool {n : Fin 16} {deg : BitVec 8} (h : deg.toNat < 115) :
    exec (.thermal n deg) s = .next (measuredTemp s n deg) :=
  congrArg Host.Outcome.next ((onFabric_of_running hf _).trans (if_neg (Nat.not_le.2 h)))

theorem exec_sliceReset (x : Fin 32) : exec (.sliceReset x) s = .next (sliceSource s x) :=
  congrArg Host.Outcome.next (onFabric_of_running hf _)

theorem exec_bankReset (x : Fin 32) (b : BitVec 4) : exec (.bankReset x b) s = .next (banksSource s x b) :=
  congrArg Host.Outcome.next (onFabric_of_running hf _)

theorem exec_sliceResetDone_of_not_held {x : Fin 32}
    (h : ∀ u ∈ s.dev.held, u ≠ .slice x ∧ ∀ b : Fin 128, u = .bank b → b.val / 4 ≠ x.val) (ok : Bool) :
    exec (.sliceResetDone x ok) s = .next s := by
  have hnone : s.dev.held.any (ofSlice x) = false :=
    List.any_eq_false.2 (fun u hu => by simp [ofSlice_eq_false (h u hu)])
  exact congrArg Host.Outcome.next ((onFabric_of_running hf _).trans (if_pos (by
    show (! s.dev.held.any (ofSlice x)) = true
    rw [hnone]; rfl)))

theorem exec_sliceResetDone_of_pass {x : Fin 32} (hx : RUnit.slice x ∈ s.dev.held) (hr : sGet s.pair.repair x 0 ≠ 4) :
    exec (.sliceResetDone x true) s =
      .next (settleUnits (wrBit (withPair (testedSlice s x) (testedSlice s x).pair) (R.DIR_STATUS x) 17 false)) := by
  have hsome : s.dev.held.any (ofSlice x) = true := List.any_eq_true.2 ⟨_, hx, by simp [ofSlice]⟩
  have hslice : s.dev.held.contains (.slice x) = true := List.contains_iff_mem.2 hx
  have hrep : (sGet s.pair.repair x.val 0 == 4) = false := by simpa using hr
  show execSliceResetDone x true s = _
  rw [execSliceResetDone, onFabric_of_running hf]
  dsimp only
  rw [hslice]
  refine congrArg Host.Outcome.next ((if_neg (by
    show ¬ (! s.dev.held.any (ofSlice x)) = true
    rw [hsome]; decide)).trans ?_)
  simp only [withDir_pair, hrep, Bool.false_eq_true, if_false, if_true]
  rfl

end

/-- Settles O59: each source by its cases, and the pins, the sensor and the slice through the states that they lead to. -/
theorem resetSources : Obligations.ResetSources := by
  intro ns h lvl target n deg p x s
  refine ⟨fun src => ⟨factoryDefault_le_effLevel s src, fun hl => raiseSource_of_package hl 0, fun hl => raiseSource_of_chip hl 0⟩,
    fun hp => exec_pins_of_held hp ns h lvl target, fun hp => ⟨?pulse, ?glitch, exec_rstSw_of_no_unit hp, ?software⟩,
    exec_keeper_of_stopped, fun hk hd => exec_rstTwinOrder_of_gone hk (.inl hd),
    fun hk hl hw => exec_rstTwinOrder_of_gone hk (.inr ⟨hl, hw⟩), exec_rstTwinOrder_of_there, ?watchdog,
    fun hw => congrArg Host.Outcome.next (if_pos hw), fun hw => congrArg Host.Outcome.next (if_neg (by simp [hw])),
    fun _ => rfl, rfl, rfl, fun hon hp => congrArg Host.Outcome.next (if_pos (by simp [hon, hp])), ?supplied, ?noHost, ?asserted,
    ?released, fun hf => ⟨exec_thermal_of_hot hf, ?cool, exec_sliceReset hf x, exec_bankReset hf x, exec_bankReset hf x 0,
      exec_sliceResetDone_of_not_held hf, ?passed⟩⟩
  case pulse => exact fun hl => exec_pins_of_pulse hp ((filterPasses_iff ns h).2 hl)
  case glitch =>
    intro hg
    obtain ⟨hpin, htwin⟩ := exec_pins_of_glitch hp (filterPasses_of_glitch hg)
    exact ⟨⟨_, hpin, glitch_counted s (Nat.zero_le _)⟩, ⟨_, htwin, glitch_counted s (Nat.le_refl _)⟩⟩
  case software =>
    intro u hu
    have hrun := (exec_rstSw_of_running (lvl := lvl) (target := target) hp).trans (congrArg _ (softReset_of_unit hu))
    refine ⟨fun hl => hrun.trans (congrArg _ (if_pos hl)), fun hl hf hs ht => ?_, fun hl hno => ?_⟩
    · exact hrun.trans (congrArg _ ((if_neg (Nat.not_lt.2 hl)).trans (if_pos (by simp [hf, hs, ht]))))
    · refine hrun.trans (congrArg _ ((if_neg (Nat.not_lt.2 hl)).trans (if_neg ?_)))
      rcases hno with hf | hs | ht
      · simp [hf]
      · simp [hs]
      · simp [ht]
  case watchdog =>
    rintro t hk rfl
    exact exec_keeperWatchdogRestart_of_running hk
  case supplied =>
    intro hno
    refine congrArg Host.Outcome.next (if_neg ?_)
    rcases hno with hoff | hp
    · simp [hoff]
    · simp [hp]
  case noHost =>
    intro hno
    obtain ⟨hassert, hrelease⟩ := exec_portPerst_of_no_host hno
    exact ⟨⟨_, hassert, mem_perstWith s p, rfl, withPerst_frame ..⟩, ⟨_, hrelease, rfl, withPerst_frame ..⟩⟩
  case asserted =>
    rintro t hf hr hn rfl
    exact exec_portPerstAssert_of_host hf hr hn
  case released =>
    rintro t cs u hf hr hm rfl rfl rfl
    have hrun := exec_portPerstDeassert_of_host hf hr hm
    exact ⟨fun hfree => hrun.trans (congrArg _ (if_pos hfree)),
      fun hheld => hrun.trans (congrArg _ (if_neg (ne_true_of_eq_false hheld)))⟩
  case cool =>
    exact fun hd => ⟨_, exec_thermal_of_cool hf hd, measuredTemp_degrees s n deg, measuredTemp_region s n deg,
      measuredTemp_regsBut s n deg, measuredTemp_frame s n deg⟩
  case passed =>
    rintro hx hr t rfl
    exact exec_sliceResetDone_of_pass hf hx hr

end Sys2Proof.Proofs
end

section
/-! SUPPORT. The steps of start-up, supply trouble and the one-time-programmable levels, of 17_reset_and_bringup. -/

namespace Sys2Proof.Proofs

open Sys2Proof.Machine Sys2Proof.Laws

/-! ### The release of resets -/

theorem exec_powerOnRelease_of_held {s : State} (h : s.dev.pkgReset = true) (pid spi : Bool) :
    exec (.powerOnRelease pid spi) s = .next (recordCause (packageRelease (loadStored s) pid spi) 0 4 0) :=
  congrArg Host.Outcome.next (if_pos h)

theorem exec_powerOnRelease_of_running {s : State} (h : s.dev.pkgReset = false) (pid spi : Bool) :
    exec (.powerOnRelease pid spi) s = .next s :=
  congrArg Host.Outcome.next (if_neg (by simp [h]))

theorem packageRelease_dev (s : State) (pid spi : Bool) : (packageRelease s pid spi).dev =
    { s.dev with pkgReset := false, held := [.chip], otpShadow := s.dev.otp, pid := pid, spiMode := spi } := rfl

theorem packageRelease_step (s : State) (pid spi : Bool) : fld (getReg (packageRelease s pid spi) R.RST_BRINGUP) 3 0 = 1 := by
  unfold packageRelease setStep
  rw [getReg_wr_same]
  exact fld_putFld _ _ _ _ (by decide) (by decide)

theorem packageRelease_clock (s : State) (pid spi : Bool) :
    fld (getReg (packageRelease s pid spi) R.RST_CLK_STATUS) 3 0 = if s.dev.clkBad then 0 else 5 := by
  unfold packageRelease setStep
  rw [getReg_wr_other _ (by decide), getReg_wr_same, fld_putFld _ _ _ _ (by decide) (by decide)]
  cases s.dev.clkBad
  · rfl
  · rfl

theorem packageRelease_regsBut (s : State) (pid spi : Bool) :
    RegsBut [R.RST_BRINGUP, R.RST_CLK_STATUS] s (packageRelease s pid spi) := by
  intro o ho
  simp only [List.mem_cons, List.not_mem_nil, or_false, not_or] at ho
  unfold packageRelease setStep
  rw [getReg_wr_other _ ho.1, getReg_wr_other _ ho.2]
  rfl

theorem packageRelease_frame (s : State) (pid spi : Bool) : Frame [.regs, .settings, .dev] s (packageRelease s pid spi) :=
  (wr_st (wr_st (devOnly_st (q := keep [.regs, .settings, .dev]) (.refl _ s) rfl) rfl rfl) rfl rfl).frame

theorem exec_resetRelease_of_package {s : State} (h : s.dev.pkgReset = true) :
    exec .resetRelease s = .next (packageRelease s s.dev.pid s.dev.spiMode) :=
  congrArg Host.Outcome.next (if_pos h)

theorem chipRelease_step (s : State) : fld (getReg (chipRelease s) R.RST_BRINGUP) 3 0 = 3 := by
  unfold chipRelease setStep
  rw [getReg_wr_same]
  exact fld_putFld _ _ _ _ (by decide) (by decide)

theorem chipRelease_regsBut (s : State) :
    RegsBut [R.RST_BRINGUP, R.RST_CLK_STATUS, R.RST_TIME, R.RST_TIME + 4] s (chipRelease s) := by
  intro o ho
  simp only [List.mem_cons, List.not_mem_nil, or_false, not_or] at ho
  obtain ⟨hstep, hclock, htime, hhigh⟩ := ho
  unfold chipRelease setStep wr64
  dsimp only
  rw [getReg_wr_other _ hstep, getReg_setReg_other _ hhigh, getReg_setReg_other _ htime, getReg_wr_other _ hclock]
  rfl

theorem chipRelease_frame (s : State) : Frame [.regs, .settings, .dev] s (chipRelease s) :=
  (chipRelease_st (q0 := keep [.regs, .settings, .dev]) (.refl _ s) rfl rfl rfl).frame

section
variable {s : State} (hp : s.dev.pkgReset = false)
include hp

theorem exec_resetRelease_of_fabric (hf : s.dev.fabReset = true) : exec .resetRelease s =
    .next (if s.dev.stopDue then stopKeeper s else if mayRelease s then chipRelease s else s) :=
  congrArg Host.Outcome.next ((if_neg (by simp [hp])).trans (if_pos hf))

theorem exec_resetRelease_of_units (hf : s.dev.fabReset = false) :
    exec .resetRelease s = .next (heldFences (letGo s (mayLetGo s))) :=
  congrArg Host.Outcome.next ((if_neg (by simp [hp])).trans (if_neg (by simp [hf])))

end

/-! ### Keeper boot -/

theorem exec_keeperBoot_of_held {s : State} (h : s.dev.pkgReset = true ∨ s.dev.spiMode = true) :
    exec .keeperBoot s = .next s :=
  congrArg Host.Outcome.next (if_pos (by simpa using h))

/-- No slot can be booted: the keeper shows which images are valid and stops (R444). -/
def noSlotToBoot (s : State) : State :=
  setReg { s with dev := { s.dev with stuck := true } } R.STX_IMG_STATUS (BitVec.ofNat 32
    ((imageValid s (slotBase false)).toNat * 2 ^ 29 + (imageValid s (slotBase true)).toNat * 2 ^ 28))

/-- The keeper runs from slot `k` and powers the fabric die (R442, R531). -/
def keeperBooted (s : State) (k : Bool) : State :=
  enableFabric (setStep { imageStatus s k with dev := { (imageStatus s k).dev with keeperRun := true, wdRestarted := false } } 2)

section
variable {s : State} (hp : s.dev.pkgReset = false) (hm : s.dev.spiMode = false)
include hp hm

theorem exec_keeperBoot_of_fabric (hf : s.dev.fabReset = false) :
    exec .keeperBoot s = .next (if s.dev.keeperRun then s else keeperUp s) :=
  congrArg Host.Outcome.next ((if_neg (by simp [hp, hm])).trans (if_pos (by simp [hf])))

theorem exec_keeperBoot_of_step (hf : s.dev.fabReset = true) (hstuck : s.dev.stuck = false) (hstop : s.dev.stopDue = false)
    (hstep : rd s R.RST_BRINGUP 3 0 = 1) :
    exec .keeperBoot s = .next (match chooseSlot s with | none => noSlotToBoot s | some k => keeperBooted s k) :=
  congrArg Host.Outcome.next ((if_neg (by simp [hp, hm])).trans ((if_neg (by simp [hf])).trans
    (if_neg (by simp [hstuck, hstop, hstep]))))

end

/-! ### Fabric power -/

/-- The fabric supply is good (R531). -/
def powerGood (s : State) : State := wrBit s R.RST_SUP_STATUS 29 true

theorem exec_fabricPowerGood_of_on {s : State} (h : rdBit s R.RST_SUP_STATUS 28 = true) :
    exec .fabricPowerGood s = .next (powerGood s) :=
  congrArg Host.Outcome.next (if_pos h)

theorem powerGood_shown (s : State) : bitAt (getReg (powerGood s) R.RST_SUP_STATUS) 29 = true := by
  rw [powerGood, getReg_wrBit_same, bitAt_putFld_same _ _ _ (by decide)]

theorem powerGood_regsBut (s : State) : RegsBut [R.RST_SUP_STATUS] s (powerGood s) :=
  regsBut_wrBit (regsBut_refl _ s) (by simp) _ _

theorem powerGood_frame (s : State) : Frame [.regs, .settings] s (powerGood s) :=
  (wrBit_st (.refl (keep [.regs, .settings]) s) rfl rfl).frame

/-! ### Self-test, structure load and fabric ready -/

/-- Channel `i` of a slot group is powered where it auto-powers and a board is in it (R534). -/
def groupSlotPower (u : State) (i : Nat) : State :=
  match slotPort u i with
  | some q =>
    if bitAt (liveWord u (R.SLOT_MAP i)) 8 = true ∧ slotInserted u i = true then slotPowerUp (wrBit u (slotCtrl q) 10 false) i
    else u
  | none => u

theorem groupSlotPower_eq (u : State) (i : Nat) : groupSlotPower u i = (match slotPort u i with
    | some p => if bitAt (liveWord u (R.SLOT_MAP i)) 8 && slotInserted u i then slotPowerUp (wrBit u (slotCtrl p) 10 false) i else u
    | none => u) := by
  unfold groupSlotPower
  cases slotPort u i
  · rfl
  · simp only [Bool.and_eq_true]

/-- The bank and the epoch are the booted image's (R433, R445). -/
def bankLoaded (s : State) : State :=
  setReg { s with banks := ⟨loadedBank s (slotBase (bootedSlot s)), [], []⟩ } R.STX_EPOCH
    (BitVec.ofNat 32 (imageEpoch s (slotBase (bootedSlot s))))

/-- The slot that was booted has failed (R443). -/
def slotFailed (s : State) : State :=
  { s with dev := { s.dev with failedA := s.dev.failedA || ! bootedSlot s, failedB := s.dev.failedB || bootedSlot s } }

section
variable {s : State} (hf : s.dev.fabReset = false)
include hf

theorem exec_regionSelfTestDone_of_other {failed : BitVec 16} (h : rd s R.RST_BRINGUP 3 0 ≠ 3) (b : Bool) :
    exec (.regionSelfTestDone failed b) s = .next s :=
  congrArg Host.Outcome.next ((onFabric_of_running hf _).trans (if_pos (by simp [h])))

theorem exec_regionSelfTestDone_of_step {failed : BitVec 16} (h : rd s R.RST_BRINGUP 3 0 = 3) (b : Bool) :
    exec (.regionSelfTestDone failed b) s = .next (if b then raiseSource s 18 0 else
      setStep (((List.range 16).filter (fun n => failed.getLsbD n)).foldl (fun (u : State) (n : Nat) => failRegion u n) s) 4) :=
  congrArg Host.Outcome.next ((onFabric_of_running hf _).trans (if_neg (by simp [h])))

theorem exec_structureLoad_of_other (h : rd s R.RST_BRINGUP 3 0 ≠ 4) : exec .structureLoad s = .next s :=
  congrArg Host.Outcome.next ((onFabric_of_running hf _).trans (if_pos (by simp [h])))

theorem exec_structureLoad_of_step (h : rd s R.RST_BRINGUP 3 0 = 4) : exec .structureLoad s =
    .next (if imageLoads s (slotBase (bootedSlot s)) = true then
        settleUnits (afterLoad (adoptLevels (bankLoaded s) (if s.dev.afterPackage then 4 else 3)))
      else raiseSource (slotFailed s) 9 0) :=
  congrArg Host.Outcome.next ((onFabric_of_running hf _).trans (if_neg (by simp [h])))

theorem exec_slotGroupPower (g : Fin 8) : exec (.slotGroupPower g) s =
    .next ((List.range 4).foldl (fun (u : State) (k : Nat) => groupSlotPower u (4 * g.val + k)) s) := by
  simp only [groupSlotPower_eq]
  exact congrArg Host.Outcome.next (onFabric_of_running hf _)

theorem exec_fabricReady_of_state (h : pairState s = 2 ∨ pairState s = 3) (hr : rdBit s R.RST_BRINGUP 31 = false) :
    exec .fabricReady s = .next (raiseEv ((List.range 128).foldl (fun (u : State) (q : Nat) => offerAll u q)
      (wr (setStep (wrBit s R.RST_BRINGUP 31 true) 10) R.RST_BRINGUP 25 24 0)) 0) := by
  refine congrArg Host.Outcome.next ((onFabric_of_running hf _).trans (if_pos ?_))
  rw [hr]
  simpa using h

theorem exec_fabricReady_of_other (h2 : pairState s ≠ 2) (h3 : pairState s ≠ 3) : exec .fabricReady s = .next s :=
  congrArg Host.Outcome.next ((onFabric_of_running hf _).trans (if_neg (by simp [h2, h3])))

theorem exec_devicePortTrainTimeout_of_down {p : Fin 128} (hr : portRole s p = 2) (hl : linkActive s p = false) :
    exec (.devicePortTrainTimeout p) s = .next (raiseEv s (linkEv (p / 4))) :=
  congrArg Host.Outcome.next ((onFabric_of_running hf _).trans (if_pos (by simp [hr, hl])))

theorem exec_devicePortTrainTimeout_of_other {p : Fin 128} (h : portRole s p ≠ 2 ∨ linkActive s p = true) :
    exec (.devicePortTrainTimeout p) s = .next s := by
  refine congrArg Host.Outcome.next ((onFabric_of_running hf _).trans (if_neg ?_))
  rcases h with hr | hl
  · simp [hr]
  · simp [hl]

end

/-! ### Supply trouble -/

/-- The measured supply and PFAIL_N are shown (R532). -/
def supplyShown (s : State) (mv : BitVec 16) (b : Bool) : State := wrBit (wr s R.RST_SUP_STATUS 15 0 mv.toNat) R.RST_SUP_STATUS 30 b

/-- Supply trouble begins: it is shown, counted and raised (R532, R537). -/
def troubleBegun (t : State) : State := raiseEv (count (wrBit t R.RST_SUP_STATUS 31 true) R.RST_SUP_CNT 0 .once 64) 64

theorem exec_supplyTroubleStart (s : State) (mv : BitVec 16) (b : Bool) : exec (.supplyTroubleStart mv b) s =
    .next (if supplyTrouble s || ! (decide (mv.toNat < 3050) || b) then supplyShown s mv b
      else troubleBegun (supplyShown s mv b)) := rfl

theorem supplyShown_getReg (s : State) (mv : BitVec 16) (b : Bool) :
    fld (getReg (supplyShown s mv b) R.RST_SUP_STATUS) 15 0 = mv.toNat ∧ bitAt (getReg (supplyShown s mv b) R.RST_SUP_STATUS) 30 = b := by
  rw [supplyShown, getReg_wrBit_same]
  refine ⟨?_, bitAt_putFld_same _ _ _ (by decide)⟩
  rw [fld_putFld_other _ _ _ _ _ _ (by decide) (by decide) (by decide), getReg_wr_same, fld_putFld _ _ _ _ (by decide) (by decide)]
  exact Nat.mod_eq_of_lt mv.isLt

/-- The measurement leaves the trouble bit as it was. -/
theorem supplyShown_trouble (s : State) (mv : BitVec 16) (b : Bool) : supplyTrouble (supplyShown s mv b) = supplyTrouble s := by
  have hbit : bitAt (getReg (wr s R.RST_SUP_STATUS 15 0 mv.toNat) R.RST_SUP_STATUS) 31 = bitAt (getReg s R.RST_SUP_STATUS) 31 := by
    rw [getReg_wr_same, bitAt_putFld_other _ _ _ _ _ (by decide) (by decide) (by decide)]
  unfold bitAt at hbit
  rw [supplyTrouble, supplyShown, rdBit_wrBit_other _ _ (by decide) (by decide), supplyTrouble, rdBit, rdBit, rdWord, rdWord,
    wr_liveWord, bitAt, bitAt, BitVec.getLsbD_or, BitVec.getLsbD_or, hbit]

theorem troubleBegun_getReg (t : State) :
    getReg (troubleBegun t) R.RST_SUP_STATUS = getReg (wrBit t R.RST_SUP_STATUS 31 true) R.RST_SUP_STATUS := by
  have hbg : ¬ Background R.RST_SUP_STATUS := not_background_of_lt (by decide)
  rw [troubleBegun, raiseEv_getReg _ _ hbg, count_getReg _ _ _ _ _ hbg (by decide)]

theorem supplyTrouble_troubleBegun (t : State) : supplyTrouble (troubleBegun t) = true := by
  refine rdBit_of_bitAt ?_
  rw [troubleBegun_getReg, getReg_wrBit_same, bitAt_putFld_same _ _ _ (by decide)]

theorem troubleBegun_shows (t : State) : fld (getReg (troubleBegun t) R.RST_SUP_STATUS) 15 0 = fld (getReg t R.RST_SUP_STATUS) 15 0 ∧
    bitAt (getReg (troubleBegun t) R.RST_SUP_STATUS) 30 = bitAt (getReg t R.RST_SUP_STATUS) 30 := by
  rw [troubleBegun_getReg, getReg_wrBit_same]
  exact ⟨fld_putFld_other _ _ _ _ _ _ (by decide) (by decide) (by decide),
    bitAt_putFld_other _ _ _ _ _ (by decide) (by decide) (by decide)⟩

theorem supplyShown_steady (s : State) (mv : BitVec 16) (b : Bool) :
    Steady (keep (.settings :: eventParts)) s (supplyShown s mv b) :=
  wrBit_st (wr_st (.refl _ s) rfl rfl) rfl rfl

theorem troubleBegun_steady {s t : State} (h : Steady (keep (.settings :: eventParts)) s t) :
    Steady (keep (.settings :: eventParts)) s (troubleBegun t) :=
  raiseEv_st (count_st (wrBit_st h rfl rfl) rfl rfl rfl rfl rfl rfl rfl rfl) rfl rfl rfl rfl rfl rfl rfl

theorem supplyTroubleStart_gives (s : State) (mv : BitVec 16) (b : Bool) : Gives (.supplyTroubleStart mv b) s (fun t =>
    fld (getReg t R.RST_SUP_STATUS) 15 0 = mv.toNat ∧ bitAt (getReg t R.RST_SUP_STATUS) 30 = b ∧
      (mv.toNat < 3050 ∨ b = true → supplyTrouble t = true) ∧ Frame (.settings :: eventParts) s t) := by
  obtain ⟨hmv, hb⟩ := supplyShown_getReg s mv b
  obtain ⟨hmv', hb'⟩ := troubleBegun_shows (supplyShown s mv b)
  refine ⟨_, exec_supplyTroubleStart s mv b, ?_⟩
  split
  next hc =>
    refine ⟨hmv, hb, fun htrouble => ?_, (supplyShown_steady s mv b).frame⟩
    rw [supplyShown_trouble]
    by_contra hno
    rw [Bool.not_eq_true] at hno
    have hcalm : ¬ (mv.toNat < 3050 ∨ b = true) := by simpa [hno] using hc
    exact hcalm htrouble
  next =>
    exact ⟨hmv'.trans hmv, hb'.trans hb, fun _ => supplyTrouble_troubleBegun _,
      (troubleBegun_steady (supplyShown_steady s mv b)).frame⟩

theorem exec_supplyTroubleEnd_of_low {s : State} {mv : BitVec 16} (h : supplyTrouble s = false ∨ mv.toNat < 3150) :
    exec (.supplyTroubleEnd mv) s = .next s :=
  congrArg Host.Outcome.next (if_pos (by simpa using h))

/-- Supply trouble is over (R532). -/
def troubleOver (s : State) (mv : BitVec 16) : State := wr (wr s R.RST_SUP_STATUS 31 30 0) R.RST_SUP_STATUS 15 0 mv.toNat

theorem exec_supplyTroubleEnd_of_high {s : State} {mv : BitVec 16} (h : supplyTrouble s = true) (hm : 3150 ≤ mv.toNat)
    (hd : s.dev.causeDeferred = false) : exec (.supplyTroubleEnd mv) s =
      .next (if rdBit (troubleOver s mv) R.EVT_PERSIST_STATUS 30 then journalStart (troubleOver s mv) else troubleOver s mv) := by
  refine congrArg Host.Outcome.next ((if_neg (by simp [h, hm])).trans ?_)
  simp only [hd, Bool.false_eq_true, if_false]
  rfl

/-! ### One-time-programmable levels -/

/-- The entry and the level that the write names are shown (R523). -/
def otpNamed (s : State) (src : BitVec 5) (lvl : BitVec 3) : State :=
  wr (wr s R.RST_OTP_CTRL 12 8 src.toNat) R.RST_OTP_CTRL 2 0 lvl.toNat

theorem exec_rstOtpProgram_of_busy {s : State} {src : BitVec 5} {lvl : BitVec 3}
    (h : s.dev.pkgReset = true ∨ rdBit s R.RST_OTP_CTRL 30 = true) : exec (.rstOtpProgram src lvl) s = .next s := by
  refine congrArg Host.Outcome.next ?_
  split
  next => rfl
  next hp => exact if_pos (h.resolve_left hp)

theorem exec_rstOtpProgram_of_idle {s : State} {src : BitVec 5} {lvl : BitVec 3} (hp : s.dev.pkgReset = false)
    (h : rdBit s R.RST_OTP_CTRL 30 = false) : exec (.rstOtpProgram src lvl) s =
      .next (if 24 ≤ src.toNat ∨ 4 < lvl.toNat ∨ lvl.toNat ≤ factoryDefault src.toNat then
          wr (otpNamed s src lvl) R.RST_OTP_CTRL 23 16 2
        else if (sFind s.dev.otp src.toNat).isSome then wr (otpNamed s src lvl) R.RST_OTP_CTRL 23 16 1
        else if supplyTrouble s then nvDeferred (wr (otpNamed s src lvl) R.RST_OTP_CTRL 23 16 3)
        else wrBit (otpNamed s src lvl) R.RST_OTP_CTRL 30 true) :=
  congrArg Host.Outcome.next ((if_neg (by simp [hp])).trans (if_neg (by simp [h])))

/-- A program of a fuse entry has ended with its code. -/
def otpEnded (s : State) (code : Nat) : State := wr (wrBit s R.RST_OTP_CTRL 30 false) R.RST_OTP_CTRL 23 16 code

/-- The fuse entry holds its level. -/
def otpBurnt (s : State) : State :=
  { otpEnded s 0 with dev := { (otpEnded s 0).dev with
      otp := sPut (otpEnded s 0).dev.otp (rd s R.RST_OTP_CTRL 12 8) 7 (BitVec.ofNat 3 (rd s R.RST_OTP_CTRL 2 0)) } }

theorem otpEnded_shown (s : State) {code : Nat} (h : code < 256) :
    bitAt (getReg (otpEnded s code) R.RST_OTP_CTRL) 30 = false ∧ fld (getReg (otpEnded s code) R.RST_OTP_CTRL) 23 16 = code := by
  rw [otpEnded, getReg_wr_same]
  refine ⟨?_, (fld_putFld _ _ _ _ (by decide) (by decide)).trans (Nat.mod_eq_of_lt h)⟩
  rw [bitAt_putFld_other _ _ _ _ _ (by decide) (by decide) (by decide), getReg_wrBit_same, bitAt_putFld_same _ _ _ (by decide)]

theorem otpEnded_regsBut (s : State) (code : Nat) : RegsBut [R.RST_OTP_CTRL] s (otpEnded s code) :=
  regsBut_wr (regsBut_wrBit (regsBut_refl _ s) (by simp) _ _) (by simp) _ _ _

theorem otpEnded_steady {q : Part → Bool} (s : State) (code : Nat) (c : q .regs = false) (d : q .settings = false) :
    Steady q s (otpEnded s code) :=
  wr_st (wrBit_st (.refl _ s) c d) c d

theorem exec_rstOtpDone_of_idle {s : State} (h : rdBit s R.RST_OTP_CTRL 30 = false) (ok : Bool) :
    exec (.rstOtpDone ok) s = .next s :=
  congrArg Host.Outcome.next (if_pos (by simp [h]))

theorem exec_rstOtpDone_of_busy {s : State} (h : rdBit s R.RST_OTP_CTRL 30 = true) :
    exec (.rstOtpDone true) s = .next (otpBurnt s) ∧ exec (.rstOtpDone false) s = .next (otpEnded s 4) :=
  ⟨congrArg Host.Outcome.next (if_neg (by simp [h])), congrArg Host.Outcome.next (if_neg (by simp [h]))⟩

theorem rstOtpDone_gives {s : State} (h : rdBit s R.RST_OTP_CTRL 30 = true) :
    Gives (.rstOtpDone true) s (fun t => bitAt (getReg t R.RST_OTP_CTRL) 30 = false ∧ fld (getReg t R.RST_OTP_CTRL) 23 16 = 0 ∧
      sGet t.dev.otp (rd s R.RST_OTP_CTRL 12 8) 7 = BitVec.ofNat 3 (rd s R.RST_OTP_CTRL 2 0) ∧
      RegsBut [R.RST_OTP_CTRL] s t ∧ Frame [.regs, .settings, .dev] s t) ∧
    Gives (.rstOtpDone false) s (fun t => bitAt (getReg t R.RST_OTP_CTRL) 30 = false ∧ fld (getReg t R.RST_OTP_CTRL) 23 16 = 4 ∧
      RegsBut [R.RST_OTP_CTRL] s t ∧ Frame [.regs, .settings] s t) := by
  obtain ⟨hburnt, hfailed⟩ := exec_rstOtpDone_of_busy h
  obtain ⟨hidle, hcode⟩ := otpEnded_shown s (code := 0) (by decide)
  obtain ⟨hidle4, hcode4⟩ := otpEnded_shown s (code := 4) (by decide)
  exact ⟨⟨_, hburnt, hidle, hcode, sGet_sPut_same .., otpEnded_regsBut s 0,
      (devOnly_st (otpEnded_steady (q := keep [.regs, .settings, .dev]) s 0 rfl rfl) rfl).frame⟩,
    ⟨_, hfailed, hidle4, hcode4, otpEnded_regsBut s 4, (otpEnded_steady s 4 rfl rfl).frame⟩⟩

/-- Settles O60: each step of start-up by its cases, the supply and the fuses through the words that show them. -/
theorem startUp : Obligations.StartUp := by
  intro pid spi mv src lvl failed p s
  refine ⟨fun hp => exec_powerOnRelease_of_running hp pid spi, fun hp => ⟨exec_powerOnRelease_of_held hp pid spi, ?package⟩,
    fun hp hf hs => ⟨?waits, ?chip⟩, ?stops, fun hp hf => exec_resetRelease_of_units hp hf, exec_keeperBoot_of_held,
    fun hp hm hf => ⟨?runs, ?boots⟩, ?chosen, ?power, fun hoff => congrArg Host.Outcome.next (if_neg (by simp [hoff])),
    fun hf => ⟨exec_regionSelfTestDone_of_other hf, ?tested, exec_structureLoad_of_other hf, ?loaded, exec_slotGroupPower hf,
      ?ready, exec_fabricReady_of_other hf, exec_devicePortTrainTimeout_of_down hf, exec_devicePortTrainTimeout_of_other hf⟩,
    supplyTroubleStart_gives s mv, exec_supplyTroubleEnd_of_low, ?recovered, exec_rstOtpProgram_of_busy, ?program,
    exec_rstOtpDone_of_idle, rstOtpDone_gives⟩
  case package =>
    exact ⟨_, exec_resetRelease_of_package hp, packageRelease_dev s _ _, packageRelease_step s _ _, packageRelease_clock s _ _,
      packageRelease_regsBut s _ _, packageRelease_frame s _ _⟩
  case waits =>
    exact fun hm => (exec_resetRelease_of_fabric hp hf).trans (congrArg _ ((if_neg (by simp [hs])).trans (if_neg (by simp [hm]))))
  case chip =>
    intro hm
    have hrun := (exec_resetRelease_of_fabric hp hf).trans (congrArg _ ((if_neg (by simp [hs])).trans (if_pos hm)))
    obtain ⟨hlow, hhigh⟩ := chipRelease_time s
    exact ⟨_, hrun, chipRelease_dev s, chipRelease_step s, hlow, hhigh, chipRelease_regsBut s, chipRelease_frame s⟩
  case stops => exact fun hp hf hs => (exec_resetRelease_of_fabric hp hf).trans (congrArg _ (if_pos hs))
  case runs => exact fun hk => (exec_keeperBoot_of_fabric hp hm hf).trans (congrArg _ (if_pos hk))
  case boots => exact fun hk => (exec_keeperBoot_of_fabric hp hm hf).trans (congrArg _ (if_neg (by simp [hk])))
  case chosen => exact fun hp hm hf hstuck hstop hstep => exec_keeperBoot_of_step hp hm hf hstuck hstop hstep
  case power =>
    exact fun hon => ⟨_, exec_fabricPowerGood_of_on hon, powerGood_shown s, powerGood_regsBut s, powerGood_frame s⟩
  case tested => exact fun h => ⟨exec_regionSelfTestDone_of_step hf h true, exec_regionSelfTestDone_of_step hf h false⟩
  case loaded =>
    rintro h base rfl u rfl
    exact exec_structureLoad_of_step hf h
  case ready =>
    rintro h hr t rfl
    exact exec_fabricReady_of_state hf h hr
  case recovered =>
    rintro t h hm hd rfl
    exact exec_supplyTroubleEnd_of_high h hm hd
  case program =>
    rintro hp hb t rfl
    have hrun := exec_rstOtpProgram_of_idle (src := src) (lvl := lvl) hp hb
    refine ⟨fun hbad => hrun.trans (congrArg _ (if_pos hbad)), fun hsrc hlvl hdef => ?_⟩
    have hgood : ¬ (24 ≤ src.toNat ∨ 4 < lvl.toNat ∨ lvl.toNat ≤ factoryDefault src.toNat) := by omega
    rw [if_neg hgood] at hrun
    exact ⟨fun hold => hrun.trans (congrArg _ (if_pos hold)),
      fun hnew ht => hrun.trans (congrArg _ ((if_neg (by simp [hnew])).trans (if_pos ht))),
      fun hnew ht => hrun.trans (congrArg _ ((if_neg (by simp [hnew])).trans (if_neg (by simp [ht]))))⟩

end Sys2Proof.Proofs
end
